-- ==== Sys2Proof/Word.lean ====
section
/-! DEFINITION. The widths the model uses by name, and nothing else. -/

namespace Sys2Proof

/-- One byte (spec 00 R7). -/
abbrev Byte := BitVec 8
/-- The data of a stream word (spec 02 R32). -/
abbrev Word := BitVec 32
/-- A set-up register (spec 00 R8). -/
abbrev Reg := BitVec 64
/-- A context or static frame (spec 05 R151). -/
abbrev Frame := BitVec 256
/-- A tile index, the 14-bit Morton interleave of the coordinates (spec 01 R17). -/
abbrev TileIx := Fin 16384

end Sys2Proof
end

