-- ==== Sys2Proof/Machine/Types.lean ====
section
/-! DEFINITION. The plain data types that the commands and the state share: tags and stream words, status codes,
keys, flits, tether packets, train commands, and the sparse maps that hold the machine's many small parts. -/

namespace Sys2Proof

/-- A sparse map: entries in strictly rising key order, none equal to what an unlisted key reads as.
With bytes for values it is a list of `Host.Cell`. -/
abbrev SMap (V : Type) := List (Nat × V)

/-- The tag codes of a stream word (spec 02 R32). -/
inductive Tag where
  | data | eof | tail1 | tail2 | tail3 | wave | poison | pad
  deriving DecidableEq, Repr

/-- A stream word: 32 data bits and a tag; it exists only where valid is 1 (spec 02 R32). -/
structure SWord where
  data : Word
  tag : Tag
  deriving DecidableEq, Repr

/-- The status codes of spec 00 R13. -/
inductive Status where
  | ok | partialEnd | denied | notOwner | domainDown | busyRetry | timeout | badDescriptor | badAddress
  | length | configCrc | configAuth | configRegion | configSelect | linkDown | remoteUnreachable
  | eccUncorrected | aborted
  deriving DecidableEq, Repr

/-- The three tile kinds (spec 01 R18). -/
inductive Kind where
  | a | m | b
  deriving DecidableEq, Repr

/-- The four networks (spec 07 R247), also the classes of a tether packet (spec 10 R359). -/
inductive Net where
  | req | rsp | snp | dat
  deriving DecidableEq, Repr

/-- A requester's key: device ID and master ID (spec 09, opening; spec 01 R29). -/
structure Key where
  dev : BitVec 16
  mst : BitVec 16
  deriving DecidableEq, Repr

/-- How an access to host memory fails (spec 08 R293): Unsupported Request, Completer Abort, completion timeout, poisoned
completion. -/
inductive HostFail where
  | unsupported | abort | timeout | poison
  deriving DecidableEq, Repr

/-- What the host answers to a device read of host memory (spec 08 R293): the bytes, or a failure. -/
inductive HostRead where
  | ok (bytes : List Byte)
  | fail (e : HostFail)
  deriving DecidableEq, Repr

/-- What the host configures in the functions of the endpoint (spec 08 R286): Maximum Payload Size, Maximum Read Request Size, the
functions in D3hot, ASPM L1 substates allowed, AER and ECRC enables, the completion timeout in µs. PRESUMED (assumption log 62). -/
structure PcieCfg where
  mps : Nat := 128
  mrrs : Nat := 512
  d3hot : List Nat := []
  aspm : Bool := false
  aer : Bool := false
  ecrc : Bool := false
  timeoutUs : Nat := 50000
  deriving DecidableEq, Repr

/-- What the training of the PCIe link and the enumeration that follows it settle (spec 08 R286): Flit mode, the configuration of the
functions, and the functions whose Enable No Snoop or Enable Relaxed Ordering bit the host has cleared (R294).
DESIGN CHOICE (assumption log 90). -/
structure LinkTerms where
  flit : Bool
  cfg : PcieCfg := {}
  noSnoopOff : List Nat := []
  relaxedOff : List Nat := []
  deriving DecidableEq, Repr

/-- A 66-bit block of a lane or of a port stream: the two bits of its sync header in the order sent, and its payload (spec 11 R400). -/
structure Block where
  h0 : Bool
  h1 : Bool
  payload : BitVec 64
  deriving DecidableEq, Repr

/-- The stream that a port receives (spec 11 R404, R405): blocks, or with FEC the codewords in which they travel, 136 symbols each. -/
inductive PortStream where
  | blocks (l : List Block)
  | words (l : List (List (BitVec 10)))
  deriving DecidableEq, Repr

/-- A ballast group as it arrives, and the page that it ends (spec 11 R403, R404, R408, R412, R418): FLAGS, the PAGE that each lane of the
group carries, whether the group stands at the page start, and codewords of the page that could not be corrected. -/
structure BallastGroup where
  flags : BitVec 4
  pages : List (BitVec 16) := []
  atStart : Bool := true
  bad : Nat := 0
  deriving DecidableEq, Repr

/-- What arrives on the bonded lanes of an edge group (spec 06 R236; spec 11 R430 to R432): lane words that the lanes have decoded, in lane
order, or what each lane decodes itself: blocks of EF66, characters of 8b/10b. -/
inductive LaneWords where
  | bytes (l : List Byte)
  | blocks (lanes : List (List Block))
  | codes (lanes : List (List (BitVec 10)))
  deriving DecidableEq, Repr

/-- An edge lane that loses its signal, or only its lock (spec 11 R427). -/
structure LaneLoss where
  lane : Fin 112
  signal : Bool
  deriving DecidableEq, Repr

/-- What a lane hears in LOCK: the blocks that arrive on it (spec 11 R401, R412). -/
structure LaneBlocks where
  lane : Fin 112
  blocks : List Block
  deriving DecidableEq, Repr

/-- The counts of an error window (spec 11 R422): symbols corrected (or invalid headers) on each lane of a port's group, and codewords
that could not be corrected. -/
structure WindowCounts where
  syms : List Nat
  bad : Nat
  deriving DecidableEq, Repr

/-- A vector's entry of the MSI-X table as the host writes it in BAR4 (spec 08 R289, R291). -/
structure MsixEntry where
  vector : Fin 2048
  addr : BitVec 64
  data : BitVec 32
  mask : Bool
  deriving DecidableEq, Repr

/-- A flit of any of the four networks (spec 07 R250 to R253); the fields a network does not carry are zero. -/
structure Flit where
  net : Net
  dst : BitVec 11
  src : BitVec 11
  age : BitVec 8 := 0
  op : BitVec 4 := 0
  tag : BitVec 8 := 0
  dev : BitVec 16 := 0
  mst : BitVec 16 := 0
  addr : BitVec 48 := 0
  len : BitVec 6 := 0
  status : BitVec 8 := 0
  conflict : Bool := false
  entry : BitVec 5 := 0
  count : BitVec 7 := 0
  endTag : BitVec 3 := 0
  mirror : BitVec 8 := 0
  line : BitVec 7 := 0
  tile : BitVec 4 := 0
  epoch : BitVec 16 := 0
  data : BitVec 512 := 0
  /-- the endpoints' own record beside the flit's bits: an access table has decided the request that this is or answers, and a seal
  point has been set since (spec 09 R344) -/
  tabled : Bool := false
  sealed : Bool := false
  deriving DecidableEq, Repr

/-- A tether packet: its header fields, payload blocks and trailer (spec 10 R359 to R361). -/
structure Packet where
  dstDev : BitVec 16
  srcDev : BitVec 16
  ctl : Bool
  cls : Net
  vc : Bool
  ctype : BitVec 4
  hops : BitVec 8
  crBuf : BitVec 3
  crCount : BitVec 5
  hcrc : BitVec 8
  payload : List (BitVec 64)
  trailer : BitVec 64
  deriving DecidableEq, Repr

/-- Who issued a train command and where its answer goes (spec 05 R172, R174; spec 10 R377, R378). -/
inductive Issuer where
  /-- the descriptor `id` in progress on ring `r` -/
  | ring (r : Nat) (id : Nat)
  /-- a TCMD firing of the tile with this unit address; posted, no answer -/
  | tcmd (unit : BitVec 30)
  /-- a TRAIN flit from the fabric: the requester's endpoint, tag and device, whether it is posted, and the port of its
  arrival -/
  | fabric (dst : BitVec 11) (tag : BitVec 8) (dev : BitVec 16) (posted : Bool) (port : Nat)
  /-- the copy that the anchor serves itself in expansion `x` -/
  | expansion (x : Nat)
  /-- a device engine of this device -/
  | engine
  deriving DecidableEq, Repr

/-- A train command (spec 05 R170), with its train (spec 01 R21, R22) and the key of its issuer. -/
structure TreeCmd where
  word : BitVec 32
  pl : BitVec 5
  cmd : BitVec 4
  ctx : BitVec 4
  param : BitVec 32
  key : Key
  issuer : Issuer
  phase : BitVec 2 := 0
  deriving DecidableEq, Repr

/-- Where a register access lands (spec 00 R8; spec 02 R76): a write at a BAR0 offset, a read at one, a write of a tile register
whose access has been admitted, or a register request that waits in an endpoint's ingress. -/
inductive RegDst where
  | bar0 (off : Nat)
  | bar0Read (off : Nat)
  | tile (t : TileIx) (off : Nat)
  | ingress (ep : Fin 2048) (n : Fin 32)
  deriving DecidableEq, Repr

/-- A trouble-log report (spec 14 R523, R528): source, UNIT field, code and the packed detail bytes. -/
structure Report where
  source : Nat
  unit : BitVec 32
  code : BitVec 12
  detail : List Byte
  deriving DecidableEq, Repr

/-- One recorder sample (spec 14 R531). -/
inductive Sample where
  /-- the hottest valid reading of each quarter, once a second -/
  | temps
  /-- the last reading of sensor `k` of field `f`, for the extremes of its quarter -/
  | tempExt (f : Fin 64) (k : Fin 4)
  /-- the reading of the monitor of rail `r` in mV -/
  | rail (r : Fin 9) (mv : BitVec 16)
  /-- the package power estimate, once a second -/
  | power
  /-- the wakes of each field in the last minute, and the power-on time, once a minute -/
  | minute
  /-- the STATE of every field, once a second -/
  | states
  deriving DecidableEq, Repr

/-- The straps sampled at the end of cold reset (spec 15 R558). -/
structure Straps where
  bootSel : BitVec 2
  anchor : Bool
  i2cAddr : BitVec 3
  deriving DecidableEq, Repr

/-- What ends the deep sleep (spec 13 R489). -/
inductive Restart where
  | exitL12 | perstN | smbus | los (lane : Fin 112)
  deriving DecidableEq, Repr

end Sys2Proof
end

