-- ==== Sys2Proof/Syntax.lean ====
section
/-! DEFINITION. The commands of the block: one constructor for each row of spec/opcode_table.json, in the table's
order. The docstring of a constructor names its row's rule and repeats the row's summary. Operands name the unit that
the step concerns (a tile, ring, lane, field, ...) and what comes from outside the device (the host's answer to a read,
a neighbour's packet, a sensor's reading, the value that a register write carries). -/

namespace Sys2Proof

/-- The commands (spec 95; spec/opcode_table.json). -/
inductive Instr where
  /-- REGISTER_WRITE (R8): A write to any set-up or tile register that has no behaviour of its own stores the value under its field types. -/
  | registerWrite (dst : RegDst) (size : Nat) (value : Reg) (key : Key)
  /-- MOV (R59): An A-tile firing that passes operand A to the result. -/
  | mov (t : TileIx)
  /-- ADD (R59): An A-tile firing that adds A and B per lane, with optional saturation. -/
  | add (t : TileIx)
  /-- SUB (R59): An A-tile firing that subtracts B from A per lane. -/
  | sub (t : TileIx)
  /-- NEG (R59): An A-tile firing that negates A per lane. -/
  | neg (t : TileIx)
  /-- ABS (R59): An A-tile firing that gives the absolute value of A per lane. -/
  | abs (t : TileIx)
  /-- ABSD (R59): An A-tile firing that gives the exact absolute difference of A and B per lane. -/
  | absd (t : TileIx)
  /-- AVG (R59): An A-tile firing that gives the floor of the mean of A and B per lane. -/
  | avg (t : TileIx)
  /-- MIN (R59): An A-tile firing that gives the smaller of A and B per lane. -/
  | min_ (t : TileIx)
  /-- MAX (R59): An A-tile firing that gives the larger of A and B per lane. -/
  | max_ (t : TileIx)
  /-- CLAMP (R59): An A-tile firing that clamps A between B and C per lane. -/
  | clamp (t : TileIx)
  /-- ADD3 (R59): An A-tile firing that adds A, B and C per lane. -/
  | add3 (t : TileIx)
  /-- AND (R59): An A-tile firing that gives the bitwise AND of A and B. -/
  | and_ (t : TileIx)
  /-- OR (R59): An A-tile firing that gives the bitwise OR of A and B. -/
  | or_ (t : TileIx)
  /-- XOR (R59): An A-tile firing that gives the bitwise XOR of A and B. -/
  | xor (t : TileIx)
  /-- ANDN (R59): An A-tile firing that gives A AND NOT B. -/
  | andn (t : TileIx)
  /-- NOT (R59): An A-tile firing that gives the bitwise complement of A. -/
  | not_ (t : TileIx)
  /-- BSEL (R59): An A-tile firing that selects bits of A or B under mask C. -/
  | bsel (t : TileIx)
  /-- SHL (R59): An A-tile firing that shifts A left per lane. -/
  | shl (t : TileIx)
  /-- SHR (R59): An A-tile firing that shifts A right per lane, arithmetic or logical. -/
  | shr (t : TileIx)
  /-- ROL (R59): An A-tile firing that rotates A left per lane. -/
  | rol (t : TileIx)
  /-- ROR (R59): An A-tile firing that rotates A right per lane. -/
  | ror (t : TileIx)
  /-- FSHR (R59): An A-tile firing that funnel-shifts A:B right by C. -/
  | fshr (t : TileIx)
  /-- CMPEQ (R59): An A-tile firing that gives a lane mask of A equal to B. -/
  | cmpeq (t : TileIx)
  /-- CMPNE (R59): An A-tile firing that gives a lane mask of A not equal to B. -/
  | cmpne (t : TileIx)
  /-- CMPLT (R59): An A-tile firing that gives a lane mask of A less than B. -/
  | cmplt (t : TileIx)
  /-- CMPLE (R59): An A-tile firing that gives a lane mask of A less than or equal to B. -/
  | cmple (t : TileIx)
  /-- TST (R59): An A-tile firing that gives a lane mask of A AND B nonzero. -/
  | tst (t : TileIx)
  /-- SEL (R59): An A-tile firing that selects A or B by P0. -/
  | sel (t : TileIx)
  /-- SEL1 (R59): An A-tile firing that selects A or B by P1. -/
  | sel1 (t : TileIx)
  /-- CLZ (R59): An A-tile firing that counts leading zeros of A per lane. -/
  | clz (t : TileIx)
  /-- CTZ (R59): An A-tile firing that counts trailing zeros of A per lane. -/
  | ctz (t : TileIx)
  /-- POPC (R59): An A-tile firing that counts the 1 bits of A per lane. -/
  | popc (t : TileIx)
  /-- BREV (R59): An A-tile firing that reverses the bit order of A. -/
  | brev (t : TileIx)
  /-- PERM (R61): An A-tile firing that permutes the bytes of C:A under the nibbles of B. -/
  | perm (t : TileIx)
  /-- EXT (R59): An A-tile firing that sign-extends or zero-extends A above a bit. -/
  | ext (t : TileIx)
  /-- CNTR (R63): An A-tile firing that outputs the counter and steps it. -/
  | cntr (t : TileIx)
  /-- CNTLD (R63): An A-tile firing that loads CNT from A. -/
  | cntld (t : TileIx)
  /-- LIMLD (R63): An A-tile firing that loads CNT_LIMIT from A. -/
  | limld (t : TileIx)
  /-- ADDC (R74): A chained add firing of a carry-chain group, or of a lone tile under R580. -/
  | addc (t : TileIx)
  /-- SUBC (R74): A chained subtract firing of a carry-chain group. -/
  | subc (t : TileIx)
  /-- CMPC (R74): A chained compare firing that writes eq and lt at the tail. -/
  | cmpc (t : TileIx)
  /-- DLY (R62): An A-tile firing that shifts a word through the register delay line. -/
  | dly (t : TileIx)
  /-- RDX (R579): An A-tile firing that reads the local register that A indexes. -/
  | rdx (t : TileIx)
  /-- WRX (R579): An A-tile firing that writes B into the local register that A indexes. -/
  | wrx (t : TileIx)
  /-- DROP_PAD (R54): A PAD word at operand A under DROP_PAD is consumed alone with no other effect. -/
  | dropPad (t : TileIx)
  /-- FORK (R64): A firing that copies A to OUT0 and OUT1. -/
  | forkOp (t : TileIx)
  /-- ZIP (R65): A firing that outputs words from A and B in strict alternation. -/
  | zip (t : TileIx)
  /-- UNZIP (R65): A firing that sends words alternately to OUT0 and OUT1. -/
  | unzip (t : TileIx)
  /-- JOIN (R65): A firing that passes whole records from A and then from B in turn. -/
  | join (t : TileIx)
  /-- MERGE (R65): A firing that passes whichever operand is valid, alternating on ties. -/
  | merge (t : TileIx)
  /-- FILTP (R66): A firing that passes A when P0 is 1 and consumes it otherwise. -/
  | filtp (t : TileIx)
  /-- FILTB (R66): A firing that passes A when B is nonzero. -/
  | filtb (t : TileIx)
  /-- SPLIT (R66): A firing that routes A to OUT0 or OUT1 by B. -/
  | split (t : TileIx)
  /-- TAGINS (R64): A firing that passes A, steps the counter and inserts TCONST on a wrap. -/
  | tagins (t : TileIx)
  /-- TAGSTRIP (R64): A firing that replaces end tags with DATA and drops PAD words. -/
  | tagstrip (t : TileIx)
  /-- DROPPAD (R64): A firing that drops PAD words and passes all others. -/
  | droppad (t : TileIx)
  /-- DISCARD (R64): A firing that consumes A with no output. -/
  | discard (t : TileIx)
  /-- TCMD (R173): A firing that places a posted train command in the tile's tree port. -/
  | tcmd (t : TileIx)
  /-- MAC32 (R89): An M-tile firing that accumulates one 32 x 32 product. -/
  | mac32 (t : TileIx)
  /-- CMAC16 (R90): An M-tile firing that accumulates one complex 16-bit product into ACC0 and ACC1. -/
  | cmac16 (t : TileIx)
  /-- DMAC16 (R90): An M-tile firing that accumulates two 16-bit lanes of products. -/
  | dmac16 (t : TileIx)
  /-- DOT8 (R90): An M-tile firing that accumulates an 8-bit dot product. -/
  | dot8 (t : TileIx)
  /-- MUL32 (R95): An M-tile firing that produces a 32 x 32 product through the dump path. -/
  | mul32 (t : TileIx)
  /-- CMUL16 (R95): An M-tile firing that produces a complex 16-bit product. -/
  | cmul16 (t : TileIx)
  /-- DMUL16 (R95): An M-tile firing that produces two 16-bit lane products. -/
  | dmul16 (t : TileIx)
  /-- MDOT8 (R95): An M-tile firing that produces an 8-bit dot product. -/
  | mdot8 (t : TileIx)
  /-- DUMP (R95): An M-tile firing that shifts, fits and outputs both accumulators, with optional reload. -/
  | dump (t : TileIx)
  /-- DUMPT (R95): A dump that waits on operand A and discards its value. -/
  | dumpt (t : TileIx)
  /-- ACCINIT (R89): An M-tile firing that loads both accumulators from ACC_INIT0 and ACC_INIT1. -/
  | accinit (t : TileIx)
  /-- XY_NETWORK_ACCESS (R101): A network access to X or Y memory takes a port cycle when the tile leaves one free or after PORT_WAIT. -/
  | xyNetworkAccess (ep : Fin 2048) (n : Fin 32)
  /-- ACC_LO_READ (R116): A read of ACCn_LO returns the low bits and copies the high bits into the snapshot. -/
  | accLoRead (t : TileIx) (n : Fin 2)
  /-- ACC_REGISTER_WRITE (R116): A write of ACCn_LO or ACCn_HI loads the accumulator and clears its poison mark. -/
  | accRegisterWrite (t : TileIx) (n : Fin 2) (high : Bool) (value : Reg)
  /-- AG_REGISTER_WRITE (R107): A write of LEN, BASE or PTR takes effect for the next address generated. -/
  | agRegisterWrite (t : TileIx) (set : Fin 4) (g : Fin 3) (value : Reg)
  /-- PIPELINE_LATCH (R112): A firing reaching S4 is latched on the segment sets of its issuing context. -/
  | pipelineLatch (t : TileIx)
  /-- SEGMENT_ACCEPT (R130): A segment accepts a driver's word when its hold is 0 and stores it in the far skid buffer. -/
  | segmentAccept (t : TileIx) (j : Fin 24)
  /-- SEAM_WRITE (R137): A seam buffer with a free entry accepts a word on the sending clock, or holds upstream. -/
  | seamWrite (t : TileIx) (j : Fin 24)
  /-- SEAM_DELIVER (R137): A seam buffer moves its oldest word into the skid buffer on the receiving clock. -/
  | seamDeliver (t : TileIx) (e : Fin 24)
  /-- SINK_DISCARD (R142): A seam buffer entering an isolated field in SINK mode discards and counts a word. -/
  | sinkDiscard (t : TileIx) (j : Fin 24)
  /-- BRIDLE_RELEASE (R144): The bridle cells release and the seam buffers deliver their held words in order. -/
  | bridleRelease (f : Fin 64)
  /-- WAVE_FIRING (R182): A WAVE token at the lead operand is consumed, optionally forwarded, and switches an armed tile. -/
  | waveFiring (t : TileIx)
  /-- WAVE_NON_LEAD_CONSUME (R185): Under WAIT_ALL 0 a WAVE word at a non-lead operand is consumed with no other effect. -/
  | waveNonLeadConsume (t : TileIx) (o : Fin 3)
  /-- ROOT_ADMIT (R172): The command tree root admits a command, checks the access tables and sends it down. -/
  | rootAdmit (src : Nat)
  /-- COMMAND_DELIVERY (R164): A level 7 node delivers a command to a tile. -/
  | commandDelivery (id : Nat) (f : Fin 64)
  /-- QUERY (R170): A tree command that returns the DRAINED, QUIET, ARMED and FAULT reductions. -/
  | query (id : Nat)
  /-- SWITCH_IMM (R176): A tree command that switches every member at delivery. -/
  | switchImm (id : Nat) (f : Fin 64)
  /-- SWITCH_BAR (R177): A tree command that barrier-arms every member with a context. -/
  | switchBar (id : Nat) (f : Fin 64)
  /-- BARRIER_GO (R177): The turning node sends go once DRAINED reads 1 with every member armed, and members switch. -/
  | barrierGo (id : Nat)
  /-- BARRIER_TIMEOUT (R179): The barrier timeout expires before go and the root cancels the command with TIMEOUT. -/
  | barrierTimeout (id : Nat)
  /-- ARM (R180): A tree command that sets each member's command arm. -/
  | armCmd (id : Nat) (f : Fin 64)
  /-- DISARM (R179): A tree command that clears arms and cancels overlapping barriers with ABORTED. -/
  | disarmCmd (id : Nat) (f : Fin 64)
  /-- INJECT (R186): A tree command that makes each member perform a wave firing with a target context. -/
  | injectCmd (id : Nat) (t : TileIx)
  /-- INVALIDATE (R170): A tree command that writes FMT 0 into the named slots. -/
  | invalidate (id : Nat) (f : Fin 64)
  /-- WAKE (R498): A tree command that sets TARGET to ON in every touched field. -/
  | wakeCmd (id : Nat) (f : Fin 64)
  /-- POWER (R498): A tree command that sets TARGET to a state code in every touched field. -/
  | powerCmd (id : Nat) (f : Fin 64)
  /-- FRAME_WRITE (R159): A network write of whole frames to a tile's slots is checked and stored as a whole or not at all. -/
  | frameWrite (ep : Fin 2048) (n : Fin 32)
  /-- FRAME_READ (R159): A network read of a slot returns the stored frame. -/
  | frameRead (ep : Fin 2048) (n : Fin 32)
  /-- BORROW_START (R191): The management block borrows a quiet patch for the background test. -/
  | borrowStart (patch : Fin 1024)
  /-- BORROW_END (R191): A borrow ends after at most 2,048 field cycles and restores the save set. -/
  | borrowEnd (patch : Fin 1024) (wrong : List TileIx)
  /-- BORROW_YIELD (R193): A trigger makes a borrowed patch yield and restore the user state within 64 cycles. -/
  | borrowYield (patch : Fin 1024) (trigger : Fin 6)
  /-- BRD (R207): A B-tile firing that reads a bank word. -/
  | brd (t : TileIx)
  /-- BWR (R207): A B-tile firing that writes B to a bank word. -/
  | bwr (t : TileIx)
  /-- QPUSH (R215): A B-tile firing that pushes A into a queue. -/
  | qpush (t : TileIx)
  /-- QPOP (R207): A B-tile firing that pops the oldest word of a queue. -/
  | qpop (t : TileIx)
  /-- QLVL (R207): A B-tile firing that returns the depth of a queue. -/
  | qlvl (t : TileIx)
  /-- DLYB (R223): A B-tile firing that outputs the word written D firings earlier and writes A. -/
  | dlyb (t : TileIx)
  /-- GWLD (R224): A B-tile firing that issues a 4-byte gateway load to a global address. -/
  | gwld (t : TileIx)
  /-- GWST (R224): A B-tile firing that issues a 4-byte gateway store. -/
  | gwst (t : TileIx)
  /-- GWFENCE (R226): A B-tile firing that passes A once no gateway store is outstanding. -/
  | gwfence (t : TileIx)
  /-- GATEWAY_RESPONSE (R225): A gateway response returns, and a failure sets GW_ERR and reports event 0x750. -/
  | gatewayResponse (t : TileIx) (slot : Fin 32)
  /-- BANK_READ (R198): A network read of bank bytes is checked and served on the bank port. -/
  | bankRead (ep : Fin 2048) (n : Fin 32)
  /-- BANK_WRITE (R198): A network write of bank bytes is checked and performed, by read-modify-write for partial halves. -/
  | bankWrite (ep : Fin 2048) (n : Fin 32) (sameCycle : Bool)
  /-- ECC_WRITEBACK (R196): The corrected half is written back in the next cycle that leaves the port free. -/
  | eccWriteback (t : TileIx) (half : Fin 8192)
  /-- ROW_MOVE (R581): The queue controller moves a whole row between its rows and the bank in a free port cycle. -/
  | rowMove (t : TileIx) (q : Fin 4)
  /-- CREDITED_PUSH (R218): A network push through a credited window is accepted when within CREDITED. -/
  | creditedPush (ep : Fin 2048) (n : Fin 32)
  /-- UNCREDITED_PUSH (R218): A network push through an uncredited window is accepted when room remains outside credit. -/
  | uncreditedPush (ep : Fin 2048) (n : Fin 32)
  /-- QUEUE_POP (R219): A network read of the pop window is served or held until it may be served. -/
  | queuePop (ep : Fin 2048) (n : Fin 32)
  /-- POP_SERVE (R219): A held pop is served once enough words, an end tag or the POP_WAIT count arrive. -/
  | popServe (t : TileIx) (q : Fin 4) (waited : Bool)
  /-- CREDIT_REQUEST (R217): A network read at +0x40 is granted up to 16 words or held. -/
  | creditRequest (ep : Fin 2048) (n : Fin 32)
  /-- CREDIT_GRANT_HELD (R217): A held credit request is granted in arrival order once pops free space. -/
  | creditGrantHeld (t : TileIx) (q : Fin 4)
  /-- FLUSH (R222): A write of QCTL.FLUSH empties the queue, zeroes CREDITED and releases held requests. -/
  | flush (t : TileIx) (q : Fin 4) (value : Reg)
  /-- BANK_OWNER_WRITE (R204): A write of BANK_OWNER takes effect only from the owner, the warden or a device engine. -/
  | bankOwnerWrite (t : TileIx) (key : Key) (value : Reg)
  /-- PACK_LANE_WORD (R236): A group takes a lane word from each bonded lane into the pack assembler. -/
  | packLaneWord (g : Fin 16) (words : LaneWords) (ends : Bool)
  /-- DROPPING_EXIT (R239): The group leaves dropping at a record end with a free read-word, stores a marker and reports event 0x740. -/
  | droppingExit (g : Fin 16)
  /-- PACK_READ_SIDE_POP (R238): The read side pops the next read-word once all four wires have been accepted. -/
  | packReadSidePop (g : Fin 16)
  /-- UNPACK_WORD_ACCEPT (R240): The unpack write side takes a word into an empty wire slot. -/
  | unpackWordAccept (g : Fin 16) (w : Fin 4)
  /-- UNPACK_PUSH (R240): Four full slots are pushed into the unpack core as one read-word. -/
  | unpackPush (g : Fin 16)
  /-- UNPACK_RECORD_START (R241): The unpack FIFO starts a record on the lanes once its end or START_LEVEL is held. -/
  | unpackRecordStart (g : Fin 16)
  /-- UNPACK_UNDERRUN (R241): The core empties mid-record and the record is sent with error termination. -/
  | unpackUnderrun (g : Fin 16)
  /-- GROUP_ENABLE (R242): A write of GRP_CTL.EN 1 moves the group to ON. -/
  | groupEnable (g : Fin 16) (value : Reg)
  /-- GROUP_DISABLE (R242): A write of GRP_CTL.EN 0 moves the group to DRAINING. -/
  | groupDisable (g : Fin 16) (value : Reg)
  /-- GROUP_DRAIN_END (R242): The group's FIFOs empty or DRAIN_LIMIT expires and it enters ISOLATING. -/
  | groupDrainEnd (g : Fin 16) (limit : Bool)
  /-- GROUP_OFF (R242): ISOLATING completes, the edge clock stops and the group is OFF. -/
  | groupOff (g : Fin 16)
  /-- ROUTER_CYCLE (R259): A router places, ejects, routes or deflects every flit it holds in one cycle. -/
  | routerCycle (net : Net) (r : Fin 1024)
  /-- FLIT_INJECTION (R264): An endpoint injects the head flit of its injection queue when the router admits it. -/
  | flitInjection (net : Net) (ep : Fin 2048)
  /-- STARVATION (R264): A head that waits STARVE cycles makes the routers of its field throttle injection. -/
  | starvation (net : Net) (ep : Fin 2048)
  /-- THROTTLE_END (R264): The THROTTLE count expires and the routers admit injection again. -/
  | throttleEnd (net : Net) (f : Fin 64)
  /-- BRIDGE_CROSSING (R261): A bridge delivers its head flit to the receiving router after synchronisation. -/
  | bridgeCrossing (net : Net) (r : Fin 1024) (side : Fin 6)
  /-- REQ_ADMIT (R267): An endpoint places an arriving REQ in its ingress, or NACKs it, and checks it. -/
  | reqAdmit (ep : Fin 2048)
  /-- RESPONSE_EJECT (R266): An RSP or RDATA flit ejects into its reserved landing slot. -/
  | responseEject (ep : Fin 2048) (dat : Bool)
  /-- WDATA_ARRIVAL (R269): DAT WDATA arrives and the write is performed. -/
  | wdataArrival (ep : Fin 2048)
  /-- REQUEST_RETRY (R270): After its backoff a NACKed request is sent again with the same TAG. -/
  | requestRetry (ep : Fin 2048) (tag : Fin 256)
  /-- RETRY_TIMEOUT (R270): After RETRY_MAX NACKs the request completes with TIMEOUT and reports event 0x310. -/
  | retryTimeout (ep : Fin 2048) (tag : Fin 256)
  /-- MIRROR_UPDATE (R274): The source starts an update of a dirty line once no earlier update of it is unacknowledged. -/
  | mirrorUpdate (m : Fin 256) (line : Fin 128)
  /-- MPUSH (R275): A holder's patch port writes a pushed line into Y memory and answers DONE. -/
  | mpush (ep : Fin 2048)
  /-- INVAL (R276): A mirror agent marks a line stale in its holders and answers DONE. -/
  | inval (f : Fin 64)
  /-- MIRROR_REFETCH (R276): A mirror agent reads a stale line from the source and writes it into its holders. -/
  | mirrorRefetch (f : Fin 64) (m : Fin 256) (line : Fin 128)
  /-- REFETCH_RETRY (R276): A failed refetch is retried every 1 us and the line is poisoned after 16 failures. -/
  | refetchRetry (f : Fin 64) (m : Fin 256) (line : Fin 128)
  /-- EPOCH_SEND (R277): A clean mirror increments EPOCH and sends SNP EPOCH to every holder field. -/
  | epochSend (m : Fin 256)
  /-- EPOCH (R277): An agent sets the EPRED predicate in every holder of its field. -/
  | epochSnp (f : Fin 64)
  /-- MIRROR_RECORDED_APPLY (R279): Recorded lines and epochs of a sleeping holder field are applied before it next reaches ON. -/
  | mirrorRecordedApply (f : Fin 64)
  /-- MIRROR_CFG_WRITE (R278): A write of NOC_MIRROR.CFG enables, disables or refuses a mirror. -/
  | mirrorCfgWrite (m : Fin 256) (value : Reg)
  /-- CNT_CLEAR (R283): A write of NOC_CTL.CNT_CLEAR clears every network counter. -/
  | cntClear (value : Reg)
  /-- TUG (R305): A write to a tug page wakes a sleeping ring or brings its next poll forward. -/
  | tug (fn : Fin 65) (page : Fin 4096) (off : Nat) (size : Nat)
  /-- DOORBELL_POLL (R303): The ring engine reads a doorbell record when its poll interval expires. -/
  | doorbellPoll (r : Fin 4096) (res : HostRead)
  /-- RING_SLEEP (R304): An idle ring writes ASLEEP to its shadow and re-reads its doorbell record once. -/
  | ringSleep (r : Fin 4096) (res : HostRead)
  /-- DESCRIPTOR_FETCH (R299): The ring engine reads posted descriptors from the submission ring. -/
  | descriptorFetch (r : Fin 4096) (res : HostRead)
  /-- DESCRIPTOR_START (R324): The scheduler starts a ready ring's next descriptor in its round. -/
  | descriptorStart
  /-- NOP (R309): A NOP descriptor completes with no action. -/
  | nopDesc (r : Fin 4096) (id : Nat)
  /-- STREAM_IN (R312): A descriptor that reads host bytes and pushes them into a queue within its grants. -/
  | streamIn (r : Fin 4096) (id : Nat) (res : HostRead)
  /-- STREAM_OUT (R313): A descriptor that pops a queue into a host buffer until full or a record ends. -/
  | streamOut (r : Fin 4096) (id : Nat)
  /-- MEM_READ (R314): A descriptor that copies device memory into host memory. -/
  | memRead (r : Fin 4096) (id : Nat)
  /-- MEM_WRITE (R314): A descriptor that copies host memory into device memory. -/
  | memWrite (r : Fin 4096) (id : Nat) (res : HostRead)
  /-- LOAD_CONTEXT (R315): A descriptor that writes or invalidates frames of a train through the loader. -/
  | loadContext (r : Fin 4096) (id : Nat) (res : HostRead)
  /-- SWITCH_DESCRIPTOR (R316): A SWITCH descriptor that issues a switch, arm, disarm, inject or query tree command. -/
  | switchDescriptor (r : Fin 4096) (id : Nat)
  /-- POWER_DESCRIPTOR (R316): A POWER descriptor that issues a WAKE or POWER tree command. -/
  | powerDescriptor (r : Fin 4096) (id : Nat)
  /-- MIRROR_SET (R317): A descriptor that writes a mirror's CFG register. -/
  | mirrorSet (r : Fin 4096) (id : Nat)
  /-- REG_READ (R318): A descriptor that reads a set-up register into host memory. -/
  | regRead (r : Fin 4096) (id : Nat)
  /-- REG_WRITE (R318): A descriptor that updates a set-up register under a mask. -/
  | regWrite (r : Fin 4096) (id : Nat)
  /-- EVENT_WAIT (R319): A descriptor that registers a wait for a queue level crossing. -/
  | eventWait (r : Fin 4096) (id : Nat)
  /-- EVENT_WAIT_MATCH (R319): A queue-level event reaches the ring engine and completes the matching wait. -/
  | eventWaitMatch (t : TileIx) (q : Fin 4)
  /-- EVENT_WAIT_TIMEOUT (R319): An EVENT_WAIT's timeout expires and it completes with TIMEOUT. -/
  | eventWaitTimeout (r : Fin 4096) (id : Nat)
  /-- NOTIFY (R320): A descriptor that binds or unbinds a NOTIFY queue to the ring. -/
  | notifyDesc (r : Fin 4096) (id : Nat)
  /-- NOTIFY_RECORD (R323): The ring engine pops a bound NOTIFY record and writes it as a completion entry. -/
  | notifyRecord (b : Fin 256)
  /-- FENCE (R325): A FENCE descriptor completes after every earlier descriptor of its ring. -/
  | fenceDesc (r : Fin 4096) (id : Nat)
  /-- COMPLETION_WRITE (R322): A finished descriptor's completion is written once the completion ring has room. -/
  | completionWrite (r : Fin 4096) (failed : Option HostFail)
  /-- MSIX_MESSAGE (R327): A vector sends its message when its count or holdoff condition is met. -/
  | msixMessage (fn : Fin 65) (k : Fin 2048) (holdoff : Bool)
  /-- RING_ENABLE (R300): A write of CTL.EN 1 moves an OFF ring to ON or refuses an invalid vector. -/
  | ringEnable (r : Fin 4096) (value : Reg)
  /-- RING_DISABLE (R299): A write of CTL.EN 0 moves an ON ring to DRAINING. -/
  | ringDisable (r : Fin 4096) (value : Reg)
  /-- RING_DRAIN_END (R299): Nothing is in progress or DRAIN_LIMIT expires and the ring enters ISOLATING. -/
  | ringDrainEnd (r : Fin 4096) (limit : Bool)
  /-- RING_OFF (R299): ISOLATING completes with ABORTED completions and the ring becomes OFF. -/
  | ringOff (r : Fin 4096) (res : HostRead)
  /-- RING_SLOT_WRITE (R301): A write to a ring's set-up registers while not OFF is discarded or sets CFG_IGNORED. -/
  | ringSlotWrite (r : Fin 4096) (k : Fin 8) (value : Reg)
  /-- HIF_FUNC_MAP_WRITE (R290): A write of a function map assigns rings to a virtual function or is refused. -/
  | hifFuncMapWrite (v : Fin 64) (value : Reg)
  /-- HOST_WINDOW_ACCESS (R292): An access through a host window is issued to host memory and completes by its outcome. -/
  | hostWindowAccess (ep : Fin 2048) (n : Fin 32)
  /-- WINDOW_ENABLE_WRITE (R331): A write setting a window's EN is refused for a bad size, base or function. -/
  | windowEnableWrite (w : Fin 16) (value : Reg)
  /-- FLR_VF (R328): An FLR of a virtual function takes its rings to OFF within 1 ms. -/
  | flrVf (v : Fin 64)
  /-- FLR_PF (R328): An FLR of the physical function takes every ring to OFF and disables virtual functions. -/
  | flrPf
  /-- LINK_DOWN (R328): Loss of the PCIe link without PERST_N takes every ring to OFF with LINK_DOWN. -/
  | linkDown
  /-- PERST_N (R328): PERST_N returns the host interface and ring slots to their reset values. -/
  | perstN (level : Bool)
  /-- ACC_SEAL_WRITE (R344): A warden write of ACC_SEAL sets a seal point, releasing held requests under ABORT_HELD. -/
  | accSealWrite (value : Reg) (key : Key)
  /-- ACC_SEAL_READ (R344): A read of ACC_SEAL waits until requests checked before the seal finish or SEAL_WAIT expires. -/
  | accSealRead (expired : Bool)
  /-- PACKET_RECEIVE (R362): A tether receiver checks a packet's header CRC and forwards or delivers it. -/
  | packetReceive (p : Fin 6) (stream : PortStream)
  /-- PACKET_FORWARD (R364): A transit device forwards a packet under dimension-ordered routing when it holds a credit. -/
  | packetForward (p : Fin 6) (cls : Net) (vc : Bool)
  /-- CREDIT (R367): A CREDIT packet or header returns credits to the neighbour. -/
  | credit (p : Fin 6) (buf : Fin 8) (count : Fin 32)
  /-- GATEWAY_SEND (R372): A gateway builds a tether header for a flit from its engine port and sends it. -/
  | gatewaySend (p : Fin 6) (net : Net)
  /-- PROXY_INJECT (R373): The arrival gateway takes a proxy entry and injects a REQ locally, or NACKs when full. -/
  | proxyInject (p : Fin 6)
  /-- PROXY_RESPONSE (R374): A gateway matches a local response to its proxy entry and sends it back. -/
  | proxyResponse (p : Fin 6) (dat : Bool)
  /-- PROXY_WDATA (R374): A WDATA from the fabric is matched to a proxy entry and injected. -/
  | proxyWdata (p : Fin 6)
  /-- PROXY_ENTRY_TIMEOUT (R374): A proxy entry with no final response within 2 x RSP_TIMEOUT is released and reports event 0x413. -/
  | proxyEntryTimeout (p : Fin 6) (e : Fin 256)
  /-- RSP_TIMEOUT (R371): A request sent through a gateway with no final response completes with TIMEOUT. -/
  | rspTimeout (ep : Fin 2048) (tag : Fin 256)
  /-- TRAIN_FLIT (R377): A TRAIN flit from the fabric is passed to the root or expanded by an anchor. -/
  | trainFlit (p : Fin 6)
  /-- ANCHOR_EXPANSION (R378): An anchor expands a PL below 16 command into PL 16 commands to member devices. -/
  | anchorExpansion (id : Nat)
  /-- EXPANDED_COMPLETION (R380): The anchor combines per-device answers into one completion. -/
  | expandedCompletion (x : Nat)
  /-- BARRIER_ARM (R379): A member device takes a PHASE 1 arm and answers once drained and armed. -/
  | barrierArm (id : Nat)
  /-- BARRIER_GO_PHASE (R379): A member device takes PHASE 2 go and switches. -/
  | barrierGoPhase (p : Fin 6)
  /-- BARRIER_CANCEL (R379): A member device takes PHASE 3 cancel and clears its arms. -/
  | barrierCancel (p : Fin 6)
  /-- CLAIM_SEND (R381): An anchor sends CLAIM to each enabled string entry every 1 ms. -/
  | claimSend (i : Fin 64)
  /-- CLAIM (R381): A device receiving CLAIM records or refuses the anchor and answers CLAIM_ACK. -/
  | claim (p : Fin 6)
  /-- CLAIM_ACK (R381): The anchor records a CLAIM_ACK outcome in the string entry. -/
  | claimAck (p : Fin 6)
  /-- LEASE_EXPIRE (R382): A device with no CLAIM for LEASE_MS clears its anchor and reports event 0x421. -/
  | leaseExpire
  /-- RELEASE (R382): A device receiving RELEASE from its anchor clears VALID. -/
  | release (p : Fin 6)
  /-- STRING_ENTRY_CLEAR (R382): A write clearing a string entry's EN makes the anchor send RELEASE. -/
  | stringEntryClear (i : Fin 64) (value : Reg)
  /-- NEIGHBOUR_CHECK (R358): When a port's lanes are up the device checks the neighbour's identity and goes UP, HELD or HAIRPIN. -/
  | neighbourCheck (p : Fin 6)
  /-- ENUMERATION (R384): A device without an ID takes the adjacent ID across a port that comes UP. -/
  | enumeration (p : Fin 6)
  /-- FAB_ID_WRITE (R356): A write of FAB_DIMS or FAB_COORD.ID is applied only with every port down. -/
  | fabIdWrite (dims : Bool) (value : Reg)
  /-- TIME_REQ (R386): A device sends TIME_REQ on its parent port every INTERVAL_US. -/
  | timeReq
  /-- TIME_RSP (R386): A parent answers TIME_REQ with its arrival and departure times. -/
  | timeRsp (p : Fin 6)
  /-- TIME_ADJUST (R386): A child receiving TIME_RSP steps or slews its time by the computed offset. -/
  | timeAdjust (p : Fin 6)
  /-- SYNC_IN_EDGE (R388): An accepted SYNC_IN edge disciplines the master's time. -/
  | syncInEdge
  /-- SYNC_LOST (R388): No SYNC_IN edge within the mode's interval sets SYNC_LOST and reports event 0x432. -/
  | syncLost
  /-- HOLDOVER (R387): The parent port goes down and the device enters holdover with event 0x431. -/
  | holdover
  /-- PORT_DOWN (R389): A port leaves UP, discards its packets and reports event 0x401. -/
  | portDown (p : Fin 6)
  /-- TEST (R385): A hairpin port sends and checks a PRBS-31 TEST packet; with `both`, one on the other VC after it. -/
  | testPacket (p : Fin 6) (vc both : Bool)
  /-- SIGNAL (R412): LOS deasserts on a lane in SIGNAL and it moves to LOCK. -/
  | laneSignal (l : Fin 112)
  /-- LOCK (R412): A lane gains CDR and block lock and moves to HELLO. -/
  | laneLock (h : LaneBlocks)
  /-- LOCK_TIMEOUT (R412): A bring-up state's timeout expires and the port restarts from SIGNAL. -/
  | lockTimeout (l : Fin 112)
  /-- POLARITY_INVERT (R413): A lane that decodes no frame within 2 ms inverts its receive polarity. -/
  | polarityInvert (l : Fin 112)
  /-- LANE_FAILED (R413): A lane that still decodes no frame becomes FAILED and reports event 0x440. -/
  | laneFailed (l : Fin 112)
  /-- TRAINING_FRAME (R411): A training frame is received and decoded on a lane. -/
  | trainingFrame (l : Fin 112) (blocks : List Block)
  /-- HELLO (R412): Every enabled lane is good or failed, or 8 ms pass, and the port moves to AGREE. -/
  | hello (p : Fin 6) (late : Bool)
  /-- AGREE (R415): Both sides ACK the same rate, width and group and the port moves to STEP. -/
  | agree (p : Fin 6)
  /-- STEP (R416): After the STEP countdown the lanes change rate and relock. -/
  | stepRate (p : Fin 6)
  /-- STEP_FAILED (R416): A group lane fails at the new rate within 5 ms and both sides return to rate 0. -/
  | stepFailed (p : Fin 6)
  /-- ADAPT_REQUEST (R417): A transmitter applies or refuses one tap step requested in COEF_REQ. -/
  | adaptRequest (l : Fin 112) (req : BitVec 6)
  /-- ADAPT (R417): ADAPT_DONE is seen both ways on every group lane and the port moves to DESKEW. -/
  | adapt (p : Fin 6)
  /-- ADAPT_TIMEOUT (R417): 50 ms pass without ADAPT_DONE and the port keeps its taps and moves to DESKEW. -/
  | adaptTimeout (p : Fin 6)
  /-- DESKEW (R412): The port aligns on ballast groups and moves to FEC. -/
  | deskew (p : Fin 6)
  /-- FEC (R418): READY is sent and received after good pages and the lanes are up. -/
  | fecState (p : Fin 6)
  /-- BRING_UP_TIMEOUT (R412): A port not up within 200 ms restarts from SIGNAL and reports event 0x446. -/
  | bringUpTimeout (p : Fin 6)
  /-- PORT_LEAVE_UP (R420): A cause takes the port out of UP and it restarts from SIGNAL with event 0x448. -/
  | portLeaveUp (p : Fin 6) (cause : Fin 10)
  /-- RETRAIN (R420): A write of CTL.RETRAIN 1 takes the port out of UP. -/
  | retrain (p : Fin 6) (value : Reg)
  /-- STEP_DOWN (R422): Errors above the limit in two windows lower the rate cap and take the port out of UP. -/
  | stepDown (p : Fin 6) (e : WindowCounts)
  /-- BALLAST (R408): At a ballast group arrival the elastic buffer deletes or repeats the group. -/
  | ballast (p : Fin 6) (level : Fin 65) (g : BallastGroup)
  /-- ELASTIC_ERROR (R408): The elastic buffer overflows or runs empty and the port leaves UP. -/
  | elasticError (p : Fin 6)
  /-- PORT_QUIET_ENTRY (R425): A tether TX with no traffic for AUTO_US enters QUIET after signalling QUIET_NEXT. -/
  | portQuietEntry (p : Fin 6) (auto : Bool)
  /-- PORT_QUIET_WAKE (R425): A packet to send wakes a quiet TX, which sends four resynchronising pages. -/
  | portQuietWake (p : Fin 6)
  /-- RX_QUIET_ENTRY (R425): A receiver that saw QUIET_NEXT enters RX QUIET when LOS asserts. -/
  | rxQuietEntry (p : Fin 6)
  /-- RX_QUIET_WAKE (R425): LOS deasserts and a quiet receiver relocks and deskews, or leaves UP with cause 9. -/
  | rxQuietWake (p : Fin 6) (ok : Bool)
  /-- DIRECTION_POWER_REQUEST (R426): A write of PWR.TX_REQ or RX_REQ moves a lane direction between ON, QUIET and OFF. -/
  | directionPowerRequest (l : Fin 112) (value : Reg)
  /-- DIRECTION_POWER_DONE (R423): A lane direction finishes its power change or wake. -/
  | directionPowerDone (l : Fin 112) (tx : Bool)
  /-- EDGE_LANE_ENABLE (R427): An edge lane's EN write starts it at its rate and mode. -/
  | edgeLaneEnable (l : Fin 112) (value : Reg)
  /-- ALIGN (R429): A RAW32 receiver aligns on ALIGN_PAT in 8 consecutive slots. -/
  | align (l : Fin 112) (slots : List Word)
  /-- REALIGN (R429): A write of CTL.REALIGN restarts RAW32 alignment. -/
  | realign (l : Fin 112) (value : Reg)
  /-- EDGE_SIGNAL_LOSS (R427): An edge lane loses signal or lock, returns to SIGNAL and reports event 0x44B. -/
  | edgeSignalLoss (loss : LaneLoss)
  /-- EDGE_RECORD_ERROR (R433): A received record ends in error and a marker read-word follows its bytes. -/
  | edgeRecordError (l : Fin 112) (code : Fin 5)
  /-- EDGE_TX_QUIET (R434): An edge TX with nothing to send for AUTO_US enters QUIET. -/
  | edgeTxQuiet (l : Fin 112)
  /-- EDGE_TX_WAKE (R434): An edge TX wakes when a record may start and sends idle before it. -/
  | edgeTxWake (l : Fin 112)
  /-- TAPS_WRITE (R438): A write of TAPS takes effect at once unless it breaks the limits. -/
  | tapsWrite (l : Fin 112) (value : Reg)
  /-- CONFIGURATION_RESET (R442): The loader returns the device to pre-start-up state and writes invalid contexts and factory static frames. -/
  | configurationReset
  /-- FLASH_LOAD (R456): The loader resets the flash, reads SFDP and reads an image. -/
  | flashLoad (golden : Bool) (sfdpOct : Bool) (hdr : List Byte)
  /-- SEGMENT_DECRYPT (R453): The loader holds a whole segment, checks its GCM tag and decrypts it. -/
  | segmentDecrypt (seg : List Byte)
  /-- IMAGE_NOP (R446): An image NOP command does nothing. -/
  | imageNop (raw : List Byte)
  /-- WRITE_FRAMES (R447): An image command that checks and writes a run of frames. -/
  | writeFrames (raw : List Byte)
  /-- SELECT_REGION (R448): An image command that sets the region for the frames that follow. -/
  | selectRegion (raw : List Byte)
  /-- ROLL (R454): An image command that derives the next segment key. -/
  | roll (raw : List Byte)
  /-- CHAIN_PASS (R461): An image command whose payload is sent on the chain outputs. -/
  | chainPass (raw : List Byte)
  /-- STARTUP (R465): An image command that sets the start-up order word. -/
  | startup (raw : List Byte)
  /-- CRC (R450): An image command that compares the CRC-32C of the plaintext body so far. -/
  | crcCmd (raw : List Byte)
  /-- END (R455): An image command that ends the body with CRC and digest checks. -/
  | endImage (raw : List Byte)
  /-- LOAD_TIMEOUT (R457): A flash or chain load that does not reach END within 2 s ends with cause 0x05. -/
  | loadTimeout
  /-- LOAD_FAILURE (R458): A failed load records its cause and falls back, goes FAILED or undoes a partial load. -/
  | loadFailure (read : Option Status)
  /-- CHAIN_START (R462): A follower starts a load at the first CHN_VALID byte after 1 ms low. -/
  | chainStart (hdr : List Byte)
  /-- CHAIN_ABANDON (R462): CHN_VALID low for 1 ms mid-image abandons the follower's load. -/
  | chainAbandon
  /-- CHN_DONE_START (R463): CHN_DONE read high for 8 AONCLK cycles starts the start-up steps. -/
  | chnDoneStart
  /-- CHAIN_ERROR (R464): CHN_DONE still low 2 s after the leader's END makes it fall back to its golden image. -/
  | chainError
  /-- WAIT_LOCK (R466): The start-up step that waits for burner calibration and lane PLL lock, or 10 ms. -/
  | waitLock (late : Bool)
  /-- OUT (R466): The start-up step that releases transmitters and GPIO. -/
  | outStep
  /-- WEN (R466): The start-up step that enables writes. -/
  | wen
  /-- SRST (R466): The start-up step that releases tile set/reset. -/
  | srst
  /-- STATIC_FRAME_COMMIT (R470): After END a partial load writes its staged static frames into the isolated field. -/
  | staticFrameCommit
  /-- ISOLATE_TIMEOUT (R470): A field not isolated within its drain limit ends the partial load with cause 0x0A. -/
  | isolateTimeout
  /-- START (R473): A write of CFG_CTL.START begins a host-driven image load from CFG_SRC. -/
  | cfgStart (value : Reg) (hdr : HostRead)
  /-- ABORT (R472): A write of CFG_CTL.ABORT ends the running load with cause 0x07. -/
  | cfgAbort (value : Reg)
  /-- RELOAD_FLASH (R480): A write of CFG_CTL.RELOAD_FLASH reloads the primary flash image with a configuration reset. -/
  | reloadFlash (value : Reg)
  /-- AUDITOR_CHECK (R475): The auditor reads and checks one frame every 32 ns. -/
  | auditorCheck
  /-- AUDITOR_SELF_CHECK (R477): At the end of each pass the auditor checks its ROM pattern against a signature. -/
  | auditorSelfCheck (ok : Bool)
  /-- AUDITOR_VOTE (R477): A disagreeing triplicated register is restored from the majority. -/
  | auditorVote (reg : BitVec 8)
  /-- AON_CLOCK_SWITCH (R485): AONCLK leaves tolerance and the AON domain switches to the RC oscillator, or back. -/
  | aonClockSwitch (present : Bool)
  /-- DEEP_SLEEP_ENTRY (R489): The engine clock stops once every field, lane and ring is off and PCIe is in L1.2 or down. -/
  | deepSleepEntry (l12 : Bool)
  /-- DEEP_SLEEP_EXIT (R489): A restart event starts the engine clock, which locks within 100 us. -/
  | deepSleepExit (ev : Restart)
  /-- ID_TIME_READ (R487): A read of the low half of ID_TIME latches the high half. -/
  | idTimeRead (size : Nat) (high : Bool)
  /-- ID_TIME_SET (R488): A write of ID_TIME_SET sets whole seconds of device time. -/
  | idTimeSet (value : Reg)
  /-- BURNER_CALIBRATION (R494): Every INTERVAL ms each burner counts its oscillations and corrects its trim. -/
  | burnerCalibration (f : Fin 64) (err : BitVec 16)
  /-- FREQUENCY_CHANGE (R492): The code in use changes and the field's clocks pause while the burner retunes. -/
  | frequencyChange (f : Fin 64) (value : Reg)
  /-- BURNER_START (R493): A wake request starts the burner, whose edges reach both domains within 7 ns. -/
  | burnerStart (f : Fin 64) (compute : Bool)
  /-- BURNER_STOP (R493): The burner stops 16 cycles after both domain clocks have stopped. -/
  | burnerStop (f : Fin 64)
  /-- TRANSIT_CLOCK_STOP (R496): The transit clock stops after 64 cycles with the compute clock stopped and no traffic. -/
  | transitClockStop (f : Fin 64)
  /-- TARGET_WRITE (R499): A change of TARGET moves the field toward the named state. -/
  | targetWrite (f : Fin 64) (value : Reg)
  /-- DRAIN_END (R500): A draining field's DRAINED reduction reads 1 and it moves to ISOLATING or back to RUN. -/
  | drainEnd (f : Fin 64)
  /-- DRAIN_LIMIT (R501): DRAINING lasts DRAIN_LIMIT and the drain is cancelled or forced. -/
  | drainLimit (f : Fin 64)
  /-- ISOLATING (R500): The isolating step completes to ISOLATED, RETAIN or OFF. -/
  | isolating (f : Fin 64)
  /-- RETAIN_ENTRY (R500): The compute supply reaches the retention level. -/
  | retainEntry (f : Fin 64)
  /-- OFF_ENTRY (R500): The compute supply is switched off and compute contents are lost. -/
  | offEntry (f : Fin 64)
  /-- WAKING (R500): The supply reaches full after a wake from RETAIN or OFF. -/
  | waking (f : Fin 64)
  /-- CLEARING (R505): Hardware clearing zeroes memories and resets tile state in 1,100 cycles. -/
  | clearing (f : Fin 64)
  /-- COMPUTE_WAKE (R502): A compute wake request starts the clock of an IDLE field or sets TARGET ON under WAKE_ON_ACCESS. -/
  | computeWake (f : Fin 64)
  /-- IDLE_ENTRY (R503): A field in ON whose QUIET reduction reads 1 stops its compute clock. -/
  | idleEntry (f : Fin 64)
  /-- FIELD_POWER_UP (R506): Each quarter powers up one field with target ON every 4 us after cold reset. -/
  | fieldPowerUp (q : Fin 4)
  /-- POWER_ESTIMATE (R508): Every 1 us the package power is estimated and the ceiling adjusts CLK.CAP. -/
  | powerEstimate (est : BitVec 16)
  /-- TEMPERATURE_SAMPLE (R510): A sensor is read and the ALERT, THERM and TRIP conditions are applied. -/
  | temperatureSample (f : Fin 64) (k : Fin 4) (reading : BitVec 16)
  /-- TRIP (R511): A reading of 135 C stops every burner, quiets every lane and stops descriptor starts. -/
  | trip (f : Fin 64) (k : Fin 4)
  /-- TRIP_CLR (R511): A write of TRIP_CLR with every reading below 115 C releases the trip. -/
  | tripClr (value : Reg)
  /-- AVS_UPDATE (R513): The device writes a quarter's target voltage over AVSBus and reads it back. -/
  | avsUpdate (q : Fin 4) (mv : BitVec 16)
  /-- AVS_SETTLE (R514): A frequency rise waiting for voltage takes effect once the read-back and settle time allow. -/
  | avsSettle (q : Fin 4)
  /-- AVS_ERROR (R515): A regulator that fails to answer or settle sets ERR and holds the quarter's frequency. -/
  | avsError (q : Fin 4) (mv : BitVec 16)
  /-- POWER_ON_RESET (R516): VDD_AON rising returns everything to reset values and applies the defaults image. -/
  | powerOnReset (straps : Straps)
  /-- COLD_RESET (R516): RESET_N low returns everything except the NV store, trouble log and recorder mirror to reset. -/
  | coldReset (straps : Straps)
  /-- DEVICE_RESET (R516): A write of PWR_RESET.DEVICE resets the device 10 us later, keeping the link and fabric identity. -/
  | deviceReset
  /-- FIELD_RESET (R516): A write of FRESET in RUN or IDLE resets a field's compute state within 200 cycles. -/
  | fieldReset (f : Fin 64) (value : Reg)
  /-- LOG_REPORT (R524): A report is held in its source latch or raises the repeat count. -/
  | logReport (rep : Report)
  /-- LOG_WRITE (R525): The log writer writes one occupied latch per AON cycle into the log. -/
  | logWrite
  /-- RD_INDEX_WRITE (R527): A write of RD_INDEX consumes entries unless it would break UNREAD's range. -/
  | rdIndexWrite (value : Reg)
  /-- CLEAR (R527): A write of LOG_CTL.CLEAR sets RD_INDEX to WR_INDEX. -/
  | logClear (value : Reg)
  /-- LOG_ENTRY_READ (R529): A read of an entry's W0 snapshots W1 to W3. -/
  | logEntryRead (i : Fin 1024)
  /-- RECORDER_SAMPLE (R531): The management block samples a recorder quantity into its AON accumulators. -/
  | recorderSample (smp : Sample)
  /-- RECORDER_MIRROR_COPY (R531): Every 60 s the accumulators are copied into the RAM mirror. -/
  | recorderMirrorCopy
  /-- RECORDER_COMMIT (R533): Every 15 minutes the mirror is written to the other NV copy and checked. -/
  | recorderCommit (ok : Bool)
  /-- COMMIT (R533): A write of REC_CTL.COMMIT commits at once or at the end of the 60 s limit. -/
  | recCommit (value : Reg) (recent : Bool) (ok : Bool)
  /-- NEW_CHALLENGE (R535): A write of NEW_CHALLENGE draws a 16-byte nonce. -/
  | newChallenge (value : Reg)
  /-- NONCE_EXPIRY (R535): A nonce becomes invalid 10 s after it was issued. -/
  | nonceExpiry
  /-- LOCKOUT_END (R536): The 1 s lockout after a refused clear ends. -/
  | lockoutEnd
  /-- NV_WINDOW_WRITE (R539): An aligned 64-bit write through the NV window writes and verifies a word. -/
  | nvWindowWrite (off : Nat) (size : Nat) (value : Reg) (ok : Bool)
  /-- NV_WRITE_DONE (R538): An NV word write finishes within 1 us and BUSY clears. -/
  | nvWriteDone
  /-- KEY_PROVISION (R540): A write of NVI_KEY_CTL.GO writes a key store slot or reads a hash. -/
  | keyProvision (value : Reg) (ok : Bool)
  /-- DEFAULTS_APPLY (R544): At reset the device applies factory values and then the first valid defaults slot. -/
  | defaultsApply
  /-- CHECK (R545): A write of NVI_CTL.CHECK checks a defaults slot without applying it. -/
  | nviCheck (value : Reg)
  /-- NVI_SLOT_SEL_WRITE (R551): A write of NVI_SLOT_SEL updates the NV selector. -/
  | nviSlotSelWrite (value : Reg)
  /-- SMBUS_BLOCK_READ (R546): The board controller reads 8 bytes of an allowed register after setting the offset. -/
  | smbusBlockRead (pecOk : Bool)
  /-- SMBUS_OFFSET_WRITE (R546): The board controller sets the BAR0 offset with command 0x11. -/
  | smbusOffsetWrite (off : BitVec 32) (pecOk : Bool)
  /-- SMBUS_WRITE (R546): The board controller writes 8 bytes to an allowed register with command 0x10. -/
  | smbusWrite (off : BitVec 32) (value : Reg) (pecOk : Bool)
  /-- PEEK_ACCESS (R578): A BAR0 access in the PEEK window becomes a warden request to a global address. -/
  | peekAccess (write : Bool) (off : Nat) (size : Nat) (value : Reg)
  /-- PCIE_LINK_UP (R330): The PCIe link trains, HIF_STATUS.LINK_UP is set, and with the ANCHOR strap set the device becomes an anchor. -/
  | pcieLinkUp (rate : Fin 7) (width : Fin 32) (terms : LinkTerms)
  /-- HOST_COMPLETION (R293): A PCIe completion, or a completion timeout, arrives for a device read of host memory and ends the read with its status. -/
  | hostCompletion (id : Nat) (res : HostRead)
  /-- REFERENCE_CLOCK_LOST (R566): A reference clock input is lost or returns, setting CLK_REF_STATUS and reporting event 0x123. -/
  | referenceClockLost (i : Fin 6) (present : Bool)
  /-- REC_CLEAR_GO (R536): A write of REC_CLEAR.GO compares the response with the device's HMAC and clears the recorder or refuses the clear. -/
  | recClearGo (value : Reg) (who : Key)
  /-- PORT_ENABLE (R412): A write of FAB_PORT.CTL.EN 1 takes a tether port's lanes from DISABLED into bring-up at SIGNAL. -/
  | portEnable (p : Fin 6) (value : Reg)
  /-- UNPACK_LANE_WORD (R236): In each lane-word clock, the encoder takes a lane word for each bonded lane from the unpack core, lowering its depth. -/
  | unpackLaneWord (g : Fin 16)
  /-- RX_AUTO_WAKE (R424): LOS deasserting on a tether lane 8p whose RX is OFF with PWR.RX_AUTO 1 wakes the receiver and starts bring-up. -/
  | rxAutoWake (p : Fin 6)
  /-- CLAIM_ACK_TIMEOUT (R381): A CLAIM that draws no CLAIM_ACK within RSP_TIMEOUT sets its string entry to UNREACHABLE. -/
  | claimAckTimeout (i : Fin 64)
  /-- MSIX_UNMASK (R327): Host software unmasks a vector whose PBA bit is set, and the vector sends its pending message. -/
  | msixUnmask (fn : Fin 65) (e : MsixEntry)
  /-- VF_ENABLE (R286): Host software enables or disables SR-IOV virtual functions, which changes HIF_STATUS.VFS and the functions that own rings. -/
  | vfEnable (n : Fin 65)
  deriving DecidableEq, Repr

end Sys2Proof
end

