-- ==== Sys2Proof/WellFormed.lean ====
section
/-! DEFINITION. Which terms of `Instr` are commands of the table: the shapes that the operand types alone do not fix. An image
header has 512 bytes (spec 12 R443), the sizes that PCI Express lets the host configure are powers of two (spec 08 R286), a report at most 14 bytes of detail (spec 14 R528). -/

namespace Sys2Proof

/-- Whether a configuration is one of the endpoint (spec 08 R286): payloads of 128 to 512 bytes, read requests of 128 to 4,096. -/
def PcieCfg.ok (c : PcieCfg) : Bool :=
  [128, 256, 512].contains c.mps && [128, 256, 512, 1024, 2048, 4096].contains c.mrrs

/-- Whether a term is a command. -/
def Instr.wellFormed : Instr → Bool
  | .flashLoad _ _ hdr => hdr.length == 512
  | .chainStart hdr => decide (1 ≤ hdr.length ∧ hdr.length ≤ 512)
  | .pcieLinkUp _ _ terms => terms.cfg.ok
  | .logReport rep => decide (rep.detail.length ≤ 14)
  | .registerWrite _ _ _ _ | .mov _ | .add _ | .sub _ | .neg _ | .abs _ | .absd _ | .avg _ | .min_ _ | .max_ _ | .clamp _
  | .add3 _ | .and_ _ | .or_ _ | .xor _ | .andn _ | .not_ _ | .bsel _ | .shl _ | .shr _ | .rol _ | .ror _ | .fshr _ | .cmpeq _
  | .cmpne _ | .cmplt _ | .cmple _ | .tst _ | .sel _ | .sel1 _ | .clz _ | .ctz _ | .popc _ | .brev _ | .perm _ | .ext _ | .cntr _
  | .cntld _ | .limld _ | .addc _ | .subc _ | .cmpc _ | .dly _ | .rdx _ | .wrx _ | .dropPad _ | .forkOp _ | .zip _ | .unzip _
  | .join _ | .merge _ | .filtp _ | .filtb _ | .split _ | .tagins _ | .tagstrip _ | .droppad _ | .discard _ | .tcmd _ | .mac32 _
  | .cmac16 _ | .dmac16 _ | .dot8 _ | .mul32 _ | .cmul16 _ | .dmul16 _ | .mdot8 _ | .dump _ | .dumpt _ | .accinit _
  | .xyNetworkAccess _ _ | .accLoRead _ _ | .accRegisterWrite _ _ _ _ | .agRegisterWrite _ _ _ _ | .pipelineLatch _
  | .segmentAccept _ _ | .seamWrite _ _ | .seamDeliver _ _ | .sinkDiscard _ _ | .bridleRelease _ | .waveFiring _
  | .waveNonLeadConsume _ _ | .rootAdmit _ | .commandDelivery _ _ | .query _ | .switchImm _ _ | .switchBar _ _ | .barrierGo _
  | .barrierTimeout _ | .armCmd _ _ | .disarmCmd _ _ | .injectCmd _ _ | .invalidate _ _ | .wakeCmd _ _ | .powerCmd _ _
  | .frameWrite _ _ | .frameRead _ _ | .borrowStart _ | .borrowEnd _ _ | .borrowYield _ _ | .brd _ | .bwr _ | .qpush _ | .qpop _
  | .qlvl _ | .dlyb _ | .gwld _ | .gwst _ | .gwfence _ | .gatewayResponse _ _ | .bankRead _ _ | .bankWrite _ _ _
  | .eccWriteback _ _ | .rowMove _ _ | .creditedPush _ _ | .uncreditedPush _ _ | .queuePop _ _ | .popServe _ _ _
  | .creditRequest _ _ | .creditGrantHeld _ _ | .flush _ _ _ | .bankOwnerWrite _ _ _ | .packLaneWord _ _ _ | .droppingExit _
  | .packReadSidePop _ | .unpackWordAccept _ _ | .unpackPush _ | .unpackRecordStart _ | .unpackUnderrun _ | .groupEnable _ _
  | .groupDisable _ _ | .groupDrainEnd _ _ | .groupOff _ | .routerCycle _ _ | .flitInjection _ _ | .starvation _ _
  | .throttleEnd _ _ | .bridgeCrossing _ _ _ | .reqAdmit _ | .responseEject _ _ | .wdataArrival _ | .requestRetry _ _
  | .retryTimeout _ _ | .mirrorUpdate _ _ | .mpush _ | .inval _ | .mirrorRefetch _ _ _ | .refetchRetry _ _ _ | .epochSend _
  | .epochSnp _ | .mirrorRecordedApply _ | .mirrorCfgWrite _ _ | .cntClear _ | .tug _ _ _ _ | .doorbellPoll _ _ | .ringSleep _ _
  | .descriptorFetch _ _ | .descriptorStart | .nopDesc _ _ | .streamIn _ _ _ | .streamOut _ _ | .memRead _ _ | .memWrite _ _ _
  | .loadContext _ _ _ | .switchDescriptor _ _ | .powerDescriptor _ _ | .mirrorSet _ _ | .regRead _ _ | .regWrite _ _
  | .eventWait _ _ | .eventWaitMatch _ _ | .eventWaitTimeout _ _ | .notifyDesc _ _ | .notifyRecord _ | .fenceDesc _ _
  | .completionWrite _ _ | .msixMessage _ _ _ | .ringEnable _ _ | .ringDisable _ _ | .ringDrainEnd _ _ | .ringOff _ _
  | .ringSlotWrite _ _ _ | .hifFuncMapWrite _ _ | .hostWindowAccess _ _ | .windowEnableWrite _ _ | .flrVf _ | .flrPf | .linkDown
  | .perstN _ | .accSealWrite _ _ | .accSealRead _ | .packetReceive _ _ | .packetForward _ _ _ | .credit _ _ _ | .gatewaySend _ _
  | .proxyInject _ | .proxyResponse _ _ | .proxyWdata _ | .proxyEntryTimeout _ _ | .rspTimeout _ _ | .trainFlit _
  | .anchorExpansion _ | .expandedCompletion _ | .barrierArm _ | .barrierGoPhase _ | .barrierCancel _ | .claimSend _ | .claim _
  | .claimAck _ | .leaseExpire | .release _ | .stringEntryClear _ _ | .neighbourCheck _ | .enumeration _ | .fabIdWrite _ _
  | .timeReq | .timeRsp _ | .timeAdjust _ | .syncInEdge | .syncLost | .holdover | .portDown _ | .testPacket _ _ _ | .laneSignal _
  | .laneLock _ | .lockTimeout _ | .polarityInvert _ | .laneFailed _ | .trainingFrame _ _ | .hello _ _ | .agree _ | .stepRate _
  | .stepFailed _ | .adaptRequest _ _ | .adapt _ | .adaptTimeout _ | .deskew _ | .fecState _ | .bringUpTimeout _
  | .portLeaveUp _ _ | .retrain _ _ | .stepDown _ _ | .ballast _ _ _ | .elasticError _ | .portQuietEntry _ _ | .portQuietWake _
  | .rxQuietEntry _ | .rxQuietWake _ _ | .directionPowerRequest _ _ | .directionPowerDone _ _ | .edgeLaneEnable _ _ | .align _ _
  | .realign _ _ | .edgeSignalLoss _ | .edgeRecordError _ _ | .edgeTxQuiet _ | .edgeTxWake _ | .tapsWrite _ _
  | .configurationReset | .segmentDecrypt _ | .imageNop _ | .writeFrames _ | .selectRegion _ | .roll _ | .chainPass _
  | .startup _ | .crcCmd _ | .endImage _ | .loadTimeout | .loadFailure _ | .chainAbandon | .chnDoneStart | .chainError
  | .waitLock _ | .outStep | .wen | .srst | .staticFrameCommit | .isolateTimeout | .cfgStart _ _ | .cfgAbort _ | .reloadFlash _
  | .auditorCheck | .auditorSelfCheck _ | .auditorVote _ | .aonClockSwitch _ | .deepSleepEntry _ | .deepSleepExit _
  | .idTimeRead _ _ | .idTimeSet _ | .burnerCalibration _ _ | .frequencyChange _ _ | .burnerStart _ _ | .burnerStop _
  | .transitClockStop _ | .targetWrite _ _ | .drainEnd _ | .drainLimit _ | .isolating _ | .retainEntry _ | .offEntry _
  | .waking _ | .clearing _ | .computeWake _ | .idleEntry _ | .fieldPowerUp _ | .powerEstimate _ | .temperatureSample _ _ _
  | .trip _ _ | .tripClr _ | .avsUpdate _ _ | .avsSettle _ | .avsError _ _ | .powerOnReset _ | .coldReset _ | .deviceReset
  | .fieldReset _ _ | .logWrite | .rdIndexWrite _ | .logClear _ | .logEntryRead _ | .recorderSample _ | .recorderMirrorCopy
  | .recorderCommit _ | .recCommit _ _ _ | .newChallenge _ | .nonceExpiry | .lockoutEnd | .nvWindowWrite _ _ _ _ | .nvWriteDone
  | .keyProvision _ _ | .defaultsApply | .nviCheck _ | .nviSlotSelWrite _ | .smbusBlockRead _ | .smbusOffsetWrite _ _
  | .smbusWrite _ _ _ | .peekAccess _ _ _ _ | .hostCompletion _ _ | .referenceClockLost _ _ | .recClearGo _ _
  | .portEnable _ _ | .unpackLaneWord _ | .rxAutoWake _ | .claimAckTimeout _ | .msixUnmask _ _ | .vfEnable _ => true

end Sys2Proof
end

