-- ==== Sys2Proof/Decode.lean ====
section
/-! DEFINITION. The decoder of the table's words: spec/opcode_table.json gives no row any bits, so no word spells a command. The bit
layouts that the spec does give (frames, flits, packets, descriptors, images) are data of the commands; their readers and writers
stand in Machine/. -/

namespace Sys2Proof

/-- The command that a word spells: none, for the table gives no row bits (assumption log 1). -/
def decodeTableWord (_nbits _w : Nat) : Option Instr := none

end Sys2Proof
end

