-- ==== Sys2Proof/Config.lean ====
section
/-! DEFINITION. What the spec leaves open: free values, which nothing in Lean can evaluate. -/

namespace Sys2Proof.Config

/-- Free values of 64 bits, applied to the state's `fresh` counter: one for each open value (assumption log 3). -/
opaque freeWord : Nat → BitVec 64

end Sys2Proof.Config
end

