-- ==== Sys2Proof/Machine/Bits.lean ====
section
/-! DEFINITION. Bit fields, byte order, sign extension and the sparse maps: the helpers that every chapter's operations
use. A register field is a `Fld`; `getFld` and `setFld` read and replace it. -/

namespace Sys2Proof.Machine

/-- The type of a register field (spec 00 R9). -/
inductive FTy where
  | ro | rw | wo | w1c | w1s
  deriving DecidableEq, Repr

/-- A register field: its highest and lowest bit, its type, whether only the warden may write it (suffix /W), whether
the defaults image may override its reset value ("img", spec 00 R10), and its reset value. -/
structure Fld where
  hi : Nat
  lo : Nat
  ty : FTy
  warden : Bool
  img : Bool
  reset : Nat
  deriving DecidableEq, Repr

/-- How many bits the field has. -/
def Fld.width (f : Fld) : Nat := f.hi + 1 - f.lo

/-- The field's bits set, all others clear. -/
def Fld.mask (f : Fld) : Reg := BitVec.ofNat 64 ((2 ^ f.width - 1) * 2 ^ f.lo)

/-- Bits `hi` to `lo` of a number (spec 00 R6). -/
def bitsOf (v hi lo : Nat) : Nat := v / 2 ^ lo % 2 ^ (hi + 1 - lo)

/-- The value of a field in a register's value. -/
def getFld (v : Reg) (f : Fld) : Nat := bitsOf v.toNat f.hi f.lo

/-- The register's value with one field replaced; a value too wide for the field is cut to its low bits. -/
def setFld (v : Reg) (f : Fld) (x : Nat) : Reg :=
  (v &&& ~~~f.mask) ||| (BitVec.ofNat 64 (x * 2 ^ f.lo) &&& f.mask)

/-- The register whose fields all hold their reset values. -/
def resetOf (fs : List Fld) : Reg := fs.foldl (fun v f => setFld v f f.reset) 0

/-- What one field holds after a write of `v` over `old` (spec 00 R9): RW takes the written bits; W1C clears where a 1 is
written; RO, WO and W1S keep theirs (a WO or W1S field reads as zero; its action is the command's). A field that only
the warden writes keeps its value when another key writes. -/
def writeFld (warden : Bool) (v : Reg) (acc : Reg) (f : Fld) : Reg :=
  if f.warden && !warden then acc
  else match f.ty with
    | .rw => (acc &&& ~~~f.mask) ||| (v &&& f.mask)
    | .w1c => acc &&& ~~~(v &&& f.mask)
    | .ro | .wo | .w1s => acc

/-- A register's value after a write of all 64 bits (spec 00 R9, R11). -/
def writeFlds (warden : Bool) (fs : List Fld) (old v : Reg) : Reg := fs.foldl (writeFld warden v) old

/-- The bits that a reader sees: WO and W1S fields read as zero (spec 00 R9). -/
def readFlds (fs : List Fld) (v : Reg) : Reg :=
  fs.foldl (fun a f => match f.ty with
    | .wo | .w1s => a &&& ~~~f.mask
    | .rw | .ro | .w1c => a) v

/-- A register write of 4 bytes merges its half with what the register would keep (spec 00 R8): `high` says which half.
The other half of a W1C or W1S field is written as zeros, so nothing happens there. -/
def halfMask (high : Bool) : Reg := if high then 0xFFFFFFFF00000000 else 0x00000000FFFFFFFF

/-- Fields that lie wholly in a written half, or `fs` itself for a write of 8 bytes. A field that crosses bit 32 is
cut at it (spec 00 R8: each half takes effect when it is written). -/
def cutFlds (high : Bool) (fs : List Fld) : List Fld :=
  fs.filterMap (fun f =>
    if high then (if f.hi < 32 then none else some { f with lo := max f.lo 32 })
    else (if 32 ≤ f.lo then none else some { f with hi := min f.hi 31 }))

/-- Add with saturation at the field's maximum (spec 00 R12). -/
def satAdd (width a b : Nat) : Nat := min (a + b) (2 ^ width - 1)

/-- A counter field raised by `n`, saturating (spec 00 R12). -/
def bumpFld (v : Reg) (f : Fld) (n : Nat) : Reg := setFld v f (satAdd f.width (getFld v f) n)

/-- The sparse map's value at `k`; an unlisted key reads as `d`. -/
def smGet {V : Type} (d : V) : SMap V → Nat → V
  | [], _ => d
  | (a, v) :: rest, k => if k = a then v else smGet d rest k

/-- An entry put in its place in key order; it replaces the entry of its key. -/
def smIns {V : Type} : SMap V → Nat → V → SMap V
  | [], k, v => [(k, v)]
  | (a, w) :: rest, k, v =>
    if k = a then (k, v) :: rest else if k < a then (k, v) :: (a, w) :: rest else (a, w) :: smIns rest k v

/-- The sparse map with `k` set to `v`. It keeps the canonical form: keys strictly rising, no entry equal to the default `d`. -/
def smSet {V : Type} [DecidableEq V] (d : V) (m : SMap V) (k : Nat) (v : V) : SMap V :=
  if v = d then m.filter (fun x => decide (x.1 ≠ k)) else smIns m k v

/-- The canonical form of a sparse map whose unlisted keys read as `d k`. -/
def smWf {V : Type} [DecidableEq V] (d : Nat → V) (m : SMap V) : Bool :=
  decide (m.Pairwise (fun x y => x.1 < y.1)) && m.all (fun x => decide (x.2 ≠ d x.1))

/-- `n` bytes of a number, least significant first (spec 00 R7). -/
def bytesLE : Nat → Nat → List Byte
  | 0, _ => []
  | n + 1, v => BitVec.ofNat 8 v :: bytesLE n (v / 256)

/-- The number that bytes spell, least significant first (spec 00 R7). -/
def leBytes : List Byte → Nat
  | [] => 0
  | b :: bs => b.toNat + 256 * leBytes bs

/-- `n` bytes starting at position `at` of a list; past its end they are zero. -/
def sliceBytes (bs : List Byte) (start n : Nat) : List Byte :=
  (bs.drop start).take n ++ List.replicate (n - ((bs.drop start).take n).length) 0

/-- The little-endian number of `n` bytes at a position of a list. -/
def leAt (bs : List Byte) (start n : Nat) : Nat := leBytes (sliceBytes bs start n)

/-- A two's-complement reading of the low `w` bits of a number. -/
def sintOf (w v : Nat) : Int :=
  if v % 2 ^ w < 2 ^ (w - 1) then Int.ofNat (v % 2 ^ w) else Int.ofNat (v % 2 ^ w) - (2 ^ w : Nat)

/-- The low `w` bits of an integer, as a number. -/
def wrapInt (w : Nat) (x : Int) : Nat := (x % (2 ^ w : Nat)).toNat

/-- An integer held to the signed range of `w` bits. -/
def clampS (w : Nat) (x : Int) : Int := max (-(2 ^ (w - 1) : Nat)) (min x ((2 ^ (w - 1) : Nat) - 1))

/-- Bit `i` of a number. -/
def bit (v i : Nat) : Bool := v / 2 ^ i % 2 == 1

/-- 1 for true, 0 for false. -/
def b2n (b : Bool) : Nat := if b then 1 else 0

/-- The list with entry `i` replaced; the list itself where it has no entry `i`. -/
def listSet {α : Type} (xs : List α) (i : Nat) (x : α) : List α := xs.set i x

/-- Even parity of the low `w` bits: 1 where their number of ones is odd. -/
def parity : Nat → Nat → Nat
  | 0, _ => 0
  | w + 1, v => (v % 2 + parity w (v / 2)) % 2

/-- One bit of a CRC, shifted left, with polynomial `poly` of width `w`. -/
def crcBit (w poly crc : Nat) (b : Bool) : Nat :=
  let top := bit crc (w - 1)
  let c := crc * 2 % 2 ^ w
  if top != b then Nat.xor c poly else c

/-- A CRC of width `w`, most significant bit of each byte first, no reflection. -/
def crcBytes (w poly init : Nat) (bs : List Byte) : Nat :=
  bs.foldl (fun crc x => [7, 6, 5, 4, 3, 2, 1, 0].foldl (fun c i => crcBit w poly c (bit x.toNat i)) crc) init

/-- Reverse the low `w` bits of a number. -/
def reverseBits (w v : Nat) : Nat :=
  (List.range w).foldl (fun a i => if bit v i then a + 2 ^ (w - 1 - i) else a) 0

end Sys2Proof.Machine
end

