-- ==== Sys2Proof/Machine/Geom.lean ====
section
/-! DEFINITION. Coordinates, tile kinds, patches, fields, segments, field boundaries and edge-port tiles (spec 01 R17 to
R19, R26; spec 04 R121 to R127, R136). Everything is a function of the 14-bit tile index. -/

namespace Sys2Proof.Machine

/-- x of a tile index: its even bits (spec 01 R17). -/
def tileX (i : Nat) : Nat :=
  b2n (bit i 0) + 2 * b2n (bit i 2) + 4 * b2n (bit i 4) + 8 * b2n (bit i 6) + 16 * b2n (bit i 8)
    + 32 * b2n (bit i 10) + 64 * b2n (bit i 12)

/-- y of a tile index: its odd bits (spec 01 R17). -/
def tileY (i : Nat) : Nat := tileX (i / 2)

/-- The tile index of a coordinate (spec 01 R17). -/
def tileAt (x y : Nat) : Nat :=
  (List.range 7).foldl (fun a k => a + b2n (bit x k) * 2 ^ (2 * k) + b2n (bit y k) * 2 ^ (2 * k + 1)) 0

/-- The field of a tile (spec 00 R15). -/
def tileField (i : Nat) : Nat := i / 256
/-- The patch of a tile (spec 01 R19). -/
def tilePatch (i : Nat) : Nat := i / 16
/-- The local coordinates of a tile (spec 01 R18). -/
def tileU (i : Nat) : Nat := tileX i % 4
def tileV (i : Nat) : Nat := tileY i % 4

/-- The kind of a tile, fixed by its local coordinates (spec 01 R18). -/
def tileKind (i : Nat) : Kind :=
  if tileV i = 1 then (if tileU i = 1 then .b else if tileU i = 3 then .a else .m)
  else if tileV i = 3 then (if tileU i = 1 then .a else if tileU i = 3 then .b else .m)
  else .a

/-- The FMT code of a kind (spec 05 R149). -/
def kindFmt : Kind → Nat
  | .a => 1 | .m => 2 | .b => 3

/-- The tile indices of a field, of a patch, of the device. -/
def fieldTiles (f : Nat) : List Nat := (List.range 256).map (· + 256 * f)
def patchTiles (p : Nat) : List Nat := (List.range 16).map (· + 16 * p)

/-- The members of a train's low part: the tiles whose index agrees with `ix` above the low `k` bits (spec 05 R161). -/
def blockTiles (ix k : Nat) : List Nat := (List.range (2 ^ k)).map (· + ix / 2 ^ k * 2 ^ k)

/-- Segment letters: 0 to 3 have length 1, 4 has length 4, 5 has length 8 (spec 04 R121). -/
def segLen (k : Nat) : Nat := if k = 5 then 8 else if k = 4 then 4 else 1

/-- The side opposite to `sd` (N 0, E 1, S 2, W 3): where a segment started in that direction arrives (spec 04 R121). -/
def oppSide (sd : Nat) : Nat := (sd + 2) % 4

/-- The coordinate `len` tiles away in direction `sd`, if it lies in the array (spec 04 R121, R123). -/
def stepXY (x y sd len : Nat) : Option (Nat × Nat) :=
  if sd = 0 then (if len ≤ y then some (x, y - len) else none)
  else if sd = 1 then (if x + len < 128 then some (x + len, y) else none)
  else if sd = 2 then (if y + len < 128 then some (x, y + len) else none)
  else (if len ≤ x then some (x - len, y) else none)

/-- Where segment start `j = 6 * side + letter` of tile `i` ends: the tile and its arriving end (spec 04 R121, R127). -/
def segDest (i j : Nat) : Option (Nat × Nat) :=
  (stepXY (tileX i) (tileY i) (j / 6) (segLen (j % 6))).map
    (fun p => (tileAt p.1 p.2, 6 * oppSide (j / 6) + j % 6))

/-- The tile that starts the segment arriving at end `e` of tile `i` (spec 04 R122). -/
def segSource (i e : Nat) : Option Nat :=
  (stepXY (tileX i) (tileY i) (e / 6) (segLen (e % 6))).map (fun p => tileAt p.1 p.2)

/-- Whether the segment arriving at end `e` of tile `i` crosses a field boundary (spec 04 R136). -/
def seamAt (i e : Nat) : Bool :=
  match segSource i e with
  | some src => decide (tileField src ≠ tileField i)
  | none => false

/-- The owner tile of the seam buffer on the track that arrives at end `e` of tile `i`: the tile of the receiving field
that touches the crossing edge (spec 04 R136). -/
def seamOwner (i e : Nat) : Nat :=
  let x := tileX i; let y := tileY i
  if e / 6 = 0 then tileAt x (y / 16 * 16)
  else if e / 6 = 1 then tileAt (x / 16 * 16 + 15) y
  else if e / 6 = 2 then tileAt x (y / 16 * 16 + 15)
  else tileAt (x / 16 * 16) y

/-- Whether side `sd` of tile `i` is a field boundary (spec 04 R136). -/
def boundarySide (i sd : Nat) : Bool :=
  match stepXY (tileX i) (tileY i) sd 1 with
  | some p => decide (tileField (tileAt p.1 p.2) ≠ tileField i)
  | none => false

/-- Whether side `sd` of tile `i` is a quarter seam (spec 04 R138, R147). -/
def quarterSide (i sd : Nat) : Bool :=
  match stepXY (tileX i) (tileY i) sd 1 with
  | some p => decide (tileAt p.1 p.2 / 4096 ≠ i / 4096)
  | none => false

/-- The ends of the tracks that enter tile `own`'s field across side `sd` of `own`: pairs of the receiving tile and the
arriving end, 16 tracks (spec 04 R122, R136). -/
def sideTracks (own sd : Nat) : List (Nat × Nat) :=
  let x := tileX own; let y := tileY own
  let along := fun (d : Nat) =>      -- the tile `d` steps inward from the crossing edge
    if sd = 0 then tileAt x (y + d) else if sd = 1 then tileAt (x - d) y
    else if sd = 2 then tileAt x (y - d) else tileAt (x + d) y
  (List.range 4).map (fun k => (along 0, 6 * sd + k))
    ++ (List.range 4).map (fun d => (along d, 6 * sd + 4))
    ++ (List.range 8).map (fun d => (along d, 6 * sd + 5))

/-- The edge-port tile of group `n = 4 q + g` (spec 01 R26). -/
def edgeTile (n : Nat) : Nat :=
  let q := n / 4; let g := n % 4
  if q = 0 then tileAt 0 (16 * g + 8) else if q = 1 then tileAt 127 (16 * g + 8)
  else if q = 2 then tileAt 0 (64 + 16 * g + 8) else tileAt 127 (64 + 16 * g + 8)

/-- The side of the edge-port tile that faces out: W on a west port, E on an east port (spec 01 R26; spec 04 R123). -/
def edgeSide (n : Nat) : Nat := if n / 4 % 2 = 0 then 3 else 1

/-- The edge group whose tile is `i`, if there is one. -/
def groupOf (i : Nat) : Option Nat := (List.range 16).find? (fun n => edgeTile n == i)

/-- Whether arriving end (or segment start) `e` of tile `i` is an edge-port L1 track, and its group (spec 04 R123). -/
def edgeTrack (i e : Nat) : Option Nat :=
  match groupOf i with
  | some n => if e / 6 = edgeSide n ∧ e % 6 < 4 then some n else none
  | none => none

/-- Whether segment start `j`, and by symmetry arriving end `j`, of tile `i` exists (spec 04 R123). -/
def endExists (i j : Nat) : Bool := (segDest i j).isSome || (edgeTrack i j).isSome

/-- The lowest lane of edge group `n` (spec 01 R26). -/
def groupLane (n : Nat) : Nat := 48 + 4 * n

/-- The fields that a train of 2^`k` tiles with index `ix` covers, in order (spec 01 R21, R31). -/
def trainFields (ix k : Nat) : List Nat :=
  if k ≤ 8 then [ix / 256] else (List.range (2 ^ (k - 8))).map (· + ix / 2 ^ k * 2 ^ (k - 8))

end Sys2Proof.Machine
end

