-- ==== Sys2Proof/Machine/TileParts.lean ====
section
/-! DEFINITION. What one tile holds: its common part (spec 02, 04, 05), the multiply-accumulate part (spec 03) and the
bank part with its queue controller (spec 06). Every tile of the model carries all three parts; the operations use the
part of the tile's kind. -/

namespace Sys2Proof.Machine

/-- Where a latched word came from (spec 02 R42): OUT0, OUT1 or the fork of operand A. -/
inductive LatchSrc where
  | out0 | out1 | fork
  deriving DecidableEq, Repr

/-- A latched word and the segment starts that have not yet accepted it (spec 02 R42). A tile's latches are listed in
the order of the firings that filled them; `after` counts the firings in its pipeline that are older than a fork word
(spec 03 R112; it is 0 for OUT0 and OUT1). -/
structure Latch where
  src : LatchSrc
  word : SWord
  set : List Nat
  after : Nat
  deriving DecidableEq, Repr

/-- One arriving end: the skid buffer, oldest first (spec 04 R131); which readers have taken its head, 0 to 23 the route
drivers and 24 the function unit (spec 02 R41); the words in the seam buffer of its track (spec 04 R137). -/
structure TEnd where
  skid : List SWord := []
  taken : List Nat := []
  seam : List SWord := []
  deriving DecidableEq, Repr

/-- The signals of a chain link (spec 02 R69). -/
structure ChainSig where
  carry : Bool
  eq : Bool
  lt : Bool
  deriving DecidableEq, Repr

/-- What a firing in a pipeline carries to its last stage (spec 03 R113; spec 06 R210). -/
inductive Work where
  /-- the words of a common stream operation or of a wave firing for OUT0, OUT1 and the write-back -/
  | words (out0 out1 wb : Option SWord)
  /-- an M-opcode: its sums, its result tag, whether a factor was POISON (R94), whether R53 applies, operand A as
  consumed, whether it produces results -/
  | mac (s0 s1 : Int) (tag : Tag) (factor psn : Bool) (a : Option SWord) (dump : Bool)
  /-- an M-opcode that produces results, its S3 done: the values that the dump has read, its result tag, their poison marks,
  whether R53 applies, operand A as consumed -/
  | dump (v0 v1 : Int) (tag : Tag) (m0 m1 psn : Bool) (a : Option SWord)
  /-- a B-opcode: result word, flag, operand A as consumed, whether R53 applies -/
  | bank (r : SWord) (flag : Option Bool) (a : Option SWord) (poison : Bool)
  /-- a GWLD waiting for slot `slot` of the reorder buffer; `poison` when an operand carried POISON -/
  | load (slot : Nat) (a : Option SWord) (poison : Bool)
  deriving DecidableEq, Repr

/-- A firing in flight: the frame of its issuing context and its work (spec 03 R112, R113). -/
structure Flight where
  frame : Frame
  work : Work
  deriving DecidableEq, Repr

/-- Whose refill of a Y line it is: an MPUSH at a patch port, or the read of a mirror agent (spec 07 R275, R276). -/
inductive FillOwner where
  | push (ep : Nat) (f : Flit)
  | refetch (f m line : Nat)
  deriving DecidableEq, Repr

/-- A mirror refill under way: the Y line, its bytes, the words written, the cycles that the next one has waited for the Y write
port (spec 03 R99, R101). -/
structure Fill where
  line : Nat
  data : List Byte
  owner : FillOwner
  moved : Nat := 0
  wait : Nat := 0
  /-- its words are written with inverted parity (spec 07 R276) -/
  bad : Bool := false
  deriving DecidableEq, Repr

/-- The multiply-accumulate part (spec 03). -/
structure MPart where
  acc0 : BitVec 80 := 0
  acc1 : BitVec 80 := 0
  init0 : BitVec 80 := 0
  init1 : BitVec 80 := 0
  snap0 : BitVec 16 := 0
  snap1 : BitVec 16 := 0
  psn0 : Bool := false
  psn1 : Bool := false
  /-- the W1C bits of M_STATUS (spec 03 R118) -/
  stat : Reg := 0
  /-- M_CTL.PORT_WAIT (spec 03 R119) -/
  portWait : BitVec 5 := 0x10
  /-- AG[s].W, X, Y at key `3 s + g` (spec 03 R120) -/
  ags : SMap Reg := []
  /-- Y lines marked stale (spec 03 R104) -/
  yStale : List Nat := []
  /-- refills of Y lines under way -/
  fills : List Fill := []
  deriving DecidableEq, Repr

/-- A request that a queue holds (spec 06 R217, R219): the ingress entry of its endpoint; `pop` false for a credit
request. -/
structure Held where
  pop : Bool
  ep : Nat
  entry : Nat
  deriving DecidableEq, Repr

/-- One hardware queue or delay region (spec 06 R212 to R223). A queue's words, oldest first, are `pre`, then the `rows`
rows of the bank from `rd` on, then `asm`, then `incoming`: words of an accepted push for which
no row is free yet (R581). For a delay region `wptr` is the write pointer, `fill` the words written, and `pre` holds the row
`preRow`. -/
structure BQueue where
  pre : List SWord := []
  rd : Nat := 0
  rows : Nat := 0
  asm : List SWord := []
  incoming : List SWord := []
  credited : Nat := 0
  held : List Held := []
  refused : BitVec 16 := 0
  reshaped : BitVec 8 := 0
  levelHit : Bool := false
  eventEn : Bool := false
  popWait : BitVec 8 := 0x40
  /-- NOTIFY shaping: words of the open record stored, and whether its tail is being discarded (spec 06 R221) -/
  notifyPos : Nat := 0
  notifyDrop : Bool := false
  wptr : Nat := 0
  fill : Nat := 0
  preRow : Option Nat := none
  deriving DecidableEq, Repr

/-- One gateway request in flight or answered (spec 06 R210, R224, R226). -/
structure GwSlot where
  load : Bool
  addr : BitVec 64
  data : Word
  /-- the answer: status and data, none while outstanding -/
  answer : Option (Status × Word)
  /-- the answer has been worked off (R225) -/
  seen : Bool := false
  deriving DecidableEq, Repr

/-- The bank part (spec 06). The bank's bytes are in the machine's memory. -/
structure BPart where
  queues : SMap BQueue := []
  /-- the W1C bits of B_STATUS (spec 06 R230) -/
  stat : Reg := 0
  gwLast : BitVec 8 := 0
  netWait : BitVec 5 := 0x10
  eccUnc : BitVec 32 := 0
  eccCorr : BitVec 32 := 0
  bankColl : BitVec 32 := 0
  gwBase : SMap Reg := []
  ownDev : BitVec 16 := 0
  ownMst : BitVec 16 := 0xFFFF
  /-- gateway requests, keyed by reorder-buffer slot (spec 06 R210) -/
  gw : SMap (Option GwSlot) := []
  /-- halves whose corrected data wait to be written back (spec 06 R196) -/
  writeBack : List Nat := []
  /-- the bytes the array side wrote in its last port cycle: bank offset and length (spec 06 R200, R201) -/
  lastWrite : Option (Nat × Nat) := none
  deriving DecidableEq, Repr

/-- One tile. -/
structure Tile where
  /-- L0 to L7 (spec 02 R77) -/
  lreg : SMap SWord := []
  p0 : Bool := false
  p1 : Bool := false
  cnt : Word := 0
  cntLimit : Word := 0xFFFFFFFF
  /-- TILE_STATUS.CUR_CTX (spec 02 R80) -/
  cur : Fin 16 := 0
  poisoned : Bool := false
  wrapped : Bool := false
  turn : Bool := false
  lastTaken : Bool := false
  conflicts : BitVec 16 := 0
  /-- the context frames of slots 0 to 15 (spec 05 R158); an empty slot is invalid (FMT 0) -/
  slots : SMap Frame := []
  /-- the static frame, slot 16 (spec 05 R154) -/
  static : Frame := 0
  latches : List Latch := []
  pipe : List Flight := []
  /-- the oldest firing in flight stands in the last stage, its earlier stages done, and waits for a latch (spec 03 R111) -/
  stuck : Bool := false
  /-- the 24 arriving ends -/
  ends : SMap TEnd := []
  /-- the registered chain link into a tile at u = 0 (spec 02 R73) -/
  chainIn : Option ChainSig := none
  /-- the command arm (spec 05 R180) -/
  arm : Bool := false
  /-- the barrier arm and its CTX (spec 05 R177) -/
  barArm : Option (Fin 16) := none
  /-- a pending injection: its CTX and the command it belongs to (spec 05 R186) -/
  inject : Option (Fin 16 × Nat) := none
  /-- the tile's tree port (spec 05 R173) -/
  treePort : Option TreeCmd := none
  /-- cycles of the field clock at which the tile was last active (the model's measure of R156's quiet cycles) -/
  activeAt : Nat := 0
  /-- a handler context has become current since the latest borrow in its field began (spec 05 R190) -/
  handled : Bool := false
  /-- stalled by a queue misuse until its context changes (spec 06 R221) -/
  stalled : Bool := false
  /-- SINK_CNT_N, E, S, W (spec 04 R148) -/
  sinkCnt : SMap Word := []
  m : MPart := {}
  b : BPart := {}
  deriving DecidableEq, Repr

/-- The CRC of a frame over its bits 255 to 16 (spec 05 R153). -/
def frameCrc (f : Frame) : Nat :=
  crcBytes 16 0x1021 0xFFFF ((List.range 30).map (fun k => BitVec.ofNat 8 (f.toNat / 2 ^ (248 - 8 * k))))

/-- A frame with its CRC put in place (spec 05 R153). -/
def withCrc (f : Frame) : Frame :=
  let v := f.toNat / 65536 * 65536
  BitVec.ofNat 256 (v + frameCrc (BitVec.ofNat 256 v))

/-- The factory static frame of a kind (spec 05 R154, R155). -/
def factoryStatic (k : Kind) : Frame :=
  let kindField : Nat := match k with
    | .a => 0
    | .m => [192, 160, 128, 96, 64, 32].foldl (fun a p => a + 0x00200000 * 2 ^ p) 0
    | .b => 0xFFFF * 2 ^ 208
  withCrc (BitVec.ofNat 256 (kindFmt k * 2 ^ 252 + kindField))

/-- The reset value of an address generator register: STEP 1, LEN 0, BASE 0, PTR 0 (spec 03 R120). -/
def agReset : Reg := 0x00200000

/-- A tile at cold reset (spec 02 R83; spec 05 R157; spec 06 R205, R227): every part at its defaults, the static frame
the factory value of its kind. -/
def Tile.factory (i : Nat) : Tile := { static := factoryStatic (tileKind i) }

end Sys2Proof.Machine
end

