-- ==== Sys2Proof/Machine/BootParts.lean ====
section
/-! DEFINITION. What the loader, the chain, the auditor and the defaults image hold (spec 12; spec 14 R540 to R545), and the
bookkeeping of the seal (spec 09 R344). -/

namespace Sys2Proof.Machine

/-- The loader (spec 12 R442 to R473). -/
structure LoadSt where
  /-- a load runs; its source (1 primary flash, 2 golden flash, 3 chain, 4 CFG_SRC) -/
  active : Bool := false
  source : Nat := 0
  /-- CFG_STATUS.STATE before the load -/
  prior : Nat := 0
  /-- the image header as read; empty before it has been read; that it has been consumed (R484); its bytes so far, from the chain
  (R462) -/
  hdr : List Byte := []
  took : Bool := false
  head : List Byte := []
  /-- the load has passed its header checks and awaits its configuration reset (R442) -/
  resetDue : Bool := false
  /-- body commands may run -/
  body : Bool := false
  /-- region of SELECT_REGION: none the whole device (R448) -/
  region : Option Nat := none
  /-- segments so far, the current key, its index, plaintext bytes under it (R452 to R454) -/
  segs : Nat := 0
  key : List Byte := []
  keyIdx : Nat := 0
  keyBytes : Nat := 0
  /-- decrypted bytes of the segment in the buffer not yet performed (R453) -/
  plain : List Byte := []
  /-- body bytes as stored, taken from the source, and plaintext bytes performed (R450, R455) -/
  stored : List Byte := []
  text : List Byte := []
  /-- payload bytes of the CHAIN_PASS under way that are still to be passed on (R461) -/
  pass : Nat := 0
  /-- order word of STARTUP (R465) -/
  order : Option Nat := none
  /-- slots that the load has written, `32 tile + slot` (R471), and the staged static frames (R470) -/
  written : List Nat := []
  staged : SMap Frame := []
  /-- END has passed its checks (R455) -/
  ended : Bool := false
  /-- the loader has asked for the isolation of the region's field (R470), and the TARGET before it -/
  isoAsked : Bool := false
  /-- cause and status of a failure still to be worked off (R458) -/
  fail : Option (Nat × Status) := none
  /-- the body offset of a failure found when the load was over (R464) -/
  offset : Option Nat := none
  /-- the primary image falls due after a reset or RELOAD_FLASH, the golden image after the primary one failed (R440, R458) -/
  primaryDue : Bool := false
  goldenDue : Bool := false
  /-- steps of the order word still to take in a start-up (R465) -/
  steps : List Nat := []
  starting : Bool := false
  deriving DecidableEq, Repr

/-- The configuration chain (spec 12 R460 to R464): CHN_DONE released by this device; bytes sent on the CHN outputs; what the last of them
put on CHN_D, edge by edge, and the level of CHN_VALID; the body offset at which a leader's own END has passed, until CHN_DONE has been
seen high. -/
structure ChainSt where
  released : Bool := false
  out : List Byte := []
  edges : List (BitVec 4) := []
  valid : Bool := false
  due : Option Nat := none
  deriving DecidableEq, Repr

/-- An operation on the flash pins (spec 12 R456): FL_RESET_N low; the SFDP read; the sequence that enters 8D-8D-8D mode; a read with a
command at an address, so many bytes, at so many MHz, octal DDR or 1-1-1 SDR. -/
inductive FlashOp where
  | reset
  | sfdp
  | enter
  | read (command addr len mhz : Nat) (ddr : Bool)
  deriving DecidableEq, Repr

/-- The flash interface (spec 12 R456, R481): the chip select, the image's address, octal DDR, and the operations of the last access. -/
structure FlashSt where
  cs : Bool := false
  addr : Nat := 0
  ddr : Bool := false
  ops : List FlashOp := []
  deriving DecidableEq, Repr

/-- What the defaults image supplies beside registers (spec 14 R542): the lane board table (empty: absent), the pulls of
GPIO[0] to GPIO[7], the PCIe subsystem IDs. -/
structure DefaultsSt where
  laneTable : List Byte := []
  pulls : List Byte := []
  subVendor : BitVec 16 := 0
  subId : BitVec 16 := 0
  /-- the values that the applied image has given to registers of the host interface and of the ring slots (spec 08 R328; spec 14
  R545) -/
  hostRegs : SMap Reg := []
  deriving DecidableEq, Repr

end Sys2Proof.Machine
end

