-- ==== Sys2Proof/Machine/NetParts.lean ====
section
/-! DEFINITION. What the four networks hold (spec 07): endpoints with their queues, landing slots and ingress, links and
bridges, mirrors and mirror agents. -/

namespace Sys2Proof.Machine

/-- Whose request a landing slot belongs to, and so who takes the response. -/
inductive Owner where
  /-- a gateway request of a B-tile, by reorder-buffer slot (spec 06 R210) -/
  | gw (tile slot : Nat)
  /-- piece `k` of descriptor `id` of ring `r` (spec 08) -/
  | desc (r id k : Nat)
  /-- a mirror agent's read of a line (spec 07 R276) -/
  | refetch (f m line : Nat)
  /-- an MPUSH or INVAL of a mirror's line (spec 07 R275, R276) -/
  | push (m line : Nat)
  /-- the ring engine's pop of a notify binding (spec 08 R320) -/
  | notify (b : Nat)
  /-- a PEEK access of the host (spec 16 R578) -/
  | peek
  /-- the command of expansion `x` to member device `dev` (spec 10 R378) -/
  | train (x dev : Nat)
  deriving DecidableEq, Repr

/-- A reserved landing slot: the request as it was sent, its write data, its owner, its NACKs so far, and whether its
backoff or its response is awaited (spec 07 R265, R270). -/
structure Landing where
  req : Flit
  wdata : List Byte
  owner : Owner
  nacks : Nat := 0
  backoff : Bool := false
  deriving DecidableEq, Repr

/-- A request in an endpoint's ingress (spec 07 R267). -/
structure Ingress where
  req : Flit
  /-- the bytes of a write: at once for up to 8, after GO for more (spec 07 R268) -/
  wdata : Option (List Byte)
  /-- it arrived over tether (spec 09 R337) -/
  remote : Bool := false
  /-- it has passed its checks (spec 07 R267) -/
  checked : Bool := false
  /-- GO has been sent and its data are awaited (spec 07 R269) -/
  go : Bool := false
  /-- a queue holds it (spec 06 R217, R219) -/
  held : Bool := false
  /-- cycles it has waited for its port, as the array side's uses of the port count them (spec 06 R199; spec 03 R101) -/
  wait : Nat := 0
  /-- it has waited a cycle for its port (spec 06 R206) -/
  waited : Bool := false
  /-- it is being performed: words moved so far, in bytes (spec 03 R99; spec 06 R581) -/
  busy : Bool := false
  moved : Nat := 0
  /-- what a read or a pop has gathered so far -/
  part : List Byte := []
  /-- one of its words has failed its parity (spec 03 R102) -/
  bad : Bool := false
  /-- its place in the order in which the ring engine received window accesses (spec 08 R294) -/
  seq : Nat := 0
  /-- it was admitted before its field began to drain (spec 07 R272) -/
  old : Bool := false
  deriving DecidableEq, Repr

/-- An endpoint (spec 07 R248, R264 to R268). The first four flits of an outgoing list are its injection queue; those
behind them wait at the unit that made them. An arrived flit has been ejected and not yet taken. -/
structure Endpoint where
  outReq : List Flit := []
  outRsp : List Flit := []
  outSnp : List Flit := []
  outDat : List Flit := []
  inReq : List Flit := []
  inRsp : List Flit := []
  inSnp : List Flit := []
  inDat : List Flit := []
  landing : SMap (Option Landing) := []
  ingress : SMap (Option Ingress) := []
  nackq : List Flit := []
  /-- flits that FLIT_INJECTION has presented to the router and the router has not yet admitted, by network 0 to 3 -/
  present : SMap (Option Flit) := []
  deriving DecidableEq, Repr

/-- A link as its receiving side sees it: flits still crossing the bridge, oldest first, each with the receiving-clock cycles that
it has spent there, and flits that the router can take (spec 07 R249, R260, R261). A plain link has nothing crossing. -/
structure Link where
  crossing : List (Flit × Nat) := []
  ready : List Flit := []
  deriving DecidableEq, Repr

/-- A mirror's state beside its registers (spec 07 R274, R277): dirty lines, unacknowledged answers per line, whether a
line was updated since the last epoch. -/
structure MirrorSt where
  dirty : List Nat := []
  unacked : SMap Nat := []
  updated : Bool := false
  /-- cycles the read of the next update has waited for the bank port (spec 06 R199) -/
  wait : Nat := 0
  deriving DecidableEq, Repr

/-- A mirror agent's work on one line, keyed `128 m + line` (spec 07 R276). -/
structure Refetch where
  reading : Bool := false
  again : Bool := false
  fails : Nat := 0
  /-- the line has been read and is being written into its holders (spec 03 R101) -/
  filling : Bool := false
  deriving DecidableEq, Repr

/-- A mirror agent (spec 07 R276, R279): lines in work; lines and epochs recorded while the field sleeps. -/
structure Agent where
  work : SMap (Option Refetch) := []
  recLines : List Nat := []
  recEpochs : List Nat := []
  deriving DecidableEq, Repr

end Sys2Proof.Machine
end

