-- ==== Sys2Proof/Machine/FabParts.lean ====
section
/-! DEFINITION. What the command tree (spec 05), the edge groups (spec 06) and the tether fabric (spec 10) hold. -/

namespace Sys2Proof.Machine

/-- A train command that the root has admitted and that is not complete (spec 05 R163 to R179). Its key in `TreeSt.runs`
is its place in the order in which the root admitted commands. -/
structure TreeRun where
  cmd : TreeCmd
  /-- it waits at the root (R172) -/
  waiting : Bool := true
  /-- the fields whose level 3 node still holds it or has not yet had it (R165) -/
  todo : List Nat := []
  /-- the fields whose level 7 nodes present it (R164) -/
  here : List Nat := []
  /-- INJECT: the members that have not performed it; WAKE and POWER: the fields not yet in the end state -/
  left : List Nat := []
  /-- a member has acted on it -/
  acted : Bool := false
  /-- the fields that refused it on the way, or ended it otherwise (R498), with the status -/
  fails : List (Nat × Status) := []
  /-- PHASE 1: this device has answered its arm with OK (spec 10 R379) -/
  answered : Bool := false
  /-- it was checked before the latest seal point (spec 09 R344) -/
  sealed : Bool := false
  deriving DecidableEq, Repr

/-- The command tree. Sources of the root: the ring engine, the tether gateways, the device engines, the tiles' tree
ports, which the tiles themselves hold (spec 05 R172). -/
structure TreeSt where
  fromRing : List TreeCmd := []
  fromGw : List TreeCmd := []
  fromEng : List TreeCmd := []
  runs : SMap (Option TreeRun) := []
  next : Nat := 0
  /-- the source group served last: 0 to 3 in the order above -/
  last : Nat := 3
  deriving DecidableEq, Repr

/-- An expansion held by an anchor, keyed by its command's place in the root (spec 10 R378 to R380): the answers of its
current step, the members not yet sent to, the members sent to and awaited, its step (0 whole command, 1 arm, 2 go,
3 cancel), the members sent an arm, the status for which it is to be cancelled, and the status and count fixed at the
cancellation. -/
structure Expansion where
  answers : List (Nat × Status × Nat) := []
  unsent : List Nat := []
  awaited : List Nat := []
  step : Nat := 0
  armed : List Nat := []
  cancelled : Option Status := none
  verdict : Option (Status × Nat) := none
  deriving DecidableEq, Repr

/-- A proxy entry (spec 10 R373). -/
structure Proxy where
  dev : BitVec 16
  src : BitVec 11
  tag : BitVec 8
  dst : BitVec 11
  deriving DecidableEq, Repr

/-- What one tether port and its gateway hold (spec 10). Maps by buffer are keyed `2 * class + vc`. -/
structure PortSt where
  /-- packets in transit, in the input buffers -/
  buf : SMap (List Packet) := []
  /-- packets of this device that wait for a credit -/
  out : SMap (List Packet) := []
  /-- arrived packets for this device that the gateway has not yet handled -/
  arr : List Packet := []
  /-- arrived control packets not yet handled, with the device time of their arrival in ns (R386) -/
  ctl : List (Packet × Nat) := []
  /-- credits used of each of the neighbour's buffers -/
  used : SMap Nat := []
  /-- credits of our buffers not yet returned to the neighbour -/
  owed : SMap Nat := []
  proxies : SMap (Option Proxy) := []
  /-- the packet last handed to the lanes, and its blocks as the port scrambled them (spec 11 R400) -/
  lastTx : Option Packet := none
  sent : List Block := []
  /-- data blocks of the packet that is arriving (spec 11 R404; spec 10 R389) -/
  rx : List (BitVec 64) := []
  /-- the class, and within each class the input, whose turn is next at this output port (R367) -/
  turn : Nat := 0
  inTurn : SMap Nat := []
  /-- the port has gone down and the loss is still to be worked off (R389) -/
  lost : Bool := false
  deriving DecidableEq, Repr

/-- Fabric time at this device (spec 10 R386 to R388). -/
structure FabTime where
  /-- T1 of the exchange under way -/
  t1 : Option Nat := none
  /-- consecutive exchanges within the lock bound -/
  good : Nat := 0
  /-- what is still to be slewed, in 2^-24 ns / 10^9, and the rate of the slew in parts per 10^9 -/
  slew : Int := 0
  slewRate : Nat := 0
  /-- the rate that SYNC_IN of mode 2 gives, in parts per 10^9 -/
  disc : Int := 0
  /-- the part of a rate adjustment below 2^-24 ns, in units of that / 10^9 -/
  rem : Nat := 0
  deriving DecidableEq, Repr

/-- One edge group (spec 06 R235 to R243): the pack assembler's bytes, the pack core, the read side's word with the wires
already accepted, the unpack slots, the unpack core, and the records' progress. -/
structure GroupSt where
  asm : List Byte := []
  /-- bytes of the record under way so far -/
  recBytes : Nat := 0
  /-- a record is under way on the pack side -/
  inRec : Bool := false
  pack : List (List SWord) := []
  readSide : List (Option SWord) := []
  /-- the dropping state and its count (R239) -/
  dropped : Nat := 0
  /-- the dropping group has met a record end and may leave -/
  atEnd : Bool := false
  slots : SMap (Option SWord) := []
  unpack : List (List SWord) := []
  /-- a record is being sent; the bytes taken from the core and not yet sent; they hold the record's last byte; the record
  is to end with the error termination -/
  sending : Bool := false
  txBytes : List Byte := []
  /-- words of the read-word taken last that stand above the end of a record (R240) -/
  txRest : List SWord := []
  txEnd : Bool := false
  txErr : Bool := false
  /-- bytes of the record under way that have gone to the lanes (spec 11 R429) -/
  txSent : Nat := 0
  /-- what the encoder was last given: its bytes, and whether they are 0 idle, 1 data, 2 a record's end, 3 an error end -/
  lastOut : List Byte := []
  outKind : Nat := 0
  /-- the rest of a record that ran empty is being discarded (R241) -/
  discard : Bool := false
  /-- the unpack write side has taken its last end tag while draining (R242) -/
  closed : Bool := false
  /-- EN was written 1 while ISOLATING (R242) -/
  restart : Bool := false
  deriving DecidableEq, Repr

end Sys2Proof.Machine
end

