-- ==== Sys2Proof/Machine/LaneParts.lean ====
section
/-! DEFINITION. What the serial lanes and the bring-up of the tether ports hold beside their registers (spec 11). -/

namespace Sys2Proof.Machine

/-- How far a receiver's search of the far transmitter's taps has come (spec 11 R417): what it asks of the neighbour. DESIGN CHOICE
(assumption log 93). -/
structure Search where
  /-- the tap, 0 post, 1 pre, 2 main, 3 when the search has ended, and the direction under way: up or down -/
  tap : Nat := 0
  up : Bool := true
  /-- COEF_REQ of that tap as sent, and that the request takes a step back -/
  req : BitVec 2 := 0
  undo : Bool := false
  /-- COEF_STS that has answered the request, while the receiver holds and waits for 0b00 -/
  sts : Option (BitVec 2) := none
  /-- a step has raised the eye in this pass over the taps, and the eye height of what is kept, in the receiver's own units -/
  raised : Bool := false
  eye : Option Nat := none
  deriving DecidableEq, Repr

/-- What an edge lane's decoder makes of a block or a character (spec 11 R430, R431, R433): a record's start, bytes of it, its end with its
last bytes, an error with its code, or something that the receiver discards. -/
inductive EdgeItem where
  | start | bytes (l : List Byte) | fin (l : List Byte) | bad (code : Nat) | skip
  deriving DecidableEq, Repr

/-- One lane. -/
structure LaneSt where
  /-- receive polarity in use: inverted (spec 11 R413); that it has been inverted once in this bring-up; and the polarity that last
  decoded a frame -/
  inv : Bool := false
  tried : Bool := false
  worked : Option Bool := none
  /-- a frame has been decoded since block lock (R413) -/
  decoded : Bool := false
  /-- consecutive decoded frames, to 16, and the LANE field of the last one (R414) -/
  frames : Nat := 0
  laneField : Option Nat := none
  /-- it has decoded 16 such frames with the LANE field that it still decodes (R414) -/
  good : Bool := false
  /-- a frame with PHASE 3 has been decoded at the new rate (R416) -/
  stepped : Bool := false
  /-- frames with PHASE 3 sent at rate 0, to 64; frame times since the first that was decoded, 64 from one with COUNT 0 on (R416) -/
  stepTx : Nat := 0
  stepRx : Option Nat := none
  /-- the neighbour's ADAPT_DONE for the receiver that hears this transmitter (R417), and this receiver's own search -/
  peerDone : Bool := false
  search : Search := {}
  /-- COEF_STS as sent: 2 bits per tap, held while the request stands (R417) -/
  coefSts : BitVec 6 := 0
  /-- the validity of the last 64 headers, newest first (R401), and the descrambler of the lane's own stream (R400) -/
  hdrs : List Bool := []
  rxScr : BitVec 58 := 0
  /-- the scrambler of the lane's own stream (R400), and the blocks that the lane sent last, as they crossed the pins -/
  txScr : BitVec 58 := 0
  line : List Block := []
  /-- rate class of the settings in use (R421) -/
  cls : Nat := 0
  /-- the warden has written EQ since the lane last loaded its settings (R438) -/
  eqSet : Bool := false
  /-- EQ as the lane last loaded it (R421, R438) -/
  board : Reg := 0x0006340200081003
  /-- an edge lane's rate, mode and inversions in use since EN last rose (R427) -/
  rate : BitVec 16 := 0
  mode : BitVec 2 := 0
  txInv : Bool := false
  rxInv : Bool := false
  /-- the state code that a direction's change under way ends in (R426), TX and RX -/
  nextTx : Option Nat := none
  nextRx : Option Nat := none
  /-- the transmitter that enters QUIET or OFF has reached electrical idle, or its power is being removed (R426); the same of RX -/
  idleTx : Bool := false
  idleRx : Bool := false
  /-- the transmit side of an edge lane: a record is open; its bytes that do not yet fill a block; blocks since the last ballast, or
  characters since the last K28.3; running disparity, positive; the characters and the plain bytes sent last (R429 to R432) -/
  txOpen : Bool := false
  txFill : List Byte := []
  since : Nat := 0
  txDisp : Bool := false
  codes : List (BitVec 10) := []
  plain : List Byte := []
  /-- the receive side: running disparity; what has been decoded and not yet deskewed; this lane's share of the record under way, as far
  as it is not packed; slots since its start; its end has come; the code of R433 that ends it in error -/
  rxDisp : Bool := false
  items : List EdgeItem := []
  share : Option (List Byte) := none
  slots : Nat := 0
  ended : Bool := false
  err : Nat := 0
  deriving DecidableEq, Repr

/-- One tether port's bring-up. -/
structure TrainSt where
  /-- identity in the neighbour's frames (R411, R358) -/
  peerId : BitVec 16 := 0
  peerValid : Bool := false
  peerPort : Nat := 0
  peerDims : BitVec 63 := 0
  /-- rate, width and group codes that the neighbour's frames select, and its ACK (R415) -/
  peerSel : Option (Nat × Nat × Nat) := none
  peerAck : Bool := false
  /-- highest rate code that this bring-up still offers (R416) -/
  limit : Nat := 3
  /-- AGREE has found no common rate or width (R415) -/
  noCommon : Bool := false
  /-- blocks in the elastic buffer at the last ballast group (R408) -/
  elastic : Nat := 32
  /-- the last window's errors exceeded the limit (R422) -/
  above : Bool := false
  /-- QUIET_NEXT has been seen in the neighbour's stream (R425) -/
  quietNext : Bool := false
  /-- a step-down is under way: 5 to 2 while 4 to 1 ballast groups are still to carry STEP_DOWN, 1 when all have gone out (R422) -/
  stepDown : Nat := 0
  /-- errors seen in the window under way: invalid headers without FEC; with it, symbols corrected and codewords that could not be
  (R401, R422) -/
  badHdrs : Nat := 0
  symErrs : Nat := 0
  badWords : Nat := 0
  /-- uncorrectable codewords in the page under way -/
  pageBad : Nat := 0
  /-- the last bring-up's group lanes: width code and group, valid from AGREE (R415) -/
  sel : Option (Nat × Nat × Nat) := none
  /-- positions in the PRBS-31 sequence of the test generator and of its checker (spec 10 R385) -/
  prbs : BitVec 31 := 0x7FFFFFFF
  prbsRx : BitVec 31 := 0x7FFFFFFF
  /-- scrambler and descrambler of the port stream (R400), and the place in its page of the next block received (R404) -/
  txScr : BitVec 58 := 0
  rxScr : BitVec 58 := 0
  pos : Nat := 0
  /-- the port stream received runs with FEC (R418); message bits of its codewords that do not yet fill a block (R405) -/
  fec : Bool := false
  rxBits : List Bool := []
  /-- the transmitter: its place in the page, the number of the page, its stream runs with FEC, and READY and FEC_NEXT have gone out
  (R403, R404, R418) -/
  txPos : Nat := 0
  txPage : BitVec 16 := 0
  txFec : Bool := false
  readyOut : Bool := false
  fecOut : Bool := false
  /-- the receiver: ballast groups of equal PAGE have been seen, consecutive good pages, READY from the neighbour, FEC_NEXT from it, and
  consecutive pages without their group at the start (R412, R418, R420) -/
  aligned : Bool := false
  goodPages : Nat := 0
  readyIn : Bool := false
  fecNext : Bool := false
  missed : Nat := 0
  /-- QUIET_NEXT has gone out, and the pages of a wake, with the one that packets may use, that have not begun yet (R425) -/
  quietOut : Bool := false
  wakePages : Nat := 0
  /-- the neighbour check has been made since the lanes came up (spec 10 R358) -/
  checked : Bool := false
  deriving DecidableEq, Repr

end Sys2Proof.Machine
end

