-- ==== Sys2Proof/Machine/LogParts.lean ====
section
/-! DEFINITION. What the trouble log, the event recorder, the non-volatile store and the message-signalled interrupts
hold (spec 14; spec 08 R327). -/

namespace Sys2Proof.Machine

/-- A held report of one log source (spec 14 R524): its time of arrival, the report, its repeat count. -/
structure LogLatch where
  time : Nat
  unit : BitVec 32
  code : BitVec 12
  detail : List Byte
  rep : Nat
  deriving DecidableEq, Repr

/-- The trouble log (spec 14 R523 to R529). -/
structure LogSt where
  /-- the latches, by source -/
  latches : SMap (Option LogLatch) := []
  /-- the words of the entries, keyed `4 slot + k` -/
  words : SMap Reg := []
  /-- the source served last by the log writer (R525) -/
  lastServed : Nat := 255
  /-- the snapshot of W1 to W3 and the entry it belongs to (R529) -/
  snapTag : Option Nat := none
  snap : List Reg := []
  deriving DecidableEq, Repr

/-- The event recorder (spec 14 R531 to R537). The accumulators and the mirror have the layout of R532. -/
structure RecSt where
  acc : SMap Byte := []
  mirror : SMap Byte := []
  /-- wakes of each field at the last minute sample -/
  wakesAt : SMap Nat := []
  /-- a nonce is valid (R535) -/
  nonce : Bool := false
  response : SMap Reg := []
  /-- a commit was asked for within 60 s of the last one (R533) -/
  commitDue : Bool := false
  /-- the copy that was written last (R533), and the time since, in units of 2^-24 ns -/
  last : Nat := 0
  since : Option Nat := none
  deriving DecidableEq, Repr

/-- The non-volatile store and key store (spec 14 R538 to R545). -/
structure NvSt where
  /-- the store's bytes; unlisted ones as `nvErased` says -/
  bytes : SMap Byte := []
  /-- provisioned key store slots, `4 kind + slot` (R540), and their bytes at key `64 (4 kind + slot) + j` -/
  provisioned : List Nat := []
  keys : SMap Byte := []
  /-- NVI_KEY_DATA shows a hash that has been read (R540) -/
  shown : Bool := false
  /-- the clear ledger: TIME and WHO of entry i at keys 2 i and 2 i + 1 (R537) -/
  ledger : SMap Reg := []
  /-- window writes that wait for the earlier word, oldest first: NV offset, size, value, and whether the word will read back
  as written (R539) -/
  waiting : List (Nat × Nat × Reg × Bool) := []
  /-- the NV offset of the word that is being written (R538; spec 15 R563) -/
  writing : Option Nat := none
  deriving DecidableEq, Repr

/-- Message-signalled interrupts, keyed `2048 fn + k`, fn 0 the physical function and v + 1 virtual function v + 1
(spec 08 R327): pending counts, masks, pending bits, messages sent. -/
structure MsixSt where
  /-- the message address and data of each table entry (spec 08 R289, R291) -/
  table : SMap (BitVec 64 × BitVec 32) := []
  pend : SMap Nat := []
  mask : SMap Bool := []
  pba : SMap Bool := []
  sent : SMap Nat := []
  deriving DecidableEq, Repr

end Sys2Proof.Machine
end

