-- ==== Sys2Proof/Machine/Regs.lean ====
section
/-! DEFINITION. The set-up registers, as the spec's field tables give them (spec 06 R245, R246; 07 R283 to R285; 08
R330 to R333; 09 R352 to R354; 10 R393 to R396; 11 R437 to R439; 12 R480 to R484; 13 R519 to R522; 14 R549 to R551;
16 R577): for each register `A.X` its BAR0 offset, `L.X` its fields from bit 63 down (reserved bits left out: they read
zero and ignore writes, spec 00 R8), and for each field `F.X_Y` its place, type and reset value. -/

namespace Sys2Proof.Machine

/-- The BAR0 offsets of the set-up registers (spec 16, BAR0 map). -/
def A.ofStride (base i stride : Nat) : Nat := base + i * stride

def A.ID_PART : Nat := 0x0
def A.ID_REVISION : Nat := 0x8
def A.ID_CAPS : Nat := 0x10
def A.ID_DEVICE : Nat := 0x18
def A.ID_SERIAL : Nat := 0x20
def A.ID_TIME : Nat := 0x40
def A.ID_TIME_SET : Nat := 0x48
def A.PEEK_BASE : Nat := 0x80
def A.HIF_CTL : Nat := 0x10000
def A.HIF_STATUS : Nat := 0x10008
def A.HIF_FUNC_MAP (v : Nat) : Nat := 0x10100 + 0x8 * v
def A.WIN_CTL (w : Nat) : Nat := 0x11000 + 0x20 * w
def A.WIN_BASE (w : Nat) : Nat := 0x11008 + 0x20 * w
def A.WIN_ERR (w : Nat) : Nat := 0x11010 + 0x20 * w
def A.HIF_TUG_CTL : Nat := 0x12000
def A.HIF_TUG_CNT : Nat := 0x12008
def A.HIF_MSIX_MOD (k : Nat) : Nat := 0x18000 + 0x8 * k
def A.HIF_MSIX_MOD_VF (i : Nat) : Nat := 0x1C000 + 0x8 * i
def A.RING_SQ_BASE (r : Nat) : Nat := 0x100000 + 0x40 * r
def A.RING_CQ_BASE (r : Nat) : Nat := 0x100008 + 0x40 * r
def A.RING_DB_ADDR (r : Nat) : Nat := 0x100010 + 0x40 * r
def A.RING_SIZE (r : Nat) : Nat := 0x100018 + 0x40 * r
def A.RING_CTL (r : Nat) : Nat := 0x100020 + 0x40 * r
def A.RING_STATUS (r : Nat) : Nat := 0x100028 + 0x40 * r
def A.RING_MASTER (r : Nat) : Nat := 0x100030 + 0x40 * r
def A.RING_CONFLICTS (r : Nat) : Nat := 0x100038 + 0x40 * r
def A.ACC_W0 (t : Nat) (e : Nat) : Nat := 0x200000 + 0x200 * t + 0x10 * e
def A.ACC_W1 (t : Nat) (e : Nat) : Nat := 0x200008 + 0x200 * t + 0x10 * e
def A.ACC_SEAL : Nat := 0x2F0000
def A.ACC_FAULT : Nat := 0x2F0008
def A.ACC_FAULT_ADDR : Nat := 0x2F0010
def A.ACC_FAULT_CNT : Nat := 0x2F0018
def A.ACC_CTL : Nat := 0x2F0020
def A.PWR_CTL (f : Nat) : Nat := 0x300000 + 0x40 * f
def A.PWR_STATUS (f : Nat) : Nat := 0x300008 + 0x40 * f
def A.PWR_CLK (f : Nat) : Nat := 0x300010 + 0x40 * f
def A.PWR_CEILING : Nat := 0x302000
def A.PWR_TEMP (f : Nat) : Nat := 0x303000 + 0x8 * f
def A.PWR_THERM_CTL : Nat := 0x303800
def A.PWR_THERM_STATUS : Nat := 0x303808
def A.PWR_RESET : Nat := 0x303900
def A.PWR_AVS_CTL : Nat := 0x303A00
def A.PWR_AVS (q : Nat) : Nat := 0x303A08 + 0x8 * q
def A.CLK_AON_CTL : Nat := 0x310000
def A.CLK_AON_STATUS : Nat := 0x310008
def A.CLK_BURNER_CAL : Nat := 0x310010
def A.CLK_REF_STATUS : Nat := 0x310018
def A.CLK_TIME_CTL : Nat := 0x310020
def A.CLK_SYNC_CTL : Nat := 0x310028
def A.CLK_SYNC_CAP : Nat := 0x310030
def A.LANE_CTL (n : Nat) : Nat := 0x400000 + 0x1000 * n
def A.LANE_STATUS (n : Nat) : Nat := 0x400008 + 0x1000 * n
def A.LANE_EQ (n : Nat) : Nat := 0x400010 + 0x1000 * n
def A.LANE_TAPS (n : Nat) : Nat := 0x400018 + 0x1000 * n
def A.LANE_FEC_CNT (n : Nat) : Nat := 0x400020 + 0x1000 * n
def A.LANE_PWR (n : Nat) : Nat := 0x400028 + 0x1000 * n
def A.LANE_TRAIN (n : Nat) : Nat := 0x400030 + 0x1000 * n
def A.FAB_DIMS : Nat := 0x500000
def A.FAB_COORD : Nat := 0x500008
def A.FAB_ANCHOR : Nat := 0x500010
def A.FAB_ROUTE_CTL : Nat := 0x500018
def A.FAB_TIME_CTL : Nat := 0x500020
def A.FAB_TIME_STATUS : Nat := 0x500028
def A.FAB_ERR_CNT : Nat := 0x500030
def A.PORT_CTL (p : Nat) : Nat := 0x500100 + 0x40 * p
def A.PORT_STATUS (p : Nat) : Nat := 0x500108 + 0x40 * p
def A.PORT_TX_CNT (p : Nat) : Nat := 0x500110 + 0x40 * p
def A.PORT_RX_CNT (p : Nat) : Nat := 0x500118 + 0x40 * p
def A.PORT_ERR_CNT (p : Nat) : Nat := 0x500120 + 0x40 * p
def A.FAB_STRING (i : Nat) : Nat := 0x500400 + 0x8 * i
def A.CFG_CTL : Nat := 0x600000
def A.CFG_STATUS : Nat := 0x600008
def A.CFG_FLASH_MAP : Nat := 0x600010
def A.CFG_STARTUP_ORDER : Nat := 0x600018
def A.CFG_KEY_CTL : Nat := 0x600020
def A.CFG_CHAIN_CTL : Nat := 0x600028
def A.CFG_AUDIT_CTL : Nat := 0x600030
def A.CFG_AUDIT_STATUS : Nat := 0x600038
def A.CFG_SRC : Nat := 0x600040
def A.CFG_SRC_LEN : Nat := 0x600048
def A.CFG_PROGRESS : Nat := 0x600050
def A.CFG_REGION (f : Nat) : Nat := 0x600100 + 0x8 * f
def A.LOG_CTL : Nat := 0x700000
def A.LOG_STATUS : Nat := 0x700008
def A.LOG_SUMMARY : Nat := 0x700010
def A.LOG_ENTRY (i : Nat) (k : Nat) : Nat := 0x701000 + 0x20 * i + 0x8 * k
def A.REC_CTL : Nat := 0x710000
def A.REC_STATUS : Nat := 0x710008
def A.REC_CHALLENGE (k : Nat) : Nat := 0x710010 + 0x8 * k
def A.REC_RESPONSE (k : Nat) : Nat := 0x710020 + 0x8 * k
def A.REC_CLEAR : Nat := 0x710040
def A.REC_LEDGER_TIME (i : Nat) : Nat := 0x710100 + 0x10 * i
def A.REC_LEDGER_WHO (i : Nat) : Nat := 0x710108 + 0x10 * i
def A.NVI_CTL : Nat := 0x720000
def A.NVI_STATUS : Nat := 0x720008
def A.NVI_SLOT_SEL : Nat := 0x720010
def A.NVI_KEY_CTL : Nat := 0x720018
def A.NVI_KEY_DATA (k : Nat) : Nat := 0x720040 + 0x8 * k
def A.GRP_CTL (q : Nat) (g : Nat) : Nat := 0x800000 + 0x1000 * q + 0x40 * g
def A.FIFO_LEVEL (q : Nat) (g : Nat) : Nat := 0x800008 + 0x1000 * q + 0x40 * g
def A.FIFO_THRESH (q : Nat) (g : Nat) : Nat := 0x800010 + 0x1000 * q + 0x40 * g
def A.FIFO_STATUS (q : Nat) (g : Nat) : Nat := 0x800018 + 0x1000 * q + 0x40 * g
def A.OVF_CNT (q : Nat) (g : Nat) : Nat := 0x800020 + 0x1000 * q + 0x40 * g
def A.UNF_CNT (q : Nat) (g : Nat) : Nat := 0x800028 + 0x1000 * q + 0x40 * g
def A.NOC_CTL : Nat := 0x900000
def A.NET_CNT (n : Nat) (k : Nat) : Nat := 0x900100 + 0x40 * n + 0x8 * k
def A.DEV_CNT (k : Nat) : Nat := 0x900200 + 0x8 * k
def A.MIRROR_CFG (m : Nat) : Nat := 0x901000 + 0x10 * m
def A.MIRROR_STATE (m : Nat) : Nat := 0x901008 + 0x10 * m

def F.ID_PART_PART : Fld := ⟨31, 16, .ro, false, false, 0x1640⟩
def F.ID_PART_VENDOR : Fld := ⟨15, 0, .ro, false, false, 0x1f4b⟩
def L.ID_PART : List Fld := [F.ID_PART_PART, F.ID_PART_VENDOR]

def F.ID_REVISION_REV : Fld := ⟨15, 0, .ro, false, false, 0⟩
def L.ID_REVISION : List Fld := [F.ID_REVISION_REV]

def F.ID_CAPS_GRADE : Fld := ⟨7, 0, .ro, false, false, 0x14⟩
def L.ID_CAPS : List Fld := [F.ID_CAPS_GRADE]

def F.ID_DEVICE_ID : Fld := ⟨15, 0, .ro, false, true, 0⟩
def L.ID_DEVICE : List Fld := [F.ID_DEVICE_ID]

def F.ID_SERIAL_SERIAL : Fld := ⟨63, 0, .ro, false, false, 0⟩
def L.ID_SERIAL : List Fld := [F.ID_SERIAL_SERIAL]

def F.ID_TIME_TIME : Fld := ⟨63, 0, .ro, false, false, 0⟩
def L.ID_TIME : List Fld := [F.ID_TIME_TIME]

def F.ID_TIME_SET_SECONDS : Fld := ⟨63, 0, .wo, true, false, 0⟩
def L.ID_TIME_SET : List Fld := [F.ID_TIME_SET_SECONDS]

def F.PEEK_BASE_BASE : Fld := ⟨63, 24, .rw, true, false, 0⟩
def L.PEEK_BASE : List Fld := [F.PEEK_BASE_BASE]

def F.HIF_CTL_DRAIN_LIMIT : Fld := ⟨39, 32, .rw, true, true, 0x10⟩
def F.HIF_CTL_W3 : Fld := ⟨31, 24, .rw, true, true, 8⟩
def F.HIF_CTL_W2 : Fld := ⟨23, 16, .rw, true, true, 4⟩
def F.HIF_CTL_W1 : Fld := ⟨15, 8, .rw, true, true, 2⟩
def F.HIF_CTL_W0 : Fld := ⟨7, 0, .rw, true, true, 1⟩
def L.HIF_CTL : List Fld := [F.HIF_CTL_DRAIN_LIMIT, F.HIF_CTL_W3, F.HIF_CTL_W2, F.HIF_CTL_W1, F.HIF_CTL_W0]

def F.HIF_STATUS_RINGS_ON : Fld := ⟨44, 32, .ro, false, false, 0⟩
def F.HIF_STATUS_MAP_REFUSED : Fld := ⟨31, 31, .w1c, false, false, 0⟩
def F.HIF_STATUS_VFS : Fld := ⟨30, 24, .ro, false, false, 0⟩
def F.HIF_STATUS_FLR_BUSY : Fld := ⟨15, 15, .ro, false, false, 0⟩
def F.HIF_STATUS_RATE : Fld := ⟨11, 8, .ro, false, false, 0⟩
def F.HIF_STATUS_WIDTH : Fld := ⟨7, 3, .ro, false, false, 0⟩
def F.HIF_STATUS_FLIT : Fld := ⟨2, 2, .ro, false, false, 0⟩
def F.HIF_STATUS_ANCHOR : Fld := ⟨1, 1, .ro, false, false, 0⟩
def F.HIF_STATUS_LINK_UP : Fld := ⟨0, 0, .ro, false, false, 0⟩
def L.HIF_STATUS : List Fld := [F.HIF_STATUS_RINGS_ON, F.HIF_STATUS_MAP_REFUSED, F.HIF_STATUS_VFS, F.HIF_STATUS_FLR_BUSY, F.HIF_STATUS_RATE, F.HIF_STATUS_WIDTH, F.HIF_STATUS_FLIT, F.HIF_STATUS_ANCHOR, F.HIF_STATUS_LINK_UP]

def F.HIF_FUNC_MAP_EN : Fld := ⟨31, 31, .rw, true, true, 0⟩
def F.HIF_FUNC_MAP_COUNT : Fld := ⟨30, 24, .rw, true, true, 0⟩
def F.HIF_FUNC_MAP_RING_BASE : Fld := ⟨11, 0, .rw, true, true, 0⟩
def L.HIF_FUNC_MAP : List Fld := [F.HIF_FUNC_MAP_EN, F.HIF_FUNC_MAP_COUNT, F.HIF_FUNC_MAP_RING_BASE]

def F.WIN_CTL_EN : Fld := ⟨15, 15, .rw, true, true, 0⟩
def F.WIN_CTL_RELAXED : Fld := ⟨14, 14, .rw, true, true, 0⟩
def F.WIN_CTL_NO_SNOOP : Fld := ⟨13, 13, .rw, true, true, 0⟩
def F.WIN_CTL_FUNC : Fld := ⟨12, 6, .rw, true, true, 0⟩
def F.WIN_CTL_SIZE_LOG2 : Fld := ⟨5, 0, .rw, true, true, 0xc⟩
def L.WIN_CTL : List Fld := [F.WIN_CTL_EN, F.WIN_CTL_RELAXED, F.WIN_CTL_NO_SNOOP, F.WIN_CTL_FUNC, F.WIN_CTL_SIZE_LOG2]

def F.WIN_BASE_ADDR : Fld := ⟨63, 12, .rw, true, true, 0⟩
def L.WIN_BASE : List Fld := [F.WIN_BASE_ADDR]

def F.WIN_ERR_COUNT : Fld := ⟨31, 0, .rw, true, false, 0⟩
def L.WIN_ERR : List Fld := [F.WIN_ERR_COUNT]

def F.HIF_TUG_CTL_IDLE_US : Fld := ⟨63, 48, .rw, true, true, 0x64⟩
def F.HIF_TUG_CTL_POLL_MAX : Fld := ⟨47, 40, .rw, true, true, 0x10⟩
def F.HIF_TUG_CTL_POLL_MIN : Fld := ⟨39, 32, .rw, true, true, 2⟩
def F.HIF_TUG_CTL_BUDGET : Fld := ⟨31, 16, .rw, true, true, 0x40⟩
def F.HIF_TUG_CTL_SLEEP_EN : Fld := ⟨0, 0, .rw, true, true, 1⟩
def L.HIF_TUG_CTL : List Fld := [F.HIF_TUG_CTL_IDLE_US, F.HIF_TUG_CTL_POLL_MAX, F.HIF_TUG_CTL_POLL_MIN, F.HIF_TUG_CTL_BUDGET, F.HIF_TUG_CTL_SLEEP_EN]

def F.HIF_TUG_CNT_COUNT : Fld := ⟨47, 0, .rw, true, false, 0⟩
def L.HIF_TUG_CNT : List Fld := [F.HIF_TUG_CNT_COUNT]

def F.HIF_MSIX_MOD_HOLDOFF : Fld := ⟨23, 8, .rw, true, true, 0⟩
def F.HIF_MSIX_MOD_COUNT : Fld := ⟨7, 0, .rw, true, true, 1⟩
def L.HIF_MSIX_MOD : List Fld := [F.HIF_MSIX_MOD_HOLDOFF, F.HIF_MSIX_MOD_COUNT]

def F.HIF_MSIX_MOD_VF_HOLDOFF : Fld := ⟨23, 8, .rw, true, true, 0⟩
def F.HIF_MSIX_MOD_VF_COUNT : Fld := ⟨7, 0, .rw, true, true, 1⟩
def L.HIF_MSIX_MOD_VF : List Fld := [F.HIF_MSIX_MOD_VF_HOLDOFF, F.HIF_MSIX_MOD_VF_COUNT]

def F.RING_SQ_BASE_ADDR : Fld := ⟨63, 12, .rw, true, false, 0⟩
def L.RING_SQ_BASE : List Fld := [F.RING_SQ_BASE_ADDR]

def F.RING_CQ_BASE_ADDR : Fld := ⟨63, 12, .rw, true, false, 0⟩
def L.RING_CQ_BASE : List Fld := [F.RING_CQ_BASE_ADDR]

def F.RING_DB_ADDR_ADDR : Fld := ⟨63, 7, .rw, true, false, 0⟩
def L.RING_DB_ADDR : List Fld := [F.RING_DB_ADDR_ADDR]

def F.RING_SIZE_CQ_LOG2 : Fld := ⟨12, 8, .rw, true, false, 4⟩
def F.RING_SIZE_SQ_LOG2 : Fld := ⟨4, 0, .rw, true, false, 4⟩
def L.RING_SIZE : List Fld := [F.RING_SIZE_CQ_LOG2, F.RING_SIZE_SQ_LOG2]

def F.RING_CTL_GEN : Fld := ⟨63, 48, .rw, true, false, 0⟩
def F.RING_CTL_VECTOR : Fld := ⟨36, 26, .rw, true, false, 0⟩
def F.RING_CTL_IRQ_EN : Fld := ⟨25, 25, .rw, true, false, 0⟩
def F.RING_CTL_WARDEN : Fld := ⟨24, 24, .rw, true, false, 0⟩
def F.RING_CTL_INFLIGHT_MAX : Fld := ⟨19, 16, .rw, true, false, 8⟩
def F.RING_CTL_BURST : Fld := ⟨15, 8, .rw, true, false, 1⟩
def F.RING_CTL_PRIO : Fld := ⟨5, 4, .rw, true, false, 0⟩
def F.RING_CTL_RELAXED : Fld := ⟨3, 3, .rw, true, false, 0⟩
def F.RING_CTL_NO_SNOOP : Fld := ⟨2, 2, .rw, true, false, 0⟩
def F.RING_CTL_NO_IRQ_OK : Fld := ⟨1, 1, .rw, true, false, 0⟩
def F.RING_CTL_EN : Fld := ⟨0, 0, .rw, true, false, 0⟩
def L.RING_CTL : List Fld := [F.RING_CTL_GEN, F.RING_CTL_VECTOR, F.RING_CTL_IRQ_EN, F.RING_CTL_WARDEN, F.RING_CTL_INFLIGHT_MAX, F.RING_CTL_BURST, F.RING_CTL_PRIO, F.RING_CTL_RELAXED, F.RING_CTL_NO_SNOOP, F.RING_CTL_NO_IRQ_OK, F.RING_CTL_EN]

def F.RING_STATUS_SQ_CONS : Fld := ⟨63, 32, .ro, false, false, 0⟩
def F.RING_STATUS_STATE : Fld := ⟨29, 28, .ro, false, false, 0⟩
def F.RING_STATUS_ASLEEP : Fld := ⟨27, 27, .ro, false, false, 0⟩
def F.RING_STATUS_CQ_FULL : Fld := ⟨26, 26, .ro, false, false, 0⟩
def F.RING_STATUS_RESTART_MERGED : Fld := ⟨25, 25, .w1c, false, false, 0⟩
def F.RING_STATUS_CFG_IGNORED : Fld := ⟨24, 24, .w1c, false, false, 0⟩
def F.RING_STATUS_CFG_REFUSED : Fld := ⟨23, 23, .w1c, false, false, 0⟩
def F.RING_STATUS_STALE_GEN : Fld := ⟨22, 22, .w1c, false, false, 0⟩
def F.RING_STATUS_LOST_POP : Fld := ⟨21, 21, .w1c, false, false, 0⟩
def F.RING_STATUS_COMP_DROPPED : Fld := ⟨20, 20, .w1c, false, false, 0⟩
def F.RING_STATUS_ERR : Fld := ⟨15, 8, .ro, false, false, 0⟩
def F.RING_STATUS_INFLIGHT : Fld := ⟨3, 0, .ro, false, false, 0⟩
def L.RING_STATUS : List Fld := [F.RING_STATUS_SQ_CONS, F.RING_STATUS_STATE, F.RING_STATUS_ASLEEP, F.RING_STATUS_CQ_FULL, F.RING_STATUS_RESTART_MERGED, F.RING_STATUS_CFG_IGNORED, F.RING_STATUS_CFG_REFUSED, F.RING_STATUS_STALE_GEN, F.RING_STATUS_LOST_POP, F.RING_STATUS_COMP_DROPPED, F.RING_STATUS_ERR, F.RING_STATUS_INFLIGHT]

def F.RING_MASTER_ID : Fld := ⟨15, 0, .rw, true, false, 0⟩
def L.RING_MASTER : List Fld := [F.RING_MASTER_ID]

def F.RING_CONFLICTS_COUNT : Fld := ⟨15, 0, .rw, false, false, 0⟩
def L.RING_CONFLICTS : List Fld := [F.RING_CONFLICTS_COUNT]

def F.ACC_W0_MASK : Fld := ⟨63, 32, .rw, true, true, 0⟩
def F.ACC_W0_KEY_DEVICE : Fld := ⟨31, 16, .rw, true, true, 0⟩
def F.ACC_W0_KEY_MASTER : Fld := ⟨15, 0, .rw, true, true, 0⟩
def L.ACC_W0 : List Fld := [F.ACC_W0_MASK, F.ACC_W0_KEY_DEVICE, F.ACC_W0_KEY_MASTER]

def F.ACC_W1_EN : Fld := ⟨15, 15, .rw, true, true, 0⟩
def F.ACC_W1_PERM : Fld := ⟨7, 0, .rw, true, true, 0⟩
def L.ACC_W1 : List Fld := [F.ACC_W1_EN, F.ACC_W1_PERM]

def F.ACC_SEAL_DONE : Fld := ⟨63, 63, .ro, false, false, 1⟩
def F.ACC_SEAL_SEQ : Fld := ⟨47, 32, .ro, false, false, 0⟩
def F.ACC_SEAL_OUTSTANDING : Fld := ⟨31, 1, .ro, false, false, 0⟩
def F.ACC_SEAL_ABORT_HELD : Fld := ⟨0, 0, .wo, false, false, 0⟩
def L.ACC_SEAL : List Fld := [F.ACC_SEAL_DONE, F.ACC_SEAL_SEQ, F.ACC_SEAL_OUTSTANDING, F.ACC_SEAL_ABORT_HELD]

def F.ACC_FAULT_VALID : Fld := ⟨63, 63, .w1c, false, false, 0⟩
def F.ACC_FAULT_OVERRUN : Fld := ⟨62, 62, .w1c, false, false, 0⟩
def F.ACC_FAULT_REMOTE : Fld := ⟨61, 61, .ro, false, false, 0⟩
def F.ACC_FAULT_PERM : Fld := ⟨58, 56, .ro, false, false, 0⟩
def F.ACC_FAULT_STATUS : Fld := ⟨55, 48, .ro, false, false, 0⟩
def F.ACC_FAULT_TARGET : Fld := ⟨47, 40, .ro, false, false, 0⟩
def F.ACC_FAULT_KEY : Fld := ⟨31, 0, .ro, false, false, 0⟩
def L.ACC_FAULT : List Fld := [F.ACC_FAULT_VALID, F.ACC_FAULT_OVERRUN, F.ACC_FAULT_REMOTE, F.ACC_FAULT_PERM, F.ACC_FAULT_STATUS, F.ACC_FAULT_TARGET, F.ACC_FAULT_KEY]

def F.ACC_FAULT_ADDR_TRAIN : Fld := ⟨63, 63, .ro, false, false, 0⟩
def F.ACC_FAULT_ADDR_ADDR : Fld := ⟨47, 0, .ro, false, false, 0⟩
def L.ACC_FAULT_ADDR : List Fld := [F.ACC_FAULT_ADDR_TRAIN, F.ACC_FAULT_ADDR_ADDR]

def F.ACC_FAULT_CNT_NOT_OWNER : Fld := ⟨63, 32, .rw, true, false, 0⟩
def F.ACC_FAULT_CNT_DENIED : Fld := ⟨31, 0, .rw, true, false, 0⟩
def L.ACC_FAULT_CNT : List Fld := [F.ACC_FAULT_CNT_NOT_OWNER, F.ACC_FAULT_CNT_DENIED]

def F.ACC_CTL_SEAL_WAIT : Fld := ⟨23, 8, .rw, true, true, 0x3e8⟩
def F.ACC_CTL_FAULT_IE : Fld := ⟨0, 0, .rw, true, true, 1⟩
def L.ACC_CTL : List Fld := [F.ACC_CTL_SEAL_WAIT, F.ACC_CTL_FAULT_IE]

def F.PWR_CTL_DRAIN_LIMIT : Fld := ⟨63, 48, .rw, true, true, 0x64⟩
def F.PWR_CTL_FRESET : Fld := ⟨15, 15, .w1s, true, false, 0⟩
def F.PWR_CTL_AUTO_IDLE : Fld := ⟨13, 13, .rw, true, true, 1⟩
def F.PWR_CTL_POLICY : Fld := ⟨12, 12, .rw, true, true, 1⟩
def F.PWR_CTL_TARGET : Fld := ⟨2, 0, .rw, true, true, 0⟩
def L.PWR_CTL : List Fld := [F.PWR_CTL_DRAIN_LIMIT, F.PWR_CTL_FRESET, F.PWR_CTL_AUTO_IDLE, F.PWR_CTL_POLICY, F.PWR_CTL_TARGET]

def F.PWR_STATUS_WAKES : Fld := ⟨63, 32, .ro, false, false, 0⟩
def F.PWR_STATUS_STATE : Fld := ⟨27, 24, .ro, false, false, 6⟩
def F.PWR_STATUS_COMPUTE_CLK : Fld := ⟨15, 15, .ro, false, false, 0⟩
def F.PWR_STATUS_TRANSIT_CLK : Fld := ⟨14, 14, .ro, false, false, 0⟩
def F.PWR_STATUS_CAPPED : Fld := ⟨13, 13, .ro, false, false, 0⟩
def F.PWR_STATUS_WAKE_PENDING : Fld := ⟨12, 12, .ro, false, false, 0⟩
def F.PWR_STATUS_FRESET_IGNORED : Fld := ⟨5, 5, .w1c, false, false, 0⟩
def F.PWR_STATUS_FREQ_CLAMP : Fld := ⟨4, 4, .w1c, false, false, 0⟩
def F.PWR_STATUS_DRAIN_CANCELLED : Fld := ⟨3, 3, .w1c, false, false, 0⟩
def F.PWR_STATUS_DRAIN_FORCED : Fld := ⟨2, 2, .w1c, false, false, 0⟩
def F.PWR_STATUS_RESTART_MERGED : Fld := ⟨1, 1, .w1c, false, false, 0⟩
def L.PWR_STATUS : List Fld := [F.PWR_STATUS_WAKES, F.PWR_STATUS_STATE, F.PWR_STATUS_COMPUTE_CLK, F.PWR_STATUS_TRANSIT_CLK, F.PWR_STATUS_CAPPED, F.PWR_STATUS_WAKE_PENDING, F.PWR_STATUS_FRESET_IGNORED, F.PWR_STATUS_FREQ_CLAMP, F.PWR_STATUS_DRAIN_CANCELLED, F.PWR_STATUS_DRAIN_FORCED, F.PWR_STATUS_RESTART_MERGED]

def F.PWR_CLK_EFFECTIVE : Fld := ⟨46, 40, .ro, false, false, 0⟩
def F.PWR_CLK_CAL_ERR : Fld := ⟨31, 16, .ro, false, false, 0⟩
def F.PWR_CLK_CAP : Fld := ⟨14, 8, .ro, false, false, 0x78⟩
def F.PWR_CLK_FREQ : Fld := ⟨6, 0, .rw, true, true, 0x78⟩
def L.PWR_CLK : List Fld := [F.PWR_CLK_EFFECTIVE, F.PWR_CLK_CAL_ERR, F.PWR_CLK_CAP, F.PWR_CLK_FREQ]

def F.PWR_CEILING_EST : Fld := ⟨63, 48, .ro, false, false, 0⟩
def F.PWR_CEILING_HYST : Fld := ⟨31, 24, .rw, true, true, 0xa⟩
def F.PWR_CEILING_EN : Fld := ⟨16, 16, .rw, true, true, 1⟩
def F.PWR_CEILING_WATTS : Fld := ⟨15, 0, .rw, true, true, 0x1c2⟩
def L.PWR_CEILING : List Fld := [F.PWR_CEILING_EST, F.PWR_CEILING_HYST, F.PWR_CEILING_EN, F.PWR_CEILING_WATTS]

def F.PWR_TEMP_SENSOR_0 : Fld := ⟨15, 0, .ro, false, false, 0⟩
def F.PWR_TEMP_SENSOR_1 : Fld := ⟨31, 16, .ro, false, false, 0⟩
def F.PWR_TEMP_SENSOR_2 : Fld := ⟨47, 32, .ro, false, false, 0⟩
def F.PWR_TEMP_SENSOR_3 : Fld := ⟨63, 48, .ro, false, false, 0⟩
def L.PWR_TEMP : List Fld := [F.PWR_TEMP_SENSOR_0, F.PWR_TEMP_SENSOR_1, F.PWR_TEMP_SENSOR_2, F.PWR_TEMP_SENSOR_3]

def F.PWR_THERM_CTL_ALERT_HI : Fld := ⟨31, 24, .rw, true, true, 0x69⟩
def F.PWR_THERM_CTL_ALERT_LO : Fld := ⟨23, 16, .rw, true, true, 0x64⟩
def F.PWR_THERM_CTL_TRIP_CLR : Fld := ⟨2, 2, .w1s, true, false, 0⟩
def F.PWR_THERM_CTL_IE : Fld := ⟨1, 1, .rw, true, true, 1⟩
def F.PWR_THERM_CTL_ALERT_EN : Fld := ⟨0, 0, .rw, true, true, 1⟩
def L.PWR_THERM_CTL : List Fld := [F.PWR_THERM_CTL_ALERT_HI, F.PWR_THERM_CTL_ALERT_LO, F.PWR_THERM_CTL_TRIP_CLR, F.PWR_THERM_CTL_IE, F.PWR_THERM_CTL_ALERT_EN]

def F.PWR_THERM_STATUS_TMAX : Fld := ⟨63, 48, .ro, false, false, 0⟩
def F.PWR_THERM_STATUS_TMAX_FIELD : Fld := ⟨47, 40, .ro, false, false, 0⟩
def F.PWR_THERM_STATUS_SENSOR_FAIL : Fld := ⟨5, 5, .w1c, false, false, 0⟩
def F.PWR_THERM_STATUS_TRIPPED : Fld := ⟨4, 4, .ro, false, false, 0⟩
def F.PWR_THERM_STATUS_TRIP_SEEN : Fld := ⟨3, 3, .w1c, false, false, 0⟩
def F.PWR_THERM_STATUS_THERM : Fld := ⟨2, 2, .ro, false, false, 0⟩
def F.PWR_THERM_STATUS_ALERT : Fld := ⟨1, 1, .ro, false, false, 0⟩
def L.PWR_THERM_STATUS : List Fld := [F.PWR_THERM_STATUS_TMAX, F.PWR_THERM_STATUS_TMAX_FIELD, F.PWR_THERM_STATUS_SENSOR_FAIL, F.PWR_THERM_STATUS_TRIPPED, F.PWR_THERM_STATUS_TRIP_SEEN, F.PWR_THERM_STATUS_THERM, F.PWR_THERM_STATUS_ALERT]

def F.PWR_RESET_LAST : Fld := ⟨15, 8, .ro, false, false, 0⟩
def F.PWR_RESET_DEVICE : Fld := ⟨1, 1, .w1s, true, false, 0⟩
def L.PWR_RESET : List Fld := [F.PWR_RESET_LAST, F.PWR_RESET_DEVICE]

def F.PWR_AVS_CTL_VOFFSET3 : Fld := ⟨47, 40, .ro, false, false, 0⟩
def F.PWR_AVS_CTL_VOFFSET2 : Fld := ⟨39, 32, .ro, false, false, 0⟩
def F.PWR_AVS_CTL_VOFFSET1 : Fld := ⟨31, 24, .ro, false, false, 0⟩
def F.PWR_AVS_CTL_VOFFSET0 : Fld := ⟨23, 16, .ro, false, false, 0⟩
def F.PWR_AVS_CTL_SETTLE_US : Fld := ⟨15, 8, .rw, true, true, 2⟩
def F.PWR_AVS_CTL_EN : Fld := ⟨0, 0, .rw, true, true, 1⟩
def L.PWR_AVS_CTL : List Fld := [F.PWR_AVS_CTL_VOFFSET3, F.PWR_AVS_CTL_VOFFSET2, F.PWR_AVS_CTL_VOFFSET1, F.PWR_AVS_CTL_VOFFSET0, F.PWR_AVS_CTL_SETTLE_US, F.PWR_AVS_CTL_EN]

def F.PWR_AVS_ERR : Fld := ⟨63, 63, .w1c, false, false, 0⟩
def F.PWR_AVS_V_READ : Fld := ⟨47, 32, .ro, false, false, 0⟩
def F.PWR_AVS_V_SET : Fld := ⟨15, 0, .ro, false, false, 0⟩
def L.PWR_AVS : List Fld := [F.PWR_AVS_ERR, F.PWR_AVS_V_READ, F.PWR_AVS_V_SET]

def F.CLK_AON_CTL_DEEP_EN : Fld := ⟨2, 2, .rw, true, true, 0⟩
def F.CLK_AON_CTL_SRC : Fld := ⟨1, 0, .rw, true, true, 0⟩
def L.CLK_AON_CTL : List Fld := [F.CLK_AON_CTL_DEEP_EN, F.CLK_AON_CTL_SRC]

def F.CLK_AON_STATUS_SWITCHED : Fld := ⟨2, 2, .w1c, false, false, 0⟩
def F.CLK_AON_STATUS_AONCLK_PRESENT : Fld := ⟨1, 1, .ro, false, false, 0⟩
def F.CLK_AON_STATUS_USING_RC : Fld := ⟨0, 0, .ro, false, false, 1⟩
def L.CLK_AON_STATUS : List Fld := [F.CLK_AON_STATUS_SWITCHED, F.CLK_AON_STATUS_AONCLK_PRESENT, F.CLK_AON_STATUS_USING_RC]

def F.CLK_BURNER_CAL_FAIL_CNT : Fld := ⟨31, 16, .rw, true, false, 0⟩
def F.CLK_BURNER_CAL_INTERVAL : Fld := ⟨15, 8, .rw, true, true, 1⟩
def L.CLK_BURNER_CAL : List Fld := [F.CLK_BURNER_CAL_FAIL_CNT, F.CLK_BURNER_CAL_INTERVAL]

def F.CLK_REF_STATUS_LOST : Fld := ⟨13, 8, .w1c, false, false, 0⟩
def F.CLK_REF_STATUS_LN_Q : Fld := ⟨5, 2, .ro, false, false, 0⟩
def F.CLK_REF_STATUS_PCIE : Fld := ⟨1, 1, .ro, false, false, 0⟩
def F.CLK_REF_STATUS_AON : Fld := ⟨0, 0, .ro, false, false, 0⟩
def L.CLK_REF_STATUS : List Fld := [F.CLK_REF_STATUS_LOST, F.CLK_REF_STATUS_LN_Q, F.CLK_REF_STATUS_PCIE, F.CLK_REF_STATUS_AON]

def F.CLK_TIME_CTL_RATE_PPB : Fld := ⟨63, 32, .rw, true, false, 0⟩
def L.CLK_TIME_CTL : List Fld := [F.CLK_TIME_CTL_RATE_PPB]

def F.CLK_SYNC_CTL_FILTER_NS : Fld := ⟨15, 8, .rw, true, true, 0xa⟩
def F.CLK_SYNC_CTL_EDGE : Fld := ⟨1, 1, .rw, true, true, 0⟩
def F.CLK_SYNC_CTL_EN : Fld := ⟨0, 0, .rw, true, true, 0⟩
def L.CLK_SYNC_CTL : List Fld := [F.CLK_SYNC_CTL_FILTER_NS, F.CLK_SYNC_CTL_EDGE, F.CLK_SYNC_CTL_EN]

def F.CLK_SYNC_CAP_TIME : Fld := ⟨63, 0, .ro, false, false, 0⟩
def L.CLK_SYNC_CAP : List Fld := [F.CLK_SYNC_CAP_TIME]

def F.LANE_CTL_STEP_LIMIT : Fld := ⟨47, 40, .rw, true, true, 0x40⟩
def F.LANE_CTL_RATE_MASK : Fld := ⟨39, 36, .rw, true, true, 0xf⟩
def F.LANE_CTL_EDGE_RATE : Fld := ⟨31, 16, .rw, true, true, 0⟩
def F.LANE_CTL_MODE : Fld := ⟨15, 14, .rw, true, true, 1⟩
def F.LANE_CTL_REALIGN : Fld := ⟨13, 13, .w1s, true, false, 0⟩
def F.LANE_CTL_TX_INV : Fld := ⟨12, 12, .rw, true, true, 0⟩
def F.LANE_CTL_RX_INV : Fld := ⟨11, 11, .rw, true, true, 0⟩
def F.LANE_CTL_IE : Fld := ⟨9, 9, .rw, true, true, 1⟩
def F.LANE_CTL_RETRAIN : Fld := ⟨8, 8, .w1s, true, false, 0⟩
def F.LANE_CTL_EN : Fld := ⟨0, 0, .rw, true, true, 1⟩
def L.LANE_CTL : List Fld := [F.LANE_CTL_STEP_LIMIT, F.LANE_CTL_RATE_MASK, F.LANE_CTL_EDGE_RATE, F.LANE_CTL_MODE, F.LANE_CTL_REALIGN, F.LANE_CTL_TX_INV, F.LANE_CTL_RX_INV, F.LANE_CTL_IE, F.LANE_CTL_RETRAIN, F.LANE_CTL_EN]

def F.LANE_STATUS_STATE : Fld := ⟨31, 28, .ro, false, false, 0⟩
def F.LANE_STATUS_RATE : Fld := ⟨27, 26, .ro, false, false, 0⟩
def F.LANE_STATUS_WIDTH : Fld := ⟨25, 24, .ro, false, false, 0⟩
def F.LANE_STATUS_GROUP : Fld := ⟨23, 21, .ro, false, false, 0⟩
def F.LANE_STATUS_REVERSED : Fld := ⟨20, 20, .ro, false, false, 0⟩
def F.LANE_STATUS_RX_INVERTED : Fld := ⟨19, 19, .ro, false, false, 0⟩
def F.LANE_STATUS_LOS : Fld := ⟨18, 18, .ro, false, false, 1⟩
def F.LANE_STATUS_LOL : Fld := ⟨17, 17, .ro, false, false, 1⟩
def F.LANE_STATUS_LOCKED : Fld := ⟨16, 16, .ro, false, false, 0⟩
def F.LANE_STATUS_WORD_RATE_ERR : Fld := ⟨7, 7, .w1c, false, false, 0⟩
def F.LANE_STATUS_ELASTIC_ERR : Fld := ⟨6, 6, .w1c, false, false, 0⟩
def F.LANE_STATUS_RESTART_MERGED : Fld := ⟨5, 5, .w1c, false, false, 0⟩
def F.LANE_STATUS_STEPPED_DOWN : Fld := ⟨4, 4, .w1c, false, false, 0⟩
def F.LANE_STATUS_ADAPT_TIMEOUT : Fld := ⟨3, 3, .w1c, false, false, 0⟩
def F.LANE_STATUS_WIDTH_REDUCED : Fld := ⟨2, 2, .w1c, false, false, 0⟩
def F.LANE_STATUS_FAILED : Fld := ⟨1, 1, .w1c, false, false, 0⟩
def L.LANE_STATUS : List Fld := [F.LANE_STATUS_STATE, F.LANE_STATUS_RATE, F.LANE_STATUS_WIDTH, F.LANE_STATUS_GROUP, F.LANE_STATUS_REVERSED, F.LANE_STATUS_RX_INVERTED, F.LANE_STATUS_LOS, F.LANE_STATUS_LOL, F.LANE_STATUS_LOCKED, F.LANE_STATUS_WORD_RATE_ERR, F.LANE_STATUS_ELASTIC_ERR, F.LANE_STATUS_RESTART_MERGED, F.LANE_STATUS_STEPPED_DOWN, F.LANE_STATUS_ADAPT_TIMEOUT, F.LANE_STATUS_WIDTH_REDUCED, F.LANE_STATUS_FAILED]

def F.LANE_EQ_POST : Fld := ⟨52, 48, .rw, true, true, 6⟩
def F.LANE_EQ_MAIN : Fld := ⟨45, 40, .rw, true, true, 0x34⟩
def F.LANE_EQ_PRE : Fld := ⟨35, 32, .rw, true, true, 2⟩
def F.LANE_EQ_CTLE : Fld := ⟨20, 16, .rw, true, true, 8⟩
def F.LANE_EQ_VGA : Fld := ⟨12, 8, .rw, true, true, 0x10⟩
def F.LANE_EQ_CDR_BW : Fld := ⟨2, 0, .rw, true, true, 3⟩
def L.LANE_EQ : List Fld := [F.LANE_EQ_POST, F.LANE_EQ_MAIN, F.LANE_EQ_PRE, F.LANE_EQ_CTLE, F.LANE_EQ_VGA, F.LANE_EQ_CDR_BW]

def F.LANE_TAPS_POST : Fld := ⟨52, 48, .rw, true, false, 6⟩
def F.LANE_TAPS_MAIN : Fld := ⟨45, 40, .rw, true, false, 0x34⟩
def F.LANE_TAPS_PRE : Fld := ⟨35, 32, .rw, true, false, 2⟩
def L.LANE_TAPS : List Fld := [F.LANE_TAPS_POST, F.LANE_TAPS_MAIN, F.LANE_TAPS_PRE]

def F.LANE_FEC_CNT_CORR : Fld := ⟨63, 32, .rw, true, false, 0⟩
def F.LANE_FEC_CNT_UNCORR : Fld := ⟨31, 0, .rw, true, false, 0⟩
def L.LANE_FEC_CNT : List Fld := [F.LANE_FEC_CNT_CORR, F.LANE_FEC_CNT_UNCORR]

def F.LANE_PWR_AUTO_US : Fld := ⟨63, 48, .rw, true, true, 0⟩
def F.LANE_PWR_RX_AUTO : Fld := ⟨8, 8, .rw, true, true, 0⟩
def F.LANE_PWR_TX_REQ : Fld := ⟨7, 6, .rw, true, true, 0⟩
def F.LANE_PWR_RX_REQ : Fld := ⟨5, 4, .rw, true, true, 0⟩
def F.LANE_PWR_TX_STATE : Fld := ⟨3, 2, .ro, false, false, 2⟩
def F.LANE_PWR_RX_STATE : Fld := ⟨1, 0, .ro, false, false, 2⟩
def L.LANE_PWR : List Fld := [F.LANE_PWR_AUTO_US, F.LANE_PWR_RX_AUTO, F.LANE_PWR_TX_REQ, F.LANE_PWR_RX_REQ, F.LANE_PWR_TX_STATE, F.LANE_PWR_RX_STATE]

def F.LANE_TRAIN_ALIGN_PAT : Fld := ⟨63, 32, .rw, true, true, 0xf5a96c3⟩
def F.LANE_TRAIN_RATE_CAP : Fld := ⟨31, 30, .rw, true, true, 3⟩
def F.LANE_TRAIN_PEER_RATES : Fld := ⟨29, 26, .ro, false, false, 0⟩
def F.LANE_TRAIN_PEER_GOOD : Fld := ⟨25, 18, .ro, false, false, 0⟩
def F.LANE_TRAIN_OWN_GOOD : Fld := ⟨17, 10, .ro, false, false, 0⟩
def F.LANE_TRAIN_ADAPT_STEPS : Fld := ⟨9, 0, .ro, false, false, 0⟩
def L.LANE_TRAIN : List Fld := [F.LANE_TRAIN_ALIGN_PAT, F.LANE_TRAIN_RATE_CAP, F.LANE_TRAIN_PEER_RATES, F.LANE_TRAIN_PEER_GOOD, F.LANE_TRAIN_OWN_GOOD, F.LANE_TRAIN_ADAPT_STEPS]

def F.FAB_DIMS_BX : Fld := ⟨62, 58, .rw, true, true, 0x10⟩
def F.FAB_DIMS_BY : Fld := ⟨57, 53, .rw, true, true, 0⟩
def F.FAB_DIMS_BZ : Fld := ⟨52, 48, .rw, true, true, 0⟩
def F.FAB_DIMS_NX_M1 : Fld := ⟨47, 32, .rw, true, true, 0⟩
def F.FAB_DIMS_NY_M1 : Fld := ⟨31, 16, .rw, true, true, 0⟩
def F.FAB_DIMS_NZ_M1 : Fld := ⟨15, 0, .rw, true, true, 0⟩
def L.FAB_DIMS : List Fld := [F.FAB_DIMS_BX, F.FAB_DIMS_BY, F.FAB_DIMS_BZ, F.FAB_DIMS_NX_M1, F.FAB_DIMS_NY_M1, F.FAB_DIMS_NZ_M1]

def F.FAB_COORD_VALID : Fld := ⟨63, 63, .ro, false, true, 0⟩
def F.FAB_COORD_ENUM : Fld := ⟨62, 62, .rw, true, true, 0⟩
def F.FAB_COORD_SOURCE : Fld := ⟨61, 60, .ro, false, true, 0⟩
def F.FAB_COORD_ID : Fld := ⟨15, 0, .rw, true, true, 0⟩
def L.FAB_COORD : List Fld := [F.FAB_COORD_VALID, F.FAB_COORD_ENUM, F.FAB_COORD_SOURCE, F.FAB_COORD_ID]

def F.FAB_ANCHOR_VALID : Fld := ⟨63, 63, .rw, true, true, 0⟩
def F.FAB_ANCHOR_SOURCE : Fld := ⟨62, 61, .ro, false, true, 0⟩
def F.FAB_ANCHOR_LEASE_MS : Fld := ⟨47, 32, .rw, true, true, 0x64⟩
def F.FAB_ANCHOR_ANCHOR_ID : Fld := ⟨15, 0, .rw, true, true, 0⟩
def L.FAB_ANCHOR : List Fld := [F.FAB_ANCHOR_VALID, F.FAB_ANCHOR_SOURCE, F.FAB_ANCHOR_LEASE_MS, F.FAB_ANCHOR_ANCHOR_ID]

def F.FAB_ROUTE_CTL_RSP_TIMEOUT : Fld := ⟨63, 48, .rw, true, true, 0x3e8⟩
def F.FAB_ROUTE_CTL_HOP_LIMIT : Fld := ⟨47, 40, .rw, true, true, 0x80⟩
def F.FAB_ROUTE_CTL_IE : Fld := ⟨1, 1, .rw, true, true, 1⟩
def F.FAB_ROUTE_CTL_DETOUR : Fld := ⟨0, 0, .rw, true, true, 0⟩
def L.FAB_ROUTE_CTL : List Fld := [F.FAB_ROUTE_CTL_RSP_TIMEOUT, F.FAB_ROUTE_CTL_HOP_LIMIT, F.FAB_ROUTE_CTL_IE, F.FAB_ROUTE_CTL_DETOUR]

def F.FAB_TIME_CTL_MASTER_ID : Fld := ⟨63, 48, .rw, true, true, 0⟩
def F.FAB_TIME_CTL_STEP_NS : Fld := ⟨47, 32, .rw, true, true, 0x3e8⟩
def F.FAB_TIME_CTL_INTERVAL_US : Fld := ⟨31, 16, .rw, true, true, 0x3e8⟩
def F.FAB_TIME_CTL_SYNC_MODE : Fld := ⟨5, 4, .rw, true, true, 0⟩
def F.FAB_TIME_CTL_MASTER : Fld := ⟨1, 1, .rw, true, true, 0⟩
def F.FAB_TIME_CTL_EN : Fld := ⟨0, 0, .rw, true, true, 1⟩
def L.FAB_TIME_CTL : List Fld := [F.FAB_TIME_CTL_MASTER_ID, F.FAB_TIME_CTL_STEP_NS, F.FAB_TIME_CTL_INTERVAL_US, F.FAB_TIME_CTL_SYNC_MODE, F.FAB_TIME_CTL_MASTER, F.FAB_TIME_CTL_EN]

def F.FAB_TIME_STATUS_OFFSET : Fld := ⟨63, 32, .ro, false, false, 0⟩
def F.FAB_TIME_STATUS_HOPS : Fld := ⟨31, 24, .ro, false, false, 0⟩
def F.FAB_TIME_STATUS_PARENT : Fld := ⟨23, 21, .ro, false, false, 0⟩
def F.FAB_TIME_STATUS_SYNC_LOST : Fld := ⟨3, 3, .ro, false, false, 0⟩
def F.FAB_TIME_STATUS_HOLDOVER : Fld := ⟨2, 2, .ro, false, false, 0⟩
def F.FAB_TIME_STATUS_LOCKED : Fld := ⟨1, 1, .ro, false, false, 0⟩
def F.FAB_TIME_STATUS_STEPPED : Fld := ⟨0, 0, .w1c, false, false, 0⟩
def L.FAB_TIME_STATUS : List Fld := [F.FAB_TIME_STATUS_OFFSET, F.FAB_TIME_STATUS_HOPS, F.FAB_TIME_STATUS_PARENT, F.FAB_TIME_STATUS_SYNC_LOST, F.FAB_TIME_STATUS_HOLDOVER, F.FAB_TIME_STATUS_LOCKED, F.FAB_TIME_STATUS_STEPPED]

def F.FAB_ERR_CNT_UNREACHABLE : Fld := ⟨63, 48, .rw, true, false, 0⟩
def F.FAB_ERR_CNT_HOP_DISCARD : Fld := ⟨47, 32, .rw, true, false, 0⟩
def F.FAB_ERR_CNT_RSP_TIMEOUT : Fld := ⟨31, 16, .rw, true, false, 0⟩
def F.FAB_ERR_CNT_PROXY_FULL : Fld := ⟨15, 0, .rw, true, false, 0⟩
def L.FAB_ERR_CNT : List Fld := [F.FAB_ERR_CNT_UNREACHABLE, F.FAB_ERR_CNT_HOP_DISCARD, F.FAB_ERR_CNT_RSP_TIMEOUT, F.FAB_ERR_CNT_PROXY_FULL]

def F.PORT_CTL_HAIRPIN : Fld := ⟨9, 8, .rw, true, true, 0⟩
def F.PORT_CTL_TEST_EN : Fld := ⟨1, 1, .rw, true, false, 0⟩
def F.PORT_CTL_EN : Fld := ⟨0, 0, .rw, true, true, 1⟩
def L.PORT_CTL : List Fld := [F.PORT_CTL_HAIRPIN, F.PORT_CTL_TEST_EN, F.PORT_CTL_EN]

def F.PORT_STATUS_NEIGHBOUR : Fld := ⟨63, 48, .ro, false, false, 0⟩
def F.PORT_STATUS_NEIGHBOUR_PORT : Fld := ⟨47, 45, .ro, false, false, 0⟩
def F.PORT_STATUS_OWN_ID_SEEN : Fld := ⟨7, 7, .w1c, false, false, 0⟩
def F.PORT_STATUS_MISMATCH : Fld := ⟨6, 6, .w1c, false, false, 0⟩
def F.PORT_STATUS_MISCABLED : Fld := ⟨5, 5, .w1c, false, false, 0⟩
def F.PORT_STATUS_DOWN_EVENT : Fld := ⟨4, 4, .w1c, false, false, 0⟩
def F.PORT_STATUS_STATE : Fld := ⟨1, 0, .ro, false, false, 0⟩
def L.PORT_STATUS : List Fld := [F.PORT_STATUS_NEIGHBOUR, F.PORT_STATUS_NEIGHBOUR_PORT, F.PORT_STATUS_OWN_ID_SEEN, F.PORT_STATUS_MISMATCH, F.PORT_STATUS_MISCABLED, F.PORT_STATUS_DOWN_EVENT, F.PORT_STATUS_STATE]

def F.PORT_TX_CNT_COUNT : Fld := ⟨47, 0, .rw, true, false, 0⟩
def L.PORT_TX_CNT : List Fld := [F.PORT_TX_CNT_COUNT]

def F.PORT_RX_CNT_COUNT : Fld := ⟨47, 0, .rw, true, false, 0⟩
def L.PORT_RX_CNT : List Fld := [F.PORT_RX_CNT_COUNT]

def F.PORT_ERR_CNT_HCRC_BAD : Fld := ⟨63, 48, .rw, true, false, 0⟩
def F.PORT_ERR_CNT_CRC_BAD : Fld := ⟨47, 32, .rw, true, false, 0⟩
def F.PORT_ERR_CNT_DISCARDED : Fld := ⟨31, 16, .rw, true, false, 0⟩
def F.PORT_ERR_CNT_TEST_ERR : Fld := ⟨15, 0, .rw, true, false, 0⟩
def L.PORT_ERR_CNT : List Fld := [F.PORT_ERR_CNT_HCRC_BAD, F.PORT_ERR_CNT_CRC_BAD, F.PORT_ERR_CNT_DISCARDED, F.PORT_ERR_CNT_TEST_ERR]

def F.FAB_STRING_EN : Fld := ⟨63, 63, .rw, true, true, 0⟩
def F.FAB_STRING_STATE : Fld := ⟨17, 16, .ro, false, false, 0⟩
def F.FAB_STRING_DEVICE : Fld := ⟨15, 0, .rw, true, true, 0⟩
def L.FAB_STRING : List Fld := [F.FAB_STRING_EN, F.FAB_STRING_STATE, F.FAB_STRING_DEVICE]

def F.CFG_CTL_IE : Fld := ⟨5, 5, .rw, true, true, 1⟩
def F.CFG_CTL_FORCE_FULL : Fld := ⟨4, 4, .rw, true, false, 0⟩
def F.CFG_CTL_RELOAD_FLASH : Fld := ⟨3, 3, .w1s, true, false, 0⟩
def F.CFG_CTL_ABORT : Fld := ⟨2, 2, .w1s, true, false, 0⟩
def F.CFG_CTL_START : Fld := ⟨1, 1, .w1s, true, false, 0⟩
def L.CFG_CTL : List Fld := [F.CFG_CTL_IE, F.CFG_CTL_FORCE_FULL, F.CFG_CTL_RELOAD_FLASH, F.CFG_CTL_ABORT, F.CFG_CTL_START]

def F.CFG_STATUS_LAST_STATUS : Fld := ⟨63, 56, .ro, false, false, 0⟩
def F.CFG_STATUS_CAUSE : Fld := ⟨55, 48, .ro, false, false, 0⟩
def F.CFG_STATUS_SOURCE : Fld := ⟨47, 45, .ro, false, false, 0⟩
def F.CFG_STATUS_STATE : Fld := ⟨44, 42, .ro, false, false, 0⟩
def F.CFG_STATUS_SDR : Fld := ⟨41, 41, .ro, false, false, 0⟩
def F.CFG_STATUS_LOCK_LATE : Fld := ⟨40, 40, .w1c, false, false, 0⟩
def F.CFG_STATUS_START_IGNORED : Fld := ⟨39, 39, .w1c, false, false, 0⟩
def F.CFG_STATUS_STEPS : Fld := ⟨35, 32, .ro, false, false, 0⟩
def F.CFG_STATUS_IMAGE_ID : Fld := ⟨31, 0, .ro, false, false, 0⟩
def L.CFG_STATUS : List Fld := [F.CFG_STATUS_LAST_STATUS, F.CFG_STATUS_CAUSE, F.CFG_STATUS_SOURCE, F.CFG_STATUS_STATE, F.CFG_STATUS_SDR, F.CFG_STATUS_LOCK_LATE, F.CFG_STATUS_START_IGNORED, F.CFG_STATUS_STEPS, F.CFG_STATUS_IMAGE_ID]

def F.CFG_FLASH_MAP_PRIMARY : Fld := ⟨63, 44, .rw, true, true, 0⟩
def F.CFG_FLASH_MAP_GOLDEN : Fld := ⟨43, 24, .rw, true, true, 0x4000⟩
def F.CFG_FLASH_MAP_GOLDEN_CS : Fld := ⟨23, 23, .rw, true, true, 0⟩
def F.CFG_FLASH_MAP_PRIMARY_CS : Fld := ⟨22, 22, .rw, true, true, 0⟩
def F.CFG_FLASH_MAP_FORCE_SDR : Fld := ⟨21, 21, .rw, true, true, 0⟩
def F.CFG_FLASH_MAP_OCT_MHZ : Fld := ⟨15, 8, .rw, true, true, 0xc8⟩
def L.CFG_FLASH_MAP : List Fld := [F.CFG_FLASH_MAP_PRIMARY, F.CFG_FLASH_MAP_GOLDEN, F.CFG_FLASH_MAP_GOLDEN_CS, F.CFG_FLASH_MAP_PRIMARY_CS, F.CFG_FLASH_MAP_FORCE_SDR, F.CFG_FLASH_MAP_OCT_MHZ]

def F.CFG_STARTUP_ORDER_IN_USE : Fld := ⟨15, 8, .ro, false, false, 0⟩
def F.CFG_STARTUP_ORDER_DEFAULT : Fld := ⟨7, 0, .rw, true, true, 0xe4⟩
def L.CFG_STARTUP_ORDER : List Fld := [F.CFG_STARTUP_ORDER_IN_USE, F.CFG_STARTUP_ORDER_DEFAULT]

def F.CFG_KEY_CTL_ROLL_MAX : Fld := ⟨47, 32, .rw, true, true, 0x10⟩
def F.CFG_KEY_CTL_HASH_VALID : Fld := ⟨11, 8, .ro, false, false, 0⟩
def F.CFG_KEY_CTL_SLOT_VALID : Fld := ⟨7, 4, .ro, false, false, 0⟩
def F.CFG_KEY_CTL_LOCK : Fld := ⟨3, 3, .w1s, true, true, 0⟩
def F.CFG_KEY_CTL_REQUIRE_ENC : Fld := ⟨2, 2, .rw, true, true, 0⟩
def F.CFG_KEY_CTL_REQUIRE_SIG : Fld := ⟨1, 1, .rw, true, true, 0⟩
def L.CFG_KEY_CTL : List Fld := [F.CFG_KEY_CTL_ROLL_MAX, F.CFG_KEY_CTL_HASH_VALID, F.CFG_KEY_CTL_SLOT_VALID, F.CFG_KEY_CTL_LOCK, F.CFG_KEY_CTL_REQUIRE_ENC, F.CFG_KEY_CTL_REQUIRE_SIG]

def F.CFG_CHAIN_CTL_DONE_IN : Fld := ⟨4, 4, .ro, false, false, 0⟩
def F.CFG_CHAIN_CTL_USE_DONE : Fld := ⟨3, 3, .rw, true, true, 1⟩
def F.CFG_CHAIN_CTL_MODE : Fld := ⟨1, 0, .rw, true, true, 0⟩
def L.CFG_CHAIN_CTL : List Fld := [F.CFG_CHAIN_CTL_DONE_IN, F.CFG_CHAIN_CTL_USE_DONE, F.CFG_CHAIN_CTL_MODE]

def F.CFG_AUDIT_CTL_IE : Fld := ⟨2, 2, .rw, true, true, 1⟩
def F.CFG_AUDIT_CTL_ACTION : Fld := ⟨0, 0, .rw, true, true, 0⟩
def L.CFG_AUDIT_CTL : List Fld := [F.CFG_AUDIT_CTL_IE, F.CFG_AUDIT_CTL_ACTION]

def F.CFG_AUDIT_STATUS_PASSES : Fld := ⟨63, 48, .ro, false, false, 0⟩
def F.CFG_AUDIT_STATUS_LAST_BAD : Fld := ⟨47, 29, .ro, false, false, 0⟩
def F.CFG_AUDIT_STATUS_SELF_FAIL : Fld := ⟨28, 28, .w1c, false, false, 0⟩
def F.CFG_AUDIT_STATUS_MISMATCH : Fld := ⟨27, 27, .w1c, false, false, 0⟩
def F.CFG_AUDIT_STATUS_VOTED : Fld := ⟨26, 26, .w1c, false, false, 0⟩
def F.CFG_AUDIT_STATUS_MISMATCH_CNT : Fld := ⟨15, 0, .rw, true, false, 0⟩
def L.CFG_AUDIT_STATUS : List Fld := [F.CFG_AUDIT_STATUS_PASSES, F.CFG_AUDIT_STATUS_LAST_BAD, F.CFG_AUDIT_STATUS_SELF_FAIL, F.CFG_AUDIT_STATUS_MISMATCH, F.CFG_AUDIT_STATUS_VOTED, F.CFG_AUDIT_STATUS_MISMATCH_CNT]

def F.CFG_SRC_ADDR : Fld := ⟨63, 0, .rw, true, false, 0⟩
def L.CFG_SRC : List Fld := [F.CFG_SRC_ADDR]

def F.CFG_SRC_LEN_LEN : Fld := ⟨31, 0, .rw, true, false, 0⟩
def L.CFG_SRC_LEN : List Fld := [F.CFG_SRC_LEN_LEN]

def F.CFG_PROGRESS_SEGMENT : Fld := ⟨63, 48, .ro, false, false, 0⟩
def F.CFG_PROGRESS_KEY_INDEX : Fld := ⟨47, 32, .ro, false, false, 0⟩
def F.CFG_PROGRESS_BYTES : Fld := ⟨31, 0, .ro, false, false, 0⟩
def L.CFG_PROGRESS : List Fld := [F.CFG_PROGRESS_SEGMENT, F.CFG_PROGRESS_KEY_INDEX, F.CFG_PROGRESS_BYTES]

def F.CFG_REGION_IMAGE_ID : Fld := ⟨63, 32, .ro, false, false, 0⟩
def F.CFG_REGION_LAST_STATUS : Fld := ⟨31, 24, .ro, false, false, 0⟩
def F.CFG_REGION_STATE : Fld := ⟨18, 16, .ro, false, false, 0⟩
def F.CFG_REGION_FRAMES : Fld := ⟨12, 0, .ro, false, false, 0⟩
def L.CFG_REGION : List Fld := [F.CFG_REGION_IMAGE_ID, F.CFG_REGION_LAST_STATUS, F.CFG_REGION_STATE, F.CFG_REGION_FRAMES]

def F.LOG_CTL_RD_INDEX : Fld := ⟨26, 16, .rw, true, false, 0⟩
def F.LOG_CTL_LEVEL : Fld := ⟨15, 5, .rw, true, true, 0⟩
def F.LOG_CTL_CLEAR : Fld := ⟨2, 2, .w1s, true, false, 0⟩
def F.LOG_CTL_IE : Fld := ⟨1, 1, .rw, true, true, 1⟩
def F.LOG_CTL_MODE : Fld := ⟨0, 0, .rw, true, true, 0⟩
def L.LOG_CTL : List Fld := [F.LOG_CTL_RD_INDEX, F.LOG_CTL_LEVEL, F.LOG_CTL_CLEAR, F.LOG_CTL_IE, F.LOG_CTL_MODE]

def F.LOG_STATUS_OVERFLOW : Fld := ⟨63, 48, .rw, true, false, 0⟩
def F.LOG_STATUS_LOST : Fld := ⟨47, 32, .rw, true, false, 0⟩
def F.LOG_STATUS_WR_INDEX : Fld := ⟨26, 16, .ro, false, false, 0⟩
def F.LOG_STATUS_UNREAD : Fld := ⟨10, 0, .ro, false, false, 0⟩
def L.LOG_STATUS : List Fld := [F.LOG_STATUS_OVERFLOW, F.LOG_STATUS_LOST, F.LOG_STATUS_WR_INDEX, F.LOG_STATUS_UNREAD]

def F.LOG_SUMMARY_LAST_CODE : Fld := ⟨63, 52, .ro, false, false, 0⟩
def F.LOG_SUMMARY_CLASSES : Fld := ⟨40, 32, .ro, false, false, 0⟩
def F.LOG_SUMMARY_LAST_TIME : Fld := ⟨31, 0, .ro, false, false, 0⟩
def L.LOG_SUMMARY : List Fld := [F.LOG_SUMMARY_LAST_CODE, F.LOG_SUMMARY_CLASSES, F.LOG_SUMMARY_LAST_TIME]

def F.LOG_ENTRY_DATA : Fld := ⟨63, 0, .ro, false, false, 0⟩
def L.LOG_ENTRY : List Fld := [F.LOG_ENTRY_DATA]

def F.REC_CTL_COMMIT : Fld := ⟨2, 2, .w1s, true, false, 0⟩
def F.REC_CTL_NEW_CHALLENGE : Fld := ⟨1, 1, .w1s, false, false, 0⟩
def F.REC_CTL_EN : Fld := ⟨0, 0, .rw, true, true, 1⟩
def L.REC_CTL : List Fld := [F.REC_CTL_COMMIT, F.REC_CTL_NEW_CHALLENGE, F.REC_CTL_EN]

def F.REC_STATUS_CLEARS : Fld := ⟨63, 32, .ro, false, false, 0⟩
def F.REC_STATUS_LAST_RESULT : Fld := ⟨15, 8, .ro, false, false, 0⟩
def F.REC_STATUS_LOCKOUT : Fld := ⟨4, 4, .ro, false, false, 0⟩
def F.REC_STATUS_COPY_LOST : Fld := ⟨3, 3, .w1c, false, false, 0⟩
def F.REC_STATUS_COMMIT_ERR : Fld := ⟨2, 2, .w1c, false, false, 0⟩
def F.REC_STATUS_CHALLENGE_VALID : Fld := ⟨1, 1, .ro, false, false, 0⟩
def F.REC_STATUS_KEY_VALID : Fld := ⟨0, 0, .ro, false, false, 0⟩
def L.REC_STATUS : List Fld := [F.REC_STATUS_CLEARS, F.REC_STATUS_LAST_RESULT, F.REC_STATUS_LOCKOUT, F.REC_STATUS_COPY_LOST, F.REC_STATUS_COMMIT_ERR, F.REC_STATUS_CHALLENGE_VALID, F.REC_STATUS_KEY_VALID]

def F.REC_CHALLENGE_NONCE : Fld := ⟨63, 0, .ro, false, false, 0⟩
def L.REC_CHALLENGE : List Fld := [F.REC_CHALLENGE_NONCE]

def F.REC_RESPONSE_RESPONSE : Fld := ⟨63, 0, .wo, false, false, 0⟩
def L.REC_RESPONSE : List Fld := [F.REC_RESPONSE_RESPONSE]

def F.REC_CLEAR_GO : Fld := ⟨0, 0, .w1s, false, false, 0⟩
def L.REC_CLEAR : List Fld := [F.REC_CLEAR_GO]

def F.REC_LEDGER_TIME_TIME : Fld := ⟨63, 0, .ro, false, false, 0⟩
def L.REC_LEDGER_TIME : List Fld := [F.REC_LEDGER_TIME_TIME]

def F.REC_LEDGER_WHO_MASTER : Fld := ⟨63, 48, .ro, false, false, 0⟩
def F.REC_LEDGER_WHO_DEVICE : Fld := ⟨47, 32, .ro, false, false, 0⟩
def F.REC_LEDGER_WHO_CLEAR_COUNT : Fld := ⟨31, 0, .ro, false, false, 0⟩
def L.REC_LEDGER_WHO : List Fld := [F.REC_LEDGER_WHO_MASTER, F.REC_LEDGER_WHO_DEVICE, F.REC_LEDGER_WHO_CLEAR_COUNT]

def F.NVI_CTL_WINDOW : Fld := ⟨21, 16, .rw, true, false, 0⟩
def F.NVI_CTL_CHECK_SLOT : Fld := ⟨8, 8, .rw, true, false, 0⟩
def F.NVI_CTL_CHECK : Fld := ⟨0, 0, .w1s, true, false, 0⟩
def L.NVI_CTL : List Fld := [F.NVI_CTL_WINDOW, F.NVI_CTL_CHECK_SLOT, F.NVI_CTL_CHECK]

def F.NVI_STATUS_A_RESULT : Fld := ⟨63, 56, .ro, false, false, 0⟩
def F.NVI_STATUS_B_RESULT : Fld := ⟨55, 48, .ro, false, false, 0⟩
def F.NVI_STATUS_CHECK_RESULT : Fld := ⟨47, 40, .ro, false, false, 0xfe⟩
def F.NVI_STATUS_SKIPPED : Fld := ⟨39, 32, .ro, false, false, 0⟩
def F.NVI_STATUS_SOURCE : Fld := ⟨5, 4, .ro, false, false, 0⟩
def F.NVI_STATUS_WRITE_ERR : Fld := ⟨3, 3, .w1c, false, false, 0⟩
def F.NVI_STATUS_SIZE_ERR : Fld := ⟨2, 2, .w1c, false, false, 0⟩
def F.NVI_STATUS_CHECK_BUSY : Fld := ⟨1, 1, .ro, false, false, 0⟩
def F.NVI_STATUS_BUSY : Fld := ⟨0, 0, .ro, false, false, 0⟩
def L.NVI_STATUS : List Fld := [F.NVI_STATUS_A_RESULT, F.NVI_STATUS_B_RESULT, F.NVI_STATUS_CHECK_RESULT, F.NVI_STATUS_SKIPPED, F.NVI_STATUS_SOURCE, F.NVI_STATUS_WRITE_ERR, F.NVI_STATUS_SIZE_ERR, F.NVI_STATUS_CHECK_BUSY, F.NVI_STATUS_BUSY]

def F.NVI_SLOT_SEL_SELECT : Fld := ⟨1, 0, .rw, true, false, 0⟩
def L.NVI_SLOT_SEL : List Fld := [F.NVI_SLOT_SEL_SELECT]

def F.NVI_KEY_CTL_RESULT : Fld := ⟨15, 8, .ro, false, false, 0⟩
def F.NVI_KEY_CTL_READ : Fld := ⟨7, 7, .rw, true, false, 0⟩
def F.NVI_KEY_CTL_KIND : Fld := ⟨6, 5, .rw, true, false, 0⟩
def F.NVI_KEY_CTL_SLOT : Fld := ⟨2, 1, .rw, true, false, 0⟩
def F.NVI_KEY_CTL_GO : Fld := ⟨0, 0, .w1s, true, false, 0⟩
def L.NVI_KEY_CTL : List Fld := [F.NVI_KEY_CTL_RESULT, F.NVI_KEY_CTL_READ, F.NVI_KEY_CTL_KIND, F.NVI_KEY_CTL_SLOT, F.NVI_KEY_CTL_GO]

def F.NVI_KEY_DATA_DATA : Fld := ⟨63, 0, .rw, true, false, 0⟩
def L.NVI_KEY_DATA : List Fld := [F.NVI_KEY_DATA_DATA]

def F.GRP_CTL_DRAIN_LIMIT : Fld := ⟨39, 32, .rw, true, true, 0x10⟩
def F.GRP_CTL_RAW_REC : Fld := ⟨31, 16, .rw, true, true, 0⟩
def F.GRP_CTL_START_LEVEL : Fld := ⟨15, 8, .rw, true, true, 0⟩
def F.GRP_CTL_WIDTH : Fld := ⟨7, 6, .rw, true, true, 2⟩
def F.GRP_CTL_LANES : Fld := ⟨5, 4, .rw, true, true, 0⟩
def F.GRP_CTL_THRESH_IE : Fld := ⟨3, 3, .rw, true, true, 0⟩
def F.GRP_CTL_ERR_IE : Fld := ⟨2, 2, .rw, true, true, 0⟩
def F.GRP_CTL_EN : Fld := ⟨0, 0, .rw, true, true, 0⟩
def L.GRP_CTL : List Fld := [F.GRP_CTL_DRAIN_LIMIT, F.GRP_CTL_RAW_REC, F.GRP_CTL_START_LEVEL, F.GRP_CTL_WIDTH, F.GRP_CTL_LANES, F.GRP_CTL_THRESH_IE, F.GRP_CTL_ERR_IE, F.GRP_CTL_EN]

def F.FIFO_LEVEL_OUT_DEPTH : Fld := ⟨40, 32, .ro, false, false, 0⟩
def F.FIFO_LEVEL_IN_DEPTH : Fld := ⟨8, 0, .ro, false, false, 0⟩
def L.FIFO_LEVEL : List Fld := [F.FIFO_LEVEL_OUT_DEPTH, F.FIFO_LEVEL_IN_DEPTH]

def F.FIFO_THRESH_OUT_LEVEL : Fld := ⟨40, 32, .rw, true, true, 0⟩
def F.FIFO_THRESH_IN_LEVEL : Fld := ⟨8, 0, .rw, true, true, 0⟩
def L.FIFO_THRESH : List Fld := [F.FIFO_THRESH_OUT_LEVEL, F.FIFO_THRESH_IN_LEVEL]

def F.FIFO_STATUS_POISON_OUT : Fld := ⟨8, 8, .w1c, false, false, 0⟩
def F.FIFO_STATUS_DROPPING : Fld := ⟨7, 7, .ro, false, false, 0⟩
def F.FIFO_STATUS_UNDERRUN : Fld := ⟨6, 6, .w1c, false, false, 0⟩
def F.FIFO_STATUS_OVERFLOW : Fld := ⟨5, 5, .w1c, false, false, 0⟩
def F.FIFO_STATUS_OUT_THRESH : Fld := ⟨4, 4, .w1c, false, false, 0⟩
def F.FIFO_STATUS_IN_THRESH : Fld := ⟨3, 3, .w1c, false, false, 0⟩
def F.FIFO_STATUS_RESTART_MERGED : Fld := ⟨2, 2, .w1c, false, false, 0⟩
def F.FIFO_STATUS_STATE : Fld := ⟨1, 0, .ro, false, false, 0⟩
def L.FIFO_STATUS : List Fld := [F.FIFO_STATUS_POISON_OUT, F.FIFO_STATUS_DROPPING, F.FIFO_STATUS_UNDERRUN, F.FIFO_STATUS_OVERFLOW, F.FIFO_STATUS_OUT_THRESH, F.FIFO_STATUS_IN_THRESH, F.FIFO_STATUS_RESTART_MERGED, F.FIFO_STATUS_STATE]

def F.OVF_CNT_COUNT : Fld := ⟨31, 0, .rw, true, false, 0⟩
def L.OVF_CNT : List Fld := [F.OVF_CNT_COUNT]

def F.UNF_CNT_COUNT : Fld := ⟨31, 0, .rw, true, false, 0⟩
def L.UNF_CNT : List Fld := [F.UNF_CNT_COUNT]

def F.NOC_CTL_RETRY_MAX : Fld := ⟨39, 32, .rw, true, true, 0x40⟩
def F.NOC_CTL_BACKOFF_MAX : Fld := ⟨31, 28, .rw, true, true, 0xa⟩
def F.NOC_CTL_BACKOFF_BASE : Fld := ⟨27, 24, .rw, true, true, 4⟩
def F.NOC_CTL_THROTTLE : Fld := ⟨23, 16, .rw, true, true, 0x20⟩
def F.NOC_CTL_STARVE : Fld := ⟨15, 8, .rw, true, true, 0x40⟩
def F.NOC_CTL_CNT_CLEAR : Fld := ⟨1, 1, .w1s, true, false, 0⟩
def F.NOC_CTL_CNT_FREEZE : Fld := ⟨0, 0, .rw, true, false, 0⟩
def L.NOC_CTL : List Fld := [F.NOC_CTL_RETRY_MAX, F.NOC_CTL_BACKOFF_MAX, F.NOC_CTL_BACKOFF_BASE, F.NOC_CTL_THROTTLE, F.NOC_CTL_STARVE, F.NOC_CTL_CNT_CLEAR, F.NOC_CTL_CNT_FREEZE]

def F.NET_CNT_COUNT : Fld := ⟨47, 0, .rw, true, false, 0⟩
def L.NET_CNT : List Fld := [F.NET_CNT_COUNT]

def F.DEV_CNT_COUNT : Fld := ⟨47, 0, .rw, true, false, 0⟩
def L.DEV_CNT : List Fld := [F.DEV_CNT_COUNT]

def F.MIRROR_CFG_EN : Fld := ⟨63, 63, .rw, true, false, 0⟩
def F.MIRROR_CFG_POLICY : Fld := ⟨62, 62, .rw, true, false, 0⟩
def F.MIRROR_CFG_EPRED : Fld := ⟨61, 60, .rw, true, false, 0⟩
def F.MIRROR_CFG_SIZE : Fld := ⟨59, 57, .rw, true, false, 0⟩
def F.MIRROR_CFG_HOLD_BASE : Fld := ⟨56, 51, .rw, true, false, 0⟩
def F.MIRROR_CFG_HOLD_PL : Fld := ⟨50, 46, .rw, true, false, 0⟩
def F.MIRROR_CFG_HOLD_IDX : Fld := ⟨45, 32, .rw, true, false, 0⟩
def F.MIRROR_CFG_SRC_IDX : Fld := ⟨31, 18, .rw, true, false, 0⟩
def F.MIRROR_CFG_SRC_LINE : Fld := ⟨17, 8, .rw, true, false, 0⟩
def L.MIRROR_CFG : List Fld := [F.MIRROR_CFG_EN, F.MIRROR_CFG_POLICY, F.MIRROR_CFG_EPRED, F.MIRROR_CFG_SIZE, F.MIRROR_CFG_HOLD_BASE, F.MIRROR_CFG_HOLD_PL, F.MIRROR_CFG_HOLD_IDX, F.MIRROR_CFG_SRC_IDX, F.MIRROR_CFG_SRC_LINE]

def F.MIRROR_STATE_EPOCH : Fld := ⟨47, 32, .ro, false, false, 0⟩
def F.MIRROR_STATE_DIRTY : Fld := ⟨31, 24, .ro, false, false, 0⟩
def F.MIRROR_STATE_FETCH_ERR : Fld := ⟨17, 17, .w1c, false, false, 0⟩
def F.MIRROR_STATE_CFG_ERR : Fld := ⟨16, 16, .w1c, false, false, 0⟩
def F.MIRROR_STATE_REFETCHES : Fld := ⟨15, 0, .rw, true, false, 0⟩
def L.MIRROR_STATE : List Fld := [F.MIRROR_STATE_EPOCH, F.MIRROR_STATE_DIRTY, F.MIRROR_STATE_FETCH_ERR, F.MIRROR_STATE_CFG_ERR, F.MIRROR_STATE_REFETCHES]

/-- Whether `off` is entry `0` to `n - 1` of a register row. -/
def inRow (off base n stride : Nat) : Bool :=
  decide (base ≤ off ∧ (off - base) % stride = 0 ∧ (off - base) / stride < n)
/-- Whether `off` is an entry of a register grid: `n` rows `stride` apart, of `n2` entries `stride2` apart. -/
def inGrid (off base n stride n2 stride2 : Nat) : Bool :=
  decide (base ≤ off ∧ (off - base) / stride < n ∧ (off - base) % stride % stride2 = 0 ∧ (off - base) % stride / stride2 < n2)

/-- The fields of the register at `off` of the ID block, `none` at a hole. -/
def L.atId (off : Nat) : Option (List Fld) :=
  if off = 0x0 then some L.ID_PART
  else if off = 0x8 then some L.ID_REVISION
  else if off = 0x10 then some L.ID_CAPS
  else if off = 0x18 then some L.ID_DEVICE
  else if off = 0x20 then some L.ID_SERIAL
  else if off = 0x40 then some L.ID_TIME
  else if off = 0x48 then some L.ID_TIME_SET
  else if off = 0x80 then some L.PEEK_BASE
  else none

/-- The fields of the register at `off` of the HIF block, `none` at a hole. -/
def L.atHif (off : Nat) : Option (List Fld) :=
  if off = 0x10000 then some L.HIF_CTL
  else if off = 0x10008 then some L.HIF_STATUS
  else if inRow off 0x10100 64 0x8 then some L.HIF_FUNC_MAP
  else if inRow off 0x11000 16 0x20 then some L.WIN_CTL
  else if inRow off 0x11008 16 0x20 then some L.WIN_BASE
  else if inRow off 0x11010 16 0x20 then some L.WIN_ERR
  else if off = 0x12000 then some L.HIF_TUG_CTL
  else if off = 0x12008 then some L.HIF_TUG_CNT
  else if inRow off 0x18000 2048 0x8 then some L.HIF_MSIX_MOD
  else if inRow off 0x1C000 2048 0x8 then some L.HIF_MSIX_MOD_VF
  else none

/-- The fields of the register at `off` of the RING block, `none` at a hole. -/
def L.atRing (off : Nat) : Option (List Fld) :=
  if inRow off 0x100000 4096 0x40 then some L.RING_SQ_BASE
  else if inRow off 0x100008 4096 0x40 then some L.RING_CQ_BASE
  else if inRow off 0x100010 4096 0x40 then some L.RING_DB_ADDR
  else if inRow off 0x100018 4096 0x40 then some L.RING_SIZE
  else if inRow off 0x100020 4096 0x40 then some L.RING_CTL
  else if inRow off 0x100028 4096 0x40 then some L.RING_STATUS
  else if inRow off 0x100030 4096 0x40 then some L.RING_MASTER
  else if inRow off 0x100038 4096 0x40 then some L.RING_CONFLICTS
  else none

/-- The fields of the register at `off` of the ACC block, `none` at a hole. -/
def L.atAcc (off : Nat) : Option (List Fld) :=
  if inGrid off 0x200000 90 0x200 32 0x10 then some L.ACC_W0
  else if inGrid off 0x200008 90 0x200 32 0x10 then some L.ACC_W1
  else if off = 0x2F0000 then some L.ACC_SEAL
  else if off = 0x2F0008 then some L.ACC_FAULT
  else if off = 0x2F0010 then some L.ACC_FAULT_ADDR
  else if off = 0x2F0018 then some L.ACC_FAULT_CNT
  else if off = 0x2F0020 then some L.ACC_CTL
  else none

/-- The fields of the register at `off` of the PWR block, `none` at a hole. -/
def L.atPwr (off : Nat) : Option (List Fld) :=
  if inRow off 0x300000 64 0x40 then some L.PWR_CTL
  else if inRow off 0x300008 64 0x40 then some L.PWR_STATUS
  else if inRow off 0x300010 64 0x40 then some L.PWR_CLK
  else if off = 0x302000 then some L.PWR_CEILING
  else if inRow off 0x303000 64 0x8 then some L.PWR_TEMP
  else if off = 0x303800 then some L.PWR_THERM_CTL
  else if off = 0x303808 then some L.PWR_THERM_STATUS
  else if off = 0x303900 then some L.PWR_RESET
  else if off = 0x303A00 then some L.PWR_AVS_CTL
  else if inRow off 0x303A08 4 0x8 then some L.PWR_AVS
  else none

/-- The fields of the register at `off` of the CLK block, `none` at a hole. -/
def L.atClk (off : Nat) : Option (List Fld) :=
  if off = 0x310000 then some L.CLK_AON_CTL
  else if off = 0x310008 then some L.CLK_AON_STATUS
  else if off = 0x310010 then some L.CLK_BURNER_CAL
  else if off = 0x310018 then some L.CLK_REF_STATUS
  else if off = 0x310020 then some L.CLK_TIME_CTL
  else if off = 0x310028 then some L.CLK_SYNC_CTL
  else if off = 0x310030 then some L.CLK_SYNC_CAP
  else none

/-- The fields of the register at `off` of the LANE block, `none` at a hole. -/
def L.atLane (off : Nat) : Option (List Fld) :=
  if inRow off 0x400000 112 0x1000 then some L.LANE_CTL
  else if inRow off 0x400008 112 0x1000 then some L.LANE_STATUS
  else if inRow off 0x400010 112 0x1000 then some L.LANE_EQ
  else if inRow off 0x400018 112 0x1000 then some L.LANE_TAPS
  else if inRow off 0x400020 112 0x1000 then some L.LANE_FEC_CNT
  else if inRow off 0x400028 112 0x1000 then some L.LANE_PWR
  else if inRow off 0x400030 112 0x1000 then some L.LANE_TRAIN
  else none

/-- The fields of the register at `off` of the FAB block, `none` at a hole. -/
def L.atFab (off : Nat) : Option (List Fld) :=
  if off = 0x500000 then some L.FAB_DIMS
  else if off = 0x500008 then some L.FAB_COORD
  else if off = 0x500010 then some L.FAB_ANCHOR
  else if off = 0x500018 then some L.FAB_ROUTE_CTL
  else if off = 0x500020 then some L.FAB_TIME_CTL
  else if off = 0x500028 then some L.FAB_TIME_STATUS
  else if off = 0x500030 then some L.FAB_ERR_CNT
  else if inRow off 0x500100 6 0x40 then some L.PORT_CTL
  else if inRow off 0x500108 6 0x40 then some L.PORT_STATUS
  else if inRow off 0x500110 6 0x40 then some L.PORT_TX_CNT
  else if inRow off 0x500118 6 0x40 then some L.PORT_RX_CNT
  else if inRow off 0x500120 6 0x40 then some L.PORT_ERR_CNT
  else if inRow off 0x500400 64 0x8 then some L.FAB_STRING
  else none

/-- The fields of the register at `off` of the CFG block, `none` at a hole. -/
def L.atCfg (off : Nat) : Option (List Fld) :=
  if off = 0x600000 then some L.CFG_CTL
  else if off = 0x600008 then some L.CFG_STATUS
  else if off = 0x600010 then some L.CFG_FLASH_MAP
  else if off = 0x600018 then some L.CFG_STARTUP_ORDER
  else if off = 0x600020 then some L.CFG_KEY_CTL
  else if off = 0x600028 then some L.CFG_CHAIN_CTL
  else if off = 0x600030 then some L.CFG_AUDIT_CTL
  else if off = 0x600038 then some L.CFG_AUDIT_STATUS
  else if off = 0x600040 then some L.CFG_SRC
  else if off = 0x600048 then some L.CFG_SRC_LEN
  else if off = 0x600050 then some L.CFG_PROGRESS
  else if inRow off 0x600100 64 0x8 then some L.CFG_REGION
  else none

/-- The fields of the register at `off` of the LOG block, `none` at a hole. -/
def L.atLog (off : Nat) : Option (List Fld) :=
  if off = 0x700000 then some L.LOG_CTL
  else if off = 0x700008 then some L.LOG_STATUS
  else if off = 0x700010 then some L.LOG_SUMMARY
  else if inGrid off 0x701000 1024 0x20 4 0x8 then some L.LOG_ENTRY
  else none

/-- The fields of the register at `off` of the REC block, `none` at a hole. -/
def L.atRec (off : Nat) : Option (List Fld) :=
  if off = 0x710000 then some L.REC_CTL
  else if off = 0x710008 then some L.REC_STATUS
  else if inRow off 0x710010 2 0x8 then some L.REC_CHALLENGE
  else if inRow off 0x710020 4 0x8 then some L.REC_RESPONSE
  else if off = 0x710040 then some L.REC_CLEAR
  else if inRow off 0x710100 16 0x10 then some L.REC_LEDGER_TIME
  else if inRow off 0x710108 16 0x10 then some L.REC_LEDGER_WHO
  else none

/-- The fields of the register at `off` of the NVI block, `none` at a hole. -/
def L.atNvi (off : Nat) : Option (List Fld) :=
  if off = 0x720000 then some L.NVI_CTL
  else if off = 0x720008 then some L.NVI_STATUS
  else if off = 0x720010 then some L.NVI_SLOT_SEL
  else if off = 0x720018 then some L.NVI_KEY_CTL
  else if inRow off 0x720040 6 0x8 then some L.NVI_KEY_DATA
  else none

/-- The fields of the register at `off` of the GRP block, `none` at a hole. -/
def L.atGrp (off : Nat) : Option (List Fld) :=
  if inGrid off 0x800000 4 0x1000 4 0x40 then some L.GRP_CTL
  else if inGrid off 0x800008 4 0x1000 4 0x40 then some L.FIFO_LEVEL
  else if inGrid off 0x800010 4 0x1000 4 0x40 then some L.FIFO_THRESH
  else if inGrid off 0x800018 4 0x1000 4 0x40 then some L.FIFO_STATUS
  else if inGrid off 0x800020 4 0x1000 4 0x40 then some L.OVF_CNT
  else if inGrid off 0x800028 4 0x1000 4 0x40 then some L.UNF_CNT
  else none

/-- The fields of the register at `off` of the NOC block, `none` at a hole. -/
def L.atNoc (off : Nat) : Option (List Fld) :=
  if off = 0x900000 then some L.NOC_CTL
  else if inGrid off 0x900100 4 0x40 6 0x8 then some L.NET_CNT
  else if inRow off 0x900200 6 0x8 then some L.DEV_CNT
  else if inRow off 0x901000 256 0x10 then some L.MIRROR_CFG
  else if inRow off 0x901008 256 0x10 then some L.MIRROR_STATE
  else none

/-- The fields of the set-up register at BAR0 offset `off`, `none` where the map lists none (spec 16 R575). -/
def regFields (off : Nat) : Option (List Fld) :=
  if off < 0x10000 then L.atId off
  else if off < 0x100000 then L.atHif off
  else if off < 0x200000 then L.atRing off
  else if off < 0x300000 then L.atAcc off
  else if off < 0x310000 then L.atPwr off
  else if off < 0x400000 then L.atClk off
  else if off < 0x500000 then L.atLane off
  else if off < 0x600000 then L.atFab off
  else if off < 0x700000 then L.atCfg off
  else if off < 0x710000 then L.atLog off
  else if off < 0x720000 then L.atRec off
  else if off < 0x800000 then L.atNvi off
  else if off < 0x900000 then L.atGrp off
  else if off < 0xa00000 then L.atNoc off
  else none

/-- The reset value of the set-up register at `off` (the tables' Reset column; `RING_MASTER` of ring r resets to r, spec
08 R333; `LANE_CTL.EN` resets to 1 in a tether lane and to 0 in an edge lane, spec 11 R437).
DESIGN CHOICE (assumption log 19). -/
def regReset (off : Nat) : Reg :=
  if inRow off 0x100030 4096 0x40 then BitVec.ofNat 64 ((off - 0x100030) / 0x40)
  else if inRow off 0x400000 112 0x1000 && decide (48 ≤ (off - 0x400000) / 0x1000) then
    setFld (resetOf L.LANE_CTL) F.LANE_CTL_EN 0
  else match regFields off with
    | some fs => resetOf fs
    | none => 0

end Sys2Proof.Machine
end

