-- ==== Sys2Proof/Machine/RingParts.lean ====
section
/-! DEFINITION. What the host interface and the ring engine hold beside their registers (spec 08). -/

namespace Sys2Proof.Machine

/-- A descriptor that a ring has fetched and not yet completed (spec 08 R299, R307): its number in the ring, its 64 bytes,
and the progress that the ring engine keeps of it. -/
structure Desc where
  id : Nat
  bytes : List Byte
  started : Bool := false
  /-- finished: its completion waits for room (R322) -/
  finished : Bool := false
  /-- the step of its work -/
  stage : Nat := 0
  /-- bytes or frames asked for so far -/
  next : Nat := 0
  /-- bytes moved or frames stored -/
  done : Nat := 0
  /-- requests without a response -/
  busy : Nat := 0
  /-- the lowest offset that failed, with its status (R314) -/
  fail : Option (Nat × Status) := none
  aux : Nat := 0
  /-- a table of this device has decided the frames of a LOAD_CONTEXT, and a seal point has been set since (spec 09 R344) -/
  tabled : Bool := false
  sealed : Bool := false
  deriving DecidableEq, Repr

/-- A completion entry that waits to be written (spec 08 R321 to R323), and the descriptor that it ends. -/
structure Comp where
  desc : Option Nat
  tag : BitVec 16
  status : Status
  bytes : Nat
  aux : Nat
  /-- w1 to w3 of a notification record -/
  words : List Word
  /-- it counts toward the ring's vector (R326) -/
  counts : Bool
  deriving DecidableEq, Repr

/-- A ring beside its registers (spec 08 R296 to R304): SQ_PROD and CQ_CONS as last read, CQ_PROD, POLL_STATE (0 POLLING,
1 ASLEEP, 2 OFF), the poll interval in units of 100 ns, its descriptors in ring order, its finished completions, and
whether EN was written 1 while ISOLATING. -/
structure RingSt where
  sqProd : BitVec 32 := 0
  cqCons : BitVec 32 := 0
  cqProd : BitVec 32 := 0
  poll : Nat := 2
  interval : Nat := 0
  descs : List Desc := []
  out : List Comp := []
  restart : Bool := false
  deriving DecidableEq, Repr

/-- A binding of a NOTIFY queue (spec 08 R320): device and address of the queue page, the ring, a pop outstanding, the words of
the record popped so far, and whether one of them carried POISON. -/
structure Bind where
  dev : BitVec 16
  addr : Nat
  ring : Nat
  busy : Bool := false
  words : List Word := []
  bad : Bool := false
  deriving DecidableEq, Repr

/-- The scheduler's place in its round (spec 08 R324): the level, its starts left in this round, the ring whose turn it is
at each level, and the starts left in that turn. -/
structure Sched where
  level : Nat := 3
  left : Option Nat := none
  turn : SMap Nat := []
  burst : Nat := 0
  deriving DecidableEq, Repr

/-- A posted write sent to the host (spec 08 R292 to R297): the function, the host address, the bytes, the No Snoop and
Relaxed Ordering attributes. -/
structure HostWrite where
  fn : Nat
  addr : Nat
  bytes : List Byte
  noSnoop : Bool
  relaxed : Bool
  /-- it carries an ECRC (spec 08 R286) -/
  ecrc : Bool
  deriving DecidableEq, Repr

/-- A read sent to the host (spec 08 R286, R292, R295, R296, R312 to R315, R333): the function, the host address, the length, the
No Snoop attribute. -/
structure HostAsk where
  fn : Nat
  addr : Nat
  len : Nat
  noSnoop : Bool
  /-- it carries an ECRC (spec 08 R286) -/
  ecrc : Bool
  deriving DecidableEq, Repr

/-- A read through a host window that the host has not answered: endpoint and ingress entry, window and offset (spec 08 R293). -/
structure WinRead where
  ep : Nat
  entry : Nat
  window : Nat
  off : Nat
  deriving DecidableEq, Repr

/-- What an access of the host by BAR0 completes with where a register's value is not its answer (spec 00 R8; spec 16 R578): Unsupported
Request, the value that a PEEK read has fetched, or the failure of the request that a PEEK access became (Completer Abort for a read). -/
inductive HostAnswer where
  | unsupported
  | done (value : Reg)
  | failed (st : Status)
  deriving DecidableEq, Repr

/-- An access of the PEEK window that waits for a landing slot (spec 07 R265; spec 16 R578): the global address, and the bytes of a write. -/
structure PeekWait where
  write : Bool
  addr : BitVec 64
  size : Nat
  value : Reg
  deriving DecidableEq, Repr

/-- The host interface and the ring engine. -/
structure HostSt where
  rings : SMap RingSt := []
  binds : SMap (Option Bind) := []
  /-- unused grants in words that the ring engine holds, by the global address of the queue page (R312) -/
  grants : SMap Nat := []
  sched : Sched := {}
  /-- posted writes to host memory, in the order in which they were sent -/
  writes : List HostWrite := []
  /-- reads of host memory, in the order in which they were sent -/
  asks : List HostAsk := []
  /-- reads through host windows that the host has not answered -/
  reads : SMap (Option WinRead) := []
  nextRead : Nat := 0
  /-- window accesses received so far (R294) -/
  received : Nat := 0
  /-- LEVEL_HIT bits still to be cleared, for want of a landing slot: ring, device, address (R319) -/
  hits : List (Nat × BitVec 16 × Nat) := []
  pcie : PcieCfg := {}
  /-- functions whose Enable No Snoop or Enable Relaxed Ordering bit the host has cleared (R294) -/
  noSnoopOff : List Nat := []
  relaxedOff : List Nat := []
  /-- the answers to PEEK accesses and to reads of a wrong size or alignment, oldest first (spec 00 R8; spec 16 R578) -/
  peeks : List HostAnswer := []
  /-- accesses of the PEEK window that wait for a landing slot, oldest first (spec 07 R265) -/
  peekWait : List PeekWait := []
  /-- the errors that Advanced Error Reporting has recorded while the host has it enabled, oldest first (spec 08 R286) -/
  aer : List HostFail := []
  /-- PERST_N is low -/
  perst : Bool := false
  deriving DecidableEq, Repr

end Sys2Proof.Machine
end

