-- ==== Sys2Proof/Machine/State.lean ====
section
/-! DEFINITION. The machine's state as plain data, its faults and refusals, and the state after reset. -/

namespace Sys2Proof.Machine

/-- What one field holds beside its registers (spec 04 R141; spec 13). -/
structure FieldSt where
  /-- the bridle cells are engaged (spec 04 R147: 1 from cold reset until the field first reaches ON) -/
  engaged : Bool := true
  /-- the target code that the shutdown under way completes to (spec 13 R499) -/
  heading : Nat := 0
  /-- the isolating step is done and the supply is going down (spec 13 R500) -/
  isoDone : Bool := false
  /-- the state that the wake under way came from: 5 RETAIN, 6 OFF (spec 13 R499) -/
  wakeFrom : Nat := 6
  /-- the burner runs (spec 13 R493) -/
  burner : Bool := false
  /-- the burner has been calibrated since cold reset (spec 13 R494) -/
  calibrated : Bool := false
  /-- a train that covers the field has switched to a handler context while a patch was borrowed (spec 05 R190, R193) -/
  handlerDue : Bool := false
  /-- cycles that the field clock has made, in parts of 2^24 · 10,000 to the cycle (spec 05 R156; spec 13 R490) -/
  cycles : Nat := 0
  deriving DecidableEq, Repr

/-- How far start-up has come (spec 12 R465 to R467): writes enabled, outputs released, tile state released. -/
structure Boot where
  wen : Bool := false
  out : Bool := false
  srst : Bool := false
  deriving DecidableEq, Repr

/-- The state of the machine. -/
structure State where
  /-- the commands that wait, first in, first out (the block's command queue) -/
  pending : List Instr
  /-- the set-up registers, keyed by BAR0 offset; an unlisted one holds `regReset` -/
  regs : SMap Reg
  /-- the tiles; an unlisted one is `Tile.factory` -/
  tiles : SMap Tile
  /-- tile space: banks, X and Y memories, keyed by device-local address; an unlisted byte is 0 -/
  mem : List Host.Cell
  /-- upset halves of banks, keyed by address / 8: 1 correctable, 2 uncorrectable (spec 06 R195) -/
  eccErr : SMap Nat
  /-- X and Y words with bad parity, keyed by address / 4 (spec 03 R102) -/
  xyBad : SMap Bool
  /-- the tag store, keyed by 4096 * tile + row: four 3-bit tags (spec 06 R213) -/
  tagStore : SMap (BitVec 12)
  /-- tag rows with bad parity (spec 06 R213) -/
  tagBad : SMap Bool
  fields : SMap FieldSt
  boot : Boot
  /-- patches the background test has borrowed (spec 05 R191) -/
  borrowed : List Nat
  /-- the tiles of borrowed patches as they stood at the start of the borrow: their save sets (spec 05 R192) -/
  saved : SMap (Option Tile)
  /-- endpoints, by endpoint code (spec 07 R248) -/
  eps : SMap Endpoint
  /-- links into a router, keyed `8 (1024 net + router) + side`, side 0 to 3 N, E, S, W, 4 the engine bridge toward the
  router, 5 the engine bridge from it (spec 07 R249) -/
  links : SMap Link
  /-- fields whose routers suppress injection, keyed `64 net + field`: the routers that have signalled starvation (spec 07 R264) -/
  throttle : SMap (List Nat)
  mirrors : SMap MirrorSt
  agents : SMap Agent
  /-- queue-level events on their way to the ring engine: tile, queue and depth (spec 06 R216; spec 08 R319) -/
  levelEvents : List (Nat × Nat × Nat)
  tree : TreeSt
  groups : SMap GroupSt
  ports : SMap PortSt
  expansions : SMap (Option Expansion)
  fabTime : FabTime
  host : HostSt
  lanes : SMap LaneSt
  trains : SMap TrainSt
  load : LoadSt
  chain : ChainSt
  flash : FlashSt
  /-- the slot that the auditor reads next, 0 to 278,527 (spec 12 R475) -/
  auditPos : Nat
  defaults : DefaultsSt
  /-- defaults fall to be applied: a reset has just ended (spec 14 R544) -/
  defaultsDue : Bool
  /-- the BAR0 offset of the next SMBus block read (spec 14 R546) -/
  smbusOff : BitVec 32
  /-- the confirmed voltage of each quarter in mV; an unlisted one is 650 (spec 13 R491, R515; spec 15 R562) -/
  confirmed : SMap Nat
  /-- the engine clock is stopped in deep sleep (spec 13 R489) -/
  asleep : Bool
  /-- the high half of ID_TIME as latched (spec 13 R487) -/
  timeLatch : BitVec 32
  /-- a device reset has been asked for and follows (spec 13 R516) -/
  resetDue : Bool
  /-- the straps sampled at cold reset (spec 15 R558) -/
  straps : Straps
  /-- rails whose monitor reads below 95 % of their minimum, which hold internal reset (spec 15 R563) -/
  railLow : List Nat
  /-- the value last returned to a reader of BAR0, of the SMBus or of the PEEK window (the model's own record of outputs) -/
  readData : Reg
  log : LogSt
  recorder : RecSt
  nv : NvSt
  msix : MsixSt
  /-- device time in units of 2^-24 ns (spec 13 R487) -/
  time : Nat
  /-- the model's own counter of free values (assumption log 3) -/
  fresh : Nat
  deriving DecidableEq, Repr

/-- Faults. DEDUCED (assumption log 22). -/
inductive Fault where
  /-- raised by the meaning of a command whose operands have a shape that no command of the table has
  (`WellFormed` refuses it); safe -/
  | illFormed
  deriving DecidableEq, Repr

/-- Refusals. -/
inductive Refusal where
  /-- raised by `exec` for a command that has no meaning yet; safe -/
  | notModelled (mnemonic : String)
  deriving DecidableEq, Repr

/-- What the recorder starts from where no copy in the NV store is valid: MAGIC, FORMAT 1, one cycle in LIFE_CYCLES and in CYCLES (spec
14 R532, R534). -/
def freshCopy : SMap Byte := [(0, 0x43), (1, 0x4C), (2, 0x5A), (3, 0x52), (4, 1), (0x14, 1), (0x1C, 1)]

/-- The machine right after reset (spec 13 R516: power-on), whose erased NV store holds no recorder copy: COPY_LOST is set and event 0x902
reported (spec 14 R534). DESIGN CHOICE: what no rule gives (assumption log 18), the
factory values (assumption log 19), the straps (assumption log 20), unwritten memory (assumption log 60). -/
def State.reset : State where
  pending := []
  regs := [(A.REC_STATUS, 8)]
  tiles := []
  mem := []
  eccErr := []
  xyBad := []
  tagStore := []
  tagBad := []
  fields := []
  boot := {}
  borrowed := []
  saved := []
  eps := []
  links := []
  throttle := []
  mirrors := []
  agents := []
  levelEvents := []
  tree := {}
  groups := []
  ports := []
  expansions := []
  fabTime := {}
  host := {}
  lanes := []
  trains := []
  load := { primaryDue := true }
  chain := {}
  flash := {}
  auditPos := 0
  defaults := {}
  defaultsDue := true
  smbusOff := 0
  confirmed := []
  asleep := false
  timeLatch := 0
  resetDue := false
  straps := ⟨0, false, 0⟩
  railLow := []
  readData := 0
  log := { latches := [(200, some ⟨0, 0x80000000, 0x902, [], 0⟩)] }
  recorder := { acc := freshCopy ++ [(0x364, 1)], mirror := freshCopy, last := 1 }
  nv := {}
  msix := {}
  time := 0
  fresh := 0

end Sys2Proof.Machine
end

