-- ==== Sys2Proof/Machine/Ops.lean ====
section
/-! DEFINITION. The named operations over the state that every chapter shares: registers and their fields, tiles, bytes
of tile space, free values, device time, wake requests. -/

namespace Sys2Proof.Machine

/-- The value of the set-up register at BAR0 offset `off`. -/
def getR (s : State) (off : Nat) : Reg := smGet (regReset off) s.regs off
/-- Replace the value of a set-up register. -/
def setR (s : State) (off : Nat) (v : Reg) : State := { s with regs := smSet (regReset off) s.regs off v }
/-- The value of a register field. -/
def rd (s : State) (off : Nat) (f : Fld) : Nat := getFld (getR s off) f
/-- A register field of one bit, as a truth value. -/
def rdB (s : State) (off : Nat) (f : Fld) : Bool := rd s off f == 1
/-- Replace a register field. -/
def wr (s : State) (off : Nat) (f : Fld) (x : Nat) : State := setR s off (setFld (getR s off) f x)
/-- Raise a counter field, saturating (spec 00 R12). -/
def bump (s : State) (off : Nat) (f : Fld) (n : Nat) : State := setR s off (bumpFld (getR s off) f n)

/-- Tile `i`. -/
def getT (s : State) (i : Nat) : Tile := smGet (Tile.factory i) s.tiles i
/-- Replace tile `i`. -/
def setT (s : State) (i : Nat) (t : Tile) : State := { s with tiles := smSet (Tile.factory i) s.tiles i t }

/-- What field `f` holds beside its registers. -/
def getFS (s : State) (f : Nat) : FieldSt := smGet {} s.fields f
def setFS (s : State) (f : Nat) (x : FieldSt) : State := { s with fields := smSet {} s.fields f x }

/-- The byte of tile space at device-local address `a`; an unlisted byte reads 0 (spec 03 R103; spec 06 R227).
DESIGN CHOICE (assumption log 60). -/
def memGet (s : State) (a : Nat) : Byte := smGet 0 s.mem a
/-- Write one byte of tile space. -/
def memSet (s : State) (a : Nat) (v : Byte) : State := { s with mem := smSet 0 s.mem a v }
/-- The bytes at `a` to `a + n - 1`. -/
def memRead (s : State) (a n : Nat) : List Byte := (List.range n).map (fun k => memGet s (a + k))
/-- Write bytes from address `a` up. -/
def memWrite (s : State) (a : Nat) : List Byte → State
  | [] => s
  | b :: bs => memWrite (memSet s a b) (a + 1) bs
/-- Set the bytes from `a` up to `a + n - 1` to zero: they become unlisted. -/
def memZero (s : State) (a n : Nat) : State :=
  { s with mem := s.mem.filter (fun c => decide (c.1 < a ∨ a + n ≤ c.1)) }

/-- A free value, and the state with the next one ready (assumption log 3). -/
def freeVal (s : State) : BitVec 64 := Config.freeWord s.fresh
/-- The state with the next free value ready. DESIGN CHOICE (assumption log 3). -/
def useFree (s : State) : State := { s with fresh := s.fresh + 1 }

/-- Whole nanoseconds of device time (spec 13 R487). -/
def nowNs (s : State) : Nat := s.time / 2 ^ 24 % 2 ^ 64

/-- The state code of field `f`'s compute domain (spec 13 R497). -/
def pwrState (s : State) (f : Nat) : Nat := rd s (A.PWR_STATUS f) F.PWR_STATUS_STATE

/-- PWR_CTL.TARGET of a field (spec 13 R499). -/
def pwrTarget (s : State) (f : Nat) : Nat := rd s (A.PWR_CTL f) F.PWR_CTL_TARGET

/-- Whether the device has stopped every burner for a thermal trip (spec 13 R511). -/
def tripped (s : State) : Bool := rdB s A.PWR_THERM_STATUS F.PWR_THERM_STATUS_TRIPPED

/-- Whether the compute clock of field `f` runs: no trip, and RUN, DRAINING or ISOLATING (spec 13 R497, R511). -/
def clockRuns (s : State) (f : Nat) : Bool := !tripped s && (pwrState s f == 0 || pwrState s f == 2 || pwrState s f == 3)

/-- Whether the tiles of field `f` run: tile state is released (spec 12 R467) and the compute clock runs. -/
def fieldRuns (s : State) (f : Nat) : Bool := s.boot.srst && clockRuns s f

/-- Whether tile `i` runs its current context: its own, or the test's while its patch is borrowed (spec 05 R192). -/
def tileRuns (s : State) (i : Nat) : Bool := fieldRuns s (tileField i)

/-- Whether the background test has borrowed the patch of tile `i` (spec 05 R191). -/
def lentTile (s : State) (i : Nat) : Bool := s.borrowed.contains (tilePatch i)

/-- The tile as its user has left it: the save set of a borrowed tile, otherwise the tile (spec 05 R192). -/
def userTile (s : State) (i : Nat) : Tile :=
  if lentTile s i then (smGet none s.saved i).getD (getT s i) else getT s i

/-- A wake request of field `f`'s compute domain (spec 13 R502): it is pending unless the domain runs or is rising.
DEDUCED (assumption log 46). -/
def wakeReq (s : State) (f : Nat) : State :=
  if [1, 2, 3, 4, 5, 6].contains (pwrState s f) then wr s (A.PWR_STATUS f) F.PWR_STATUS_WAKE_PENDING 1 else s

/-- The device's own ID (spec 16 R577; spec 10 R393). DEDUCED (assumption log 38). -/
def devId (s : State) : BitVec 16 := BitVec.ofNat 16 (rd s A.FAB_COORD F.FAB_COORD_ID)

/-- Whether the device is an anchor: its PCIe link is up and the ANCHOR strap says so (spec 08 R330). -/
def isAnchor (s : State) : Bool := rdB s A.HIF_STATUS F.HIF_STATUS_ANCHOR && rdB s A.HIF_STATUS F.HIF_STATUS_LINK_UP

/-- Raise vector `k` of function `fn` (0 the physical function): its pending count rises (spec 08 R327). -/
def raiseVec (s : State) (fn k : Nat) : State :=
  { s with msix := { s.msix with pend := smSet 0 s.msix.pend (2048 * fn + k) (smGet 0 s.msix.pend (2048 * fn + k) + 1) } }

/-- Raise vector `k` of the physical function when `ie` holds. -/
def raiseIf (s : State) (ie : Bool) (k : Nat) : State := if ie then raiseVec s 0 k else s

/-- The UNIT field of an entry (spec 14 R523, R528): a tile, a field, the device. -/
def unitTile (s : State) (i : Nat) : BitVec 32 := BitVec.ofNat 32 ((devId s).toNat * 16384 + i)
def unitField (s : State) (f : Nat) : BitVec 32 := BitVec.ofNat 32 (2 ^ 30 + (devId s).toNat * 16384 + 256 * f)
def unitDev (s : State) : BitVec 32 := BitVec.ofNat 32 (2 ^ 31 + (devId s).toNat * 16384)

/-- A four-byte counter of the recorder's accumulators raised, saturating (spec 14 R531). -/
def recCount (s : State) (off n : Nat) : State :=
  let v := leBytes ((List.range 4).map (fun k => smGet 0 s.recorder.acc (off + k)))
  let bs := bytesLE 4 (satAdd 32 v n)
  let acc := (List.range 4).foldl (fun m k => smSet 0 m (off + k) (bs.getD k 0)) s.recorder.acc
  { s with recorder := { s.recorder with acc := acc } }

/-- Count a report of class `c` in the recorder while it is enabled (spec 14 R531); class 0 counts lost reports. -/
def recClass (s : State) (c n : Nat) : State :=
  if rdB s A.REC_CTL F.REC_CTL_EN then recCount s (0x340 + 4 * c) n else s

/-- One log source's latch, set. DEDUCED (assumption log 39). -/
def setLatch (s : State) (source : Nat) (l : Option LogLatch) : State :=
  { s with log := { s.log with latches := smSet none s.log.latches source l } }

/-- A report reaches its source's latch (spec 14 R524): an empty latch holds it with the time of its arrival; a full one
counts a repeat, and beyond saturation one lost report. -/
def logLatch (s : State) (r : Report) : State :=
  match smGet none s.log.latches r.source with
  | none => setLatch s r.source (some ⟨nowNs s, r.unit, r.code, r.detail, 0⟩)
  | some l =>
    if l.rep < 0xFFFF then setLatch s r.source (some { l with rep := l.rep + 1 })
    else recClass (bump s A.LOG_STATUS F.LOG_STATUS_LOST 1) 0 1

/-- The vector that an event raises by its code alone (spec 13 R517; spec 10 R391; spec 12 R478; spec 14 R547). -/
def eventVec (s : State) (code : Nat) : State :=
  let c := code / 256
  if c = 1 ∨ c = 9 then raiseIf s (rdB s A.LOG_CTL F.LOG_CTL_IE) 0
  else if c = 8 then raiseIf s (rdB s A.PWR_THERM_CTL F.PWR_THERM_CTL_IE) 3
  else if 0x400 ≤ code ∧ code ≤ 0x43F then raiseIf s (isAnchor s && rdB s A.FAB_ROUTE_CTL F.FAB_ROUTE_CTL_IE) 2
  else if [0x201, 0x203, 0x206, 0x208, 0x2A0, 0x2A1].contains code then raiseIf s (rdB s A.CFG_CTL F.CFG_CTL_IE) 1
  else s

/-- A detail packed from items and their sizes in bytes (spec 14 R528). -/
def detail (items : List (Nat × Nat)) : List Byte := items.flatMap (fun x => bytesLE x.2 x.1)

/-- A report: the latch, the recorder's class count, and the vector of its event (spec 14 R524, R531).
DEDUCED (assumption log 39). -/
def report (s : State) (source : Nat) (unit : BitVec 32) (code : Nat) (det : List Byte) : State :=
  eventVec (recClass (logLatch s ⟨source, unit, BitVec.ofNat 12 code, det⟩) (code / 256) 1) code

/-- A report by tile `i`, through its field's source (spec 14 R523). -/
def reportTile (s : State) (i code : Nat) (det : List Byte) : State := report s (tileField i) (unitTile s i) code det

/-- The tile-space address of bank byte 0 or X word 0 of tile `i` (spec 01 R24). -/
def tileBase (i : Nat) : Nat := 65536 * i

/-- The patch-port endpoint of tile `i`, and an engine-port endpoint by router coordinates (spec 07 R248). -/
def patchPort (i : Nat) : Nat := 2 * tilePatch i
def routerAt (px py : Nat) : Nat := tileAt px py
def enginePort (px py : Nat) : Nat := 2 * routerAt px py + 1

/-- An endpoint and its update. -/
def getEp (s : State) (ep : Nat) : Endpoint := smGet {} s.eps ep
def setEp (s : State) (ep : Nat) (x : Endpoint) : State := { s with eps := smSet {} s.eps ep x }
/-- An ingress entry and its update. -/
def getIn (s : State) (ep n : Nat) : Option Ingress := smGet none (getEp s ep).ingress n
def setIn (s : State) (ep n : Nat) (x : Option Ingress) : State :=
  setEp s ep { getEp s ep with ingress := smSet none (getEp s ep).ingress n x }

/-- The tile that a request in tile space or tile control space names (spec 01 R24). -/
def reqTile (a : Nat) : Option Nat :=
  if a < 0x40000000 then some (a / 65536) else if a < 0x44000000 then some ((a - 0x40000000) / 4096) else none

/-- Whether an ingress entry stands before a port for opcode `op` (0 READ, 1 WRITE) in a range of addresses: it is checked, no queue
holds it, its data are there, and its next word lies in the range. -/
def atPort (op lo hi : Nat) (g : Ingress) : Bool :=
  g.checked && !g.held && !(op == 1 && g.wdata.isNone) && g.req.op.toNat == op
    && decide (lo ≤ g.req.addr.toNat + g.moved ∧ g.req.addr.toNat + g.moved < hi)

/-- The refills that stand before the Y write port of a tile, when the port meant is that one (spec 03 R99, R101). -/
def fillsAt (s : State) (i op lo hi : Nat) : List Fill :=
  if op = 1 ∧ lo ≤ tileBase i + 0x1000 ∧ tileBase i + 0x1000 < hi then (getT s i).m.fills else []

/-- Whether a request in the ingress of tile `i`'s patch port, or a mirror refill, has waited `lim` cycles for a port: then it takes
the port before any firing (spec 03 R101; spec 06 R199). DEDUCED (assumption log 26). -/
def portForced (s : State) (i op lo hi lim : Nat) : Bool :=
  (getEp s (patchPort i)).ingress.any (fun x => match x.2 with
    | some g => atPort op lo hi g && decide (lim ≤ g.wait)
    | none => false)
  || (fillsAt s i op lo hi).any (fun x => decide (lim ≤ x.wait))

/-- A change of what waits before a port of tile `i`: `g` changes the requests, `k` the waits of the refills. -/
def mapPort (s : State) (i op lo hi : Nat) (g : Ingress → Ingress) (k : Nat → Nat) : State :=
  let ep := getEp s (patchPort i)
  let s := setEp s (patchPort i) { ep with ingress := ep.ingress.map (fun x => (x.1, match x.2 with
    | some y => if atPort op lo hi y then some (g y) else some y
    | none => none)) }
  if fillsAt s i op lo hi = [] then s
  else
    let t := getT s i
    setT s i { t with m := { t.m with fills := t.m.fills.map (fun x => { x with wait := k x.wait }) } }

/-- A use of a port of tile `i` by its network side: the wait of every other request and refill that stands before it starts anew
(spec 03 R101; spec 06 R199). -/
def portServed (s : State) (i op lo hi : Nat) : State :=
  mapPort s i op lo hi (fun y => { y with wait := 0 }) (fun _ => 0)

/-- A use of a port of tile `i` by its array side: every request and refill that stands before it waits one more cycle, but for a
request to an address that `same` names, which is served in the same cycle (spec 06 R200). DEDUCED (assumption log 26). -/
def portUsed (s : State) (i op lo hi : Nat) (same : Nat → Bool) : State :=
  mapPort s i op lo hi (fun y => if same y.req.addr.toNat then y else { y with wait := y.wait + 1, waited := true }) (fun w => w + 1)

/-- Advanced Error Reporting records an error while it is enabled (spec 08 R286): the Unsupported Requests and Completer Aborts that the
device answers, the completion timeouts and poisoned completions that it meets. PRESUMED (assumption log 62). -/
def aerNote (s : State) (e : HostFail) : State :=
  if s.host.pcie.aer then { s with host := { s.host with aer := s.host.aer ++ [e] } } else s

/-- An access of the device to the host fails (spec 08 R286, R293). -/
def hostFails (s : State) (e : HostFail) : State := if e = .timeout ∨ e = .poison then aerNote s e else s

/-- The host's access is answered (spec 00 R8; spec 16 R578). -/
def hostAnswer (s : State) (a : HostAnswer) : State :=
  let s := match a with
    | .unsupported => aerNote s .unsupported
    | .failed _ => aerNote s .abort
    | .done _ => s
  { s with host := { s.host with peeks := s.host.peeks ++ [a] } }

/-- A step of a device engine: nothing while the engine clock is stopped (spec 01 R25; spec 13 R489). -/
def engine (f : State → State) (s : State) : State := if s.asleep then s else f s

/-- An access of the host to a register: the host interface answers after the defaults have been applied, and while the engine clock
runs (spec 00 R10; spec 01 R25; spec 14 R544). -/
def hostAccess (f : State → State) (s : State) : State := if s.asleep || s.defaultsDue then s else f s

end Sys2Proof.Machine
end

