-- ==== Sys2Proof/Machine/Operands.lean ====
section
/-! DEFINITION. The operand forms of a tile's context (spec 02 R36 to R41, R48 to R51; spec 03 R84 to R88; spec 06 R207,
R208): the fields of a frame, which operands an opcode reads, what each supplies, and what consuming one does to the
arriving end it came from. -/

namespace Sys2Proof.Machine

/-- Bits `hi` to `lo` of a frame. -/
def fb (c : Frame) (hi lo : Nat) : Nat := bitsOf c.toNat hi lo

/-- The fields of a context frame (spec 05 R151). -/
def cFmt (c : Frame) : Nat := fb c 255 252
def cNext (c : Frame) : Nat := fb c 251 248
def cStep (c : Frame) : Nat := fb c 247 244
def cWave (c : Frame) : Nat := fb c 243 240
def cOp (c : Frame) : Nat := fb c 239 232
def cMode (c : Frame) : Nat := fb c 231 216
def cSel (c : Frame) (o : Nat) : Nat := if o = 0 then fb c 215 211 else if o = 1 then fb c 210 206 else fb c 205 201
def cDest (c : Frame) : Nat := fb c 200 192
def cImm (c : Frame) : Nat := fb c 191 160
def cTag (c : Frame) : Nat := fb c 159 152
def cChain (c : Frame) : Nat := fb c 23 16
/-- The driver select of segment start `j` (spec 04 R127). -/
def cDrv (c : Frame) (j : Nat) : Nat := fb c (28 + 5 * j) (24 + 5 * j)

/-- DEST fields (spec 02 R50). -/
def out0En (c : Frame) : Bool := bit (cDest c) 8
def out1En (c : Frame) : Bool := bit (cDest c) 7
def out1Src (c : Frame) : Nat := bitsOf (cDest c) 6 5
def wbEn (c : Frame) : Bool := bit (cDest c) 4
def wbReg (c : Frame) : Nat := bitsOf (cDest c) 3 1

/-- TAG_CTL fields (spec 02 R51). -/
def tSrc (c : Frame) : Nat := bitsOf (cTag c) 7 6
def tConst (c : Frame) : Nat := bitsOf (cTag c) 5 3
def dropPad (c : Frame) : Bool := bit (cTag c) 2
def poisonAbsorb (c : Frame) : Bool := bit (cTag c) 1
def keepEnd (c : Frame) : Bool := bit (cTag c) 0

/-- WAVE_CTL fields (spec 05 R152). -/
def waveHandler (c : Frame) : Bool := bit (cWave c) 3
def waveSelfArm (c : Frame) : Bool := bit (cWave c) 2
def waveWaitAll (c : Frame) : Bool := bit (cWave c) 1
def waveStop (c : Frame) : Bool := bit (cWave c) 0

/-- A tag of its code (spec 02 R32). -/
def tagOf (n : Nat) : Tag :=
  match n % 8 with
  | 0 => .data | 1 => .eof | 2 => .tail1 | 3 => .tail2 | 4 => .tail3 | 5 => .wave | 6 => .poison | _ => .pad
/-- The code of a tag (spec 02 R32). -/
def tagCode : Tag → Nat
  | .data => 0 | .eof => 1 | .tail1 => 2 | .tail2 => 3 | .tail3 => 4 | .wave => 5 | .poison => 6 | .pad => 7
/-- The end tags (spec 02 R32). -/
def isEnd : Tag → Bool
  | .eof | .tail1 | .tail2 | .tail3 => true
  | .data | .wave | .poison | .pad => false

/-- The families of opcodes: M (spec 03 R84), B (spec 06 R207), common stream operations (spec 02 R64). -/
def isMOp (op : Nat) : Bool := decide (0x60 ≤ op ∧ op < 0xA0)
def isBOp (op : Nat) : Bool := decide (0xA0 ≤ op ∧ op < 0xE0)
def isStreamOp (op : Nat) : Bool := decide (0xE0 ≤ op)

/-- Which operands an A-tile opcode reads: bit 0 A, bit 1 B, bit 2 C (spec 02 R59). -/
def readsA (op : Nat) : Nat :=
  if op = 0x00 then 0
  else if [0x01, 0x04, 0x05, 0x14, 0x30, 0x31, 0x32, 0x33, 0x38, 0x39, 0x3A, 0x48, 0x4C].contains op then 1
  else if [0x0A, 0x0B, 0x15, 0x1C, 0x34].contains op then 7
  else 3

/-- Which operands an M-opcode reads under its MODE (spec 03 R84, R86, R89). -/
def readsM (c : Frame) : Nat :=
  let m := cMode c
  let agw := if bit m 9 then 4 else 0
  if cOp c = 0x71 then 1 + agw
  else if cOp c = 0x70 ∨ cOp c = 0x74 then agw
  else (if !bit m 13 || bit m 6 then 1 else 0) + (if !bit m 12 || bit m 6 then 2 else 0) + agw

/-- Which operands a B-opcode reads (spec 06 R207). -/
def readsB (op : Nat) : Nat := if op = 0xA9 then 0 else if op = 0xA1 ∨ op = 0xC1 then 3 else 1

/-- Which operands a common stream operation reads (spec 02 R64). -/
def readsS (op : Nat) : Nat := if [0xE1, 0xE3, 0xE4, 0xE6, 0xE7].contains op then 3 else 1

/-- Which operands the context's opcode reads. -/
def reads (c : Frame) : Nat :=
  if isMOp (cOp c) then readsM c else if isBOp (cOp c) then readsB (cOp c)
  else if isStreamOp (cOp c) then readsS (cOp c) else readsA (cOp c)

/-- Whether operand `o` (0 A, 1 B, 2 C) is the immediate: never in an M-opcode (spec 02 R36; spec 03 R85). -/
def immSel (c : Frame) (o : Nat) : Bool := !isMOp (cOp c) && bit (cMode c) (11 - o)

/-- Whether operand `o`'s peek bit is set (spec 02 R49; spec 03 R87; spec 06 R208). -/
def peekSel (c : Frame) (o : Nat) : Bool := if isMOp (cOp c) then bit (cImm c) (12 + o) else bit (cMode c) (8 - o)

/-- The arriving end that operand `o` reads, if it is a stream operand (spec 02 R37). -/
def streamSel (c : Frame) (o : Nat) : Option Nat :=
  if bit (reads c) o && !immSel c o && decide (cSel c o < 24) then some (cSel c o) else none

/-- The stream operands of a context, in the order A, B, C. -/
def streamOps (c : Frame) : List Nat := [0, 1, 2].filter (fun o => (streamSel c o).isSome)

/-- The current context's frame (spec 05 R158). -/
def ctxFrame (t : Tile) : Frame := smGet 0 t.slots t.cur.val
/-- Whether the current context is valid (spec 05 R149). -/
def ctxValid (t : Tile) : Bool := decide (cFmt (ctxFrame t) ≠ 0)

/-- An arriving end of a tile. -/
def getE (t : Tile) (e : Nat) : TEnd := smGet {} t.ends e
def setE (t : Tile) (e : Nat) (x : TEnd) : Tile := { t with ends := smSet {} t.ends e x }

/-- The readers of arriving end `e` in context `c`: the route drivers that select it, and the function unit as 24
(spec 02 R41; spec 04 R126). An invalid context has none (spec 02 R46). -/
def readersOf (c : Frame) (e : Nat) : List Nat :=
  if cFmt c = 0 then []
  else (List.range 24).filter (fun j => cDrv c j == e + 4)
    ++ (if [0, 1, 2].any (fun o => streamSel c o == some e) then [24] else [])

/-- The word leaves an arriving end when it has been taken at least once and every reader of the current context has
taken it (spec 02 R41; spec 04 R135). -/
def settleEnd (t : Tile) (e : Nat) : Tile :=
  let x := getE t e
  if x.taken ≠ [] ∧ (readersOf (ctxFrame t) e).all (fun r => x.taken.contains r) then
    setE t e { x with skid := x.skid.drop 1, taken := [] }
  else t

/-- Every arriving end settled, as after a change of the current context. -/
def settleAll (t : Tile) : Tile := (List.range 24).foldl settleEnd t

/-- Reader `r` takes the word at the head of end `e` (spec 02 R41). -/
def takeAt (t : Tile) (r e : Nat) : Tile :=
  let x := getE t e
  settleEnd (setE t e { x with taken := if x.taken.contains r then x.taken else x.taken ++ [r] }) e

/-- The word that the function unit sees at end `e`: the older skid entry, unless it has taken it (spec 02 R41; spec 04
R131). -/
def headAt (t : Tile) (e : Nat) : Option SWord :=
  let x := getE t e
  if x.taken.contains 24 then none else x.skid.head?

/-- A malformed WAVE word counts as POISON with the same data in a function unit (spec 05 R187).
DEDUCED (assumption log 12). -/
def fuWord (w : SWord) : SWord :=
  if w.tag = .wave ∧ w.data.toNat / 16 ≠ 0 then { w with tag := .poison } else w

/-- Whether a word is a well-formed WAVE token (spec 02 R32; spec 05 R187). -/
def isWave (w : SWord) : Bool := decide (w.tag = .wave ∧ w.data.toNat / 16 = 0)

/-- What operand `o` supplies: nothing where it is a stream operand without a word (spec 02 R36, R37, R38).
DEDUCED (assumption log 12). -/
def operand (t : Tile) (c : Frame) (o : Nat) : Option SWord :=
  if immSel c o then some ⟨BitVec.ofNat 32 (cImm c), .data⟩
  else if cSel c o < 24 then (headAt t (cSel c o)).map fuWord
  else some (smGet ⟨0, .data⟩ t.lreg (cSel c o - 24))

/-- Operand `o` as the firing reads it: nothing where the opcode does not read it. -/
def operandIf (t : Tile) (c : Frame) (o : Nat) : Option SWord := if bit (reads c) o then operand t c o else none

/-- Whether every stream operand among `os` has a word that is data, not a WAVE token (spec 02 R35, R44; spec 05
R185). -/
def opsReady (t : Tile) (c : Frame) (os : List Nat) : Bool :=
  os.all (fun o => match streamSel c o with
    | some e => match headAt t e with
      | some w => !isWave w
      | none => false
    | none => true)

/-- Whether some stream operand of the context has a WAVE token at its head. Under WAIT_ALL = 0 the tile then does not
fire (spec 05 R185). -/
def waveAtHead (t : Tile) (c : Frame) : Bool :=
  (streamOps c).any (fun o => match streamSel c o with
    | some e => match headAt t e with
      | some w => isWave w
      | none => false
    | none => false)

/-- Whether a wave firing is due: the heads that it waits on are WAVE tokens. No stream operation fires then (spec 05 R181,
R185). Under WAIT_ALL a single WAVE head leaves the turn rule to choose the other operand. DEDUCED (assumption log 13). -/
def waveDue (t : Tile) (c : Frame) : Bool :=
  waveAtHead t c && (!waveWaitAll c || (streamOps c).all (fun o => match streamSel c o with
    | some e => match headAt t e with
      | some w => isWave w
      | none => false
    | none => false))

/-- The arriving ends that a firing using the operands `os` consumes: those that some operand of the context selects with its
peek bit clear, for a word is peeked only when every operand that selects it has the bit set (spec 02 R40, R45). -/
def consumedEnds (c : Frame) (os : List Nat) : List Nat :=
  (os.filterMap (streamSel c)).eraseDups.filter (fun e => [0, 1, 2].any (fun o => streamSel c o == some e && !peekSel c o))

/-- The operands among `os` whose word the firing consumes (spec 02 R40, R52). -/
def consumedOps (c : Frame) (os : List Nat) : List Nat :=
  os.filter (fun o => match streamSel c o with | some e => (consumedEnds c os).contains e | none => false)

/-- The function unit consumes the words at the given ends. -/
def consume (t : Tile) (es : List Nat) : Tile := es.foldl (fun t e => takeAt t 24 e) t

/-- Whether a firing that consumes the given ends consumes a word with an end tag (spec 02 R67). -/
def endConsumed (t : Tile) (es : List Nat) : Bool :=
  es.any (fun e => match headAt t e with | some w => isEnd w.tag | none => false)

/-- The segment starts whose driver select is `code` in context `c` (spec 02 R42; spec 04 R126). -/
def drvSet (c : Frame) (code : Nat) : List Nat := (List.range 24).filter (fun j => cDrv c j == code)

/-- Whether the latch of `src` is empty (spec 02 R42). -/
def latchFree (t : Tile) (src : LatchSrc) : Bool := !t.latches.any (fun l => decide (l.src = src))

/-- Whether a word for `src` with segment set `set` may be latched: its latch is empty, or its set is, so that the word
is discarded (spec 02 R44). -/
def latchOk (t : Tile) (src : LatchSrc) (set : List Nat) : Bool := decide (set = []) || latchFree t src

/-- The output condition of the firing rule (spec 02 R44): every enabled output whose segment set is not empty has a free latch,
and so has the fork of operand A whenever a driver selects it. -/
def outsFree (t : Tile) (c : Frame) : Bool :=
  (!out0En c || latchOk t .out0 (drvSet c 1)) && (!out1En c || latchOk t .out1 (drvSet c 2)) && latchOk t .fork (drvSet c 3)

/-- Latch a word on a segment set; a word whose set is empty is discarded (spec 02 R42, R44). -/
def latch (t : Tile) (src : LatchSrc) (w : Option SWord) (set : List Nat) (after : Nat) : Tile :=
  match w with
  | some x => if set = [] then t else { t with latches := t.latches ++ [⟨src, x, set, after⟩] }
  | none => t

/-- Whether a firing in flight produces a word for OUT0, for OUT1 (spec 02 R50; spec 03 R111, R112). -/
def flightMakes (fl : Flight) : Bool × Bool :=
  let both := fun (a : Option SWord) =>
    (out0En fl.frame, out1En fl.frame && (out1Src fl.frame != 1 || a.isSome))
  match fl.work with
  | .words a b _ => (a.isSome, b.isSome)
  | .mac _ _ _ _ _ a d => if d then both a else (false, false)
  | .dump _ _ _ _ _ _ a => both a
  | .bank _ _ a _ => both a
  | .load _ a _ => both a

/-- Whether the words of a firing in the last stage may be latched (spec 03 R111). -/
def flightOk (t : Tile) (fl : Flight) : Bool :=
  (!(flightMakes fl).1 || latchOk t .out0 (drvSet fl.frame 1)) && (!(flightMakes fl).2 || latchOk t .out1 (drvSet fl.frame 2))

/-- Whether the pipeline advances: no firing stands in the last stage with a full latch (spec 03 R111). -/
def pipeMoves (t : Tile) : Bool :=
  match t.pipe with
  | fl :: _ => !t.stuck || flightOk t fl
  | [] => true

/-- Whether slot `n` of a tile holds a handler context (spec 05 R190). -/
def handlerSlot (t : Tile) (n : Nat) : Bool := cFmt (smGet 0 t.slots n) != 0 && waveHandler (smGet 0 t.slots n)

/-- Enter context `n`: the turn and last-taken bits clear, a stall ends, and the words that only readers of the old
context had still to take leave (spec 02 R39, R65; spec 04 R135; spec 06 R221). -/
def enterCtx (t : Tile) (n : Fin 16) : Tile :=
  settleAll { t with cur := n, turn := false, lastTaken := false, stalled := false, handled := t.handled || handlerSlot t n }

end Sys2Proof.Machine
end

