-- ==== Sys2Proof/Machine/Flags.lean ====
section
/-! DEFINITION. Result tags, predicates, the counter and the step condition (spec 02 R52, R53, R57, R63, R67). -/

namespace Sys2Proof.Machine

/-- The tag of an operand under POISON_ABSORB: POISON counts as DATA (spec 02 R51). -/
def absorbed (c : Frame) (t : Tag) : Tag := if poisonAbsorb c ∧ t = .poison then .data else t

/-- The tag of an operand a firing did not read counts as DATA (spec 03 R88). -/
def tagOr (c : Frame) : Option SWord → Tag
  | some w => absorbed c w.tag
  | none => .data

/-- Whether any operand that the firing reads carries POISON while POISON_ABSORB = 0 (spec 02 R53).
DEDUCED (assumption log 25). -/
def poisoned (c : Frame) (ops : List (Option SWord)) : Bool :=
  !poisonAbsorb c && ops.any (fun o => match o with | some w => decide (w.tag = .poison) | none => false)

/-- The END rule: the first end tag among the consumed stream operands in the order A, B, C; else PAD if operand A
carries PAD; else DATA (spec 02 R52). `cons` lists the operands consumed. -/
def endRule (a b c : Option SWord) (cons : List Nat) : Tag :=
  let has := fun (o : Nat) (w : Option SWord) => match w with
    | some x => if cons.contains o && isEnd x.tag then some x.tag else none
    | none => none
  match has 0 a, has 1 b, has 2 c with
  | some t, _, _ => t
  | none, some t, _ => t
  | none, none, some t => t
  | none, none, none => match a with
    | some x => if x.tag = .pad then .pad else .data
    | none => .data

/-- The tag under TSRC alone (spec 02 R51, R52; spec 05 R173). -/
def tsrcTag (f : Frame) (a b c : Option SWord) (cons : List Nat) : Tag :=
  match tSrc f with
  | 0 => (a.map SWord.tag).getD .data
  | 1 => (b.map SWord.tag).getD .data
  | 2 => endRule a b c cons
  | _ => tagOf (tConst f)

/-- The result tag that TAG_CTL gives (spec 02 R51 to R53). -/
def resultTag (f : Frame) (a b c : Option SWord) (cons : List Nat) : Tag :=
  if poisoned f [a, b, c] then .poison
  else match tSrc f with
    | 0 => tagOr f a
    | 1 => tagOr f b
    | 2 => endRule a b c cons
    | _ => tagOf (tConst f)

/-- Lane flags combined under PRED_RED; an opcode without a flag combines to 0 (spec 02 R49, R50, R57). -/
def combineFlags (red : Nat) (fl : List Bool) : Bool :=
  if red = 1 then fl.all id && !fl.isEmpty else if red = 2 then fl.any id else fl.headD false

/-- One counter step: the new value, and whether it wrapped (spec 02 R63). -/
def cntStep (cnt lim : Word) : Word × Bool := if cnt = lim then (0, true) else (cnt + 1, false)

/-- The counter stepped in a tile: WRAPPED is set by a wrap (spec 02 R63, R80). -/
def stepCnt (t : Tile) : Tile :=
  let r := cntStep t.cnt t.cntLimit
  { t with cnt := r.1, wrapped := t.wrapped || r.2 }

/-- Whether the next counter step wraps. -/
def wouldWrap (t : Tile) : Bool := decide (t.cnt = t.cntLimit)

/-- The predicates after a write of flag `v` under PDEST (spec 02 R49). -/
def writePred (t : Tile) (pdest : Nat) (v : Bool) : Tile :=
  if pdest = 1 then { t with p0 := v } else if pdest = 2 then { t with p1 := v } else t

/-- Whether the step condition holds after a firing (spec 02 R67). -/
def stepHolds (cond : Nat) (endSeen p0 wrap : Bool) : Bool :=
  if cond = 1 then true else if cond = 2 then endSeen else if cond = 3 then p0
  else if cond = 4 then !p0 else if cond = 5 then wrap else false

/-- The local step: NEXT becomes the current context when the condition of the firing's frame holds (spec 02 R67).
DEDUCED (assumption log 16). -/
def localStep (t : Tile) (c : Frame) (endSeen wrap : Bool) : Tile :=
  if stepHolds (cStep c) endSeen t.p0 wrap then enterCtx t (Fin.ofNat 16 (cNext c)) else t

end Sys2Proof.Machine
end

