-- ==== Sys2Proof/Machine/Alu.lean ====
section
/-! DEFINITION. The A-tile opcodes (spec 02 R56 to R63, R579): what each computes from its operands, and the firing that
all of them share (spec 02 R44, R45). -/

namespace Sys2Proof.Machine

/-- What an A-tile opcode reads beside its tags. -/
structure AIn where
  /-- lane width (spec 02 R56) -/
  w : Nat
  sgn : Bool
  sat : Bool
  a : Nat
  b : Nat
  c : Nat
  imm : Nat
  /-- operand words with their tags, for the opcodes that store them -/
  wa : SWord
  wb : SWord
  t : Tile
  deriving DecidableEq, Repr

/-- What an A-tile opcode gives. -/
structure ARes where
  r : Nat
  /-- lane flags; none where the table shows no flag -/
  flags : Option (List Bool) := none
  /-- a result tag of its own (spec 02 R579) -/
  tag : Option Tag := none
  /-- local registers it writes itself (spec 02 R62) -/
  regs : List (Nat × SWord) := []
  /-- CNT and CNT_LIMIT it loads (spec 02 R59) -/
  setCnt : Option Word := none
  setLim : Option Word := none
  /-- it steps the counter itself (spec 02 R63) -/
  step : Bool := false
  /-- both predicates it writes (CMPC, spec 02 R75) -/
  preds : Option (Bool × Bool) := none
  /-- WB_EN has an effect (spec 02 R62) -/
  wb : Bool := true
  /-- whether its result is produced at all (CMPC members, spec 02 R75) -/
  out : Bool := true
  /-- the tag that R53 tests is the opcode's own (DLY, spec 02 R579) -/
  ownPoison : Bool := false
  deriving DecidableEq, Repr

/-- Lane `k` of width `w` (spec 02 R56). -/
def laneOf (w v k : Nat) : Nat := v / 2 ^ (w * k) % 2 ^ w

/-- Apply a lane function to every lane of the operands (spec 02 R56): the packed result and the lane flags. -/
def laneMap (i : AIn) (f : Nat → Nat → Nat → Nat × Bool) : ARes :=
  let rs := (List.range (32 / i.w)).map (fun k => f (laneOf i.w i.a k) (laneOf i.w i.b k) (laneOf i.w i.c k))
  { r := (rs.map Prod.fst).foldr (fun x acc => x % 2 ^ i.w + 2 ^ i.w * acc) 0, flags := some (rs.map Prod.snd) }

/-- A lane as the SIGNED bit reads it. -/
def laneInt (i : AIn) (v : Nat) : Int := if i.sgn then sintOf i.w v else Int.ofNat (v % 2 ^ i.w)

/-- The lane range under SIGNED, and a value held to it (spec 02 R58). -/
def laneClamp (i : AIn) (x : Int) : Int :=
  if i.sgn then clampS i.w x else max 0 (min x ((2 ^ i.w : Nat) - 1))

/-- An exact sum as a lane: saturated under SAT, else its low bits; flag C (spec 02 R57, R58). -/
def laneSum (i : AIn) (x : Int) : Nat × Bool :=
  (wrapInt i.w (if i.sat then laneClamp i x else x), decide (laneClamp i x ≠ x))

/-- A lane result with flag NZ (spec 02 R57). -/
def laneNZ (i : AIn) (x : Nat) : Nat × Bool := (x % 2 ^ i.w, decide (x % 2 ^ i.w ≠ 0))

/-- A lane mask of a test, with flag T (spec 02 R57, R59). -/
def laneMask (i : AIn) (p : Bool) : Nat × Bool := (if p then 2 ^ i.w - 1 else 0, p)

/-- A 32-bit result with flag NZ. -/
def wordNZ (x : Nat) : ARes := { r := x % 2 ^ 32, flags := some [decide (x % 2 ^ 32 ≠ 0)] }

def aluMov (i : AIn) : ARes := laneMap i (fun a _ _ => laneNZ i a)
def aluAdd (i : AIn) : ARes := laneMap i (fun a b _ => laneSum i (laneInt i a + laneInt i b))
def aluSub (i : AIn) : ARes := laneMap i (fun a b _ => laneSum i (laneInt i a - laneInt i b))
def aluNeg (i : AIn) : ARes := laneMap i (fun a _ _ => laneSum i (0 - laneInt i a))
def aluAbs (i : AIn) : ARes := laneMap i (fun a _ _ => laneSum i (Int.ofNat (sintOf i.w a).natAbs))
def aluAbsd (i : AIn) : ARes := laneMap i (fun a b _ => laneNZ i (laneInt i a - laneInt i b).natAbs)
/-- AVG averages the lanes as unsigned values: SIGNED does not name it (spec 02 R49, R59; assumption log 9). -/
def aluAvg (i : AIn) : ARes := laneMap i (fun a b _ => laneNZ i ((a + b) / 2))
def aluMin (i : AIn) : ARes := laneMap i (fun a b _ => laneNZ i (if laneInt i a ≤ laneInt i b then a else b))
def aluMax (i : AIn) : ARes := laneMap i (fun a b _ => laneNZ i (if laneInt i a ≤ laneInt i b then b else a))
def aluClamp (i : AIn) : ARes :=
  laneMap i (fun a b c => laneNZ i
    (let m := if laneInt i a ≤ laneInt i b then b else a
     if laneInt i m ≤ laneInt i c then m else c))
def aluAdd3 (i : AIn) : ARes := laneMap i (fun a b c => laneSum i (laneInt i a + laneInt i b + laneInt i c))
def aluAnd (i : AIn) : ARes := laneMap i (fun a b _ => laneNZ i (Nat.land a b))
def aluOr (i : AIn) : ARes := laneMap i (fun a b _ => laneNZ i (Nat.lor a b))
def aluXor (i : AIn) : ARes := laneMap i (fun a b _ => laneNZ i (Nat.xor a b))
def aluAndn (i : AIn) : ARes := laneMap i (fun a b _ => laneNZ i (Nat.land a (2 ^ i.w - 1 - b)))
def aluNot (i : AIn) : ARes := laneMap i (fun a _ _ => laneNZ i (2 ^ i.w - 1 - a))
def aluBsel (i : AIn) : ARes :=
  laneMap i (fun a b c => laneNZ i (Nat.lor (Nat.land a c) (Nat.land b (2 ^ i.w - 1 - c))))
def aluShl (i : AIn) : ARes := laneMap i (fun a b _ => laneNZ i (a * 2 ^ (b % i.w)))
def aluShr (i : AIn) : ARes :=
  laneMap i (fun a b _ => laneNZ i (wrapInt i.w (laneInt i a / (2 ^ (b % i.w) : Nat))))
def aluRol (i : AIn) : ARes :=
  laneMap i (fun a b _ => laneNZ i (a * 2 ^ (b % i.w) % 2 ^ i.w + a / 2 ^ (i.w - b % i.w)))
def aluRor (i : AIn) : ARes :=
  laneMap i (fun a b _ => laneNZ i (a / 2 ^ (b % i.w) + a * 2 ^ (i.w - b % i.w) % 2 ^ i.w))
def aluFshr (i : AIn) : ARes := wordNZ ((i.a * 2 ^ 32 + i.b) / 2 ^ (i.c % 32))
def aluCmpeq (i : AIn) : ARes := laneMap i (fun a b _ => laneMask i (decide (a = b)))
def aluCmpne (i : AIn) : ARes := laneMap i (fun a b _ => laneMask i (decide (a ≠ b)))
def aluCmplt (i : AIn) : ARes := laneMap i (fun a b _ => laneMask i (decide (laneInt i a < laneInt i b)))
def aluCmple (i : AIn) : ARes := laneMap i (fun a b _ => laneMask i (decide (laneInt i a ≤ laneInt i b)))
def aluTst (i : AIn) : ARes := laneMap i (fun a b _ => laneMask i (decide (Nat.land a b ≠ 0)))
def aluSel (i : AIn) : ARes := { r := if i.t.p0 then i.a else i.b }
def aluSel1 (i : AIn) : ARes := { r := if i.t.p1 then i.a else i.b }
def aluClz (i : AIn) : ARes :=
  laneMap i (fun a _ _ => laneNZ i (if a = 0 then i.w else i.w - 1 - Nat.log2 a))
def aluCtz (i : AIn) : ARes :=
  laneMap i (fun a _ _ => laneNZ i (((List.range i.w).find? (fun k => bit a k)).getD i.w))
def aluPopc (i : AIn) : ARes := laneMap i (fun a _ _ => laneNZ i ((List.range i.w).filter (fun k => bit a k)).length)
def aluBrev (i : AIn) : ARes := wordNZ (reverseBits 32 i.a)
/-- The byte permute of spec 02 R61. -/
def aluPerm (i : AIn) : ARes :=
  wordNZ ((List.range 4).foldl (fun acc k =>
    let s := laneOf 4 i.b k
    acc + (if s ≥ 8 then 0 else laneOf 8 (i.c * 2 ^ 32 + i.a) (s % 8)) * 2 ^ (8 * k)) 0)
def aluExt (i : AIn) : ARes :=
  let k := i.b % 32
  let low := i.a % 2 ^ (k + 1)
  wordNZ (if i.sgn && bit i.a k then low + (2 ^ 32 - 2 ^ (k + 1)) else low)
def aluCntr (i : AIn) : ARes := { r := i.t.cnt.toNat, flags := some [wouldWrap i.t], step := true }
def aluCntld (i : AIn) : ARes := { r := i.a, setCnt := some (BitVec.ofNat 32 i.a) }
def aluLimld (i : AIn) : ARes := { r := i.a, setLim := some (BitVec.ofNat 32 i.a) }
/-- A word stored by DLY or WRX: a POISON tag is stored as DATA under POISON_ABSORB (spec 02 R579). -/
def storedWord (absorb : Bool) (w : SWord) : SWord := if absorb ∧ w.tag = .poison then { w with tag := .data } else w
/-- The delay line of spec 02 R62. -/
def aluDly (absorb : Bool) (i : AIn) : ARes :=
  let d := i.imm % 8 + 1
  let l := fun (k : Nat) => smGet (⟨0, .data⟩ : SWord) i.t.lreg k
  { r := (l (d - 1)).data.toNat, tag := some (l (d - 1)).tag, ownPoison := true, wb := false
    regs := (List.range d).map (fun k => (k, if k = 0 then storedWord absorb i.wa else l (k - 1))) }
def aluRdx (i : AIn) : ARes :=
  let l := smGet (⟨0, .data⟩ : SWord) i.t.lreg (i.a % 8)
  { wordNZ l.data.toNat with tag := some l.tag }
def aluWrx (absorb : Bool) (i : AIn) : ARes :=
  { r := i.b, regs := [(i.a % 8, storedWord absorb i.wb)], wb := false }

/-- The inputs of an A-tile firing. -/
def aluIn (t : Tile) (c : Frame) : AIn :=
  let m := cMode c
  let zero : SWord := ⟨0, .data⟩
  let wa := (operandIf t c 0).getD zero
  let wb := (operandIf t c 1).getD zero
  let wc := (operandIf t c 2).getD zero
  { w := if bitsOf m 15 14 = 1 then 16 else if bitsOf m 15 14 = 2 then 8 else 32
    sgn := bit m 13, sat := bit m 12, a := wa.data.toNat, b := wb.data.toNat, c := wc.data.toNat
    imm := cImm c, wa := wa, wb := wb, t := t }

/-- The word on OUT1 (spec 02 R50): the result, operand A as consumed, or the flag word. -/
def out1Word (c : Frame) (r : Option SWord) (a : Option SWord) (flag : Bool) : Option SWord :=
  if !out1En c then none
  else if out1Src c = 0 then r
  else if out1Src c = 1 then a
  else some ⟨BitVec.ofNat 32 (b2n flag), .data⟩

/-- Write local registers. -/
def writeRegs (t : Tile) (rs : List (Nat × SWord)) : Tile :=
  { t with lreg := rs.foldl (fun m r => smSet (⟨0, .data⟩ : SWord) m r.1 r.2) t.lreg }

/-- The step that only consumes a PAD word at operand A under DROP_PAD (spec 02 R54): it counts for STEP_COND 1 only.
DEDUCED (assumption log 24). -/
def padFires (t : Tile) (c : Frame) : Bool :=
  dropPad c && !(cOp c == 0xE9 || cOp c == 0xEA) && bit (reads c) 0
    && (match operand t c 0 with | some w => decide (w.tag = .pad) | none => false)

/-- What one A-tile firing leaves, with its words not yet latched: the tile, and the words for OUT0, OUT1 and the fork
(spec 02 R45, R50, R53). DESIGN CHOICE (assumption log 76). DESIGN CHOICE (assumption log 77). -/
def aluApply (t : Tile) (c : Frame) (x : ARes) : Tile × Option SWord × Option SWord × Option SWord :=
  let a := operandIf t c 0
  let b := operandIf t c 1
  let cc := operandIf t c 2
  let es := consumedEnds c [0, 1, 2]
  let cons := consumedOps c [0, 1, 2]
  let psn := poisoned c [a, b, cc] && !x.ownPoison
  let tag := if psn then .poison else x.tag.getD (resultTag c a b cc cons)
  let word : SWord := ⟨BitVec.ofNat 32 x.r, tag⟩
  let fl := combineFlags (bitsOf (cMode c) 3 2) (x.flags.getD [])
  let endSeen := endConsumed t es
  let wraps := wouldWrap t && (x.step || bit (cMode c) 1) && x.setCnt.isNone && x.setLim.isNone
  let t := consume t es
  let t := if (x.step || bit (cMode c) 1) && x.setCnt.isNone && x.setLim.isNone then stepCnt t else t
  let t := match x.setCnt with | some v => { t with cnt := v } | none => t
  let t := match x.setLim with | some v => { t with cntLimit := v } | none => t
  let t := writeRegs t (x.regs ++ (if wbEn c && x.wb && x.out then [(wbReg c, word)] else []))
  let t := if psn then t else match x.preds with
    | some p => { t with p0 := p.1, p1 := p.2 }
    | none => match x.flags with
      | some _ => writePred t (bitsOf (cMode c) 5 4) fl
      | none => t
  let t := { t with poisoned := t.poisoned || (tag = .poison && (psn || x.tag.isSome)) }
  (localStep t c endSeen wraps,
   if out0En c && x.out then some word else none,
   out1Word c (if x.out then some word else none) a fl,
   a)

/-- Whether an A-tile context may fire with the given words (spec 02 R44): its operands are there, no WAVE token waits,
its step is not the dropping of a PAD word, and its outputs are free. -/
def aluReady (t : Tile) (c : Frame) : Bool :=
  opsReady t c [0, 1, 2] && !waveAtHead t c && !padFires t c && outsFree t c

/-- The latches filled by an A-tile firing of context `c` (spec 02 R42). -/
def latchAll (t : Tile) (c : Frame) (o0 o1 fk : Option SWord) : Tile :=
  latch (latch (latch t .out0 o0 (drvSet c 1) 0) .out1 o1 (drvSet c 2) 0) .fork fk (drvSet c 3) 0

/-- Note that tile `i` is active in the present cycle of its field clock (spec 05 R156). -/
def touch (s : State) (i : Nat) (t : Tile) : Tile := { t with activeAt := (getFS s (tileField i)).cycles }

/-- The context of tile `i` that may fire opcode `op` in a tile of kind `k`, where the tile runs (spec 02 R46; spec 05
R177: a barrier-armed tile fires no opcode without a stream operand). -/
def mayFire (s : State) (i : Nat) (k : Kind) (op : Nat) : Bool :=
  let t := getT s i
  let c := ctxFrame t
  tileRuns s i && decide (tileKind i = k) && decide (cFmt c = kindFmt k) && cOp c == op && !t.stalled
    && t.inject.isNone && (t.barArm.isNone || decide (streamOps c ≠ []))

/-- One firing of an A-tile opcode (spec 02 R44, R45). Where the firing rule does not hold, nothing happens. -/
def fireAlu (op : Nat) (f : AIn → ARes) (i : TileIx) (s : State) : State :=
  let t := getT s i
  let c := ctxFrame t
  if mayFire s i .a op && aluReady t c then
    let x := aluApply t c (f (aluIn t c))
    setT s i (touch s i (latchAll x.1 c x.2.1 x.2.2.1 x.2.2.2))
  else s

/-! ### The meanings of the commands of this file -/

/-- MOV (spec 02 R59). -/
def execMov (t : TileIx) (s : State) : Host.Outcome State Fault Refusal := .next (fireAlu 0x01 aluMov t s)
/-- ADD (spec 02 R59). -/
def execAdd (t : TileIx) (s : State) : Host.Outcome State Fault Refusal := .next (fireAlu 0x02 aluAdd t s)
/-- SUB (spec 02 R59). -/
def execSub (t : TileIx) (s : State) : Host.Outcome State Fault Refusal := .next (fireAlu 0x03 aluSub t s)
/-- NEG (spec 02 R59). -/
def execNeg (t : TileIx) (s : State) : Host.Outcome State Fault Refusal := .next (fireAlu 0x04 aluNeg t s)
/-- ABS (spec 02 R59). -/
def execAbs (t : TileIx) (s : State) : Host.Outcome State Fault Refusal := .next (fireAlu 0x05 aluAbs t s)
/-- ABSD (spec 02 R59). -/
def execAbsd (t : TileIx) (s : State) : Host.Outcome State Fault Refusal := .next (fireAlu 0x06 aluAbsd t s)
/-- AVG (spec 02 R59). -/
def execAvg (t : TileIx) (s : State) : Host.Outcome State Fault Refusal := .next (fireAlu 0x07 aluAvg t s)
/-- MIN (spec 02 R59). -/
def execMin (t : TileIx) (s : State) : Host.Outcome State Fault Refusal := .next (fireAlu 0x08 aluMin t s)
/-- MAX (spec 02 R59). -/
def execMax (t : TileIx) (s : State) : Host.Outcome State Fault Refusal := .next (fireAlu 0x09 aluMax t s)
/-- CLAMP (spec 02 R59). -/
def execClamp (t : TileIx) (s : State) : Host.Outcome State Fault Refusal := .next (fireAlu 0x0A aluClamp t s)
/-- ADD3 (spec 02 R59). -/
def execAdd3 (t : TileIx) (s : State) : Host.Outcome State Fault Refusal := .next (fireAlu 0x0B aluAdd3 t s)
/-- AND (spec 02 R59). -/
def execAnd (t : TileIx) (s : State) : Host.Outcome State Fault Refusal := .next (fireAlu 0x10 aluAnd t s)
/-- OR (spec 02 R59). -/
def execOr (t : TileIx) (s : State) : Host.Outcome State Fault Refusal := .next (fireAlu 0x11 aluOr t s)
/-- XOR (spec 02 R59). -/
def execXor (t : TileIx) (s : State) : Host.Outcome State Fault Refusal := .next (fireAlu 0x12 aluXor t s)
/-- ANDN (spec 02 R59). -/
def execAndn (t : TileIx) (s : State) : Host.Outcome State Fault Refusal := .next (fireAlu 0x13 aluAndn t s)
/-- NOT (spec 02 R59). -/
def execNot (t : TileIx) (s : State) : Host.Outcome State Fault Refusal := .next (fireAlu 0x14 aluNot t s)
/-- BSEL (spec 02 R59). -/
def execBsel (t : TileIx) (s : State) : Host.Outcome State Fault Refusal := .next (fireAlu 0x15 aluBsel t s)
/-- SHL (spec 02 R59). -/
def execShl (t : TileIx) (s : State) : Host.Outcome State Fault Refusal := .next (fireAlu 0x18 aluShl t s)
/-- SHR (spec 02 R59). -/
def execShr (t : TileIx) (s : State) : Host.Outcome State Fault Refusal := .next (fireAlu 0x19 aluShr t s)
/-- ROL (spec 02 R59). -/
def execRol (t : TileIx) (s : State) : Host.Outcome State Fault Refusal := .next (fireAlu 0x1A aluRol t s)
/-- ROR (spec 02 R59). -/
def execRor (t : TileIx) (s : State) : Host.Outcome State Fault Refusal := .next (fireAlu 0x1B aluRor t s)
/-- FSHR (spec 02 R59). -/
def execFshr (t : TileIx) (s : State) : Host.Outcome State Fault Refusal := .next (fireAlu 0x1C aluFshr t s)
/-- CMPEQ (spec 02 R59). -/
def execCmpeq (t : TileIx) (s : State) : Host.Outcome State Fault Refusal := .next (fireAlu 0x20 aluCmpeq t s)
/-- CMPNE (spec 02 R59). -/
def execCmpne (t : TileIx) (s : State) : Host.Outcome State Fault Refusal := .next (fireAlu 0x21 aluCmpne t s)
/-- CMPLT (spec 02 R59). -/
def execCmplt (t : TileIx) (s : State) : Host.Outcome State Fault Refusal := .next (fireAlu 0x22 aluCmplt t s)
/-- CMPLE (spec 02 R59). -/
def execCmple (t : TileIx) (s : State) : Host.Outcome State Fault Refusal := .next (fireAlu 0x23 aluCmple t s)
/-- TST (spec 02 R59). -/
def execTst (t : TileIx) (s : State) : Host.Outcome State Fault Refusal := .next (fireAlu 0x24 aluTst t s)
/-- SEL (spec 02 R59). -/
def execSel (t : TileIx) (s : State) : Host.Outcome State Fault Refusal := .next (fireAlu 0x28 aluSel t s)
/-- SEL1 (spec 02 R59). -/
def execSel1 (t : TileIx) (s : State) : Host.Outcome State Fault Refusal := .next (fireAlu 0x29 aluSel1 t s)
/-- CLZ (spec 02 R59). -/
def execClz (t : TileIx) (s : State) : Host.Outcome State Fault Refusal := .next (fireAlu 0x30 aluClz t s)
/-- CTZ (spec 02 R59). -/
def execCtz (t : TileIx) (s : State) : Host.Outcome State Fault Refusal := .next (fireAlu 0x31 aluCtz t s)
/-- POPC (spec 02 R59). -/
def execPopc (t : TileIx) (s : State) : Host.Outcome State Fault Refusal := .next (fireAlu 0x32 aluPopc t s)
/-- BREV (spec 02 R59). -/
def execBrev (t : TileIx) (s : State) : Host.Outcome State Fault Refusal := .next (fireAlu 0x33 aluBrev t s)
/-- PERM (spec 02 R61). -/
def execPerm (t : TileIx) (s : State) : Host.Outcome State Fault Refusal := .next (fireAlu 0x34 aluPerm t s)
/-- EXT (spec 02 R59). -/
def execExt (t : TileIx) (s : State) : Host.Outcome State Fault Refusal := .next (fireAlu 0x35 aluExt t s)
/-- CNTR (spec 02 R63). -/
def execCntr (t : TileIx) (s : State) : Host.Outcome State Fault Refusal := .next (fireAlu 0x38 aluCntr t s)
/-- CNTLD (spec 02 R63). -/
def execCntld (t : TileIx) (s : State) : Host.Outcome State Fault Refusal := .next (fireAlu 0x39 aluCntld t s)
/-- LIMLD (spec 02 R63). -/
def execLimld (t : TileIx) (s : State) : Host.Outcome State Fault Refusal := .next (fireAlu 0x3A aluLimld t s)
/-- DLY (spec 02 R62). -/
def execDly (t : TileIx) (s : State) : Host.Outcome State Fault Refusal :=
  .next (fireAlu 0x48 (aluDly (poisonAbsorb (ctxFrame (getT s t)))) t s)
/-- RDX (spec 02 R579). -/
def execRdx (t : TileIx) (s : State) : Host.Outcome State Fault Refusal := .next (fireAlu 0x4C aluRdx t s)
/-- WRX (spec 02 R579). -/
def execWrx (t : TileIx) (s : State) : Host.Outcome State Fault Refusal :=
  .next (fireAlu 0x4D (aluWrx (poisonAbsorb (ctxFrame (getT s t)))) t s)

end Sys2Proof.Machine
end

