-- ==== Sys2Proof/Machine/Stream.lean ====
section
/-! DEFINITION. The common stream operations, which every tile kind executes (spec 02 R64 to R66), the dropping of a PAD
word (R54), TCMD (spec 05 R173) and the chained opcodes of A-tiles (spec 02 R69 to R75, R580). -/

namespace Sys2Proof.Machine

/-- What a common stream operation does once its operands are there: which operands it uses, the words for OUT0 and
OUT1, the word it passes (for the write-back), whether it flips the turn bit, the last-taken bit it leaves, whether it
steps the counter itself, the command it puts into the tree port. DEDUCED (assumption log 11). -/
structure SRes where
  use : List Nat
  out0 : Option SWord := none
  out1 : Option SWord := none
  pass : Option SWord := none
  flip : Bool := false
  last : Option Bool := none
  step : Bool := false
  port : Option TreeCmd := none
  deriving DecidableEq, Repr

/-- A stream operation's operand: the word there, unless it is a WAVE token or missing. -/
def sOpnd (t : Tile) (c : Frame) (o : Nat) : Option SWord := if opsReady t c [o] then operand t c o else none

/-- A result passed under the DEST rules: OUT0 when enabled, OUT1 by OUT1_SRC; the flag word is 0, since the flag rules
do not apply (spec 02 R50, R64). DESIGN CHOICE (assumption log 76). -/
def sPass (c : Frame) (use : List Nat) (a : Option SWord) (w : SWord) : SRes :=
  { use := use, out0 := if out0En c then some w else none
    out1 := out1Word c (some w) (if use.contains 0 then a else none) false, pass := some w }

/-- FORK: a to OUT0 and OUT1, OUT1_SRC ignored (spec 02 R64). -/
def strFork (t : Tile) (c : Frame) : Option SRes :=
  (sOpnd t c 0).map (fun a =>
    { use := [0], out0 := if out0En c then some a else none, out1 := if out1En c then some a else none, pass := some a })
/-- ZIP: the word of the operand whose turn it is (spec 02 R64, R65). -/
def strZip (t : Tile) (c : Frame) : Option SRes :=
  let o := b2n t.turn
  (sOpnd t c o).map (fun w => { sPass c [o] (sOpnd t c 0) w with flip := true })
/-- UNZIP: alternately to OUT0 and OUT1 (spec 02 R64, R65). -/
def strUnzip (t : Tile) (c : Frame) : Option SRes :=
  (sOpnd t c 0).map (fun a =>
    { use := [0], out0 := if !t.turn && out0En c then some a else none
      out1 := if t.turn && out1En c then some a else none, pass := some a, flip := true })
/-- JOIN: the turn toggles after an end tag (spec 02 R64, R65). -/
def strJoin (t : Tile) (c : Frame) : Option SRes :=
  let o := b2n t.turn
  (sOpnd t c o).map (fun w => { sPass c [o] (sOpnd t c 0) w with flip := isEnd w.tag })
/-- MERGE: whichever operand is valid; the one not taken last on a tie (spec 02 R64, R65). -/
def strMerge (t : Tile) (c : Frame) : Option SRes :=
  match sOpnd t c 0, sOpnd t c 1 with
  | some a, some b => if t.lastTaken then some { sPass c [1] (some a) b with last := some false }
      else some { sPass c [0] (some a) a with last := some true }
  | some a, none => some { sPass c [0] (some a) a with last := some true }
  | none, some b => some { sPass c [1] none b with last := some false }
  | none, none => none
/-- FILTP: a to OUT0 when P0 = 1, or with KEEP_END when it ends a record (spec 02 R64, R66).
DESIGN CHOICE (assumption log 76). -/
def strFiltp (t : Tile) (c : Frame) : Option SRes :=
  (sOpnd t c 0).map (fun a =>
    if t.p0 || (keepEnd c && isEnd a.tag) then
      { use := [0], out0 := if out0En c then some a else none, pass := some a }
    else { use := [0] })
/-- FILTB: a to OUT0 when b is not 0 (spec 02 R64, R66). DESIGN CHOICE (assumption log 76). -/
def strFiltb (t : Tile) (c : Frame) : Option SRes :=
  match sOpnd t c 0, sOpnd t c 1 with
  | some a, some b =>
    if b.data ≠ 0 ∨ (keepEnd c && isEnd a.tag) then
      some { use := [0, 1], out0 := if out0En c then some a else none, pass := some a }
    else some { use := [0, 1] }
  | _, _ => none
/-- SPLIT: a to OUT0 when b is not 0, otherwise to OUT1 (spec 02 R64, R66). -/
def strSplit (t : Tile) (c : Frame) : Option SRes :=
  match sOpnd t c 0, sOpnd t c 1 with
  | some a, some b =>
    some { use := [0, 1], out0 := if b.data ≠ 0 ∧ out0En c then some a else none
           out1 := if b.data = 0 ∧ out1En c then some a else none, pass := some a }
  | _, _ => none
/-- TAGINS: the counter steps; a wrap gives the output tag TCONST (spec 02 R64). -/
def strTagins (t : Tile) (c : Frame) : Option SRes :=
  (sOpnd t c 0).map (fun a =>
    { sPass c [0] (some a) (if wouldWrap t then { a with tag := tagOf (tConst c) } else a) with step := true })
/-- TAGSTRIP: end tags become DATA; PAD words are consumed with no output (spec 02 R64). -/
def strTagstrip (t : Tile) (c : Frame) : Option SRes :=
  (sOpnd t c 0).map (fun a =>
    if a.tag = .pad then { use := [0] }
    else sPass c [0] (some a) (if isEnd a.tag then { a with tag := .data } else a))
/-- DROPPAD: PAD words are consumed with no output (spec 02 R64). -/
def strDroppad (t : Tile) (c : Frame) : Option SRes :=
  (sOpnd t c 0).map (fun a => if a.tag = .pad then { use := [0] } else sPass c [0] (some a) a)
/-- DISCARD (spec 02 R64). -/
def strDiscard (t : Tile) (c : Frame) : Option SRes := (sOpnd t c 0).map (fun _ => { use := [0] })

/-- The train command that TCMD forms from operand A and IMM (spec 05 R173): train word, PL, CMD, CTX, PARAM. The key is
the tile's (R174). -/
def tcmdOf (dev : BitVec 16) (i : Nat) (t : Tile) (c : Frame) (a : SWord) : TreeCmd :=
  let m := cImm c
  { word := a.data, pl := BitVec.ofNat 5 (bitsOf m 31 27), cmd := BitVec.ofNat 4 (bitsOf m 26 23)
    ctx := BitVec.ofNat 4 (bitsOf m 22 19), param := BitVec.ofNat 32 (bitsOf m 15 0)
    key := ⟨dev, BitVec.ofNat 16 (0x1000 + fb t.static 251 240)⟩
    issuer := .tcmd (BitVec.ofNat 30 (dev.toNat * 16384 + i)) }

/-- TCMD: fires only while the tree port is empty; its result is a with its tag under TSRC (spec 05 R173), the POISON rules
apart, which R64 does not apply to it, so that POISONED stays. DEDUCED (assumption log 64). -/
def strTcmd (dev : BitVec 16) (i : Nat) (t : Tile) (c : Frame) : Option SRes :=
  if t.treePort.isSome then none
  else (sOpnd t c 0).map (fun a =>
    { sPass c [0] (some a) { a with tag := tsrcTag c (some a) none none (consumedOps c [0]) } with
      port := some (tcmdOf dev i t c a) })

/-- Whether a firing may enter the pipeline of a tile: it advances (spec 03 R111), and it holds fewer firings than its stages, in
M-tiles S1 to S4 (spec 03 R110), in B-tiles S1 and S2 beside the gateway loads that wait (spec 06 R210). -/
def pipeRoom (i : Nat) (t : Tile) : Bool :=
  pipeMoves t && match tileKind i with
  | .a => decide (t.pipe = [])
  | .m => decide (t.pipe.length < 4)
  | .b => decide ((t.pipe.filter (fun fl => match fl.work with | .load _ _ _ => false | _ => true)).length < 2)

/-- The bookkeeping at the issue of a stream operation: consumption, turn and last-taken bits, counter, tree port, local
step (spec 02 R45, R65, R67). -/
def strIssue (t : Tile) (c : Frame) (x : SRes) : Tile :=
  let es := consumedEnds c x.use
  let endSeen := endConsumed t es
  let steps := x.step || bit (cMode c) 1
  let wraps := wouldWrap t && steps
  let t := consume t es
  let t := if steps then stepCnt t else t
  let t := { t with turn := t.turn != x.flip, lastTaken := x.last.getD t.lastTaken
                    treePort := match x.port with | some p => some p | none => t.treePort }
  localStep t c endSeen wraps

/-- The word that a fork carries when a stream operation fires: operand A where it uses it (spec 02 R42).
DESIGN CHOICE (assumption log 76). -/
def strFk (t : Tile) (c : Frame) (x : SRes) : Option SWord := if x.use.contains 0 then sOpnd t c 0 else none

/-- The output condition of a common stream operation in an A-tile: R44's, but for UNZIP and SPLIT only over the output that the
firing drives (spec 02 R44, R65). -/
def strOuts (op : Nat) (t : Tile) (c : Frame) (x : SRes) : Bool :=
  if op = 0xE2 ∨ op = 0xE7 then
    (x.out0.isNone || latchOk t .out0 (drvSet c 1)) && (x.out1.isNone || latchOk t .out1 (drvSet c 2)) && latchOk t .fork (drvSet c 3)
  else outsFree t c

/-- One firing of a common stream operation in any tile (spec 02 R64; spec 03 R110; spec 06 R210). In an A-tile its words
are latched at once; in an M-tile or B-tile they enter the pipeline. DEDUCED (assumption log 11). -/
def fireStr (op : Nat) (f : Tile → Frame → Option SRes) (i : TileIx) (s : State) : State :=
  let t := getT s i
  let c := ctxFrame t
  if mayFire s i (tileKind i) op && !padFires t c && !waveDue t c then
    match f t c with
    | none => s
    | some x =>
      let fk := strFk t c x
      let wb := if wbEn c then x.pass else none
      if tileKind i = .a then
        if strOuts op t c x then
          let t' := writeRegs t (match wb with | some w => [(wbReg c, w)] | none => [])
          setT s i (touch s i (latchAll (strIssue t' c x) c x.out0 x.out1 fk))
        else s
      else if pipeRoom i t && latchOk t .fork (drvSet c 3) then
        let t' := latch (strIssue t c x) .fork fk (drvSet c 3) t.pipe.length
        setT s i (touch s i { t' with pipe := t'.pipe ++ [⟨c, .words x.out0 x.out1 wb⟩] })
      else s
  else s

/-- A firing that only consumes a PAD word at operand A under DROP_PAD: no output, no write-back, no predicate, no
counter step; it counts for STEP_COND 1 (spec 02 R54). In an M-tile and in a B-tile it issues as every firing does, when the pipeline
advances, and not over a fork word that waits (spec 03 R111; spec 06 R210). DEDUCED (assumption log 24). DESIGN CHOICE (assumption log 76). -/
def opDropPad (i : TileIx) (s : State) : State :=
  let t := getT s i
  let c := ctxFrame t
  if mayFire s i (tileKind i) (cOp c) && padFires t c && !waveDue t c
      && (tileKind i == .a || (pipeRoom i t && latchOk t .fork (drvSet c 3))) then
    let t' := consume t (consumedEnds c [0])
    setT s i (touch s i (if cStep c = 1 then enterCtx t' (Fin.ofNat 16 (cNext c)) else t'))
  else s

/-! ### The carry chain -/

def chEn (c : Frame) : Bool := bit (cChain c) 7
def chHead (c : Frame) : Bool := bit (cChain c) 6
def chTail (c : Frame) : Bool := bit (cChain c) 5
def chCin (c : Frame) : Nat := bitsOf (cChain c) 4 3
def chCross (c : Frame) : Bool := bit (cChain c) 2

/-- Whether the static frame enables the chain links of a tile (spec 05 R154). -/
def chStatic (t : Tile) : Bool := bit t.static.toNat 231

/-- Whether a tile's current context is a chain member: CH_EN, valid, one of the three opcodes (spec 02 R71). -/
def chMember (t : Tile) : Bool :=
  let c := ctxFrame t
  decide (cFmt c = 1) && chEn c && decide (0x40 ≤ cOp c ∧ cOp c ≤ 0x42)

/-- The west neighbour of a tile whose row has chain links and which lies in the same field (spec 02 R69). -/
def chWest (i : Nat) : Option Nat :=
  if tileV i % 2 = 0 ∧ tileX i % 16 ≠ 0 then some (tileAt (tileX i - 1) (tileY i)) else none
/-- The east neighbour, likewise. -/
def chEast (i : Nat) : Option Nat :=
  if tileV i % 2 = 0 ∧ tileX i % 16 ≠ 15 then some (tileAt (tileX i + 1) (tileY i)) else none

/-- Whether the link into tile `i` from the west is live (spec 02 R72). -/
def linkLive (s : State) (i : Nat) : Bool :=
  match chWest i with
  | none => false
  | some w =>
    let tw := getT s w; let te := getT s i
    chStatic tw && chStatic te && chMember tw && !chTail (ctxFrame tw) && chMember te && !chHead (ctxFrame te)
      && (tileU i != 0 || chCross (ctxFrame te))

/-- The members of the chain group of tile `i`, west to east: a run joined by live unregistered links, which lies within
one patch row (spec 02 R69, R73). -/
def chainGroup (s : State) (i : Nat) : List Nat :=
  if !chMember (getT s i) then [i] else
  let row := (List.range 4).map (fun u => tileAt (tileX i / 4 * 4 + u) (tileY i))
  let u := tileU i
  let joined := fun (a b : Nat) =>    -- all links between columns a and b, a ≤ b, are live
    (List.range (b - a)).all (fun k => linkLive s (row.getD (a + k + 1) i))
  row.filter (fun j => if tileU j ≤ u then joined (tileU j) u else joined u (tileU j))

/-- The chain signals that a member without a live link starts from (spec 02 R70, R72, R580). -/
def chainStart (t : Tile) : ChainSig :=
  let c := ctxFrame t
  if !chEn c then ⟨cOp c == 0x41, true, false⟩
  else if !chHead c then ⟨false, true, false⟩
  else ⟨match chCin c with | 0 => false | 1 => true | 2 => t.p0 | _ => t.p1, true, false⟩

/-- What one member of a chain computes (spec 02 R74, R75): its result, and the signals it passes on. `tail` says
whether it writes flags. The signals that ADDC and SUBC pass beside the carry, and the carry that CMPC passes, are
stated nowhere: they are free values (assumption log 3). DESIGN CHOICE (assumption log 10).
DESIGN CHOICE (assumption log 77). -/
def chainMember (i : AIn) (op : Nat) (tail : Bool) (sig : ChainSig) (free : BitVec 64) : ARes × ChainSig :=
  let b := if op = 0x41 then 2 ^ 32 - 1 - i.b else i.b
  let sum := i.a + b + b2n sig.carry
  let co := decide (2 ^ 32 ≤ sum)
  if op = 0x42 then
    let lt := if tail && i.sgn then decide (sintOf 32 i.a < sintOf 32 i.b) else decide (i.a < i.b)
    let eq' := sig.eq && decide (i.a = i.b)
    let lt' := lt || (decide (i.a = i.b) && sig.lt)
    ({ r := b2n eq' + 2 * b2n lt', preds := if tail then some (eq', lt') else none, out := tail },
     ⟨free.getLsbD 0, eq', lt'⟩)
  else
    let sv := sintOf 32 i.a + sintOf 32 b + b2n sig.carry
    let ov := decide (sv ≠ clampS 32 sv)
    ({ r := sum % 2 ^ 32
       flags := if tail then some [if i.sgn then ov else if op = 0x40 then co else !co] else none },
     ⟨co, free.getLsbD 1, free.getLsbD 2⟩)

/-- The members of a group computed west to east: for each its tile index, what it gives, and at the end the signals
that leave the group. -/
def chainRun (s : State) : List Nat → ChainSig → Nat → List (Nat × ARes) × ChainSig
  | [], sig, _ => ([], sig)
  | j :: js, sig, k =>
    let t := getT s j
    let c := ctxFrame t
    let m := chainMember (aluIn t c) (cOp c) (!chEn c || chTail c) sig (Config.freeWord (s.fresh + k))
    let rest := chainRun s js m.2 (k + 1)
    ((j, m.1) :: rest.1, rest.2)

/-- The registered link that the group ending at tile `i` fills, if it is live (spec 02 R73). -/
def chainOut (s : State) (i : Nat) : Option Nat :=
  match chEast i with
  | some e => if tileU e = 0 ∧ linkLive s e then some e else none
  | none => none

/-- Whether the link into the chain group that starts at tile `first` is a live registered one (spec 02 R73). -/
def chainReg (s : State) (first : Nat) : Bool := tileU first == 0 && linkLive s first

/-- The signals that enter the chain group that starts at tile `first`; none where its registered link holds none (spec 02 R73). -/
def chainSigIn (s : State) (first : Nat) : Option ChainSig :=
  if chainReg s first then (getT s first).chainIn else some (chainStart (getT s first))

/-- Whether the chain group of tile `i` fires (spec 02 R73): every member meets the firing rule, a live registered link into the group
holds signals, and a live registered link out of it is empty. -/
def chainReady (s : State) (i : Nat) : Bool :=
  let g := chainGroup s i
  (chainSigIn s (g.headD i)).isSome
    && g.all (fun j => mayFire s j .a (cOp (ctxFrame (getT s j))) && aluReady (getT s j) (ctxFrame (getT s j)))
    && (match chainOut s (g.getLastD i) with | some e => (getT s e).chainIn.isNone | none => true)

/-- One firing of the chain group of tile `i`, whose own opcode is `op` (spec 02 R73): every member fires together. -/
def fireChain (op : Nat) (i : TileIx) (s : State) : State :=
  if !mayFire s i .a op || !chainReady s i then s else
  let g := chainGroup s i
  let first := g.headD i
  let run := chainRun s g ((chainSigIn s first).getD ⟨false, true, false⟩) 0
  let s1 := run.1.foldl (fun st p =>
    let c := ctxFrame (getT s p.1)
    let x := aluApply (getT s p.1) c p.2
    setT st p.1 (touch s p.1 (latchAll x.1 c x.2.1 x.2.2.1 x.2.2.2))) s
  let s2 := if chainReg s first then setT s1 first { getT s1 first with chainIn := none } else s1
  let s3 := match chainOut s (g.getLastD i) with
    | some e => setT s2 e { getT s2 e with chainIn := some run.2 }
    | none => s2
  { s3 with fresh := s.fresh + g.length }

/-! ### The meanings of the commands of this file -/

/-- ADDC (spec 02 R74). -/
def execAddc (t : TileIx) (s : State) : Host.Outcome State Fault Refusal := .next (fireChain 0x40 t s)
/-- SUBC (spec 02 R74). -/
def execSubc (t : TileIx) (s : State) : Host.Outcome State Fault Refusal := .next (fireChain 0x41 t s)
/-- CMPC (spec 02 R74). -/
def execCmpc (t : TileIx) (s : State) : Host.Outcome State Fault Refusal := .next (fireChain 0x42 t s)
/-- DROP_PAD (spec 02 R54). -/
def execDropPad (t : TileIx) (s : State) : Host.Outcome State Fault Refusal := .next (opDropPad t s)
/-- FORK (spec 02 R64). -/
def execForkOp (t : TileIx) (s : State) : Host.Outcome State Fault Refusal := .next (fireStr 0xE0 strFork t s)
/-- ZIP (spec 02 R65). -/
def execZip (t : TileIx) (s : State) : Host.Outcome State Fault Refusal := .next (fireStr 0xE1 strZip t s)
/-- UNZIP (spec 02 R65). -/
def execUnzip (t : TileIx) (s : State) : Host.Outcome State Fault Refusal := .next (fireStr 0xE2 strUnzip t s)
/-- JOIN (spec 02 R65). -/
def execJoin (t : TileIx) (s : State) : Host.Outcome State Fault Refusal := .next (fireStr 0xE3 strJoin t s)
/-- MERGE (spec 02 R65). -/
def execMerge (t : TileIx) (s : State) : Host.Outcome State Fault Refusal := .next (fireStr 0xE4 strMerge t s)
/-- FILTP (spec 02 R66). -/
def execFiltp (t : TileIx) (s : State) : Host.Outcome State Fault Refusal := .next (fireStr 0xE5 strFiltp t s)
/-- FILTB (spec 02 R66). -/
def execFiltb (t : TileIx) (s : State) : Host.Outcome State Fault Refusal := .next (fireStr 0xE6 strFiltb t s)
/-- SPLIT (spec 02 R66). -/
def execSplit (t : TileIx) (s : State) : Host.Outcome State Fault Refusal := .next (fireStr 0xE7 strSplit t s)
/-- TAGINS (spec 02 R64). -/
def execTagins (t : TileIx) (s : State) : Host.Outcome State Fault Refusal := .next (fireStr 0xE8 strTagins t s)
/-- TAGSTRIP (spec 02 R64). -/
def execTagstrip (t : TileIx) (s : State) : Host.Outcome State Fault Refusal := .next (fireStr 0xE9 strTagstrip t s)
/-- DROPPAD (spec 02 R64). -/
def execDroppad (t : TileIx) (s : State) : Host.Outcome State Fault Refusal := .next (fireStr 0xEA strDroppad t s)
/-- DISCARD (spec 02 R64). -/
def execDiscard (t : TileIx) (s : State) : Host.Outcome State Fault Refusal := .next (fireStr 0xEB strDiscard t s)
/-- TCMD (spec 05 R173). -/
def execTcmd (t : TileIx) (s : State) : Host.Outcome State Fault Refusal := .next (fireStr 0xF8 (strTcmd (devId s) t) t s)

end Sys2Proof.Machine
end

