-- ==== Sys2Proof/Machine/Mac.lean ====
section
/-! DEFINITION. Multiply-accumulate tiles (spec 03): factors and address generators at issue, sums, accumulators, the
dump, and the last stage of the pipeline. -/

namespace Sys2Proof.Machine

/-- MODE fields of an M-opcode (spec 03 R86). -/
def mSgnP (c : Frame) : Bool := bit (cMode c) 15
def mSgnQ (c : Frame) : Bool := bit (cMode c) 14
def mSrcX (c : Frame) : Bool := bit (cMode c) 13
def mSrcY (c : Frame) : Bool := bit (cMode c) 12
def mSet (c : Frame) : Nat := bitsOf (cMode c) 11 10
def mAgw (c : Frame) : Bool := bit (cMode c) 9
def mAgwMem (c : Frame) : Bool := bit (cMode c) 8
def mCntEn (c : Frame) : Bool := bit (cMode c) 7
def mQuad (c : Frame) : Bool := bit (cMode c) 6
def mAccOp (c : Frame) : Nat := bitsOf (cMode c) 3 2
def mAccSel (c : Frame) : Bool := bit (cMode c) 1
def mConj (c : Frame) : Bool := bit (cMode c) 0
/-- Fields of the MAC control word (spec 03 R87). -/
def kDumpWrap (c : Frame) : Bool := bit (cImm c) 11
def kReload (c : Frame) : Bool := bit (cImm c) 10
def kOsgn (c : Frame) : Bool := bit (cImm c) 9
def kOsat (c : Frame) : Bool := bit (cImm c) 8
def kOfmt (c : Frame) : Nat := bitsOf (cImm c) 7 6
def kShift (c : Frame) : Nat := bitsOf (cImm c) 5 0

/-- Whether an M-opcode is a MAC form, a MUL form (spec 03 R89). -/
def isMac (op : Nat) : Bool := decide (0x60 ≤ op ∧ op ≤ 0x63)
def isMul (op : Nat) : Bool := decide (0x68 ≤ op ∧ op ≤ 0x6B)

/-- One use of an address generator (spec 03 R106): its register after the use, the address, and whether it clamped. -/
def agUse (r : Reg) : Reg × Nat × Bool :=
  let v := r.toNat
  let base := bitsOf v 9 0
  let len := min (bitsOf v 20 10) 1024
  let step := sintOf 11 (bitsOf v 31 21)
  let ptr := bitsOf v 41 32
  let put := fun (p : Nat) => BitVec.ofNat 64 (v % 2 ^ 32 + p * 2 ^ 32)
  if len = 0 then (put (wrapInt 10 (ptr + step)), ptr, false)
  else
    let off0 := (ptr + 1024 - base) % 1024
    let out0 := decide (len ≤ off0)
    let off := if out0 then 0 else off0
    let n := (off : Int) + step
    let n1 := if (len : Int) ≤ n then n - len else if n < 0 then n + len else n
    let out1 := decide (n1 < 0 ∨ (len : Int) ≤ n1)
    let n2 := if out1 then 0 else n1.toNat
    (put ((base + n2) % 1024), (base + off) % 1024, out0 || out1)

/-- The generator register of set `s`, generator `g` (0 W, 1 X, 2 Y) (spec 03 R120). -/
def agGet (t : Tile) (k : Nat) : Reg := smGet agReset t.m.ags k
def agSet (t : Tile) (k : Nat) (v : Reg) : Tile := { t with m := { t.m with ags := smSet agReset t.m.ags k v } }

/-- Set bit `b` of M_STATUS (spec 03 R118). -/
def mStat (t : Tile) (b : Nat) : Tile := { t with m := { t.m with stat := t.m.stat ||| BitVec.ofNat 64 (2 ^ b) } }

/-- Use generator `g` of the context's set: the tile after it, and the address (spec 03 R106). -/
def agStep (t : Tile) (c : Frame) (g : Nat) : Tile × Nat :=
  let k := 3 * mSet c + g
  let u := agUse (agGet t k)
  (agSet (if u.2.2 then mStat t (3 + g) else t) k u.1, u.2.1)

/-- The address of word `a` of X (`y` false) or Y memory of tile `i` (spec 03 R99). -/
def xyAddr (i : Nat) (y : Bool) (a : Nat) : Nat := tileBase i + (if y then 0x1000 else 0) + 4 * a

/-- The word at address `a` of X or Y memory, with the tag POISON when its parity fails (spec 03 R102). -/
def xyWord (s : State) (i : Nat) (y : Bool) (a : Nat) : SWord :=
  ⟨BitVec.ofNat 32 (leBytes (memRead s (xyAddr i y a) 4)),
   if smGet false s.xyBad (xyAddr i y a / 4) then .poison else .data⟩

/-- Write a word of X or Y memory with good parity (spec 03 R102). -/
def xyWrite (s : State) (i : Nat) (y : Bool) (a : Nat) (w : Word) : State :=
  let s' := memWrite s (xyAddr i y a) (bytesLE 4 w.toNat)
  { s' with xyBad := smSet false s'.xyBad (xyAddr i y a / 4) false }

/-- A parity failure of X or Y memory: the status bit and event 0x710 with the word address (spec 03 R102), 0 to 1,023 (R99).
DEDUCED (assumption log 65). -/
def xyFail (s : State) (i : Nat) (y : Bool) (a : Nat) : State :=
  reportTile (if s.boot.srst then setT s i (mStat (getT s i) (if y then 11 else 10)) else s) i 0x710 (detail [(a, 2)])

/-- Lane `k` of width `w` of a factor, under its sign (spec 03 R90). -/
def facLane (sgn : Bool) (w : Nat) (v : SWord) (k : Nat) : Int :=
  if sgn then sintOf w (laneOf w v.data.toNat k) else Int.ofNat (laneOf w v.data.toNat k)

/-- The sums S0 and S1 of a firing (spec 03 R90). -/
def macSums (c : Frame) (f1 f2 e1 e2 : SWord) : Int × Int :=
  let op := cOp c % 8
  let x := facLane (mSgnP c); let y := facLane (mSgnQ c)
  if op = 0 then (x 32 f1 0 * y 32 f2 0, 0)
  else if op = 1 then
    if mConj c then (x 16 f1 0 * y 16 f2 0 + x 16 f1 1 * y 16 f2 1, x 16 f1 0 * y 16 f2 1 - x 16 f1 1 * y 16 f2 0)
    else (x 16 f1 0 * y 16 f2 0 - x 16 f1 1 * y 16 f2 1, x 16 f1 0 * y 16 f2 1 + x 16 f1 1 * y 16 f2 0)
  else if op = 2 then
    if mQuad c then (x 16 f1 0 * y 16 f2 0 + x 16 e1 0 * y 16 e2 0, x 16 f1 1 * y 16 f2 1 + x 16 e1 1 * y 16 e2 1)
    else (x 16 f1 0 * y 16 f2 0, x 16 f1 1 * y 16 f2 1)
  else
    let dot := fun (a b : SWord) => ((List.range 4).map (fun k => x 8 a k * y 8 b k)).sum
    (dot f1 f2 + (if mQuad c then dot e1 e2 else 0), 0)

/-- The writes and fetches of an M firing at issue (spec 03 R84, R100, R106): AGW first, since a read of the same word
returns the new data; then AGX and AGY. Gives the state, the X word and the Y word. -/
def macFetch (s : State) (i : Nat) (c : Frame) : State × SWord × SWord :=
  let zero : SWord := ⟨0, .data⟩
  let reads := isMac (cOp c) || isMul (cOp c)
  let s := if mAgw c then
      let u := agStep (getT s i) c 0
      let w := ((operand (getT s i) c 2).getD zero).data
      portUsed (xyWrite (setT s i u.1) i (mAgwMem c) u.2 w) i 1 (xyAddr i (mAgwMem c) 0) (xyAddr i (mAgwMem c) 1024) (fun _ => false)
    else s
  let rx := if reads && mSrcX c then
      let u := agStep (getT s i) c 1
      let s := portUsed (setT s i u.1) i 0 (xyAddr i false 0) (xyAddr i false 1024) (fun _ => false)
      let w := xyWord s i false u.2
      (if w.tag = .poison then xyFail s i false u.2 else s, w)
    else (s, zero)
  let s := rx.1
  let ry := if reads && mSrcY c then
      let u := agStep (getT s i) c 2
      let s := portUsed (setT s i u.1) i 0 (xyAddr i true 0) (xyAddr i true 1024) (fun _ => false)
      let w := xyWord s i true u.2
      (if w.tag = .poison then xyFail s i true u.2 else s, w)
    else (s, zero)
  (ry.1, rx.2, ry.2)

/-- Whether a firing's Y fetch lies in a line marked stale (spec 03 R104). -/
def macStale (t : Tile) (c : Frame) : Bool :=
  (isMac (cOp c) || isMul (cOp c)) && mSrcY c && t.m.yStale.contains ((agUse (agGet t (3 * mSet c + 2))).2.1 / 16)

/-- Whether a firing does not issue because it writes X or Y memory before WEN (spec 12 R466), or because a port that it uses is
taken by a network access that has waited PORT_WAIT cycles (spec 03 R101; 0 acts as 1, R119). -/
def macBlocked (s : State) (i : Nat) (c : Frame) : Bool :=
  let lim := max 1 (getT s i).m.portWait.toNat
  let rd := isMac (cOp c) || isMul (cOp c)
  (mAgw c && !s.boot.wen) || (mAgw c && portForced s i 1 (xyAddr i (mAgwMem c) 0) (xyAddr i (mAgwMem c) 1024) lim)
    || (rd && mSrcX c && portForced s i 0 (xyAddr i false 0) (xyAddr i false 1024) lim)
    || (rd && mSrcY c && portForced s i 0 (xyAddr i true 0) (xyAddr i true 1024) lim)

/-- The issue of an M-opcode (spec 03 R110, S0; R111). -/
def fireMac (op : Nat) (i : TileIx) (s : State) : State :=
  let t := getT s i
  let c := ctxFrame t
  let a := operandIf t c 0
  if mayFire s i .m op && opsReady t c [0, 1, 2] && !waveAtHead t c && !padFires t c && pipeRoom i t
      && latchOk t .fork (drvSet c 3) && !macStale t c && !macBlocked s i c then
    let zero : SWord := ⟨0, .data⟩
    let b := operandIf t c 1
    let cc := operandIf t c 2
    let f := macFetch s i c
    let f1 := if mSrcX c then f.2.1 else a.getD zero
    let f2 := if mSrcY c then f.2.2 else b.getD zero
    let e1 := a.getD zero
    let e2 := b.getD zero
    let factors := if isMac op || isMul op then [some f1, some f2] ++ (if mQuad c then [a, b] else []) else []
    let es := consumedEnds c [0, 1, 2]
    let cons := consumedOps c [0, 1, 2]
    let psn := poisoned c ([a, b, cc] ++ factors)
    let tag := if psn then .poison else resultTag c a b cc cons
    let wraps := wouldWrap t && mCntEn c
    let produces := isMul op || op = 0x70 || op = 0x71 || (isMac op && kDumpWrap c && wraps)
    let sums := macSums c f1 f2 e1 e2
    let t1 := getT f.1 i
    let endSeen := endConsumed t1 es
    let t2 := consume t1 es
    let t3 := if mCntEn c then stepCnt t2 else t2
    let t4 := { t3 with poisoned := t3.poisoned || psn }
    let t5 := latch (localStep t4 c endSeen wraps) .fork a (drvSet c 3) t.pipe.length
    setT f.1 i (touch s i { t5 with pipe := t5.pipe ++ [⟨c, .mac sums.1 sums.2 tag (poisoned c factors) psn a produces⟩] })
  else s

/-- The signed value of an accumulator. -/
def accInt (v : BitVec 80) : Int := sintOf 80 v.toNat

/-- ACC_OP applied to an accumulator: the new value and whether the exact result lay outside 80 bits (spec 03 R93). -/
def accApply (accOp : Nat) (v : BitVec 80) (sum : Int) : BitVec 80 × Bool :=
  let x := if accOp = 1 then sum else if accOp = 2 then accInt v - sum else accInt v + sum
  (BitVec.ofInt 80 x, decide (clampS 80 x ≠ x))

/-- Accumulator `n` (0 or 1) updated by a MAC firing: value, overflow mark, poison mark (spec 03 R93, R94). -/
def accUpdate (c : Frame) (factor : Bool) (n : Nat) (sum : Int) (t : Tile) : Tile :=
  let old := if n = 0 then t.m.acc0 else t.m.acc1
  let r := accApply (mAccOp c) old sum
  let oldMark := if n = 0 then t.m.psn0 else t.m.psn1
  let mark := factor || (oldMark && mAccOp c != 1)
  let t := if r.2 then mStat t (7 + n) else t
  if n = 0 then { t with m := { t.m with acc0 := r.1, psn0 := mark } }
  else { t with m := { t.m with acc1 := r.1, psn1 := mark } }

/-- The accumulators after a firing of opcode `cOp c` reaches S3, before any dump (spec 03 R89, R90, R93). -/
def macAccumulate (c : Frame) (s0 s1 : Int) (factor : Bool) (t : Tile) : Tile :=
  let op := cOp c
  if op = 0x60 ∨ op = 0x63 then accUpdate c factor (b2n (mAccSel c)) s0 t
  else if op = 0x61 ∨ op = 0x62 then accUpdate c factor 1 s1 (accUpdate c factor 0 s0 t)
  else if op = 0x74 then { t with m := { t.m with acc0 := t.m.init0, acc1 := t.m.init1, psn0 := false, psn1 := false } }
  else t

/-- One value fitted to `w` bits: its low bits, and whether it clamped (spec 03 R96). -/
def fitTo (c : Frame) (w : Nat) (q : Int) : Nat × Bool :=
  if kOsat c then
    let r := if kOsgn c then clampS w q else max 0 (min q ((2 ^ w : Nat) - 1))
    (wrapInt w r, decide (r ≠ q))
  else (wrapInt w q, false)

/-- The result words RES0 and RES1 and the flag of a dump of V0 and V1 (spec 03 R95, R96); `m0` and `m1` are the poison
marks of the values (R94). -/
def dumpWords (c : Frame) (v0 v1 : Int) (tag : Tag) (m0 m1 : Bool) : SWord × SWord × Bool :=
  let q0 := v0 / (2 ^ kShift c : Nat)
  let q1 := v1 / (2 ^ kShift c : Nat)
  if kOfmt c = 0 then
    let a := fitTo c 32 q0; let b := fitTo c 32 q1
    (⟨BitVec.ofNat 32 a.1, if m0 then .poison else tag⟩, ⟨BitVec.ofNat 32 b.1, if m1 then .poison else tag⟩, a.2 || b.2)
  else
    let a := fitTo c 16 q0; let b := fitTo c 16 q1
    let w : SWord := ⟨BitVec.ofNat 32 (a.1 + 65536 * b.1), if m0 || m1 then .poison else tag⟩
    (w, w, a.2 || b.2)

/-- RELOAD after a dump of the accumulators (spec 03 R97). -/
def macReload (c : Frame) (t : Tile) : Tile :=
  if kReload c && !isMul (cOp c) then
    { t with m := { t.m with acc0 := t.m.init0, acc1 := t.m.init1, psn0 := false, psn1 := false } }
  else t

/-- S3 of an M firing (spec 03 R110): the accumulators are updated, read for the dump and reloaded; what S4 has still to do. -/
def macStage3 (c : Frame) (s0 s1 : Int) (tag : Tag) (factor psn : Bool) (a : Option SWord) (dump : Bool) (t : Tile) : Tile × Work :=
  let t := macAccumulate c s0 s1 factor t
  if !dump then (t, .words none none none)
  else if isMul (cOp c) then
    let v : Int × Int := if cOp c = 0x69 ∨ cOp c = 0x6A then (s0, s1) else if mAccSel c then (0, s0) else (s0, 0)
    (t, .dump v.1 v.2 tag false false psn a)
  else (macReload c t, .dump (accInt t.m.acc0) (accInt t.m.acc1) tag t.m.psn0 t.m.psn1 psn a)

/-- The tile with S3 of its oldest firing in flight done (spec 03 R110). -/
def stage3 (t : Tile) : Tile :=
  match t.pipe with
  | [] => t
  | fl :: rest => match fl.work with
    | .mac s0 s1 tag factor psn a d =>
      let x := macStage3 fl.frame s0 s1 tag factor psn a d t
      { x.1 with pipe := ⟨fl.frame, x.2⟩ :: rest }
    | .words _ _ _ => t | .dump _ _ _ _ _ _ _ => t | .bank _ _ _ _ => t | .load _ _ _ => t

/-- S4 of an M firing that produces results (spec 03 R96, R110): the tile, and the words for OUT0 and OUT1. -/
def macStage4 (c : Frame) (v0 v1 : Int) (tag : Tag) (m0 m1 psn : Bool) (a : Option SWord) (t : Tile) :
    Tile × Option SWord × Option SWord :=
  let r := dumpWords c v0 v1 tag m0 m1
  let t := if r.2.2 then mStat t 6 else t
  let t := if psn then t else writePred t (bitsOf (cMode c) 5 4) r.2.2
  let t := writeRegs t (if wbEn c then [(wbReg c, r.1)] else [])
  (t, if out0En c then some r.1 else none, out1Word c (some r.2.1) a r.2.2)

/-- Whether a firing in flight will produce a word for the latch of a source that start `j` selects (spec 03 R112). -/
def flightTo (fl : Flight) (j : Nat) : Bool :=
  (decide (cDrv fl.frame j = 1) && (flightMakes fl).1) || (decide (cDrv fl.frame j = 2) && (flightMakes fl).2)

/-- The latches after the oldest flight's words are put in: they are older than every fork word whose firing is still
behind it in the pipeline (spec 03 R112). -/
def latchFlight (t : Tile) (fl : Flight) (o0 o1 : Option SWord) : Tile :=
  let older := t.latches.filter (fun l => l.after == 0)
  let younger := (t.latches.filter (fun l => l.after != 0)).map (fun l => { l with after := l.after - 1 })
  let s0 := drvSet fl.frame 1
  let s1 := drvSet fl.frame 2
  let n0 := match o0 with | some w => if s0 = [] then [] else [⟨.out0, w, s0, 0⟩] | none => []
  let n1 := match o1 with | some w => if s1 = [] then [] else [⟨.out1, w, s1, 0⟩] | none => []
  { t with latches := older ++ n0 ++ n1 ++ younger, pipe := t.pipe.drop 1, stuck := false }

/-! ### The meanings of the commands of this file -/

/-- MAC32 (spec 03 R89). -/
def execMac32 (t : TileIx) (s : State) : Host.Outcome State Fault Refusal := .next (fireMac 0x60 t s)
/-- CMAC16 (spec 03 R90). -/
def execCmac16 (t : TileIx) (s : State) : Host.Outcome State Fault Refusal := .next (fireMac 0x61 t s)
/-- DMAC16 (spec 03 R90). -/
def execDmac16 (t : TileIx) (s : State) : Host.Outcome State Fault Refusal := .next (fireMac 0x62 t s)
/-- DOT8 (spec 03 R90). -/
def execDot8 (t : TileIx) (s : State) : Host.Outcome State Fault Refusal := .next (fireMac 0x63 t s)
/-- MUL32 (spec 03 R95). -/
def execMul32 (t : TileIx) (s : State) : Host.Outcome State Fault Refusal := .next (fireMac 0x68 t s)
/-- CMUL16 (spec 03 R95). -/
def execCmul16 (t : TileIx) (s : State) : Host.Outcome State Fault Refusal := .next (fireMac 0x69 t s)
/-- DMUL16 (spec 03 R95). -/
def execDmul16 (t : TileIx) (s : State) : Host.Outcome State Fault Refusal := .next (fireMac 0x6A t s)
/-- MDOT8 (spec 03 R95). -/
def execMdot8 (t : TileIx) (s : State) : Host.Outcome State Fault Refusal := .next (fireMac 0x6B t s)
/-- DUMP (spec 03 R95). -/
def execDump (t : TileIx) (s : State) : Host.Outcome State Fault Refusal := .next (fireMac 0x70 t s)
/-- DUMPT (spec 03 R95). -/
def execDumpt (t : TileIx) (s : State) : Host.Outcome State Fault Refusal := .next (fireMac 0x71 t s)
/-- ACCINIT (spec 03 R89). -/
def execAccinit (t : TileIx) (s : State) : Host.Outcome State Fault Refusal := .next (fireMac 0x74 t s)

end Sys2Proof.Machine
end

