-- ==== Sys2Proof/Machine/Access.lean ====
section
/-! DEFINITION. Masters, access tables, the checks that precede them, and the record of a denial (spec 09). -/

namespace Sys2Proof.Machine

/-- The numbers of the status codes (spec 00 R13). -/
def statusCode : Status → Nat
  | .ok => 0x00 | .partialEnd => 0x01 | .denied => 0x10 | .notOwner => 0x11 | .domainDown => 0x12
  | .busyRetry => 0x13 | .timeout => 0x14 | .badDescriptor => 0x20 | .badAddress => 0x21 | .length => 0x22
  | .configCrc => 0x30 | .configAuth => 0x31 | .configRegion => 0x32 | .configSelect => 0x33
  | .linkDown => 0x40 | .remoteUnreachable => 0x41 | .eccUncorrected => 0x50 | .aborted => 0x60

/-- The permission bits of PERM (spec 09 R339). -/
def pREAD : Nat := 0
def pWRITE : Nat := 1
def pQUEUE : Nat := 2
def pSWITCH : Nat := 3
def pLOAD : Nat := 4
def pPOWER : Nat := 5
def pSETUP : Nat := 6

/-- Whether a master ID is assigned (spec 09 R334). -/
def masterAssigned (m : Nat) : Bool :=
  decide (m < 0x2000) || decide (0x2000 ≤ m ∧ m ≤ 0x2003) || decide (0x2008 ≤ m ∧ m ≤ 0x200D) || m == 0x2010 || m == 0x203F

/-- Whether a key is the warden's as this device recognises it (spec 09 R337, check 2). -/
def isWarden (s : State) (k : Key) : Bool :=
  k.mst == 0x203F && ((k.dev == devId s && rdB s A.HIF_STATUS F.HIF_STATUS_LINK_UP)
    || (rdB s A.FAB_ANCHOR F.FAB_ANCHOR_VALID && decide (rd s A.FAB_ANCHOR F.FAB_ANCHOR_ANCHOR_ID = k.dev.toNat)))

/-- Whether a master ID is one of a device engine (spec 09 R334, R337). -/
def isEngine (m : BitVec 16) : Bool := decide (0x2000 ≤ m.toNat ∧ m.toNat ≤ 0x203E) && masterAssigned m.toNat

/-- A decision: granted, or denied with an event code and the table that decided (255 for none). -/
inductive Decision where
  | grant
  | refuse (code table : Nat)
  deriving DecidableEq, Repr

/-- The checks that precede the tables, in order (spec 09 R337, R335); `none` sends the request to its table. -/
def preCheck (s : State) (k : Key) (remote : Bool) : Option Decision :=
  if remote && (k.dev == devId s || decide (0x2000 ≤ k.mst.toNat ∧ k.mst.toNat ≤ 0x203E)) then some (.refuse 0x613 255)
  else if !masterAssigned k.mst.toNat then some (.refuse 0x614 255)
  else if isWarden s k then some .grant
  else if k.mst == 0x203F then some (.refuse 0x612 255)
  else if !remote && isEngine k.mst then some .grant
  else none

/-- Whether a key is admitted by check 2 or check 4 of R337 (spec 07 R272 serves it in isolation). -/
def privileged (s : State) (k : Key) (remote : Bool) : Bool := preCheck s k remote == some .grant

/-- A key as a 32-bit number: device ID above master ID (spec 09 R352). -/
def keyNat (k : Key) : Nat := k.dev.toNat * 65536 + k.mst.toNat

/-- Whether entry `e` of table `t` matches a key (spec 09 R340). -/
def entryMatches (s : State) (t e : Nat) (k : Key) : Bool :=
  rdB s (A.ACC_W1 t e) F.ACC_W1_EN
    && Nat.land (Nat.xor (keyNat k) (rd s (A.ACC_W0 t e) F.ACC_W0_KEY_DEVICE * 65536 + rd s (A.ACC_W0 t e) F.ACC_W0_KEY_MASTER))
        (rd s (A.ACC_W0 t e) F.ACC_W0_MASK) == 0

/-- Whether table `t` grants a permission to a key: its lowest-numbered matching entry decides (spec 09 R340). -/
def tableGrants (s : State) (t : Nat) (k : Key) (perm : Nat) : Bool :=
  match (List.range 32).find? (fun e => entryMatches s t e k) with
  | some e => bit (rd s (A.ACC_W1 t e) F.ACC_W1_PERM) perm
  | none => false

/-- The decision on a request that needs the given permissions at the given tables, in order (spec 09 R338). -/
def decideAccess (s : State) (k : Key) (remote : Bool) (needs : List (Nat × Nat)) : Decision :=
  match preCheck s k remote with
  | some d => d
  | none => match needs.find? (fun n => !tableGrants s n.1 k n.2) with
    | some n => .refuse 0x610 n.1
    | none => .grant

/-- A denial: its report and its record (spec 09 R349, R350, R354). `unit` and `addr` name the target, `train` says
that `addr` holds PL and train word, `perm` is the permission needed, `table` the table (255 for none). -/
def denyWith (s : State) (k : Key) (remote train : Bool) (unit : BitVec 32) (addr perm table code : Nat) : State :=
  let st := if code = 0x611 then Status.notOwner else .denied
  let det := if 0x80000000 ≤ addr ∧ addr < 0x82000000 ∧ !train then detail [(keyNat k, 4), (addr, 6)] else detail [(keyNat k, 4)]
  let s := report s 202 unit code det
  let s := bump s A.ACC_FAULT_CNT (if code = 0x611 then F.ACC_FAULT_CNT_NOT_OWNER else F.ACC_FAULT_CNT_DENIED) 1
  if rdB s A.ACC_FAULT F.ACC_FAULT_VALID then wr s A.ACC_FAULT F.ACC_FAULT_OVERRUN 1
  else
    let v := setFld (setFld (setFld (setFld (setFld (setFld (getR s A.ACC_FAULT) F.ACC_FAULT_VALID 1)
      F.ACC_FAULT_REMOTE (b2n remote)) F.ACC_FAULT_PERM perm) F.ACC_FAULT_STATUS (statusCode st))
      F.ACC_FAULT_TARGET table) F.ACC_FAULT_KEY (keyNat k)
    let s := setR s A.ACC_FAULT v
    let s := setR s A.ACC_FAULT_ADDR (BitVec.ofNat 64 (addr % 2 ^ 48 + b2n train * 2 ^ 63))
    raiseIf s (rdB s A.ACC_CTL F.ACC_CTL_FAULT_IE) 0

/-- What a device-local address names (spec 01 R24). -/
inductive Place where
  | bank (t off : Nat)
  | xy (t off : Nat)
  | frame (t off : Nat)
  | reg (t off : Nat)
  | port (t q off : Nat)
  | setup (off : Nat)
  | window (w off : Nat)
  | hole (t : Nat)
  | unassigned
  deriving DecidableEq, Repr

/-- Window and offset of a device-local address in the range of the host windows (spec 01 R24; spec 08 R292).
DEDUCED (assumption log 58). -/
def windowOf (a : Nat) : Option (Nat × Nat) :=
  if 0x800000000000 ≤ a ∧ a < 0x1000000000000 then some ((a - 0x800000000000) / 0x080000000000, a % 0x080000000000) else none

/-- The place of a device-local address (spec 01 R24; spec 05 R158; spec 06 R214). The windows of a device whose ANCHOR strap is set
stay places while its link is down, for an access to them then completes with LINK_DOWN (spec 08 R293, R328).
DEDUCED (assumption log 58). -/
def placeOf (s : State) (a : Nat) : Place :=
  if a < 0x40000000 then
    let t := a / 65536; let off := a % 65536
    match tileKind t with
    | .b => .bank t off
    | .m => if off < 0x2000 then .xy t off else .hole t
    | .a => .hole t
  else if a < 0x44000000 then
    let t := (a - 0x40000000) / 4096; let off := a % 4096
    if off < 0x220 then .frame t off
    else if off < 0x400 then .hole t
    else if off < 0xC00 then .reg t off
    else if tileKind t = .b then .port t ((off - 0xC00) / 0x100) (off % 0x100) else .hole t
  else if 0x80000000 ≤ a ∧ a < 0x82000000 then .setup (a - 0x80000000)
  else match windowOf a with
    | some x => if s.straps.anchor then .window x.1 x.2 else .unassigned
    | none => .unassigned

/-- The tile that a place lies in. -/
def placeTile : Place → Option Nat
  | .bank t _ => some t | .xy t _ => some t | .frame t _ => some t | .reg t _ => some t
  | .port t _ _ => some t | .hole t => some t | .setup _ => none | .window _ _ => none | .unassigned => none

/-- The tables and permissions that a request to a place needs (spec 09 R338; spec 12 R473). -/
def needsOf (p : Place) (write : Bool) : List (Nat × Nat) :=
  let rw := if write then pWRITE else pREAD
  match p with
  | .bank t _ => [(tileField t, rw)]
  | .xy t _ => [(tileField t, rw)]
  | .hole t => [(tileField t, rw)]
  | .frame t _ => [(tileField t, if write then pLOAD else pREAD)]
  | .reg t _ => [(tileField t, rw)]
  | .port t _ _ => [(tileField t, pQUEUE)]
  | .setup off =>
    [(86, pSETUP)] ++ (if off / 0x10000 = 0x72 ∨ off / 0x10000 = 0x73 then [(87, rw)] else []) ++ (if off / 0x10000 = 0x71 then [(89, rw)] else [])
      ++ (if write ∧ [0x600000, 0x600040, 0x600048].contains (off / 8 * 8) then [(88, pLOAD)] else [])
  | .window w _ => [(64 + w, rw)]
  | .unassigned => []

/-- The permission of a denial (spec 09 R349, R354; spec 10 R383): that of the first need which the deciding table does not grant; where
the table grants, and the owner check or R383 refuses, the one that the table checked; of the first need where a check before the
tables refused. -/
def refusedPerm (s : State) (k : Key) (needs : List (Nat × Nat)) (table : Nat) : Nat :=
  let at_ := needs.filter (fun n => n.1 == table)
  ((if table = 255 then needs.head? else (at_.find? (fun n => !tableGrants s n.1 k n.2)).or at_.head?).map Prod.snd).getD 0

/-- Whether R24 assigns an address on some device: a request to another device leaves with it (spec 07 R255). -/
def assignedRange (a : Nat) : Bool := decide (a < 0x44000000 ∨ (0x80000000 ≤ a ∧ a < 0x82000000)) || (windowOf a).isSome

/-- The UNIT field of a denial: the target's unit address, otherwise the device (spec 14 R523). -/
def unitPlace (s : State) (p : Place) : BitVec 32 :=
  match placeTile p with
  | some t => unitTile s t
  | none => unitDev s

end Sys2Proof.Machine
end

