-- ==== Sys2Proof/Machine/Net.lean ====
section
/-! DEFINITION. Requests and responses as the endpoints make them (spec 07 R247 to R255, R265 to R269), the choice of the
first hop into the fabric (spec 10 R355, R363 to R365, R370), and the counters of the networks. -/

namespace Sys2Proof.Machine

/-- The number of a network in register offsets and maps (spec 07 R282). -/
def netIx : Net → Nat
  | .req => 0 | .rsp => 1 | .snp => 2 | .dat => 3

/-- A network counter and a device counter raised, unless they are frozen (spec 07 R283, R284). -/
def netCount (s : State) (n k : Nat) : State :=
  if rdB s A.NOC_CTL F.NOC_CTL_CNT_FREEZE then s else bump s (A.NET_CNT n k) F.NET_CNT_COUNT 1
def devCount (s : State) (k : Nat) : State :=
  if rdB s A.NOC_CTL F.NOC_CTL_CNT_FREEZE then s else bump s (A.DEV_CNT k) F.DEV_CNT_COUNT 1

/-- The engine-port endpoints (spec 07 R248). -/
def ringPort (k : Nat) : Nat :=
  if k % 4 = 0 then enginePort 14 14 else if k % 4 = 1 then enginePort 15 14
  else if k % 4 = 2 then enginePort 14 15 else enginePort 15 15
def loaderPort (k : Nat) : Nat := if k % 2 = 0 then enginePort 12 14 else enginePort 13 14
def mgmtPort : Nat := enginePort 13 13
def gatewayPort (p : Nat) : Nat :=
  if p = 0 then enginePort 0 9 else if p = 1 then enginePort 31 9 else if p = 2 then enginePort 0 25
  else if p = 3 then enginePort 31 25 else if p = 4 then enginePort 9 0 else enginePort 25 0
/-- The field coordinates of field `f`, and the mirror agent's endpoint. -/
def agentPort (f : Nat) : Nat := 2 * (16 * f) + 1

/-- What an engine-port endpoint serves: 0 nothing, 1 ring engine, 2 loader, 3 management, 4 gateway, 5 mirror agent. -/
def engineKind (ep : Nat) : Nat :=
  if [ringPort 0, ringPort 1, ringPort 2, ringPort 3].contains ep then 1
  else if [loaderPort 0, loaderPort 1].contains ep then 2
  else if ep = mgmtPort then 3
  else if (List.range 6).any (fun p => gatewayPort p == ep) then 4
  else if ep % 32 = 1 then 5 else 0

/-- The port whose gateway has endpoint `ep`. -/
def gatewayOf (ep : Nat) : Option Nat := (List.range 6).find? (fun p => gatewayPort p == ep)

/-- Whether an endpoint lies behind an engine bridge (spec 07 R248, R249). -/
def bridged (ep : Nat) : Bool := ep % 2 == 1 && engineKind ep != 5 && engineKind ep != 0

/-- A step of an endpoint: one behind an engine bridge belongs to a device engine, which does nothing while the engine clock is stopped
(spec 01 R25). -/
def atEndpoint (ep : Nat) (f : State → State) (s : State) : State := if bridged ep then engine f s else f s

/-- The field that an endpoint's router lies in. -/
def epField (ep : Nat) : Nat := ep / 2 / 16

/-! ### Device IDs and the first hop -/

/-- Coordinate `d` (0 X, 1 Y, 2 Z) of a device ID (spec 10 R355). -/
def fabCoord (s : State) (d id : Nat) : Nat :=
  let bx := rd s A.FAB_DIMS F.FAB_DIMS_BX
  let by' := rd s A.FAB_DIMS F.FAB_DIMS_BY
  if d = 0 then id % 2 ^ bx else if d = 1 then id / 2 ^ bx % 2 ^ by' else id / 2 ^ (bx + by')

/-- The size of dimension `d` (spec 10 R355). -/
def fabSize (s : State) (d : Nat) : Nat :=
  1 + (if d = 0 then rd s A.FAB_DIMS F.FAB_DIMS_NX_M1 else if d = 1 then rd s A.FAB_DIMS F.FAB_DIMS_NY_M1
       else rd s A.FAB_DIMS F.FAB_DIMS_NZ_M1)

/-- Whether an ID names a device (spec 10 R355). -/
def namesDevice (s : State) (id : Nat) : Bool :=
  [0, 1, 2].all (fun d => decide (fabCoord s d id < fabSize s d))

/-- Whether a tether port is UP (spec 10 R396; a HAIRPIN port counts as not UP, R385). -/
def portUp (s : State) (p : Nat) : Bool := rd s (A.PORT_STATUS p) F.PORT_STATUS_STATE == 1

/-- The port that R363 chooses in dimension `d` from coordinate `c` to `t`. -/
def dimPort (s : State) (d c t : Nat) : Nat :=
  let n := fabSize s d
  let k := (((t : Int) - c) % (n : Int)).toNat
  2 * d + (if 1 ≤ k ∧ k ≤ n / 2 then 0 else 1)

/-- The port taken on entry to dimension `d`, after a detour where one is allowed (spec 10 R363, R365). -/
def entryPort (s : State) (d c t : Nat) : Option Nat :=
  let p := dimPort s d c t
  let q := if p % 2 = 0 then p + 1 else p - 1
  if portUp s p then some p
  else if rdB s A.FAB_ROUTE_CTL F.FAB_ROUTE_CTL_DETOUR && portUp s q then some q else none

/-- The first dimension in which two IDs differ (spec 10 R363). -/
def firstDim (s : State) (a b : Nat) : Option Nat :=
  [0, 1, 2].find? (fun d => decide (fabCoord s d a ≠ fabCoord s d b))

/-- The port of the first hop toward a device (spec 10 R363, R365, R370). -/
def firstHop (s : State) (dst : Nat) : Option Nat :=
  match firstDim s (devId s).toNat dst with
  | some d => entryPort s d (fabCoord s d (devId s).toNat) (fabCoord s d dst)
  | none => none

/-! ### Flits at an endpoint -/

/-- The outgoing and the arrived flits of an endpoint on a network. -/
def epOut (e : Endpoint) : Net → List Flit
  | .req => e.outReq | .rsp => e.outRsp | .snp => e.outSnp | .dat => e.outDat
def epIn (e : Endpoint) : Net → List Flit
  | .req => e.inReq | .rsp => e.inRsp | .snp => e.inSnp | .dat => e.inDat
def epSetOut (e : Endpoint) (n : Net) (l : List Flit) : Endpoint :=
  match n with
  | .req => { e with outReq := l } | .rsp => { e with outRsp := l }
  | .snp => { e with outSnp := l } | .dat => { e with outDat := l }
def epSetIn (e : Endpoint) (n : Net) (l : List Flit) : Endpoint :=
  match n with
  | .req => { e with inReq := l } | .rsp => { e with inRsp := l }
  | .snp => { e with inSnp := l } | .dat => { e with inDat := l }

/-- Put a flit behind the others that endpoint `ep` has to inject. -/
def pushOut (s : State) (ep : Nat) (f : Flit) : State :=
  let e := getEp s ep
  setEp s ep (epSetOut e f.net (epOut e f.net ++ [f]))

/-- Take the first arrived flit of a network away. -/
def popIn (s : State) (ep : Nat) (n : Net) : State :=
  let e := getEp s ep
  setEp s ep (epSetIn e n ((epIn e n).drop 1))

/-- An arrived flit put at an endpoint. -/
def pushIn (s : State) (ep : Nat) (f : Flit) : State :=
  let e := getEp s ep
  setEp s ep (epSetIn e f.net (epIn e f.net ++ [f]))

/-- How many ingress entries an endpoint has (spec 07 R267). -/
def ingressCap (ep : Nat) : Nat := if ep % 2 = 0 then 16 else 32
/-- How many ingress entries are taken. -/
def ingressUsed (e : Endpoint) : Nat := (e.ingress.filter (fun x => x.2.isSome)).length
/-- The lowest free ingress entry. -/
def ingressFree (e : Endpoint) (ep : Nat) : Option Nat :=
  (List.range (ingressCap ep)).find? (fun k => smGet none e.ingress k == none)

/-- The address of a landing slot. -/
def getLand (s : State) (ep tag : Nat) : Option Landing := smGet none (getEp s ep).landing tag
def setLand (s : State) (ep tag : Nat) (x : Option Landing) : State :=
  let e := getEp s ep
  setEp s ep { e with landing := smSet none e.landing tag x }

/-- Where a request goes: to a local endpoint, to a gateway, or nowhere with a status (spec 07 R255; spec 10 R370). -/
inductive Target where
  | local_ (dst : Nat)
  | gateway (p : Nat)
  | fail (st : Status)
  deriving DecidableEq, Repr

/-- The local endpoint that serves a device-local address (spec 07 R255). -/
def localTarget (s : State) (a : Nat) : Target :=
  match placeOf s a with
  | .setup _ => .local_ mgmtPort
  | .window _ _ => .local_ (ringPort (a / 64 % 4))
  | .unassigned => .fail .badAddress
  | .bank t _ => .local_ (patchPort t)
  | .xy t _ => .local_ (patchPort t)
  | .frame t _ => .local_ (patchPort t)
  | .reg t _ => .local_ (patchPort t)
  | .port t _ _ => .local_ (patchPort t)
  | .hole t => .local_ (patchPort t)

/-- Where a request to a device's address goes (spec 07 R255; spec 10 R355, R370, R384): an address that no device has is refused here.
DEDUCED (assumption log 36). -/
def targetOf (s : State) (dev : BitVec 16) (a : Nat) : Target :=
  if dev = devId s then localTarget s a
  else if !rdB s A.FAB_COORD F.FAB_COORD_VALID || !namesDevice s dev.toNat then .fail .remoteUnreachable
  else if !assignedRange a then .fail .badAddress
  else match firstHop s dev.toNat with
    | some p => .gateway p
    | none => .fail .remoteUnreachable

/-- The outcome of an attempt to send a request: sent, completed at the requester's interface, or no landing slot. -/
inductive SendRes where
  | sent (s : State)
  | done (st : Status)
  | wait

/-- A landing slot free for a request at endpoint `ep`, in the range of tags from `lo` up (spec 07 R265). -/
def freeTag (s : State) (ep lo n : Nat) : Option Nat :=
  (List.range n).find? (fun k => (getLand s ep (lo + k)).isNone) |>.map (fun k => lo + k)

/-- Send a request of `len` bytes from endpoint `ep` to address `a` of device `dev`, with a landing slot whose tag lies in
the `n` tags from `lo` up (spec 07 R250, R255, R265). -/
def sendReq (s : State) (ep lo n : Nat) (owner : Owner) (key : Key) (dev : BitVec 16) (a : Nat) (write : Bool) (len : Nat)
    (wdata : List Byte) : SendRes :=
  if len = 0 ∨ 64 < len then .done .length
  else match targetOf s dev a with
    | .fail st => .done st
    | tgt => match freeTag s ep lo n with
      | none => .wait
      | some tag =>
        let dst := match tgt with | .local_ d => d | .gateway p => gatewayPort p | .fail _ => 0
        let dv := match tgt with | .gateway _ => dev | _ => key.dev
        let f : Flit := { net := .req, dst := BitVec.ofNat 11 dst, src := BitVec.ofNat 11 ep, op := if write then 1 else 0
                          tag := BitVec.ofNat 8 tag, dev := dv, mst := key.mst, addr := BitVec.ofNat 48 a
                          len := BitVec.ofNat 6 (len - 1)
                          data := if write && decide (len ≤ 8) then BitVec.ofNat 512 (leBytes (wdata.take len)) else 0 }
        .sent (pushOut (setLand s ep tag (some { req := f, wdata := wdata, owner := owner })) ep f)

/-- The final response to a request, from endpoint `ep` (spec 07 R251, R252, R268): on DAT when it carries more than 8
bytes with status OK, on RSP otherwise. -/
def respond (s : State) (ep : Nat) (req : Flit) (st : Status) (data : List Byte) (count endTag : Nat) (conflict : Bool) : State :=
  let base : Flit := { net := .rsp, dst := req.src, src := BitVec.ofNat 11 ep, tag := req.tag
                       conflict := conflict, endTag := BitVec.ofNat 3 endTag
                       count := BitVec.ofNat 7 count, status := BitVec.ofNat 8 (statusCode st)
                       data := BitVec.ofNat 512 (leBytes data), tabled := req.tabled, sealed := req.sealed }
  if st = .ok ∧ 8 < data.length then pushOut s ep { base with net := .dat, status := 0 } else pushOut s ep base

/-- Whether a request to a bank waited for its port, or met the owner check (spec 06 R206). -/
def wasConflict (g : Ingress) (st : Status) : Bool :=
  (g.waited && decide (g.req.addr.toNat < 0x40000000) && decide (tileKind (g.req.addr.toNat / 65536) = .b)) || decide (st = .notOwner)

/-- Answer the request in ingress entry `n` of endpoint `ep` and free the entry (spec 07 R268). -/
def answerC (s : State) (ep n : Nat) (st : Status) (data : List Byte) (endTag : Nat) (conflict : Bool) : State :=
  match getIn s ep n with
  | none => s
  | some g => respond (setIn s ep n none) ep g.req st data data.length endTag (conflict || wasConflict g st)

/-- Answer without data beyond those given, no end tag. -/
def answer (s : State) (ep n : Nat) (st : Status) (data : List Byte) : State := answerC s ep n st data 0 false

/-- A DOMAIN_DOWN answer is counted (spec 07 R272). -/
def answerDown (s : State) (ep n : Nat) : State := devCount (answer s ep n .domainDown []) 2

/-- NACKs before TIMEOUT (spec 07 R270, R283). -/
def retryMax (s : State) : Nat := let n := rd s A.NOC_CTL F.NOC_CTL_RETRY_MAX; if n = 0 then 256 else n

/-- The length of a request (spec 07 R250). -/
def reqLen (f : Flit) : Nat := f.len.toNat + 1
/-- The key of a request (spec 09, opening). -/
def reqKey (f : Flit) : Key := ⟨f.dev, f.mst⟩
/-- Whether a request is a WRITE (spec 07 R250). -/
def reqWrite (f : Flit) : Bool := f.op == 1

/-- Whether the ingress entry may be served now: it is checked, its write data are there, no queue holds it, and the
target field serves it in its state (spec 07 R269, R272; spec 13 R511). `i` is the target tile. -/
def mayServe (s : State) (i : Nat) (g : Ingress) : Bool :=
  g.checked && !g.held && !lentTile s i && (!(reqWrite g.req) || g.wdata.isSome) && !tripped s &&
    (let st := pwrState s (tileField i)
     st == 0 || (st == 2 && g.old) || ((st == 3 || st == 4) && privileged s (reqKey g.req) g.remote))

end Sys2Proof.Machine
end

