-- ==== Sys2Proof/Machine/Bank.lean ====
section
/-! DEFINITION. Banks with their ECC (spec 06 R195 to R201), the queue controller's rows (R212, R213, R215 to R221, R581)
and delay regions (R223), as operations that the B-tile's firings and the network requests share. -/

namespace Sys2Proof.Machine

/-- Replace the bank part of tile `i`. -/
def setB (s : State) (i : Nat) (f : BPart → BPart) : State := setT s i { getT s i with b := f (getT s i).b }
/-- A change of a status bit or a counter of tile `i`, which its tile registers show: none while tile state is held at its reset
values (spec 02 R83; spec 06 R227). DEDUCED (assumption log 66). -/
def noteB (s : State) (i : Nat) (f : BPart → BPart) : State := if s.boot.srst then setB s i f else s
/-- Set bit `k` of B_STATUS (spec 06 R230). -/
def bStat (s : State) (i k : Nat) : State := noteB s i (fun b => { b with stat := b.stat ||| BitVec.ofNat 64 (2 ^ k) })
/-- The tile's CONFLICTS counter raised (spec 06 R206). -/
def bumpConflicts (s : State) (i : Nat) : State :=
  if s.boot.srst then setT s i { getT s i with conflicts := BitVec.ofNat 16 (satAdd 16 (getT s i).conflicts.toNat 1) } else s

/-- QC_MODE of a static frame (spec 06 R232). -/
def qcMode (t : Tile) : Nat := fb t.static 207 200
/-- B_CTL.NET_WAIT; 0 acts as 1 (spec 06 R231). -/
def netWaitOf (t : Tile) : Nat := max 1 t.b.netWait.toNat

/-! ### Mirrors: which lines a write marks dirty -/

/-- A mirror's state beside its registers. -/
def getMi (s : State) (m : Nat) : MirrorSt := smGet {} s.mirrors m
/-- The DIRTY count of a mirror: lines dirty or awaiting acknowledgement (spec 07 R285). -/
def dirtyCount (x : MirrorSt) : Nat := (x.dirty ++ (x.unacked.map Prod.fst)).eraseDups.length
/-- Replace a mirror's state, with its DIRTY field. -/
def setMi (s : State) (m : Nat) (x : MirrorSt) : State :=
  wr { s with mirrors := smSet {} s.mirrors m x } (A.MIRROR_STATE m) F.MIRROR_STATE_DIRTY (dirtyCount x)

/-- Whether a mirror is enabled, and the number of its lines (spec 07 R273). -/
def mirrorOn (s : State) (m : Nat) : Bool := rdB s (A.MIRROR_CFG m) F.MIRROR_CFG_EN
def mirrorLines (s : State) (m : Nat) : Nat := 16 * (rd s (A.MIRROR_CFG m) F.MIRROR_CFG_SIZE + 1)

/-- The lines of mirror `m` that a write of `n` bytes at bank offset `off` of tile `i` marks dirty (spec 07 R274). -/
def mirrorHits (s : State) (m i off n : Nat) : List Nat :=
  if mirrorOn s m && decide (rd s (A.MIRROR_CFG m) F.MIRROR_CFG_SRC_IDX = i) && decide (0 < n) then
    let l0 := rd s (A.MIRROR_CFG m) F.MIRROR_CFG_SRC_LINE
    (List.range (mirrorLines s m)).filter (fun l => decide (off / 64 ≤ l0 + l ∧ l0 + l ≤ (off + n - 1) / 64))
  else []

/-- The mirrors with an entry in the register map: only those can be enabled. -/
def mirrorSet (s : State) : List Nat := (List.range 256).filter (mirrorOn s)

/-- A write on the bank of tile `i` marks the lines it touches (spec 07 R274). -/
def markDirty (s : State) (i off n : Nat) : State :=
  (mirrorSet s).foldl (fun s m =>
    let h := mirrorHits s m i off n
    if h = [] then s else setMi s m { getMi s m with dirty := ((getMi s m).dirty ++ h).eraseDups }) s

/-! ### Halves and their check bits -/

/-- The key of the half that holds bank offset `off` of tile `i` (spec 06 R195). -/
def halfKey (i off : Nat) : Nat := (tileBase i + off) / 8
/-- What the decoder finds in a half: 0 nothing, 1 a single-bit error, 2 an uncorrectable one (spec 06 R195, R196). -/
def halfErr (s : State) (i off : Nat) : Nat := smGet 0 s.eccErr (halfKey i off)

/-- An uncorrectable error found in row `r` (spec 06 R196). -/
def eccUnc (s : State) (i r : Nat) : State :=
  reportTile (bStat (noteB s i (fun b => { b with eccUnc := BitVec.ofNat 32 (satAdd 32 b.eccUnc.toNat 1) })) i 32)
    i 0x720 (detail [(r, 2)])

/-- A single-bit error found in a half: counted, and its write-back due unless NO_ECC_WB (spec 06 R196). -/
def eccCorr (s : State) (i h : Nat) : State :=
  setB (noteB s i (fun b => { b with eccCorr := BitVec.ofNat 32 (satAdd 32 b.eccCorr.toNat 1) })) i (fun b =>
    { b with writeBack := if bit (qcMode (getT s i)) 6 || b.writeBack.contains h then b.writeBack
                          else b.writeBack ++ [h] })

/-- A read of the half that holds offset `off`: the state with the error worked off, and whether the half is
uncorrectable (spec 06 R196). -/
def readHalf (s : State) (i off : Nat) : State × Bool :=
  if halfErr s i off = 1 then (eccCorr s i (off / 8), false)
  else if halfErr s i off = 2 then (eccUnc s i (off / 16), true)
  else (s, false)

/-- Halves touched by `n` bytes at offset `off`. -/
def halves (off n : Nat) : List Nat := if n = 0 then [] else (List.range ((off + n - 1) / 8 + 1 - off / 8)).map (· + off / 8)

/-- Whether bytes `off` to `off + n - 1` cover half `h` whole (spec 06 R197). -/
def coversHalf (off n h : Nat) : Bool := decide (off ≤ 8 * h ∧ 8 * h + 8 ≤ off + n)

/-- A read of all halves that `n` bytes touch: whether any of them is uncorrectable (spec 06 R196, R198). -/
def readHalves (s : State) (i : Nat) (hs : List Nat) : State × Bool :=
  hs.foldl (fun r h => let x := readHalf r.1 i (8 * h); (x.1, r.2 || x.2)) (s, false)

/-- A write of bytes to a bank: the check bits of every touched half are good afterwards, a pending write-back of them is
cancelled, mirrored lines turn dirty (spec 06 R196, R197; spec 07 R274). -/
def putBank (s : State) (i off : Nat) (bs : List Byte) : State :=
  let hs := halves off bs.length
  let s := memWrite s (tileBase i + off) bs
  let s := { s with eccErr := hs.foldl (fun m h => smSet 0 m (halfKey i (8 * h)) 0) s.eccErr }
  let s := setB s i (fun b => { b with writeBack := b.writeBack.filter (fun h => !hs.contains h) })
  markDirty s i off bs.length

/-- A write to a bank with its read-modify-write steps (spec 06 R197): the state, and whether it was refused because a
half it covers in part is uncorrectable. -/
def writeBank (s : State) (i off : Nat) (bs : List Byte) : State × Bool :=
  let part := (halves off bs.length).filter (fun h => !coversHalf off bs.length h)
  let r := readHalves s i part
  if r.2 then (r.1, true) else (putBank r.1 i off bs, false)

/-- Whether a mirror that pushes from tile `i` has an update to read (spec 06 R199; spec 07 R274, R275). -/
def mirrorDue (s : State) (i m : Nat) : Bool :=
  decide (rd s (A.MIRROR_CFG m) F.MIRROR_CFG_SRC_IDX = i) && rd s (A.MIRROR_CFG m) F.MIRROR_CFG_POLICY == 0
    && (getMi s m).dirty.any (fun l => smGet 0 (getMi s m).unacked l == 0)

/-- Whether a network access, or the read of a mirror's update, has waited long enough to take the bank port before the array side
(spec 06 R199). DEDUCED (assumption log 26). -/
def bankForced (s : State) (i : Nat) : Bool :=
  portForced s i 0 (tileBase i) (tileBase i + 65536) (netWaitOf (getT s i))
    || portForced s i 1 (tileBase i) (tileBase i + 65536) (netWaitOf (getT s i))
    || (mirrorSet s).any (fun m => mirrorDue s i m && decide (netWaitOf (getT s i) ≤ (getMi s m).wait))

/-- One port cycle taken by the network side: what else waits for the port waits anew (spec 06 R199). -/
def bankServed (s : State) (i : Nat) : State :=
  let s := portServed (portServed s i 0 (tileBase i) (tileBase i + 65536)) i 1 (tileBase i) (tileBase i + 65536)
  ((mirrorSet s).filter (mirrorDue s i)).foldl (fun s m => setMi s m { getMi s m with wait := 0 }) s

/-- One port cycle taken by the array side at bank offset `off`, which writes `n` bytes there (0: it reads). What the network side
has waiting for another row waits on (spec 06 R199, R200). -/
def bankUsed (s : State) (i off n : Nat) : State :=
  let same := fun (a : Nat) => a / 16 == (tileBase i + off) / 16
  let s := portUsed (portUsed s i 0 (tileBase i) (tileBase i + 65536) same) i 1 (tileBase i) (tileBase i + 65536) same
  let s := ((mirrorSet s).filter (mirrorDue s i)).foldl (fun s m => setMi s m { getMi s m with wait := (getMi s m).wait + 1 }) s
  setB s i (fun b => { b with lastWrite := if n = 0 then none else some (off, n) })

/-! ### Queue configuration -/

/-- QUEUE[n] of the static frame (spec 05 R155; spec 06 R212). -/
def qCfg (t : Tile) (n : Nat) : Nat := fb t.static (199 - 40 * n) (160 - 40 * n)
def qEn (t : Tile) (n : Nat) : Bool := bit (qCfg t n) 39
def qType (t : Tile) (n : Nat) : Nat := bitsOf (qCfg t n) 38 37
def qBase (t : Tile) (n : Nat) : Nat := bitsOf (qCfg t n) 35 24
def qRows (t : Tile) (n : Nat) : Nat := bitsOf (qCfg t n) 23 12 + 1
/-- The level L in words (spec 06 R216). -/
def qLevel (t : Tile) (n : Nat) : Nat := 4 * bitsOf (qCfg t n) 11 0
def qCap (t : Tile) (n : Nat) : Nat := 4 * qRows t n

def getQ (t : Tile) (n : Nat) : BQueue := smGet {} t.b.queues n
def setQ (s : State) (i n : Nat) (q : BQueue) : State := setB s i (fun b => { b with queues := smSet {} b.queues n q })

/-- The depth of a queue (spec 06 R213). -/
def qDepth (q : BQueue) : Nat := q.pre.length + 4 * q.rows + q.asm.length + q.incoming.length

/-- A full write-assembly row passes into the empty read-prefetch row while the bank holds no row (spec 06 R581). -/
def qPass (q : BQueue) : BQueue :=
  if q.pre = [] ∧ q.rows = 0 ∧ q.asm.length = 4 then { q with pre := q.asm, asm := [] } else q

/-- The row of the bank that holds the queue's `k`-th stored row (spec 06 R212). -/
def qRowAt (t : Tile) (n : Nat) (k : Nat) : Nat := qBase t n + k % qRows t n

/-- The four tags of a row (spec 06 R213). -/
def rowTags (ws : List SWord) : BitVec 12 :=
  BitVec.ofNat 12 ((List.range 4).foldl (fun a k => a + (match ws[k]? with | some w => tagCode w.tag | none => 0) * 8 ^ k) 0)

/-- A row of words written to the bank with its tags (spec 06 R213). -/
def putRow (s : State) (i r : Nat) (ws : List SWord) : State :=
  let s := putBank s i (16 * r) (ws.flatMap (fun w => bytesLE 4 w.data.toNat))
  { s with tagStore := smSet 0 s.tagStore (4096 * i + r) (rowTags ws), tagBad := smSet false s.tagBad (4096 * i + r) false }

/-- A row of words read from the bank: words of an uncorrectable half, and words of a row whose tag parity fails, carry
POISON (spec 06 R196, R213). -/
def takeRow (s : State) (i r : Nat) : State × List SWord :=
  let h0 := readHalf s i (16 * r)
  let h1 := readHalf h0.1 i (16 * r + 8)
  let s := h1.1
  let tags := (smGet 0 s.tagStore (4096 * i + r)).toNat
  let bad := smGet false s.tagBad (4096 * i + r)
  (s, (List.range 4).map (fun k =>
    let psn := bad || (if k < 2 then h0.2 else h1.2)
    ⟨BitVec.ofNat 32 (leBytes (memRead s (tileBase i + 16 * r + 4 * k) 4)), if psn then .poison else tagOf (tags / 8 ^ k)⟩))

/-- Words of accepted pushes taken into the free places of the write-assembly row. -/
def qFill (q : BQueue) : BQueue :=
  { q with asm := q.asm ++ q.incoming.take (4 - q.asm.length), incoming := q.incoming.drop (4 - q.asm.length) }

/-- What moves in a queue without a bank access (spec 06 R581). -/
def qFeed (q : BQueue) : BQueue := qFill (qPass (qFill q))

/-- The move of a full write-assembly row to the bank, in one array-side port cycle (spec 06 R581). -/
def moveOut (s : State) (i n : Nat) : State :=
  let t := getT s i
  let q := getQ t n
  let r := qRowAt t n (q.rd + q.rows)
  setQ (putRow (bankUsed s i (16 * r) 16) i r q.asm) i n (qFeed { q with asm := [], rows := q.rows + 1 })

/-- The move of the next bank row into the read-prefetch row, in one array-side port cycle (spec 06 R581). -/
def moveIn (s : State) (i n : Nat) : State :=
  let t := getT s i
  let q := getQ t n
  let r := qRowAt t n q.rd
  let x := takeRow (bankUsed s i (16 * r) 0) i r
  setQ x.1 i n (qFeed { q with pre := x.2, rd := (q.rd + 1) % qRows t n, rows := q.rows - 1 })

/-- The oldest word of a queue, unless it lies in the bank (spec 06 R581). -/
def headWord (q : BQueue) : Option SWord :=
  match q.pre with
  | w :: _ => some w
  | [] => if q.rows = 0 then q.asm.head? else none

/-- The queue without its oldest word, when that is in one of the controller's rows (spec 06 R581). -/
def takeWord (s : State) (i n : Nat) : State × Option SWord :=
  let q := getQ (getT s i) n
  match q.pre with
  | w :: rest => (setQ s i n (qFeed { q with pre := rest }), some w)
  | [] =>
    if q.rows ≠ 0 then (s, none)
    else match q.asm with
      | w :: rest => (setQ s i n (qFeed { q with asm := rest }), some w)
      | [] => (s, none)

/-- A level crossing sets LEVEL_HIT and, with EVENT_EN, sends a queue-level event (spec 06 R216). -/
def levelCross (s : State) (i n before after : Nat) : State :=
  let t := getT s i
  let L := qLevel t n
  if before < L ∧ L ≤ after then
    let q := getQ t n
    let s := setQ s i n { q with levelHit := true }
    if q.eventEn then { s with levelEvents := s.levelEvents ++ [(i, n, after)] } else s
  else s

/-- The words that a NOTIFY queue stores for one pushed word (spec 06 R221): words stored, the position in the record and
the discarding mark afterwards, whether the record was padded or cut. DEDUCED (assumption log 15). -/
def shapeWord (pos : Nat) (drop : Bool) (w : SWord) : List SWord × Nat × Bool × Bool :=
  if drop then ([], 0, !isEnd w.tag, false)
  else if pos < 3 then
    if isEnd w.tag then
      ([⟨w.data, .data⟩] ++ List.replicate (2 - pos) ⟨0, .data⟩ ++ [⟨0, .eof⟩], 0, false, true)
    else ([⟨w.data, if w.tag = .poison then .poison else .data⟩], pos + 1, false, false)
  else if isEnd w.tag then ([⟨w.data, .eof⟩], 0, false, false)
  else if w.tag = .poison then ([w], 0, true, true)
  else ([⟨w.data, .eof⟩], 0, true, true)

/-- Several words shaped in turn (spec 06 R221): words stored, position, discarding mark, records padded or cut. -/
def shapeWords (pos : Nat) (drop : Bool) : List SWord → List SWord × Nat × Bool × Nat
  | [] => ([], pos, drop, 0)
  | w :: ws =>
    let x := shapeWord pos drop w
    let y := shapeWords x.2.1 x.2.2.1 ws
    (x.1 ++ y.1, y.2.1, y.2.2.1, b2n x.2.2.2 + y.2.2.2)

/-- The words that queue `n` stores for a push: shaped in a NOTIFY queue, as they are in a STREAM queue. -/
def pushShape (t : Tile) (n : Nat) (ws : List SWord) : List SWord × Nat × Bool × Nat :=
  let q := getQ t n
  if qType t n = 1 then shapeWords q.notifyPos q.notifyDrop ws else (ws, q.notifyPos, q.notifyDrop, 0)

/-- `k` records padded or cut: the count and a report for each (spec 06 R221). -/
def reshape (s : State) (i n : Nat) : Nat → State
  | 0 => s
  | k + 1 =>
    let q := getQ (getT s i) n
    reshape (reportTile (setQ s i n { q with reshaped := BitVec.ofNat 8 (satAdd 8 q.reshaped.toNat 1) }) i 0x731 (detail [(n, 1)])) i n k

/-- A push that has been accepted: its words stand behind every earlier word (spec 06 R213, R216, R221, R581). -/
def pushWords (s : State) (i n : Nat) (ws : List SWord) : State :=
  let t := getT s i
  let x := pushShape t n ws
  let before := qDepth (getQ t n)
  let q := getQ t n
  let s := setQ s i n (qFeed { q with incoming := q.incoming ++ x.1, notifyPos := x.2.1, notifyDrop := x.2.2.1 })
  let s := reshape s i n x.2.2.2
  levelCross s i n before (qDepth (getQ (getT s i) n))

/-- A firing that names a region of the wrong type: the tile stalls until its context changes (spec 06 R221). -/
def misuse (s : State) (i : Nat) : State := setT (bStat s i 34) i { getT (bStat s i 34) i with stalled := true }

/-- A queue emptied and its held requests released with a status (spec 06 R220, R222, R227). -/
def releaseHeld (s : State) (i n : Nat) (st : Status) : State :=
  let q := getQ (getT s i) n
  let s := q.held.foldl (fun s h => if st = .domainDown then answerDown s h.ep h.entry else answer s h.ep h.entry st []) s
  let q := getQ (getT s i) n
  setQ s i n { q with held := [] }

/-- QCTL.FLUSH (spec 06 R222, R223). -/
def flushQ (s : State) (i n : Nat) : State :=
  let s := releaseHeld s i n .aborted
  let q := getQ (getT s i) n
  setQ s i n { q with pre := [], rd := 0, rows := 0, asm := [], incoming := [], credited := 0, notifyPos := 0, notifyDrop := false
                      wptr := 0, fill := 0, preRow := none }

end Sys2Proof.Machine
end

