-- ==== Sys2Proof/Machine/BTile.lean ====
section
/-! DEFINITION. B-tile opcodes (spec 06 R207 to R211, R223 to R226), the queue controller's row moves (R581), the ECC
write-back (R196), gateway answers (R225), and the last stage of the pipelines of M-tiles and B-tiles (spec 03 R110 to
R113; spec 06 R210). -/

namespace Sys2Proof.Machine

def bQsel (c : Frame) : Nat := bitsOf (cMode c) 15 14

/-- The tag of a result fetched with its own tag (spec 06 R209). -/
def fetchTag (c : Frame) (t : Tag) : Tag :=
  if t = .poison then .poison else if tSrc c = 3 then tagOf (tConst c) else t

/-- What a B-opcode does once its operands are there: it does not fire, it stalls the tile, or it fires with the state
after its effect, and what it leaves to the pipeline. -/
inductive BRes where
  | hold
  | stall
  | conflict
  | fire (s : State) (r : Word) (fetched : Option Tag) (flag : Option Bool)
  | load (s : State) (slot : Nat)

/-- One firing of a B-opcode (spec 06 R207, R209, R210). `f` gives its effect from the tile's index, the frame, operand
A and B, the result tag that R51 to R54 give, and the state. -/
def fireB (op : Nat) (f : Nat → Frame → SWord → SWord → Tag → State → BRes) (i : TileIx) (s : State) : State :=
  let t := getT s i
  let c := ctxFrame t
  let zero : SWord := ⟨0, .data⟩
  let a := operandIf t c 0
  let b := operandIf t c 1
  if mayFire s i .b op && opsReady t c [0, 1] && !waveAtHead t c && !padFires t c && pipeRoom i t
      && latchOk t .fork (drvSet c 3) then
    let es := consumedEnds c [0, 1]
    let cons := consumedOps c [0, 1]
    let psn := poisoned c [a, b]
    let tag := resultTag c a b none cons
    let wraps := wouldWrap t && bit (cMode c) 1
    let endSeen := endConsumed t es
    let finish := fun (s' : State) (w : Work) =>
      let t1 := consume (getT s' i) es
      let t2 := if bit (cMode c) 1 then stepCnt t1 else t1
      let t3 := { t2 with poisoned := t2.poisoned || psn }
      let t4 := latch (localStep t3 c endSeen wraps) .fork a (drvSet c 3) t.pipe.length
      setT s' i (touch s i { t4 with pipe := t4.pipe ++ [⟨c, w⟩] })
    match f i c (a.getD zero) (b.getD zero) tag s with
    | .hold => s
    | .stall => misuse s i
    | .conflict => bumpConflicts s i
    | .fire s' r fetched flag =>
      finish s' (.bank ⟨r, if psn then .poison else match fetched with | some g => fetchTag c g | none => tag⟩ flag a psn)
    | .load s' slot => finish s' (.load slot a psn)
  else s

/-- Whether a firing that needs the bank port is held off (spec 06 R199, R206). -/
def portTaken (s : State) (i : Nat) : Bool := bankForced s i

/-- BRD (spec 06 R207, R196). -/
def bopBrd (i : Nat) (_ : Frame) (a _ : SWord) (_ : Tag) (s : State) : BRes :=
  if portTaken s i then .conflict else
  let off := 4 * bitsOf a.data.toNat 15 2
  let x := readHalf (bankUsed s i off 0) i off
  .fire x.1 (BitVec.ofNat 32 (leBytes (memRead s (tileBase i + off) 4))) (some (if x.2 then .poison else .data)) (some x.2)

/-- BWR (spec 06 R207, R197): a read-modify-write of a half. Like every firing that writes a bank or a queue, it does not issue before
WEN (spec 12 R466). -/
def bopBwr (i : Nat) (_ : Frame) (a b : SWord) (_ : Tag) (s : State) : BRes :=
  if !s.boot.wen then .hold else
  if portTaken s i then .conflict else
  let off := 4 * bitsOf a.data.toNat 15 2
  let x := writeBank (bankUsed s i off 0) i off (bytesLE 4 b.data.toNat)
  if x.2 then .fire (bankUsed x.1 i off 0) b.data (some .poison) none else .fire (bankUsed x.1 i off 4) b.data none none

/-- Whether the room check lets a word be pushed by the array side (spec 06 R215, R217, R221), and whether the write-assembly row
has a place for it (R581). -/
def pushRoom (t : Tile) (n : Nat) (w : SWord) : Bool :=
  let q := getQ t n
  let st := (pushShape t n [w]).1.length
  decide (qDepth q + q.credited + st ≤ qCap t n) && (st = 0 || (decide (q.asm.length < 4) && decide (q.incoming = [])))

/-- QPUSH (spec 06 R207, R215 to R217, R221). -/
def bopQpush (i : Nat) (c : Frame) (a _ : SWord) (tag : Tag) (s : State) : BRes :=
  let t := getT s i
  let n := bQsel c
  if !qEn t n || 2 ≤ qType t n then .stall
  else if !s.boot.wen || !pushRoom t n ⟨a.data, tag⟩ then .hold
  else
    let before := qDepth (getQ t n)
    let s' := pushWords s i n [⟨a.data, tag⟩]
    let after := qDepth (getQ (getT s' i) n)
    .fire s' a.data none (some (decide (before < qLevel t n ∧ qLevel t n ≤ after)))

/-- Whether a network pop of queue `q` of tile `i` is under way: it waits for a row move between two of its words (spec 06 R581). -/
def popLocked (s : State) (i q : Nat) : Bool :=
  (getEp s (patchPort i)).ingress.any (fun x => match x.2 with
    | some g => g.busy && !reqWrite g.req && (match placeOf s g.req.addr.toNat with
        | .port j r off => j == i && r == q && decide (off < 64)
        | _ => false)
    | none => false)

/-- QPOP (spec 06 R207, R215, R221, R581): it waits behind a network pop that is under way. DEDUCED (assumption log 28). -/
def bopQpop (i : Nat) (c : Frame) (_ _ : SWord) (_ : Tag) (s : State) : BRes :=
  let t := getT s i
  let n := bQsel c
  if !qEn t n || qType t n ≠ 0 then .stall
  else if popLocked s i n then .hold
  else
    let x := takeWord s i n
    match x.2 with
    | none => .hold
    | some w => .fire x.1 w.data (some w.tag) (some (isEnd w.tag))

/-- QLVL (spec 06 R207, R221). -/
def bopQlvl (i : Nat) (c : Frame) (_ _ : SWord) (_ : Tag) (s : State) : BRes :=
  let t := getT s i
  let n := bQsel c
  let d := qDepth (getQ t n)
  if !qEn t n || 2 ≤ qType t n then .stall
  else .fire s (BitVec.ofNat 32 d) none (some (decide (qLevel t n ≠ 0 ∧ qLevel t n ≤ d)))

/-- The delay of a DLYB context in words, cut to the region's capacity (spec 06 R223). -/
def dlyD (t : Tile) (c : Frame) : Nat := min (bitsOf (cImm c) 13 0 + 1) (qCap t (bQsel c))

/-- The position in the region of the word that a delay of `d` puts out (spec 06 R223). -/
def dlyPos (t : Tile) (n d : Nat) : Nat := ((getQ t n).wptr + qCap t n - d) % qCap t n

/-- DLYB: it stores a with its own tag (spec 06 R223, R581; a POISON tag under POISON_ABSORB counts as DATA, spec 02 R51).
DEDUCED (assumption log 14). DEDUCED (assumption log 27). -/
def bopDlyb (i : Nat) (c : Frame) (a _ : SWord) (_ : Tag) (s : State) : BRes :=
  let t := getT s i
  let n := bQsel c
  if !qEn t n || qType t n ≠ 2 then .stall else
  let q := getQ t n
  let d := dlyD t c
  let p := dlyPos t n d
  let out : Option SWord :=
    if q.fill < d then some ⟨0, .data⟩
    else if d ≤ q.asm.length then q.asm[q.asm.length - d]?
    else if q.preRow = some (p / 4) then q.pre[p % 4]? else none
  if !s.boot.wen ∨ 4 ≤ q.asm.length then .hold
  else match out with
    | none => .hold
    | some w =>
      let s := if qCap t n < bitsOf (cImm c) 13 0 + 1 then bStat s i 35 else s
      .fire (setQ s i n { q with asm := q.asm ++ [⟨a.data, tagOr c (some a)⟩], wptr := (q.wptr + 1) % qCap t n
                                 fill := min (q.fill + 1) (qCap t n) }) w.data (some w.tag) none

/-- The first tag of a B-tile's 32 landing slots at its patch port (spec 07 R265). -/
def gwTag0 (i : Nat) : Nat := if tileU i = 3 then 32 else 0

/-- A free slot of the reorder buffer with its landing slot (spec 06 R210, R226). DESIGN CHOICE (assumption log 83). -/
def gwFree (s : State) (i : Nat) : Option Nat :=
  (List.range 32).find? (fun k => smGet none (getT s i).b.gw k == none && (getLand s (patchPort i) (gwTag0 i + k)).isNone)

/-- The key of a tile (spec 06 R224). -/
def tileKey (s : State) (i : Nat) : Key := ⟨devId s, BitVec.ofNat 16 (0x1000 + fb (getT s i).static 251 240)⟩

/-- A gateway request issued by tile `i` into slot `k`, to `GW_BASE[q] + a` (spec 06 R224). A request that its own
interface completes is answered at once. -/
def gwIssue (s : State) (i k q : Nat) (load : Bool) (a data : Word) : State :=
  let ga := BitVec.ofNat 64 ((smGet 0 (getT s i).b.gwBase q).toNat + a.toNat)
  let put := fun (s : State) (ans : Option (Status × Word)) =>
    setB s i (fun b => { b with gw := smSet none b.gw k (some ⟨load, ga, data, ans, false⟩) })
  if ga.toNat % 4 ≠ 0 then put s (some (.badAddress, 0))
  else match sendReq s (patchPort i) (gwTag0 i + k) 1 (.gw i k) (tileKey s i) (BitVec.ofNat 16 (ga.toNat / 2 ^ 48))
      (ga.toNat % 2 ^ 48) (!load) 4 (bytesLE 4 data.toNat) with
    | .sent s' => put s' none
    | .done st => put s (some (st, 0))
    | .wait => put s none

/-- GWLD (spec 06 R207, R210, R224). -/
def bopGwld (i : Nat) (c : Frame) (a _ : SWord) (_ : Tag) (s : State) : BRes :=
  match gwFree s i with
  | none => .hold
  | some k => .load (gwIssue s i k (bQsel c) true a.data 0) k

/-- GWST (spec 06 R207, R224). -/
def bopGwst (i : Nat) (c : Frame) (a b : SWord) (_ : Tag) (s : State) : BRes :=
  match gwFree s i with
  | none => .hold
  | some k => .fire (gwIssue s i k (bQsel c) false a.data b.data) b.data none none

/-- GWFENCE (spec 06 R207, R210, R226). -/
def bopGwfence (i : Nat) (_ : Frame) (a _ : SWord) (_ : Tag) (s : State) : BRes :=
  if (gwFree s i).isNone then .hold
  else if (getT s i).b.gw.any (fun x => match x.2 with | some g => !g.load | none => false) then .hold
  else .fire s a.data none none

/-- GATEWAY_RESPONSE: the answer in slot `k` is worked off; a failure is recorded and reported; a store's slot is free
again (spec 06 R225). -/
def opGatewayResponse (i : TileIx) (k : Fin 32) (s : State) : State :=
  match smGet none (getT s i).b.gw k with
  | some g => match g.answer with
    | some (st, _) =>
      if g.seen then s else
      let s := setB s i (fun b => { b with gw := smSet none b.gw k (if g.load then some { g with seen := true } else none) })
      let s := setT s i (touch s i (getT s i))
      if st = .ok then s
      else reportTile (bStat (setB s i (fun b => { b with gwLast := BitVec.ofNat 8 (statusCode st) })) i 33) i 0x750
        (detail [(g.addr.toNat, 8)])
    | none => s
  | none => s

/-- ECC_WRITEBACK: the corrected half is written back in a cycle that leaves the port free (spec 06 R196). -/
def opEccWriteback (i : TileIx) (h : Fin 8192) (s : State) : State :=
  if (getT s i).b.writeBack.contains h.val && fieldRuns s (tileField i) && !bankForced s i then
    let s := { s with eccErr := smSet 0 s.eccErr (halfKey i (8 * h)) 0 }
    setB s i (fun b => { b with writeBack := b.writeBack.filter (· != h.val) })
  else s

/-- The row move of a delay region, if it needs one (spec 06 R223, R581): the full assembly row is written, otherwise the row that
the current DLYB context will need is read. -/
def dlyMove (s : State) (i n : Nat) : State :=
  let t := getT s i
  let q := getQ t n
  if q.asm.length = 4 then
    let r := (q.wptr / 4 + qRows t n - 1) % qRows t n
    let s := putRow (bankUsed s i (16 * (qBase t n + r)) 16) i (qBase t n + r) q.asm
    setQ s i n { q with asm := [], preRow := if q.preRow = some r then none else q.preRow }
  else
    let c := ctxFrame t
    let d := dlyD t c
    let r := dlyPos t n d / 4
    if cOp c = 0xB0 ∧ cFmt c = 3 ∧ bQsel c = n ∧ d ≤ q.fill ∧ q.asm.length < d ∧ q.preRow ≠ some r then
      let x := takeRow (bankUsed s i (16 * (qBase t n + r)) 0) i (qBase t n + r)
      setQ x.1 i n { getQ (getT x.1 i) n with pre := x.2, preRow := some r }
    else s

/-- ROW_MOVE (spec 06 R581): the prefetch row is filled when it is empty and the bank holds a row of the queue; otherwise a
full assembly row is written. It yields to a forced network access (R199). -/
def opRowMove (i : TileIx) (n : Fin 4) (s : State) : State :=
  let t := getT s i
  let q := getQ t n
  if fieldRuns s (tileField i) && decide (tileKind i = .b) && qEn t n && !bankForced s i then
    if qType t n = 2 then dlyMove s i n
    else if q.pre = [] ∧ 0 < q.rows then moveIn s i n
    else if q.asm.length = 4 then moveOut s i n
    else s
  else s

/-! ### The last stage of a pipeline -/

/-- The tile with the oldest flight's words latched and its registers and predicate written, when its latches are free; otherwise
that flight stands in the last stage (spec 03 R111). -/
def latchWork (t : Tile) (fl : Flight) (r : Option SWord) (o0 o1 : Option SWord) (flag : Option Bool) (psn : Bool) : Tile :=
  if flightOk t fl then
    let t := writeRegs t (match r with | some w => if wbEn fl.frame then [(wbReg fl.frame, w)] else [] | none => [])
    let t := match flag with | some v => if psn then t else writePred t (bitsOf (cMode fl.frame) 5 4) v | none => t
    latchFlight t fl o0 o1
  else { t with stuck := true }

/-- The words of a B-opcode's result on OUT0 and OUT1 (spec 02 R50). -/
def bankOuts (c : Frame) (r : SWord) (a : Option SWord) (flag : Option Bool) : Option SWord × Option SWord :=
  (if out0En c then some r else none, out1Word c (some r) a (flag.getD false))

/-- The oldest firing in flight reaches the last stage of the tile's pipeline, and its words are latched, unless a latch that it
fills is full or a gateway load has no answer (spec 03 R110, R111; spec 06 R210). -/
def lastStage (t : Tile) : Tile :=
  match t.pipe with
  | [] => t
  | fl :: _ =>
    let c := fl.frame
    match fl.work with
    | .words o0 o1 wb => latchWork t fl wb o0 o1 none false
    | .mac _ _ _ _ _ _ _ => t
    | .dump v0 v1 tag m0 m1 psn a =>
      if flightOk t fl then
        let x := macStage4 c v0 v1 tag m0 m1 psn a t
        latchFlight x.1 fl x.2.1 x.2.2
      else { t with stuck := true }
    | .bank r flag a psn =>
      let o := bankOuts c r a flag
      latchWork t fl (some r) o.1 o.2 flag psn
    | .load k a psn =>
      match smGet none t.b.gw k with
      | some g => match g.answer with
        | some (st, w) =>
          if !g.seen then t else
          let bad := decide (st ≠ .ok)
          let r : SWord := ⟨if bad then BitVec.ofNat 32 (statusCode st) else w,
            if psn || bad then .poison else fetchTag c .data⟩
          let o := bankOuts c r a (some bad)
          let t' := latchWork t fl (some r) o.1 o.2 (some bad) psn
          if flightOk t fl then { t' with b := { t'.b with gw := smSet none t'.b.gw k none } } else t'
        | none => t
      | none => t

/-- PIPELINE_LATCH: the pipeline's oldest firing passes S3, and then S4 on the segment sets of its issuing context when its latches
are free; otherwise it waits there with S3 done (spec 03 R110 to R113; spec 06 R210). DEDUCED (assumption log 16). -/
def opPipelineLatch (i : TileIx) (s : State) : State :=
  if !tileRuns s i ∨ (getT s i).pipe = [] then s
  else setT s i (touch s i (lastStage (stage3 (getT s i))))

/-! ### The meanings of the commands of this file -/

/-- PIPELINE_LATCH (spec 03 R112). -/
def execPipelineLatch (t : TileIx) (s : State) : Host.Outcome State Fault Refusal := .next (opPipelineLatch t s)
/-- BRD (spec 06 R207). DEDUCED (assumption log 25). DEDUCED (assumption log 27). -/
def execBrd (t : TileIx) (s : State) : Host.Outcome State Fault Refusal := .next (fireB 0xA0 bopBrd t s)
/-- BWR (spec 06 R207). -/
def execBwr (t : TileIx) (s : State) : Host.Outcome State Fault Refusal := .next (fireB 0xA1 bopBwr t s)
/-- QPUSH (spec 06 R215). -/
def execQpush (t : TileIx) (s : State) : Host.Outcome State Fault Refusal := .next (fireB 0xA8 bopQpush t s)
/-- QPOP (spec 06 R207). -/
def execQpop (t : TileIx) (s : State) : Host.Outcome State Fault Refusal := .next (fireB 0xA9 bopQpop t s)
/-- QLVL (spec 06 R207). -/
def execQlvl (t : TileIx) (s : State) : Host.Outcome State Fault Refusal := .next (fireB 0xAA bopQlvl t s)
/-- DLYB (spec 06 R223). -/
def execDlyb (t : TileIx) (s : State) : Host.Outcome State Fault Refusal := .next (fireB 0xB0 bopDlyb t s)
/-- GWLD (spec 06 R224). -/
def execGwld (t : TileIx) (s : State) : Host.Outcome State Fault Refusal := .next (fireB 0xC0 bopGwld t s)
/-- GWST (spec 06 R224). -/
def execGwst (t : TileIx) (s : State) : Host.Outcome State Fault Refusal := .next (fireB 0xC1 bopGwst t s)
/-- GWFENCE (spec 06 R226). -/
def execGwfence (t : TileIx) (s : State) : Host.Outcome State Fault Refusal := .next (fireB 0xC2 bopGwfence t s)
/-- GATEWAY_RESPONSE (spec 06 R225). -/
def execGatewayResponse (t : TileIx) (slot : Fin 32) (s : State) : Host.Outcome State Fault Refusal := .next (opGatewayResponse t slot s)
/-- ECC_WRITEBACK (spec 06 R196). -/
def execEccWriteback (t : TileIx) (half : Fin 8192) (s : State) : Host.Outcome State Fault Refusal := .next (opEccWriteback t half s)
/-- ROW_MOVE (spec 06 R581). -/
def execRowMove (t : TileIx) (q : Fin 4) (s : State) : Host.Outcome State Fault Refusal := .next (opRowMove t q s)

end Sys2Proof.Machine
end

