-- ==== Sys2Proof/Machine/Wires.lean ====
section
/-! DEFINITION. Segments, skid buffers, seam buffers and bridle cells (spec 04), and WAVE firings (spec 05 R181 to R187). -/

namespace Sys2Proof.Machine

/-- The driver of segment start `j` and the word it presents: a latched word, oldest first, which waits while a firing
older than it has still to produce a word for the start; else the word at the arriving end that the current context
routes (spec 02 R42; spec 03 R112; spec 04 R126, R135). The result says where the word is taken from: `none` a latch (the
first that holds it), `some e` arriving end `e`. -/
def driverWord (t : Tile) (j : Nat) : Option (SWord × Option Nat) :=
  match t.latches.find? (fun l => l.set.contains j) with
  | some l => if (t.pipe.take l.after).any (fun fl => flightTo fl j) then none else some (l.word, none)
  | none =>
    if t.pipe.any (fun fl => flightTo fl j) then none
    else
      let c := ctxFrame t
      let d := cDrv c j
      if cFmt c ≠ 0 ∧ 4 ≤ d ∧ d ≤ 27 then
        let x := getE t (d - 4)
        if x.taken.contains j then none else x.skid.head?.map (fun w => (w, some (d - 4)))
      else none

/-- Start `j` gives its word away: it leaves the segment set of its latch, and an emptied latch is empty again; or the
route driver has taken the head of its arriving end (spec 02 R42, R41). -/
def driverGive (t : Tile) (j : Nat) (src : Option Nat) : Tile :=
  match src with
  | some e => takeAt t j e
  | none =>
    match t.latches.findIdx? (fun l => l.set.contains j) with
    | some k => match t.latches[k]? with
      | some l =>
        let rest := l.set.filter (· != j)
        { t with latches := if rest = [] then t.latches.eraseIdx k else t.latches.set k { l with set := rest } }
      | none => t
    | none => t

/-- The bridle mode of the side across which a word enters at owner tile `own`: SINK when its bit is 1 (spec 04 R143;
spec 05 R154). -/
def bridleSink (s : State) (own sd : Nat) : Bool := bit (getT s own).static.toNat (229 - sd)

/-- Whether the bridle cells of a field are engaged (spec 04 R141). -/
def engaged (s : State) (f : Nat) : Bool := (getFS s f).engaged

/-- SEGMENT_ACCEPT: segment `j` of tile `i` accepts its driver's word into the skid buffer at its end, when that holds
fewer than two words (spec 04 R130 to R132). Segments over a field boundary take SEAM_WRITE or SINK_DISCARD. -/
def opSegmentAccept (i : TileIx) (j : Fin 24) (s : State) : State :=
  match segDest i j with
  | none => s
  | some (d, e) =>
    if seamAt d e || !tileRuns s i then s else
    match driverWord (getT s i) j with
    | none => s
    | some (w, src) =>
      if 2 ≤ (getE (getT s d) e).skid.length then s else
      let s := setT s i (touch s i (driverGive (getT s i) j src))
      let x := getE (getT s d) e
      setT s d (setE (getT s d) e { x with skid := x.skid ++ [w] })

/-- SEAM_WRITE: the seam buffer of the track takes the word while it has a free entry; a stopped receiving compute clock
is asked to wake (spec 04 R137, R140, R142). -/
def opSeamWrite (i : TileIx) (j : Fin 24) (s : State) : State :=
  match segDest i j with
  | none => s
  | some (d, e) =>
    let f := tileField d
    if !seamAt d e || !tileRuns s i || engaged s (tileField i) || (engaged s f && bridleSink s (seamOwner d e) (e / 6)) then s else
    match driverWord (getT s i) j with
    | none => s
    | some (w, src) =>
      if 4 ≤ (getE (getT s d) e).seam.length then s else
      let s := setT s i (touch s i (driverGive (getT s i) j src))
      let x := getE (getT s d) e
      wakeReq (setT s d (setE (getT s d) e { x with seam := x.seam ++ [w] })) f

/-- Count words discarded across side `sd` of owner tile `own` (spec 04 R148). -/
def sinkAdd (s : State) (own sd n : Nat) : State :=
  let t := getT s own
  setT s own { t with sinkCnt := smSet 0 t.sinkCnt sd (BitVec.ofNat 32 (satAdd 32 (smGet 0 t.sinkCnt sd).toNat n)) }

/-- SINK_DISCARD: a word that enters an isolated field across a SINK side is discarded and counted (spec 04 R142). -/
def opSinkDiscard (i : TileIx) (j : Fin 24) (s : State) : State :=
  match segDest i j with
  | none => s
  | some (d, e) =>
    let own := seamOwner d e
    if !seamAt d e || !tileRuns s i || engaged s (tileField i) || !engaged s (tileField d) || !bridleSink s own (e / 6) then s else
    match driverWord (getT s i) j with
    | none => s
    | some (_, src) => sinkAdd (setT s i (touch s i (driverGive (getT s i) j src))) own (e / 6) 1

/-- The words held across side `sd` of `own` are discarded and counted (spec 04 R143; spec 13 R500). -/
def dumpSide (s : State) (own sd : Nat) : State :=
  (sideTracks own sd).foldl (fun s k =>
    let x := getE (getT s k.1) k.2
    if seamAt k.1 k.2 then
      sinkAdd (setT s k.1 (touch s k.1 (setE (getT s k.1) k.2 { x with seam := [] }))) own sd x.seam.length
    else s) s

/-- SEAM_DELIVER: the oldest word of the seam buffer of end `e` moves into the end's skid buffer on the receiving clock
(spec 04 R137, R142; spec 13 R500: across SINK sides not while the field drains). On an outward end of an edge-port tile
the word comes from the group's read side (spec 04 R123; spec 06 R238). -/
def opSeamDeliver (i : TileIx) (e : Fin 24) (s : State) : State :=
  let f := tileField i
  let t := getT s i
  let x := getE t e
  if !fieldRuns s f || engaged s f || 2 ≤ x.skid.length then s else
  match edgeTrack i e with
  | some g =>
    let gs := smGet {} s.groups g
    -- in ISOLATING the read side idles (spec 06 R242)
    if rd s (A.FIFO_STATUS (g / 4) (g % 4)) F.FIFO_STATUS_STATE = 3 then s else
    match gs.readSide[e.val % 6]? with
    | some (some w) =>
      let s := setT s i (setE t e { x with skid := x.skid ++ [w] })
      { s with groups := smSet {} s.groups g { gs with readSide := gs.readSide.set (e.val % 6) none } }
    | _ => s
  | none =>
    if pwrState s f = 2 ∧ bridleSink s (seamOwner i e) (e.val / 6) then s else
    match x.seam with
    | w :: rest => setT s i (setE t e { x with skid := x.skid ++ [w], seam := rest })
    | [] => s

/-- BRIDLE_RELEASE: the bridle cells of a field that has reached ON release together (spec 04 R141, R144); the held words
then move by SEAM_DELIVER. -/
def opBridleRelease (f : Fin 64) (s : State) : State :=
  if engaged s f && decide (pwrState s f ≤ 1) then setFS s f { getFS s f with engaged := false } else s

/-! ### WAVE firings -/

/-- The lead operand (spec 05 R181). -/
def leadOp (c : Frame) : Option Nat := (streamOps c).head?

/-- Whether the head of operand `o`'s arriving end is a WAVE token. -/
def waveHead (t : Tile) (c : Frame) (o : Nat) : Bool :=
  match streamSel c o with
  | some e => match headAt t e with
    | some w => isWave w
    | none => false
  | none => false

/-- Whether a tile is armed for WAVE switching (spec 05 R180). -/
def waveArmed (t : Tile) : Bool := t.arm || waveSelfArm (ctxFrame t)

/-- A WAVE word put on the wave set of context `c` (spec 05 R181, R182, R184): nothing where a latch of the set is full or
the pipeline has no room. Where STOP = 1 the word goes nowhere; in an M-tile or B-tile the firing takes its issue slot all the same. -/
def waveSend (i : Nat) (t : Tile) (c : Frame) (w : SWord) : Option Tile :=
  let s0 := if out0En c then drvSet c 1 else []
  let s1 := if out1En c then drvSet c 2 else []
  let s3 := drvSet c 3
  let x := if waveStop c then none else some w
  if !(latchOk t .out0 s0 && latchOk t .out1 s1 && latchOk t .fork s3) then none
  else if tileKind i = .a then
    some (latch (latch (latch t .out0 x s0 0) .out1 x s1 0) .fork x s3 0)
  else if pipeRoom i t then
    let t' := latch t .fork x s3 t.pipe.length
    some { t' with pipe := t'.pipe ++ [⟨c, .words (if out0En c then x else none) (if out1En c then x else none) none⟩] }
  else none

/-- The switch of a wave: the context is entered and the command arm is cleared (spec 05 R180, R182). -/
def waveSwitch (t : Tile) (n : Fin 16) : Tile := { enterCtx t n with arm := false }

/-- WAVE_FIRING (spec 05 R181, R182, R184). A pending injection stands ahead of the word (R186). A firing of the background test changes
no arm and leaves C15 current (R192). -/
def opWaveFiring (i : TileIx) (s : State) : State :=
  let t := getT s i
  let c := ctxFrame t
  if !tileRuns s i || cFmt c = 0 || t.inject.isSome then s else
  match leadOp c with
  | none => s
  | some o =>
    let need := if waveWaitAll c then streamOps c else [o]
    if !need.all (waveHead t c) then s else
    match streamSel c o with
    | none => s
    | some e => match headAt t e with
      | none => s
      | some w => match waveSend i t c w with
        | none => s
        | some t1 =>
          let t2 := consume t1 ((need.filterMap (streamSel c)).eraseDups)
          let t3 := if waveArmed t && !lentTile s i then waveSwitch t2 (Fin.ofNat 16 (bitsOf w.data.toNat 3 0)) else t2
          setT s i (touch s i t3)

/-- WAVE_NON_LEAD_CONSUME (spec 05 R185). -/
def opWaveNonLead (i : TileIx) (o : Fin 3) (s : State) : State :=
  let t := getT s i
  let c := ctxFrame t
  match leadOp c, streamSel c o with
  | some l, some e =>
    if tileRuns s i && decide (cFmt c ≠ 0) && !waveWaitAll c && decide (l ≠ o.val) && decide (streamSel c l ≠ some e) && waveHead t c o then
      setT s i (touch s i (takeAt t 24 e))
    else s
  | _, _ => s

/-! ### Drained and quiet tiles -/

/-- Whether an arriving end that the current context reads, as an operand or by a driver, holds a word, or the seam
buffer that feeds it does (spec 05 R167). -/
def endsBusy (t : Tile) : Bool :=
  let c := ctxFrame t
  t.ends.any (fun x => (x.2.skid ≠ [] || x.2.seam ≠ []) && readersOf c x.1 ≠ [])

/-- The effect of the B-opcode of a code. -/
def bankOp (op : Nat) : Nat → Frame → SWord → SWord → Tag → State → BRes :=
  if op = 0xA0 then bopBrd else if op = 0xA1 then bopBwr else if op = 0xA8 then bopQpush else if op = 0xA9 then bopQpop
  else if op = 0xAA then bopQlvl else if op = 0xB0 then bopDlyb else if op = 0xC0 then bopGwld else if op = 0xC1 then bopGwst
  else if op = 0xC2 then bopGwfence else fun _ _ _ _ _ _ => .hold

/-- Whether an opcode without a stream operand does something at every cycle in tile `i` (spec 02 R46): it fires where nothing else
that it waits on is missing. -/
def freeRuns (s : State) (i : Nat) : Bool :=
  let t := getT s i
  let c := ctxFrame t
  let op := cOp c
  let w := fun (o : Nat) => (operandIf t c o).getD ⟨0, .data⟩
  if padFires t c then true
  else if op = 0 then false
  else if isMOp op then pipeRoom i t && outsFree t c && !macStale t c && !macBlocked s i c
  else if isBOp op then
    pipeRoom i t && outsFree t c
      && (match bankOp op i c (w 0) (w 1) (resultTag c (operandIf t c 0) (operandIf t c 1) none []) s with
          | .fire _ _ _ _ => true
          | .load _ _ => true
          | _ => false)
  else if isStreamOp op then outsFree t c && (op != 0xF8 || t.treePort.isNone)
  else if 0x40 ≤ op ∧ op ≤ 0x42 then chainReady s i
  else outsFree t c

/-- Whether ZIP, JOIN or MERGE has an operand to take: it waits on one operand alone, which may be no stream operand (spec 02 R64). -/
def turnFires (t : Tile) (c : Frame) : Bool :=
  (cOp c == 0xE1 && (strZip t c).isSome) || (cOp c == 0xE3 && (strJoin t c).isSome) || (cOp c == 0xE4 && (strMerge t c).isSome)

/-- Whether tile `i`, as it stands, fires in the cycle on operands that are no stream operands (spec 02 R46, R54; spec 05 R167). A tile
whose arriving ends are empty fires in no other way. -/
def firesNow (s : State) (i : Nat) : Bool :=
  let t := getT s i
  let c := ctxFrame t
  mayFire s i (tileKind i) (cOp c) && (padFires t c || turnFires t c || (decide (streamOps c = []) && freeRuns s i))

/-- The arriving ends of tile `i` whose segment starts in its own patch (spec 05 R192). -/
def innerEnd (i e : Nat) : Bool :=
  match segSource i e with
  | some j => tilePatch j == tilePatch i
  | none => false

/-- Member `i` as its user has left it: registers, slot 15 and current context as the save set holds them; words of test firings in
latches, pipelines and on segments inside the patch are discarded (spec 05 R192, R193). -/
def restoreTile (i : Nat) (t u : Tile) : Tile :=
  settleAll { t with
    cur := u.cur, lreg := u.lreg, p0 := u.p0, p1 := u.p1, cnt := u.cnt, cntLimit := u.cntLimit
    turn := u.turn, lastTaken := u.lastTaken, poisoned := u.poisoned, wrapped := u.wrapped
    slots := smSet 0 t.slots 15 (smGet 0 u.slots 15)
    latches := [], pipe := [], stuck := false, chainIn := u.chainIn, activeAt := u.activeAt
    ends := (List.range 24).foldl (fun m e => if innerEnd i e then smSet {} m e (getE u e) else m) t.ends
    m := { t.m with acc0 := u.m.acc0, acc1 := u.m.acc1, init0 := u.m.init0, init1 := u.m.init1
                    psn0 := u.m.psn0, psn1 := u.m.psn1, ags := u.m.ags, stat := u.m.stat } }

/-- Tile `i` as it is under its user: what the end of a borrow would leave of a borrowed tile (spec 05 R192, R193). -/
def seenTile (s : State) (i : Nat) : Tile :=
  match lentTile s i, smGet none s.saved i with
  | true, some u => restoreTile i (getT s i) u
  | _, _ => getT s i

/-- Whether a tile holds nothing that keeps it from being drained (spec 05 R167; spec 06 R210). -/
def tileEmpty (t : Tile) : Bool :=
  decide (t.latches = []) && decide (t.pipe = []) && !endsBusy t && t.treePort.isNone
    && !t.b.gw.any (fun x => match x.2 with | some g => !g.seen | none => false)

/-- Whether a tile is drained (spec 05 R167; spec 06 R210). Of a borrowed tile it is the user's state that counts, whose context fires
nothing during the borrow. DEDUCED (assumption log 57). -/
def tileDrained (s : State) (i : Nat) : Bool := tileEmpty (seenTile s i) && (lentTile s i || !firesNow s i)

/-- Tile `i` counts as active in the present cycle: its quiet cycles start anew (spec 05 R156). -/
def markActive (s : State) (i : Nat) : State := setT s i (touch s i (getT s i))

/-- Whether a tile is quiet (spec 05 R156). A borrowed tile counts as quiet. -/
def tileQuiet (s : State) (i : Nat) : Bool :=
  let t := getT s i
  let k := fb t.static 239 232
  lentTile s i
    || (tileDrained s i && decide (k ≠ 255) && decide (t.activeAt + 64 * k * (2 ^ 24 * 10000) ≤ (getFS s (tileField i)).cycles))

/-- The listed tiles of a field: an unlisted tile is at its factory value, drained and quiet, with no fault. -/
def listedTiles (s : State) (p : Nat → Bool) : List Nat := (s.tiles.map Prod.fst).filter p

/-- The DRAINED, QUIET, ARMED and FAULT reductions over the tiles that `p` names, `all` saying that it names at least one
tile that no map lists (spec 05 R166). -/
def redDrained (s : State) (p : Nat → Bool) : Bool := (listedTiles s p).all (tileDrained s)
def redQuiet (s : State) (p : Nat → Bool) : Bool := (listedTiles s p).all (fun i => tileQuiet s i)
def redArmed (s : State) (members : List Nat) : Bool := members.all (fun i => waveArmed (userTile s i))
def redFault (s : State) (p : Nat → Bool) : Bool :=
  (listedTiles s p).any (fun i =>
    let t := userTile s i
    t.poisoned || [7, 8, 10, 11].any (fun k => bit t.m.stat.toNat k) || [32, 33, 34].any (fun k => bit t.b.stat.toNat k))

/-- Whether field `f`'s QUIET reduction reads 1 at its level 4 node (spec 05 R166; spec 13 R503). -/
def fieldQuiet (s : State) (f : Nat) : Bool := redQuiet s (fun i => tileField i == f)
/-- Whether field `f`'s DRAINED reduction reads 1 (spec 13 R500). -/
def fieldDrained (s : State) (f : Nat) : Bool := redDrained s (fun i => tileField i == f)

/-! ### The meanings of the commands of this file -/

/-- SEGMENT_ACCEPT (spec 04 R130). -/
def execSegmentAccept (t : TileIx) (j : Fin 24) (s : State) : Host.Outcome State Fault Refusal := .next (opSegmentAccept t j s)
/-- SEAM_WRITE (spec 04 R137). -/
def execSeamWrite (t : TileIx) (j : Fin 24) (s : State) : Host.Outcome State Fault Refusal := .next (opSeamWrite t j s)
/-- SEAM_DELIVER (spec 04 R137). -/
def execSeamDeliver (t : TileIx) (e : Fin 24) (s : State) : Host.Outcome State Fault Refusal := .next (opSeamDeliver t e s)
/-- SINK_DISCARD (spec 04 R142). -/
def execSinkDiscard (t : TileIx) (j : Fin 24) (s : State) : Host.Outcome State Fault Refusal := .next (opSinkDiscard t j s)
/-- BRIDLE_RELEASE (spec 04 R144). -/
def execBridleRelease (f : Fin 64) (s : State) : Host.Outcome State Fault Refusal := .next (opBridleRelease f s)
/-- WAVE_FIRING (spec 05 R182). -/
def execWaveFiring (t : TileIx) (s : State) : Host.Outcome State Fault Refusal := .next (opWaveFiring t s)
/-- WAVE_NON_LEAD_CONSUME (spec 05 R185). -/
def execWaveNonLeadConsume (t : TileIx) (o : Fin 3) (s : State) : Host.Outcome State Fault Refusal := .next (opWaveNonLead t o s)

end Sys2Proof.Machine
end

