-- ==== Sys2Proof/Machine/Context.lean ====
section
/-! DEFINITION. The end of a borrow (spec 05 R191 to R194); checks and stores of context and static frames (spec 05 R149 to
R160; spec 02 R55, R71; spec 03 R91; spec 04 R128; spec 06 R211, R212). -/

namespace Sys2Proof.Machine

/-- The borrow of a patch ends: every save set is restored (spec 05 R191, R193). -/
def endBorrow (s : State) (p : Nat) : State :=
  let s := (patchTiles p).foldl (fun s i =>
    match smGet none s.saved i with
    | some u => { setT s i (restoreTile i (getT s i) u) with saved := smSet none s.saved i none }
    | none => s) s
  { s with borrowed := s.borrowed.filter (· ≠ p) }

/-- The report of a borrow: the patch's first tile, source management block (spec 05 R194; spec 14 R523). -/
def reportPatch (s : State) (p code : Nat) (det : List Byte) : State := report s 200 (unitTile s (16 * p)) code det

/-- The borrow of patch `p` yields to a trigger (spec 05 R193, R194). -/
def yieldPatch (s : State) (p trigger : Nat) : State := reportPatch (endBorrow s p) p 0x2C1 (detail [(trigger, 1)])

/-- A-tile opcodes of the table (spec 02 R59), those marked "32" in the Lanes column, and the common stream operations
(R64, spec 05 R173). -/
def opsA : List Nat :=
  [0x00, 0x01, 0x02, 0x03, 0x04, 0x05, 0x06, 0x07, 0x08, 0x09, 0x0A, 0x0B, 0x10, 0x11, 0x12, 0x13, 0x14, 0x15,
   0x18, 0x19, 0x1A, 0x1B, 0x1C, 0x20, 0x21, 0x22, 0x23, 0x24, 0x28, 0x29, 0x30, 0x31, 0x32, 0x33, 0x34, 0x35,
   0x38, 0x39, 0x3A, 0x40, 0x41, 0x42, 0x48, 0x4C, 0x4D]
def ops32 : List Nat :=
  [0x1C, 0x28, 0x29, 0x33, 0x34, 0x35, 0x38, 0x39, 0x3A, 0x40, 0x41, 0x42, 0x48, 0x4C, 0x4D]
def opsM : List Nat := [0x60, 0x61, 0x62, 0x63, 0x68, 0x69, 0x6A, 0x6B, 0x70, 0x71, 0x74]
def opsB : List Nat := [0xA0, 0xA1, 0xA8, 0xA9, 0xAA, 0xB0, 0xC0, 0xC1, 0xC2]
def opsS : List Nat := [0xE0, 0xE1, 0xE2, 0xE3, 0xE4, 0xE5, 0xE6, 0xE7, 0xE8, 0xE9, 0xEA, 0xEB, 0xF8]

/-- Whether the opcode belongs to the kind (spec 02 R55). -/
def opcodeOk (k : Kind) (op : Nat) : Bool :=
  opsS.contains op || (match k with | .a => opsA | .m => opsM | .b => opsB).contains op

/-- MODE, PDEST and IMM rules of A-opcodes and common stream operations (spec 02 R49, R55; spec 05 R173). -/
def modeOkA (c : Frame) : Bool :=
  let m := cMode c
  bitsOf m 15 14 != 3 && !(ops32.contains (cOp c) && bitsOf m 15 14 != 0) && bitsOf m 5 4 != 3 && bitsOf m 3 2 != 3 && !bit m 0
    && !(cOp c == 0xF8 && (bit m 11 || bitsOf (cImm c) 18 16 != 0))

/-- MODE and control-word rules of M-opcodes (spec 03 R91). -/
def modeOkM (c : Frame) : Bool :=
  let op := cOp c
  mAccOp c != 3 && bitsOf (cMode c) 5 4 != 3 && decide (kOfmt c < 2) && bitsOf (cImm c) 31 15 == 0
    && !(mQuad c && ([0x60, 0x68, 0x61, 0x69].contains op || !mSrcX c || !mSrcY c))
    && !(mConj c && !(op == 0x61 || op == 0x69))
    && !((op == 0x61 || op == 0x69) && (!mSgnP c || !mSgnQ c))

/-- MODE and IMM rules of B-opcodes (spec 06 R211). -/
def modeOkB (c : Frame) : Bool :=
  let m := cMode c
  let op := cOp c
  bitsOf m 13 12 == 0 && !bit m 9 && !bit m 6 && bitsOf m 3 2 == 0 && !bit m 0 && bitsOf m 5 4 != 3
    && !((op == 0xB0 || op == 0xA9) && bit m 11) && !(bit m 10 && !(op == 0xA1 || op == 0xC1))
    && !(op == 0xB0 && bitsOf (cImm c) 31 14 != 0)

/-- CHAIN rules at tile `i` (spec 02 R55, R71). -/
def chainOk (i : Nat) (c : Frame) : Bool :=
  let ch := cChain c
  bitsOf ch 1 0 == 0
    && !(chEn c && tileV i % 2 == 1)
    && !(chCross c && (tileU i != 0 || tileX i % 16 == 0 || chHead c))
    && !(!chEn c && ch != 0)
    && !(chEn c && !(decide (0x40 ≤ cOp c ∧ cOp c ≤ 0x42)))

/-- Route and operand selects at tile `i` (spec 04 R128). -/
def selectsOk (i : Nat) (c : Frame) : Bool :=
  (List.range 24).all (fun j =>
    let d := cDrv c j
    decide (d < 28) && (d == 0 || endExists i j) && (decide (d < 4) || endExists i (d - 4)))
  && [0, 1, 2].all (fun o => match streamSel c o with | some e => endExists i e | none => true)

/-- The encodings of a context frame that R55, R91, R128, R151 and R211 reserve are absent. -/
def contextOk (i : Nat) (c : Frame) : Bool :=
  let k := tileKind i
  cFmt c == kindFmt k && opcodeOk k (cOp c) && decide (cStep c < 6) && !bit (cDest c) 0 && out1Src c != 3 && tConst c != 5
    && fb c 151 144 == 0
    && (if isMOp (cOp c) then modeOkM c else if isBOp (cOp c) then modeOkB c else modeOkA c)
    && chainOk i c && selectsOk i c

/-- The QUEUE fields and QC_MODE of a B-tile's static frame (spec 06 R212, R232). -/
def queuesOk (c : Frame) : Bool :=
  let q := fun (n : Nat) => fb c (199 - 40 * n) (160 - 40 * n)
  let en := fun (n : Nat) => bit (q n) 39
  let base := fun (n : Nat) => bitsOf (q n) 35 24
  let last := fun (n : Nat) => bitsOf (q n) 35 24 + bitsOf (q n) 23 12
  !bit (fb c 207 200) 5
    && [0, 1, 2, 3].all (fun n =>
        if en n then bitsOf (q n) 38 37 != 3 && !bit (q n) 36 && decide (last n ≤ 4095) else q n == 0)
    && [0, 1, 2, 3].all (fun n => [0, 1, 2, 3].all (fun m =>
        decide (m ≤ n) || !en n || !en m || decide (last n < base m) || decide (last m < base n)))

/-- A static frame's fields at tile `i` (spec 05 R154, R155; spec 04 R128). -/
def staticOk (i : Nat) (c : Frame) : Bool :=
  let k := tileKind i
  fb c 255 252 == kindFmt k && !(bit c.toNat 231 && tileV i % 2 == 1)
    && [0, 1, 2, 3].all (fun sd => !bit c.toNat (229 - sd) || boundarySide i sd)
    && fb c 225 224 == 0 && fb c 31 16 == 0
    && (match k with
        | .a => fb c 223 32 == 0
        | .m => true
        | .b => fb c 39 32 == 0 && queuesOk c)

/-- The check of a frame before it is stored in slot `slot` of tile `i` (spec 05 R150); `ok` accepts it. Slots 17 to
31 are reserved (spec 05 R158). -/
def frameCheck (i slot : Nat) (c : Frame) : Status :=
  if 16 < slot then .configSelect
  else if slot < 16 ∧ cFmt c = 0 then .ok
  else if fb c 15 0 ≠ frameCrc c then .configCrc
  else if slot < 16 then (if contextOk i c then .ok else .configSelect)
  else if staticOk i c then .ok else .configSelect

/-- A slot's stored frame (spec 05 R158). -/
def slotFrame (t : Tile) (slot : Nat) : Frame := if slot < 16 then smGet 0 t.slots slot else t.static

/-- BANK_OWNER takes the static frame's OWNER_DEFAULT (spec 06 R205). DESIGN CHOICE (assumption log 82). -/
def ownerDefault (s : State) (i : Nat) : State :=
  let m := fb (getT s i).static 223 208
  let d := if m ≤ 0x0FFF then BitVec.ofNat 16 (rd s A.FAB_ANCHOR F.FAB_ANCHOR_ANCHOR_ID) else devId s
  setB s i (fun b => { b with ownDev := d, ownMst := BitVec.ofNat 16 m })

/-- The generator descriptors of the static frame written to sets 0 and 1, each pointer at BASE (spec 03 R108). -/
def loadGens (t : Tile) : Tile :=
  (List.range 6).foldl (fun t k =>
    let d := fb t.static (223 - 32 * k) (192 - 32 * k)
    agSet t k (BitVec.ofNat 64 (d + bitsOf d 9 0 * 2 ^ 32))) t

/-- Generator sets 2 and 3 at their reset values (spec 03 R108). -/
def resetGens (t : Tile) : Tile := [6, 7, 8, 9, 10, 11].foldl (fun t k => agSet t k agReset) t

/-- B_CTL.NET_WAIT from QC_MODE (spec 06 R232). -/
def loadNetWait (s : State) (i : Nat) : State :=
  setB s i (fun b => { b with netWait := let w := bitsOf (qcMode (getT s i)) 4 0; BitVec.ofNat 5 (if w = 0 then 16 else w) })

/-- Every queue and region of a tile empty, its held requests released (spec 06 R223, R227; spec 12 R467). -/
def emptyQueues (s : State) (i : Nat) : State :=
  [0, 1, 2, 3].foldl (fun s n =>
    let s := flushQ s i n
    setQ s i n { getQ (getT s i) n with levelHit := false, refused := 0, reshaped := 0, eventEn := false, popWait := 0x40 }) s

/-- The queues of a B-tile empty and its BANK_OWNER at its default, as a static load leaves them (spec 06 R205, R223; spec 12 R467). -/
def staticQueues (s : State) (i : Nat) : State := ownerDefault ([0, 1, 2, 3].foldl (fun s n => flushQ s i n) s) i

/-- A static frame put in place, with what a static load sets beside it (spec 03 R108; spec 04 R143; spec 06 R205, R223,
R232; spec 12 R467). -/
def storeStatic (s : State) (i : Nat) (c : Frame) : State :=
  let old := getT s i
  let s := setT s i { old with static := c }
  let s := [0, 1, 2, 3].foldl (fun s sd =>
    if engaged s (tileField i) && !bit old.static.toNat (229 - sd) && bit c.toNat (229 - sd) then dumpSide s i sd else s) s
  match tileKind i with
  | .a => s
  | .m => setT s i (loadGens (getT s i))
  | .b => loadNetWait (staticQueues s i) i

/-- A frame stored in a slot: one in the current context's slot counts as entry to that context (spec 05 R160). -/
def storeFrame (s : State) (i slot : Nat) (c : Frame) : State :=
  if slot < 16 then
    let t := getT s i
    let t := { t with slots := smSet 0 t.slots slot c }
    setT s i (if t.cur.val = slot then touch s i (enterCtx t t.cur) else t)
  else storeStatic s i c

/-- Whether a field is isolated for a static load (spec 05 R157; spec 13 R497). -/
def isolated (s : State) (f : Nat) : Bool := pwrState s f == 4 && engaged s f && fieldDrained s f

/-- Whether a partial load of field `f` runs (spec 12 R468). -/
def regionLoading (s : State) (f : Nat) : Bool :=
  let st := rd s (A.CFG_REGION f) F.CFG_REGION_STATE
  st == 1 || st == 2

/-- The status of writing frame `c` to a slot by the network or a descriptor (spec 05 R150, R157; spec 12 R472). -/
def frameWriteStatus (s : State) (i slot : Nat) (c : Frame) : Status :=
  if regionLoading s (tileField i) then .configRegion
  else if slot = 16 ∧ !isolated s (tileField i) then .configRegion
  else frameCheck i slot c

/-- A frame of 32 bytes, byte 0 in bits 7 to 0 (spec 00 R7). -/
def frameOf (bs : List Byte) : Frame := BitVec.ofNat 256 (leBytes bs)
def frameBytes (c : Frame) : List Byte := bytesLE 32 c.toNat

/-- FRAME_WRITE (spec 05 R159): whole frames, all of them or none. DESIGN CHOICE (assumption log 81). -/
def opFrameWrite (ep : Fin 2048) (n : Fin 32) (s : State) : State :=
  match getIn s ep n with
  | none => s
  | some g =>
    match placeOf s g.req.addr.toNat with
    | .frame i off =>
      if !mayServe s i g || !reqWrite g.req then s else
      let len := reqLen g.req
      if off % 32 ≠ 0 ∨ len % 32 ≠ 0 ∨ 0x220 < off + len then answer s ep n .length []
      else
        let bs := (g.wdata.getD [])
        let frames := (List.range (len / 32)).map (fun k => (off / 32 + k, frameOf (sliceBytes bs (32 * k) 32)))
        match frames.find? (fun x => decide (frameWriteStatus s i x.1 x.2 ≠ .ok)) with
        | some x => answer s ep n (frameWriteStatus s i x.1 x.2) []
        | none => answer (frames.foldl (fun s x => storeFrame s i x.1 x.2) s) ep n .ok []
    | _ => s

/-- FRAME_READ (spec 05 R159). DESIGN CHOICE (assumption log 81). -/
def opFrameRead (ep : Fin 2048) (n : Fin 32) (s : State) : State :=
  match getIn s ep n with
  | none => s
  | some g =>
    match placeOf s g.req.addr.toNat with
    | .frame i off =>
      if !mayServe s i g || reqWrite g.req then s else
      let len := reqLen g.req
      if 0x220 < off + len then answer s ep n .badAddress []
      else
        let all := (List.range 17).flatMap (fun k => frameBytes (slotFrame (getT s i) k))
        answer s ep n .ok (sliceBytes all off len)
    | _ => s

/-! ### The meanings of the commands of this file -/

/-- FRAME_WRITE (spec 05 R159). -/
def execFrameWrite (ep : Fin 2048) (n : Fin 32) (s : State) : Host.Outcome State Fault Refusal := .next (opFrameWrite ep n s)
/-- FRAME_READ (spec 05 R159). -/
def execFrameRead (ep : Fin 2048) (n : Fin 32) (s : State) : Host.Outcome State Fault Refusal := .next (opFrameRead ep n s)

end Sys2Proof.Machine
end

