-- ==== Sys2Proof/Machine/TileRegs.lean ====
section
/-! DEFINITION. The registers of the tile control block (spec 02 R76 to R83; spec 03 R115 to R120; spec 04 R146 to R148; spec
06 R229 to R234): what a read returns and what a write leaves. Offsets that no register holds are holes. -/

namespace Sys2Proof.Machine

/-- The value that a write with bit mask `mask` leaves in a register that is all RW. -/
def mergeMask (old v mask : Reg) : Reg := (old &&& ~~~mask) ||| (v &&& mask)

/-- A number as a register. -/
def regN (n : Nat) : Reg := BitVec.ofNat 64 n

/-- Whether a tile has a side on a field boundary (spec 04 R146). -/
def hasBoundary (i : Nat) : Bool := [0, 1, 2, 3].any (boundarySide i)

/-- Bits of a list, the first one the highest. -/
def bitsMsb (l : List Bool) : Nat := l.foldl (fun a b => 2 * a + b2n b) 0

/-- SEAM_STATUS (spec 04 R147). -/
def seamStatus (s : State) (i : Nat) : Nat :=
  let sides := [0, 1, 2, 3]
  let held := fun (sd : Nat) => boundarySide i sd
    && (sideTracks i sd).any (fun k => seamAt k.1 k.2 && decide ((getE (getT s k.1) k.2).seam ≠ []))
  b2n (engaged s (tileField i)) * 2 ^ 16 + bitsMsb (sides.map (boundarySide i)) * 2 ^ 12
    + bitsMsb (sides.map (quarterSide i)) * 2 ^ 8 + bitsMsb (sides.map (fun sd => bridleSink s i sd)) * 2 ^ 4
    + bitsMsb (sides.map held)

/-- TILE_STATUS (spec 02 R80); `held`: tile state is held at its reset values (R83). DEDUCED (assumption log 66). -/
def tileStatus (held : Bool) (t : Tile) : Nat :=
  t.cur.val * 16 + b2n (held || !ctxValid t) * 8 + b2n t.poisoned * 4 + b2n t.wrapped * 2 + b2n t.turn

/-- Whether a firing of the tile waits on a stale Y line (spec 03 R104, R118). DESIGN CHOICE (assumption log 78). -/
def mirrorWait (t : Tile) : Bool := cFmt (ctxFrame t) == 2 && isMOp (cOp (ctxFrame t)) && macStale t (ctxFrame t)

/-- M_STATUS (spec 03 R118). -/
def mStatus (t : Tile) : Nat :=
  b2n t.m.psn1 * 2 ^ 13 + b2n t.m.psn0 * 2 ^ 12 + b2n (mirrorWait t) * 2 ^ 9 + t.m.stat.toNat + t.pipe.length

/-- Gateway requests in flight (spec 06 R230): a request that its own interface has completed is in none. -/
def gwOutstanding (t : Tile) : Nat := (t.b.gw.filter (fun x => match x.2 with | some g => g.answer.isNone | none => false)).length

/-- B_STATUS (spec 06 R230). -/
def bStatus (t : Tile) : Nat := t.b.stat.toNat + t.b.gwLast.toNat * 256 + gwOutstanding t

/-- QSTATE[n] (spec 06 R234). -/
def qState (t : Tile) (n : Nat) : Nat :=
  let q := getQ t n
  q.refused.toNat * 2 ^ 48 + q.reshaped.toNat * 2 ^ 40 + b2n q.levelHit * 2 ^ 39 + q.held.length * 2 ^ 36
    + q.credited * 2 ^ 16 + (if qType t n = 2 then 0 else qDepth q)

/-- QCTL[n] (spec 06 R234). -/
def qCtl (t : Tile) (n : Nat) : Nat := b2n (getQ t n).eventEn * 256 + (getQ t n).popWait.toNat

/-- An accumulator's high word sign-extended (spec 03 R116, R117). -/
def signHigh (v : Nat) : Nat := wrapInt 64 (sintOf 16 v)

/-- The common registers (spec 02 R76): their values. -/
def commonRead (s : State) (i off : Nat) : Option Reg :=
  let t := getT s i
  if 0x400 ≤ off ∧ off < 0x440 then
    let w := smGet ⟨0, .data⟩ t.lreg ((off - 0x400) / 8)
    some (regN (w.data.toNat + tagCode w.tag * 2 ^ 32))
  else if off = 0x440 then some (regN (b2n t.p1 * 2 + b2n t.p0))
  else if off = 0x448 then some (regN t.cnt.toNat)
  else if off = 0x450 then some (regN t.cntLimit.toNat)
  else if off = 0x458 then some (regN (tileStatus (!s.boot.srst) t))
  else if off = 0x5F8 then some (regN t.conflicts.toNat)
  else if off = 0x600 ∧ hasBoundary i then some (regN (seamStatus s i))
  else if 0x608 ≤ off ∧ off ≤ 0x620 ∧ hasBoundary i then
    let sd := (off - 0x608) / 8
    some (regN (if boundarySide i sd then (smGet 0 t.sinkCnt sd).toNat else 0))
  else none

/-- The registers of an M-tile (spec 03 R115). -/
def macRead (t : Tile) (off : Nat) : Option Reg :=
  let lo := fun (a : BitVec 80) => regN (a.toNat % 2 ^ 64)
  let hi := fun (a : BitVec 80) => regN (signHigh (a.toNat / 2 ^ 64))
  if off = 0x460 then some (lo t.m.acc0) else if off = 0x468 then some (regN (signHigh t.m.snap0.toNat))
  else if off = 0x470 then some (lo t.m.acc1) else if off = 0x478 then some (regN (signHigh t.m.snap1.toNat))
  else if off = 0x480 then some (lo t.m.init0) else if off = 0x488 then some (hi t.m.init0)
  else if off = 0x490 then some (lo t.m.init1) else if off = 0x498 then some (hi t.m.init1)
  else if off = 0x4A0 then some (regN (mStatus t)) else if off = 0x4A8 then some (regN t.m.portWait.toNat)
  else if 0x4C0 ≤ off ∧ off < 0x540 ∧ (off - 0x4C0) % 0x20 < 0x18 then
    some (agGet t (3 * ((off - 0x4C0) / 0x20) + (off - 0x4C0) % 0x20 / 8))
  else none

/-- The registers of a B-tile (spec 06 R229). -/
def bankRegRead (t : Tile) (off : Nat) : Option Reg :=
  if off = 0x460 then some (regN (bStatus t)) else if off = 0x468 then some (regN t.b.netWait.toNat)
  else if off = 0x470 then some (regN (t.b.eccUnc.toNat * 2 ^ 32 + t.b.eccCorr.toNat))
  else if off = 0x478 then some (regN t.b.bankColl.toNat)
  else if 0x480 ≤ off ∧ off < 0x4A0 then some (smGet 0 t.b.gwBase ((off - 0x480) / 8))
  else if off = 0x800 then some (regN (t.b.ownDev.toNat * 65536 + t.b.ownMst.toNat))
  else if 0x840 ≤ off ∧ off < 0x880 then
    let n := (off - 0x840) / 16
    some (regN (if (off - 0x840) % 16 = 0 then qState t n else qCtl t n))
  else none

/-- The value of the tile register at an aligned offset; nothing at a hole. -/
def tileRegRead (s : State) (i off : Nat) : Option Reg :=
  match commonRead s i off with
  | some v => some v
  | none => match tileKind i with
    | .a => none
    | .m => macRead (getT s i) off
    | .b => bankRegRead (getT s i) off

/-- What reading a register does beside returning it: a read of ACCn_LO takes the snapshot (spec 03 R116). -/
def tileRegTouch (s : State) (i off : Nat) : State :=
  let t := getT s i
  if tileKind i = .m ∧ off = 0x460 then setT s i { t with m := { t.m with snap0 := BitVec.ofNat 16 (t.m.acc0.toNat / 2 ^ 64) } }
  else if tileKind i = .m ∧ off = 0x470 then setT s i { t with m := { t.m with snap1 := BitVec.ofNat 16 (t.m.acc1.toNat / 2 ^ 64) } }
  else s

/-- A write of the common registers. -/
def commonWrite (s : State) (i off : Nat) (old v mask : Reg) : Option State :=
  let t := getT s i
  let m := (mergeMask old v mask).toNat
  let one := (v &&& mask).toNat
  if 0x400 ≤ off ∧ off < 0x440 then
    let tag := if bitsOf m 34 32 = 5 then Tag.poison else tagOf (bitsOf m 34 32)
    some (setT s i { t with lreg := smSet ⟨0, .data⟩ t.lreg ((off - 0x400) / 8) ⟨BitVec.ofNat 32 m, tag⟩ })
  else if off = 0x440 then some (setT s i { t with p0 := bit m 0, p1 := bit m 1 })
  else if off = 0x448 then some (setT s i { t with cnt := BitVec.ofNat 32 m })
  else if off = 0x450 then some (setT s i { t with cntLimit := BitVec.ofNat 32 m })
  else if off = 0x458 then
    some (setT s i { t with poisoned := t.poisoned && !bit one 2, wrapped := t.wrapped && !bit one 1 })
  else if off = 0x5F8 then some (setT s i { t with conflicts := BitVec.ofNat 16 m })
  else if off = 0x600 ∧ hasBoundary i then some s
  else if 0x608 ≤ off ∧ off ≤ 0x620 ∧ hasBoundary i then
    let sd := (off - 0x608) / 8
    some (if boundarySide i sd then setT s i { t with sinkCnt := smSet 0 t.sinkCnt sd (BitVec.ofNat 32 m) } else s)
  else none

/-- An accumulator with its low 64 or its high 16 bits replaced. -/
def accPut (a : BitVec 80) (high : Bool) (m : Nat) : BitVec 80 :=
  if high then BitVec.ofNat 80 (a.toNat % 2 ^ 64 + m % 2 ^ 16 * 2 ^ 64)
  else BitVec.ofNat 80 (a.toNat / 2 ^ 64 * 2 ^ 64 + m % 2 ^ 64)

/-- The W1C bits of M_STATUS (spec 03 R118). -/
def mW1c : Reg := regN 0xDF8

/-- Whether a write touches the 16 bits that a high word of an accumulator holds; the bits above are read only (spec 03 R116). -/
def hitsHigh (mask : Reg) : Bool := mask.toNat % 2 ^ 16 != 0

/-- A write of an M-tile's registers (spec 03 R116 to R120). -/
def macWrite (t : Tile) (off : Nat) (old v mask : Reg) : Option Tile :=
  let m := (mergeMask old v mask).toNat
  let up := fun (f : MPart → MPart) => some { t with m := f t.m }
  if off = 0x460 then up (fun p => { p with acc0 := accPut p.acc0 false m, psn0 := false })
  else if off = 0x468 then up (fun p =>
    if hitsHigh mask then { p with acc0 := accPut p.acc0 true m, snap0 := BitVec.ofNat 16 m, psn0 := false } else { p with psn0 := false })
  else if off = 0x470 then up (fun p => { p with acc1 := accPut p.acc1 false m, psn1 := false })
  else if off = 0x478 then up (fun p =>
    if hitsHigh mask then { p with acc1 := accPut p.acc1 true m, snap1 := BitVec.ofNat 16 m, psn1 := false } else { p with psn1 := false })
  else if off = 0x480 then up (fun p => { p with init0 := accPut p.init0 false m })
  else if off = 0x488 then up (fun p => { p with init0 := accPut p.init0 true m })
  else if off = 0x490 then up (fun p => { p with init1 := accPut p.init1 false m })
  else if off = 0x498 then up (fun p => { p with init1 := accPut p.init1 true m })
  else if off = 0x4A0 then up (fun p => { p with stat := p.stat &&& ~~~(v &&& mask &&& mW1c) })
  else if off = 0x4A8 then up (fun p => { p with portWait := BitVec.ofNat 5 m })
  else if 0x4C0 ≤ off ∧ off < 0x540 ∧ (off - 0x4C0) % 0x20 < 0x18 then
    some (agSet t (3 * ((off - 0x4C0) / 0x20) + (off - 0x4C0) % 0x20 / 8) (regN (m % 2 ^ 42)))
  else none

/-- Whether a key may write BANK_OWNER (spec 06 R204). -/
def ownerMayWrite (s : State) (i : Nat) (k : Key) : Bool :=
  let b := (getT s i).b
  isWarden s k || (isEngine k.mst && k.dev == devId s)
    || (b.ownMst != 0xFFFF && b.ownDev == k.dev && b.ownMst == k.mst)

/-- The queue registers QSTATE[n] and QCTL[n] written (spec 06 R234). -/
def queueRegWrite (s : State) (i off : Nat) (old v mask : Reg) : State :=
  let n := (off - 0x840) / 16
  let one := (v &&& mask).toNat
  let m := (mergeMask old v mask).toNat
  let q := getQ (getT s i) n
  if (off - 0x840) % 16 = 0 then
    setQ s i n { q with refused := if bitsOf one 63 48 = 0 then q.refused else 0
                        reshaped := if bitsOf one 47 40 = 0 then q.reshaped else 0
                        levelHit := q.levelHit && !bit one 39 }
  else
    let s := setQ s i n { q with eventEn := bit m 8, popWait := BitVec.ofNat 8 m }
    if bit one 9 then flushQ s i n else s

/-- A write of a B-tile's registers (spec 06 R229 to R234, R204): the state and the status. -/
def bankRegWrite (s : State) (i off : Nat) (k : Key) (remote : Bool) (old v mask : Reg) : Option (State × Status) :=
  let m := (mergeMask old v mask).toNat
  if off = 0x460 then
    some (setB s i (fun b => { b with stat := b.stat &&& ~~~(v &&& mask &&& regN (15 * 2 ^ 32)) }), .ok)
  else if off = 0x468 then some (setB s i (fun b => { b with netWait := BitVec.ofNat 5 m }), .ok)
  else if off = 0x470 then
    some (setB s i (fun b => { b with eccUnc := BitVec.ofNat 32 (m / 2 ^ 32), eccCorr := BitVec.ofNat 32 m }), .ok)
  else if off = 0x478 then some (setB s i (fun b => { b with bankColl := BitVec.ofNat 32 m }), .ok)
  else if 0x480 ≤ off ∧ off < 0x4A0 then
    some (setB s i (fun b => { b with gwBase := smSet 0 b.gwBase ((off - 0x480) / 8) (regN m) }), .ok)
  else if off = 0x800 then
    if ownerMayWrite s i k then
      some (setB s i (fun b => { b with ownDev := BitVec.ofNat 16 (m / 65536), ownMst := BitVec.ofNat 16 m }), .ok)
    else
      -- the DLA of a 4-byte write of the upper half lies 4 above (spec 09 R354)
      let a := off + (if mask.toNat % 2 ^ 32 = 0 then 4 else 0)
      some (denyWith s k remote false (unitTile s i) (0x40000000 + 4096 * i + a) pWRITE (tileField i) 0x611, .notOwner)
  else if 0x840 ≤ off ∧ off < 0x880 then some (queueRegWrite s i off old v mask, .ok)
  else none

/-- Whether the register of a tile of kind `k` at an aligned offset holds its reset value until SRST (spec 02 R83; spec 03 R115; spec 06
R227; spec 12 R467). DEDUCED (assumption log 66). -/
def heldReset (k : Kind) (off : Nat) : Bool :=
  decide (0x400 ≤ off ∧ off ≤ 0x458) || off == 0x5F8
    || (match k with
        | .a => false
        | .m => decide (0x460 ≤ off ∧ off < 0x5F8)
        | .b => off == 0x460 || off == 0x470 || off == 0x478 || decide (0x840 ≤ off ∧ off < 0x880))

/-- A write of the tile register at an aligned offset under a bit mask: the state and the status of the write; nothing at
a hole. Before SRST a register that holds its reset value keeps it. DEDUCED (assumption log 66). -/
def tileRegWrite (s : State) (i off : Nat) (k : Key) (remote : Bool) (v mask : Reg) : Option (State × Status) :=
  match tileRegRead s i off with
  | none => none
  | some old =>
    if !s.boot.srst && heldReset (tileKind i) off then some (s, .ok)
    else match commonWrite s i off old v mask with
    | some s' => some (s', .ok)
    | none => match tileKind i with
      | .a => none
      | .m => (macWrite (getT s i) off old v mask).map (fun t => (setT s i t, .ok))
      | .b => bankRegWrite s i off k remote old v mask

/-- The aligned register offset and the bit mask that an access of 4 or 8 bytes covers (spec 00 R8; spec 16 R575), or the
status of a bad one. DEDUCED (assumption log 23). -/
def regAccess (off len : Nat) : Except Status (Nat × Reg) :=
  if len = 8 then (if off % 8 = 0 then .ok (off, BitVec.allOnes 64) else .error .badAddress)
  else if len = 4 then (if off % 4 = 0 then .ok (off / 8 * 8, halfMask (decide (off % 8 = 4))) else .error .badAddress)
  else .error .length

/-- The register value that carries `value` in the half that a 4-byte access at `off` names. -/
def placeValue (off len : Nat) (value : Reg) : Reg := if len = 4 ∧ off % 8 = 4 then value <<< 32 else value

/-- A command that writes a whole tile register and has no answer. -/
def tileRegCmd (s : State) (i off : Nat) (k : Key) (v : Reg) : State :=
  match tileRegWrite s i off k false v (BitVec.allOnes 64) with
  | some r => r.1
  | none => s

/-- ACC_LO_READ: the snapshot takes the high bits (spec 03 R116). -/
def opAccLoRead (i : TileIx) (n : Fin 2) (s : State) : State := tileRegTouch s i (0x460 + 16 * n.val)
/-- ACC_REGISTER_WRITE (spec 03 R116, R94). -/
def opAccWrite (i : TileIx) (n : Fin 2) (high : Bool) (v : Reg) (s : State) : State :=
  if tileKind i = .m then tileRegCmd s i (0x460 + 16 * n.val + 8 * b2n high) ⟨0, 0⟩ v else s
/-- AG_REGISTER_WRITE (spec 03 R107, R120). -/
def opAgWrite (i : TileIx) (set : Fin 4) (g : Fin 3) (v : Reg) (s : State) : State :=
  if tileKind i = .m then tileRegCmd s i (0x4C0 + 0x20 * set.val + 8 * g.val) ⟨0, 0⟩ v else s
/-- BANK_OWNER_WRITE (spec 06 R204; spec 09 R348). -/
def opBankOwnerWrite (i : TileIx) (k : Key) (v : Reg) (s : State) : State :=
  if tileKind i = .b then tileRegCmd s i 0x800 k v else s
/-- FLUSH: a write of QCTL[q] (spec 06 R222, R234). -/
def opFlush (i : TileIx) (q : Fin 4) (v : Reg) (s : State) : State :=
  if tileKind i = .b then tileRegCmd s i (0x848 + 16 * q.val) ⟨0, 0⟩ v else s

end Sys2Proof.Machine
end

