-- ==== Sys2Proof/Machine/QNet.lean ====
section
/-! DEFINITION. Network requests to a tile: the rules of each place (spec 06 R198, R214, R217, R219, R221; spec 03 R99), and
their service: banks, X and Y memory, pushes, pops and credit requests (spec 06 R196 to R201, R214 to R221). -/

namespace Sys2Proof.Machine

/-- Whether a pop of a NOTIFY queue belongs to a notify binding of a ring engine (spec 06 R221; spec 08 R320): a local one
by its landing slot; one that came over tether by a host ring's master ID and a length of a record at most. -/
def notifyPop (s : State) (f : Flit) (remote : Bool) : Bool :=
  if remote then decide (f.mst.toNat < 0x1000 ∧ reqLen f ≤ 16)
  else match getLand s f.src.toNat f.tag.toNat with
    | some l => match l.owner with | .notify _ => true | _ => false
    | none => false

/-- The page rules of a queue port page (spec 06 R214, R217, R219, R221). -/
def portRule (s : State) (i q off : Nat) (f : Flit) (remote : Bool) : Status :=
  let t := getT s i
  let len := reqLen f
  let w := off / 64
  if !qEn t q then .badAddress
  else if qType t q = 2 then .badAddress
  else if 64 < off % 64 + len then .length
  else if reqWrite f then (if w < 2 ∧ (len < 4 ∨ len % 4 ≠ 0) then .length else .ok)
  else if w = 0 then
    (if qType t q = 1 ∧ !notifyPop s f remote then .badAddress else if len < 4 ∨ len % 4 ≠ 0 then .length else .ok)
  else if w = 1 then (if off = 0x40 ∧ len = 8 then .ok else .length)
  else .length

/-- Whether a BAR0 offset lies in a block of the map (spec 16, BAR0 map; R575); the blocks take the room up to the next one that their
chapters give an address. The ID block has no rule for holes of its own: only its registers are there (spec 16 R577).
DEDUCED (assumption log 54). -/
def inBlock (off : Nat) : Bool :=
  (decide (off < 0x10000) && (regFields (off / 8 * 8)).isSome)
    || decide ((0x10000 ≤ off ∧ off < 0x20000) ∨ (0x100000 ≤ off ∧ off < 0x140000) ∨ (0x200000 ≤ off ∧ off < 0x320000) ∨ (0x400000 ≤ off ∧ off < 0x470000)
    ∨ (0x500000 ≤ off ∧ off < 0x510000) ∨ (0x600000 ≤ off ∧ off < 0x610000) ∨ (0x700000 ≤ off ∧ off < 0x740000)
    ∨ (0x800000 ≤ off ∧ off < 0x804000) ∨ (0x900000 ≤ off ∧ off < 0x910000))

/-- The rule of a set-up access (spec 00 R8; spec 10 R383; spec 14 R539; spec 16 R575): 4 or 8 aligned bytes, or a masked update of
16; the NV window judges its writes itself. DEDUCED (assumption log 23). -/
def setupRule (off : Nat) (f : Flit) : Status :=
  if !inBlock off then .badAddress
  else if reqWrite f && decide (0x730000 ≤ off) && decide (off < 0x740000) then .ok
  else if reqWrite f && reqLen f == 16 then (if off % 8 = 0 then .ok else .badAddress)
  else match regAccess off (reqLen f) with
    | .ok _ => .ok
    | .error st => st

/-- The rules that a request's place sets, beside tables and owner (spec 01 R24; spec 03 R99; spec 05 R159; spec 06 R198,
R214). -/
def placeRule (s : State) (p : Place) (f : Flit) (remote : Bool) : Status :=
  let len := reqLen f
  match p with
  | .bank _ off => if 65536 < off + len then .badAddress else .ok
  | .xy _ off => if off % 4 ≠ 0 ∨ len % 4 ≠ 0 ∨ 0x2000 < off + len then .badAddress else .ok
  | .frame _ off =>
    if reqWrite f then (if off % 32 ≠ 0 ∨ len % 32 ≠ 0 ∨ 0x220 < off + len then .length else .ok)
    else if 0x220 < off + len then .badAddress else .ok
  | .reg i off => match regAccess off len with
    | .ok a => if (tileRegRead s i a.1).isSome then .ok else .badAddress
    | .error st => st
  | .port i q off => portRule s i q off f remote
  | .hole _ => .badAddress
  | .setup off => setupRule off f
  | .window _ _ => .ok
  | .unassigned => .badAddress

/-- Whether the owner check passes (spec 06 R202, R203). -/
def ownerOk (s : State) (p : Place) (k : Key) : Bool :=
  let chk := fun (i : Nat) =>
    let b := (getT s i).b
    b.ownMst == 0xFFFF || isWarden s k || (isEngine k.mst && k.dev == devId s) || (b.ownDev == k.dev && b.ownMst == k.mst)
  match p with
  | .bank i _ => chk i
  | .port i _ _ => chk i
  | _ => true

/-- An admitted request of an endpoint, with its entry, its place and its tile, when it may be served now. -/
def served (s : State) (ep n : Nat) : Option (Ingress × Place × Nat) :=
  match getIn s ep n with
  | none => none
  | some g =>
    let p := placeOf s g.req.addr.toNat
    match placeTile p with
    | some i => if mayServe s i g then some (g, p, i) else none
    | none => none

/-- Whether bytes `a` to `a + n - 1` and bytes `b` to `b + m - 1` share a byte. -/
def overlap (a n b m : Nat) : Bool := decide (0 < n ∧ 0 < m ∧ a < b + m ∧ b < a + n)

/-- BANK_READ (spec 06 R196, R198 to R200). An access in the array side's cycle to the row it wrote returns the row with the
array's bytes in place, as any later one does. -/
def opBankRead (ep : Fin 2048) (n : Fin 32) (s : State) : State :=
  match served s ep n with
  | some (g, .bank i off, _) =>
    if reqWrite g.req then s else
    let len := reqLen g.req
    let x := readHalves s i (halves off len)
    bankServed (if x.2 then answer x.1 ep n .eccUncorrected []
      else answer x.1 ep n .ok (memRead x.1 (tileBase i + off) len)) i
  | _ => s

/-- BANK_WRITE (spec 06 R197, R198, R200, R201). `same` says that it is served in the cycle of the array side's last write;
then a byte that both write holds the network's data, and the collision counts for both. A write that the check bits refuse
writes no byte and collides with nothing. -/
def opBankWrite (ep : Fin 2048) (n : Fin 32) (same : Bool) (s : State) : State :=
  match served s ep n with
  | some (g, .bank i off, _) =>
    if !reqWrite g.req then s else
    let len := reqLen g.req
    let x := writeBank s i off ((g.wdata.getD []).take len)
    let coll := same && !x.2 && (match (getT s i).b.lastWrite with
      | some (o, k) => overlap o k off len
      | none => false)
    let s := x.1
    let s := if coll then
        bumpConflicts (setB (noteB s i (fun b => { b with bankColl := BitVec.ofNat 32 (satAdd 32 b.bankColl.toNat 1) })) i
          (fun b => { b with lastWrite := none })) i
      else s
    bankServed (answerC s ep n (if x.2 then .eccUncorrected else .ok) [] 0 coll) i
  | _ => s

/-- XY_NETWORK_ACCESS (spec 03 R99 to R102): one word of the access moves, in one port cycle; the next word waits anew. A read that
meets bad parity completes with ECC_UNCORRECTED. -/
def opXyAccess (ep : Fin 2048) (n : Fin 32) (s : State) : State :=
  match served s ep n with
  | some (g, .xy i off, _) =>
    let len := reqLen g.req
    let a := off / 4 + g.moved / 4
    let y := decide (1024 ≤ a)
    let w := xyWord s i y (a % 1024)
    let bad := !reqWrite g.req && decide (w.tag = .poison)
    let g' := { g with busy := true, moved := g.moved + 4, wait := 0, bad := g.bad || bad
                       part := g.part ++ bytesLE 4 w.data.toNat }
    let s := if reqWrite g.req then xyWrite s i y (a % 1024) (BitVec.ofNat 32 (leAt (g.wdata.getD []) g.moved 4))
      else if bad then xyFail s i y (a % 1024) else s
    let s := if g'.moved < len then setIn s ep n (some g')
      else if reqWrite g.req then answer s ep n .ok []
      else if g'.bad then answer s ep n .eccUncorrected []
      else answer s ep n .ok g'.part
    portServed s i g.req.op.toNat (xyAddr i y 0) (xyAddr i y 1024)
  | _ => s

/-! ### Queue requests -/

/-- The stream words of a push (spec 06 R214): DATA words, or a record's end with EOF or TAILn and zero padding. -/
def pushedWords (bs : List Byte) (ends : Bool) : List SWord :=
  let len := bs.length
  let k := (len + 3) / 4
  (List.range k).map (fun j =>
    ⟨BitVec.ofNat 32 (leAt bs (4 * j) 4),
     if ends ∧ j + 1 = k then (if len % 4 = 0 then .eof else if len % 4 = 1 then .tail1 else if len % 4 = 2 then .tail2 else .tail3)
     else .data⟩)

/-- A push refused (spec 06 R218). -/
def pushRefused (s : State) (ep n i q : Nat) (k : Key) : State :=
  let c := getQ (getT s i) q
  let s := setQ s i q { c with refused := BitVec.ofNat 16 (satAdd 16 c.refused.toNat 1) }
  answer (reportTile s i 0x730 (detail [(q, 1), (keyNat k, 4)])) ep n .length []

/-- Whether a push of `ws` fits (spec 06 R215, R218, R221). -/
def netRoom (t : Tile) (q : Nat) (credited : Bool) (ws : List SWord) : Bool :=
  let c := getQ t q
  let st := (pushShape t q ws).1.length
  if credited then decide (ws.length ≤ c.credited ∧ qDepth c + c.credited - ws.length + st ≤ qCap t q)
  else !bit (qcMode t) 7 && decide (qDepth c + c.credited + st ≤ qCap t q)

/-- CREDITED_PUSH and UNCREDITED_PUSH (spec 06 R214, R218, R221). A push that is accepted stays in the ingress until the row moves that
it needs are done (R581). -/
def netPush (credited : Bool) (ep : Fin 2048) (n : Fin 32) (s : State) : State :=
  match served s ep n with
  | some (g, .port i q off, _) =>
    let w := off / 64
    if !reqWrite g.req || (w % 2 == 0) != credited then s else
    let c := getQ (getT s i) q
    let ws := pushedWords ((g.wdata.getD []).take (reqLen g.req)) (decide (2 ≤ w))
    if g.busy then (if c.incoming = [] then answer s ep n .ok [] else s)
    else if !netRoom (getT s i) q credited ws then pushRefused s ep n i q (reqKey g.req)
    else if (pushShape (getT s i) q ws).1 ≠ [] ∧ (c.incoming ≠ [] ∨ 4 ≤ c.asm.length) then s
    else
      let s := if credited then setQ s i q { c with credited := c.credited - ws.length } else s
      let s := pushWords s i q ws
      if (getQ (getT s i) q).incoming = [] then answer s ep n .ok [] else setIn s ep n (some { g with busy := true })
  | _ => s
def opCreditedPush (ep : Fin 2048) (n : Fin 32) (s : State) : State := netPush true ep n s
def opUncreditedPush (ep : Fin 2048) (n : Fin 32) (s : State) : State := netPush false ep n s

/-- Whether a queue holds a word with an end tag (spec 06 R219). -/
def qHasEnd (s : State) (i q : Nat) : Bool :=
  let c := getQ (getT s i) q
  (c.pre ++ c.asm ++ c.incoming).any (fun w => isEnd w.tag)
    || (List.range c.rows).any (fun k =>
        let tags := (smGet 0 s.tagStore (4096 * i + qRowAt (getT s i) q (c.rd + k))).toNat
        (List.range 4).any (fun j => isEnd (tagOf (tags / 8 ^ j))))

/-- Whether a pop of `k` words may be served (spec 06 R219). -/
def popReady (s : State) (i q k : Nat) (waited : Bool) : Bool :=
  let d := qDepth (getQ (getT s i) q)
  decide (k ≤ d) || qHasEnd s i q || (waited && decide (0 < d))

/-- What a pop has taken: the state, the bytes returned, the words that it may still take, the code of the end tag that closed it
(0 for none), whether it met a POISON word first, and whether its next word lies in the bank (spec 06 R219, R581). -/
structure Popped where
  st : State
  bytes : List Byte
  left : Nat
  endTag : Nat := 0
  poison : Bool := false
  waits : Bool := false

/-- The words that a served pop takes (spec 06 R219); `first` says that it has taken none yet.
DESIGN CHOICE (assumption log 28). -/
def popTake (i q : Nat) : Nat → Bool → State → List Byte → Popped
  | 0, _, s, acc => { st := s, bytes := acc, left := 0 }
  | k + 1, first, s, acc =>
    let c := getQ (getT s i) q
    match headWord c with
    | none => { st := s, bytes := acc, left := k + 1, waits := decide (c.rows ≠ 0) }
    | some w =>
      let s' := (takeWord s i q).1
      if w.tag = .poison then
        (if first then { st := s', bytes := bytesLE 4 w.data.toNat, left := 0, poison := true } else { st := s, bytes := acc, left := 0 })
      else if w.tag = .pad then popTake i q k false s' acc
      else if isEnd w.tag then
        let e := tagCode w.tag
        { st := s', bytes := acc ++ bytesLE (if e = 1 then 4 else e - 1) w.data.toNat, left := 0, endTag := e }
      else popTake i q k false s' (acc ++ bytesLE 4 w.data.toNat)

/-- A pop of `k` words served, or carried on (spec 06 R219, R581; spec 07 R268). -/
def servePop (s : State) (ep n i q k : Nat) (g : Ingress) : State :=
  let x := popTake i q (k - g.moved) (g.moved == 0) s g.part
  if x.waits then setIn x.st ep n (some { g with busy := true, moved := k - x.left, part := x.bytes })
  else if x.poison then answerC x.st ep n .eccUncorrected x.bytes 0 false
  else answerC x.st ep n .ok x.bytes x.endTag false

/-- A request held by its queue, or turned into a NACK when four are held (spec 06 R220). -/
def holdReq (s : State) (ep n i q : Nat) (g : Ingress) (pop : Bool) : State :=
  let c := getQ (getT s i) q
  if 4 ≤ c.held.length then
    let f : Flit := { net := .rsp, dst := g.req.src, src := BitVec.ofNat 11 ep, op := 2, tag := g.req.tag
                      status := BitVec.ofNat 8 (statusCode .busyRetry) }
    devCount (pushOut (setIn s ep n none) ep f) 0
  else setIn (setQ s i q { c with held := c.held ++ [⟨pop, ep, n⟩] }) ep n (some { g with held := true })

/-- QUEUE_POP (spec 06 R214, R219, R220): served, held, or carried on after a row move (R581). DEDUCED (assumption log 28). -/
def opQueuePop (ep : Fin 2048) (n : Fin 32) (s : State) : State :=
  match served s ep n with
  | some (g, .port i q off, _) =>
    if reqWrite g.req || decide (64 ≤ off) then s else
    let k := reqLen g.req / 4
    if g.busy then servePop s ep n i q k g
    else if popLocked s i q then s
    else if popReady s i q k false && !(getQ (getT s i) q).held.any (fun h => h.pop) then servePop s ep n i q k g
    else holdReq s ep n i q g true
  | _ => s

/-- The first held request of a kind, and the queue without it. -/
def takeHeld (c : BQueue) (pop : Bool) : Option (Held × BQueue) :=
  match c.held.find? (fun h => h.pop == pop) with
  | some h => some (h, { c with held := c.held.filter (fun x => !(decide (x = h))) })
  | none => none

/-- POP_SERVE: the oldest held pop is served (spec 06 R219); `waited` says that its POP_WAIT cycles have passed.
DEDUCED (assumption log 28). -/
def opPopServe (i : TileIx) (q : Fin 4) (waited : Bool) (s : State) : State :=
  match takeHeld (getQ (getT s i) q) true with
  | none => s
  | some (h, c) => match getIn s h.ep h.entry with
    | none => s
    | some g =>
      if (fieldRuns s (tileField i)) && popReady s i q (reqLen g.req / 4) waited && !popLocked s i q then
        servePop (setIn (setQ s i q c) h.ep h.entry (some { g with held := false })) h.ep h.entry i q (reqLen g.req / 4)
          { g with held := false }
      else s

/-- A grant under the formula of R217, or none where it would be 0. -/
def grantOf (t : Tile) (q : Nat) : Option Nat :=
  let c := getQ t q
  let g := min 16 (qCap t q - qDepth c - c.credited)
  if g = 0 then none else some g

/-- A credit request granted (spec 06 R217). -/
def giveGrant (s : State) (ep n i q g : Nat) : State :=
  let c := getQ (getT s i) q
  answer (setQ s i q { c with credited := c.credited + g }) ep n .ok (bytesLE 8 g)

/-- CREDIT_REQUEST (spec 06 R217, R220). -/
def opCreditRequest (ep : Fin 2048) (n : Fin 32) (s : State) : State :=
  match served s ep n with
  | some (g, .port i q off, _) =>
    if reqWrite g.req || off != 0x40 then s else
    match grantOf (getT s i) q with
    | some k => if (getQ (getT s i) q).held.any (fun h => !h.pop) then holdReq s ep n i q g false else giveGrant s ep n i q k
    | none => holdReq s ep n i q g false
  | _ => s

/-- CREDIT_GRANT_HELD: the oldest held credit request is granted (spec 06 R217). -/
def opCreditGrantHeld (i : TileIx) (q : Fin 4) (s : State) : State :=
  match takeHeld (getQ (getT s i) q) false, grantOf (getT s i) q with
  | some (h, c), some k =>
    if fieldRuns s (tileField i) then giveGrant (setQ s i q c) h.ep h.entry i q k else s
  | _, _ => s

/-! ### The meanings of the commands of this file -/

/-- XY_NETWORK_ACCESS (spec 03 R101). -/
def execXyNetworkAccess (ep : Fin 2048) (n : Fin 32) (s : State) : Host.Outcome State Fault Refusal := .next (opXyAccess ep n s)
/-- BANK_READ (spec 06 R198). -/
def execBankRead (ep : Fin 2048) (n : Fin 32) (s : State) : Host.Outcome State Fault Refusal := .next (opBankRead ep n s)
/-- BANK_WRITE (spec 06 R198). -/
def execBankWrite (ep : Fin 2048) (n : Fin 32) (sameCycle : Bool) (s : State) : Host.Outcome State Fault Refusal :=
  .next (opBankWrite ep n sameCycle s)
/-- CREDITED_PUSH (spec 06 R218). -/
def execCreditedPush (ep : Fin 2048) (n : Fin 32) (s : State) : Host.Outcome State Fault Refusal := .next (opCreditedPush ep n s)
/-- UNCREDITED_PUSH (spec 06 R218). -/
def execUncreditedPush (ep : Fin 2048) (n : Fin 32) (s : State) : Host.Outcome State Fault Refusal := .next (opUncreditedPush ep n s)
/-- QUEUE_POP (spec 06 R219). -/
def execQueuePop (ep : Fin 2048) (n : Fin 32) (s : State) : Host.Outcome State Fault Refusal := .next (opQueuePop ep n s)
/-- POP_SERVE (spec 06 R219). -/
def execPopServe (t : TileIx) (q : Fin 4) (waited : Bool) (s : State) : Host.Outcome State Fault Refusal :=
  .next (opPopServe t q waited s)
/-- CREDIT_REQUEST (spec 06 R217). -/
def execCreditRequest (ep : Fin 2048) (n : Fin 32) (s : State) : Host.Outcome State Fault Refusal := .next (opCreditRequest ep n s)
/-- CREDIT_GRANT_HELD (spec 06 R217). -/
def execCreditGrantHeld (t : TileIx) (q : Fin 4) (s : State) : Host.Outcome State Fault Refusal := .next (opCreditGrantHeld t q s)

end Sys2Proof.Machine
end

