-- ==== Sys2Proof/Machine/Router.lean ====
section
/-! DEFINITION. A router's cycle, bridges and injection (spec 07 R247 to R264). -/

namespace Sys2Proof.Machine

/-- Router coordinates and the router next to `r` on side `sd` (spec 07 R247); the torus closes over the edges. -/
def routerNext (r sd : Nat) : Nat :=
  let x := tileX r; let y := tileY r
  if sd = 0 then routerAt x ((y + 31) % 32) else if sd = 1 then routerAt ((x + 1) % 32) y
  else if sd = 2 then routerAt x ((y + 1) % 32) else routerAt ((x + 31) % 32) y

/-- Whether the link of router `r` on side `sd` passes a bridge (spec 07 R249), and whether it is a quarter seam (R261). Side 4 is the
engine bridge toward the router, side 5 the engine bridge from it to its engine port. -/
def linkBridge (r sd : Nat) : Bool := decide (4 ≤ sd) || decide (r / 16 ≠ routerNext r sd / 16)
def linkQuarter (r sd : Nat) : Bool := decide (sd < 4) && decide (r / 256 ≠ routerNext r sd / 256)

/-- The key of the link into router `r` on side `sd`. -/
def linkKey (n : Net) (r sd : Nat) : Nat := 8 * (1024 * netIx n + r) + sd
def getLink (s : State) (n : Net) (r sd : Nat) : Link := smGet {} s.links (linkKey n r sd)
def setLink (s : State) (n : Net) (r sd : Nat) (x : Link) : State :=
  { s with links := smSet {} s.links (linkKey n r sd) x }

/-- Flits in a link. -/
def linkOcc (x : Link) : Nat := x.crossing.length + x.ready.length

/-- The link that router `r` drives on side `sd`. -/
def outLink (s : State) (n : Net) (r sd : Nat) : Link := getLink s n (routerNext r sd) (oppSide sd)

/-- Whether a field's transit clock runs (spec 13 R496, R519). -/
def transitRuns (s : State) (f : Nat) : Bool := rdB s (A.PWR_STATUS f) F.PWR_STATUS_TRANSIT_CLK && !tripped s

/-- G of R260: device time bits 21 to 12. -/
def epochG (s : State) : Nat := nowNs s / 4096 % 1024

/-- A flit to place, with the input it came on: 0 to 3 the sides, 4 the engine bridge, 5 the patch port, 6 the mirror
agent's port. -/
structure InFlit where
  f : Flit
  inp : Nat
  deriving DecidableEq, Repr

/-- The rank of a flit: smaller goes first (spec 07 R260). DESIGN CHOICE (assumption log 86). -/
def rankOf (s : State) (x : InFlit) : Nat :=
  let f := x.f
  ((((255 - f.age.toNat) * 1024 + (f.src.toNat / 2 + 1024 - epochG s) % 1024) * 2 + f.src.toNat % 2) * 256
    + f.tag.toNat) * 8 + x.inp

/-- Sorted by rank. -/
def rankInsert (s : State) (x : InFlit) : List InFlit → List InFlit
  | [] => [x]
  | y :: ys => if rankOf s x ≤ rankOf s y then x :: y :: ys else y :: rankInsert s x ys
def rankSort (s : State) : List InFlit → List InFlit
  | [] => []
  | x :: xs => rankInsert s x (rankSort s xs)

/-- Flits in the engine bridge that leads to an endpoint (spec 07 R249). -/
def bridgeOcc (s : State) (ep : Nat) (n : Net) : Nat := if bridged ep then linkOcc (getLink s n (ep / 2) 5) else 0

/-- Lines that a patch port's mirror write buffer holds: pushes that have arrived, and lines being written (spec 07 R268, R275). -/
def pushesHeld (s : State) (ep : Nat) : Nat :=
  ((getEp s ep).inDat.filter (fun g => g.op == 2)).length
    + ((List.range 16).map (fun k => ((getT s (ep / 2 * 16 + k)).m.fills.filter (fun x => match x.owner with
        | .push _ _ => true
        | .refetch _ _ _ => false)).length)).sum

/-- Whether an endpoint accepts an arriving flit (spec 07 R266 to R268); one behind an engine bridge takes it through that bridge, of
four flits (R249). DEDUCED (assumption log 70). -/
def epAccepts (s : State) (ep : Nat) (f : Flit) : Bool :=
  let e := getEp s ep
  (!bridged ep || decide (bridgeOcc s ep f.net < 4)) &&
  (match f.net with
  | .req => decide (e.inReq.length + bridgeOcc s ep .req + ingressUsed e + e.nackq.length < ingressCap ep + 8)
  | .rsp => true
  | .snp => decide (e.inSnp.length < 16)
  | .dat => f.op != 2 || decide (pushesHeld s ep < 4))

/-- Whether a flit may eject at router `r`. -/
def canEject (s : State) (r : Nat) (f : Flit) : Bool := f.dst.toNat / 2 == r && epAccepts s f.dst.toNat f

/-- The productive links of a flit at router `r` (spec 07 R258). -/
def productive (r : Nat) (f : Flit) : List Nat :=
  let q := f.dst.toNat / 2
  let dx := (tileX q + 32 - tileX r) % 32
  let dy := (tileY q + 32 - tileY r) % 32
  (if dx = 0 then [] else if dx ≤ 16 then [1] else [3]) ++ (if dy = 0 then [] else if dy ≤ 16 then [2] else [0])

/-- The mandatory arrivals of R257, and the other bridge heads by rank. -/
def mustPlace (s : State) (n : Net) (r : Nat) : List InFlit :=
  [0, 1, 2, 3].filterMap (fun sd => match (getLink s n r sd).ready with
    | f :: _ => if !linkBridge r sd || decide (linkOcc (outLink s n r sd) ≤ 3) then some ⟨f, sd⟩ else none
    | [] => none)
def mayPlace (s : State) (n : Net) (r : Nat) : List InFlit :=
  rankSort s ([0, 1, 2, 3].filterMap (fun sd => match (getLink s n r sd).ready with
    | f :: _ => if linkBridge r sd && decide (3 < linkOcc (outLink s n r sd)) then some ⟨f, sd⟩ else none
    | [] => none))

/-- The output links available in this cycle (spec 07 R256). -/
def availLinks (s : State) (n : Net) (r : Nat) : List Nat :=
  [0, 1, 2, 3].filter (fun sd =>
    let o := linkOcc (outLink s n r sd)
    !linkBridge r sd || decide (o ≤ 2) || (o == 3 && decide ((getLink s n r sd).ready ≠ [])))

/-- Whether injection into router `r` is suppressed: another router of its field has signalled starvation (spec 07 R264). -/
def throttled (s : State) (n : Net) (r : Nat) : Bool := (smGet [] s.throttle (64 * netIx n + r / 16)).any (· != r)

/-- The flits that wait to enter at router `r`: the engine bridge, then the patch port, both of which a starving router of the field
holds back, then a mirror agent (spec 07 R259, R264). DESIGN CHOICE (assumption log 86). -/
def wantIn (s : State) (n : Net) (r : Nat) : List InFlit :=
  (if throttled s n r then [] else
    (match (getLink s n r 4).ready with | f :: _ => [⟨f, 4⟩] | [] => [])
    ++ (match smGet none (getEp s (2 * r)).present (netIx n) with | some f => [⟨f, 5⟩] | none => []))
  ++ (if engineKind (2 * r + 1) = 5 then
        (match smGet none (getEp s (2 * r + 1)).present (netIx n) with | some f => [⟨f, 6⟩] | none => []) else [])

/-- The flits to place, admitted in order while they stay feasible (spec 07 R259). -/
def admitAll (s : State) (r links : Nat) (S : List InFlit) : List InFlit → List InFlit
  | [] => S
  | f :: fs =>
    let T := S ++ [f]
    let room := if T.any (fun x => canEject s r x.f) then links + 1 else links
    admitAll s r links (if T.length ≤ room then T else S) fs

/-- Where a placed flit goes: ejected, or sent on a side, productive or not, and whether its endpoint was full. -/
inductive Placing where
  | eject
  | send (sd : Nat) (deflected full : Bool)
  deriving DecidableEq, Repr

/-- The first pass of R259: flits in rank order eject or take productive links; the rest are marked. -/
def placeFirst (s : State) (r : Nat) : List InFlit → Bool → List Nat → List (InFlit × Placing) × List InFlit × List Nat
  | [], _, L => ([], [], L)
  | x :: xs, ejected, L =>
    if canEject s r x.f && !ejected then
      let y := placeFirst s r xs true L
      ((x, .eject) :: y.1, y.2.1, y.2.2)
    else match (productive r x.f).find? (fun sd => L.contains sd) with
      | some sd =>
        let y := placeFirst s r xs ejected (L.erase sd)
        ((x, .send sd false false) :: y.1, y.2.1, y.2.2)
      | none =>
        let y := placeFirst s r xs ejected L
        (y.1, x :: y.2.1, y.2.2)

/-- The second pass: marked flits take the first free link. -/
def placeRest (s : State) (r : Nat) : List InFlit → List Nat → List (InFlit × Placing)
  | [], _ => []
  | x :: xs, L => match L with
    | sd :: L' => (x, .send sd true (x.f.dst.toNat / 2 == r && !epAccepts s x.f.dst.toNat x.f)) :: placeRest s r xs L'
    | [] => []

/-- A flit one router older (spec 07 R260), and whether it just reached AGE 255. -/
def older (f : Flit) (n : Nat) : Flit × Bool :=
  let a := min 255 (f.age.toNat + n)
  ({ f with age := BitVec.ofNat 8 a }, decide (f.age.toNat < 255 ∧ a = 255))

/-- The placed flit removed from where it waited. -/
def takeInput (s : State) (n : Net) (r : Nat) (inp : Nat) : State :=
  if inp ≤ 4 then
    let l := getLink s n r inp
    setLink s n r inp { l with ready := l.ready.drop 1 }
  else
    let ep := if inp = 5 then 2 * r else 2 * r + 1
    let e := getEp s ep
    netCount (setEp s ep { e with present := smSet none e.present (netIx n) none }) (netIx n) 0

/-- A flit ejected: to its endpoint, or into the engine bridge that leads to it (spec 07 R249). -/
def ejectFlit (s : State) (n : Net) (r : Nat) (f : Flit) : State :=
  if bridged f.dst.toNat then
    let l := getLink s n r 5
    setLink s n r 5 { l with crossing := l.crossing ++ [(f, 0)] }
  else pushIn s f.dst.toNat f

/-- One flit put where it was placed (spec 07 R256, R259, R260, R284). -/
def putFlit (n : Net) (r : Nat) (s : State) (x : InFlit × Placing) : State :=
  let s := takeInput s n r x.1.inp
  let o := older x.1.f 1
  let s := if o.2 then netCount s (netIx n) 2 else s
  match x.2 with
  | .eject => ejectFlit s n r o.1
  | .send sd defl full =>
    let s := if defl then netCount s (netIx n) 1 else s
    let s := if full then netCount s (netIx n) 5 else s
    let nb := routerNext r sd
    let l := getLink s n nb (oppSide sd)
    let s := if linkBridge r sd ∧ 3 ≤ linkOcc l then netCount s (netIx n) 4 else s
    if linkBridge r sd then setLink s n nb (oppSide sd) { l with crossing := l.crossing ++ [(o.1, 0)] }
    else setLink s n nb (oppSide sd) { l with ready := l.ready ++ [o.1] }

/-- The flits that stay in the bridge on side `sd` for this cycle of the receiving clock are older by it (spec 07 R260). -/
def ageBridge (n : Net) (r : Nat) (s : State) (sd : Nat) : State :=
  if !linkBridge r sd then s
  else
    let l := getLink s n r sd
    let aged := (l.ready ++ l.crossing.map Prod.fst).filter (fun f => (older f 1).2)
    let s := aged.foldl (fun s _ => netCount s (netIx n) 2) s
    if linkOcc l = 0 then s
    else setLink s n r sd { ready := l.ready.map (fun f => (older f 1).1), crossing := l.crossing.map (fun x => ((older x.1 1).1, x.2 + 1)) }

/-- ROUTER_CYCLE (spec 07 R256 to R260). -/
def opRouterCycle (n : Net) (r : Fin 1024) (s : State) : State :=
  if !transitRuns s (r.val / 16) then s else
  let L := availLinks s n r
  let S := admitAll s r L.length (mustPlace s n r) (mayPlace s n r ++ wantIn s n r)
  let a := placeFirst s r (rankSort s S) false L
  let s := (a.1 ++ placeRest s r a.2.1 a.2.2).foldl (putFlit n r) s
  [0, 1, 2, 3, 4].foldl (ageBridge n r) s

/-- NACKs that waited in the NACK queue enter the injection queue while it has room (spec 07 R264, R267). -/
def drainNack (s : State) (ep : Nat) : State :=
  let e := getEp s ep
  match e.nackq with
  | f :: rest => if e.outRsp.length < 4 then setEp s ep { e with nackq := rest, outRsp := e.outRsp ++ [f] } else s
  | [] => s

/-- FLIT_INJECTION: the head of an endpoint's injection queue is presented to its router, or written into its engine
bridge (spec 07 R249, R264); the router admits it in a cycle of its own. -/
def opFlitInjection (n : Net) (ep : Fin 2048) (s : State) : State :=
  let s := if n = .rsp then drainNack s ep else s
  let e := getEp s ep
  let r := ep.val / 2
  match epOut e n with
  | [] => s
  | f :: rest =>
    let f := { f with age := 0 }
    if bridged ep then
      let l := getLink s n r 4
      if 4 ≤ linkOcc l then s
      else netCount (setLink (setEp s ep (epSetOut e n rest)) n r 4 { l with crossing := l.crossing ++ [(f, 0)] }) (netIx n) 0
    else if (smGet none e.present (netIx n)).isSome then s
    else setEp s ep { epSetOut e n rest with present := smSet none e.present (netIx n) (some f) }

/-- STARVATION: the head of an injection queue has waited; the other routers of its field stop admitting (spec 07 R264). Each signal
lasts for its own time. -/
def opStarvation (n : Net) (ep : Fin 2048) (s : State) : State :=
  let e := getEp s ep
  if (smGet none e.present (netIx n)).isSome || decide (epOut e n ≠ []) then
    let k := 64 * netIx n + epField ep
    netCount { s with throttle := smSet [] s.throttle k (smGet [] s.throttle k ++ [ep.val / 2]) } (netIx n) 3
  else s

/-- THROTTLE_END: the oldest signal of a field's network has lasted THROTTLE cycles (spec 07 R264). -/
def opThrottleEnd (n : Net) (f : Fin 64) (s : State) : State :=
  let k := 64 * netIx n + f.val
  { s with throttle := smSet [] s.throttle k ((smGet [] s.throttle k).drop 1) }

/-- BRIDGE_CROSSING: a bridge's oldest flit becomes visible to the receiving router, older by the cycles that it spent there, at least
the crossing's own (spec 07 R260, R261); at side 5 the engine takes the oldest flit of its bridge.
DEDUCED (assumption log 70). -/
def opBridgeCrossing (n : Net) (r : Fin 1024) (side : Fin 6) (s : State) : State :=
  let l := getLink s n r side
  if !linkBridge r side || (if side = 5 then s.asleep else !transitRuns s (r.val / 16)) then s else
  match l.crossing with
  | [] => s
  | (f, spent) :: rest =>
    if side = 5 then pushIn (setLink s n r side { l with crossing := rest }) f.dst.toNat f
    else
      let o := older f ((if side = 4 then 0 else if linkQuarter r side then 4 else 2) - spent)
      let s := if o.2 then netCount s (netIx n) 2 else s
      setLink s n r side { l with crossing := rest, ready := l.ready ++ [o.1] }

/-- Whether a field's routers, links, bridges and endpoints hold a flit to move (spec 07 R263). -/
def transitWork (s : State) (f : Nat) : Bool :=
  s.links.any (fun x => x.1 / 8 % 1024 / 16 == f && x.1 % 8 != 5 && decide (0 < linkOcc x.2))
    || s.eps.any (fun x => epField x.1 == f && (x.2.present ≠ []
        || ((x.1 % 2 = 0 || engineKind x.1 = 5) && (x.2.outReq ≠ [] || x.2.outRsp ≠ [] || x.2.outSnp ≠ [] || x.2.outDat ≠ []))))

/-! ### Requests admitted at an endpoint -/

/-- The UNIT and source of a report by an endpoint: device (spec 14 R523). -/
def reportNet (s : State) (code : Nat) (det : List Byte) : State := report s 203 (unitDev s) code det

/-- A request or flit with a reserved opcode (spec 07 R254). -/
def malformed (s : State) : State := reportNet (devCount s 5) 0x301 []

/-- A response whose tag names no reserved slot (spec 07 R266). -/
def strayResponse (s : State) : State := reportNet (devCount s 3) 0x302 []

/-- A NACK from endpoint `ep` (spec 07 R251, R267). -/
def nackOf (ep : Nat) (f : Flit) : Flit :=
  { net := .rsp, dst := f.src, src := BitVec.ofNat 11 ep, op := 2, tag := f.tag, status := BitVec.ofNat 8 (statusCode .busyRetry) }

/-- A denial answered (spec 07 R267; spec 09 R340, R347). -/
def refuseReq (s : State) (ep n : Nat) (g : Ingress) (p : Place) (code table : Nat) (st : Status) : State :=
  let perm := refusedPerm s (reqKey g.req) (needsOf p (reqWrite g.req)) table
  answer (denyWith s (reqKey g.req) g.remote false (unitPlace s p) g.req.addr.toNat perm table code) ep n st []

/-- How the target field's state treats a request (spec 07 R272): `none` it goes on, otherwise DOMAIN_DOWN. -/
def fieldRefuses (s : State) (f : Nat) (g : Ingress) : Bool :=
  let st := pwrState s f
  st == 2 || ((st == 3 || st == 4) && !privileged s (reqKey g.req) g.remote)
    || ((st == 5 || st == 6) && !rdB s (A.PWR_CTL f) F.PWR_CTL_POLICY)

/-- Whether a write waits for the WEN step: until it, a write to tile space, a tile register or a queue port page from a master other
than the loader and the warden completes with DOMAIN_DOWN; frame writes are not affected (spec 12 R466). -/
def wenBlocks (s : State) (p : Place) (g : Ingress) : Bool :=
  !s.boot.wen && reqWrite g.req && !isWarden s (reqKey g.req) && !(g.req.mst == 0x2000 && !g.remote)
    && (match p with
        | .bank _ _ => true | .xy _ _ => true | .reg _ _ => true | .port _ _ _ => true
        | .hole _ => true | .frame _ _ => false | .setup _ => false | .window _ _ => false | .unassigned => false)

/-- Whether a set-up write that arrived over tether is refused whatever the table holds (spec 10 R383). -/
def setupRemoteWrite (s : State) (p : Place) (g : Ingress) : Bool :=
  match p with
  | .setup _ => g.remote && reqWrite g.req && !(isWarden s (reqKey g.req))
  | _ => false

/-- The GO of a checked write of more than 8 bytes (spec 07 R269). -/
def sendGo (s : State) (ep n : Nat) (f : Flit) : State :=
  pushOut s ep { net := .rsp, dst := f.src, src := BitVec.ofNat 11 ep, op := 1, tag := f.tag, entry := BitVec.ofNat 5 n }

/-- An access to a host window takes its place in the order of receipt (spec 08 R294). -/
def receiveWindow (s : State) (p : Place) (g : Ingress) : State × Ingress :=
  match p with
  | .window _ _ => ({ s with host := { s.host with received := s.host.received + 1 } }, { g with seq := s.host.received })
  | _ => (s, g)

/-- The checks of a request in an ingress entry (spec 07 R267, R269, R272; spec 09 R337, R338, R347): refused and
answered, or marked checked, with GO where its data are still to come, and a wake request where its field sleeps. A field's
DOMAIN_DOWN comes before BAD_ADDRESS. DESIGN CHOICE (assumption log 71). -/
def admitCheck (s : State) (ep n : Nat) : State :=
  match getIn s ep n with
  | none => s
  | some g =>
    let p := placeOf s g.req.addr.toNat
    let k := reqKey g.req
    let met := preCheck s k g.remote == none && needsOf p (reqWrite g.req) != []
    let y := receiveWindow s p { g with req := { g.req with tabled := met, sealed := false } }
    let g := y.2
    let s := setIn y.1 ep n (some g)
    if setupRemoteWrite s p g && preCheck s k g.remote == none then refuseReq s ep n g p 0x610 86 .denied
    else match decideAccess s k g.remote (needsOf p (reqWrite g.req)) with
    | .refuse code table => refuseReq s ep n g p code table .denied
    | .grant =>
      if !ownerOk s p k then
        refuseReq s ep n g p 0x611 ((placeTile p).elim 255 tileField) .notOwner
      else if wenBlocks s p g || (match placeTile p with | some t => fieldRefuses s (tileField t) g | none => false) then
        answerDown s ep n
      else
        let rule := placeRule s p g.req g.remote
        if rule ≠ .ok then answer s ep n rule []
        else
          let big := reqWrite g.req && g.wdata.isNone
          let s := setIn s ep n (some { g with checked := true, go := big })
          let s := if big then sendGo s ep n g.req else s
          match placeTile p with
          | some t => wakeReq s (tileField t)
          | none => s

/-- A REQ that finds no ingress entry: its header waits in the NACK queue (spec 07 R267). -/
def nackReq (s : State) (ep : Nat) (f : Flit) : State :=
  let e := getEp s ep
  drainNack (devCount (setEp s ep { e with nackq := e.nackq ++ [nackOf ep f] }) 0) ep

/-- REQ_ADMIT: the first arrived REQ of an endpoint enters the ingress and is checked, or is NACKed (spec 07 R254, R267). The first 32
requests that have arrived at a gateway are its ingress, from which GATEWAY_SEND takes them; one beyond them is NACKed.
DEDUCED (assumption log 70). -/
def opReqAdmit (ep : Fin 2048) (s : State) : State :=
  if (gatewayOf ep).isSome then
    let e := getEp s ep
    match e.inReq.drop 32 with
    | [] => s
    | f :: rest => nackReq (setEp s ep { e with inReq := e.inReq.take 32 ++ rest }) ep f
  else
  match (getEp s ep).inReq with
  | [] => s
  | f :: _ =>
    let s := popIn s ep .req
    if 2 ≤ f.op.toNat then respond (malformed s) ep f .badAddress [] 0 0 false
    else
      let e := getEp s ep
      match ingressFree e ep with
      | none => nackReq s ep f
      | some n =>
        let len := reqLen f
        let wd := if reqWrite f then (if len ≤ 8 then some (bytesLE len f.data.toNat) else none) else some []
        let remote := (gatewayOf f.src.toNat).isSome
        admitCheck (setIn s ep n (some { req := f, wdata := wd, remote := remote })) ep n

/-- The first arrived flit of a network that satisfies `p`, and the endpoint without it. -/
def takeFirst (s : State) (ep : Nat) (n : Net) (p : Flit → Bool) : Option (Flit × State) :=
  let e := getEp s ep
  match (epIn e n).find? p with
  | some f => some (f, setEp s ep (epSetIn e n ((epIn e n).erase f)))
  | none => none

/-- WDATA_ARRIVAL: the data of a write that has had GO; data for an entry that no longer waits, or that another requester's write has
taken since, are discarded (spec 07 R268, R269, R272). -/
def opWdataArrival (ep : Fin 2048) (s : State) : State :=
  if (gatewayOf ep).isSome then s else
  match takeFirst s ep .dat (fun f => f.op == 1) with
  | none => s
  | some (f, s') =>
    match getIn s' ep f.entry.toNat with
    | some g =>
      if g.go && g.wdata.isNone && g.req.src == f.src && g.req.tag == f.tag then
        setIn s' ep f.entry.toNat (some { g with wdata := some (bytesLE f.count.toNat f.data.toNat) })
      else s'
    | none => s'

/-! ### The meanings of the commands of this file -/

/-- ROUTER_CYCLE (spec 07 R259). -/
def execRouterCycle (net : Net) (r : Fin 1024) (s : State) : Host.Outcome State Fault Refusal := .next (opRouterCycle net r s)
/-- FLIT_INJECTION (spec 07 R264). -/
def execFlitInjection (net : Net) (ep : Fin 2048) (s : State) : Host.Outcome State Fault Refusal := .next (atEndpoint ep (opFlitInjection net ep) s)
/-- STARVATION (spec 07 R264). -/
def execStarvation (net : Net) (ep : Fin 2048) (s : State) : Host.Outcome State Fault Refusal := .next (opStarvation net ep s)
/-- THROTTLE_END (spec 07 R264). -/
def execThrottleEnd (net : Net) (f : Fin 64) (s : State) : Host.Outcome State Fault Refusal := .next (opThrottleEnd net f s)
/-- BRIDGE_CROSSING (spec 07 R261). -/
def execBridgeCrossing (net : Net) (r : Fin 1024) (side : Fin 6) (s : State) : Host.Outcome State Fault Refusal :=
  .next (opBridgeCrossing net r side s)
/-- REQ_ADMIT (spec 07 R267). -/
def execReqAdmit (ep : Fin 2048) (s : State) : Host.Outcome State Fault Refusal := .next (atEndpoint ep (opReqAdmit ep) s)
/-- WDATA_ARRIVAL (spec 07 R269). -/
def execWdataArrival (ep : Fin 2048) (s : State) : Host.Outcome State Fault Refusal := .next (atEndpoint ep (opWdataArrival ep) s)

end Sys2Proof.Machine
end

