-- ==== Sys2Proof/Machine/Packets.lean ====
section
/-! DEFINITION. Tether packets: the bits of a flit, headers and their CRC, the route of a packet that starts here, and the
queues of a port (spec 07 R250 to R253; spec 10 R359 to R370). -/

namespace Sys2Proof.Machine

/-- Fields of given widths put side by side, the first one highest. -/
def packFields (fs : List (Nat × Nat)) : Nat := fs.foldl (fun a x => a * 2 ^ x.1 + x.2 % 2 ^ x.1) 0

/-- The bits of a flit (spec 07 R250 to R253). -/
def flitBits (f : Flit) : Nat :=
  match f.net with
  | .req => packFields [(11, f.dst.toNat), (11, f.src.toNat), (8, f.age.toNat), (4, f.op.toNat), (8, f.tag.toNat),
      (16, f.dev.toNat), (16, f.mst.toNat), (48, f.addr.toNat), (6, f.len.toNat), (64, f.data.toNat)]
  | .rsp => packFields [(11, f.dst.toNat), (11, f.src.toNat), (8, f.age.toNat), (4, f.op.toNat), (8, f.tag.toNat),
      (8, f.status.toNat), (1, b2n f.conflict), (5, f.entry.toNat), (4, f.count.toNat), (3, f.endTag.toNat), (1, 0),
      (64, f.data.toNat)]
  | .snp => packFields [(11, f.dst.toNat), (11, f.src.toNat), (8, f.age.toNat), (4, f.op.toNat), (8, f.tag.toNat),
      (8, f.mirror.toNat), (7, f.line.toNat), (16, f.epoch.toNat), (23, 0)]
  | .dat =>
    let head := [(11, f.dst.toNat), (11, f.src.toNat), (8, f.age.toNat), (4, f.op.toNat), (8, f.tag.toNat)]
    if f.op = 2 then packFields (head ++ [(4, f.tile.toNat), (6, f.line.toNat), (8, f.mirror.toNat), (4, 0), (512, f.data.toNat)])
    else packFields (head ++ [(5, f.entry.toNat), (7, f.count.toNat), (3, f.endTag.toNat), (1, b2n f.conflict), (6, 0),
      (512, f.data.toNat)])

/-- The flit that bits spell on a network (spec 07 R250 to R253). -/
def bitsFlit (n : Net) (v : Nat) : Flit :=
  match n with
  | .req => { net := .req, dst := BitVec.ofNat 11 (bitsOf v 191 181), src := BitVec.ofNat 11 (bitsOf v 180 170)
              age := BitVec.ofNat 8 (bitsOf v 169 162), op := BitVec.ofNat 4 (bitsOf v 161 158)
              tag := BitVec.ofNat 8 (bitsOf v 157 150), dev := BitVec.ofNat 16 (bitsOf v 149 134)
              mst := BitVec.ofNat 16 (bitsOf v 133 118), addr := BitVec.ofNat 48 (bitsOf v 117 70)
              len := BitVec.ofNat 6 (bitsOf v 69 64), data := BitVec.ofNat 512 (bitsOf v 63 0) }
  | .rsp => { net := .rsp, dst := BitVec.ofNat 11 (bitsOf v 127 117), src := BitVec.ofNat 11 (bitsOf v 116 106)
              age := BitVec.ofNat 8 (bitsOf v 105 98), op := BitVec.ofNat 4 (bitsOf v 97 94)
              tag := BitVec.ofNat 8 (bitsOf v 93 86), status := BitVec.ofNat 8 (bitsOf v 85 78)
              conflict := bit v 77, entry := BitVec.ofNat 5 (bitsOf v 76 72), count := BitVec.ofNat 7 (bitsOf v 71 68)
              endTag := BitVec.ofNat 3 (bitsOf v 67 65), data := BitVec.ofNat 512 (bitsOf v 63 0) }
  | .snp => { net := .snp, dst := BitVec.ofNat 11 (bitsOf v 95 85), src := BitVec.ofNat 11 (bitsOf v 84 74)
              age := BitVec.ofNat 8 (bitsOf v 73 66), op := BitVec.ofNat 4 (bitsOf v 65 62)
              tag := BitVec.ofNat 8 (bitsOf v 61 54), mirror := BitVec.ofNat 8 (bitsOf v 53 46)
              line := BitVec.ofNat 7 (bitsOf v 45 39), epoch := BitVec.ofNat 16 (bitsOf v 38 23) }
  | .dat =>
    let f : Flit := { net := .dat, dst := BitVec.ofNat 11 (bitsOf v 575 565), src := BitVec.ofNat 11 (bitsOf v 564 554)
                      age := BitVec.ofNat 8 (bitsOf v 553 546), op := BitVec.ofNat 4 (bitsOf v 545 542)
                      tag := BitVec.ofNat 8 (bitsOf v 541 534), data := BitVec.ofNat 512 (bitsOf v 511 0) }
    if f.op = 2 then { f with tile := BitVec.ofNat 4 (bitsOf v 533 530), line := BitVec.ofNat 7 (bitsOf v 529 524)
                              mirror := BitVec.ofNat 8 (bitsOf v 523 516) }
    else { f with entry := BitVec.ofNat 5 (bitsOf v 533 529), count := BitVec.ofNat 7 (bitsOf v 528 522)
                  endTag := BitVec.ofNat 3 (bitsOf v 521 519), conflict := bit v 518 }

/-- The class of a code (spec 10 R359). -/
def netOf (c : Nat) : Net := if c = 0 then .req else if c = 1 then .rsp else if c = 2 then .snp else .dat
/-- Payload blocks of a class (spec 10 R360). -/
def classBlocks : Net → Nat
  | .req => 3 | .rsp => 2 | .snp => 2 | .dat => 9
/-- Credits of a buffer of a class (spec 10 R360). -/
def classCredits : Net → Nat
  | .req => 64 | .rsp => 64 | .snp => 32 | .dat => 192

/-- Payload blocks of a control packet type (spec 10 R361); of a reserved one, for which the spec gives no length, one.
DESIGN CHOICE (assumption log 69). -/
def ctypeBlocks (t : Nat) : Nat := if t = 2 then 2 else if t = 6 then 9 else 1

/-- 64-bit blocks from bit 0 upward. -/
def toBlocks : Nat → Nat → List (BitVec 64)
  | 0, _ => []
  | n + 1, v => BitVec.ofNat 64 v :: toBlocks n (v / 2 ^ 64)
/-- The number that blocks spell. -/
def ofBlocks : List (BitVec 64) → Nat
  | [] => 0
  | b :: bs => b.toNat + 2 ^ 64 * ofBlocks bs

/-- The header of a packet without its HCRC (spec 10 R359). -/
def headerBits (p : Packet) : Nat :=
  packFields [(16, p.dstDev.toNat), (16, p.srcDev.toNat), (1, b2n p.ctl), (2, netIx p.cls), (1, b2n p.vc),
    (4, p.ctype.toNat), (8, p.hops.toNat), (3, p.crBuf.toNat), (5, p.crCount.toNat)]

/-- HCRC of a header (spec 10 R359). -/
def headerCrc (p : Packet) : BitVec 8 :=
  let v := headerBits p
  BitVec.ofNat 8 (crcBytes 8 0x07 0 ((List.range 7).map (fun k => BitVec.ofNat 8 (v / 2 ^ (48 - 8 * k)))))

/-- Whether a packet has the payload blocks that its header announces (spec 10 R359 to R361). -/
def packetShape (p : Packet) : Bool := p.payload.length == (if p.ctl then ctypeBlocks p.ctype.toNat else classBlocks p.cls)

/-- CRC-32C (RFC 3720; spec 10 R359). -/
def crc32c (bs : List Byte) : Nat :=
  let step := fun (c : Nat) (b : Bool) => if (bit c 0) != b then Nat.xor (c / 2) 0x82F63B78 else c / 2
  Nat.xor 0xFFFFFFFF (bs.foldl (fun c x => (List.range 8).foldl (fun c i => step c (bit x.toNat i)) c) 0xFFFFFFFF)

/-- The trailer of a packet (spec 10 R359). -/
def packetTrailer (p : Packet) : BitVec 64 :=
  let head := headerBits p * 256 + p.hcrc.toNat
  BitVec.ofNat 64 (crc32c (bytesLE 8 head ++ p.payload.flatMap (fun b => bytesLE 8 b.toNat)) * 2 ^ 32)

/-- A packet with its HCRC and trailer in place. -/
def sealPacket (p : Packet) : Packet :=
  let p := { p with hcrc := headerCrc p }
  { p with trailer := packetTrailer p }

/-- The packet of a flit (spec 10 R360, R372). -/
def flitPacket (dst src : BitVec 16) (f : Flit) (vc : Bool) : Packet where
  dstDev := dst
  srcDev := src
  ctl := false
  cls := f.net
  vc := vc
  ctype := 0
  hops := 0
  crBuf := 0
  crCount := 0
  hcrc := 0
  payload := toBlocks (classBlocks f.net) (flitBits f)
  trailer := 0

/-- A control packet (spec 10 R361). -/
def ctlPacket (dst src : BitVec 16) (cls : Net) (vc : Bool) (ty : Nat) (payload : List (BitVec 64)) : Packet where
  dstDev := dst
  srcDev := src
  ctl := true
  cls := cls
  vc := vc
  ctype := BitVec.ofNat 4 ty
  hops := 0
  crBuf := 0
  crCount := 0
  hcrc := 0
  payload := payload
  trailer := 0

/-- What a port holds, and its update. -/
def getP (s : State) (p : Nat) : PortSt := smGet {} s.ports p
def setP (s : State) (p : Nat) (x : PortSt) : State := { s with ports := smSet {} s.ports p x }

/-- The key of a buffer: class and virtual channel (spec 10 R359). -/
def bufKey (c : Net) (vc : Bool) : Nat := 2 * netIx c + b2n vc

/-- Whether the hop out of port `p` from coordinate `c` in a dimension of size `n` crosses the dateline (spec 10 R366). -/
def dateline (s : State) (p : Nat) : Bool :=
  let d := p / 2
  let c := fabCoord s d (devId s).toNat
  if p % 2 = 0 then c + 1 == fabSize s d else c == 0

/-- A packet of this device put behind the others that wait at port `p`. -/
def queueOut (s : State) (p : Nat) (k : Packet) : State :=
  let x := getP s p
  let key := bufKey k.cls k.vc
  setP s p { x with out := smSet [] x.out key (smGet [] x.out key ++ [k]) }

/-- A packet that cannot be forwarded or sent (spec 10 R370): counted and reported. DEDUCED (assumption log 36). -/
def unreachable (s : State) : State := report (bump s A.FAB_ERR_CNT F.FAB_ERR_CNT_UNREACHABLE 1) 203 (unitDev s) 0x410 []

/-- Send a flit to another device along the route of R363; where no port serves, it is discarded (spec 10 R370, R384). -/
def sendFabric (s : State) (dev : BitVec 16) (f : Flit) : State :=
  if !rdB s A.FAB_COORD F.FAB_COORD_VALID then s
  else match firstHop s dev.toNat with
    | some p => queueOut s p (flitPacket dev (devId s) f (dateline s p))
    | none => unreachable s

/-- Send a routed control packet (spec 10 R361); `false` where no port serves. -/
def sendCtl (s : State) (dev : BitVec 16) (cls : Net) (ty : Nat) (payload : List (BitVec 64)) : State × Bool :=
  match firstHop s dev.toNat with
  | some p => (queueOut s p (ctlPacket dev (devId s) cls (dateline s p) ty payload), true)
  | none => (s, false)

/-- The DONE with which the tree root answers a TRAIN flit (spec 10 R377). -/
def answerTrain (s : State) (dst : BitVec 11) (tag : BitVec 8) (dev : BitVec 16) (port : Nat) (st : Status) (bits count : Nat) : State :=
  sendFabric s dev { net := .rsp, dst := dst, src := BitVec.ofNat 11 (gatewayPort port), tag := tag
                     status := BitVec.ofNat 8 (statusCode st), count := BitVec.ofNat 7 count, data := BitVec.ofNat 512 bits }

/-! ### Transit -/

/-- Whether a port carries packets of routed traffic, or hairpin traffic: UP or HAIRPIN (spec 10 R396). -/
def portLive (s : State) (p : Nat) : Bool := let st := rd s (A.PORT_STATUS p) F.PORT_STATUS_STATE; st == 1 || st == 2

/-- The port on which a packet that arrived on port `p` goes on: straight on while its coordinate in the current dimension
differs, otherwise into the next dimension that differs (spec 10 R364, R365); none where that port is not UP. -/
def transitHop (s : State) (p : Nat) (k : Packet) : Option Nat :=
  let own := (devId s).toNat
  let d := p / 2
  if fabCoord s d own ≠ fabCoord s d k.dstDev.toNat then
    let q := if p % 2 = 0 then p + 1 else p - 1
    if portUp s q then some q else none
  else firstHop s k.dstDev.toNat

/-- The virtual channel on which a packet leaves by port `q` after arriving on port `p` (spec 10 R366). -/
def transitVc (s : State) (p q : Nat) (k : Packet) : Bool := (p / 2 == q / 2 && k.vc) || dateline s q

/-- Whether a buffer of some other port holds a packet that goes on by port `q`. -/
def transitFor (s : State) (q : Nat) : Bool :=
  (List.range 6).any (fun p => (getP s p).buf.any (fun b => match b.2 with
    | k :: _ => transitHop s p k == some q
    | [] => false))

end Sys2Proof.Machine
end

