-- ==== Sys2Proof/Machine/RingCore.lean ====
section
/-! DEFINITION. What the ring engine's commands share: the functions that own rings, posted writes to host memory, the
shadow, descriptors and their completions, ring faults (spec 08 R290, R293 to R302, R307, R321, R326). -/

namespace Sys2Proof.Machine

/-- A ring beside its registers. -/
def getRing (s : State) (r : Nat) : RingSt := smGet {} s.host.rings r

/-- The rings that map `v` names, while it is enabled: its first ring and its count, which is at most 64 (spec 08 R290, R331). -/
def mapRange (s : State) (v : Nat) : Nat × Nat :=
  if rdB s (A.HIF_FUNC_MAP v) F.HIF_FUNC_MAP_EN then
    (rd s (A.HIF_FUNC_MAP v) F.HIF_FUNC_MAP_RING_BASE, min 64 (rd s (A.HIF_FUNC_MAP v) F.HIF_FUNC_MAP_COUNT))
  else (0, 0)

/-- The virtual functions that are enabled (spec 08 R286, R330). -/
def vfCount (s : State) : Nat := rd s A.HIF_STATUS F.HIF_STATUS_VFS

/-- The function that owns ring `r`: 0 the physical function, v + 1 virtual function v + 1 (spec 08 R286, R290). -/
def ringFn (s : State) (r : Nat) : Nat :=
  match (List.range 64).find? (fun v => decide ((mapRange s v).1 ≤ r ∧ r < (mapRange s v).1 + (mapRange s v).2)) with
  | some v => v + 1
  | none => 0

/-- Sizes of a ring as powers of two, each held to 4 to 16 (spec 08 R295, R333). -/
def sqLog (s : State) (r : Nat) : Nat := max 4 (min 16 (rd s (A.RING_SIZE r) F.RING_SIZE_SQ_LOG2))
def cqLog (s : State) (r : Nat) : Nat := max 4 (min 16 (rd s (A.RING_SIZE r) F.RING_SIZE_CQ_LOG2))

/-- The state code of a ring: 0 OFF, 1 ON, 2 DRAINING, 3 ISOLATING (spec 08 R333). -/
def ringState (s : State) (r : Nat) : Nat := rd s (A.RING_STATUS r) F.RING_STATUS_STATE

/-- A byte range of a descriptor as a number (spec 08 R307). -/
def dField (d : Desc) (start n : Nat) : Nat := leAt d.bytes start n
def dOp (d : Desc) : Nat := dField d 0 1
def dFlags (d : Desc) : Nat := dField d 1 1
def dLen (d : Desc) : Nat := dField d 4 4
def dHaddr (d : Desc) : Nat := dField d 8 8
def dTarget (d : Desc) : Nat := dField d 16 8
/-- The device and the device-local address of a global TARGET (spec 01 R24). -/
def dDev (d : Desc) : BitVec 16 := BitVec.ofNat 16 (dTarget d / 2 ^ 48)
def dAddr (d : Desc) : Nat := dTarget d % 2 ^ 48
/-- Train word and PL of a TARGET in train form (spec 08 R307). -/
def dWord (d : Desc) : Nat := dField d 16 4
def dPl (d : Desc) : Nat := dField d 20 1 % 32

/-- Whether a descriptor is a registered wait (spec 08 R319). -/
def isWait (d : Desc) : Bool := dOp d == 0x0B && decide (1 ≤ d.stage)
/-- Whether a descriptor counts against its ring's limit (spec 08 R299, R319). -/
def inProgress (d : Desc) : Bool := d.started && !isWait d

/-- Whether the completion ring has room (spec 08 R322). -/
def cqRoom (s : State) (r : Nat) (x : RingSt) : Bool := decide ((x.cqProd - x.cqCons).toNat < 2 ^ cqLog s r)

/-- Replace what a ring holds, with the status fields that show it (spec 08 R322, R333). -/
def setRing (s : State) (r : Nat) (x : RingSt) : State :=
  let s := { s with host := { s.host with rings := smSet {} s.host.rings r x } }
  let s := wr s (A.RING_STATUS r) F.RING_STATUS_INFLIGHT (min 8 (x.descs.filter inProgress).length)
  wr s (A.RING_STATUS r) F.RING_STATUS_CQ_FULL (b2n (decide (x.out ≠ []) && !cqRoom s r x))

/-- Change a ring's state and the count of rings that are not OFF (spec 08 R299, R330). -/
def setRingState (s : State) (r st : Nat) : State :=
  let old := ringState s r
  let n := rd s A.HIF_STATUS F.HIF_STATUS_RINGS_ON
  let n := if old = 0 ∧ st ≠ 0 then n + 1 else if old ≠ 0 ∧ st = 0 then n - 1 else n
  wr (wr s A.HIF_STATUS F.HIF_STATUS_RINGS_ON n) (A.RING_STATUS r) F.RING_STATUS_STATE st

/-- Whether the PCIe link is up. -/
def linkUp (s : State) : Bool := rdB s A.HIF_STATUS F.HIF_STATUS_LINK_UP

/-- The pieces, address and length, of a transfer of `len` bytes of host memory: none is longer than `most` or crosses a 4 KiB
boundary (spec 08 R286, R313). The first argument bounds their number. -/
def hostPieces (most : Nat) : Nat → Nat → Nat → List (Nat × Nat)
  | 0, _, _ => []
  | n + 1, addr, len =>
    if len = 0 then []
    else
      let k := max 1 (min len (min most (4096 - addr % 4096)))
      (addr, k) :: hostPieces most n (addr + k) (len - k)

/-- A posted write to host memory (spec 08 R293, R294, R313), cut by the Maximum Payload Size and at 4 KiB host boundaries;
LINK_DOWN when the link is not up. The attributes asked for are set where the function enables them. -/
def hostWrite (s : State) (fn addr : Nat) (bytes : List Byte) (ns ro : Bool) : State × Status :=
  if !linkUp s then (s, .linkDown)
  else
    let ws := (hostPieces s.host.pcie.mps bytes.length addr bytes.length).map (fun p =>
      (⟨fn, p.1 % 2 ^ 64, sliceBytes bytes (p.1 - addr) p.2, ns && !s.host.noSnoopOff.contains fn,
        ro && !s.host.relaxedOff.contains fn, s.host.pcie.ecrc⟩ : HostWrite))
    ({ s with host := { s.host with writes := s.host.writes ++ ws } }, .ok)

/-- A read of host memory goes out, cut by the Maximum Read Request Size and at 4 KiB host boundaries (spec 08 R286, R292, R295,
R333); its outcome is the operand of the command that sends it. DEDUCED (assumption log 75). -/
def hostAsk (s : State) (fn addr len : Nat) (ns : Bool) : State :=
  if !linkUp s then s
  else
    let qs := (hostPieces s.host.pcie.mrrs len addr len).map (fun p =>
      (⟨fn, p.1 % 2 ^ 64, p.2, ns && !s.host.noSnoopOff.contains fn, s.host.pcie.ecrc⟩ : HostAsk))
    { s with host := { s.host with asks := s.host.asks ++ qs } }

/-- What a failure at the host completes with (spec 08 R293). -/
def hostFailStatus : HostFail → Status
  | .unsupported => .badAddress
  | .abort => .badAddress
  | .timeout => .timeout
  | .poison => .eccUncorrected

/-- A data write of a ring's descriptor, with the attributes of its CTL (spec 08 R286, R333). -/
def dataWrite (s : State) (r addr : Nat) (bytes : List Byte) : State × Status :=
  hostWrite s (ringFn s r) addr bytes (rdB s (A.RING_CTL r) F.RING_CTL_NO_SNOOP) (rdB s (A.RING_CTL r) F.RING_CTL_RELAXED)

/-- A data read of a ring's descriptor, with the No Snoop of its CTL (spec 08 R333). DEDUCED (assumption log 75). -/
def dataAsk (s : State) (r addr len : Nat) : State :=
  hostAsk s (ringFn s r) addr len (rdB s (A.RING_CTL r) F.RING_CTL_NO_SNOOP)

/-- The shadow of a ring (spec 08 R297). -/
def shadowBytes (s : State) (r : Nat) : List Byte :=
  let x := getRing s r
  bytesLE 4 (rd s (A.RING_STATUS r) F.RING_STATUS_SQ_CONS) ++ bytesLE 4 x.cqProd.toNat
    ++ bytesLE 2 (rd s (A.RING_CTL r) F.RING_CTL_GEN) ++ bytesLE 1 x.poll
    ++ bytesLE 1 (rd s (A.RING_STATUS r) F.RING_STATUS_ERR) ++ bytesLE 4 0 ++ bytesLE 8 (nowNs s) ++ List.replicate 40 0

/-- The doorbell record's address. -/
def dbAddr (s : State) (r : Nat) : Nat := rd s (A.RING_DB_ADDR r) F.RING_DB_ADDR_ADDR * 128

/-- The doorbell record is read, 64 bytes, without No Snoop (spec 08 R295, R296). -/
def askDoorbell (s : State) (r : Nat) : State := hostAsk s (ringFn s r) (dbAddr s r) 64 false

/-- The address of descriptor `n` of ring `r` (spec 08 R295, R296). -/
def descAddr (s : State) (r n : Nat) : Nat := rd s (A.RING_SQ_BASE r) F.RING_SQ_BASE_ADDR * 4096 + 64 * (n % 2 ^ sqLog s r)

/-- One shadow write (spec 08 R297). -/
def shadowWrite (s : State) (r : Nat) : State × Status :=
  hostWrite s (ringFn s r) (dbAddr s r + 64) (shadowBytes s r) false false

/-- A failure at offset `off`: the lowest one counts (spec 08 R314). -/
def noteFail (d : Desc) (off : Nat) (st : Status) : Desc :=
  match d.fail with
  | some (o, _) => if off < o then { d with fail := some (off, st) } else d
  | none => { d with fail := some (off, st) }

/-- The offset of piece `k` of a transfer and its length: pieces end at the 64-byte boundaries of TARGET (spec 08 R314). -/
def pieceOff (d : Desc) (k : Nat) : Nat := if k = 0 then 0 else 64 * k - dAddr d % 64
def pieceLen (d : Desc) (k : Nat) : Nat := min (pieceOff d (k + 1)) (dLen d) - pieceOff d k

/-- Replace one descriptor of a ring. -/
def updDesc (x : RingSt) (id : Nat) (f : Desc → Desc) : RingSt :=
  { x with descs := x.descs.map (fun d => if d.id = id then f d else d) }
/-- Take one descriptor off a ring. -/
def dropDesc (x : RingSt) (id : Nat) : RingSt := { x with descs := x.descs.filter (fun d => decide (d.id ≠ id)) }
/-- The descriptor `id` of ring `r`, while it is not finished. -/
def liveDesc (s : State) (r id : Nat) : Option Desc := (getRing s r).descs.find? (fun d => decide (d.id = id) && !d.finished)
/-- The descriptor `id` of ring `r` with opcode `op`, started and not finished, while the ring is ON or DRAINING (spec 08 R299). -/
def runDesc (s : State) (r id op : Nat) : Option Desc :=
  match liveDesc s r id with
  | some d => if d.started && dOp d == op && [1, 2].contains (ringState s r) then some d else none
  | none => none
/-- Change a descriptor. -/
def modDesc (s : State) (r id : Nat) (f : Desc → Desc) : State := setRing s r (updDesc (getRing s r) id f)

/-- A descriptor finishes (spec 08 R308, R321, R326): its completion waits for room, or none is due under NO_COMP. -/
def descDone (s : State) (r id : Nat) (st : Status) (bytes aux : Nat) : State :=
  match liveDesc s r id with
  | none => s
  | some d =>
    let x := getRing s r
    if bit (dFlags d) 1 && st == .ok then setRing s r (dropDesc x id)
    else
      let quiet := (bit (dFlags d) 4 || rdB s (A.RING_CTL r) F.RING_CTL_NO_IRQ_OK) && st == .ok
      let c : Comp := ⟨some id, BitVec.ofNat 16 (dField d 2 2), st, bytes, aux, [], !quiet⟩
      let x := updDesc x id (fun d => { d with finished := true, started := true })
      setRing s r { x with out := x.out ++ [c] }

/-- Whether a pop of the ring engine with landing tag `tag` at port `ep` is held by its queue (spec 06 R219); a pop sent to
another device is taken as held. -/
def popHeld (s : State) (ep tag : Nat) (dev : BitVec 16) : Bool :=
  dev != devId s || s.eps.any (fun x => x.1 % 2 == 0 && x.2.ingress.any (fun y => match y.2 with
    | some g => g.held && g.req.src.toNat == ep && g.req.tag.toNat == tag
    | none => false))

/-- The STREAM_OUT descriptors of a ring whose pop is held (spec 08 R299). -/
def heldStreams (s : State) (r : Nat) : List Desc :=
  (getRing s r).descs.filter (fun d => d.started && !d.finished && dOp d == 0x02
    && (getEp s (ringPort r)).landing.any (fun y => match y.2 with
      | some l => l.owner == .desc r d.id 0 && popHeld s (ringPort r) y.1 (dDev d)
      | none => false))

/-- The requests of ring `r` whose owner `sel` names lose it: their responses will be discarded (spec 08 R299). The owner's
number is then 2^41 for a pop, whose words would be lost, and 2^40 otherwise. -/
def orphan (s : State) (r : Nat) (sel : Owner → Bool) (pop : Bool) : State :=
  let e := getEp s (ringPort r)
  setEp s (ringPort r) { e with landing := e.landing.map (fun y => (y.1, y.2.map (fun l =>
    if sel l.owner then { l with owner := .desc r (if pop then 2 ^ 41 else 2 ^ 40) 0 } else l))) }

/-- Whether a push or a pop that its descriptor no longer awaits is still to be answered by the queue page at `addr` of device `dev`: the
next request waits for its response (spec 08 R311). -/
def queuePending (s : State) (dev : BitVec 16) (addr : Nat) : Bool :=
  s.eps.any (fun x => x.2.landing.any (fun y => match y.2 with
    | some l => (match l.owner with
        | .desc _ id _ => decide (2 ^ 40 ≤ id) && l.req.dev == dev && l.req.addr.toNat / 256 * 256 == addr
        | .gw _ _ => false | .refetch _ _ _ => false | .push _ _ => false | .notify _ => false | .peek => false | .train _ _ => false)
    | none => false))

/-- Whether a pop of the ring engine, a descriptor's or a binding's, is outstanding at the queue page at `addr` of device `dev`: a queue
has one at a time (spec 08 R311). -/
def popOut (s : State) (dev : BitVec 16) (addr : Nat) : Bool :=
  s.eps.any (fun x => x.2.landing.any (fun y => match y.2 with
    | some l => (match l.owner with
        | .desc _ _ _ => l.req.dev == dev && l.req.addr.toNat == addr && !reqWrite l.req
        | .notify _ => l.req.dev == dev && l.req.addr.toNat == addr
        | .gw _ _ => false | .refetch _ _ _ => false | .push _ _ => false | .peek => false | .train _ _ => false)
    | none => false))

/-- What a ring ends when it leaves ON, and when such a pop comes to be held later (spec 08 R299, R320): its waits, its held pops, its
bindings. -/
def endHeld (s : State) (r : Nat) : State :=
  let waits := (getRing s r).descs.filter (fun d => d.started && !d.finished && dOp d == 0x0B)
  let pops := heldStreams s r
  let s := (waits ++ pops).foldl (fun s d => descDone s r d.id .aborted d.done 0) s
  let s := orphan s r (fun o => match o with
    | .desc r' id _ => r' == r && pops.any (fun d => d.id == id)
    | .notify b => (match smGet none s.host.binds b with | some x => x.ring == r | none => false)
    | _ => false) true
  { s with host := { s.host with binds := s.host.binds.filter (fun b => match b.2 with
      | some x => decide (x.ring ≠ r)
      | none => false) } }

/-- A ring fault (spec 08 R302), apart from the shadow. -/
def faultRing (s : State) (r : Nat) (st : Status) : State :=
  let s := if ringState s r = 1 then endHeld (setRingState (wr s (A.RING_CTL r) F.RING_CTL_EN 0) r 2) r else s
  let s := wr s (A.RING_STATUS r) F.RING_STATUS_ERR (statusCode st)
  raiseVec (report s 201 (unitDev s) 0x510 (detail [(r, 2), (statusCode st, 1)])) 0 0

/-- A shadow write; a failed one is a ring fault and is not retried (spec 08 R302). -/
def writeShadow (s : State) (r : Nat) : State :=
  match shadowWrite s r with
  | (s', .ok) => s'
  | (s', st) => faultRing s' r st

/-- A ring fault with its shadow (spec 08 R302). -/
def ringFault (s : State) (r : Nat) (st : Status) : State := writeShadow (faultRing s r st) r

/-- The key of a ring's requests (spec 08 R318, R333; spec 09 R334): as the warden where `asWarden` and CTL.WARDEN of a ring
of the physical function. -/
def ringKey (s : State) (r : Nat) (asWarden : Bool) : Key :=
  ⟨devId s, if asWarden && rdB s (A.RING_CTL r) F.RING_CTL_WARDEN && ringFn s r == 0 then 0x203F
    else BitVec.ofNat 16 (rd s (A.RING_MASTER r) F.RING_MASTER_ID)⟩

/-! ### Answers of train commands -/

/-- The answer of one member device in an anchor's expansion (spec 10 R379, R380). -/
def expAnswer (s : State) (x dev : Nat) (st : Status) (bits : Nat) : State :=
  match smGet none s.expansions x with
  | some e =>
    let e := { e with answers := e.answers ++ [(dev, st, bits)], awaited := e.awaited.filter (fun d => decide (d ≠ dev)) }
    { s with expansions := smSet none s.expansions x (some e) }
  | none => s

/-- The unit address of a train command's word (spec 01 R22). -/
def cmdUnit (c : TreeCmd) : BitVec 32 := BitVec.ofNat 32 (c.word.toNat / 4)

/-- A train command is complete: its answer to its issuer (spec 05 R170, R174; spec 08 R316; spec 10 R377, R380). -/
def treeDone (s : State) (c : TreeCmd) (st : Status) (aux : Nat) : State :=
  match c.issuer with
  | .ring r id => descDone s r id st 0 aux
  | .tcmd _ => s
  | .fabric dst tag dev posted port => if posted then s else answerTrain s dst tag dev port st aux (if c.cmd = 0 then 8 else 0)
  | .expansion x => expAnswer s x (devId s).toNat st aux
  | .engine => s

/-- Whether a command comes from a TCMD: its key is a tile's (spec 05 R174; spec 09 R334). -/
def fromTile (c : TreeCmd) : Bool := decide (0x1000 ≤ c.key.mst.toNat ∧ c.key.mst.toNat < 0x2000)

/-- A refused TCMD command leaves event 0x2C9 at the device that refuses, except where a table refused it (spec 05 R174). The issuer's
tile stands in the command, or in the expansion whose copy this is; of a command that came over tether it is not in the flit: a free
value. DEDUCED (assumption log 57). -/
def tellRefused (s : State) (c : TreeCmd) (st : Status) (table : Bool) : State :=
  let tell := fun (s : State) (unit : Nat) =>
    report s 200 (unitDev s) 0x2C9 (detail [(unit, 4), (keyNat c.key, 4), (statusCode st, 1)])
  if table || !fromTile c then s
  else match (match c.issuer with
      | .expansion x => ((smGet none s.tree.runs x).map (fun (r : TreeRun) => r.cmd.issuer)).getD c.issuer
      | k => k) with
    | .tcmd u => tell s u.toNat
    | _ => tell (useFree s) (c.key.dev.toNat * 16384 + (freeVal s).toNat % 16384)

/-- A train command is refused (spec 05 R174): it is answered, unless it is posted, and a TCMD's refusal is reported. -/
def treeRefuse (s : State) (c : TreeCmd) (st : Status) (table : Bool) : State := treeDone (tellRefused s c st table) c st 0

/-! ### The PEEK window (spec 16 R578) -/

/-- A PEEK access has failed. -/
def peekFail (s : State) (st : Status) (a : Nat) : State :=
  report (hostAnswer s (.failed st)) 201 (unitDev s) 0x502 (detail [(statusCode st, 1), (a, 8)])

/-- PEEK accesses become requests of the warden, in order, while landing slots are free (spec 07 R265). The first argument bounds
their number. -/
def sendPeeks : Nat → State → State
  | 0, s => s
  | n + 1, s =>
    match s.host.peekWait with
    | [] => s
    | x :: rest =>
      let a := x.addr.toNat
      match sendReq s (ringPort 0) 0 256 .peek ⟨devId s, 0x203F⟩ (BitVec.ofNat 16 (a / 2 ^ 48)) (a % 2 ^ 48) x.write x.size
          (if x.write then bytesLE x.size x.value.toNat else []) with
      | .sent s => sendPeeks n { s with host := { s.host with peekWait := rest } }
      | .done st => sendPeeks n (peekFail { s with host := { s.host with peekWait := rest } } st a)
      | .wait => s

/-- The PEEK accesses that wait go on. -/
def peeksGo (s : State) : State := if s.host.peekWait = [] then s else sendPeeks s.host.peekWait.length s

end Sys2Proof.Machine
end

