-- ==== Sys2Proof/Machine/Tree.lean ====
section
/-! DEFINITION. The command tree: the root, delivery, and the commands that act on tiles; trains across devices (spec 01 R20
to R23, R31; spec 05 R161 to R180, R186, R189; spec 10 R377 to R380). -/

namespace Sys2Proof.Machine

/-! ### Trains -/

/-- k of a train with PL ≥ 16 (spec 05 R161). -/
def cmdK (c : TreeCmd) : Nat := 30 - c.pl.toNat
/-- The tile index of a train word (spec 01 R22). -/
def cmdIx (c : TreeCmd) : Nat := c.word.toNat / 4 % 16384
/-- The device of a train word. -/
def cmdDev (c : TreeCmd) : BitVec 16 := BitVec.ofNat 16 (c.word.toNat / 65536)

/-- Whether tile `i` of this device is a member of a train with PL ≥ 16 (spec 01 R21). -/
def isMember (c : TreeCmd) (i : Nat) : Bool := i / 2 ^ cmdK c == cmdIx c / 2 ^ cmdK c

/-- The fields that a train with PL ≥ 16 covers, in order (spec 01 R31). -/
def cmdFields (c : TreeCmd) : List Nat :=
  trainFields (cmdIx c) (cmdK c)

/-- The members of a train in field `f`. -/
def membersIn (c : TreeCmd) (f : Nat) : List Nat :=
  if 8 ≤ cmdK c then fieldTiles f else (blockTiles (cmdIx c) (cmdK c)).filter (fun i => tileField i == f)

/-- Whether two trains overlap: they agree above the shorter prefix (spec 01 R21). -/
def trainsMeet (a b : TreeCmd) : Bool :=
  let p := min a.pl.toNat b.pl.toNat
  a.word.toNat / 4 / 2 ^ (30 - p) == b.word.toNat / 4 / 2 ^ (30 - p)

/-- The permission that a command needs (spec 05 R170). -/
def cmdPerm (c : TreeCmd) : Nat :=
  let x := c.cmd.toNat
  if x = 0 then pREAD else if x = 6 then pLOAD else if x = 8 ∨ x = 9 then pPOWER else pSWITCH

/-- Whether code, arguments and train word are as R21, R22, R170 and R498 allow. -/
def cmdOk (c : TreeCmd) : Bool :=
  let x := c.cmd.toNat
  let p := c.param.toNat
  [0, 1, 2, 3, 4, 5, 6, 8, 9].contains x
    && decide (c.pl.toNat ≤ 30) && c.word.toNat % 2 ^ (32 - c.pl.toNat) == 0
    && ([1, 2, 5].contains x || c.ctx == 0)
    && (if x = 9 then decide (p < 4 ∧ c.pl.toNat ≤ 22) else x == 2 || p == 0 || (x == 6 && decide (p < 65536)))

/-! ### Runs -/

def getRun (s : State) (id : Nat) : Option TreeRun := smGet none s.tree.runs id
def setRun (s : State) (id : Nat) (r : Option TreeRun) : State :=
  { s with tree := { s.tree with runs := smSet none s.tree.runs id r } }
/-- The runs, in the order of their admission. -/
def runList (s : State) : List (Nat × TreeRun) := s.tree.runs.filterMap (fun x => x.2.map (fun r => (x.1, r)))

/-- Whether the command is a SWITCH_BAR. -/
def isBar (c : TreeCmd) : Bool := c.cmd == 2

/-- Whether an expansion's copy belongs to run `id`. -/
def childOf (c : TreeCmd) (id : Nat) : Bool := c.issuer == .expansion id

/-- Whether an admitted command waits at the root (spec 05 R172). -/
def rootBlocked (s : State) (id : Nat) (c : TreeCmd) : Bool :=
  c.cmd != 0 && c.cmd != 4 && (runList s).any (fun x => decide (x.1 ≠ id) && trainsMeet x.2.cmd c && !childOf c x.1
    && (if x.2.waiting then decide (x.1 < id) else isBar x.2.cmd))

/-- What a covered field's state answers to a command (spec 05 R165; spec 13 R500): DOMAIN_DOWN. -/
def fieldDown (s : State) (c : TreeCmd) (f : Nat) : Bool :=
  let st := pwrState s f
  c.cmd != 8 && c.cmd != 9
    && (((st == 5 || st == 6) && !rdB s (A.PWR_CTL f) F.PWR_CTL_POLICY) || (c.cmd != 0 && (st == 2 || st == 3 || st == 4)))

/-- Whether a command arrived over tether: as a flit, or as the anchor's own copy of one that did (spec 09 R337; spec 10 R378). -/
def cmdRemote (s : State) (c : TreeCmd) : Bool :=
  let far := fun (x : Issuer) => match x with | .fabric _ _ _ _ _ => true | _ => false
  far c.issuer || (match c.issuer with
    | .expansion x => (match getRun s x with | some r => far r.cmd.issuer | none => false)
    | _ => false)

/-- The denial of a train command by a table (spec 09 R349, R350, R354). -/
def denyTrain (s : State) (c : TreeCmd) (code table : Nat) : State :=
  denyWith s c.key (cmdRemote s c) true (cmdUnit c) (c.pl.toNat * 2 ^ 32 + c.word.toNat) (cmdPerm c) table code

/-- The first refusal in field order (spec 01 R31; spec 05 R171): status, code and table of a denial. -/
def firstRefusal (s : State) (c : TreeCmd) : Option (Status × Nat × Nat) :=
  (cmdFields c).findSome? (fun f =>
    match decideAccess s c.key (cmdRemote s c) [(f, cmdPerm c)] with
    | .refuse code table => some (.denied, code, table)
    | .grant => if fieldDown s c f then some (.domainDown, 0, 0) else none)

/-- A command refused at the root: the record of a denial, and the answer (spec 05 R171, R174). -/
def refuseCmd (s : State) (c : TreeCmd) (st : Status) (code table : Nat) : State :=
  if st = .denied then treeRefuse (denyTrain s c code table) c st true else treeRefuse s c st false

/-- A command starts down the tree, or is refused (spec 05 R163, R165, R171). -/
def rootStart (s : State) (id : Nat) (r : TreeRun) : State :=
  match firstRefusal s r.cmd with
  | some (st, code, table) => refuseCmd (setRun s id none) r.cmd st code table
  | none =>
    let fs := cmdFields r.cmd
    let s := setRun s id (some { r with waiting := false, todo := fs })
    if r.cmd.cmd = 8 ∨ r.cmd.cmd = 9 then s else fs.foldl wakeReq s

/-- Waiting commands that nothing holds any longer start, in order (spec 05 R172). Commands for an expansion wait for it. -/
def rootScan (s : State) : State :=
  (s.tree.runs.map Prod.fst).foldl (fun s id => match getRun s id with
    | some r => if r.waiting && decide (16 ≤ r.cmd.pl.toNat) && !rootBlocked s id r.cmd then rootStart s id r else s
    | none => s) s

/-- A command ends: its answer, its place at the root free, the commands behind it looked at again. -/
def endRun (s : State) (id : Nat) (st : Status) (aux : Nat) : State :=
  match getRun s id with
  | none => s
  | some r => rootScan (treeDone (setRun s id none) r.cmd st aux)

/-- The status of a run: the failure of its first field in field order (spec 01 R31; spec 13 R498). -/
def runStatus (r : TreeRun) : Status :=
  match r.fails.foldl (fun (a : Option (Nat × Status)) x => match a with
      | some y => if x.1 < y.1 then some x else some y
      | none => some x) none with
  | some x => x.2
  | none => .ok

/-- A run whose work is done in every field ends (spec 05 R170). A SWITCH_BAR ends by its go. -/
def checkRun (s : State) (id : Nat) : State :=
  match getRun s id with
  | none => s
  | some r =>
    if r.todo = [] ∧ r.here = [] ∧ r.left = [] ∧ !(isBar r.cmd && r.fails == []) then endRun s id (runStatus r) 0 else s

/-! ### Barriers -/

/-- The members of a train that hold a barrier arm; an unlisted tile holds none. -/
def barMembers (s : State) (c : TreeCmd) : List Nat :=
  listedTiles s (fun i => isMember c i && (getT s i).barArm.isSome)

/-- Every barrier arm of a train cleared (spec 05 R179). -/
def clearBars (s : State) (c : TreeCmd) : State :=
  (barMembers s c).foldl (fun s i => setT s i { getT s i with barArm := none }) s

/-- A SWITCH_BAR is cancelled (spec 05 R179): arms cleared, event 0x2C8, its answer. -/
def cancelBar (s : State) (id : Nat) (st : Status) : State :=
  match getRun s id with
  | none => s
  | some r => endRun (report (clearBars s r.cmd) 200 (cmdUnit r.cmd) 0x2C8 (detail [(statusCode st, 1)])) id st 0

/-- An expansion marked for cancellation (spec 10 R379). -/
def cancelExp (s : State) (id : Nat) (st : Status) : State :=
  match smGet none s.expansions id with
  | some e =>
    if e.cancelled.isNone ∧ e.step = 1 then { s with expansions := smSet none s.expansions id (some { e with cancelled := some st }) } else s
  | none => s

/-- The SWITCH_BARs that an admitted DISARM cancels (spec 05 R179). A member's arm that has been answered stays until go or
cancel arrives (spec 10 R379). -/
def disarmCancels (s : State) (c : TreeCmd) : State :=
  ((runList s).filter (fun x => isBar x.2.cmd && !x.2.answered && trainsMeet x.2.cmd c)).foldl (fun s x =>
    if (smGet none s.expansions x.1).isSome then cancelExp s x.1 .aborted else cancelBar s x.1 .aborted) s

/-- A member switches to `n` (spec 05 R176, R177): both arms clear, its quiet cycles start anew (R156). -/
def switchTile (s : State) (n : Fin 16) (i : Nat) : State :=
  setT s i (touch s i { enterCtx (getT s i) n with arm := false, barArm := none })

/-- What a command does to a member: nothing while tile state is held at its reset values (spec 02 R83; spec 12 R467).
DEDUCED (assumption log 66). -/
def tileAct (g : State → Nat → State) (s : State) (i : Nat) : State := if s.boot.srst then g s i else s

/-- Every borrow in the fields that a train covers is to end (spec 05 R190). -/
def handlerCall (s : State) (c : TreeCmd) : State :=
  ((cmdFields c).filter (fun f => s.borrowed.any (fun p => p / 16 == f))).foldl (fun s f =>
    setFS s f { getFS s f with handlerDue := true }) s

/-- A switch of a train to a handler context ends every borrow in the fields that it covers (spec 05 R190). -/
def endTests (s : State) (c : TreeCmd) (fs : List Nat) : State :=
  if fs.any (fun f => (membersIn c f).any (fun i => handlerSlot (getT s i) c.ctx.toNat)) then handlerCall s c else s

/-- The context number that a command carries. -/
def cmdCtx (c : TreeCmd) : Fin 16 := c.ctx.toFin

/-- Whether a SWITCH_BAR is armed in every member and its DRAINED reduction reads 1 (spec 05 R177). -/
def barReady (s : State) (r : TreeRun) : Bool :=
  isBar r.cmd && !r.waiting && decide (r.todo = []) && decide (r.here = []) && r.fails == []
    && decide (16 ≤ r.cmd.pl.toNat) && redDrained s (isMember r.cmd)

/-- Whether a member of a train lies in a borrowed patch: a command for it waits until the borrow has yielded (spec 05 R193). -/
def trainLent (s : State) (c : TreeCmd) : Bool := s.borrowed.any (fun p => (patchTiles p).any (isMember c))

/-- The go of a SWITCH_BAR in every member. -/
def goAll (s : State) (c : TreeCmd) : State :=
  (cmdFields c).foldl (fun s f => (membersIn c f).foldl (tileAct (fun s i => switchTile s (cmdCtx c) i)) s) (endTests s c (cmdFields c))

/-- BARRIER_GO (spec 05 R177, R178). -/
def opBarrierGo (id : Nat) (s : State) : State :=
  match getRun s id with
  | some r => if r.cmd.phase = 0 ∧ barReady s r ∧ !trainLent s r.cmd then endRun (goAll s r.cmd) id .ok 0 else s
  | none => s

/-- BARRIER_TIMEOUT: the timeout of a SWITCH_BAR, or of an anchor's expansion of one, expires before go (spec 05 R179, R189). -/
def opBarrierTimeout (id : Nat) (s : State) : State :=
  match getRun s id with
  | some r =>
    if !isBar r.cmd || r.cmd.param == 0 || r.cmd.phase != 0 then s
    else if (smGet none s.expansions id).isSome then cancelExp s id .timeout
    else cancelBar s id .timeout
  | none => s

/-! ### The root -/

/-- The TRAIN flit of a command (spec 10 R377). -/
def trainFlit (c : TreeCmd) (posted : Bool) (src tag gw : Nat) (dev : BitVec 16) : Flit :=
  { net := .req, dst := BitVec.ofNat 11 gw, src := BitVec.ofNat 11 src, op := 2, tag := BitVec.ofNat 8 tag, dev := dev
    mst := c.key.mst, len := 7, data := BitVec.ofNat 512 c.word.toNat
    addr := BitVec.ofNat 48 (packFields [(1, b2n posted), (2, c.phase.toNat), (5, c.pl.toNat), (4, c.cmd.toNat), (4, c.ctx.toNat),
      (32, c.param.toNat)]) }

/-- The first hop toward a device for a request of this one (spec 10 R355, R370, R384). -/
def hopTo (s : State) (dev : BitVec 16) : Option Nat :=
  if !rdB s A.FAB_COORD F.FAB_COORD_VALID || !namesDevice s dev.toNat then none else firstHop s dev.toNat

/-- Whether a request is a posted TRAIN (spec 10 R377). -/
def isPosted (f : Flit) : Bool := f.op == 2 && bit f.addr.toNat 47

/-- The owner of a posted TRAIN's landing slot: no expansion, but the issuing tile's unit address where the device knows it.
DESIGN CHOICE (assumption log 89). -/
def postOwner (c : TreeCmd) : Owner := .train (match c.issuer with | .tcmd u => 2 ^ 40 + u.toNat | _ => 2 ^ 41) 0

/-- A posted TRAIN leaves the management block's port for gateway `p`, with a landing slot reserved until the gateway has sent it, for a
NACK names the slot (spec 05 R174; spec 07 R265, R270). Nothing where no slot is free. DESIGN CHOICE (assumption log 89). -/
def postTrain (s : State) (c k : TreeCmd) (p : Nat) (dev : BitVec 16) : Option State :=
  (freeTag s mgmtPort 0 256).map (fun tag =>
    let f := trainFlit k true mgmtPort tag (gatewayPort p) dev
    pushOut (setLand s mgmtPort tag (some { req := f, wdata := [], owner := postOwner c })) mgmtPort f)

/-- A TCMD command for another device is sent through a gateway, from the management block's port; nothing answers it
(spec 05 R174). Nothing where no landing slot is free. -/
def forwardTcmd (s : State) (c : TreeCmd) (dev : BitVec 16) : Option State :=
  match hopTo s dev with
  | some p => postTrain s c c p dev
  | none => some (treeRefuse s c .remoteUnreachable false)

/-- The group of a source of the root: ring engine, gateways, device engines, tree ports (spec 05 R172). -/
def srcGroup (src : Nat) : Nat := if src < 3 then src else 3
/-- Whether a group has a command to admit. -/
def groupWants (s : State) (g : Nat) : Bool :=
  if g = 0 then s.tree.fromRing ≠ [] else if g = 1 then s.tree.fromGw ≠ [] else if g = 2 then s.tree.fromEng ≠ []
  else s.tiles.any (fun x => x.2.treePort.isSome)
/-- Whether round-robin order lets group `g` be served now. -/
def rootTurn (s : State) (g : Nat) : Bool :=
  match ((List.range 4).map (fun k => (s.tree.last + 1 + k) % 4)).find? (groupWants s) with
  | some h => h == g
  | none => false

/-- The head of source `src` and the state without it; tile `i`'s tree port is source 16 + i.
DESIGN CHOICE (assumption log 80). -/
def takeSrc (s : State) (src : Nat) : Option (TreeCmd × State) :=
  let tr := s.tree
  if src = 0 then match tr.fromRing with
    | c :: l => some (c, { s with tree := { tr with fromRing := l, last := 0 } })
    | [] => none
  else if src = 1 then match tr.fromGw with
    | c :: l => some (c, { s with tree := { tr with fromGw := l, last := 1 } })
    | [] => none
  else if src = 2 then match tr.fromEng with
    | c :: l => some (c, { s with tree := { tr with fromEng := l, last := 2 } })
    | [] => none
  else if src < 16 ∨ 16400 ≤ src then none
  else
    let t := getT s (src - 16)
    match t.treePort with
    | some c => some (c, { setT s (src - 16) (touch s (src - 16) { t with treePort := none }) with tree := { tr with last := 3 } })
    | none => none

/-- An admitted command takes its place at the root, and starts unless it waits (spec 05 R171, R172, R179). -/
def admitCmd (s : State) (c : TreeCmd) : State :=
  let id := s.tree.next
  let r : TreeRun := { cmd := c }
  let s := setRun { s with tree := { s.tree with next := id + 1 } } id (some r)
  if c.pl.toNat < 16 then (if c.cmd = 4 then disarmCancels s c else s)
  else if rootBlocked s id c then s
  else
    let ok := (firstRefusal s c).isNone
    let s := rootStart s id r
    if c.cmd = 4 ∧ ok then disarmCancels s c else s

/-- A ring's command for another device leaves through a gateway, from the ring's port; its answer completes the descriptor (spec 01,
the worked SWITCH; spec 05 R174; spec 10 R377). Nothing where no landing slot is free. -/
def ringTrain (s : State) (c : TreeCmd) (r id : Nat) : Option State :=
  match hopTo s (cmdDev c) with
  | none => some (treeRefuse s c .remoteUnreachable false)
  | some p =>
    let ep := ringPort r
    (freeTag s ep 0 256).map (fun tag =>
      let f := trainFlit c false ep tag (gatewayPort p) (cmdDev c)
      pushOut (setLand s ep tag (some { req := f, wdata := [], owner := .desc r id 0 })) ep f)

/-- ROOT_ADMIT (spec 05 R171, R172, R174; spec 01 R21 to R23). -/
def opRootAdmit (src : Nat) (s0 : State) : State :=
  let s := s0
  if !rootTurn s (srcGroup src) then s else
  match takeSrc s src with
  | none => s
  | some (c, s) =>
    let tcmd := match c.issuer with | .tcmd _ => true | _ => false
    if !cmdOk c then refuseCmd s c .badDescriptor 0 0
    else if c.pl.toNat < 16 then
      if isAnchor s then admitCmd s c
      else if tcmd then
        (if rdB s A.FAB_ANCHOR F.FAB_ANCHOR_VALID then (forwardTcmd s c (BitVec.ofNat 16 (rd s A.FAB_ANCHOR F.FAB_ANCHOR_ANCHOR_ID))).getD s0
         else treeRefuse s c .remoteUnreachable false)
      else refuseCmd s c .badDescriptor 0 0
    else if cmdDev c ≠ devId s then
      (match c.issuer with
        | .tcmd _ => (forwardTcmd s c (cmdDev c)).getD s0
        | .ring r id => (ringTrain s c r id).getD s0
        | _ => refuseCmd s c .badDescriptor 0 0)
    else admitCmd s c

/-! ### Delivery -/

/-- Whether an earlier command has still to reach field `f` (spec 05 R164). -/
def earlierTo (s : State) (id f : Nat) : Bool := (runList s).any (fun x => decide (x.1 < id) && x.2.todo.contains f)
/-- Whether an earlier command is presented in field `f` and has not acted (spec 05 R164). -/
def earlierHere (s : State) (id f : Nat) : Bool := (runList s).any (fun x => decide (x.1 < id) && x.2.here.contains f)

/-- A field refuses a command before any member has acted: none acts (spec 01 R31; spec 13 R500). -/
def refuseOnWay (s : State) (id : Nat) (r : TreeRun) : State :=
  rootScan (treeRefuse (setRun s id none) r.cmd .domainDown false)

/-- Whether a field answers a QUERY as it stands: its transit clock runs, and it runs, is idle or is isolated (spec 05 R165; spec 13
R500). -/
def queryable (s : State) (f : Nat) : Bool := decide (pwrState s f ≤ 4) && transitRuns s f

/-- COMMAND_DELIVERY: the level 7 nodes of field `f` present the command (spec 05 R163 to R165). The members of all covered fields
act once every field has it, so that none acts where one refuses (spec 01 R31; spec 05 R176). WAKE, POWER and QUERY act on no tile; a
QUERY too is refused by a field that is down, and wakes one that sleeps. DEDUCED (assumption log 68). -/
def opCommandDelivery (id : Nat) (f : Fin 64) (s : State) : State :=
  match getRun s id with
  | none => s
  | some r =>
    if r.waiting || !r.todo.contains f.val || [8, 9].contains r.cmd.cmd.toNat || earlierTo s id f then s
    else if fieldDown s r.cmd f then refuseOnWay s id r
    else if r.cmd.cmd = 0 then (if queryable s f then s else wakeReq s f)
    else if !fieldRuns s f then wakeReq s f
    else
      let ms := membersIn r.cmd f
      if ms.any (lentTile s) then s
      else if r.cmd.cmd = 5 then
        let all := (cmdFields r.cmd).flatMap (membersIn r.cmd)
        if r.todo.erase f.val ≠ [] then setRun s id (some { r with todo := r.todo.erase f.val, here := r.here ++ [f.val] })
        else if all.any (fun i => lentTile s i || (getT s i).inject.isSome) || (cmdFields r.cmd).any (earlierHere s id) then s
        else
          let s := all.foldl (fun s i => setT s i { getT s i with inject := some (cmdCtx r.cmd, id) }) s
          setRun s id (some { r with todo := [], here := [], left := all })
      else setRun s id (some { r with todo := r.todo.erase f.val, here := r.here ++ [f.val] })

/-- A command presented in field `f` acts there on every member, once every covered field has it. A field that has begun to drain
before any member has acted refuses it. DEDUCED (assumption log 68). -/
def actHere (id : Nat) (f : Nat) (code : BitVec 4) (act : TreeCmd → State → Nat → State) (s : State) : State :=
  match getRun s id with
  | none => s
  | some r =>
    if r.cmd.cmd ≠ code ∨ !r.here.contains f ∨ r.todo ≠ [] ∨ earlierHere s id f then s
    else if !r.acted && (cmdFields r.cmd).any (fieldDown s r.cmd) then refuseOnWay s id r
    else if (membersIn r.cmd f).any (lentTile s) then s
    else
      let s := (membersIn r.cmd f).foldl (act r.cmd) s
      checkRun (setRun s id (some { r with here := r.here.erase f, acted := true })) id

/-- SWITCH_IMM (spec 05 R176). -/
def opSwitchImm (id : Nat) (f : Fin 64) (s : State) : State :=
  actHere id f 1 (fun c => tileAct (fun s i => switchTile (endTests s c (if i = (membersIn c f).headD i then [f.val] else [])) (cmdCtx c) i)) s
/-- SWITCH_BAR, the arm phase (spec 05 R177). -/
def opSwitchBar (id : Nat) (f : Fin 64) (s : State) : State :=
  actHere id f 2 (fun c => tileAct (fun s i => setT s i (touch s i { getT s i with barArm := some (cmdCtx c) }))) s
/-- ARM (spec 05 R180). -/
def opArm (id : Nat) (f : Fin 64) (s : State) : State := 
  actHere id f 3 (fun _ => tileAct (fun s i => setT s i { getT s i with arm := true })) s
/-- DISARM (spec 05 R170, R180). -/
def opDisarm (id : Nat) (f : Fin 64) (s : State) : State := 
  actHere id f 4 (fun _ => tileAct (fun s i => setT s i { getT s i with arm := false })) s

/-- The frame with FMT 0 (spec 05 R170). -/
def clearFmt (c : Frame) : Frame := BitVec.ofNat 256 (c.toNat % 2 ^ 252)

/-- INVALIDATE (spec 05 R170). -/
def opInvalidate (id : Nat) (f : Fin 64) (s : State) : State :=
  actHere id f 6 (fun c s i => ((List.range 16).filter (bit c.param.toNat)).foldl
    (fun s k => storeFrame s i k (clearFmt (slotFrame (getT s i) k))) s) s

/-- The WAVE word of an injection (spec 05 R186). -/
def injectWord (n : Fin 16) : SWord := ⟨BitVec.ofNat 32 n.val, .wave⟩

/-- INJECT: a member performs its injected wave firing (spec 05 R186). -/
def opInject (id : Nat) (i : TileIx) (s : State) : State :=
  let t := getT s i
  match t.inject with
  | none => s
  | some (n, owner) =>
    if owner ≠ id ∨ !tileRuns s i ∨ lentTile s i then s else
    let c := ctxFrame t
    match (if cFmt c = 0 then some t else waveSend i t c (injectWord n)) with
    | none => s
    | some t1 =>
      let t2 := { (if waveArmed t then waveSwitch t1 n else t1) with inject := none }
      let s := setT s i (touch s i t2)
      match getRun s id with
      | some r =>
        let s := if waveArmed t && handlerSlot t n then handlerCall s r.cmd else s
        checkRun (setRun s id (some { r with left := r.left.erase i.val, acted := true })) id
      | none => s

/-- The reductions that a QUERY returns: DRAINED, QUIET, ARMED, FAULT in bits 0 to 3 (spec 05 R166; spec 08 R316; spec 13
R500). -/
def queryBits (s : State) (c : TreeCmd) : Nat :=
  let iso := fun (f : Nat) => pwrState s f == 3 || pwrState s f == 4
  let p := fun (i : Nat) => isMember c i && !iso (tileField i)
  b2n (redDrained s p) + 2 * b2n (redQuiet s p)
    + 4 * b2n ((cmdFields c).all (fun f => !iso f && redArmed s (membersIn c f))) + 8 * b2n (redFault s p)

/-- QUERY (spec 05 R166, R168, R170). DEDUCED (assumption log 68). -/
def opQuery (id : Nat) (s : State) : State :=
  match getRun s id with
  | some r =>
    if r.cmd.cmd = 0 ∧ !r.waiting ∧ r.todo.all (queryable s) then endRun s id .ok (queryBits s r.cmd) else s
  | none => s

/-! ### Trains across devices -/

/-- The IDs of the members of an expansion that are counted, in rising order (spec 10 R378). -/
def expMembers (s : State) (c : TreeCmd) : List Nat :=
  let n := 2 ^ (16 - c.pl.toNat)
  ((List.range n).map (· + (cmdDev c).toNat / n * n)).filter (fun d => namesDevice s d || d == (devId s).toNat)

/-- The copy of an expanded command for member `dev`, in a phase (spec 10 R377 to R379). -/
def memberCmd (c : TreeCmd) (dev : Nat) (phase : Nat) : TreeCmd :=
  { c with word := BitVec.ofNat 32 (dev * 65536), pl := 16, phase := BitVec.ofNat 2 phase, issuer := .engine }

/-- The phase that an expansion's step sends. -/
def stepPhase (step : Nat) : Nat := step

/-- One message of an expansion to another device: its landing slot at the management block's port is reserved first. The
owner's second number holds the device and, above it, the step. The whole command of a TCMD is posted: nothing answers it, and it
counts as answered (spec 05 R174; spec 10 R377). -/
def sendMember (s : State) (x : Nat) (c : TreeCmd) (e : Expansion) (dev : Nat) : State × Expansion × Bool :=
  match hopTo s (BitVec.ofNat 16 dev) with
  | none => (tellRefused s c .remoteUnreachable false,
      { e with answers := e.answers ++ [(dev, .remoteUnreachable, 0)], unsent := e.unsent.erase dev }, true)
  | some p =>
    if fromTile c && e.step == 0 then
      match postTrain s c (memberCmd c dev 0) p (BitVec.ofNat 16 dev) with
      | some s => (s, { e with unsent := e.unsent.erase dev, answers := e.answers ++ [(dev, .ok, 0)] }, true)
      | none => (s, e, false)
    else match freeTag s mgmtPort 0 256 with
    | none => (s, e, false)
    | some tag =>
      let f := trainFlit (memberCmd c dev (stepPhase e.step)) false mgmtPort tag (gatewayPort p) (BitVec.ofNat 16 dev)
      (pushOut (setLand s mgmtPort tag (some { req := f, wdata := [], owner := .train x (dev + 65536 * e.step) })) mgmtPort f,
       { e with unsent := e.unsent.erase dev, awaited := e.awaited ++ [dev]
                armed := if e.step = 1 then e.armed ++ [dev] else e.armed }, true)

/-- The messages that still find landing slots. -/
def sendMembers (s : State) (x : Nat) (c : TreeCmd) : List Nat → Expansion → State × Expansion
  | [], e => (s, e)
  | d :: ds, e =>
    let y := sendMember s x c e d
    if y.2.2 then sendMembers y.1 x c ds y.2.1 else (y.1, y.2.1)

def putExp (x : Nat) (y : State × Expansion) : State :=
  { y.1 with expansions := smSet none y.1.expansions x (some y.2) }

/-- The copy that the anchor serves itself goes to its own root (spec 10 R378). -/
def ownCopy (s : State) (x : Nat) (c : TreeCmd) (e : Expansion) : State × Expansion :=
  let own := (devId s).toNat
  if e.unsent.contains own then
    let k := { memberCmd c own (stepPhase e.step) with issuer := .expansion x }
    ({ s with tree := { s.tree with fromEng := s.tree.fromEng ++ [k] } },
     { e with unsent := e.unsent.erase own, awaited := e.awaited ++ [own], armed := if e.step = 1 then e.armed ++ [own] else e.armed })
  else (s, e)

/-- The anchor's own arm in expansion `x`. -/
def ownArm (s : State) (x : Nat) : Option (Nat × TreeRun) := (runList s).find? (fun y => childOf y.2.cmd x)

/-- The anchor's own part of a step after the first: go, or cancel, in its own array. An arm that its root has not yet admitted goes no
further. -/
def ownStep (s : State) (x step : Nat) : State :=
  let s := { s with tree := { s.tree with fromEng := s.tree.fromEng.filter (fun c => !childOf c x) } }
  match ownArm s x with
  | none => s
  | some (id, r) =>
    let s := if step = 2 then goAll s r.cmd else clearBars s r.cmd
    rootScan (setRun s id none)

/-- The answers that are not OK. -/
def expFails (e : Expansion) : List (Nat × Status × Nat) := e.answers.filter (fun a => decide (a.2.1 ≠ .ok))

/-- The failed member with the lowest device ID. -/
def lowestFail (l : List (Nat × Status × Nat)) : Option Status :=
  (l.foldl (fun (a : Option (Nat × Status × Nat)) x => match a with
    | some y => if x.1 < y.1 then some x else some y
    | none => some x) none).map (fun x => x.2.1)

/-- The verdict of a barrier that is cancelled: the status, and how many members had not answered OK (spec 10 R380). -/
def cancelVerdict (e : Expansion) : Status × Nat :=
  ((lowestFail (expFails e)).getD (e.cancelled.getD .aborted), (expFails e).length + e.awaited.length + e.unsent.length)

/-- Event 0x415 for each failed member (spec 10 R380). -/
def reportFails (s : State) (l : List (Nat × Status × Nat)) : State :=
  l.foldl (fun s a => report s 200 (unitDev s) 0x415 (detail [(a.1, 2), (statusCode a.2.1, 1)])) s

/-- How many expansions the anchor holds (spec 10 R378). -/
def expCount (s : State) : Nat := (s.expansions.filter (fun x => x.2.isSome)).length

/-- An expansion moves on: to go once every member has answered its arm with OK, to cancel on a refusal, a timeout or a
DISARM; then its messages are sent (spec 10 R379). -/
def advanceExp (s : State) (x : Nat) (c : TreeCmd) (e : Expansion) : State :=
  if e.step = 1 ∧ (expFails e ≠ [] ∨ e.cancelled.isSome) then
    let s := reportFails s (expFails e)
    let s := if e.cancelled.isSome then
        report s 200 (cmdUnit c) 0x2C8 (detail [(statusCode (e.cancelled.getD .aborted), 1)]) else s
    let own := (devId s).toNat
    let rest := e.armed.filter (fun d => decide (d ≠ own))
    let e' := { e with step := 3, verdict := some (cancelVerdict e), answers := [], awaited := [], unsent := rest }
    putExp x (sendMembers (ownStep s x 3) x c rest e')
  else if e.step = 1 ∧ e.unsent = [] ∧ e.awaited = [] then
    if (match ownArm s x with | some y => trainLent s y.2.cmd | none => false) then putExp x (s, e) else
    let own := (devId s).toNat
    let rest := e.armed.filter (fun d => decide (d ≠ own))
    let e' := { e with step := 2, unsent := rest, answers := if e.armed.contains own then [(own, .ok, 0)] else [] }
    putExp x (sendMembers (ownStep s x 2) x c rest e')
  else
    let y := ownCopy s x c e
    putExp x (sendMembers y.1 x c y.2.unsent y.2)

/-- ANCHOR_EXPANSION: the anchor expands an admitted command, or carries its expansion on (spec 01 R23; spec 05 R189;
spec 10 R378, R379). -/
def opAnchorExpansion (id : Nat) (s : State) : State :=
  match getRun s id with
  | none => s
  | some r =>
    if 16 ≤ r.cmd.pl.toNat then s else
    match smGet none s.expansions id with
    | some e => advanceExp s id r.cmd e
    | none =>
      if rootBlocked s id r.cmd ∨ 4 ≤ expCount s then s
      else
        let e : Expansion := { unsent := expMembers s r.cmd, step := if isBar r.cmd then 1 else 0 }
        advanceExp (setRun s id (some { r with waiting := false })) id r.cmd e

/-- The reductions of an expanded QUERY over the members that answered (spec 10 R380). -/
def expBits (e : Expansion) : Nat :=
  let l := e.answers.filter (fun a => a.2.1 == .ok)
  let all := fun (k : Nat) => b2n (l.all (fun a => bit a.2.2 k))
  all 0 + 2 * all 1 + 4 * all 2 + 8 * b2n (l.any (fun a => bit a.2.2 3))

/-- EXPANDED_COMPLETION: every member of the last step has answered; the anchor makes one completion (spec 10 R380). -/
def opExpandedCompletion (x : Nat) (s : State) : State :=
  match getRun s x, smGet none s.expansions x with
  | some r, some e =>
    if e.step = 1 ∨ e.unsent ≠ [] ∨ e.awaited ≠ [] then s
    else
      let drop := fun (s : State) => ({ s with expansions := smSet none s.expansions x none } : State)
      match e.verdict with
      | some v => endRun (drop s) x v.1 (v.2 * 65536)
      | none =>
        let st := (lowestFail (expFails e)).getD .ok
        endRun (drop (reportFails s (expFails e))) x st
          ((expFails e).length * 65536 + (if r.cmd.cmd = 0 then expBits e else 0))
  | _, _ => s

/-- The answer of this device to an arm of another device, or of its own expansion (spec 10 R379). -/
def answerArm (s : State) (c : TreeCmd) (st : Status) : State := treeDone s c st 0

/-- BARRIER_ARM: this device's root reads DRAINED with every member armed, and answers the arm (spec 10 R379). -/
def opBarrierArm (id : Nat) (s : State) : State :=
  match getRun s id with
  | some r =>
    if r.cmd.phase = 1 ∧ !r.answered ∧ barReady s r then answerArm (setRun s id (some { r with answered := true })) r.cmd .ok else s
  | none => s

/-- The command of a TRAIN flit that arrived on port `p` (spec 10 R377); its key is the flit's. -/
def flitCmd (p : Nat) (f : Flit) : TreeCmd :=
  let a := f.addr.toNat
  { word := BitVec.ofNat 32 f.data.toNat, pl := BitVec.ofNat 5 (bitsOf a 44 40), cmd := BitVec.ofNat 4 (bitsOf a 39 36)
    ctx := BitVec.ofNat 4 (bitsOf a 35 32), param := BitVec.ofNat 32 (bitsOf a 31 0), phase := BitVec.ofNat 2 (bitsOf a 46 45)
    key := reqKey f, issuer := .fabric f.src f.tag f.dev (bit a 47) p }

/-- A posted TRAIN that the device could not send is refused (spec 05 R174): `o` is the owner of its landing slot. -/
def refusePosted (s : State) (p : Nat) (f : Flit) (o : Owner) (st : Status) : State :=
  let c := flitCmd p f
  tellRefused s (match o with | .train x _ => if x < 2 ^ 41 then { c with issuer := .tcmd (BitVec.ofNat 30 (x - 2 ^ 40)) } else c | _ => c)
    st (st == .denied)

/-- The arrived packet of port `p` that is first of its class and spells a TRAIN flit of the phases given. -/
def arrivedTrain (s : State) (p : Nat) (ph : Nat → Bool) : Option (Packet × TreeCmd) :=
  (getP s p).arr.findSome? (fun k =>
    if k.cls = .req then
      let f := bitsFlit .req (ofBlocks k.payload)
      if f.op = 2 ∧ ph (flitCmd p f).phase.toNat then some (k, flitCmd p f) else none
    else none)

/-- An arrived packet leaves the port's buffer; its credit is owed to the neighbour (spec 10 R367). -/
def takeArr (s : State) (p : Nat) (k : Packet) : State :=
  let x := getP s p
  let key := bufKey k.cls k.vc
  setP s p { x with arr := x.arr.erase k, owed := smSet 0 x.owed key (smGet 0 x.owed key + 1) }

/-- TRAIN_FLIT: the gateway passes a command to the root; one with PL below 16 is for an anchor (spec 10 R377). -/
def opTrainFlit (p : Fin 6) (s : State) : State :=
  match arrivedTrain s p (fun ph => decide (ph < 2)) with
  | none => s
  | some (k, c) =>
    let s := takeArr s p k
    if c.pl.toNat < 16 ∧ (c.phase ≠ 0 ∨ !isAnchor s) then refuseCmd s c .badDescriptor 0 0
    else { s with tree := { s.tree with fromGw := s.tree.fromGw ++ [c] } }

/-- Whether an arm is the one that a later phase names: the same train, from the same device. -/
def samePhase (a b : TreeCmd) : Bool :=
  isBar a && a.phase == 1 && a.word == b.word && a.pl == b.pl && a.key == b.key
    && (match a.issuer with | .fabric _ _ _ _ _ => true | _ => false)

/-- BARRIER_GO_PHASE (spec 10 R379). A go that meets no answered arm is answered with ABORTED. -/
def opBarrierGoPhase (p : Fin 6) (s : State) : State :=
  match arrivedTrain s p (fun ph => ph == 2) with
  | none => s
  | some (k, c) =>
    let arm := (runList s).find? (fun x => samePhase x.2.cmd c && x.2.answered)
    if (match arm with | some x => trainLent s x.2.cmd | none => false) then s else
    let s := takeArr s p k
    match arm with
    | some x => treeDone (rootScan (setRun (goAll s x.2.cmd) x.1 none)) c .ok 0
    | none => treeDone s c .aborted 0

/-- BARRIER_CANCEL (spec 10 R379): an arm that has not been answered is answered with ABORTED. -/
def opBarrierCancel (p : Fin 6) (s : State) : State :=
  match arrivedTrain s p (fun ph => ph == 3) with
  | none => s
  | some (k, c) =>
    let s := takeArr s p k
    let early := s.tree.fromGw.filter (fun a => samePhase a c)
    let s := early.foldl (fun s a => answerArm s a .aborted) s
    let s := { s with tree := { s.tree with fromGw := s.tree.fromGw.filter (fun a => !samePhase a c) } }
    let s := ((runList s).filter (fun x => samePhase x.2.cmd c)).foldl (fun s x =>
      let s := if x.2.answered then s else answerArm s x.2.cmd .aborted
      rootScan (setRun (clearBars s x.2.cmd) x.1 none)) s
    treeDone s c .ok 0

/-! ### The meanings of the commands of this file -/

/-- ROOT_ADMIT (spec 05 R172). -/
def execRootAdmit (src : Nat) (s : State) : Host.Outcome State Fault Refusal := .next (engine (opRootAdmit src) s)
/-- COMMAND_DELIVERY (spec 05 R164). -/
def execCommandDelivery (id : Nat) (f : Fin 64) (s : State) : Host.Outcome State Fault Refusal := .next (engine (opCommandDelivery id f) s)
/-- QUERY (spec 05 R170). -/
def execQuery (id : Nat) (s : State) : Host.Outcome State Fault Refusal := .next (engine (opQuery id) s)
/-- SWITCH_IMM (spec 05 R176). -/
def execSwitchImm (id : Nat) (f : Fin 64) (s : State) : Host.Outcome State Fault Refusal := .next (opSwitchImm id f s)
/-- SWITCH_BAR (spec 05 R177). -/
def execSwitchBar (id : Nat) (f : Fin 64) (s : State) : Host.Outcome State Fault Refusal := .next (opSwitchBar id f s)
/-- BARRIER_GO (spec 05 R177). -/
def execBarrierGo (id : Nat) (s : State) : Host.Outcome State Fault Refusal := .next (engine (opBarrierGo id) s)
/-- BARRIER_TIMEOUT (spec 05 R179). -/
def execBarrierTimeout (id : Nat) (s : State) : Host.Outcome State Fault Refusal := .next (engine (opBarrierTimeout id) s)
/-- ARM (spec 05 R180). -/
def execArmCmd (id : Nat) (f : Fin 64) (s : State) : Host.Outcome State Fault Refusal := .next (opArm id f s)
/-- DISARM (spec 05 R179). -/
def execDisarmCmd (id : Nat) (f : Fin 64) (s : State) : Host.Outcome State Fault Refusal := .next (opDisarm id f s)
/-- INJECT (spec 05 R186). -/
def execInjectCmd (id : Nat) (t : TileIx) (s : State) : Host.Outcome State Fault Refusal := .next (opInject id t s)
/-- INVALIDATE (spec 05 R170). -/
def execInvalidate (id : Nat) (f : Fin 64) (s : State) : Host.Outcome State Fault Refusal := .next (opInvalidate id f s)
/-- TRAIN_FLIT (spec 10 R377). -/
def execTrainFlit (p : Fin 6) (s : State) : Host.Outcome State Fault Refusal := .next (engine (opTrainFlit p) s)
/-- ANCHOR_EXPANSION (spec 10 R378). -/
def execAnchorExpansion (id : Nat) (s : State) : Host.Outcome State Fault Refusal := .next (engine (opAnchorExpansion id) s)
/-- EXPANDED_COMPLETION (spec 10 R380). -/
def execExpandedCompletion (x : Nat) (s : State) : Host.Outcome State Fault Refusal := .next (engine (opExpandedCompletion x) s)
/-- BARRIER_ARM (spec 10 R379). -/
def execBarrierArm (id : Nat) (s : State) : Host.Outcome State Fault Refusal := .next (engine (opBarrierArm id) s)
/-- BARRIER_GO_PHASE (spec 10 R379). -/
def execBarrierGoPhase (p : Fin 6) (s : State) : Host.Outcome State Fault Refusal := .next (engine (opBarrierGoPhase p) s)
/-- BARRIER_CANCEL (spec 10 R379). -/
def execBarrierCancel (p : Fin 6) (s : State) : Host.Outcome State Fault Refusal := .next (engine (opBarrierCancel p) s)

end Sys2Proof.Machine
end

