-- ==== Sys2Proof/Machine/Mirror.lean ====
section
/-! DEFINITION. Mirrors: updates by push and by invalidation, mirror agents, epochs, and the CFG register (spec 07 R273 to
R279, R283 to R285). -/

namespace Sys2Proof.Machine

/-- The source tile of a mirror, and its holders' train (spec 07 R273). -/
def mirSrc (s : State) (m : Nat) : Nat := rd s (A.MIRROR_CFG m) F.MIRROR_CFG_SRC_IDX
def mirSize (s : State) (m : Nat) : Nat := rd s (A.MIRROR_CFG m) F.MIRROR_CFG_SIZE

/-- The holders of a mirror: the M-tiles of its train (spec 07 R273). -/
def mirHolders (s : State) (m : Nat) : List Nat :=
  (blockTiles (rd s (A.MIRROR_CFG m) F.MIRROR_CFG_HOLD_IDX) (30 - rd s (A.MIRROR_CFG m) F.MIRROR_CFG_HOLD_PL)).filter
    (fun i => tileKind i == .m)

/-- The Y line of holder `i` that holds line `l` of the region, if it maps it (spec 07 R273). -/
def mirLine (s : State) (m i l : Nat) : Option Nat :=
  if mirSize s m ≤ 3 then some (rd s (A.MIRROR_CFG m) F.MIRROR_CFG_HOLD_BASE + l)
  else if l < 64 then (if tileU i = 0 then some l else none)
  else if tileU i = 2 then some (l - 64) else none

/-- The holders that map a line, with their Y line. -/
def mirTargets (s : State) (m l : Nat) : List (Nat × Nat) :=
  if mirrorLines s m ≤ l then [] else (mirHolders s m).filterMap (fun i => (mirLine s m i l).map (fun y => (i, y)))

/-- The fields with a holder of mirror `m`. -/
def mirFields (s : State) (m : Nat) : List Nat := ((mirHolders s m).map tileField).eraseDups

/-- Mark a Y line of a tile stale, or valid (spec 03 R104). -/
def yMark (s : State) (i y : Nat) (stale : Bool) : State :=
  let t := getT s i
  setT s i { t with m := { t.m with yStale := if stale then (y :: t.m.yStale).eraseDups else t.m.yStale.filter (fun z => decide (z ≠ y)) } }

/-- The device-local address of a Y line (spec 03 R98; spec 01 R24). -/
def yAddr (i y : Nat) : Nat := tileBase i + 0x1000 + 64 * y

/-- Whether the compute domain of a holder's field takes a mirror flit: RUN or IDLE (spec 07 R279). -/
def fieldOn (s : State) (f : Nat) : Bool := decide (pwrState s f ≤ 1)

def getAgent (s : State) (f : Nat) : Agent := smGet {} s.agents f
def setAgent (s : State) (f : Nat) (a : Agent) : State := { s with agents := smSet {} s.agents f a }

/-- A line recorded for a field that sleeps, and an epoch (spec 07 R279). -/
def recordLine (s : State) (f m l : Nat) : State :=
  let a := getAgent s f
  setAgent s f { a with recLines := ((128 * m + l) :: a.recLines).eraseDups }
def recordEpoch (s : State) (f m : Nat) : State :=
  let a := getAgent s f
  setAgent s f { a with recEpochs := (m :: a.recEpochs).eraseDups }

/-- A line of mirror `m` marked stale in its holders of field `f` (spec 07 R276). -/
def staleIn (s : State) (f m l : Nat) : State :=
  ((mirTargets s m l).filter (fun x => tileField x.1 == f)).foldl (fun s x => yMark s x.1 x.2 true) s

/-- A change of the user's state of tile `i`: in its save set while its patch is borrowed (spec 05 R192, R193). -/
def onUser (s : State) (i : Nat) (g : Tile → Tile) : State :=
  if lentTile s i then
    match smGet none s.saved i with
    | some t => { s with saved := smSet none s.saved i (some (g t)) }
    | none => s
  else setT s i (g (getT s i))

/-- The predicate of EPRED set in the holders of field `f` (spec 07 R277): as a register write, which finds the predicates held at
their reset values before SRST (spec 02 R82, R83). -/
def epochIn (s : State) (f m : Nat) : State :=
  let e := rd s (A.MIRROR_CFG m) F.MIRROR_CFG_EPRED
  if !s.boot.srst then s
  else ((mirHolders s m).filter (fun i => tileField i == f)).foldl (fun s i =>
    if e = 1 then onUser s i (fun t => { t with p0 := true }) else if e = 2 then onUser s i (fun t => { t with p1 := true }) else s) s

/-! ### Refills through the Y write port -/

/-- A refill of a Y line begins, with good or with inverted parity (spec 07 R275, R276). -/
def startFill (s : State) (i y : Nat) (data : List Byte) (o : FillOwner) (bad : Bool) : State :=
  let t := getT s i
  setT s i { t with m := { t.m with fills := t.m.fills ++ [{ line := y, data := data, owner := o, bad := bad }] } }

/-- 64 bytes that no rule gives, and the state after their use (spec 07 R275, R276). DESIGN CHOICE (assumption log 67). -/
def freeLine (s : State) : State × List Byte :=
  ({ s with fresh := s.fresh + 8 }, (List.range 8).flatMap (fun k => bytesLE 8 (Config.freeWord (s.fresh + k)).toNat))

/-- Tile `i` writes the next word of its first refill that `p` names, in one cycle of the Y write port; the last word makes the line
valid and ends the refill. The wait starts again for the next word (spec 03 R101; spec 07 R275). -/
def fillStep (s : State) (i : Nat) (p : FillOwner → Bool) : State × Option Fill :=
  let t := getT s i
  match t.m.fills.find? (fun x => p x.owner) with
  | none => (s, none)
  | some x =>
    let x := { x with wait := 0 }
    let s := xyWrite (portServed s i 1 (xyAddr i true 0) (xyAddr i true 1024)) i true (16 * x.line + x.moved)
      (BitVec.ofNat 32 (leAt x.data (4 * x.moved) 4))
    let s := if x.bad then { s with xyBad := smSet false s.xyBad (yAddr i x.line / 4 + x.moved) true } else s
    let t := getT s i
    if x.moved < 15 then
      (setT s i { t with m := { t.m with fills := t.m.fills.map (fun z => if z = x then { x with moved := x.moved + 1 } else z) } }, none)
    else (yMark (setT s i { t with m := { t.m with fills := t.m.fills.erase x } }) i x.line false, some x)

/-- The tiles of field `f` with a refill that `p` names. -/
def fillTiles (s : State) (f : Nat) (p : FillOwner → Bool) : List Nat :=
  listedTiles s (fun i => tileField i == f && (getT s i).m.fills.any (fun x => p x.owner))

/-- The refills that `p` names in field `f` are given up. -/
def dropFills (s : State) (f : Nat) (p : FillOwner → Bool) : State :=
  (fillTiles s f p).foldl (fun s i =>
    let t := getT s i
    setT s i { t with m := { t.m with fills := t.m.fills.filter (fun x => !p x.owner) } }) s

/-- Whether a refill belongs to an MPUSH at endpoint `ep`, to the agent's read of a line. -/
def ofPush (ep : Nat) (o : FillOwner) : Bool := match o with | .push e _ => e == ep | .refetch _ _ _ => false
def ofRefetch (f m l : Nat) (o : FillOwner) : Bool := match o with | .push _ _ => false | .refetch a b c => a == f && b == m && c == l
/-- Whether a refill belongs to mirror `m`. -/
def ofMirror (m : Nat) (o : FillOwner) : Bool := match o with | .push _ f => f.mirror.toNat == m | .refetch _ b _ => b == m

/-- The recorded lines and epochs of a field applied (spec 07 R279). -/
def applyRecorded (s : State) (f : Nat) : State :=
  let a := getAgent s f
  let s := a.recLines.foldl (fun s k => if mirrorOn s (k / 128) then staleIn s f (k / 128) (k % 128) else s) s
  let s := a.recEpochs.foldl (fun s m => if mirrorOn s m then epochIn s f m else s) s
  setAgent s f { getAgent s f with recLines := [], recEpochs := [] }

/-- MIRROR_RECORDED_APPLY (spec 07 R279): in a field that runs, or that wakes from RETAIN toward ON. The record of a field that has
not yet reached ON is kept, for it may still go down again. -/
def opMirrorRecordedApply (f : Fin 64) (s : State) : State :=
  if fieldOn s f then applyRecorded s f
  else if pwrState s f = 7 ∧ (getFS s f).wakeFrom = 5 ∧ pwrTarget s f = 0 then setAgent (applyRecorded s f) f (getAgent s f)
  else s

/-- One MPUSH flit of an update. -/
def mpushFlit (src m : Nat) (tag : Nat) (x : Nat × Nat) (bytes : List Byte) : Flit :=
  { net := .dat, dst := BitVec.ofNat 11 (patchPort x.1), src := BitVec.ofNat 11 (patchPort src), op := 2
    tag := BitVec.ofNat 8 tag, tile := BitVec.ofNat 4 (tileU x.1 + 4 * tileV x.1), line := BitVec.ofNat 7 x.2
    mirror := BitVec.ofNat 8 m, data := BitVec.ofNat 512 (leBytes bytes) }

/-- MIRROR_UPDATE (spec 07 R274 to R276; spec 06 R196, R199). One landing slot of the source serves all acknowledgements of an update.
What a push carries of a line with an uncorrectable half is a free value. DESIGN CHOICE (assumption log 67). -/
def opMirrorUpdate (m : Fin 256) (line : Fin 128) (s : State) : State :=
  let x := getMi s m
  let src := mirSrc s m
  if !mirrorOn s m || !x.dirty.contains line.val || decide (smGet 0 x.unacked line ≠ 0) || !fieldRuns s (tileField src) then s
  else match freeTag s (patchPort src) (gwTag0 src) 32 with
    | none => s
    | some tag =>
      let off := 64 * (rd s (A.MIRROR_CFG m) F.MIRROR_CFG_SRC_LINE + line.val)
      let push := rd s (A.MIRROR_CFG m) F.MIRROR_CFG_POLICY == 0
      let targets := mirTargets s m line
      let fields := mirFields s m
      let n := if push then targets.length else fields.length
      let s := setMi s m { x with dirty := x.dirty.filter (fun l => decide (l ≠ line.val))
                                  unacked := smSet 0 x.unacked line n, updated := true, wait := 0 }
      if n = 0 then s
      else
        let r := if push then readHalves s src (halves off 64) else (s, false)
        let s := if push then bankServed r.1 src else r.1
        let x := if r.2 then freeLine s else (s, memRead s (tileBase src + off) 64)
        let s := x.1
        let bytes := x.2
        let dummy : Flit := { net := .snp, dst := 0, src := BitVec.ofNat 11 (patchPort src), tag := BitVec.ofNat 8 tag }
        let s := setLand s (patchPort src) tag (some { req := dummy, wdata := [], owner := .push m line })
        if push then targets.foldl (fun s t => pushOut s (patchPort src) (mpushFlit src m tag t bytes)) s
        else fields.foldl (fun s f => pushOut s (patchPort src)
          { net := .snp, dst := BitVec.ofNat 11 (agentPort f), src := BitVec.ofNat 11 (patchPort src), op := 0
            tag := BitVec.ofNat 8 tag, mirror := BitVec.ofNat 8 m.val, line := BitVec.ofNat 7 line.val }) s

/-- One acknowledgement of an update arrives at the source; the last one frees the landing slot (spec 07 R274). -/
def ackUpdate (s : State) (ep tag m line : Nat) : State :=
  let x := getMi s m
  let n := smGet 0 x.unacked line
  let s := setMi s m { x with unacked := smSet 0 x.unacked line (n - 1) }
  if n ≤ 1 then setLand s ep tag none else s

/-- The DONE of a mirror flit. -/
def mirrorDone (s : State) (ep : Nat) (f : Flit) : State :=
  pushOut s ep { net := .rsp, dst := f.src, src := BitVec.ofNat 11 ep, tag := f.tag }

/-- The tile of a patch port that an MPUSH names. -/
def mpushTile (ep : Nat) (f : Flit) : Nat :=
  tileAt (4 * tileX (ep / 2) + f.tile.toNat % 4) (4 * tileY (ep / 2) + f.tile.toNat / 4)

/-- The line of the region that Y line `y` of holder `i` holds (spec 07 R273). -/
def mirRegionLine (s : State) (m i y : Nat) : Nat :=
  if mirSize s m ≤ 3 then y - rd s (A.MIRROR_CFG m) F.MIRROR_CFG_HOLD_BASE else if tileU i = 0 then y else y + 64

/-- The tile of a patch with a refill of its patch port under way. -/
def pushFill (s : State) (ep : Nat) : Option Nat := (patchTiles (ep / 2)).find? (fun i => (getT s i).m.fills.any (fun x => ofPush ep x.owner))

/-- The next word of the MPUSH refill under way in tile `i`; the last word is followed by DONE (spec 07 R275). -/
def pushStep (s : State) (ep i : Nat) : State :=
  match fillStep s i (ofPush ep) with
  | (s, some x) => match x.owner with
    | .push _ f => mirrorDone s ep f
    | .refetch _ _ _ => s
  | (s, none) => s

/-- MPUSH (spec 07 R275, R279; spec 13 R503: it wakes an IDLE field and is written once the field runs). Each command moves one word
(spec 03 R99, R101). One for a mirror that is disabled, or that does not map the line, writes nothing (R278).
DESIGN CHOICE (assumption log 87). -/
def opMpush (ep : Fin 2048) (s : State) : State :=
  if ep.val % 2 = 1 then s else
  match pushFill s ep with
  | some i =>
    if pwrState s (tileField i) = 1 then wakeReq s (tileField i) else if clockRuns s (tileField i) then pushStep s ep i else s
  | none =>
    match takeFirst s ep .dat (fun f => f.op == 2) with
    | none => s
    | some (f, s') =>
      let i := mpushTile ep f
      let fl := tileField i
      let m := f.mirror.toNat
      if !mirrorOn s m || !(mirTargets s m (mirRegionLine s m i f.line.toNat)).contains (i, f.line.toNat) then mirrorDone s' ep f
      else if pwrState s fl = 1 then wakeReq s fl
      else if pwrState s fl = 0 then
        if clockRuns s fl then pushStep (startFill s' i f.line.toNat (bytesLE 64 f.data.toNat) (.push ep f) false) ep i else s
      else mirrorDone (recordLine s' fl f.mirror.toNat (mirRegionLine s f.mirror.toNat i f.line.toNat)) ep f

/-- The refills of a field that is about to lose its clock end: an MPUSH is answered and its line recorded, and what the agent has read
is to be read again (spec 07 R276, R279). -/
def endFills (s : State) (f : Nat) : State :=
  let all := fun (_ : FillOwner) => true
  let l := (fillTiles s f all).flatMap (fun i => (getT s i).m.fills.map (fun x => (i, x)))
  l.foldl (fun s y => match y.2.owner with
    | .push ep g => mirrorDone (recordLine s f g.mirror.toNat (mirRegionLine s g.mirror.toNat y.1 g.line.toNat)) ep g
    | .refetch a m k =>
      let w := getAgent s a
      setAgent s a { w with work := smSet none w.work (128 * m + k) none }) (dropFills s f all)

/-- INVAL at a mirror agent (spec 07 R276, R279); a flit with a reserved OP is discarded (R254). A read of the line that is outstanding
is to be made again, and a refill from such a read ends; no line of a disabled mirror turns stale (R273). -/
def opInval (f : Fin 64) (s : State) : State :=
  match takeFirst s (agentPort f) .snp (fun x => x.op != 1) with
  | none => s
  | some (x, s) =>
    if x.op ≠ 0 then malformed s
    else
      let m := x.mirror.toNat
      let l := x.line.toNat
      let s := if fieldOn s f then (if mirrorOn s m then staleIn s f m l else s) else recordLine s f m l
      let a := getAgent s f
      let s := match smGet none a.work (128 * m + l) with
        | some w =>
          if w.reading then setAgent s f { a with work := smSet none a.work (128 * m + l) (some { w with again := true }) }
          else if w.filling then
            dropFills (setAgent s f { a with work := smSet none a.work (128 * m + l) none }) f (ofRefetch f m l)
          else s
        | none => s
      mirrorDone s (agentPort f) x

/-- EPOCH at a mirror agent (spec 07 R277, R279). -/
def opEpochSnp (f : Fin 64) (s : State) : State :=
  match takeFirst s (agentPort f) .snp (fun x => x.op == 1) with
  | none => s
  | some (x, s) => if fieldOn s f then epochIn s f x.mirror.toNat else recordEpoch s f x.mirror.toNat

/-- Whether a holder of field `f` has the line stale. -/
def staleHere (s : State) (f m l : Nat) : Bool :=
  (mirTargets s m l).any (fun x => tileField x.1 == f && (getT s x.1).m.yStale.contains x.2)

/-- The read of a line by the agent of field `f` (spec 07 R276): counted each time. -/
def refetchRead (s : State) (f m l : Nat) (w : Refetch) : State :=
  let off := 64 * (rd s (A.MIRROR_CFG m) F.MIRROR_CFG_SRC_LINE + l)
  match sendReq s (agentPort f) 0 256 (.refetch f m l) ⟨devId s, 0x2010⟩ (devId s) (tileBase (mirSrc s m) + off) false 64 [] with
  | .sent s' =>
    let a := getAgent s' f
    let s' := setAgent s' f { a with work := smSet none a.work (128 * m + l) (some { w with reading := true, again := false }) }
    bump (devCount s' 4) (A.MIRROR_STATE m) F.MIRROR_STATE_REFETCHES 1
  | _ => s

/-- One word of the refill that follows a refetch, in every holder of the field that still has one (spec 03 R101; spec 07 R276). -/
def refetchFill (s : State) (f m l : Nat) (w : Refetch) : State :=
  let s := (fillTiles s f (ofRefetch f m l)).foldl (fun s i => (fillStep s i (ofRefetch f m l)).1) s
  if fillTiles s f (ofRefetch f m l) = [] then
    let s := setAgent s f { getAgent s f with work := smSet none (getAgent s f).work (128 * m + l) none }
    if 16 ≤ w.fails then
      report (wr s (A.MIRROR_STATE m) F.MIRROR_STATE_FETCH_ERR 1) f (unitField s f) 0x331 (detail [(m, 1), (l, 1)])
    else s
  else s

/-- MIRROR_REFETCH: the agent starts the read of a stale line, or writes the next word of one that it has read (spec 07 R276; spec 03
R101). -/
def opMirrorRefetch (f : Fin 64) (m : Fin 256) (line : Fin 128) (s : State) : State :=
  let w := (smGet none (getAgent s f).work (128 * m.val + line.val)).getD {}
  if w.filling then (if clockRuns s f then refetchFill s f m line w else if pwrState s f = 1 then wakeReq s f else s)
  else if !mirrorOn s m || !fieldOn s f || !staleHere s f m line || w.reading || decide (w.fails ≠ 0) then s
  else refetchRead s f m line w

/-- The holders of field `f` in which a line is stale, with their Y line. -/
def staleHolders (s : State) (f m l : Nat) : List (Nat × Nat) :=
  (mirTargets s m l).filter (fun x => tileField x.1 == f && (getT s x.1).m.yStale.contains x.2)

/-- The agent of field `f` begins to write a line into those holders (spec 07 R276). -/
def fillStale (s : State) (f m l : Nat) (data : List Byte) (bad : Bool) : State :=
  (staleHolders s f m l).foldl (fun s x => startFill s x.1 x.2 data (.refetch f m l) bad) s

/-- REFETCH_RETRY (spec 07 R276): after 16 failures the line is to be written with inverted parity, word by word as every refill (spec
03 R101), and the last word ends in event 0x331. DESIGN CHOICE (assumption log 67). -/
def opRefetchRetry (f : Fin 64) (m : Fin 256) (line : Fin 128) (s : State) : State :=
  match smGet none (getAgent s f).work (128 * m.val + line.val) with
  | none => s
  | some w =>
    if w.reading || w.filling || w.fails == 0 || !mirrorOn s m then s
    else if w.fails < 16 then refetchRead s f m line w
    else
      let x := freeLine s
      let s := fillStale x.1 f m line x.2 true
      let a := getAgent s f
      refetchFill (setAgent s f { a with work := smSet none a.work (128 * m.val + line.val) (some { w with filling := true }) }) f m line w

/-- The answer of a refetch read (spec 07 R276): it is to be written into the holders of the field in which the line is stale, unless
an INVAL has arrived meanwhile. -/
def refetchDone (s : State) (f m l : Nat) (st : Status) (data : List Byte) : State :=
  let a := getAgent s f
  match smGet none a.work (128 * m + l) with
  | none => s
  | some w =>
    let put := fun (s : State) (x : Option Refetch) =>
      let a := getAgent s f
      setAgent s f { a with work := smSet none a.work (128 * m + l) x }
    if w.again then put s (some { w with reading := false, again := false })
    else if st ≠ .ok then put s (some { w with reading := false, fails := w.fails + 1 })
    else if staleHolders s f m l = [] then put s none
    else put (fillStale s f m l data false) (some { w with reading := false, filling := true })

/-- EPOCH_SEND (spec 07 R277). -/
def opEpochSend (m : Fin 256) (s : State) : State :=
  let x := getMi s m
  let src := mirSrc s m
  if !mirrorOn s m || x.dirty ≠ [] || x.unacked.any (fun u => u.2 != 0) || !x.updated then s
  else
    let e := (rd s (A.MIRROR_STATE m) F.MIRROR_STATE_EPOCH + 1) % 65536
    let s := wr (setMi s m { x with updated := false }) (A.MIRROR_STATE m) F.MIRROR_STATE_EPOCH e
    (mirFields s m).foldl (fun s f => pushOut s (patchPort src)
      { net := .snp, dst := BitVec.ofNat 11 (agentPort f), src := BitVec.ofNat 11 (patchPort src), op := 1
        mirror := BitVec.ofNat 8 m.val, epoch := BitVec.ofNat 16 e }) s

/-! ### The CFG register -/

/-- Every mapped line of every holder marked (spec 07 R278). -/
def markHolders (s : State) (m : Nat) (stale : Bool) : State :=
  (List.range (mirrorLines s m)).foldl (fun s l => (mirTargets s m l).foldl (fun s x => yMark s x.1 x.2 stale) s) s

/-- Whether a CFG value with EN = 1 is refused (spec 07 R278). -/
def mirrorBad (v : Reg) : Bool :=
  let g := getFld v
  let size := g F.MIRROR_CFG_SIZE
  let pl := g F.MIRROR_CFG_HOLD_PL
  tileKind (g F.MIRROR_CFG_SRC_IDX) != .b
    || decide (1024 < g F.MIRROR_CFG_SRC_LINE + 16 * (size + 1))
    || decide (pl < 16 ∨ 30 < pl) || g F.MIRROR_CFG_HOLD_IDX % 2 ^ (30 - pl) != 0
    || (decide (size ≤ 3) && decide (64 < g F.MIRROR_CFG_HOLD_BASE + 16 * (size + 1)))
    || (decide (4 ≤ size) && g F.MIRROR_CFG_HOLD_BASE != 0)
    || g F.MIRROR_CFG_EPRED == 3

/-- The refills of a mirror end, an MPUSH with its answer; the reads of its lines that agents have under way are to be made again, and
their failures count no more (spec 07 R278). DESIGN CHOICE (assumption log 87). -/
def stopFills (s : State) (m : Nat) : State :=
  let is := listedTiles s (fun i => (getT s i).m.fills.any (fun x => ofMirror m x.owner))
  let l := is.flatMap (fun i => (getT s i).m.fills.filter (fun x => ofMirror m x.owner))
  let s := is.foldl (fun s i =>
    let t := getT s i
    setT s i { t with m := { t.m with fills := t.m.fills.filter (fun x => !ofMirror m x.owner) } }) s
  let s := l.foldl (fun s x => match x.owner with
    | .push ep g => mirrorDone s ep g
    | .refetch _ _ _ => s) s
  (mirFields s m).foldl (fun s f =>
    let a := getAgent s f
    let work := (List.range 128).foldl (fun w k => match smGet none w (128 * m + k) with
      | some x => smSet none w (128 * m + k) (if x.reading then some { reading := true, again := true } else none)
      | none => w) a.work
    setAgent s f { a with work := work }) s

/-- Disable a mirror: its updates stop, its holder lines are valid, its data stay (spec 07 R278).
DESIGN CHOICE (assumption log 87). -/
def mirrorOff (s : State) (m : Nat) : State :=
  if mirrorOn s m then
    let s := stopFills s m
    setMi (wr (markHolders s m false) (A.MIRROR_CFG m) F.MIRROR_CFG_EN 0) m { getMi s m with dirty := [], updated := false }
  else s

/-- A write of NOC_MIRROR[m].CFG by the warden or by MIRROR_SET: the state, and whether it was refused (spec 07 R278).
DESIGN CHOICE (assumption log 87). -/
def mirrorCfg (s : State) (m : Nat) (v : Reg) : State × Bool :=
  let s := mirrorOff s m
  let s := setR s (A.MIRROR_CFG m) (writeFlds true [F.MIRROR_CFG_EN, F.MIRROR_CFG_POLICY, F.MIRROR_CFG_EPRED, F.MIRROR_CFG_SIZE,
    F.MIRROR_CFG_HOLD_BASE, F.MIRROR_CFG_HOLD_PL, F.MIRROR_CFG_HOLD_IDX, F.MIRROR_CFG_SRC_IDX, F.MIRROR_CFG_SRC_LINE]
    (getR s (A.MIRROR_CFG m)) v)
  if !mirrorOn s m then (s, false)
  else if mirrorBad v then
    let s := wr (wr s (A.MIRROR_CFG m) F.MIRROR_CFG_EN 0) (A.MIRROR_STATE m) F.MIRROR_STATE_CFG_ERR 1
    (report s 200 (unitDev s) 0x330 (detail [(m, 1)]), true)
  else
    (wr (setMi (markHolders s m true) m { getMi s m with dirty := [], updated := false }) (A.MIRROR_STATE m) F.MIRROR_STATE_EPOCH 0, false)

/-- MIRROR_CFG_WRITE (spec 07 R278). -/
def opMirrorCfgWrite (m : Fin 256) (v : Reg) (s : State) : State := (mirrorCfg s m v).1

/-- A field's clearing marks the lines of the mirrors sourced in it dirty and those held in it stale (spec 07 R274, R279). -/
def mirrorsCleared (s : State) (f : Nat) : State :=
  (mirrorSet s).foldl (fun s m =>
    let s := if tileField (mirSrc s m) = f then setMi s m { getMi s m with dirty := List.range (mirrorLines s m) } else s
    (List.range (mirrorLines s m)).foldl (fun s l => staleIn s f m l) s) s

/-- Whether a mirror sourced in field `f` keeps it in DRAINING (spec 07 R279). -/
def mirrorHolds (s : State) (f : Nat) : Bool :=
  (mirrorSet s).any (fun m => tileField (mirSrc s m) == f && (decide ((getMi s m).dirty ≠ []) || (getMi s m).unacked.any (fun u => u.2 != 0)))

/-- CNT_CLEAR (spec 07 R283): the write of NOC_CTL, then every counter of R284 at 0. -/
def opCntClear (v : Reg) (s : State) : State :=
  let s := setR s A.NOC_CTL (writeFlds true [F.NOC_CTL_RETRY_MAX, F.NOC_CTL_BACKOFF_MAX, F.NOC_CTL_BACKOFF_BASE, F.NOC_CTL_THROTTLE,
    F.NOC_CTL_STARVE, F.NOC_CTL_CNT_FREEZE] (getR s A.NOC_CTL) v)
  if !bit v.toNat 1 then s
  else
    let s := (List.range 4).foldl (fun s n => (List.range 6).foldl (fun s k => wr s (A.NET_CNT n k) F.NET_CNT_COUNT 0) s) s
    (List.range 6).foldl (fun s k => wr s (A.DEV_CNT k) F.DEV_CNT_COUNT 0) s

/-! ### The meanings of the commands of this file -/

/-- MIRROR_UPDATE (spec 07 R274). -/
def execMirrorUpdate (m : Fin 256) (line : Fin 128) (s : State) : Host.Outcome State Fault Refusal := .next (opMirrorUpdate m line s)
/-- MPUSH (spec 07 R275). -/
def execMpush (ep : Fin 2048) (s : State) : Host.Outcome State Fault Refusal := .next (opMpush ep s)
/-- INVAL (spec 07 R276). -/
def execInval (f : Fin 64) (s : State) : Host.Outcome State Fault Refusal := .next (opInval f s)
/-- MIRROR_REFETCH (spec 07 R276). -/
def execMirrorRefetch (f : Fin 64) (m : Fin 256) (line : Fin 128) (s : State) : Host.Outcome State Fault Refusal :=
  .next (opMirrorRefetch f m line s)
/-- REFETCH_RETRY (spec 07 R276). -/
def execRefetchRetry (f : Fin 64) (m : Fin 256) (line : Fin 128) (s : State) : Host.Outcome State Fault Refusal :=
  .next (opRefetchRetry f m line s)
/-- EPOCH_SEND (spec 07 R277). -/
def execEpochSend (m : Fin 256) (s : State) : Host.Outcome State Fault Refusal := .next (opEpochSend m s)
/-- EPOCH (spec 07 R277). -/
def execEpochSnp (f : Fin 64) (s : State) : Host.Outcome State Fault Refusal := .next (opEpochSnp f s)
/-- MIRROR_RECORDED_APPLY (spec 07 R279). -/
def execMirrorRecordedApply (f : Fin 64) (s : State) : Host.Outcome State Fault Refusal := .next (opMirrorRecordedApply f s)
/-- MIRROR_CFG_WRITE (spec 07 R278). -/
def execMirrorCfgWrite (m : Fin 256) (value : Reg) (s : State) : Host.Outcome State Fault Refusal :=
  .next (hostAccess (opMirrorCfgWrite m value) s)
/-- CNT_CLEAR (spec 07 R283). -/
def execCntClear (value : Reg) (s : State) : Host.Outcome State Fault Refusal := .next (hostAccess (opCntClear value) s)

end Sys2Proof.Machine
end

