-- ==== Sys2Proof/Machine/Power.lean ====
section
/-! DEFINITION. Clocks and field power: burner codes and voltages, the states of a field's compute domain, wakes, clearing,
field resets, the WAKE and POWER commands, deep sleep and device time (spec 13 R485 to R508, R512 to R516). -/

namespace Sys2Proof.Machine

/-! ### Burner codes and voltages -/

/-- Whether the part is of the 16 grade (spec 00 R3). DESIGN CHOICE (assumption log 19). -/
def grade16 (s : State) : Bool := rd s A.ID_CAPS F.ID_CAPS_GRADE == 16
/-- The grade maximum as a burner code (spec 13 R490). -/
def gradeMax (s : State) : Nat := if grade16 s then 88 else 120
/-- The grade's design maximum of the power ceiling in W (spec 13 R508, R520). -/
def gradeWatts (s : State) : Nat := if grade16 s then 360 else 450

/-- The voltage that a code needs in quarter `q`, in mV (spec 13 R513). -/
def needVolt (s : State) (q c : Nat) : Nat :=
  let fld := if q = 0 then F.PWR_AVS_CTL_VOFFSET0 else if q = 1 then F.PWR_AVS_CTL_VOFFSET1
    else if q = 2 then F.PWR_AVS_CTL_VOFFSET2 else F.PWR_AVS_CTL_VOFFSET3
  let khz := 500000 + 12500 * c
  -- in µV, so that the rounding up sees the fraction
  let uv : Int := (if khz ≤ 1000000 then 650000 else 650000 + 200 * ((khz : Int) - 1000000) / 1000)
    + 1000 * sintOf 8 (rd s A.PWR_AVS_CTL fld)
  let mv : Int := (uv + 4999) / 5000 * 5
  (max 650 (min 850 mv)).toNat

/-- The confirmed voltage of a quarter: 650 mV before its first read-back (spec 15 R562); every rail counts as 850 mV while the
device sends no frames (spec 13 R515). -/
def voltOf (s : State) (q : Nat) : Nat :=
  if rdB s A.PWR_AVS_CTL F.PWR_AVS_CTL_EN then smGet 650 s.confirmed q else 850

/-- Whether quarter `q` has had an AVSBus read-back: its target is in force from then on (spec 13 R512, R521; spec 15 R562). -/
def avsRead (s : State) (q : Nat) : Bool := rd s (A.PWR_AVS q) F.PWR_AVS_V_SET != 0

/-- The highest code that the confirmed voltage supports, 40 (1.0 GHz) at most until the first read-back; code 0 where it supports none
(spec 13 R491, R514; spec 15 R562). DESIGN CHOICE (assumption log 79). -/
def voltCode (s : State) (q : Nat) : Nat :=
  let c := ((List.range 121).filter (fun c => decide (needVolt s q c ≤ voltOf s q))).foldl max 0
  if rdB s A.PWR_AVS_CTL F.PWR_AVS_CTL_EN && !avsRead s q then min 40 c else c

/-- The code that a field asks for: FREQ clamped and CAP (spec 13 R490, R491). -/
def wantCode (s : State) (f : Nat) : Nat :=
  min (min (rd s (A.PWR_CLK f) F.PWR_CLK_FREQ) (gradeMax s)) (rd s (A.PWR_CLK f) F.PWR_CLK_CAP)

/-- The code in use of a field worked out again (spec 13 R491). -/
def recode (s : State) (f : Nat) : State :=
  let c := if pwrState s f = 8 then 40 else min (wantCode s f) (voltCode s (f / 16))
  wr s (A.PWR_CLK f) F.PWR_CLK_EFFECTIVE c

/-- The fields of a quarter. -/
def quarterFields (q : Nat) : List Nat := (List.range 16).map (· + 16 * q)

/-- A FREQ above the grade maximum is clamped, flagged and reported; FREQ keeps its value (spec 13 R490). -/
def clampFreq (s : State) (f : Nat) : State :=
  if gradeMax s < rd s (A.PWR_CLK f) F.PWR_CLK_FREQ then
    report (wr s (A.PWR_STATUS f) F.PWR_STATUS_FREQ_CLAMP 1) 204 (unitField s f) 0x102
      (detail [(f, 1), (rd s (A.PWR_CLK f) F.PWR_CLK_FREQ, 1)])
  else s

/-- FREQUENCY_CHANGE: a write of PWR_FIELD[f].CLK (spec 13 R490 to R492). -/
def writeClk (s : State) (f : Nat) (v : Reg) : State :=
  recode (clampFreq (setR s (A.PWR_CLK f) (writeFlds true L.PWR_CLK (getR s (A.PWR_CLK f)) v)) f) f
def opFrequencyChange (f : Fin 64) (v : Reg) (s : State) : State := writeClk s f v

/-- Whether a field's compute supply is on (spec 13 R497). -/
def supplyOn (s : State) (f : Nat) : Bool := let st := pwrState s f; st != 5 && st != 6 && st != 7

/-- AVS_UPDATE: the target of quarter `q` is written and the rail read back as `mv` (spec 13 R512 to R515). A lowered target
lowers the confirmed voltage at once. -/
def opAvsUpdate (q : Fin 4) (mv : BitVec 16) (s : State) : State :=
  if !rdB s A.PWR_AVS_CTL F.PWR_AVS_CTL_EN then s else
  let top := ((quarterFields q).filter (supplyOn s)).foldl (fun a f =>
    max a (if pwrState s f = 8 then 40 else wantCode s f)) 0
  let tgt := needVolt s q top
  let s := wr (wr s (A.PWR_AVS q) F.PWR_AVS_V_SET tgt) (A.PWR_AVS q) F.PWR_AVS_V_READ mv.toNat
  { s with confirmed := smSet 650 s.confirmed q (min (smGet 650 s.confirmed q) tgt) }

/-- AVS_SETTLE: the read-back and the settle time allow a waiting rise; none waits before the first target is in force (spec 13
R514). -/
def opAvsSettle (q : Fin 4) (s : State) : State :=
  let tgt := rd s (A.PWR_AVS q) F.PWR_AVS_V_SET
  if !rdB s A.PWR_AVS_CTL F.PWR_AVS_CTL_EN || !avsRead s q || decide (rd s (A.PWR_AVS q) F.PWR_AVS_V_READ + 10 < tgt) then s
  else (quarterFields q).foldl recode { s with confirmed := smSet 650 s.confirmed q tgt }

/-- AVS_ERROR (spec 13 R515). -/
def opAvsError (q : Fin 4) (mv : BitVec 16) (s : State) : State :=
  if !rdB s A.PWR_AVS_CTL F.PWR_AVS_CTL_EN then s else
  let s := wr (wr s (A.PWR_AVS q) F.PWR_AVS_ERR 1) (A.PWR_AVS q) F.PWR_AVS_V_READ mv.toNat
  (quarterFields q).foldl recode (report s 204 (unitDev s) 0x120 (detail [(q.val, 1), (mv.toNat, 2)]))

/-- POWER_ESTIMATE (spec 13 R507, R508). CAPPED shows whether CAP is below 120. -/
def opPowerEstimate (est : BitVec 16) (s : State) : State :=
  let s := wr s A.PWR_CEILING F.PWR_CEILING_EST est.toNat
  if !rdB s A.PWR_CEILING F.PWR_CEILING_EN then s else
  let watts := min (rd s A.PWR_CEILING F.PWR_CEILING_WATTS) (gradeWatts s)
  let capped := fun (s : State) => (List.range 64).any (fun f => decide (rd s (A.PWR_CLK f) F.PWR_CLK_CAP < 120))
  let before := capped s
  let s := ((List.range 64).filter (fun f => pwrState s f == 0)).foldl (fun s f =>
    let c := rd s (A.PWR_CLK f) F.PWR_CLK_CAP
    let c := if watts < est.toNat then c - 4
      else if (est.toNat : Int) < (watts : Int) - rd s A.PWR_CEILING F.PWR_CEILING_HYST then min 120 (c + 1) else c
    let s := wr (wr s (A.PWR_CLK f) F.PWR_CLK_CAP c) (A.PWR_STATUS f) F.PWR_STATUS_CAPPED (b2n (decide (c < 120)))
    recode s f) s
  if !before && capped s then report s 204 (unitDev s) 0x110 (detail [(est.toNat, 2)]) else s

/-! ### Field states -/

/-- The state code of a field, with its clocks (spec 13 R496, R497): the transit clock runs whenever the compute clock runs. -/
def setPwr (s : State) (f st : Nat) : State :=
  let run := !tripped s && (st == 0 || st == 2 || st == 3 || st == 8)
  let s := wr (wr s (A.PWR_STATUS f) F.PWR_STATUS_STATE st) (A.PWR_STATUS f) F.PWR_STATUS_COMPUTE_CLK (b2n run)
  let s := if run then setFS (wr s (A.PWR_STATUS f) F.PWR_STATUS_TRANSIT_CLK 1) f { getFS s f with burner := true } else s
  recode s f

/-- The code that a WAKE or POWER command writes (spec 13 R498). -/
def powerCode (c : TreeCmd) : Nat := if c.cmd = 8 then 0 else c.param.toNat % 8

/-- Whether a field is in the end state of a target code (spec 13 R498). -/
def atEnd (s : State) (f code : Nat) : Bool :=
  let st := pwrState s f
  if code = 0 then decide (st ≤ 1) else if code = 1 then st == 4 else if code = 2 then st == 5 else st == 6

/-- The WAKE and POWER commands that wait for field `f` (spec 13 R498). -/
def powerRuns (s : State) (f : Nat) : List (Nat × TreeRun) :=
  (runList s).filter (fun x => (x.2.cmd.cmd == 8 || x.2.cmd.cmd == 9) && x.2.left.contains f)

/-- The commands whose field has reached its end state move on. -/
def powerReached (s : State) (f : Nat) : State :=
  ((powerRuns s f).filter (fun x => atEnd s f (powerCode x.2.cmd))).foldl (fun s x =>
    match getRun s x.1 with
    | some r => checkRun (setRun s x.1 (some { r with left := r.left.erase f })) x.1
    | none => s) s

/-- The commands for which field `f` fails with a status (spec 13 R498). -/
def powerFail (s : State) (f : Nat) (st : Status) (p : TreeCmd → Bool) : State :=
  ((powerRuns s f).filter (fun x => p x.2.cmd)).foldl (fun s x =>
    match getRun s x.1 with
    | some r => checkRun (setRun s x.1 (some { r with left := r.left.erase f, fails := r.fails ++ [(f, st)] })) x.1
    | none => s) s

/-- The ingress entries of a field's patch ports that satisfy `p`. -/
def fieldIngress (s : State) (f : Nat) (p : Ingress → Bool) : List (Nat × Nat) :=
  (s.eps.filter (fun x => x.1 % 2 == 0 && epField x.1 == f)).flatMap (fun x =>
    x.2.ingress.filterMap (fun y => match y.2 with | some g => if p g then some (x.1, y.1) else none | none => none))

/-- The B-tiles of a field that are not at their factory value. -/
def fieldBTiles (s : State) (f : Nat) : List Nat := listedTiles s (fun i => tileField i == f && tileKind i == .b)

/-- Held queue requests of a field released (spec 06 R220, R228). -/
def releaseField (s : State) (f : Nat) (st : Status) : State :=
  (fieldBTiles s f).foldl (fun s i => [0, 1, 2, 3].foldl (fun s n => releaseHeld s i n st) s) s

/-- A field begins to drain (spec 13 R500; spec 07 R272; spec 06 R228). DEDUCED (assumption log 29). -/
def beginDrain (s : State) (f : Nat) : State :=
  let s := releaseField (setPwr s f 2) f .domainDown
  { s with eps := s.eps.map (fun x => if x.1 % 2 == 0 && epField x.1 == f then
      (x.1, { x.2 with ingress := x.2.ingress.map (fun y => (y.1, y.2.map (fun g => { g with old := true }))) }) else x) }

/-- Requests that a field in isolation does not serve are answered (spec 07 R272). DEDUCED (assumption log 29). -/
def sweepDown (s : State) (f : Nat) : State :=
  (fieldIngress s f (fun g => !privileged s (reqKey g.req) g.remote)).foldl (fun s x => answerDown s x.1 x.2) s

/-- The bridle cells of a field engage; words held across SINK sides are discarded and counted (spec 04 R141, R142; spec 13
R500). -/
def engageField (s : State) (f : Nat) : State :=
  let s := setFS s f { getFS s f with engaged := true }
  (listedTiles s (fun i => tileField i == f)).foldl (fun s i =>
    [0, 1, 2, 3].foldl (fun s sd => if bit (getT s i).static.toNat (229 - sd) then dumpSide s i sd else s) s) s

/-- A word that stands before a field whose compute clock stops raises the wake request: on the read side of an edge group, or in a
seam buffer of a HOLD side (spec 01 R27; spec 04 R140, R142; spec 06 R238). -/
def wakeHeld (s : State) (f : Nat) : State :=
  if (List.range 16).any (fun n => tileField (edgeTile n) == f && (smGet {} s.groups n).readSide.any (fun w => w.isSome))
      || (pwrState s f != 1 && (listedTiles s (fun i => tileField i == f)).any (fun i => (getT s i).ends.any (fun x => x.2.seam ≠ [])))
  then wakeReq s f else s

/-- A field enters ISOLATING (spec 13 R500). -/
def beginIso (s : State) (f : Nat) : State :=
  let s := setFS s f { getFS s f with heading := pwrTarget s f, isoDone := false }
  wakeHeld (sweepDown (releaseField (engageField (setPwr (endFills s f) f 3) f) f .domainDown) f) f

/-- A tile's compute contents lost with its supply: words in latches, pipelines, arriving ends and tree port, and gateway
requests (spec 04 R134; spec 13 R500). Seam buffers, contexts and the static frame are in the transit domain. -/
def loseTile (t : Tile) : Tile :=
  { t with latches := [], pipe := [], treePort := none, chainIn := none, stalled := false, inject := none
           ends := t.ends.filterMap (fun x => if x.2.seam = [] then none else some (x.1, { seam := x.2.seam }))
           b := { t.b with gw := [], writeBack := [], lastWrite := none } }

/-- Change every tile of a field that is not at its factory value. -/
def mapField (s : State) (f : Nat) (g : Nat → Tile → Tile) : State :=
  (listedTiles s (fun i => tileField i == f)).foldl (fun s i => setT s i (g i (getT s i))) s

/-- A tile's registers at their reset values (spec 02 R83; spec 03 R108; spec 05 R180; spec 06 R227): what stays is the
contexts, the static frame, the seam buffers, the SINK counters, the stale marks of Y lines and, under `keepGw`, GW_BASE. -/
def resetTile (s : State) (keepGw : Bool) (i : Nat) (t : Tile) : Tile :=
  let n : Tile := { static := t.static, slots := t.slots, sinkCnt := t.sinkCnt, activeAt := (getFS s (tileField i)).cycles
                    ends := t.ends.filterMap (fun x => if x.2.seam = [] then none else some (x.1, { seam := x.2.seam }))
                    m := { yStale := t.m.yStale, fills := t.m.fills }
                    b := { gwBase := if keepGw then t.b.gwBase else [] } }
  if tileKind i = .m then loadGens n else n

/-- BANK_OWNER and NET_WAIT of a field's B-tiles as their static frames give them (spec 06 R205, R232). -/
def resetOwners (s : State) (f : Nat) : State :=
  (((List.range 256).map (· + 256 * f)).filter (fun i => tileKind i == .b)).foldl (fun s i => ownerDefault (loadNetWait s i) i) s

/-- Injections pending in a field end with it (spec 05 R186; spec 13 R516). -/
def dropInjects (s : State) (f : Nat) : State :=
  ((runList s).filter (fun x => x.2.cmd.cmd == 5 && x.2.left.any (fun i => tileField i == f))).foldl (fun s x =>
    match getRun s x.1 with
    | some r => checkRun (setRun s x.1 (some { r with left := r.left.filter (fun i => decide (tileField i ≠ f))
                                                      fails := r.fails ++ [(f, .aborted)] })) x.1
    | none => s) s

/-- Whether a partial load of field `f` runs that nothing has failed yet: the field's power-off fails it (spec 12 R472). -/
def partialLoadOf (s : State) (f : Nat) : Bool :=
  s.load.active && s.load.body && s.load.fail.isNone && bit (leAt s.load.hdr 8 4) 2 && leAt s.load.hdr 13 1 == f

/-- A field enters OFF: compute contents are lost (spec 13 R500; spec 04 R134). -/
def enterOff (s : State) (f : Nat) : State :=
  let s := dropInjects (mapField (setPwr s f 6) f (fun _ t => loseTile t)) f
  if partialLoadOf s f then { s with load := { s.load with fail := some (0x0A, .timeout) } } else s

/-- A field reaches ON (spec 13 R499): recorded mirror work is applied first (spec 07 R279). -/
def enterOn (s : State) (f : Nat) : State := powerReached (setPwr (applyRecorded s f) f 0) f

/-- The wake from RETAIN or OFF begins: the supply rises (spec 13 R499). -/
def beginWake (s : State) (f from_ : Nat) : State :=
  let s := setFS s f { getFS s f with wakeFrom := from_ }
  let n := (rd s (A.PWR_STATUS f) F.PWR_STATUS_WAKES + 1) % 2 ^ 32
  setPwr (wr (wr s (A.PWR_STATUS f) F.PWR_STATUS_WAKES n) (A.PWR_STATUS f) F.PWR_STATUS_WAKE_PENDING 0) f 7

/-- The borrowed patches of a field. -/
def lentPatches (s : State) (f : Nat) : List Nat := s.borrowed.filter (fun p => p / 16 == f)

/-- From a state in which the field rests, it moves toward its target (spec 13 R499). OFF and RETAIN are reached by
OFF_ENTRY and RETAIN_ENTRY. A field with a borrowed patch leaves RUN once the borrow has yielded (spec 05 R193). Under a trip
it keeps its state (spec 13 R511). -/
def seekTarget (s : State) (f : Nat) : State :=
  let st := pwrState s f
  let tg := pwrTarget s f
  if tripped s then s
  else if st ≤ 1 then (if tg = 0 ∨ lentPatches s f ≠ [] then s else beginDrain s f)
  else if st = 2 then (if tg = 0 then setPwr (applyRecorded s f) f 0 else s)
  else if st = 3 then (if tg = 0 then s else setFS s f { getFS s f with heading := tg })
  else if st = 4 then (if tg = 0 then enterOn s f else s)
  else if st = 5 then (if tg ≤ 1 then beginWake s f 5 else s)
  else if st = 6 then (if tg ≤ 2 then beginWake s f 6 else s)
  else s

/-- TARGET written by one of its sources (spec 13 R498): a code of 4 to 7 is discarded; a change moves the field, and ends
with ABORTED the commands that wait for another code. DEDUCED (assumption log 61). -/
def setTarget (s : State) (f code : Nat) : State :=
  if 4 ≤ code ∨ pwrTarget s f = code then s
  else
    let s := wr s (A.PWR_CTL f) F.PWR_CTL_TARGET code
    powerReached (seekTarget (powerFail s f .aborted (fun c => decide (powerCode c ≠ code))) f) f

/-- The end of ISOLATING, or of an entry: RESTART_MERGED when the target is ON (spec 13 R499). -/
def restMerged (s : State) (f : Nat) : State :=
  let s := powerReached s f
  if pwrTarget s f = 0 then
    let s := wr s (A.PWR_STATUS f) F.PWR_STATUS_RESTART_MERGED 1
    powerReached (seekTarget (report s 204 (unitField s f) 0x103 (detail [(f, 1), (pwrState s f, 1)])) f) f
  else s

/-- DRAIN_END (spec 13 R500; spec 07 R272, R279); like every step of a field it waits while a trip keeps the burner stopped (R511). -/
def opDrainEnd (f : Fin 64) (s : State) : State :=
  if pwrState s f = 2 ∧ !tripped s ∧ fieldDrained s f ∧ fieldIngress s f (fun g => g.old) = [] ∧ !mirrorHolds s f
      ∧ !(runList s).any (fun x => x.2.acted && x.2.here.contains f.val) then beginIso s f else s

/-- DRAIN_LIMIT (spec 13 R501; spec 07 R272, R279). -/
def opDrainLimit (f : Fin 64) (s : State) : State :=
  if pwrState s f ≠ 2 ∨ tripped s then s
  else if pwrTarget s f ≤ 1 then
    let s := powerFail s f .timeout (fun c => powerCode c == 1)
    let s := setPwr (wr (applyRecorded s f) (A.PWR_CTL f) F.PWR_CTL_TARGET 0) f 0
    let s := wr s (A.PWR_STATUS f) F.PWR_STATUS_DRAIN_CANCELLED 1
    powerReached (powerFail (report s 204 (unitField s f) 0x104 (detail [(f.val, 1)])) f .aborted (fun c => decide (powerCode c ≠ 0))) f
  else if mirrorHolds s f then s
  else
    let tg := pwrTarget s f
    let s := (fieldIngress s f (fun g => g.old)).foldl (fun s x => answer s x.1 x.2 .aborted []) s
    let s := wr s (A.PWR_STATUS f) F.PWR_STATUS_DRAIN_FORCED 1
    beginIso (report s 204 (unitField s f) 0x101 (detail [(f.val, 1), (tg, 1)])) f

/-- ISOLATING: the isolating step completes (spec 13 R500). -/
def opIsolating (f : Fin 64) (s : State) : State :=
  if pwrState s f ≠ 3 ∨ tripped s ∨ ((getFS s f).isoDone ∧ 2 ≤ (getFS s f).heading) then s
  else if (getFS s f).heading ≤ 1 then restMerged (setFS (setPwr s f 4) f { getFS s f with isoDone := false }) f
  else setFS s f { getFS s f with isoDone := true }

/-- Whether the supply of a field is on its way to the state of code `code`. -/
def goingTo (s : State) (f code : Nat) : Bool :=
  (pwrState s f == 3 && (getFS s f).isoDone && (getFS s f).heading == code)
    || (pwrState s f == 4 && pwrTarget s f == code) || (pwrState s f == 5 && code == 3 && pwrTarget s f == 3)

/-- RETAIN_ENTRY (spec 13 R499, R500). -/
def opRetainEntry (f : Fin 64) (s : State) : State :=
  if goingTo s f 2 ∧ !tripped s then restMerged (setFS (setPwr s f 5) f { getFS s f with isoDone := false }) f else s

/-- OFF_ENTRY (spec 13 R499, R500). -/
def opOffEntry (f : Fin 64) (s : State) : State :=
  if goingTo s f 3 ∧ !tripped s then restMerged (setFS (enterOff s f) f { getFS s f with isoDone := false }) f else s

/-- A wake ends in the state of the target (spec 13 R499; spec 07 R272). -/
def wakeEnd (s : State) (f : Nat) : State :=
  let tg := pwrTarget s f
  if tg = 0 then enterOn s f
  else if tg = 1 then powerReached (sweepDown (setPwr s f 4) f) f
  else
    let s := if tg = 2 then setPwr s f 5 else enterOff s f
    let held := fieldIngress s f (fun _ => true)
    let s := if rdB s (A.PWR_CTL f) F.PWR_CTL_POLICY then (if held = [] then s else wakeReq s f)
      else held.foldl (fun s x => answerDown s x.1 x.2) s
    powerReached (wakeHeld s f) f

/-- WAKING: the supply has reached full (spec 13 R499, R500). -/
def opWaking (f : Fin 64) (s : State) : State :=
  if pwrState s f ≠ 7 ∨ tripped s then s
  else if (getFS s f).wakeFrom = 5 then wakeEnd s f else setPwr s f 8

/-- What clearing does to memories and tiles (spec 13 R505; spec 04 R134; spec 06 R227; spec 07 R274, R279). -/
def clearField (s : State) (f : Nat) : State :=
  let lo := tileBase (256 * f)
  let n := 256 * 65536
  let out := fun (k d : Nat) => decide (k * d < lo ∨ lo + n ≤ k * d)
  let s := { memZero s lo n with
    eccErr := s.eccErr.filter (fun x => out x.1 8), xyBad := s.xyBad.filter (fun x => out x.1 4)
    tagStore := s.tagStore.filter (fun x => decide (x.1 / 4096 / 256 ≠ f))
    tagBad := s.tagBad.filter (fun x => decide (x.1 / 4096 / 256 ≠ f)) }
  mirrorsCleared (resetOwners (mapField s f (resetTile s false)) f) f

/-- CLEARING (spec 13 R505, R499); a trip stops the burner (R511). -/
def opClearing (f : Fin 64) (s : State) : State :=
  if pwrState s f ≠ 8 ∨ tripped s then s else wakeEnd (clearField s f) f

/-- COMPUTE_WAKE: a pending wake request acts (spec 13 R502); under a trip it waits, and the field keeps its state (R511). -/
def opComputeWake (f : Fin 64) (s : State) : State :=
  if !rdB s (A.PWR_STATUS f) F.PWR_STATUS_WAKE_PENDING || tripped s then s else
  let st := pwrState s f
  let done := wr s (A.PWR_STATUS f) F.PWR_STATUS_WAKE_PENDING 0
  if st = 1 then
    let n := (rd s (A.PWR_STATUS f) F.PWR_STATUS_WAKES + 1) % 2 ^ 32
    powerReached (setPwr (wr done (A.PWR_STATUS f) F.PWR_STATUS_WAKES n) f 0) f
  else if st = 5 ∨ st = 6 then
    (if rdB s (A.PWR_CTL f) F.PWR_CTL_POLICY then setTarget done f 0 else s)
  else if st = 0 ∨ st = 7 ∨ st = 8 then done else s

/-- Whether a tree command is on its way to a field. -/
def treeBusy (s : State) (f : Nat) : Bool :=
  (runList s).any (fun x => x.2.cmd.cmd != 8 && x.2.cmd.cmd != 9
    && (x.2.todo.contains f || x.2.here.contains f || (x.2.cmd.cmd == 5 && x.2.left.any (fun i => tileField i == f))))

/-- IDLE_ENTRY (spec 13 R503). A field with a borrowed patch enters IDLE once the borrow has yielded (spec 05 R193). -/
def opIdleEntry (f : Fin 64) (s : State) : State :=
  if pwrState s f = 0 ∧ pwrTarget s f = 0 ∧ rdB s (A.PWR_CTL f) F.PWR_CTL_AUTO_IDLE ∧ fieldQuiet s f
      ∧ fieldIngress s f (fun _ => true) = [] ∧ !rdB s (A.PWR_STATUS f) F.PWR_STATUS_WAKE_PENDING ∧ !treeBusy s f
      ∧ lentPatches s f = [] ∧ !tripped s
  then wakeHeld (setPwr s f 1) f else s

/-- FIELD_POWER_UP: the next field of a quarter that is OFF from cold reset and whose target is not, once the defaults image has given
the targets (spec 13 R506, R499). DEDUCED (assumption log 61). -/
def opFieldPowerUp (q : Fin 4) (s : State) : State :=
  if s.defaultsDue || tripped s then s
  else match (quarterFields q).find? (fun f => pwrState s f == 6 && decide (pwrTarget s f ≤ 2)) with
  | some f => beginWake s f 6
  | none => s

/-! ### The CTL register -/

/-- A field reset (spec 13 R516). Borrows of the field end first, so that slot 15 holds the user's frame.
DEDUCED (assumption log 61). -/
def fieldReset (s : State) (f : Nat) : State :=
  let s := (lentPatches s f).foldl endBorrow s
  let s := (fieldIngress s f (fun _ => true)).foldl (fun s x => answer s x.1 x.2 .aborted []) s
  let s := mapField s f (resetTile s true)
  let s := dropInjects (resetOwners s f) f
  report s 204 (unitField s f) 0x105 (detail [(f, 1)])

/-- A write of PWR_FIELD[f].CTL by the warden (spec 13 R498, R516, R519). DEDUCED (assumption log 61). -/
def writePwrCtl (s : State) (f : Nat) (v : Reg) : State :=
  let code := getFld v F.PWR_CTL_TARGET
  let s := setR s (A.PWR_CTL f) (writeFlds true [F.PWR_CTL_DRAIN_LIMIT, F.PWR_CTL_AUTO_IDLE, F.PWR_CTL_POLICY] (getR s (A.PWR_CTL f)) v)
  let s := setTarget s f code
  if getFld v F.PWR_CTL_FRESET ≠ 1 then s
  else if pwrState s f ≤ 1 then fieldReset s f
  else wr s (A.PWR_STATUS f) F.PWR_STATUS_FRESET_IGNORED 1

/-- TARGET_WRITE (spec 13 R499). -/
def opTargetWrite (f : Fin 64) (v : Reg) (s : State) : State := writePwrCtl s f v
/-- FIELD_RESET (spec 13 R516). -/
def opFieldReset (f : Fin 64) (v : Reg) (s : State) : State := writePwrCtl s f v

/-! ### WAKE and POWER -/

/-- A WAKE or POWER command writes TARGET in field `f` (spec 13 R498). -/
def powerAct (id f : Nat) (code : BitVec 4) (s : State) : State :=
  match getRun s id with
  | none => s
  | some r =>
    if r.cmd.cmd ≠ code ∨ r.waiting ∨ !r.todo.contains f ∨ earlierTo s id f then s
    else
      let s := setRun s id (some { r with todo := r.todo.erase f, left := r.left ++ [f], acted := true })
      powerReached (setTarget s f (powerCode r.cmd)) f

/-- WAKE (spec 13 R498). -/
def opWakeCmd (id : Nat) (f : Fin 64) (s : State) : State := powerAct id f 8 s
/-- POWER (spec 13 R498). -/
def opPowerCmd (id : Nat) (f : Fin 64) (s : State) : State := powerAct id f 9 s

/-! ### Burners and clocks -/

/-- BURNER_START: the wake request of a domain starts the burner (spec 13 R493). -/
def opBurnerStart (f : Fin 64) (compute : Bool) (s : State) : State :=
  if tripped s then s
  else if compute && !rdB s (A.PWR_STATUS f) F.PWR_STATUS_WAKE_PENDING then s
  else if !compute && !transitWork s f then s
  else setFS (wr s (A.PWR_STATUS f) F.PWR_STATUS_TRANSIT_CLK 1) f { getFS s f with burner := true }

/-- BURNER_STOP (spec 13 R493). -/
def opBurnerStop (f : Fin 64) (s : State) : State :=
  if rdB s (A.PWR_STATUS f) F.PWR_STATUS_TRANSIT_CLK || rdB s (A.PWR_STATUS f) F.PWR_STATUS_COMPUTE_CLK then s
  else setFS s f { getFS s f with burner := false }

/-- TRANSIT_CLOCK_STOP (spec 13 R496; spec 07 R263). -/
def opTransitClockStop (f : Fin 64) (s : State) : State :=
  if rdB s (A.PWR_STATUS f) F.PWR_STATUS_COMPUTE_CLK || transitWork s f then s
  else wr s (A.PWR_STATUS f) F.PWR_STATUS_TRANSIT_CLK 0

/-- BURNER_CALIBRATION (spec 13 R494): `err` is the measured error, signed, in units of 0.01 %. -/
def opBurnerCalibration (f : Fin 64) (err : BitVec 16) (s : State) : State :=
  let s := setFS (wr s (A.PWR_CLK f) F.PWR_CLK_CAL_ERR err.toNat) f { getFS s f with calibrated := true }
  let e := sintOf 16 err.toNat
  if -500 ≤ e ∧ e ≤ 500 then s
  else report (bump s A.CLK_BURNER_CAL F.CLK_BURNER_CAL_FAIL_CNT 1) 204 (unitField s f) 0x121 (detail [(f.val, 1), (err.toNat, 2)])

/-- The AON clock's source worked out again (spec 13 R485). -/
def aonSource (s : State) : State :=
  let src := rd s A.CLK_AON_CTL F.CLK_AON_CTL_SRC
  let present := rdB s A.CLK_AON_STATUS F.CLK_AON_STATUS_AONCLK_PRESENT
  wr s A.CLK_AON_STATUS F.CLK_AON_STATUS_USING_RC (b2n (src == 2 || (src == 0 && !present)))

/-- AON_CLOCK_SWITCH (spec 13 R485). -/
def opAonClockSwitch (present : Bool) (s : State) : State :=
  let rc := rdB s A.CLK_AON_STATUS F.CLK_AON_STATUS_USING_RC
  let s := aonSource (wr s A.CLK_AON_STATUS F.CLK_AON_STATUS_AONCLK_PRESENT (b2n present))
  if rd s A.CLK_AON_CTL F.CLK_AON_CTL_SRC = 0 ∧ !present ∧ !rc then
    report (wr s A.CLK_AON_STATUS F.CLK_AON_STATUS_SWITCHED 1) 204 (unitDev s) 0x122 []
  else s

/-- REFERENCE_CLOCK_LOST: input `i` is absent (its LOST bit is set and reported) or returns: 0 AONCLK, 1 REFCLK_PCIE, 2 to 5 REFCLK_LN_Q (spec 15 R566; spec 13
R522). -/
def opReferenceClock (i : Fin 6) (present : Bool) (s : State) : State :=
  let v := getR s A.CLK_REF_STATUS
  let b := BitVec.ofNat 64 (2 ^ i.val)
  let was := bit v.toNat i
  let s := setR s A.CLK_REF_STATUS (if present then v ||| b else v &&& ~~~b)
  if !present && (was || !bit v.toNat (8 + i.val)) then
    report (setR s A.CLK_REF_STATUS (getR s A.CLK_REF_STATUS ||| BitVec.ofNat 64 (2 ^ (8 + i.val)))) 204 (unitDev s) 0x123
      (detail [(i.val, 1)])
  else s

/-! ### Deep sleep and device time -/

/-- Whether every lane direction is OFF (spec 13 R489; spec 11 R437: state code 2); lane 8 p stands for tether port `p`
(spec 11 R424). -/
def lanesOff (s : State) : Bool :=
  ([0, 8, 16, 24, 32, 40] ++ (List.range 64).map (· + 48)).all (fun l =>
    rd s (A.LANE_PWR l) F.LANE_PWR_TX_STATE == 2 && rd s (A.LANE_PWR l) F.LANE_PWR_RX_STATE == 2)

/-- Whether the host lets the PCIe link enter L1.2: ASPM, or the physical function in D3hot (spec 08 R286). PRESUMED (assumption log
62). -/
def l12Allowed (s : State) : Bool := s.host.pcie.aspm || s.host.pcie.d3hot.contains 0

/-- The L1 Exit Latency that the endpoint reports, as PCI Express codes it (7: more than 64 µs; 6: up to 64 µs): deep sleep makes it
more than 64 µs (spec 13 R489). PRESUMED (assumption log 62). -/
def l1ExitLatency (s : State) : Nat := if rdB s A.CLK_AON_CTL F.CLK_AON_CTL_DEEP_EN then 7 else 6

/-- DEEP_SLEEP_ENTRY (spec 13 R489): `l12` says that the PCIe link is in L1.2. -/
def opDeepSleepEntry (l12 : Bool) (s : State) : State :=
  if rdB s A.CLK_AON_CTL F.CLK_AON_CTL_DEEP_EN && (List.range 64).all (fun f => pwrState s f == 6) && lanesOff s
      && !s.host.rings.any (fun x => ringState s x.1 == 1) && (l12 && l12Allowed s || !linkUp s) then { s with asleep := true } else s

/-- DEEP_SLEEP_EXIT (spec 13 R489). -/
def opDeepSleepExit (ev : Restart) (s : State) : State :=
  let ok := match ev with
    | .exitL12 => linkUp s
    | .perstN => true
    | .smbus => true
    | .los l => rdB s (A.LANE_PWR l) F.LANE_PWR_RX_AUTO
  if ok then { s with asleep := false } else s

/-- ID_TIME_READ: a read of the low half latches the high half; a read of the high half by 4 bytes returns the latch; a read
of 8 bytes returns the whole; any other size, and 8 bytes from the high half on, is an Unsupported Request (spec 00 R8; spec 13 R487). DEDUCED (assumption log 61). -/
def opIdTimeRead (size : Nat) (high : Bool) (s : State) : State :=
  let t := nowNs s
  if (size ≠ 4 ∧ size ≠ 8) ∨ (size = 8 ∧ high) then hostAnswer s .unsupported
  else if size = 8 then { s with readData := BitVec.ofNat 64 t, timeLatch := BitVec.ofNat 32 (t / 2 ^ 32) }
  else if high then { s with readData := BitVec.ofNat 64 s.timeLatch.toNat }
  else { s with readData := BitVec.ofNat 64 (t % 2 ^ 32), timeLatch := BitVec.ofNat 32 (t / 2 ^ 32) }

/-- ID_TIME_SET (spec 13 R488). DEDUCED (assumption log 54). -/
def opIdTimeSet (v : Reg) (s : State) : State :=
  { s with time := (v.toNat * 1000000000 + nowNs s % 1000000000) * 2 ^ 24 + s.time % 2 ^ 24 }

/-- SYNC_MODE at the master; 0 elsewhere, and for the reserved code (spec 10 R388). -/
def syncMode (s : State) : Nat :=
  if rdB s A.FAB_TIME_CTL F.FAB_TIME_CTL_MASTER then (let m := rd s A.FAB_TIME_CTL F.FAB_TIME_CTL_SYNC_MODE; if m = 3 then 0 else m) else 0

/-- The field clocks over `dt` of device time (in units of 2^-24 ns): a running burner makes 500 + 12.5 c million cycles a second
(spec 13 R490). -/
def tickFields (s : State) (dt : Nat) : State :=
  ((List.range 64).filter (clockRuns s)).foldl (fun s f =>
    setFS s f { getFS s f with cycles := (getFS s f).cycles + dt * (5000 + 125 * rd s (A.PWR_CLK f) F.PWR_CLK_EFFECTIVE) }) s

/-- One step of device time on an empty queue: an engine clock period, or an AON clock cycle in deep sleep (spec 13 R486,
R487), adjusted by RATE_PPB, by a slew under way and, at a master in SYNC_MODE 2, by the SYNC_IN discipline (spec 13 R522; spec 10
R386, R388). A function-level reset is over (spec 08 R328). DESIGN CHOICE (assumption log 2). -/
def tickTime (s : State) : State :=
  let s := if rdB s A.HIF_STATUS F.HIF_STATUS_FLR_BUSY then wr s A.HIF_STATUS F.HIF_STATUS_FLR_BUSY 0 else s
  let base : Nat := if s.asleep then 40 * 2 ^ 24 else if grade16 s then 2 ^ 24 * 5 / 8 else 2 ^ 23
  let s := tickFields s base
  let s := if s.asleep then s else peeksGo s
  let t := s.fabTime
  let m := min (base * t.slewRate) t.slew.natAbs
  let part : Int := if t.slew < 0 then -(m : Int) else m
  let q : Int := base * (sintOf 32 (rd s A.CLK_TIME_CTL F.CLK_TIME_CTL_RATE_PPB) + (if syncMode s = 2 then t.disc else 0)) + part + t.rem
  { s with time := (((s.time + base : Nat) : Int) + q / 1000000000).toNat
           recorder := { s.recorder with since := s.recorder.since.map (· + base) }
           fabTime := { t with slew := t.slew - part, rem := (q % 1000000000).toNat } }

/-! ### The meanings of the commands of this file -/

/-- WAKE (spec 13 R498). -/
def execWakeCmd (id : Nat) (f : Fin 64) (s : State) : Host.Outcome State Fault Refusal := .next (engine (opWakeCmd id f) s)
/-- POWER (spec 13 R498). -/
def execPowerCmd (id : Nat) (f : Fin 64) (s : State) : Host.Outcome State Fault Refusal := .next (engine (opPowerCmd id f) s)
/-- AON_CLOCK_SWITCH (spec 13 R485). -/
def execAonClockSwitch (present : Bool) (s : State) : Host.Outcome State Fault Refusal := .next (opAonClockSwitch present s)
/-- DEEP_SLEEP_ENTRY (spec 13 R489). -/
def execDeepSleepEntry (l12 : Bool) (s : State) : Host.Outcome State Fault Refusal := .next (opDeepSleepEntry l12 s)
/-- DEEP_SLEEP_EXIT (spec 13 R489). -/
def execDeepSleepExit (ev : Restart) (s : State) : Host.Outcome State Fault Refusal := .next (opDeepSleepExit ev s)
/-- ID_TIME_READ (spec 13 R487). -/
def execIdTimeRead (size : Nat) (high : Bool) (s : State) : Host.Outcome State Fault Refusal :=
  .next (hostAccess (opIdTimeRead size high) s)
/-- ID_TIME_SET (spec 13 R488). -/
def execIdTimeSet (value : Reg) (s : State) : Host.Outcome State Fault Refusal := .next (hostAccess (opIdTimeSet value) s)
/-- BURNER_CALIBRATION (spec 13 R494). -/
def execBurnerCalibration (f : Fin 64) (err : BitVec 16) (s : State) : Host.Outcome State Fault Refusal :=
  .next (opBurnerCalibration f err s)
/-- FREQUENCY_CHANGE (spec 13 R492). -/
def execFrequencyChange (f : Fin 64) (value : Reg) (s : State) : Host.Outcome State Fault Refusal :=
  .next (hostAccess (opFrequencyChange f value) s)
/-- BURNER_START (spec 13 R493). -/
def execBurnerStart (f : Fin 64) (compute : Bool) (s : State) : Host.Outcome State Fault Refusal := .next (opBurnerStart f compute s)
/-- BURNER_STOP (spec 13 R493). -/
def execBurnerStop (f : Fin 64) (s : State) : Host.Outcome State Fault Refusal := .next (opBurnerStop f s)
/-- TRANSIT_CLOCK_STOP (spec 13 R496). -/
def execTransitClockStop (f : Fin 64) (s : State) : Host.Outcome State Fault Refusal := .next (opTransitClockStop f s)
/-- TARGET_WRITE (spec 13 R499). -/
def execTargetWrite (f : Fin 64) (value : Reg) (s : State) : Host.Outcome State Fault Refusal :=
  .next (hostAccess (opTargetWrite f value) s)
/-- DRAIN_END (spec 13 R500). -/
def execDrainEnd (f : Fin 64) (s : State) : Host.Outcome State Fault Refusal := .next (opDrainEnd f s)
/-- DRAIN_LIMIT (spec 13 R501). -/
def execDrainLimit (f : Fin 64) (s : State) : Host.Outcome State Fault Refusal := .next (opDrainLimit f s)
/-- ISOLATING (spec 13 R500). -/
def execIsolating (f : Fin 64) (s : State) : Host.Outcome State Fault Refusal := .next (opIsolating f s)
/-- RETAIN_ENTRY (spec 13 R500). -/
def execRetainEntry (f : Fin 64) (s : State) : Host.Outcome State Fault Refusal := .next (opRetainEntry f s)
/-- OFF_ENTRY (spec 13 R500). -/
def execOffEntry (f : Fin 64) (s : State) : Host.Outcome State Fault Refusal := .next (opOffEntry f s)
/-- WAKING (spec 13 R500). -/
def execWaking (f : Fin 64) (s : State) : Host.Outcome State Fault Refusal := .next (opWaking f s)
/-- CLEARING (spec 13 R505). -/
def execClearing (f : Fin 64) (s : State) : Host.Outcome State Fault Refusal := .next (opClearing f s)
/-- COMPUTE_WAKE (spec 13 R502). -/
def execComputeWake (f : Fin 64) (s : State) : Host.Outcome State Fault Refusal := .next (opComputeWake f s)
/-- IDLE_ENTRY (spec 13 R503). -/
def execIdleEntry (f : Fin 64) (s : State) : Host.Outcome State Fault Refusal := .next (opIdleEntry f s)
/-- FIELD_POWER_UP (spec 13 R506). -/
def execFieldPowerUp (q : Fin 4) (s : State) : Host.Outcome State Fault Refusal := .next (opFieldPowerUp q s)
/-- POWER_ESTIMATE (spec 13 R508). -/
def execPowerEstimate (est : BitVec 16) (s : State) : Host.Outcome State Fault Refusal := .next (opPowerEstimate est s)
/-- AVS_UPDATE (spec 13 R513). -/
def execAvsUpdate (q : Fin 4) (mv : BitVec 16) (s : State) : Host.Outcome State Fault Refusal := .next (opAvsUpdate q mv s)
/-- AVS_SETTLE (spec 13 R514). -/
def execAvsSettle (q : Fin 4) (s : State) : Host.Outcome State Fault Refusal := .next (opAvsSettle q s)
/-- AVS_ERROR (spec 13 R515). -/
def execAvsError (q : Fin 4) (mv : BitVec 16) (s : State) : Host.Outcome State Fault Refusal := .next (opAvsError q mv s)
/-- FIELD_RESET (spec 13 R516). -/
def execFieldReset (f : Fin 64) (value : Reg) (s : State) : Host.Outcome State Fault Refusal :=
  .next (hostAccess (opFieldReset f value) s)
/-- REFERENCE_CLOCK_LOST (spec 15 R566). -/
def execReferenceClockLost (i : Fin 6) (present : Bool) (s : State) : Host.Outcome State Fault Refusal :=
  .next (opReferenceClock i present s)

end Sys2Proof.Machine
end

