-- ==== Sys2Proof/Machine/BgTest.lean ====
section
/-! DEFINITION. The background test's borrows of patches (spec 05 R190 to R194). -/

namespace Sys2Proof.Machine

/-- TEST_OK of a tile's static frame (spec 05 R154). -/
def testOk (t : Tile) : Bool := bit t.static.toNat 230

/-- Whether a tile has a handler context current (spec 05 R190). -/
def handlerCurrent (t : Tile) : Bool := ctxValid t && waveHandler (ctxFrame t)

/-- The field of a patch (spec 01 R19). -/
def patchField (p : Nat) : Nat := p / 16

/-- Whether some tile of a field has a handler context current. -/
def handlerIn (s : State) (f : Nat) : Bool := (listedTiles s (fun i => tileField i == f)).any (fun i => handlerCurrent (getT s i))

/-- Whether the management block may borrow patch `p` (spec 05 R190, R191). -/
def borrowOk (s : State) (p : Nat) : Bool :=
  let f := patchField p
  !s.borrowed.any (fun x => patchField x == f)
    && (patchTiles p).all (fun i => testOk (getT s i) && tileQuiet s i)
    && pwrState s f == 0 && !engaged s f && s.boot.srst && !tripped s && !handlerIn s f

/-- Whether a frame may be a test frame in slot 15 of tile `i` (spec 05 R192): valid or idle, its drivers idle on every segment that ends
outside the patch, nothing read from outside, no use of X, Y, bank, queue or tree port, no link of a carry chain beyond the patch, and
C15 stays current. -/
def testFrameOk (i : Nat) (c : Frame) : Bool :=
  frameCheck i 15 c == .ok
    && (cFmt c == 0
      || ((List.range 24).all (fun j =>
            (cDrv c j == 0 || (match segDest i j with | some x => tilePatch x.1 == tilePatch i | none => false))
              && (decide (cDrv c j < 4) || innerEnd i (cDrv c j - 4)))
          && [0, 1, 2].all (fun o => match streamSel c o with | some e => innerEnd i e | none => true)
          && !isBOp (cOp c) && cOp c != 0xF8 && !(isMOp (cOp c) && (mSrcX c || mSrcY c || mAgw c))
          && cStep c == 0 && !waveSelfArm c && !waveHandler c
          && (!chEn c || (!chCross c && (tileU i != 3 || chTail c)))))

/-- The test's frame for tile `i`: free, within what R192 allows; an idle one where the free word is none. DESIGN CHOICE (assumption log 57). -/
def testFrame (s : State) (i : Nat) : Frame :=
  let c := withCrc (BitVec.ofNat 256 (((List.range 4).map (fun k => (Config.freeWord (s.fresh + k)).toNat * 2 ^ (64 * k))).sum))
  if testFrameOk i c then c else withCrc 0

/-- BORROW_START (spec 05 R191, R192): each member's save set is kept, and a test frame becomes its slot 15 and runs as C15, entered as
any context is (spec 02 R39). DESIGN CHOICE (assumption log 57). -/
def opBorrowStart (p : Fin 1024) (s : State) : State :=
  if !borrowOk s p then s else
  let s := mapField { s with borrowed := s.borrowed ++ [p.val] } (patchField p) (fun _ t => { t with handled := false })
  let s := (patchTiles p).foldl (fun s i =>
    let t := getT s i
    let c := testFrame s i
    setT { s with saved := smSet none s.saved i (some t), fresh := s.fresh + 4 } i
      (enterCtx { t with slots := smSet 0 t.slots 15 c } 15)) s
  reportPatch s p 0x2C0 (detail [(p.val, 2)])

/-- The field of a patch goes on once its borrow has ended: to the state of its target (spec 05 R193; spec 13 R499). -/
def borrowOver (s : State) (f : Nat) : State :=
  if lentPatches s f = [] then
    let s := setFS s f { getFS s f with handlerDue := false }
    if pwrState s f ≤ 1 then seekTarget s f else s
  else s

/-- BORROW_END (spec 05 R191, R194): `wrong` lists the members whose test result is wrong. -/
def opBorrowEnd (p : Fin 1024) (wrong : List TileIx) (s : State) : State :=
  if !s.borrowed.contains p.val then s else
  borrowOver ((wrong.filter (fun i => tilePatch i.val == p.val)).foldl (fun s (i : TileIx) =>
    report s 200 (unitTile s i) 0x2C2 (detail [(i.val, 2)])) (endBorrow s p)) (patchField p)

/-- Whether field `f` is about to leave RUN, but for a borrowed patch (spec 05 R193; spec 13 R499, R503). -/
def leavesRun (s : State) (f : Nat) : Bool :=
  pwrState s f != 0 || pwrTarget s f != 0
    || (rdB s (A.PWR_CTL f) F.PWR_CTL_AUTO_IDLE && fieldQuiet s f && decide (fieldIngress s f (fun _ => true) = [])
        && !rdB s (A.PWR_STATUS f) F.PWR_STATUS_WAKE_PENDING && !treeBusy s f)

/-- Whether a trigger of spec 05 R193 has reached patch `p`. -/
def yieldDue (s : State) (p trigger : Nat) : Bool :=
  let f := patchField p
  let runs := runList s
  let member := fun (c : TreeCmd) => (patchTiles p).any (isMember c)
  if trigger = 1 then runs.any (fun x => !x.2.waiting && member x.2.cmd
    && (x.2.todo.contains f || x.2.here.contains f || x.2.left.any (fun i => tilePatch i == p) || (isBar x.2.cmd && (barReady s x.2 || x.2.answered))))
  else if trigger = 2 then (patchTiles p).any (fun i => (getT s i).ends.any (fun x => x.2.skid ≠ [] && !innerEnd i x.1))
  else if trigger = 3 then (getEp s (2 * p)).ingress.any (fun x => x.2.isSome)
  else if trigger = 4 then handlerIn s f || (getFS s f).handlerDue || (listedTiles s (fun i => tileField i == f)).any (fun i => (getT s i).handled)
  else trigger == 5 && leavesRun s f

/-- BORROW_YIELD (spec 05 R193). -/
def opBorrowYield (p : Fin 1024) (trigger : Fin 6) (s : State) : State :=
  if !s.borrowed.contains p.val || !yieldDue s p trigger then s
  else borrowOver (yieldPatch s p trigger) (patchField p)

/-- A step that writes or reads a slot or a register of tile `i` and that no request carries: a borrowed patch yields first (spec 05
R193). -/
def withYield (i : Nat) (f : State → State) (s : State) : State :=
  if lentTile s i then f (borrowOver (yieldPatch s (tilePatch i) 3) (tileField i)) else f s

/-- A frame stored by a device engine: a borrowed patch yields (spec 05 R193), and the field is woken (spec 13 R503). -/
def engineStore (s : State) (i slot : Nat) (c : Frame) : State :=
  wakeReq (withYield i (fun s => storeFrame s i slot c) s) (tileField i)

/-- Whether a master may write a tile register that no request carries: before WEN only the loader and the warden (spec 12 R466). -/
def wenLets (s : State) (k : Key) : Bool := s.boot.wen || isWarden s k || (k.mst == 0x2000 && k.dev == devId s)

/-! ### The meanings of the commands of this file -/

/-- BORROW_START (spec 05 R191). -/
def execBorrowStart (patch : Fin 1024) (s : State) : Host.Outcome State Fault Refusal := .next (opBorrowStart patch s)
/-- BORROW_END (spec 05 R191). -/
def execBorrowEnd (patch : Fin 1024) (wrong : List TileIx) (s : State) : Host.Outcome State Fault Refusal :=
  .next (opBorrowEnd patch wrong s)
/-- BORROW_YIELD (spec 05 R193). -/
def execBorrowYield (patch : Fin 1024) (trigger : Fin 6) (s : State) : Host.Outcome State Fault Refusal :=
  .next (opBorrowYield patch trigger s)
/-- ACC_LO_READ (spec 03 R116). -/
def execAccLoRead (t : TileIx) (n : Fin 2) (s : State) : Host.Outcome State Fault Refusal := .next (withYield t (opAccLoRead t n) s)
/-- ACC_REGISTER_WRITE (spec 03 R116). -/
def execAccRegisterWrite (t : TileIx) (n : Fin 2) (high : Bool) (value : Reg) (s : State) : Host.Outcome State Fault Refusal :=
  .next (withYield t (opAccWrite t n high value) s)
/-- AG_REGISTER_WRITE (spec 03 R107). -/
def execAgRegisterWrite (t : TileIx) (set : Fin 4) (g : Fin 3) (value : Reg) (s : State) : Host.Outcome State Fault Refusal :=
  .next (withYield t (opAgWrite t set g value) s)
/-- FLUSH (spec 06 R222). -/
def execFlush (t : TileIx) (q : Fin 4) (value : Reg) (s : State) : Host.Outcome State Fault Refusal := .next (withYield t (opFlush t q value) s)
/-- BANK_OWNER_WRITE (spec 06 R204). -/
def execBankOwnerWrite (t : TileIx) (key : Key) (value : Reg) (s : State) : Host.Outcome State Fault Refusal :=
  .next (if wenLets s key then withYield t (opBankOwnerWrite t key value) s else s)

end Sys2Proof.Machine
end

