-- ==== Sys2Proof/Machine/Code10.lean ====
section
/-! DEFINITION. The 8b/10b code of the edge lanes (spec 11 R431), which the spec takes from IEEE 802.3 clause 36: characters, their two
codes, running disparity. The tables are PRESUMED (assumption log 94). -/

namespace Sys2Proof.Machine

/-- Characters of 8b/10b: data, and control characters. -/
inductive Char10 where
  | d (b : Byte) | k (b : Byte)
  deriving DecidableEq, Repr

/-- The control characters that R431 names: K28.5, K27.7, K29.7, K28.3, K30.7. -/
def comma10 : Char10 := .k 0xBC
def start10 : Char10 := .k 0xFB
def end10 : Char10 := .k 0xFD
def align10 : Char10 := .k 0x7C
def error10 : Char10 := .k 0xFE

/-- The 6-bit codes of the low 5 bits at negative running disparity, `a` written first. PRESUMED (assumption log 94). -/
def code6 : List Nat :=
  [0b100111, 0b011101, 0b101101, 0b110001, 0b110101, 0b101001, 0b011001, 0b111000,
   0b111001, 0b100101, 0b010101, 0b110100, 0b001101, 0b101100, 0b011100, 0b010111,
   0b011011, 0b100011, 0b010011, 0b110010, 0b001011, 0b101010, 0b011010, 0b111010,
   0b110011, 0b100110, 0b010110, 0b110110, 0b001110, 0b101110, 0b011110, 0b101011]
/-- The 4-bit codes of the high 3 bits at negative running disparity: of data, and of the control characters. PRESUMED (assumption
log 94). -/
def code4 : List Nat := [0b1011, 0b1001, 0b0101, 0b1100, 0b1101, 0b1010, 0b0110, 0b1110]
def code4k : List Nat := [0b1011, 0b0110, 0b1010, 0b1100, 0b1101, 0b0101, 0b1001, 0b0111]

/-- How many ones a code of `n` bits has. -/
def ones (n v : Nat) : Nat := ((List.range n).filter (bit v)).length
/-- The running disparity after a code of `n` bits: that of its ones where they differ from its zeros, else unchanged. -/
def dispAfter (n : Nat) (disp : Bool) (v : Nat) : Bool := if 2 * ones n v = n then disp else decide (n < 2 * ones n v)

/-- The code of a character at a running disparity (positive: `true`), as ten bits with `a` at bit 9, and the disparity after it. The
alternate code 7 keeps runs short. PRESUMED (assumption log 94). -/
def encode10 (disp : Bool) (c : Char10) : Nat × Bool :=
  let b := match c with | .d b => b.toNat | .k b => b.toNat
  let x := b % 32
  let y := b / 32
  let isK := match c with | .d _ => false | .k _ => true
  let six := if isK && decide (x = 28) then 0b001111 else code6.getD x 0
  -- the positive code is the complement of an unbalanced one, and of D.07
  let six := if disp && (decide (2 * ones 6 six ≠ 6) || (!isK && decide (x = 7))) then 63 - six else six
  let d6 := dispAfter 6 disp six
  let alt := !isK && decide (y = 7) && (if d6 then [11, 13, 14].contains x else [17, 18, 20].contains x)
  let four := if isK then code4k.getD y 0 else if alt then 0b0111 else code4.getD y 0
  let four := if d6 && (isK || decide (2 * ones 4 four ≠ 4) || decide (y = 3)) then 15 - four else four
  (64 / 4 * six + four, dispAfter 4 d6 four)

/-- Ten bits with bit `a`, which is sent first, at bit 0 (spec 11 R431). -/
def aFirst (v : Nat) : BitVec 10 :=
  BitVec.ofNat 10 ((List.range 10).foldl (fun a k => a + b2n (bit v (9 - k)) * 2 ^ k) 0)

/-- The characters that have a code: every data character, and the twelve control characters. -/
def chars10 : List Char10 :=
  (List.range 256).map (fun n => .d (BitVec.ofNat 8 n))
    ++ [0x1C, 0x3C, 0x5C, 0x7C, 0x9C, 0xBC, 0xDC, 0xFC, 0xF7, 0xFB, 0xFD, 0xFE].map .k

/-- What a receiver makes of ten bits: the character, where there is one, and whether it counts as an error: no character, or one of the
other disparity (spec 11 R431). PRESUMED (assumption log 94). -/
def decode10 (disp : Bool) (v : BitVec 10) : Option Char10 × Bool :=
  match chars10.find? (fun c => aFirst (encode10 disp c).1 == v) with
  | some c => (some c, false)
  | none => (chars10.find? (fun c => aFirst (encode10 (!disp) c).1 == v), true)

/-- The running disparity after ten received bits. -/
def dispGot (disp : Bool) (v : BitVec 10) : Bool :=
  let six := bitsOf v.toNat 5 0
  dispAfter 4 (dispAfter 6 disp six) (bitsOf v.toNat 9 6)

/-- A record in 8b/10b: K27.7, its bytes, K29.7, or K30.7 in its place (spec 11 R431). -/
def record10 (bs : List Byte) (bad : Bool) : List Char10 := start10 :: bs.map .d ++ [if bad then error10 else end10]

end Sys2Proof.Machine
end

