-- ==== Sys2Proof/Machine/LineCode.lean ====
section
/-! DEFINITION. The line codes of the serial lanes (spec 11 R397, R400 to R409, R429 to R432): rates, blocks and their types, the
scrambler, block lock, pages and striping, the Reed-Solomon code, level mapping, the elastic buffer's rule, and records on an edge
lane. Commands carry blocks (LOCK, TRAINING_FRAME, PACKET_RECEIVE, PACK_LANE_WORD), codewords (PACKET_RECEIVE) and characters
(PACK_LANE_WORD); levels on the pins stay functions of their bits (assumption log 17). -/

namespace Sys2Proof.Machine

/-! ### Rates (spec 11 R397) -/

/-- A tether rate code: line rate in units of 10 kb/s, PAM4 or NRZ, with RS(136,128) or without. -/
structure Rate where
  line : Nat
  pam4 : Bool
  fec : Bool
  deriving DecidableEq, Repr
/-- The rate of a code. -/
def rateOf (code : Nat) : Rate :=
  match code with
  | 0 => ⟨1031250, false, false⟩
  | 1 => ⟨2578125, false, false⟩
  | 2 => ⟨5312500, true, true⟩
  | _ => ⟨10625000, true, true⟩

/-! ### Blocks (spec 11 R400 to R403) -/

/-- Whether a block's header is valid, and what it marks. -/
def blockValid (b : Block) : Bool := b.h0 != b.h1
def isData (b : Block) : Bool := !b.h0 && b.h1
def isControl (b : Block) : Bool := b.h0 && !b.h1
/-- A byte of a block's payload. -/
def blockByte (b : Block) (k : Nat) : Nat := bitsOf b.payload.toNat (8 * k + 7) (8 * k)
def dataBlock (v : BitVec 64) : Block := ⟨false, true, v⟩
def controlBlock (ty rest : Nat) : Block := ⟨true, false, BitVec.ofNat 64 (ty + 256 * rest)⟩

/-- The payload's bits in the order sent, and the payload of such bits. -/
def payloadBits (v : BitVec 64) : List Bool := (List.range 64).map (fun k => v.getLsbD k)
def bitsPayload (l : List Bool) : BitVec 64 := BitVec.ofNat 64 (l.foldr (fun b a => b2n b + 2 * a) 0)
/-- The bits of a block in the order sent. -/
def blockBits (b : Block) : List Bool := b.h0 :: b.h1 :: payloadBits b.payload

/-- What a control block says (spec 11 R402); `invalid` covers every other type and a nonzero byte that must be zero. -/
inductive Control where
  | idle | train | start | term (k : Nat) | ballast (lane page flags : Nat) | error | invalid
  deriving DecidableEq, Repr

/-- Bytes `a` to 7 of a block are zero. -/
def zeroFrom (b : Block) (a : Nat) : Bool := b.payload.toNat / 2 ^ (8 * a) == 0

/-- The type of a control block on an edge lane or a tether lane (spec 11 R402, R403). PRESUMED (assumption log 17). -/
def controlOf (edge : Bool) (b : Block) : Control :=
  let ty := blockByte b 0
  if ty = 0x33 then (if zeroFrom b 1 then .idle else .invalid)
  else if ty = 0x4C then (if edge then .invalid else .train)
  else if ty = 0xB5 then
    if blockByte b 5 = 0x3C ∧ blockByte b 6 = 0xA5 ∧ blockByte b 7 = 0x5A ∧ blockByte b 1 < 8 ∧ blockByte b 4 < 16
        ∧ (edge → blockByte b 1 = 0 ∧ blockByte b 2 = 0 ∧ blockByte b 3 = 0 ∧ blockByte b 4 = 0) then
      .ballast (blockByte b 1) (blockByte b 2 + 256 * blockByte b 3) (blockByte b 4)
    else .invalid
  else if !edge then .invalid
  else if ty = 0x78 then (if zeroFrom b 1 then .start else .invalid)
  else if ty = 0xE1 then (if zeroFrom b 1 then .error else .invalid)
  else if 0x87 ≤ ty ∧ ty ≤ 0x8E then (if zeroFrom b (ty - 0x87 + 1) then .term (ty - 0x87) else .invalid)
  else .invalid

/-- A ballast block (spec 11 R403). -/
def ballastBlock (lane page flags : Nat) : Block :=
  controlBlock 0xB5 (packFields [(24, 0x5AA53C), (8, flags), (16, page), (8, lane)])

/-- The scrambler 1 + x^39 + x^58 over one bit: the register holds the last 58 bits sent, the newest at bit 0 (spec 11 R400).
PRESUMED (assumption log 17). -/
def scrambleBit (r : Nat) (x : Bool) : Bool × Nat :=
  let y := (x != bit r 38) != bit r 57
  (y, (2 * r + b2n y) % 2 ^ 58)
/-- The descrambler: its register holds the last 58 bits received. -/
def descrambleBit (r : Nat) (y : Bool) : Bool × Nat := ((y != bit r 38) != bit r 57, (2 * r + b2n y) % 2 ^ 58)
/-- Bits, 0 first, taken through the scrambler or the descrambler `f` from register `r`, and the register after them. -/
def throughBits (f : Nat → Bool → Bool × Nat) : Nat → List Bool → List Bool × Nat
  | r, [] => ([], r)
  | r, x :: xs => let y := f r x; let z := throughBits f y.2 xs; (y.1 :: z.1, z.2)
/-- A block's payload taken through it; the header is not (spec 11 R400). -/
def throughBlock (f : Nat → Bool → Bool × Nat) (r : BitVec 58) (b : Block) : Block × BitVec 58 :=
  let y := throughBits f r.toNat (payloadBits b.payload)
  ({ b with payload := bitsPayload y.1 }, BitVec.ofNat 58 y.2)
/-- The blocks of a stream, scrambled or descrambled in order, and the register after them (spec 11 R400). -/
def throughBlocks (f : Nat → Bool → Bool × Nat) : BitVec 58 → List Block → List Block × BitVec 58
  | r, [] => ([], r)
  | r, b :: bs => let y := throughBlock f r b; let z := throughBlocks f y.2 bs; (y.1 :: z.1, z.2)
def scrambleBlocks : BitVec 58 → List Block → List Block × BitVec 58 := throughBlocks scrambleBit
def descrambleBlocks : BitVec 58 → List Block → List Block × BitVec 58 := throughBlocks descrambleBit

/-- Block lock from the last headers, newest first, each true where it was valid: 64 valid ones in a row gain it, 16 invalid ones of
64 lose it (spec 11 R401). -/
def blockLock (locked : Bool) (headers : List Bool) : Bool :=
  let last := headers.take 64
  if locked then decide ((last.filter (!·)).length < 16) else decide (last.length = 64) && last.all (fun h => h)

/-! ### The port stream (spec 11 R404, R405) -/

/-- Where block `k` of a page goes on a port of `n` lanes: blocks 0 to n - 1 are the ballast group. -/
def pageBlocks : Nat := 3840
def isBallastPlace (n k : Nat) : Bool := decide (k < n)
/-- Whether a block is a ballast block, which the receiver removes from the stream wherever it stands (spec 11 R404). -/
def isBallast (b : Block) : Bool := isControl b && (match controlOf false b with | .ballast _ _ _ => true | _ => false)
/-- The lane position of block `k` of a page without FEC, and of symbol `s` of a codeword with it. -/
def blockLane (n k : Nat) : Nat := k % n
def symbolLane (n s : Nat) : Nat := s % n
/-- Codeword `c` of a page as 128 message symbols: bit 10 s + b of its 1,280 bits is bit b of symbol s. -/
def messageSymbols (bits : List Bool) : List Nat :=
  (List.range 128).map (fun s => (List.range 10).foldl (fun a b => a + b2n (bits.getD (10 * s + b) false) * 2 ^ b) 0)

/-- The message bits of a page, or of the part of a page `bs`, in the order sent (spec 11 R405). -/
def streamBits (bs : List Block) : List Bool := bs.flatMap blockBits
/-- The blocks that message bits spell, and the bits that do not fill one yet. -/
def bitsBlocks : Nat → List Bool → List Block × List Bool
  | 0, l => ([], l)
  | n + 1, l =>
    match l with
    | h0 :: h1 :: rest =>
      if rest.length < 64 then ([], l)
      else let y := bitsBlocks n (rest.drop 64); (⟨h0, h1, bitsPayload (rest.take 64)⟩ :: y.1, y.2)
    | _ => ([], l)
/-- The 198 messages that a page's 253,440 bits fill (spec 11 R405). -/
def pageMessages (bs : List Block) : List (List Nat) :=
  let bits := streamBits bs
  (List.range 198).map (fun c => messageSymbols ((bits.drop (1280 * c)).take 1280))
/-- The bits of a symbol in the order that a lane sends them (spec 11 R405). -/
def symbolBits (s : Nat) : List Bool := (List.range 10).map (bit s)
/-- The bits of a message in the order of the stream. -/
def messageBits (m : List Nat) : List Bool := (m.take 128).flatMap symbolBits
/-- What lane position `j` of `n` sends of a list of codewords: their symbols in turn over the lanes, bit 0 first (spec 11 R405). -/
def laneCodeBits (n j : Nat) (ws : List (List Nat)) : List Bool :=
  ws.flatMap (fun w => ((List.range w.length).filter (fun s => symbolLane n s == j)).flatMap (fun s => symbolBits (w.getD s 0)))
/-- What lane position `j` of `n` sends of a page without FEC: the blocks of its places (spec 11 R405). -/
def laneBlockBits (n j : Nat) (bs : List Block) : List Bool :=
  ((List.range bs.length).filter (fun k => blockLane n k == j)).flatMap (fun k => blockBits (bs.getD k ⟨false, true, 0⟩))

/-- How many blocks a packet has that begins with header `h` (spec 10 R360, R361; spec 11 R404).
DEDUCED (assumption log 69). -/
def packetLen (h : BitVec 64) : Nat :=
  (if bit h.toNat 31 then ctypeBlocks (bitsOf h.toNat 27 24) else classBlocks (netOf (bitsOf h.toNat 30 29))) + 2
/-- The packet that data blocks spell: header, payload, trailer (spec 10 R359). -/
def readPacket (bs : List (BitVec 64)) : Packet :=
  let h := (bs.headD 0).toNat
  let n := packetLen (bs.headD 0) - 2
  { dstDev := BitVec.ofNat 16 (bitsOf h 63 48), srcDev := BitVec.ofNat 16 (bitsOf h 47 32), ctl := bit h 31
    cls := netOf (bitsOf h 30 29), vc := bit h 28, ctype := BitVec.ofNat 4 (bitsOf h 27 24), hops := BitVec.ofNat 8 (bitsOf h 23 16)
    crBuf := BitVec.ofNat 3 (bitsOf h 15 13), crCount := BitVec.ofNat 5 (bitsOf h 12 8), hcrc := BitVec.ofNat 8 (bitsOf h 7 0)
    payload := (bs.drop 1).take n, trailer := bs.getD (n + 1) 0 }
/-- The data blocks of a packet in the order sent (spec 10 R359). -/
def packetBlocks (k : Packet) : List Block :=
  dataBlock (BitVec.ofNat 64 (headerBits k * 256 + k.hcrc.toNat)) :: k.payload.map dataBlock ++ [dataBlock k.trailer]

/-! ### The code RS(136,128) (spec 11 R406) -/

/-- Products in GF(2^10) modulo x^10 + x^3 + 1: shift and reduce, one bit of `b` at a time from the top. -/
def gfMul (a b : Nat) : Nat :=
  (List.range 10).foldl (fun r k =>
    let d := 2 * r
    let d := if 1024 ≤ d then Nat.xor d 0x409 else d
    if bit b (9 - k) then Nat.xor d a else d) 0
def gfPow (a n : Nat) : Nat := (List.range n).foldl (fun r _ => gfMul r a) 1

/-- The generator's coefficients, constant term first: the product of x - α^i for i = 0 to 7, α = 2. -/
def rsGenerator : List Nat :=
  (List.range 8).foldl (fun g i =>
    let a := gfPow 2 i
    (List.range (g.length + 1)).map (fun k => Nat.xor (if k = 0 then 0 else g.getD (k - 1) 0) (gfMul a (g.getD k 0)))) [1]

/-- One step of the division by the generator: `rem` holds 8 symbols, the coefficient of x^7 first. -/
def rsStep (rem : List Nat) (m : Nat) : List Nat :=
  let f := Nat.xor m (rem.getD 0 0)
  (List.range 8).map (fun k => Nat.xor (rem.getD (k + 1) 0) (gfMul f (rsGenerator.getD (7 - k) 0)))
/-- The 8 parity symbols of a message, in the order sent: the first message symbol is the highest coefficient (log 17).
PRESUMED (assumption log 17). -/
def rsParity (msg : List Nat) : List Nat := msg.foldl rsStep (List.replicate 8 0)
/-- A codeword as it is sent. -/
def rsEncode (msg : List Nat) : List Nat := msg ++ rsParity msg
/-- The syndromes of a word of 136 symbols: all zero exactly for a codeword. -/
def rsSyndromes (w : List Nat) : List Nat :=
  (List.range 8).map (fun i => w.foldl (fun r c => Nat.xor (gfMul r (gfPow 2 i)) c) 0)
/-- How many symbols of two words differ. -/
def rsDistance (a b : List Nat) : Nat := ((a.zip b).filter (fun x => x.1 != x.2)).length

/-! The decoder of the code: locator and evaluator of up to 4 symbol errors from the syndromes, then their places and values. -/

/-- The inverse in GF(2^10) of a symbol that is not zero. -/
def gfInv (a : Nat) : Nat := gfPow a 1022
/-- A polynomial, constant term first, at a point. -/
def polyAt (c : List Nat) (x : Nat) : Nat := c.foldr (fun a r => Nat.xor a (gfMul r x)) 0
/-- `c + k x^m b`. -/
def polyAdd (c b : List Nat) (k m : Nat) : List Nat :=
  (List.range (max c.length (b.length + m))).map (fun i =>
    Nat.xor (c.getD i 0) (if i < m then 0 else gfMul k (b.getD (i - m) 0)))

/-- The search for the shortest recurrence of the syndromes: the locator and the one before its last change of length, that length, the
discrepancy then, and the steps since. -/
structure Locator where
  c : List Nat := [1]
  b : List Nat := [1]
  len : Nat := 0
  last : Nat := 1
  gap : Nat := 1
  deriving DecidableEq, Repr
/-- One syndrome taken in. -/
def locatorStep (syn : List Nat) (x : Locator) (n : Nat) : Locator :=
  let d := (List.range (x.len + 1)).foldl (fun r i => Nat.xor r (gfMul (x.c.getD i 0) (if i ≤ n then syn.getD (n - i) 0 else 0))) 0
  if d = 0 then { x with gap := x.gap + 1 }
  else
    let c := polyAdd x.c x.b (gfMul d (gfInv x.last)) x.gap
    if 2 * x.len ≤ n then { c := c, b := x.c, len := n + 1 - x.len, last := d, gap := 1 }
    else { x with c := c, gap := x.gap + 1 }
/-- The error locator of a word with these syndromes. -/
def locatorOf (syn : List Nat) : Locator := (List.range 8).foldl (locatorStep syn) {}

/-- The word that the decoder gives for a received word of 136 symbols, where it can correct it: at most 4 symbols (spec 11 R406). -/
def rsDecode (w : List Nat) : Option (List Nat) :=
  let syn := rsSyndromes w
  if syn.all (· == 0) then some w
  else
    let x := locatorOf syn
    let omega := (List.range 8).map (fun k =>
      (List.range (k + 1)).foldl (fun r i => Nat.xor r (gfMul (x.c.getD i 0) (syn.getD (k - i) 0))) 0)
    -- the formal derivative keeps the odd terms
    let deriv := (List.range x.c.length).map (fun k => if k % 2 = 0 then x.c.getD (k + 1) 0 else 0)
    let fixed := (List.range 136).map (fun s =>
      let loc := gfPow 2 (135 - s)
      let inv := gfInv loc
      if polyAt x.c inv = 0 then Nat.xor (w.getD s 0) (gfMul loc (gfMul (polyAt omega inv) (gfInv (polyAt deriv inv)))) else w.getD s 0)
    if x.len ≤ 4 ∧ w.length = 136 ∧ (rsSyndromes fixed).all (· == 0) ∧ rsDistance w fixed ≤ 4 then some fixed else none

/-- Symbols of a PAM4 lane: the level of a pair of bits, the first the least significant (spec 11 R407). -/
def pam4Level (first second : Bool) : Nat :=
  match b2n first + 2 * b2n second with
  | 0 => 0 | 1 => 1 | 3 => 2 | _ => 3

/-- What the elastic buffer does at the arrival of a ballast group (spec 11 R408). -/
inductive Elastic where
  | pass | delete | repeat_
  deriving DecidableEq, Repr
def elasticRule (held : Nat) : Elastic := if 48 < held then .delete else if held < 16 then .repeat_ else .pass

/-- The fixed latencies in ns of transmitter and receiver at a rate code (spec 11 R409). -/
def lineLatency (rate : Nat) : Nat × Nat :=
  match rate with
  | 0 => (16, 24) | 1 => (10, 16) | 2 => (18, 44) | _ => (12, 28)

/-! ### Records on an edge lane (spec 11 R429 to R432) -/

/-- The blocks of an EF66 record: START, the full data blocks, TERM_k with the last k bytes. -/
def ef66Data : Nat → List Byte → List Block
  | 0, _ => []
  | n + 1, bs => dataBlock (BitVec.ofNat 64 (leBytes (bs.take 8))) :: ef66Data n (bs.drop 8)
def ef66Record (bs : List Byte) : List Block :=
  let n := bs.length / 8
  controlBlock 0x78 0 :: ef66Data n bs ++ [controlBlock (0x87 + bs.length % 8) (leBytes (bs.drop (8 * n)))]
/-- How many data blocks a record of `l` bytes has, and the k of its TERM_k. -/
def ef66Shape (l : Nat) : Nat × Nat := (l / 8, l % 8)

/-- One descrambled block of an edge lane (spec 11 R430, R433): IDLE inside a record counts as an invalid block.
PRESUMED (assumption log 17). -/
def ef66Item (inRec : Bool) (b : Block) : EdgeItem :=
  if isData b then .bytes (bytesLE 8 b.payload.toNat)
  else if !isControl b then .bad 1
  else match controlOf true b with
    | .idle => if inRec then .bad 1 else .skip
    | .ballast _ _ _ => .skip
    | .start => .start
    | .term k => .fin ((bytesLE 8 (b.payload.toNat / 256)).take k)
    | .error => .bad 2
    | .train => .bad 1
    | .invalid => .bad 1

/-- One character of an edge lane in 8b/10b (spec 11 R431, R433): commas and alignment characters are discarded. DEDUCED (assumption
log 94). -/
def code10Item (c : Option Char10) : EdgeItem :=
  match c with
  | none => .bad 1
  | some (.d b) => .bytes [b]
  | some c =>
    if c = comma10 ∨ c = align10 then .skip else if c = start10 then .start else if c = end10 then .fin []
    else if c = error10 then .bad 2 else .bad 1

/-- RAW32: aligned where the pattern stands in 8 consecutive slots (spec 11 R429). -/
def raw32Aligned (pat : BitVec 32) (slots : List (BitVec 32)) : Bool := decide (slots.length = 8) && slots.all (· == pat)
/-- RAW32's error termination: the complement of the pattern. -/
def raw32Error (pat : BitVec 32) : BitVec 32 := ~~~pat

/-- The lane of a bonded group of `n` that carries lane word `k` of a record (spec 11 R432; spec 06 R236). -/
def stripeLane (n k : Nat) : Nat := k % n

end Sys2Proof.Machine
end

