-- ==== Sys2Proof/Machine/LaneBase.lean ====
section
/-! DEFINITION. What the edge groups and the bring-up of lanes share: the registers of a group and of a lane, states, directions, settings,
received headers, and lane events (spec 06 R235, R244 to R246; spec 11 R397, R401, R419 to R424, R427, R428, R435 to R439). -/

namespace Sys2Proof.Machine

def getG (s : State) (n : Nat) : GroupSt := smGet {} s.groups n
def setG (s : State) (n : Nat) (x : GroupSt) : State := { s with groups := smSet {} s.groups n x }

/-- Addresses of the group's registers (spec 06 R244). -/
def gCtl (n : Nat) : Nat := A.GRP_CTL (n / 4) (n % 4)
def gStatus (n : Nat) : Nat := A.FIFO_STATUS (n / 4) (n % 4)
def gOvf (n : Nat) : Nat := A.OVF_CNT (n / 4) (n % 4)
def gUnf (n : Nat) : Nat := A.UNF_CNT (n / 4) (n % 4)

/-- The state of a group: 0 OFF, 1 ON, 2 DRAINING, 3 ISOLATING (spec 06 R246). -/
def gState (s : State) (n : Nat) : Nat := rd s (gStatus n) F.FIFO_STATUS_STATE
/-- Bytes of a lane word of each lane, and of all bonded lanes (spec 06 R236, R245). DESIGN CHOICE (assumption log 85). -/
def gLaneBytes (s : State) (n : Nat) : Nat := 2 ^ rd s (gCtl n) F.GRP_CTL_WIDTH
def gLanes (s : State) (n : Nat) : Nat := rd s (gCtl n) F.GRP_CTL_LANES + 1
def gBytes (s : State) (n : Nat) : Nat := gLanes s n * gLaneBytes s n
/-- Whether the group's lanes run RAW32: the mode in use of its lowest lane (spec 11 R427), and its record length. -/
def gRaw (s : State) (n : Nat) : Bool := (smGet {} s.lanes (groupLane n)).mode == 0
def gRawRec (s : State) (n : Nat) : Nat := rd s (gCtl n) F.GRP_CTL_RAW_REC
/-- A group without records (spec 06 R236, R239, R241). -/
def gNoRec (s : State) (n : Nat) : Bool := gRaw s n && gRawRec s n == 0
/-- Whether every bonded lane is UP (spec 11 R427: code 9). -/
def gUp (s : State) (n : Nat) : Bool :=
  (List.range (gLanes s n)).all (fun k => rd s (A.LANE_STATUS (groupLane n + k)) F.LANE_STATUS_STATE == 9)

def getLn (s : State) (l : Nat) : LaneSt := smGet {} s.lanes l
def setLn (s : State) (l : Nat) (x : LaneSt) : State := { s with lanes := smSet {} s.lanes l x }
def getTr (s : State) (p : Nat) : TrainSt := smGet {} s.trains p
def setTr (s : State) (p : Nat) (x : TrainSt) : State := { s with trains := smSet {} s.trains p x }

/-- The lanes of a tether port (spec 11 R397), those of them that are enabled, and a lane's state code (R412, R437). -/
def portLanes (p : Nat) : List Nat := (List.range 8).map (· + 8 * p)
def laneEn (s : State) (l : Nat) : Bool := rdB s (A.LANE_CTL l) F.LANE_CTL_EN
def enabledLanes (s : State) (p : Nat) : List Nat := (portLanes p).filter (laneEn s)
def laneState (s : State) (l : Nat) : Nat := rd s (A.LANE_STATUS l) F.LANE_STATUS_STATE
def setLane (s : State) (l st : Nat) : State := wr s (A.LANE_STATUS l) F.LANE_STATUS_STATE st
def lanesIn (s : State) (p st : Nat) : List Nat := (portLanes p).filter (fun l => laneState s l == st)

/-- The lane whose PWR register governs lane `l` (spec 11 R424, R427). -/
def pwrLane (s : State) (l : Nat) : Nat :=
  if l < 48 then 8 * (l / 8) else
    let n := (l - 48) / 4
    if gState s n ≠ 0 ∧ (l - 48) % 4 < gLanes s n then groupLane n else l

/-- The quarter whose REFCLK_LN serves a lane, and whether that clock is present (spec 15 R566; spec 01 R26). -/
def laneQuarter (l : Nat) : Nat := if l < 48 then l / 8 % 4 else (l - 48) / 16
def laneClock (s : State) (l : Nat) : Bool := bit (getR s A.CLK_REF_STATUS).toNat (2 + laneQuarter l)

/-- States of a lane's directions: 0 ON, 1 QUIET, 2 OFF, 3 changing (spec 11 R439). -/
def dirState (s : State) (l : Nat) (tx : Bool) : Nat :=
  rd s (A.LANE_PWR (pwrLane s l)) (if tx then F.LANE_PWR_TX_STATE else F.LANE_PWR_RX_STATE)
def setDir (s : State) (l : Nat) (tx : Bool) (st : Nat) : State :=
  wr s (A.LANE_PWR (pwrLane s l)) (if tx then F.LANE_PWR_TX_STATE else F.LANE_PWR_RX_STATE) st
def dirReq (s : State) (l : Nat) (tx : Bool) : Nat :=
  rd s (A.LANE_PWR (pwrLane s l)) (if tx then F.LANE_PWR_TX_REQ else F.LANE_PWR_RX_REQ)

/-! ### Settings -/

/-- Whether tap values keep the limits of R419. -/
def tapsOk (pre main post : Nat) : Bool :=
  decide (pre ≤ 15) && decide (post ≤ 31) && decide (24 ≤ main ∧ main ≤ 63) && decide (pre + main + post ≤ 63)

/-- The board table's entry for a lane and rate class; the factory entry where it breaks R419 or there is no table (spec 11
R421). -/
def boardEntry (s : State) (l c : Nat) : Reg :=
  let e := BitVec.ofNat 64 (leAt s.defaults.laneTable (8 * (4 * l + c)) 8)
  if s.defaults.laneTable ≠ [] ∧ tapsOk (getFld e F.LANE_EQ_PRE) (getFld e F.LANE_EQ_MAIN) (getFld e F.LANE_EQ_POST) then
    L.LANE_EQ.foldl (fun a f => setFld a f (getFld e f)) 0
  else resetOf L.LANE_EQ

/-- EQ's taps copied into TAPS. -/
def copyTaps (s : State) (l : Nat) : State :=
  let e := A.LANE_EQ l
  let t := A.LANE_TAPS l
  wr (wr (wr s t F.LANE_TAPS_PRE (rd s e F.LANE_EQ_PRE)) t F.LANE_TAPS_MAIN (rd s e F.LANE_EQ_MAIN)) t F.LANE_TAPS_POST
    (rd s e F.LANE_EQ_POST)

/-- A lane loads the settings of a class (spec 11 R421); EQ as the warden has written it since the last load takes the place
of the table's entry (R438). -/
def loadSettings (s : State) (l c : Nat) : State :=
  let x := getLn s l
  let s := if x.eqSet then s else setR s (A.LANE_EQ l) (boardEntry s l c)
  copyTaps (setLn s l { x with eqSet := false, cls := c, board := getR s (A.LANE_EQ l) }) l

/-- The rate class of an edge lane's line rate, in units of 10 Mb/s (spec 11 R421). -/
def edgeClass (r : Nat) : Nat := if r ≤ 500 then 0 else if r ≤ 1250 then 1 else if r ≤ 2000 then 2 else 3

/-- A block header that lane `l` receives (spec 11 R401): it joins the last 64, and an invalid one is counted where the lane runs without
FEC. -/
def noteHeader (fec : Bool) (l : Nat) (s : State) (b : Block) : State :=
  let x := getLn s l
  let s := setLn s l { x with hdrs := (blockValid b :: x.hdrs).take 64 }
  if blockValid b || fec then s else bump s (A.LANE_FEC_CNT l) F.LANE_FEC_CNT_CORR 1

/-- Whether a lane locks on blocks: a tether lane, or an edge lane of mode EF66 (spec 11 R397, R427, R430). -/
def blockLane66 (s : State) (l : Nat) : Bool := decide (l < 48) || (getLn s l).mode == 1

/-- Whether an edge lane's lane-word clock is at most 1.25 GHz (spec 11 R428): rates in units of 10 Mb/s. -/
def wordRateOk (s : State) (l : Nat) : Bool :=
  let r := (getLn s l).rate.toNat
  let w := 8 * gLaneBytes s ((l - 48) / 4)
  let m := (getLn s l).mode.toNat
  if m = 0 then decide (r ≤ 125 * w) else if m = 1 then decide (r * 64 ≤ 125 * w * 66) else decide (r * 8 ≤ 125 * w * 10)

/-- Whether the group's lanes have a lane-word clock: its lowest lane is enabled and the clock is not too fast (spec 11 R427, R428). -/
def gClocked (s : State) (n : Nat) : Bool := laneEn s (groupLane n) && wordRateOk s (groupLane n)
/-- The bonded lanes of a group. -/
def groupLanes (s : State) (n : Nat) : List Nat := (List.range (gLanes s n)).map (· + groupLane n)

/-! ### Reports -/

/-- A lane's event: source 64 + lane, vector 2 under its IE (spec 11 R435; spec 14 R523). -/
def reportLane (s : State) (l code : Nat) (det : List Byte) : State :=
  raiseIf (report s (64 + l) (unitDev s) code det) (rdB s (A.LANE_CTL l) F.LANE_CTL_IE) 2

end Sys2Proof.Machine
end

