-- ==== Sys2Proof/Machine/EdgeLine.lean ====
section
/-! DEFINITION. The line side of an edge lane: what it sends for the lane words of a record, and what it makes of the blocks or characters
that it receives (spec 11 R400, R401, R427, R429 to R434). -/

namespace Sys2Proof.Machine

/-! ### Sending -/

/-- A block with the polarity turned (spec 11 R413, R437). -/
def turnBlock (inv : Bool) (b : Block) : Block := if inv then ⟨!b.h0, !b.h1, ~~~b.payload⟩ else b

/-- Blocks with a ballast block wherever 4,095 others have gone before (spec 11 R430), and the count after them. -/
def withBallast : Nat → List Block → List Block × Nat
  | c, [] => ([], c)
  | c, b :: bs =>
    if 4095 ≤ c then let y := withBallast 1 bs; (ballastBlock 0 0 0 :: b :: y.1, y.2)
    else let y := withBallast (c + 1) bs; (b :: y.1, y.2)

/-- Blocks leave an edge lane: scrambled, in the lane's polarity (spec 11 R400, R430, R437). -/
def sendBlocks (x : LaneSt) (bs : List Block) : LaneSt :=
  let y := withBallast x.since bs
  let z := scrambleBlocks x.txScr y.1
  { x with since := y.2, txScr := z.2, line := z.1.map (turnBlock x.txInv) }

/-- Characters with K28.3 wherever 4,095 others have gone before, on bonded lanes (spec 11 R432), and the count after them. -/
def withAlign (bonded : Bool) : Nat → List Char10 → List Char10 × Nat
  | c, [] => ([], c)
  | c, b :: bs =>
    if bonded ∧ 4095 ≤ c then let y := withAlign bonded 1 bs; (align10 :: b :: y.1, y.2)
    else let y := withAlign bonded (c + 1) bs; (b :: y.1, y.2)
/-- The codes of characters from a running disparity, and the disparity after them. -/
def encodeAll : Bool → List Char10 → List (BitVec 10) × Bool
  | d, [] => ([], d)
  | d, c :: cs => let y := encode10 d c; let z := encodeAll y.2 cs; (aFirst y.1 :: z.1, z.2)
/-- Characters leave an edge lane (spec 11 R431, R432, R437). -/
def sendChars (bonded : Bool) (x : LaneSt) (cs : List Char10) : LaneSt :=
  let y := withAlign bonded x.since cs
  let z := encodeAll x.txDisp y.1
  { x with since := y.2, txDisp := z.2, codes := z.1.map (fun v => if x.txInv then ~~~v else v) }
/-- Plain lane words leave a lane in RAW32 (spec 11 R429, R437). -/
def sendPlain (x : LaneSt) (bs : List Byte) : LaneSt := { x with plain := if x.txInv then bs.map (~~~ ·) else bs }

/-- The full data blocks of bytes, and the bytes that do not fill one. -/
def fullBlocks (bs : List Byte) : List Block × List Byte := (ef66Data (bs.length / 8) bs, bs.drop (8 * (bs.length / 8)))

/-- A lane's share of a record as its encoder sends it (spec 11 R429 to R431): `fin` is 0 in mid-record, 1 at its end, 2 at its end in
error. -/
def sendShare (bonded : Bool) (mode fin : Nat) (x : LaneSt) (bs : List Byte) : LaneSt :=
  if mode = 0 then sendPlain x bs
  else if mode = 1 then
    let y := fullBlocks (x.txFill ++ bs)
    let last := if fin = 0 then [] else if fin = 1 then [controlBlock (0x87 + y.2.length) (leBytes y.2)] else [controlBlock 0xE1 0]
    let first := if x.txOpen then [] else [controlBlock 0x78 0]
    { sendBlocks x (first ++ y.1 ++ last) with txOpen := decide (fin = 0), txFill := if fin = 0 then y.2 else [] }
  else
    let last := if fin = 0 then [] else if fin = 1 then [end10] else [error10]
    let first := if x.txOpen then [] else [start10]
    { sendChars bonded x (first ++ bs.map .d ++ last) with txOpen := decide (fin = 0) }

/-- The bytes of RAW32's pattern, the first received lowest (spec 11 R429), and of its complement, `k` bytes of whole slots. -/
def patternBytes (pat : BitVec 32) (k : Nat) : List Byte := (List.range k).map (fun j => BitVec.ofNat 8 (bitsOf pat.toNat (8 * (j % 4) + 7) (8 * (j % 4))))

/-- `k` slots of idle on a lane (spec 11 R429 to R431, R434): IDLE blocks, commas, or the pattern. -/
def sendIdle (bonded : Bool) (mode : Nat) (pat : BitVec 32) (k : Nat) (x : LaneSt) : LaneSt :=
  if mode = 0 then sendPlain x (patternBytes pat (4 * k))
  else if mode = 1 then sendBlocks x (List.replicate k (controlBlock 0x33 0))
  else sendChars bonded x (List.replicate k comma10)

/-- The mode and the pattern of a group's lanes (spec 11 R427). -/
def groupMode (s : State) (n : Nat) : Nat := (getLn s (groupLane n)).mode.toNat
def lanePat (s : State) (l : Nat) : BitVec 32 := BitVec.ofNat 32 (rd s (A.LANE_TRAIN l) F.LANE_TRAIN_ALIGN_PAT)

/-- The bytes of lane words in group order that position `k` of `n` lanes carries (spec 11 R432; spec 06 R236). -/
def shareOf (n w k : Nat) (bs : List Byte) : List Byte :=
  ((List.range bs.length).filter (fun i => stripeLane n (i / w) == k)).map (fun i => bs.getD i 0)

/-- A change of every lane of a group, given its position. -/
def onLanes (s : State) (n : Nat) (f : Nat → LaneSt → LaneSt) : State :=
  (List.range (gLanes s n)).foldl (fun s k => setLn s (groupLane n + k) (f k (getLn s (groupLane n + k)))) s

/-- Bytes of a record go to the lanes of a group (spec 11 R429 to R432). -/
def sendRecord (s : State) (n fin : Nat) (bs : List Byte) : State :=
  let c := gLanes s n
  onLanes s n (fun k x => sendShare (decide (1 < c)) (groupMode s n) fin x (shareOf c (gLaneBytes s n) k bs))
/-- The lanes of a group idle for `k` slots (spec 11 R429, R434). -/
def sendGroupIdle (s : State) (n k : Nat) : State :=
  onLanes s n (fun j x => sendIdle (decide (1 < gLanes s n)) (groupMode s n) (lanePat s (groupLane n + j)) k x)

/-! ### Receiving -/

/-- One block arrives on edge lane `l` (spec 11 R400, R401, R430, R437): polarity, header, descrambler, and what it says. -/
def hearBlock (l : Nat) (s : State) (b : Block) : State :=
  let b := turnBlock (getLn s l).rxInv b
  let s := noteHeader false l s b
  let x := getLn s l
  let y := descrambleBlocks x.rxScr [b]
  let open_ := x.items.foldl (fun o i => match i with | .start => true | .fin _ => false | .bad _ => false | _ => o) x.share.isSome
  setLn s l { x with rxScr := y.2, items := x.items ++ y.1.map (ef66Item open_) }

/-- One character arrives on edge lane `l` (spec 11 R431, R437, R439). -/
def hearCode (l : Nat) (s : State) (v : BitVec 10) : State :=
  let x := getLn s l
  let v := if x.rxInv then ~~~v else v
  let y := decode10 x.rxDisp v
  let s := if y.2 then bump s (A.LANE_FEC_CNT l) F.LANE_FEC_CNT_CORR 1 else s
  setLn s l { x with rxDisp := dispGot x.rxDisp v, items := x.items ++ [code10Item y.1] }

/-- A lane's share of a record takes the next item (spec 11 R430 to R433). -/
def itemIn (x : LaneSt) (i : EdgeItem) : LaneSt :=
  match x.share, i with
  | none, .start => { x with share := some [], slots := 0 }
  | none, _ => x
  | some bs, .bytes b => { x with share := some (bs ++ b), slots := x.slots + 1 }
  | some bs, .fin b => { x with share := some (bs ++ b), slots := x.slots + 1, ended := true }
  | some _, .bad c => { x with err := c }
  | some _, .start => { x with err := 1 }
  | some _, .skip => { x with slots := x.slots + 1 }
/-- Items are taken up to the end of a record or an error. -/
def takeItems : Nat → LaneSt → LaneSt
  | 0, x => x
  | fuel + 1, x =>
    if x.ended ∨ x.err ≠ 0 then x
    else match x.items with
      | [] => x
      | i :: rest => takeItems fuel (itemIn { x with items := rest } i)

/-- A lane's share is over. -/
def dropShare (x : LaneSt) : LaneSt := { x with share := none, slots := 0, ended := false, err := 0 }

/-- Whether the last shares of a record are in stripe order (spec 11 R432): whole lane words of `w` bytes, then a shorter one, then none. -/
def stripeEnd (w : Nat) : List Nat → Bool
  | [] => true
  | n :: ns => if n = w then stripeEnd w ns else decide (n < w) && ns.all (· == 0)

end Sys2Proof.Machine
end

