-- ==== Sys2Proof/Machine/EdgeGroups.lean ====
section
/-! DEFINITION. The edge groups: pack and unpack FIFOs between the lanes and the array (spec 06 R235 to R246; spec 11 R433).
Group `n` is group `n % 4` of edge port `n / 4`. -/

namespace Sys2Proof.Machine

/-- The depths shown in FIFO_LEVEL, and the dropping state (spec 06 R245, R239). -/
def gSync (s : State) (n : Nat) : State :=
  let g := getG s n
  let a := A.FIFO_LEVEL (n / 4) (n % 4)
  let s := wr (wr s a F.FIFO_LEVEL_IN_DEPTH g.pack.length) a F.FIFO_LEVEL_OUT_DEPTH g.unpack.length
  wr s (gStatus n) F.FIFO_STATUS_DROPPING (b2n (decide (0 < g.dropped)))

/-- A status bit of an error set: vector 2 under ERR_IE (spec 06 R243). -/
def gError (s : State) (n : Nat) (f : Fld) : State :=
  raiseIf (wr s (gStatus n) f 1) (rdB s (gCtl n) F.GRP_CTL_ERR_IE) 2

/-- A crossing of a threshold (spec 06 R216, R243). -/
def gThresh (s : State) (n : Nat) (lvl st : Fld) (before after : Nat) : State :=
  let l := rd s (A.FIFO_THRESH (n / 4) (n % 4)) lvl
  if l ≠ 0 ∧ l ≤ 256 ∧ before < l ∧ l ≤ after then
    raiseIf (wr s (gStatus n) st 1) (rdB s (gCtl n) F.GRP_CTL_THRESH_IE) 2
  else s

/-- A read-word of 16 bytes in mid-record (spec 06 R237). -/
def dataWord (bs : List Byte) : List SWord := (List.range 4).map (fun w => ⟨BitVec.ofNat 32 (leAt bs (4 * w) 4), .data⟩)

/-- The tag of a record's last `n` bytes in a word, 1 to 4 (spec 02 R32). -/
def endTagOf (n : Nat) : Tag := if n = 1 then .tail1 else if n = 2 then .tail2 else if n = 3 then .tail3 else .eof

/-- The read-word of a record's last 1 to 16 bytes (spec 02 R34; spec 06 R237). -/
def endWord (bs : List Byte) : List SWord :=
  let e := (bs.length - 1) / 4
  (List.range 4).map (fun w =>
    if w < e then ⟨BitVec.ofNat 32 (leAt bs (4 * w) 4), .data⟩
    else if w = e then ⟨BitVec.ofNat 32 (leAt bs (4 * w) 4), endTagOf (bs.length - 4 * e)⟩
    else ⟨0, .pad⟩)

/-- The read-words that the assembler completes from the bytes it holds: framed lanes hold back a full read-word until
they know whether the record goes on; the flag says that a record ends with the read-word. The rest stays in the
assembler (spec 06 R237). -/
def framedWords (bs : List Byte) (ends : Bool) : List (List SWord × Bool) × List Byte :=
  let n := (bs.length - 1) / 16
  let full := (List.range n).map (fun k => (dataWord (sliceBytes bs (16 * k) 16), false))
  let rest := bs.drop (16 * n)
  if ends ∧ rest ≠ [] then (full ++ [(endWord rest, true)], []) else (full, rest)

/-- The same for RAW32 with records of `k` read-words; `c` read-words of the record have gone before (spec 06 R236). -/
def rawWords (bs : List Byte) (k c : Nat) : List (List SWord × Bool) × List Byte :=
  let n := bs.length / 16
  ((List.range n).map (fun j =>
    let b := sliceBytes bs (16 * j) 16
    if k ≠ 0 ∧ (c + j + 1) % k = 0 then (endWord b, true) else (dataWord b, false)), bs.drop (16 * n))

/-- A completed read-word goes to the core; one that the core refuses starts the dropping state, in which every further
one is counted (spec 06 R237, R239, R215). -/
def storePack (s : State) (n : Nat) (w : List SWord) (atEnd : Bool) : State :=
  let g := getG s n
  if 0 < g.dropped ∨ 256 ≤ g.pack.length then
    gSync (setG s n { g with dropped := min (g.dropped + 1) 0xFFFFFFFF, atEnd := atEnd }) n
  else
    gThresh (gSync (setG s n { g with pack := g.pack ++ [w] }) n) n F.FIFO_THRESH_IN_LEVEL F.FIFO_STATUS_IN_THRESH
      g.pack.length (g.pack.length + 1)

/-- Whether the pack side takes bytes: ON, or the record under way while DRAINING (spec 06 R242).
DESIGN CHOICE (assumption log 84). -/
def packOpen (s : State) (n : Nat) : Bool := gState s n == 1 || (gState s n == 2 && (getG s n).inRec)

/-- The assembler takes lane words of all bonded lanes in lane order (spec 06 R236, R237, R239; spec 11 R430): `ends` says that a framed
record ends with them; a record of no bytes is discarded. -/
def packBytes (s : State) (n : Nat) (bytes : List Byte) (ends : Bool) : State :=
  let raw := gRaw s n
  let g := getG s n
  if !raw && ends && g.recBytes == 0 && bytes.length == 0 then setG s n { g with inRec := false } else
  let all := g.asm ++ bytes
  let out := if raw then rawWords all (gRawRec s n) (g.recBytes / 16) else framedWords all ends
  let k := 16 * gRawRec s n
  let total := g.recBytes + bytes.length
  let left := if raw then (if k = 0 then total % 16 else total % k) else if ends then 0 else total
  let s := setG s n { g with asm := out.2, recBytes := left, inRec := if raw then decide (left ≠ 0) else !ends, atEnd := false }
  out.1.foldl (fun s w => storePack s n w.1 (w.2 || gNoRec s n)) s

/-- The marker read-word for a count or an error code (spec 06 R239; spec 11 R433). -/
def markerWord (noRec : Bool) (c : Nat) : List SWord :=
  if noRec then [⟨BitVec.ofNat 32 c, .poison⟩, ⟨0, .poison⟩, ⟨0, .poison⟩, ⟨0, .poison⟩]
  else [⟨BitVec.ofNat 32 c, .poison⟩, ⟨0, .eof⟩, ⟨0, .pad⟩, ⟨0, .pad⟩]

/-- The record under way on the pack side of group `n` ends in error (spec 11 R433). -/
def recordError (s : State) (n code : Nat) : State :=
  let g := getG s n
  let part := g.asm
  let s := setG s n { g with asm := [], recBytes := 0, inRec := false, atEnd := false }
  let s := if part = [] then s else storePack s n (dataWord (sliceBytes part 0 16)) false
  storePack s n (markerWord false code) true

/-- The record under way ends in error on lane `l` (spec 11 R433): bytes, marker, UNCORR, event 0x44A; what the other lanes hold of it is
dropped. -/
def endInError (s : State) (n l code : Nat) : State :=
  let s := onLanes (recordError s n code) n (fun _ => dropShare)
  reportLane (bump s (A.LANE_FEC_CNT l) F.LANE_FEC_CNT_UNCORR 1) l 0x44A (detail [(l, 1), (code, 1)])

/-! ### What the lanes decode (spec 11 R430 to R433) -/

/-- The share of the record under way that a lane holds. -/
def held (s : State) (l : Nat) : List Byte := (getLn s l).share.getD []

/-- Whole rows of lane words go to the assembler while every bonded lane holds one (spec 11 R432; spec 06 R236). -/
def packRows : Nat → Nat → State → State
  | 0, _, s => s
  | fuel + 1, n, s =>
    let w := gLaneBytes s n
    let ls := groupLanes s n
    if !ls.all (fun l => decide (w ≤ (held s l).length)) then s
    else
      let row := ls.flatMap (fun l => (held s l).take w)
      let s := onLanes s n (fun _ x => { x with share := x.share.map (·.drop w) })
      packRows fuel n (packBytes s n row false)

/-- The bonded lanes are deskewed on their starts, across at most 8 slots, and their shares packed (spec 11 R432, R433); the flag says that
the record under way has ended. -/
def deskewShares (s : State) (n : Nat) : State × Bool :=
  let s := onLanes s n (fun _ x => takeItems (x.items.length + 1) x)
  let ls := groupLanes s n
  let w := gLaneBytes s n
  let started := ls.filter (fun l => (getLn s l).share.isSome)
  if started = [] then (s, false)
  else
    let s := setG s n { getG s n with inRec := true }
    let s := if started = ls then packRows ((ls.map (fun l => (held s l).length)).foldl max 0 + 1) n s else s
    let ended := ls.filter (fun l => (getLn s l).ended)
    let long := ls.find? (fun l => decide (w < (held s l).length))
    match ls.find? (fun l => (getLn s l).err != 0), ls.find? (fun l => (getLn s l).share.isNone) with
    | some l, _ => (endInError s n l (getLn s l).err, true)
    | none, some l => if started.any (fun k => decide (8 < (getLn s k).slots)) then (endInError s n l 3, true) else (s, false)
    | none, none =>
      if ended = [] then (s, false)
      else if long.isSome then (endInError s n (long.getD 0) 3, true)
      else if ended ≠ ls then (s, false)
      else
        let lens := ls.map (fun l => (held s l).length)
        if !stripeEnd w lens then (endInError s n (ls.headD 0) 3, true)
        else
          let rest := ls.flatMap (held s)
          (packBytes (onLanes s n (fun _ => dropShare)) n rest true, true)

/-- Records are taken as long as one ends. -/
def deskewAll : Nat → Nat → State → State
  | 0, _, s => s
  | fuel + 1, n, s => let y := deskewShares s n; if y.2 then deskewAll fuel n y.1 else y.1

/-- An edge lane loses its signal, or only its lock: back to SIGNAL, a record under way ends in error (spec 11 R427, R433, R434; spec 14
R531). -/
def laneLoss (s : State) (l : Nat) (signal : Bool) : State :=
  let n := (l - 48) / 4
  let a := A.LANE_STATUS l
  let s := if signal then wr s a F.LANE_STATUS_LOS 1 else s
  let s := setLane (wr (wr s a F.LANE_STATUS_LOL 1) a F.LANE_STATUS_LOCKED 0) l 1
  let s := setLn s l { getLn s l with hdrs := [], items := [] }
  let s := if signal && rdB s (A.LANE_PWR (pwrLane s l)) F.LANE_PWR_RX_AUTO && dirState s l false == 0 then setDir s l false 1 else s
  let s := reportLane s l 0x44B (detail [(l, 1)])
  let s := if rdB s A.REC_CTL F.REC_CTL_EN then recCount s (0x480 + 4 * (l - 48)) 1 else s
  if (getG s n).inRec && decide ((l - 48) % 4 < gLanes s n) && packOpen s n then endInError s n l 4 else s

/-- Blocks arrive on the bonded lanes of a group, in lane order; a lane whose headers cost it block lock is lost (spec 11 R401, R430). -/
def hearLanes (s : State) (n : Nat) (lanes : List (List Block)) : State :=
  let s := ((groupLanes s n).zip lanes).foldl (fun s x => x.2.foldl (hearBlock x.1) s) s
  let s := deskewAll (((groupLanes s n).map (fun l => (getLn s l).items.length)).sum + 1) n s
  (groupLanes s n).foldl (fun s l => if blockLock true (getLn s l).hdrs then s else laneLoss s l false) s
/-- Characters arrive on them (spec 11 R431). -/
def hearCodes (s : State) (n : Nat) (lanes : List (List (BitVec 10))) : State :=
  let s := ((groupLanes s n).zip lanes).foldl (fun s x => x.2.foldl (hearCode x.1) s) s
  deskewAll (((groupLanes s n).map (fun l => (getLn s l).items.length)).sum + 1) n s

/-- PACK_LANE_WORD (spec 06 R236, R237, R239; spec 11 R423, R430, R431): what arrives on the bonded lanes while they are UP and their
receivers ON. Lane words that the lanes have decoded come whole but at a record's end, which `ends` marks; none of them opens a record. -/
def opPackLaneWord (n : Fin 16) (words : LaneWords) (ends : Bool) (s : State) : State :=
  if !packOpen s n || !gUp s n || rd s (A.LANE_PWR (groupLane n)) F.LANE_PWR_RX_STATE != 0 then s
  else match words with
    | .bytes bs =>
      if bs = [] ∧ !ends ∧ !gRaw s n then setG s n { getG s n with inRec := true }
      else if decide (gBytes s n < bs.length) || (decide (bs.length ≠ gBytes s n) && (gRaw s n || !ends)) then s
      else packBytes s n bs ends
    | .blocks lanes => if groupMode s n = 1 then hearLanes s n lanes else s
    | .codes lanes => if groupMode s n = 2 then hearCodes s n lanes else s

/-- DROPPING_EXIT (spec 06 R239). -/
def opDroppingExit (n : Fin 16) (s : State) : State :=
  let g := getG s n
  if g.dropped = 0 ∨ !g.atEnd ∨ 256 ≤ g.pack.length then s
  else
    let s := setG s n { g with dropped := 0, atEnd := false }
    let s := storePack s n (markerWord (gNoRec s n) g.dropped) true
    let s := gError (bump s (gOvf n) F.OVF_CNT_COUNT g.dropped) n F.FIFO_STATUS_OVERFLOW
    report s (182 + n.val) (unitDev s) 0x740 (detail [(n.val / 4, 1), (n.val % 4, 1), (g.dropped, 4)])

/-- PACK_READ_SIDE_POP (spec 06 R238, R145). -/
def opPackReadSidePop (n : Fin 16) (s : State) : State :=
  let g := getG s n
  match g.pack with
  | [] => s
  | w :: rest =>
    if g.readSide.any Option.isSome || gState s n == 0 || gState s n == 3 then s
    else wakeReq (gSync (setG s n { g with pack := rest, readSide := w.map some }) n) (tileField (edgeTile n))

/-- UNPACK_WORD_ACCEPT: wire `w` of the write side takes the word of its segment start (spec 06 R240, R145, R242). -/
def opUnpackWordAccept (n : Fin 16) (w : Fin 4) (s : State) : State :=
  let g := getG s n
  let i := edgeTile n
  let j := 6 * edgeSide n + w.val
  let open_ := gState s n == 1 || (gState s n == 2 && !g.closed)
  if !open_ || (smGet none g.slots w.val).isSome || !tileRuns s i || engaged s (tileField i) then s else
  match driverWord (getT s i) j with
  | none => s
  | some (x, src) =>
    let s := setT s i (touch s i (driverGive (getT s i) j src))
    if x.tag = .wave then s else setG s n { g with slots := smSet none g.slots w.val (some x) }

/-- The words of a read-word up to and with the one that ends its record, and those above it (spec 06 R240). -/
def recWords : List SWord → List SWord
  | [] => []
  | w :: ws => if isEnd w.tag then [w] else w :: recWords ws
def wordsAbove : List SWord → List SWord
  | [] => []
  | w :: ws => if isEnd w.tag then ws else wordsAbove ws
def hasEnd (ws : List SWord) : Bool := ws.any (fun w => isEnd w.tag)

/-- The bytes that a word of a read-word gives (spec 06 R240). -/
def wordBytes (w : SWord) : List Byte :=
  let n := match w.tag with
    | .data => 4 | .poison => 4 | .eof => 4 | .tail1 => 1 | .tail2 => 2 | .tail3 => 3 | .wave => 0 | .pad => 0
  bytesLE n w.data.toNat

/-- UNPACK_PUSH (spec 06 R240, R241, R242). -/
def opUnpackPush (n : Fin 16) (s : State) : State :=
  let g := getG s n
  let ws := [0, 1, 2, 3].filterMap (fun w => smGet none g.slots w)
  if ws.length ≠ 4 ∨ 256 ≤ g.unpack.length ∨ ¬(gState s n = 1 ∨ gState s n = 2) then s
  else
    let e := hasEnd ws
    let g := { g with slots := [], closed := g.closed || (gState s n == 2 && e) }
    -- of a record that ran empty the words up to its end tag are discarded: what stands above it, if any of it is a word, stays
    let rest := wordsAbove ws
    let skip := g.discard && (!e || rest.all (fun w => w.tag == .pad))
    let ws := if g.discard then List.replicate (ws.length - rest.length) ⟨0, .pad⟩ ++ rest else ws
    let g := { g with discard := g.discard && !e }
    if skip then setG s n g
    else
      gThresh (gSync (setG s n { g with unpack := g.unpack ++ [ws] }) n) n F.FIFO_THRESH_OUT_LEVEL F.FIFO_STATUS_OUT_THRESH
        g.unpack.length (g.unpack.length + 1)

/-- What the unpack side holds beside its slots: the rest of the read-word taken last, while it gives a byte, and the core. -/
def unpackHeld (g : GroupSt) : List (List SWord) := (if g.txRest.all (fun w => w.tag == .pad) then [] else [g.txRest]) ++ g.unpack

/-- UNPACK_RECORD_START (spec 06 R241; spec 11 R434: a TX in QUIET wakes first). -/
def opUnpackRecordStart (n : Fin 16) (s : State) : State :=
  let g := getG s n
  let lvl := rd s (gCtl n) F.GRP_CTL_START_LEVEL
  if g.sending || unpackHeld g == [] || gNoRec s n || !(gState s n == 1 || gState s n == 2)
      || rd s (A.LANE_PWR (groupLane n)) F.LANE_PWR_TX_STATE != 0
      || !((unpackHeld g).any hasEnd || (decide (1 ≤ lvl) && decide (lvl ≤ g.unpack.length))) then s
  else sendRecord (setG s n { g with sending := true, txBytes := [], txEnd := false, txErr := false, txSent := 0 }) n 0 []

/-- Read-words are taken from the core until `k` bytes are at hand or the record's end is (spec 06 R240). -/
def refill (noRec : Bool) (k : Nat) : Nat → GroupSt → GroupSt
  | 0, g => g
  | fuel + 1, g =>
    if k ≤ g.txBytes.length ∨ g.txEnd then g else
    match unpackHeld g with
    | [] => { g with txRest := [] }
    | ws :: rest =>
      let used := if noRec then ws else recWords ws
      refill noRec k fuel { g with unpack := rest, txRest := if noRec then [] else wordsAbove ws
                                   txBytes := g.txBytes ++ used.flatMap wordBytes
                                   txEnd := !noRec && hasEnd ws, txErr := g.txErr || used.any (fun w => decide (w.tag = .poison)) }

/-- The end of a record in error as the encoder gets it (spec 11 R429): its last bytes, and in RAW32 the complement of the pattern in every
word slot that remains of the record. -/
def errorBytes (s : State) (n : Nat) (g : GroupSt) : List Byte :=
  if gRaw s n then
    g.txBytes ++ patternBytes (raw32Error (lanePat s (groupLane n))) (16 * gRawRec s n - (g.txSent + g.txBytes.length))
  else g.txBytes

/-- UNPACK_LANE_WORD (spec 06 R236, R241; spec 11 R423, R429 to R432): the encoder takes the next lane words of a record, its end, or idle,
while the transmitters are ON; `outKind` records which. In mid-record a core whose last read-words give less than a lane word is left
empty, and underruns. In RAW32 a POISON word ends its record at once (R429). DEDUCED (assumption log 56). -/
def opUnpackLaneWord (n : Fin 16) (s : State) : State :=
  let g0 := getG s n
  let nr := gNoRec s n
  let k := gBytes s n
  if !gClocked s n || !(gState s n == 1 || gState s n == 2) || rd s (A.LANE_PWR (groupLane n)) F.LANE_PWR_TX_STATE != 0 then s
  else if !(g0.sending || nr) then sendGroupIdle (setG s n { g0 with lastOut := [], outKind := 0 }) n 1
  else
    let g := refill nr k (g0.unpack.length + 2) g0
    let s := if nr && g.txErr then wr s (gStatus n) F.FIFO_STATUS_POISON_OUT 1 else s
    let g := if nr then { g with txErr := false } else g
    if g.txErr ∧ gRaw s n then
      let s := wr s (gStatus n) F.FIFO_STATUS_POISON_OUT 1
      let out := errorBytes s n { g with txBytes := [] }
      gSync (sendRecord (setG s n { g with txBytes := [], lastOut := out, outKind := 3, sending := false, txEnd := false, txErr := false
                                           discard := g.discard || !g.txEnd }) n 2 out) n
    else if k ≤ g.txBytes.length ∧ ¬(g.txEnd ∧ g.txBytes.length = k) then
      let out := g.txBytes.take k
      gSync (sendRecord (setG s n { g with txBytes := g.txBytes.drop k, lastOut := out, outKind := 1, txSent := g.txSent + k }) n 0 out) n
    else if g.txEnd then
      let s := if g.txErr then wr s (gStatus n) F.FIFO_STATUS_POISON_OUT 1 else s
      gSync (sendRecord (setG s n { g with txBytes := [], lastOut := g.txBytes, outKind := if g.txErr then 3 else 2
                                           sending := false, txEnd := false, txErr := false })
        n (if g.txErr then 2 else 1) g.txBytes) n
    else if nr then gSync (sendGroupIdle (setG s n { g with lastOut := [], outKind := 0 }) n 1) n
    else gSync (setG s n g) n

/-- UNPACK_UNDERRUN (spec 06 R241; spec 11 R429 to R431). -/
def opUnpackUnderrun (n : Fin 16) (s : State) : State :=
  let g := getG s n
  if !g.sending || g.txEnd || unpackHeld g != [] || decide (gBytes s n ≤ g.txBytes.length) then s
  else
    let s := if g.txErr then wr s (gStatus n) F.FIFO_STATUS_POISON_OUT 1 else s
    let out := errorBytes s n g
    let s := sendRecord (setG s n { g with sending := false, discard := true, lastOut := out, txBytes := [], outKind := 3
                                           txErr := false }) n 2 out
    let s := gError (bump s (gUnf n) F.UNF_CNT_COUNT 1) n F.FIFO_STATUS_UNDERRUN
    report s (182 + n.val) (unitDev s) 0x741 []

/-! ### The group's states (spec 06 R242) -/

def gSetState (s : State) (n st : Nat) : State := wr s (gStatus n) F.FIFO_STATUS_STATE st

/-- A lane whose lane-word clock would be too fast goes back to LOCK and says so (spec 11 R428). -/
def checkWordRate (s : State) (l : Nat) : State :=
  let st := laneState s l
  if (st = 9 ∨ st = 12) ∧ !wordRateOk s l then
    setLane (wr (wr s (A.LANE_STATUS l) F.LANE_STATUS_WORD_RATE_ERR 1) (A.LANE_STATUS l) F.LANE_STATUS_LOCKED 0) l 2
  else s

/-- The bonded lanes of a group that is not OFF run as its lowest lane does; a lane whose rate or mode that changes starts again at SIGNAL
(spec 11 R427). DESIGN CHOICE (assumption log 95). -/
def bondLanes (s : State) (n : Nat) : State :=
  let low := getLn s (groupLane n)
  (groupLanes s n).foldl (fun s l =>
    let x := getLn s l
    if x.rate = low.rate ∧ x.mode = low.mode then s
    else
      let s := setLn s l { x with rate := low.rate, mode := low.mode, hdrs := [], items := [] }
      if laneState s l = 0 then s
      else setLane (wr (loadSettings s l (edgeClass low.rate.toNat)) (A.LANE_STATUS l) F.LANE_STATUS_LOCKED 0) l 1) s

/-- A write of GRP_CTL by the warden (spec 06 R242, R245; spec 11 R427, R428). -/
def writeGrpCtl (s : State) (n : Nat) (v : Reg) : State :=
  let st := gState s n
  let shape := if st ≠ 0 then [] else if getFld v F.GRP_CTL_WIDTH = 3 then [F.GRP_CTL_LANES, F.GRP_CTL_RAW_REC]
    else [F.GRP_CTL_WIDTH, F.GRP_CTL_LANES, F.GRP_CTL_RAW_REC]
  let fs := [F.GRP_CTL_DRAIN_LIMIT, F.GRP_CTL_START_LEVEL, F.GRP_CTL_THRESH_IE, F.GRP_CTL_ERR_IE, F.GRP_CTL_EN] ++ shape
  let s := setR s (gCtl n) (writeFlds true fs (getR s (gCtl n)) v)
  let s := if shape = [] then s else (groupLanes s n).foldl checkWordRate s
  let en := getFld v F.GRP_CTL_EN == 1
  let g := getG s n
  if st = 0 then (if en then bondLanes (gSetState s n 1) n else s)
  else if st = 1 then (if en then s else gSetState s n 2)
  else if st = 2 then (if en then gSetState (setG s n { g with closed := false }) n 1 else s)
  else setG s n { g with restart := en }

/-- GROUP_ENABLE (spec 06 R242). -/
def opGroupEnable (n : Fin 16) (v : Reg) (s : State) : State := writeGrpCtl s n v
/-- GROUP_DISABLE (spec 06 R242). -/
def opGroupDisable (n : Fin 16) (v : Reg) (s : State) : State := writeGrpCtl s n v

/-- GROUP_DRAIN_END (spec 06 R242): both FIFOs and both field-side stages are empty, or `limit` says that DRAIN_LIMIT has elapsed.
DEDUCED (assumption log 56). -/
def opGroupDrainEnd (n : Fin 16) (limit : Bool) (s : State) : State :=
  let g := getG s n
  let empty := g.pack.length == 0 && !g.readSide.any Option.isSome && unpackHeld g == [] && !g.slots.any (fun x => x.2.isSome)
  if gState s n = 2 ∧ (limit ∨ empty) then gSetState s n 3 else s

/-- GROUP_OFF (spec 06 R242). Read-words discarded in the dropping state count with those that remain.
DEDUCED (assumption log 56). -/
def opGroupOff (n : Fin 16) (s : State) : State :=
  if gState s n ≠ 3 then s
  else
    let g := getG s n
    let s := bump s (gOvf n) F.OVF_CNT_COUNT (g.pack.length + (unpackHeld g).length + g.dropped)
    let s := gSync (gSetState (onLanes (setG s n {}) n (fun _ x => { dropShare x with items := [], txOpen := false, txFill := [] })) n 0) n
    if g.restart then gError (bondLanes (gSetState s n 1) n) n F.FIFO_STATUS_RESTART_MERGED else s

/-- EDGE_RECORD_ERROR (spec 11 R431, R433): codes 1 to 4, for a record whose bytes come decoded. DEDUCED (assumption log 56). -/
def opEdgeRecordError (l : Fin 112) (code : Fin 5) (s : State) : State :=
  let n := (l.val - 48) / 4
  if l.val < 48 ∨ code.val = 0 ∨ !(getG s n).inRec ∨ !packOpen s n ∨ gLanes s n ≤ (l.val - 48) % 4 then s
  else
    let s := if code.val = 1 ∧ groupMode s n = 2 then bump s (A.LANE_FEC_CNT l) F.LANE_FEC_CNT_CORR 1 else s
    endInError s n l code

/-! ### The meanings of the commands of this file -/

/-- PACK_LANE_WORD (spec 06 R236). -/
def execPackLaneWord (g : Fin 16) (words : LaneWords) (ends : Bool) (s : State) : Host.Outcome State Fault Refusal :=
  .next (opPackLaneWord g words ends s)
/-- DROPPING_EXIT (spec 06 R239). -/
def execDroppingExit (g : Fin 16) (s : State) : Host.Outcome State Fault Refusal := .next (opDroppingExit g s)
/-- PACK_READ_SIDE_POP (spec 06 R238). -/
def execPackReadSidePop (g : Fin 16) (s : State) : Host.Outcome State Fault Refusal := .next (opPackReadSidePop g s)
/-- UNPACK_WORD_ACCEPT (spec 06 R240). -/
def execUnpackWordAccept (g : Fin 16) (w : Fin 4) (s : State) : Host.Outcome State Fault Refusal := .next (opUnpackWordAccept g w s)
/-- UNPACK_PUSH (spec 06 R240). -/
def execUnpackPush (g : Fin 16) (s : State) : Host.Outcome State Fault Refusal := .next (opUnpackPush g s)
/-- UNPACK_RECORD_START (spec 06 R241). -/
def execUnpackRecordStart (g : Fin 16) (s : State) : Host.Outcome State Fault Refusal := .next (opUnpackRecordStart g s)
/-- UNPACK_UNDERRUN (spec 06 R241). -/
def execUnpackUnderrun (g : Fin 16) (s : State) : Host.Outcome State Fault Refusal := .next (opUnpackUnderrun g s)
/-- GROUP_ENABLE (spec 06 R242). -/
def execGroupEnable (g : Fin 16) (value : Reg) (s : State) : Host.Outcome State Fault Refusal :=
  .next (hostAccess (opGroupEnable g value) s)
/-- GROUP_DISABLE (spec 06 R242). -/
def execGroupDisable (g : Fin 16) (value : Reg) (s : State) : Host.Outcome State Fault Refusal :=
  .next (hostAccess (opGroupDisable g value) s)
/-- GROUP_DRAIN_END (spec 06 R242). -/
def execGroupDrainEnd (g : Fin 16) (limit : Bool) (s : State) : Host.Outcome State Fault Refusal := .next (opGroupDrainEnd g limit s)
/-- GROUP_OFF (spec 06 R242). -/
def execGroupOff (g : Fin 16) (s : State) : Host.Outcome State Fault Refusal := .next (opGroupOff g s)
/-- EDGE_RECORD_ERROR (spec 11 R433). -/
def execEdgeRecordError (l : Fin 112) (code : Fin 5) (s : State) : Host.Outcome State Fault Refusal := .next (opEdgeRecordError l code s)
/-- UNPACK_LANE_WORD (spec 06 R236). -/
def execUnpackLaneWord (g : Fin 16) (s : State) : Host.Outcome State Fault Refusal := .next (opUnpackLaneWord g s)

end Sys2Proof.Machine
end

