-- ==== Sys2Proof/Machine/Lanes.lean ====
section
/-! DEFINITION. Serial lanes: settings, training frames, bring-up of tether ports, leaving UP, step-down, and the power of a
lane's directions (spec 11 R397 to R426, R436 to R439). -/

namespace Sys2Proof.Machine

/-! ### Reports -/

/-- A port's lane event, reported by lane 8 p (spec 11 R435). -/
def reportPort (s : State) (p code : Nat) (items : List (Nat × Nat)) : State := reportLane s (8 * p) code (detail items)

/-! ### Bring-up -/

/-- A tether lane starts at rate 0 with the settings of class 0 in state `st` (spec 11 R412, R416); what it has found of its polarity
stays. -/
def resetLane (st : Nat) (s : State) (l : Nat) : State :=
  let x := getLn s l
  let s := setLn s l { x with decoded := false, frames := 0, laneField := none, good := false, stepped := false, stepTx := 0
                              stepRx := none, peerDone := false, search := {}, coefSts := 0, hdrs := [] }
  let s := wr (loadSettings s l 0) (A.LANE_STATUS l) F.LANE_STATUS_LOCKED 0
  setLane s l st

/-- The polarity with which a bring-up starts: the one that last worked, else RX_INV (spec 11 R413, R437). -/
def startInv (s : State) (l : Nat) : Bool := (getLn s l).worked.getD (rdB s (A.LANE_CTL l) F.LANE_CTL_RX_INV)

/-- A tether lane starts a bring-up (spec 11 R412, R413). -/
def startLane (st : Nat) (s : State) (l : Nat) : State :=
  let inv := startInv s l
  let s := setLn s l { getLn s l with inv := inv, tried := false }
  let s := wr s (A.LANE_STATUS l) F.LANE_STATUS_RX_INVERTED (b2n (inv != rdB s (A.LANE_CTL l) F.LANE_CTL_RX_INV))
  resetLane st s l

/-- A lane that takes no part is not locked (spec 11 R412, R437). -/
def parkLane (st : Nat) (s : State) (l : Nat) : State := setLane (wr s (A.LANE_STATUS l) F.LANE_STATUS_LOCKED 0) l st

/-- A direction put into a state, whatever change of it was under way. -/
def forceDir (s : State) (l : Nat) (tx : Bool) (st : Nat) : State :=
  let g := pwrLane s l
  let x := getLn s g
  setDir (setLn s g (if tx then { x with nextTx := none, idleTx := false } else { x with nextRx := none, idleRx := false })) l tx st

/-- A direction switched on for a bring-up unless it is requested OFF, to QUIET while the package is tripped (spec 11 R412, R424; spec 13 R511). -/
def powerDir (s : State) (l : Nat) (tx : Bool) : State :=
  if dirReq s l tx = 2 then s else forceDir s l tx (if tripped s then 1 else 0)

/-- What a port holds of its bring-up at its start (spec 11 R412, R418): the offers, the identity of the neighbour, the scramblers and
the test sequences stay. -/
def freshTrain (t : TrainSt) : TrainSt :=
  { t with peerSel := none, peerAck := false, noCommon := false, above := false, quietNext := false, sel := none, elastic := 32, pos := 0
           fec := false, checked := false, badHdrs := 0, symErrs := 0, badWords := 0, pageBad := 0, rxBits := [], txPos := 0, txPage := 0
           txFec := false, readyOut := false, fecOut := false, aligned := false, goodPages := 0, readyIn := false, fecNext := false
           missed := 0, stepDown := 0, quietOut := false, wakePages := 0 }

/-- The port's lanes go to state `st` with rate 0 (spec 11 R412, R416, R420): lanes that are not enabled are DISABLED; with `again` the
bring-up goes on, in which lanes that are SPARE or FAILED stay so. Until OUT releases the transmitters nothing starts (R399). DEDUCED
(assumption log 92). -/
def startPort (s : State) (p st : Nat) (again : Bool) : State :=
  let s := wr (wr s (A.LANE_STATUS (8 * p)) F.LANE_STATUS_RATE 0) (A.LANE_TRAIN (8 * p)) F.LANE_TRAIN_OWN_GOOD 0
  let s := setTr s p (freshTrain (getTr s p))
  if !s.boot.out || !rdB s (A.PORT_CTL p) F.PORT_CTL_EN then
    forceDir (forceDir ((portLanes p).foldl (parkLane 0) s) (8 * p) true 2) (8 * p) false 2
  else
    let s := powerDir (powerDir s (8 * p) true) (8 * p) false
    (portLanes p).foldl (fun s l =>
      if !laneEn s l then parkLane 0 s l
      else if again then (if laneState s l = 10 ∨ laneState s l = 11 then s else resetLane st s l)
      else startLane st s l) s

/-- A port starts a new bring-up from SIGNAL with every rate on offer (spec 11 R412). -/
def restartPort (s : State) (p : Nat) : State := startPort (setTr s p { getTr s p with limit := 3 }) p 1 false
/-- A port goes back to SIGNAL within its bring-up: a state's timeout (spec 11 R412). DEDUCED (assumption log 92). -/
def retryPort (s : State) (p : Nat) : State := startPort s p 1 true

/-- A port is DOWN; one that was UP or a hairpin has losses to work off (spec 10 R389). -/
def portLost (s : State) (p : Nat) : State :=
  let st := rd s (A.PORT_STATUS p) F.PORT_STATUS_STATE
  let x := smGet {} s.ports p
  let s := if st = 1 ∨ st = 2 then { s with ports := smSet {} s.ports p { x with lost := true } } else s
  wr s (A.PORT_STATUS p) F.PORT_STATUS_STATE 0

/-- A port's lanes leave UP for a cause (spec 11 R420; spec 14 R531). -/
def leaveUp (s : State) (p cause : Nat) : State :=
  if lanesIn s p 9 = [] then s
  else
    let s := reportPort s p 0x448 [(p, 1), (cause, 1)]
    let s := if rdB s A.REC_CTL F.REC_CTL_EN then recCount s (0x380 + 4 * (9 * p + (cause - 1))) 1 else s
    restartPort (portLost s p) p

/-- A write of FAB_PORT[p].CTL by the warden (spec 10 R385, R396; spec 11 R412, R420 cause 7). -/
def writePortCtl (s : State) (p : Nat) (v : Reg) : State :=
  let old := rdB s (A.PORT_CTL p) F.PORT_CTL_EN
  let hp := getFld v F.PORT_CTL_HAIRPIN
  let fs := [F.PORT_CTL_TEST_EN, F.PORT_CTL_EN] ++ (if old ∨ hp = 3 then [] else [F.PORT_CTL_HAIRPIN])
  let s := setR s (A.PORT_CTL p) (writeFlds true fs (getR s (A.PORT_CTL p)) v)
  let en := getFld v F.PORT_CTL_EN == 1
  if en && !old then restartPort s p
  else if !en && old then restartPort (wr (leaveUp s p 7) (A.PORT_STATUS p) F.PORT_STATUS_STATE 0) p
  else s

/-- PORT_ENABLE (spec 11 R412). -/
def opPortEnable (p : Fin 6) (v : Reg) (s : State) : State := writePortCtl s p v

/-- SIGNAL: LOS deasserts on a lane in SIGNAL whose reference clock is there and whose receiver is on (spec 11 R412, R427,
R434; spec 15 R566). An edge receiver in QUIET under RX_AUTO wakes. -/
def opLaneSignal (l : Fin 112) (s : State) : State :=
  if laneState s l ≠ 1 ∨ !laneClock s l then s
  else
    let s := if 48 ≤ l.val ∧ dirState s l false = 1 ∧ rdB s (A.LANE_PWR (pwrLane s l)) F.LANE_PWR_RX_AUTO ∧ !tripped s then
        setDir s l false 0 else s
    if dirState s l false ≠ 0 then s
    else setLane (setLn (wr s (A.LANE_STATUS l) F.LANE_STATUS_LOS 0) l { getLn s l with hdrs := [] }) l 2

/-- Blocks as the pins give them to lane `l` (spec 11 R413, R437), and the descrambler taken over them (R400). -/
def laneWires (s : State) (l : Nat) (bs : List Block) : List Block :=
  bs.map (turnBlock (if l < 48 then (getLn s l).inv else (getLn s l).rxInv))
def throughLane (s : State) (l : Nat) (bs : List Block) : State :=
  setLn s l { getLn s l with rxScr := (descrambleBlocks (getLn s l).rxScr bs).2 }
/-- LOCKED follows block lock as the last headers have it (spec 11 R401). -/
def noteLock (s : State) (l : Nat) : State :=
  let a := A.LANE_STATUS l
  wr s a F.LANE_STATUS_LOCKED (b2n (blockLock (rdB s a F.LANE_STATUS_LOCKED) (getLn s l).hdrs))

/-- LOCK: CDR lock and block or comma lock (spec 11 R401, R412, R427, R428); a lane that locks on blocks looks at those that arrive. RAW32
locks on its pattern in ALIGN (R429). -/
def opLaneLock (l : Fin 112) (blocks : List Block) (s : State) : State :=
  if laneState s l ≠ 2 then s
  else
    let bs := laneWires s l blocks
    let s := if blockLane66 s l then throughLane (bs.foldl (noteHeader false l) s) l bs else s
    if blockLane66 s l && !blockLock false (getLn s l).hdrs then s else
    let s := wr s (A.LANE_STATUS l) F.LANE_STATUS_LOL 0
    let s := if 48 ≤ l.val ∧ (getLn s l).mode = 0 then s else wr s (A.LANE_STATUS l) F.LANE_STATUS_LOCKED 1
    if l.val < 48 then
      setLane (setLn s l { getLn s l with decoded := false, frames := 0, laneField := none, good := false }) l 3
    else if wordRateOk s l then setLane s l 12 else wr s (A.LANE_STATUS l) F.LANE_STATUS_WORD_RATE_ERR 1

/-- LOCK_TIMEOUT (spec 11 R412): a tether lane in LOCK goes back to SIGNAL; in AGREE, DESKEW or FEC the port does. -/
def opLockTimeout (l : Fin 112) (s : State) : State :=
  let st := laneState s l
  if 48 ≤ l.val then s
  else if st = 2 then setLane s l 1
  else if st = 4 ∨ st = 7 ∨ st = 8 then retryPort s (l / 8)
  else s

/-- POLARITY_INVERT (spec 11 R413). DEDUCED (assumption log 56). -/
def opPolarityInvert (l : Fin 112) (s : State) : State :=
  let x := getLn s l
  if laneState s l ≠ 3 ∨ x.decoded ∨ x.tried then s
  else reportLane (wr (setLn s l { x with inv := !x.inv, tried := true }) (A.LANE_STATUS l) F.LANE_STATUS_RX_INVERTED 1) l 0x441
    (detail [(l.val, 1)])

/-- LANE_FAILED (spec 11 R413): the polarity goes back to the one before. -/
def opLaneFailed (l : Fin 112) (s : State) : State :=
  let x := getLn s l
  if laneState s l ≠ 3 ∨ x.decoded ∨ !x.tried then s
  else
    let s := setLane (wr (setLn s l { x with inv := !x.inv }) (A.LANE_STATUS l) F.LANE_STATUS_FAILED 1) l 11
    reportPort s (l / 8) 0x440 [(l.val, 1)]

/-! ### Training frames -/

/-- Bits of a frame's body (spec 11 R411). -/
def tfBits (b : BitVec 248) (hi lo : Nat) : Nat := bitsOf b.toNat hi lo

/-- The CRC-16 over body bits 231 to 0 (spec 11 R411). -/
def tfCrc (b : BitVec 248) : Nat :=
  crcBytes 16 0x1021 0xFFFF ((List.range 29).map (fun k => BitVec.ofNat 8 (tfBits b (231 - 8 * k) (224 - 8 * k))))

/-- Whether a frame is decoded (spec 11 R411): a good CRC, reserved bits zero, a PHASE that is listed. -/
def tfOk (b : BitVec 248) : Bool :=
  tfBits b 247 232 == tfCrc b && tfBits b 47 47 == 0 && tfBits b 63 61 == 0 && tfBits b 127 127 == 0 && tfBits b 231 136 == 0
    && decide (1 ≤ tfBits b 27 24 ∧ tfBits b 27 24 ≤ 4)

/-- The mapping of a port's receive lanes (spec 11 R414): the enabled lanes that decode frames and whose LANE fields say direct, or
reversed. -/
def mapSet (s : State) (p : Nat) (rev : Bool) : List Nat :=
  (portLanes p).filter (fun l => laneEn s l && (getLn s l).laneField == some (if rev then 7 - l % 8 else l % 8))
def reversed (s : State) (p : Nat) : Bool := decide ((mapSet s p false).length < (mapSet s p true).length)

/-- The physical receive lane of a logical position. -/
def rxLane (s : State) (p j : Nat) : Nat := 8 * p + (if rdB s (A.LANE_STATUS (8 * p)) F.LANE_STATUS_REVERSED then 7 - j else j)

/-- The good positions as a mask: lanes of the deciding set that have decoded 16 consecutive frames (spec 11 R414). -/
def goodMask (s : State) (p : Nat) : Nat :=
  let rev := reversed s p
  ((mapSet s p rev).filter (fun l => (getLn s l).good)).foldl (fun a l =>
    a + 2 ^ (if rev then 7 - l % 8 else l % 8)) 0

/-- LANE_GOOD: the mapping and GOOD_LANES worked out again (spec 11 R414). -/
def updateGood (s : State) (p : Nat) : State :=
  let was := rdB s (A.LANE_STATUS (8 * p)) F.LANE_STATUS_REVERSED
  -- a restart keeps the finding until frames are decoded again (R420)
  let rev := if mapSet s p false = [] ∧ mapSet s p true = [] then was else reversed s p
  let s := wr s (A.LANE_STATUS (8 * p)) F.LANE_STATUS_REVERSED (b2n rev)
  let s := wr s (A.LANE_TRAIN (8 * p)) F.LANE_TRAIN_OWN_GOOD (goodMask s p)
  if rev && !was then reportPort s p 0x442 [(p, 1)] else s

/-- The frame body that four blocks spell: one TRAIN control block, then three data blocks (spec 11 R411). -/
def blocksFrame (bs : List Block) : Option (BitVec 248) :=
  match bs with
  | [a, b, c, d] =>
    if isControl a && controlOf false a == .train && isData b && isData c && isData d then
      some (BitVec.ofNat 248 (a.payload.toNat / 256 + b.payload.toNat * 2 ^ 56 + c.payload.toNat * 2 ^ 120 + d.payload.toNat * 2 ^ 184))
    else none
  | _ => none

/-- The blocks of a frame body (spec 11 R411). -/
def frameBlocks (b : BitVec 248) : List Block :=
  [controlBlock 0x4C (tfBits b 55 0), dataBlock (BitVec.ofNat 64 (tfBits b 119 56)), dataBlock (BitVec.ofNat 64 (tfBits b 183 120)),
   dataBlock (BitVec.ofNat 64 (tfBits b 247 184))]

/-- The rate codes that a port offers (spec 11 R411, R416). -/
def rateOffer (s : State) (p : Nat) : Nat :=
  let m := rd s (A.LANE_CTL (8 * p)) F.LANE_CTL_RATE_MASK
  let cap := min (rd s (A.LANE_TRAIN (8 * p)) F.LANE_TRAIN_RATE_CAP) (getTr s p).limit
  m % 2 ^ (cap + 1)

/-- Width code, width and group of the widest aligned group of positions in a mask (spec 11 R415). -/
def widest (m : Nat) : Option (Nat × Nat) :=
  [3, 2, 1, 0].findSome? (fun c =>
    ((List.range (8 / 2 ^ c)).find? (fun g => (List.range (2 ^ c)).all (fun k => bit m (g * 2 ^ c + k)))).map (fun g => (c, g)))

/-- The selection of AGREE: rate code, width code, group (spec 11 R415). -/
def ownSelection (s : State) (p : Nat) : Option (Nat × Nat × Nat) :=
  let r := A.LANE_TRAIN (8 * p)
  let rates := Nat.land (rateOffer s p) (rd s r F.LANE_TRAIN_PEER_RATES)
  match [3, 2, 1, 0].find? (bit rates), widest (Nat.land (rd s r F.LANE_TRAIN_OWN_GOOD) (rd s r F.LANE_TRAIN_PEER_GOOD)) with
  | some c, some (w, g) => some (c, w, g)
  | _, _ => none

/-- COEF_REQ of a receiver's search (spec 11 R411, R417). -/
def askBits (x : Search) : Nat := if x.tap = 0 then x.req.toNat * 16 else if x.tap = 1 then x.req.toNat else if x.tap = 2 then x.req.toNat * 4 else 0

/-- The body of the training frame that lane `l` sends in HELLO, AGREE, STEP or ADAPT (spec 11 R411, R415 to R417; spec 10 R358): it
answers the requests for its own taps and carries those of the receiver at its position. -/
def sentFrame (s : State) (l : Nat) : BitVec 248 :=
  let p := l / 8
  let t := getTr s p
  let r := A.LANE_TRAIN (8 * p)
  let own := if laneState s l = 4 then ownSelection s p else t.sel
  let sel := own.getD (0, 0, 0)
  let ack := own.isSome && t.peerSel == own
  let ph := laneState s l - 2
  let x := getLn s l
  let rx := (getLn s (rxLane s p (l % 8))).search
  let body := packFields [(96, 0), (8, 63 - min 63 x.stepTx), (1, 0), (63, (getR s A.FAB_DIMS).toNat), (3, 0),
    (1, b2n (decide (ph = 4 ∧ rx.tap = 3))), (6, x.coefSts.toNat), (6, if ph = 4 then askBits rx else 0), (1, 0), (3, sel.2.2),
    (2, sel.2.1), (2, sel.1), (8, rd s r F.LANE_TRAIN_OWN_GOOD), (4, rateOffer s p), (4, ph), (1, b2n ack), (3, l % 8), (3, p),
    (1, rd s A.FAB_COORD F.FAB_COORD_VALID), (16, rd s A.FAB_COORD F.FAB_COORD_ID)]
  BitVec.ofNat 248 (body + tfCrc (BitVec.ofNat 248 body) * 2 ^ 232)

/-- The lane sends a frame, scrambled and in its polarity, and counts those of STEP (spec 11 R400, R411, R416, R437). -/
def sendFrame (s : State) (l : Nat) : State :=
  let x := getLn s l
  let z := scrambleBlocks x.txScr (frameBlocks (sentFrame s l))
  setLn s l { x with txScr := z.2, line := z.1.map (turnBlock (rdB s (A.LANE_CTL l) F.LANE_CTL_TX_INV))
                     stepTx := if laneState s l = 5 then min 64 (x.stepTx + 1) else x.stepTx }

/-- One tap after a request (spec 11 R417, R419): its value and the status. `lo` and `hi` are the tap's limits, `rest` the
other two taps' sum, `board` the board value. -/
def tapStep (req v lo hi rest board : Nat) : Nat × Nat :=
  if req = 3 then (board, 1)
  else if req = 1 then (if v < hi ∧ v + 1 + rest ≤ 63 then (v + 1, 1) else (v, 3))
  else (if lo < v then (v - 1, 1) else (v, 2))

/-- The request of one tap worked off: `sh` is its place in COEF_REQ. A request is new when the status it finds is 0b00; the board value
is that of EQ as the lane last loaded it (R438). DEDUCED (assumption log 56). -/
def tapRequest (l sh : Nat) (f fe : Fld) (lo hi : Nat) (req : Nat) (s : State) : State :=
  let x := getLn s l
  let q := req / 2 ^ sh % 4
  let cur := x.coefSts.toNat / 2 ^ sh % 4
  let put := fun (v : Nat) => BitVec.ofNat 6 (x.coefSts.toNat - cur * 2 ^ sh + v * 2 ^ sh)
  if q = 0 then setLn s l { x with coefSts := put 0 }
  else if cur ≠ 0 then s
  else
    let a := A.LANE_TAPS l
    let sum := rd s a F.LANE_TAPS_PRE + rd s a F.LANE_TAPS_MAIN + rd s a F.LANE_TAPS_POST
    let r := tapStep q (rd s a f) lo hi (sum - rd s a f) (getFld x.board fe)
    let s := bump (setLn s l { x with coefSts := put r.2 }) (A.LANE_TRAIN (8 * (l / 8))) F.LANE_TRAIN_ADAPT_STEPS (b2n (r.2 == 1))
    wr s a f r.1

/-- The requests of a COEF_REQ for the transmitter of lane `l` in ADAPT (spec 11 R417): a frozen one, whose receiver has said ADAPT_DONE,
applies none. -/
def applyAsk (l : Nat) (req : BitVec 6) (s : State) : State :=
  if l < 32 ∨ 48 ≤ l ∨ lanesIn s (l / 8) 6 = [] ∨ (getLn s l).peerDone then s
  else
    let s := tapRequest l 0 F.LANE_TAPS_PRE F.LANE_EQ_PRE 0 15 req.toNat s
    let s := tapRequest l 2 F.LANE_TAPS_MAIN F.LANE_EQ_MAIN 24 63 req.toNat s
    tapRequest l 4 F.LANE_TAPS_POST F.LANE_EQ_POST 0 31 req.toNat s

/-- The search goes on after a tap's direction has brought nothing more: the other direction, the next tap, or, after main, another pass
if this one has raised the eye (spec 11 R417). DESIGN CHOICE (assumption log 93). -/
def nextTry (x : Search) : Search :=
  if x.up then { x with up := false }
  else if x.tap < 2 then { x with tap := x.tap + 1, up := true }
  else if x.raised then { x with tap := 0, up := true, raised := false }
  else { x with tap := 3 }

/-- What a receiver in ADAPT does at a frame with the status `sts` of its tap (spec 11 R417); `eye` is the eye height that it measures. A
step that does not raise the eye is taken back. DESIGN CHOICE (assumption log 93). -/
def searchStep (x : Search) (sts : BitVec 2) (eye : Nat) : Search :=
  if 3 ≤ x.tap then x
  else if x.req ≠ 0 then (if sts = 0 then x else { x with req := 0, sts := some sts })
  else if sts ≠ 0 then x
  else
    let ask := fun (x : Search) => if 3 ≤ x.tap then x else { x with req := if x.up then 1 else 2, undo := false }
    let x := { x with eye := some (x.eye.getD eye) }
    match x.sts with
    | none => ask x
    | some v =>
      let x := { x with sts := none }
      if x.undo then ask (nextTry { x with undo := false })
      else if v ≠ 1 then ask (nextTry x)
      else if x.eye.getD 0 < eye then ask { x with eye := some eye, raised := true }
      else { x with req := if x.up then 2 else 1, undo := true }

/-- The positions of a selected group. -/
def groupPos (w g : Nat) : List Nat := (List.range (2 ^ w)).map (· + g * 2 ^ w)
/-- The receive lanes of the port's selected group. -/
def groupRx (s : State) (p : Nat) : List Nat :=
  match (getTr s p).sel with
  | some (_, w, g) => (groupPos w g).map (rxLane s p)
  | none => []

/-- The group's positions. -/
def groupSel (s : State) (p : Nat) : List Nat := (getTr s p).sel.elim [] (fun x => groupPos x.2.1 x.2.2)

/-- A port in STEP has sent its 64 frames, and its receivers have had COUNT 0 or 64 frame times (spec 11 R416). -/
def steppedOut (s : State) (p : Nat) : Bool :=
  (groupRx s p).all (fun l => decide (64 ≤ (getLn s l).stepRx.getD 0))
    && (groupSel s p).all (fun j => (getLn s (8 * p + j)).stepTx == 64)

/-- A frame that lane `l` decodes (spec 11 R411, R414 to R417; spec 10 R396): `x` is the lane before it. Requests, statuses and ADAPT_DONE
concern the transmitter, and the receiver, at the position of the LANE field. DEDUCED (assumption log 56). -/
def takeFrame (s : State) (l : Nat) (b : BitVec 248) : State :=
  let p := l / 8
  let st := laneState s l
  let x := getLn s l
  let lf := tfBits b 22 20
  let ph := tfBits b 27 24
  let n := if x.laneField = some lf then min 16 (x.frames + 1) else 1
  let s := setLn s l { x with decoded := true, worked := some x.inv, frames := n, laneField := some lf
                              good := decide (n = 16) || (x.good && x.laneField == some lf)
                              stepRx := if st = 5 ∧ ph = 3 then some (if tfBits b 135 128 = 0 then 64 else x.stepRx.getD 1) else x.stepRx
                              stepped := x.stepped || (st == 5 && ph == 3 && x.cls != 0) }
  let t := getTr s p
  let s := setTr s p { t with peerId := BitVec.ofNat 16 (tfBits b 15 0), peerValid := tfBits b 16 16 == 1
                              peerPort := tfBits b 19 17, peerDims := BitVec.ofNat 63 (tfBits b 126 64)
                              peerSel := if 2 ≤ ph then some (tfBits b 41 40, tfBits b 43 42, tfBits b 46 44) else t.peerSel
                              peerAck := if 2 ≤ ph then tfBits b 23 23 == 1 else t.peerAck }
  let q := A.PORT_STATUS p
  let s := wr (wr s q F.PORT_STATUS_NEIGHBOUR (tfBits b 15 0)) q F.PORT_STATUS_NEIGHBOUR_PORT (tfBits b 19 17)
  let r := A.LANE_TRAIN (8 * p)
  let s := wr (wr s r F.LANE_TRAIN_PEER_RATES (tfBits b 31 28)) r F.LANE_TRAIN_PEER_GOOD (tfBits b 39 32)
  let s := if st = 3 then updateGood s p else s
  if st ≠ 6 ∨ ph ≠ 4 then s
  else
    let tx := 8 * p + lf
    let s := applyAsk tx (BitVec.ofNat 6 (tfBits b 53 48)) s
    let s := if tfBits b 60 60 = 1 then setLn s tx { getLn s tx with peerDone := true } else s
    let rx := rxLane s p lf
    let y := (getLn s rx).search
    let sh := if y.tap = 0 then 4 else if y.tap = 1 then 0 else 2
    let eye := freeVal s
    let s := useFree s
    setLn s rx { getLn s rx with search := searchStep y (BitVec.ofNat 2 (tfBits b 59 54 / 2 ^ sh)) eye.toNat }

/-- TRAINING_FRAME: a frame time of lane `l` in HELLO, AGREE, STEP or ADAPT (spec 11 R400, R401, R411 to R417; spec 10 R385): the lane takes
the blocks that arrive, in the loop inside the device those that it has sent, decodes the frame while it holds block lock, and sends
the next one. DESIGN CHOICE (assumption log 93). -/
def opTrainingFrame (l : Fin 112) (blocks : List Block) (s : State) : State :=
  let st := laneState s l
  let p := l.val / 8
  if 48 ≤ l.val ∨ st < 3 ∨ 6 < st then s
  else
  let loop := decide (rd s (A.PORT_CTL p) F.PORT_CTL_HAIRPIN = 1)
  let bs := if loop then (getLn s l).line.map (turnBlock (rdB s (A.LANE_CTL l) F.LANE_CTL_TX_INV)) else laneWires s l blocks
  let got := blocksFrame (descrambleBlocks (getLn s l).rxScr bs).1
  let s := noteLock (throughLane (bs.foldl (noteHeader false l) s) l bs) l
  let x := getLn s l
  let s := setLn s l { x with stepRx := if st = 5 then x.stepRx.map (fun n => min 64 (n + 1)) else none }
  let ok := rdB s (A.LANE_STATUS l) F.LANE_STATUS_LOCKED
  let s := match got.filter (fun b => ok && tfOk b) with
    | some b => takeFrame s l b
    | none => (let s := setLn s l { getLn s l with frames := 0 }; if st = 3 then updateGood s p else s)
  if dirState s l true = 0 then sendFrame s l else s

/-- HELLO (spec 11 R412): every enabled lane is good or FAILED, or 8 ms have passed since the first became good. -/
def opHello (p : Fin 6) (late : Bool) (s : State) : State :=
  let m := rd s (A.LANE_TRAIN (8 * p)) F.LANE_TRAIN_OWN_GOOD
  let good := ((List.range 8).filter (bit m)).map (rxLane s p)
  let ls := enabledLanes s p
  if lanesIn s p 3 = [] ∨ good = [] ∨ ¬(late ∨ ls.all (fun l => good.contains l || laneState s l == 11)) then s
  else good.foldl (fun s l => if laneState s l = 3 then setLane s l 4 else s) s

/-- AGREE (spec 11 R415). -/
def opAgree (p : Fin 6) (s : State) : State :=
  let t := getTr s p
  if lanesIn s p 4 = [] then s else
  match ownSelection s p with
  | none => if t.noCommon then s else reportPort (setTr s p { t with noCommon := true }) p 0x44C [(p.val, 1)]
  | some (r, w, g) =>
    if t.peerSel ≠ some (r, w, g) ∨ !t.peerAck then s
    else
      let a := A.LANE_STATUS (8 * p)
      let s := wr (wr (setTr s p { t with sel := some (r, w, g) }) a F.LANE_STATUS_WIDTH w) a F.LANE_STATUS_GROUP g
      let s := if 2 ^ w < (enabledLanes s p).length then
          reportPort (wr s a F.LANE_STATUS_WIDTH_REDUCED 1) p 0x443 [(p.val, 1), (w, 1), (g, 1)]
        else s
      let rx := groupRx s p
      (enabledLanes s p).foldl (fun s l => if rx.contains l then setLane (setLn s l { getLn s l with stepTx := 0, stepRx := none }) l 5
        else if laneState s l = 11 then s else parkLane 10 s l) s

/-- The group's lanes go to a state. -/
def groupTo (s : State) (p st : Nat) : State := (groupRx s p).foldl (fun s l => setLane s l st) s

/-- A lane at its new rate: settings of the class, lock to be gained again (spec 11 R416, R421). -/
def changeRate (r : Nat) (s : State) (l : Nat) : State :=
  let s := wr (loadSettings s l r) (A.LANE_STATUS l) F.LANE_STATUS_LOCKED 0
  setLn s l { getLn s l with stepped := false, hdrs := [] }

/-- STEP (spec 11 R416): after the countdown the lanes change rate; once every group lane decodes frames at the new rate the port moves
on. -/
def opStepRate (p : Fin 6) (s : State) : State :=
  match (getTr s p).sel with
  | none => s
  | some (r, _, _) =>
    if lanesIn s p 5 = [] then s
    else
      let next := if 4 ≤ p.val then 6 else 7
      let begin_ := fun (s : State) => groupTo (if next = 6 then
        (portLanes p).foldl (fun s l => setLn s l { getLn s l with peerDone := false, coefSts := 0, search := {} })
          (wr s (A.LANE_TRAIN (8 * p)) F.LANE_TRAIN_ADAPT_STEPS 0) else s) p next
      if r = 0 then begin_ s
      else if rd s (A.LANE_STATUS (8 * p)) F.LANE_STATUS_RATE ≠ r then
        if !steppedOut s p then s
        else (enabledLanes s p).foldl (fun s l => if laneState s l = 5 then changeRate r s l else s)
          (wr s (A.LANE_STATUS (8 * p)) F.LANE_STATUS_RATE r)
      else if (groupRx s p).all (fun l => (getLn s l).stepped) then begin_ s
      else s

/-- STEP_FAILED (spec 11 R416): 5 ms have passed in STEP without frames at the new rate on every group lane.
DEDUCED (assumption log 92). -/
def opStepFailed (p : Fin 6) (s : State) : State :=
  match (getTr s p).sel with
  | none => s
  | some (r, _, _) =>
    if lanesIn s p 5 = [] ∨ r = 0 ∨ (groupRx s p).all (fun l => (getLn s l).stepped) then s
    else
      let s := reportPort s p 0x445 [(p.val, 1), (r, 1)]
      startPort (setTr s p { getTr s p with limit := r - 1 }) p 2 true

/-! ### Adaptation -/

/-- ADAPT_REQUEST (spec 11 R417): the requests of a COEF_REQ for the transmitter of lane `l`. -/
def opAdaptRequest (l : Fin 112) (req : BitVec 6) (s : State) : State := applyAsk l req s

/-- ADAPT (spec 11 R417): ADAPT_DONE has arrived for every transmitter of the group, and every receiver of it has finished its search. -/
def opAdapt (p : Fin 6) (s : State) : State :=
  if lanesIn s p 6 ≠ [] ∧ (groupSel s p).all (fun j => (getLn s (8 * p + j)).peerDone)
      ∧ (groupRx s p).all (fun l => (getLn s l).search.tap == 3) then groupTo s p 7 else s

/-- ADAPT_TIMEOUT (spec 11 R417). -/
def opAdaptTimeout (p : Fin 6) (s : State) : State :=
  if lanesIn s p 6 = [] then s
  else groupTo (reportPort (wr s (A.LANE_STATUS (8 * p)) F.LANE_STATUS_ADAPT_TIMEOUT 1) p 0x447 [(p.val, 1)]) p 7

/-- DESKEW (spec 11 R412): the lanes are aligned on ballast groups of equal PAGE. -/
def opDeskew (p : Fin 6) (s : State) : State := if lanesIn s p 7 = [] ∨ !(getTr s p).aligned then s else groupTo s p 8
/-- FEC (spec 11 R397, R418): READY has been sent and received, and at a rate code with FEC both directions have changed to it. -/
def opFecState (p : Fin 6) (s : State) : State :=
  let t := getTr s p
  let fec := (rateOf (rd s (A.LANE_STATUS (8 * p)) F.LANE_STATUS_RATE)).fec
  if lanesIn s p 8 = [] ∨ !t.readyOut ∨ !t.readyIn ∨ (fec ∧ ¬(t.fec ∧ t.txFec)) then s
  else groupTo (setTr s p { t with limit := 3 }) p 9

/-- BRING_UP_TIMEOUT (spec 11 R412). -/
def opBringUpTimeout (p : Fin 6) (s : State) : State :=
  let sts := ((portLanes p).map (laneState s)).filter (fun st => decide (2 ≤ st ∧ st ≤ 8))
  if sts = [] then s else restartPort (reportPort s p 0x446 [(p.val, 1), (sts.foldl max 0, 1)]) p

/-! ### In UP -/

/-- PORT_LEAVE_UP (spec 11 R420): causes 1 to 3 and 9; the others have steps of their own. -/
def opPortLeaveUp (p : Fin 6) (cause : Fin 10) (s : State) : State :=
  if lanesIn s p 9 = [] ∨ !([1, 2, 3, 9].contains cause.val) then s
  else
    let s := (lanesIn s p 9).foldl (fun s l =>
      if cause.val = 1 then wr s (A.LANE_STATUS l) F.LANE_STATUS_LOS 1
      else if cause.val = 2 then wr s (A.LANE_STATUS l) F.LANE_STATUS_LOL 1 else s) s
    leaveUp s p cause

/-- A write of LANE[l].CTL of a tether lane by the warden (spec 11 R437, R420 cause 6, R427): RX_INV is where the next bring-up starts. -/
def writeTetherCtl (s : State) (l : Nat) (v : Reg) : State :=
  let fs := [F.LANE_CTL_TX_INV, F.LANE_CTL_RX_INV, F.LANE_CTL_IE, F.LANE_CTL_EN]
    ++ (if l % 8 = 0 then [F.LANE_CTL_STEP_LIMIT, F.LANE_CTL_RATE_MASK] else [])
  let old := rd s (A.LANE_CTL l) F.LANE_CTL_RX_INV
  let s := setR s (A.LANE_CTL l) (writeFlds true fs (getR s (A.LANE_CTL l)) v)
  let s := if old ≠ getFld v F.LANE_CTL_RX_INV then setLn s l { getLn s l with worked := none } else s
  if l % 8 = 0 ∧ getFld v F.LANE_CTL_RETRAIN = 1 then leaveUp s (l / 8) 6 else s

/-- RETRAIN (spec 11 R420). -/
def opRetrain (p : Fin 6) (v : Reg) (s : State) : State := writeTetherCtl s (8 * p) v

/-- A step-down begins, on the port's own errors or on the neighbour's STEP_DOWN: the cap is lowered, and the next 4 ballast groups carry
STEP_DOWN (spec 11 R422). DEDUCED (assumption log 56). -/
def stepDownNow (s : State) (p : Nat) : State :=
  let r := rd s (A.LANE_STATUS (8 * p)) F.LANE_STATUS_RATE
  let s := wr s (A.LANE_TRAIN (8 * p)) F.LANE_TRAIN_RATE_CAP (r - 1)
  setTr s p { getTr s p with stepDown := 5 }

/-- It ends when they have gone out (spec 11 R422). -/
def stepDownEnd (s : State) (p : Nat) : State :=
  let r := rd s (A.LANE_STATUS (8 * p)) F.LANE_STATUS_RATE
  leaveUp (reportPort (wr s (A.LANE_STATUS (8 * p)) F.LANE_STATUS_STEPPED_DOWN 1) p 0x444 [(p, 1), (r - 1, 1)]) p 5

/-- The histogram bin of a count: 0 for 0, k for 2^(k-1) to 2^k - 1, at most `top` (spec 14 R531). -/
def logBin (top n : Nat) : Nat := if n = 0 then 0 else min top (Nat.log2 n + 1)

/-- The counts of a window (spec 11 R401, R422, R439): with FEC the symbols corrected on each lane of the group and the codewords that
could not be; without it the invalid headers on each lane. They come beside those of the stream that PACKET_RECEIVE has taken. -/
def countWindow (s : State) (p : Nat) (errs : List Nat) (bad : Nat) : State :=
  let s := ((groupRx s p).zip errs).foldl (fun s x => bump s (A.LANE_FEC_CNT x.1) F.LANE_FEC_CNT_CORR x.2) s
  let s := if (getTr s p).fec then bump s (A.LANE_FEC_CNT (8 * p)) F.LANE_FEC_CNT_UNCORR bad else s
  setTr s p { getTr s p with badHdrs := 0, symErrs := 0, badWords := 0 }

/-- E of a window (spec 11 R422). -/
def windowErrors (s : State) (p : Nat) (errs : List Nat) (bad : Nat) : Nat :=
  let t := getTr s p
  if t.fec then errs.sum + t.symErrs + 8 * (bad + t.badWords) else errs.sum + t.badHdrs

/-- STEP_DOWN: a window of R422 ends, with `errs` on the lanes of the group and `bad` codewords that could not be corrected.
DEDUCED (assumption log 56). -/
def opStepDown (p : Fin 6) (errs : List Nat) (bad : Nat) (s : State) : State :=
  if lanesIn s p 9 = [] then s
  else
    let e := windowErrors s p errs bad
    let s := countWindow s p errs bad
    let s := if rdB s A.REC_CTL F.REC_CTL_EN then recCount s (0x580 + 4 * (17 * p.val + logBin 16 e)) 1 else s
    let lim := rd s (A.LANE_CTL (8 * p)) F.LANE_CTL_STEP_LIMIT
    let t := getTr s p
    if lim = 0 ∨ e ≤ 64 * lim ∨ t.stepDown ≠ 0 then setTr s p { t with above := false }
    else if !t.above then setTr s p { t with above := true }
    else
      let s := setTr s p { t with above := false }
      if rd s (A.LANE_STATUS (8 * p)) F.LANE_STATUS_RATE = 0 then
        reportPort s p 0x444 [(p.val, 1), (rd s (A.LANE_TRAIN (8 * p)) F.LANE_TRAIN_RATE_CAP, 1)]
      else stepDownNow s p

/-! ### Pages (spec 11 R403 to R405, R408, R412, R418, R425) -/

/-- The lanes of a port that carry its stream. -/
def streamLanes (s : State) (p : Nat) : List Nat := lanesIn s p 7 ++ lanesIn s p 8 ++ lanesIn s p 9

/-- Whether the page that begins is the one whose group carries FEC_NEXT (spec 11 R418, R425): at a rate with FEC the first of state FEC,
and the fourth of a wake. -/
def sendsFecNext (s : State) (p : Nat) : Bool :=
  let t := getTr s p
  (rateOf (rd s (A.LANE_STATUS (8 * p)) F.LANE_STATUS_RATE)).fec && !t.txFec && !t.fecOut
    && (t.wakePages == 2 || (t.wakePages == 0 && lanesIn s p 8 != []))

/-- FLAGS of the ballast group that port `p` sends next (spec 11 R403, R418, R422, R425). -/
def groupFlags (s : State) (p : Nat) : BitVec 4 :=
  let t := getTr s p
  let q := decide ((getLn s (8 * p)).nextTx = some 1) && dirState s (8 * p) true == 3
  let r := t.readyOut || (decide (4 ≤ t.goodPages) && lanesIn s p 8 != [])
  BitVec.ofNat 4 (b2n (sendsFecNext s p) + 2 * b2n r + 4 * b2n q + 8 * b2n (decide (2 ≤ t.stepDown)))

/-- A page begins on the transmit side: its ballast group, and what that has said (spec 11 R403, R404, R418, R422, R425). -/
def beginPage (s : State) (p : Nat) : State × List Block :=
  let t := getTr s p
  let n := (streamLanes s p).length
  let fl := groupFlags s p
  (setTr s p { t with txPos := n % pageBlocks, txPage := t.txPage + 1, txFec := t.txFec || t.fecOut, fecOut := bit fl.toNat 0
                      readyOut := t.readyOut || bit fl.toNat 1, quietOut := t.quietOut || bit fl.toNat 2
                      stepDown := if 2 ≤ t.stepDown then t.stepDown - 1 else t.stepDown, wakePages := t.wakePages - 1 },
   (List.range n).map (fun k => ballastBlock k t.txPage.toNat fl.toNat))

/-- Blocks take their places in the port's pages (spec 11 R404). -/
def inPages (p : Nat) : State → List Block → State × List Block
  | s, [] => (s, [])
  | s, b :: bs =>
    let y := if (getTr s p).txPos = 0 then beginPage s p else (s, [])
    let t := getTr y.1 p
    let z := inPages p (setTr y.1 p { t with txPos := (t.txPos + 1) % pageBlocks }) bs
    (z.1, y.2 ++ b :: z.2)

/-- The port sends blocks of its stream, with the ballast groups of the pages that begin among them, scrambled (spec 11 R400, R404).
PRESUMED (assumption log 17). -/
def sendStream (s : State) (p : Nat) (bs : List Block) : State :=
  let y := inPages p s bs
  let t := getTr y.1 p
  let z := scrambleBlocks t.txScr y.2
  let s := setTr y.1 p { t with txScr := z.2 }
  { s with ports := smSet {} s.ports p { smGet {} s.ports p with sent := z.1 } }

/-- The port's page ends with IDLE and the next begins (spec 11 R404): its group goes out with one IDLE block after it. -/
def nextPage (s : State) (p : Nat) : State :=
  let t := getTr s p
  sendStream s p (List.replicate ((if t.txPos = 0 then 0 else pageBlocks - t.txPos) + 1) (controlBlock 0x33 0))

/-- The port's transmitter has its page time (spec 11 R418, R422, R425): the fourth group with STEP_DOWN having gone out, the step-down
ends; the page of QUIET_NEXT having gone out, the lanes go to electrical idle. DESIGN CHOICE (assumption log 93). -/
def pageOut (s : State) (p : Nat) : State :=
  let t := getTr s p
  let x := getLn s (8 * p)
  let entering := decide (dirState s (8 * p) true = 3 ∧ x.nextTx = some 1 ∧ !x.idleTx)
  if streamLanes s p = [] then s
  else if t.stepDown = 1 then stepDownEnd s p
  else if t.quietOut && entering then setLn (setTr s p { t with quietOut := false }) (8 * p) { x with idleTx := true }
  else if dirState s (8 * p) true = 0 ∨ entering then nextPage s p
  else s

/-- What a group says of the page that it ends and of the stream (spec 11 R403, R412, R418, R420 cause 3, R422, R425). -/
def groupIn (s : State) (p : Nat) (g : BallastGroup) : State :=
  let t := getTr s p
  let n := (streamLanes s p).length
  let same := decide (g.pages.length = n) && g.pages.all (fun v => some v == g.pages.head?)
  let good := g.atStart && decide (g.bad + t.pageBad = 0)
  let s := setTr s p { t with quietNext := t.quietNext || bit g.flags.toNat 2, aligned := t.aligned || same
                              goodPages := if good then min 4 (t.goodPages + 1) else 0, readyIn := t.readyIn || bit g.flags.toNat 1
                              fec := t.fec || t.fecNext, fecNext := bit g.flags.toNat 0, pageBad := 0
                              missed := if g.atStart then 0 else t.missed + 1 }
  if t.fec ∧ !g.atStart ∧ 8 ≤ t.missed + 1 then leaveUp s p 3
  else if bit g.flags.toNat 3 ∧ t.stepDown = 0 ∧ rd s (A.LANE_STATUS (8 * p)) F.LANE_STATUS_RATE ≠ 0 ∧ lanesIn s p 9 ≠ [] then
    stepDownNow s p
  else s

/-- BALLAST: a page time of a port (spec 11 R403, R408, R412, R418, R420, R422, R425): `level` blocks are in the elastic buffer at the
arrival of the group `g`; in the loop inside the device the group is the port's own. Then the transmitter has its page time.
DESIGN CHOICE (assumption log 93). -/
def opBallast (p : Fin 6) (level : Fin 65) (g : BallastGroup) (s : State) : State :=
  let n := (streamLanes s p).length
  if n = 0 then s
  else
    let own : BallastGroup := { flags := groupFlags s p, pages := List.replicate n (getTr s p).txPage }
    let g := if rd s (A.PORT_CTL p) F.PORT_CTL_HAIRPIN = 1 then own else g
    let s := if dirState s (8 * p) false ≠ 0 then s
      else
        let lv := match elasticRule level with | .delete => level.val - n | .repeat_ => level.val + n | .pass => level.val
        groupIn (setTr s p { getTr s p with elastic := lv, pos := n % pageBlocks }) p g
    pageOut s p

/-- ELASTIC_ERROR (spec 11 R408). -/
def opElasticError (p : Fin 6) (s : State) : State :=
  if lanesIn s p 9 = [] then s
  else leaveUp (reportPort (wr s (A.LANE_STATUS (8 * p)) F.LANE_STATUS_ELASTIC_ERR 1) p 0x449 [(p.val, 1)]) p 4

/-! ### Sleep by direction -/

/-- Whether a port has a packet or a credit to send (spec 11 R425). -/
def portTraffic (s : State) (p : Nat) : Bool :=
  let x := smGet {} s.ports p
  x.out.any (fun b => b.2 != []) || x.owed.any (fun b => b.2 != 0) || transitFor s p

/-- The change of a direction toward state code `to_` begins (spec 11 R423, R426): a port in UP that enters QUIET has its page to send out
first (R425); for the others electrical idle, or the removal of power, begins at once. -/
def beginDir (s : State) (l : Nat) (tx : Bool) (to_ : Nat) : State :=
  let g := pwrLane s l
  let x := getLn s g
  let page := decide (l < 48) && tx && decide (to_ = 1) && lanesIn s (l / 8) 9 != []
  setDir (setLn s g (if tx then { x with nextTx := some to_, idleTx := to_ != 0 && !page }
    else { x with nextRx := some to_, idleRx := to_ != 0 })) l tx 3

/-- An entry to QUIET is cancelled before electrical idle (spec 11 R426). -/
def cancelQuiet (s : State) (l : Nat) (tx : Bool) : State :=
  let g := pwrLane s l
  let x := getLn s g
  setDir (setLn s g (if tx then { x with nextTx := none } else { x with nextRx := none })) l tx 0

/-- PORT_QUIET_ENTRY (spec 11 R425): `auto` says that AUTO_US has passed without traffic. The next ballast group carries QUIET_NEXT. -/
def opPortQuietEntry (p : Fin 6) (auto : Bool) (s : State) : State :=
  let a := A.LANE_PWR (8 * p)
  if lanesIn s p 9 = [] ∨ dirState s (8 * p) true ≠ 0 ∨ portTraffic s p ∨ tripped s then s
  else if (auto ∧ rd s a F.LANE_PWR_AUTO_US ≠ 0) ∨ (!auto ∧ dirReq s (8 * p) true = 1) then beginDir s (8 * p) true 1
  else s

/-- PORT_QUIET_WAKE (spec 11 R425, R426): a packet to send wakes a quiet TX, whose next 4 pages have no FEC and count from PAGE 0; one
that has not yet reached electrical idle stays ON. -/
def opPortQuietWake (p : Fin 6) (s : State) : State :=
  let l := 8 * p.val
  if lanesIn s p 9 = [] ∨ !portTraffic s p ∨ tripped s then s
  else if dirState s l true = 1 then
    setDir (setTr s p { getTr s p with txPos := 0, txPage := 0, txFec := false, fecOut := false, quietOut := false, wakePages := 5 }) l true 0
  else if dirState s l true = 3 ∧ (getLn s l).nextTx = some 1 ∧ !(getLn s l).idleTx then
    cancelQuiet (setTr s p { getTr s p with quietOut := false }) l true
  else s

/-- RX_QUIET_ENTRY (spec 11 R425). -/
def opRxQuietEntry (p : Fin 6) (s : State) : State :=
  if lanesIn s p 9 ≠ [] ∧ dirState s (8 * p) false = 0 ∧ (getTr s p).quietNext then
    let s := (lanesIn s p 9).foldl (fun s l => wr s (A.LANE_STATUS l) F.LANE_STATUS_LOS 1) s
    setDir (setTr s p { getTr s p with quietNext := false }) (8 * p) false 1
  else s

/-- RX_QUIET_WAKE (spec 11 R425): `ok` says that the receiver deskews in time. -/
def opRxQuietWake (p : Fin 6) (ok : Bool) (s : State) : State :=
  if lanesIn s p 9 = [] ∨ dirState s (8 * p) false ≠ 1 ∨ tripped s then s
  else
    let s := (lanesIn s p 9).foldl (fun s l => wr s (A.LANE_STATUS l) F.LANE_STATUS_LOS 0) s
    let s := setDir s (8 * p) false 0
    let s := (lanesIn s p 9).foldl (fun s l => setLn s l { getLn s l with hdrs := [] })
      (setTr s p { getTr s p with fec := false, fecNext := false, rxBits := [], pos := 0 })
    if ok then s else leaveUp s p 9

/-- A request for a direction (spec 11 R426): an entry to QUIET that has not reached electrical idle is cancelled, every other change
completes first. -/
def requestDir (s : State) (l : Nat) (tx : Bool) (req : Nat) : State :=
  let g := pwrLane s l
  let x := getLn s g
  let st := dirState s l tx
  if st = 3 then
    (if (if tx then x.nextTx else x.nextRx) = some 1 ∧ !(if tx then x.idleTx else x.idleRx) ∧ req = 0 then cancelQuiet s l tx else s)
  else if st = req then s
  else beginDir s l tx req

/-- A write of LANE[l].PWR by the warden (spec 11 R424, R426, R439). Requests act while the lane is enabled; those of a bonded
lane that is not its group's lowest are ignored while the group is not OFF (R427). -/
def writeLanePwr (s : State) (l : Nat) (v : Reg) : State :=
  if l < 48 ∧ l % 8 ≠ 0 then s
  else
    let a := A.LANE_PWR l
    let tq := getFld v F.LANE_PWR_TX_REQ
    let rq := getFld v F.LANE_PWR_RX_REQ
    let fs := [F.LANE_PWR_AUTO_US, F.LANE_PWR_RX_AUTO] ++ (if tq = 3 then [] else [F.LANE_PWR_TX_REQ])
      ++ (if rq = 3 then [] else [F.LANE_PWR_RX_REQ])
    let s := setR s a (writeFlds true fs (getR s a) v)
    let live := if l < 48 then s.boot.out && rdB s (A.PORT_CTL (l / 8)) F.PORT_CTL_EN else laneState s l != 0
    if !live || pwrLane s l != l then s
    else
      let off := tq = 2 ∨ rq = 2
      let s := if l < 48 ∧ off then leaveUp s (l / 8) 8 else s
      let up := l < 48 ∧ lanesIn s (l / 8) 9 ≠ []
      let s := if tq = 3 ∨ (up ∧ tq = 1) then s else requestDir s l true tq
      if rq = 3 then s else requestDir s l false rq

/-- DIRECTION_POWER_REQUEST (spec 11 R426). -/
def opDirectionPowerRequest (l : Fin 112) (v : Reg) (s : State) : State := writeLanePwr s l v

/-- DIRECTION_POWER_DONE (spec 11 R423, R426): a later request then takes its turn; RESTART_MERGED marks a wake that follows an
entry at once. A tether direction that wakes from OFF starts bring-up (R424). -/
def opDirectionPowerDone (l : Fin 112) (tx : Bool) (s : State) : State :=
  let g := pwrLane s l
  let x := getLn s g
  match (if tx then x.nextTx else x.nextRx) with
  | none => s
  | some to_ =>
    if dirState s l tx ≠ 3 ∨ tripped s ∨ (to_ ≠ 0 ∧ !(if tx then x.idleTx else x.idleRx)) then s
    else
      let s := setLn s g (if tx then { x with nextTx := none, idleTx := false } else { x with nextRx := none, idleRx := false })
      let s := setDir s l tx to_
      let req := dirReq s l tx
      if to_ ≠ req then
        let s := if req = 0 then wr s (A.LANE_STATUS g) F.LANE_STATUS_RESTART_MERGED 1 else s
        beginDir s l tx req
      else if to_ = 0 ∧ l.val < 48 ∧ lanesIn s (l / 8) 9 = [] then restartPort s (l / 8)
      else s

/-- RX_AUTO_WAKE (spec 11 R424); it ends deep sleep too (spec 13 R489). -/
def opRxAutoWake (p : Fin 6) (s : State) : State :=
  let l := 8 * p.val
  if dirState s l false = 2 ∧ rdB s (A.LANE_PWR l) F.LANE_PWR_RX_AUTO ∧ s.boot.out ∧ rdB s (A.PORT_CTL p) F.PORT_CTL_EN
      ∧ !tripped s then
    let s := wr { s with asleep := false } (A.LANE_STATUS l) F.LANE_STATUS_LOS 0
    setDir (restartPort s p) l false 0
  else s

/-! ### Edge lanes -/

/-- An edge lane comes up at SIGNAL with the rate, the mode and the polarities of its CTL, or of the lowest lane of its bonded
group (spec 11 R427, R421); a rate out of range keeps it DISABLED (R437). -/
def startEdge (s : State) (l : Nat) : State :=
  let src := A.LANE_CTL (pwrLane s l)
  let r := rd s src F.LANE_CTL_EDGE_RATE
  let x := getLn s l
  let s := setLn s l { x with rate := BitVec.ofNat 16 r, mode := BitVec.ofNat 2 (rd s src F.LANE_CTL_MODE)
                              txInv := rdB s (A.LANE_CTL l) F.LANE_CTL_TX_INV, rxInv := rdB s (A.LANE_CTL l) F.LANE_CTL_RX_INV
                              hdrs := [], items := [], since := 0, txOpen := false, txFill := [] }
  if !s.boot.out || decide (r < 125) || decide (3200 < r) then setLane s l 0
  else
    let s := loadSettings s l (edgeClass r)
    let s := powerDir (powerDir s l true) l false
    setLane (wr s (A.LANE_STATUS l) F.LANE_STATUS_LOCKED 0) l 1

/-- An edge lane is disabled (spec 11 R427, R437). -/
def stopEdge (s : State) (l : Nat) : State :=
  let s := setLane (wr s (A.LANE_STATUS l) F.LANE_STATUS_LOCKED 0) l 0
  if pwrLane s l = l then forceDir (forceDir s l true 2) l false 2 else s

/-- RAW32 alignment starts again (spec 11 R429). -/
def realignNow (s : State) (l : Nat) : State :=
  if (getLn s l).mode = 0 ∧ laneState s l = 9 then setLane (wr s (A.LANE_STATUS l) F.LANE_STATUS_LOCKED 0) l 12 else s

/-- A write of LANE[l].CTL of an edge lane by the warden (spec 11 R427, R429, R437). -/
def writeEdgeCtl (s : State) (l : Nat) (v : Reg) : State :=
  let fs := [F.LANE_CTL_EDGE_RATE, F.LANE_CTL_TX_INV, F.LANE_CTL_RX_INV, F.LANE_CTL_IE, F.LANE_CTL_EN]
    ++ (if getFld v F.LANE_CTL_MODE = 3 then [] else [F.LANE_CTL_MODE])
  let was := laneEn s l
  let s := setR s (A.LANE_CTL l) (writeFlds true fs (getR s (A.LANE_CTL l)) v)
  let s := if laneEn s l && !was then startEdge s l else if !laneEn s l && was then stopEdge s l else s
  if getFld v F.LANE_CTL_REALIGN = 1 then realignNow s l else s

/-- EDGE_LANE_ENABLE (spec 11 R427). -/
def opEdgeLaneEnable (l : Fin 112) (v : Reg) (s : State) : State := if l.val < 48 then s else writeEdgeCtl s l v
/-- REALIGN (spec 11 R429). -/
def opRealign (l : Fin 112) (v : Reg) (s : State) : State := if l.val < 48 then s else writeEdgeCtl s l v

/-- ALIGN (spec 11 R429, R427): in RAW32 the pattern stands in 8 consecutive slots. -/
def opAlign (l : Fin 112) (slots : List Word) (s : State) : State :=
  let pat := rd s (A.LANE_TRAIN l) F.LANE_TRAIN_ALIGN_PAT
  if l.val < 48 ∨ laneState s l ≠ 12 then s
  else if (getLn s l).mode ≠ 0 then setLane s l 9
  else if slots.length = 8 ∧ slots.all (fun w => (if (getLn s l).rxInv then ~~~w else w).toNat == pat) then
    setLane (wr s (A.LANE_STATUS l) F.LANE_STATUS_LOCKED 1) l 9
  else s

/-- EDGE_SIGNAL_LOSS (spec 11 R427, R433, R434; spec 14 R531): a lost signal, or a lost lock. -/
def opEdgeSignalLoss (h : LaneLoss) (s : State) : State :=
  let st := laneState s h.lane
  if h.lane.val < 48 ∨ ¬(st = 2 ∨ st = 12 ∨ st = 9) then s else laneLoss s h.lane h.signal

/-- Whether the group of edge lane `l` may start a record or is sending one (spec 06 R241). -/
def edgePending (s : State) (l : Nat) : Bool :=
  let g := getG s ((l - 48) / 4)
  let lvl := rd s (gCtl ((l - 48) / 4)) F.GRP_CTL_START_LEVEL
  g.sending || g.txBytes != [] || (g.unpack != [] && (gNoRec s ((l - 48) / 4) || g.unpack.any hasEnd
    || (decide (1 ≤ lvl) && decide (lvl ≤ g.unpack.length))))

/-- EDGE_TX_QUIET (spec 11 R434). -/
def opEdgeTxQuiet (l : Fin 112) (s : State) : State :=
  if 48 ≤ l.val ∧ dirState s l true = 0 ∧ rd s (A.LANE_PWR (pwrLane s l)) F.LANE_PWR_AUTO_US ≠ 0 ∧ !edgePending s l
      ∧ (getG s ((l - 48) / 4)).unpack = [] then setDir s l true 1
  else s

/-- EDGE_TX_WAKE (spec 11 R434): 64 slots of idle go before the record. -/
def opEdgeTxWake (l : Fin 112) (s : State) : State :=
  if 48 ≤ l.val ∧ dirState s l true = 1 ∧ edgePending s l ∧ !tripped s then
    sendGroupIdle (setDir s l true 0) ((l - 48) / 4) 64
  else s

/-- A write of LANE[l].TAPS by the warden (spec 11 R438). -/
def writeTaps (s : State) (l : Nat) (v : Reg) : State :=
  if tapsOk (getFld v F.LANE_TAPS_PRE) (getFld v F.LANE_TAPS_MAIN) (getFld v F.LANE_TAPS_POST)
      ∧ ¬(32 ≤ l ∧ l < 48 ∧ lanesIn s (l / 8) 6 ≠ []) then
    setR s (A.LANE_TAPS l) (writeFlds true L.LANE_TAPS (getR s (A.LANE_TAPS l)) v)
  else s

/-- TAPS_WRITE (spec 11 R438). -/
def opTapsWrite (l : Fin 112) (v : Reg) (s : State) : State := writeTaps s l v

/-- A write of LANE[l].EQ by the warden (spec 11 R438). -/
def writeEq (s : State) (l : Nat) (v : Reg) : State :=
  let s := setR s (A.LANE_EQ l) (writeFlds true L.LANE_EQ (getR s (A.LANE_EQ l)) v)
  setLn s l { getLn s l with eqSet := true }

/-- The bring-up of every port and edge lane that is enabled, when OUT releases the transmitters (spec 11 R399). -/
def startAllLanes (s : State) : State :=
  let s := (List.range 6).foldl restartPort s
  ((List.range 64).map (· + 48)).foldl (fun s l => if laneEn s l then startEdge s l else s) s

/-- Every transmitter in electrical idle again (spec 12 R467): ports and lanes stop. -/
def stopAllLanes (s : State) : State :=
  let s := (List.range 6).foldl (fun s p => restartPort (portLost s p) p) s
  ((List.range 64).map (· + 48)).foldl stopEdge s

/-! ### The meanings of the commands of this file -/

/-- SIGNAL (spec 11 R412). -/
def execLaneSignal (l : Fin 112) (s : State) : Host.Outcome State Fault Refusal := .next (opLaneSignal l s)
/-- LOCK (spec 11 R412). -/
def execLaneLock (h : LaneBlocks) (s : State) : Host.Outcome State Fault Refusal := .next (opLaneLock h.lane h.blocks s)
/-- LOCK_TIMEOUT (spec 11 R412). -/
def execLockTimeout (l : Fin 112) (s : State) : Host.Outcome State Fault Refusal := .next (opLockTimeout l s)
/-- POLARITY_INVERT (spec 11 R413). -/
def execPolarityInvert (l : Fin 112) (s : State) : Host.Outcome State Fault Refusal := .next (opPolarityInvert l s)
/-- LANE_FAILED (spec 11 R413). -/
def execLaneFailed (l : Fin 112) (s : State) : Host.Outcome State Fault Refusal := .next (opLaneFailed l s)
/-- TRAINING_FRAME (spec 11 R411). -/
def execTrainingFrame (l : Fin 112) (blocks : List Block) (s : State) : Host.Outcome State Fault Refusal :=
  .next (opTrainingFrame l blocks s)
/-- HELLO (spec 11 R412). -/
def execHello (p : Fin 6) (late : Bool) (s : State) : Host.Outcome State Fault Refusal := .next (opHello p late s)
/-- AGREE (spec 11 R415). -/
def execAgree (p : Fin 6) (s : State) : Host.Outcome State Fault Refusal := .next (opAgree p s)
/-- STEP (spec 11 R416). -/
def execStepRate (p : Fin 6) (s : State) : Host.Outcome State Fault Refusal := .next (opStepRate p s)
/-- STEP_FAILED (spec 11 R416). -/
def execStepFailed (p : Fin 6) (s : State) : Host.Outcome State Fault Refusal := .next (opStepFailed p s)
/-- ADAPT_REQUEST (spec 11 R417). -/
def execAdaptRequest (l : Fin 112) (req : BitVec 6) (s : State) : Host.Outcome State Fault Refusal := .next (opAdaptRequest l req s)
/-- ADAPT (spec 11 R417). -/
def execAdapt (p : Fin 6) (s : State) : Host.Outcome State Fault Refusal := .next (opAdapt p s)
/-- ADAPT_TIMEOUT (spec 11 R417). -/
def execAdaptTimeout (p : Fin 6) (s : State) : Host.Outcome State Fault Refusal := .next (opAdaptTimeout p s)
/-- DESKEW (spec 11 R412). -/
def execDeskew (p : Fin 6) (s : State) : Host.Outcome State Fault Refusal := .next (opDeskew p s)
/-- FEC (spec 11 R418). -/
def execFecState (p : Fin 6) (s : State) : Host.Outcome State Fault Refusal := .next (opFecState p s)
/-- BRING_UP_TIMEOUT (spec 11 R412). -/
def execBringUpTimeout (p : Fin 6) (s : State) : Host.Outcome State Fault Refusal := .next (opBringUpTimeout p s)
/-- PORT_LEAVE_UP (spec 11 R420). -/
def execPortLeaveUp (p : Fin 6) (cause : Fin 10) (s : State) : Host.Outcome State Fault Refusal := .next (opPortLeaveUp p cause s)
/-- RETRAIN (spec 11 R420). -/
def execRetrain (p : Fin 6) (value : Reg) (s : State) : Host.Outcome State Fault Refusal := .next (hostAccess (opRetrain p value) s)
/-- STEP_DOWN (spec 11 R422). -/
def execStepDown (p : Fin 6) (e : WindowCounts) (s : State) : Host.Outcome State Fault Refusal :=
  .next (opStepDown p e.syms e.bad s)
/-- BALLAST (spec 11 R408). -/
def execBallast (p : Fin 6) (level : Fin 65) (g : BallastGroup) (s : State) : Host.Outcome State Fault Refusal :=
  .next (opBallast p level g s)
/-- ELASTIC_ERROR (spec 11 R408). -/
def execElasticError (p : Fin 6) (s : State) : Host.Outcome State Fault Refusal := .next (opElasticError p s)
/-- PORT_QUIET_ENTRY (spec 11 R425). -/
def execPortQuietEntry (p : Fin 6) (auto : Bool) (s : State) : Host.Outcome State Fault Refusal := .next (opPortQuietEntry p auto s)
/-- PORT_QUIET_WAKE (spec 11 R425). -/
def execPortQuietWake (p : Fin 6) (s : State) : Host.Outcome State Fault Refusal := .next (opPortQuietWake p s)
/-- RX_QUIET_ENTRY (spec 11 R425). -/
def execRxQuietEntry (p : Fin 6) (s : State) : Host.Outcome State Fault Refusal := .next (opRxQuietEntry p s)
/-- RX_QUIET_WAKE (spec 11 R425). -/
def execRxQuietWake (p : Fin 6) (ok : Bool) (s : State) : Host.Outcome State Fault Refusal := .next (opRxQuietWake p ok s)
/-- DIRECTION_POWER_REQUEST (spec 11 R426). -/
def execDirectionPowerRequest (l : Fin 112) (value : Reg) (s : State) : Host.Outcome State Fault Refusal :=
  .next (hostAccess (opDirectionPowerRequest l value) s)
/-- DIRECTION_POWER_DONE (spec 11 R423). -/
def execDirectionPowerDone (l : Fin 112) (tx : Bool) (s : State) : Host.Outcome State Fault Refusal := .next (opDirectionPowerDone l tx s)
/-- EDGE_LANE_ENABLE (spec 11 R427). -/
def execEdgeLaneEnable (l : Fin 112) (value : Reg) (s : State) : Host.Outcome State Fault Refusal :=
  .next (hostAccess (opEdgeLaneEnable l value) s)
/-- ALIGN (spec 11 R429). -/
def execAlign (l : Fin 112) (slots : List Word) (s : State) : Host.Outcome State Fault Refusal := .next (opAlign l slots s)
/-- REALIGN (spec 11 R429). -/
def execRealign (l : Fin 112) (value : Reg) (s : State) : Host.Outcome State Fault Refusal := .next (hostAccess (opRealign l value) s)
/-- EDGE_SIGNAL_LOSS (spec 11 R427). -/
def execEdgeSignalLoss (loss : LaneLoss) (s : State) : Host.Outcome State Fault Refusal := .next (opEdgeSignalLoss loss s)
/-- EDGE_TX_QUIET (spec 11 R434). -/
def execEdgeTxQuiet (l : Fin 112) (s : State) : Host.Outcome State Fault Refusal := .next (opEdgeTxQuiet l s)
/-- EDGE_TX_WAKE (spec 11 R434). -/
def execEdgeTxWake (l : Fin 112) (s : State) : Host.Outcome State Fault Refusal := .next (opEdgeTxWake l s)
/-- TAPS_WRITE (spec 11 R438). -/
def execTapsWrite (l : Fin 112) (value : Reg) (s : State) : Host.Outcome State Fault Refusal := .next (hostAccess (opTapsWrite l value) s)
/-- PORT_ENABLE (spec 11 R412). -/
def execPortEnable (p : Fin 6) (value : Reg) (s : State) : Host.Outcome State Fault Refusal := .next (hostAccess (opPortEnable p value) s)
/-- RX_AUTO_WAKE (spec 11 R424). -/
def execRxAutoWake (p : Fin 6) (s : State) : Host.Outcome State Fault Refusal := .next (opRxAutoWake p s)

end Sys2Proof.Machine
end

