-- ==== Sys2Proof/Machine/Tether.lean ====
section
/-! DEFINITION. The tether fabric: packets between devices, gateways and proxies, strings and leases, neighbour checks and
enumeration (spec 10 R355 to R385, R389 to R396). -/

namespace Sys2Proof.Machine

/-- A report of a tether port's source (spec 14 R523). -/
def reportGw (s : State) (p code : Nat) (det : List Byte) : State := report s (176 + p) (unitDev s) code det

/-- A count of a port's ERR_CNT. -/
def portErr (s : State) (p : Nat) (f : Fld) : State := bump s (A.PORT_ERR_CNT p) f 1
def portDiscard (s : State) (p : Nat) : State := portErr s p F.PORT_ERR_CNT_DISCARDED

/-- A credit of the neighbour's packet, owed to it (spec 10 R367). -/
def oweCredit (s : State) (p key : Nat) : State :=
  let x := getP s p
  setP s p { x with owed := smSet 0 x.owed key (smGet 0 x.owed key + 1) }

/-- Whether a packet takes a credit: every one but CREDIT (spec 10 R361). -/
def takesCredit (k : Packet) : Bool := !(k.ctl && k.ctype == 0)

/-! ### Sending -/

/-- Whether port `p` may send a packet of buffer `key` now (spec 10 R367; spec 11 R425): the port carries packets, its TX is on,
a credit is held. -/
def mayTransmit (s : State) (p key : Nat) (c : Net) : Bool :=
  portLive s p && dirState s (8 * p) true == 0 && decide ((getTr s p).wakePages = 0) && !tripped s && decide (smGet 0 (getP s p).used key < classCredits c)

/-- The credits that the next header of port `p` returns: the lowest buffer that is owed any, at most 31 (spec 10 R359, R367). -/
def creditsFor (s : State) (p : Nat) : Nat × Nat :=
  match (List.range 8).find? (fun b => decide (0 < smGet 0 (getP s p).owed b)) with
  | some b => (b, min 31 (smGet 0 (getP s p).owed b))
  | none => (0, 0)

/-- The fixed latencies in ns of a port's transmitter and receiver at its rate code (spec 11 R409). -/
def portLatency (s : State) (p : Nat) : Nat × Nat := lineLatency (rd s (A.LANE_STATUS (8 * p)) F.LANE_STATUS_RATE)

/-- A TIME packet takes its departure time, when its first bit crosses the pins of port `p` (spec 10 R386; spec 11 R409). -/
def stampTime (s : State) (p : Nat) (k : Packet) : State × Packet :=
  let t := nowNs s + (portLatency s p).1
  let now := BitVec.ofNat 64 t
  if k.ctl ∧ k.ctype = 1 then
    ({ s with fabTime := { s.fabTime with t1 := some t } }, { k with payload := [now] })
  else if k.ctl ∧ k.ctype = 2 then (s, { k with payload := k.payload.take 1 ++ [now] })
  else (s, k)

/-- The place of a class and of an input in the order in which an output port serves them next (spec 10 R367): inputs 0 to 5 are the
ports, 6 this device itself. -/
def rrFirst (n start : Nat) (p : Nat → Bool) : Option Nat := ((List.range n).map (fun k => (start + k) % n)).find? p

/-- Whether input `i` holds a packet of class `c` that port `q` may send now (spec 10 R367).
DESIGN CHOICE (assumption log 72). -/
def waitsFor (s : State) (q : Nat) (c : Net) (i : Nat) : Bool :=
  [false, true].any (fun v =>
    if i = 6 then smGet [] (getP s q).out (bufKey c v) != [] && mayTransmit s q (bufKey c v) c
    else match smGet [] (getP s i).buf (bufKey c v) with
      | k :: _ => transitHop s i k == some q && mayTransmit s q (bufKey c (transitVc s i q k)) c
      | [] => false)

/-- The class and the input that output port `q` serves next: classes in turn, and within a class its inputs in turn (spec 10 R367).
DESIGN CHOICE (assumption log 72). -/
def portTurn (s : State) (q : Nat) : Option (Nat × Nat) :=
  match rrFirst 4 (getP s q).turn (fun c => (List.range 7).any (waitsFor s q (netOf c))) with
  | some c => (rrFirst 7 (smGet 0 (getP s q).inTurn c) (waitsFor s q (netOf c))).map (fun i => (c, i))
  | none => none

/-- Port `q` has served input `i` of class `c`: the turn goes on (spec 10 R367). DESIGN CHOICE (assumption log 72). -/
def nextTurn (s : State) (q : Nat) (c : Net) (i : Nat) : State :=
  let x := getP s q
  setP s q { x with turn := (netIx c + 1) % 4, inTurn := smSet 0 x.inTurn (netIx c) ((i + 1) % 7) }

/-- A packet is handed to the lanes of port `p` (spec 10 R359, R362, R367, R396), among the ballast groups of the pages that begin (spec 11 R400, R404); `bad`
inverts the CRC of its trailer. -/
def transmit (s : State) (p : Nat) (k : Packet) (bad : Bool) : State :=
  let y := stampTime s p k
  let cr := creditsFor s p
  let k := sealPacket { y.2 with crBuf := BitVec.ofNat 3 cr.1, crCount := BitVec.ofNat 5 cr.2 }
  let k := if bad then { k with trailer := k.trailer ^^^ 0xFFFFFFFF00000000 } else k
  let x := getP y.1 p
  let key := bufKey k.cls k.vc
  let x := { x with lastTx := some k, owed := smSet 0 x.owed cr.1 (smGet 0 x.owed cr.1 - cr.2)
                    used := if takesCredit k then smSet 0 x.used key (smGet 0 x.used key + 1) else x.used }
  bump (sendStream (setP y.1 p x) p (packetBlocks k)) (A.PORT_TX_CNT p) F.PORT_TX_CNT_COUNT 1

/-- The first packet that waits in an output buffer leaves. -/
def sendOut (s : State) (p : Nat) (c : Net) (vc : Bool) : State :=
  let key := bufKey c vc
  match smGet [] (getP s p).out key with
  | [] => s
  | k :: rest =>
    let x := getP s p
    nextTurn (transmit (setP s p { x with out := smSet [] x.out key rest }) p k false) p c 6

/-- A queued packet of this device of a class leaves, on either virtual channel, when it is its turn (spec 10 R367). -/
def trySendClass (s : State) (p : Nat) (c : Net) : State :=
  if portTurn s p = some (netIx c, 6) then
    sendOut s p c (!(smGet [] (getP s p).out (bufKey c false) != [] && mayTransmit s p (bufKey c false) c))
  else s

/-- A routed control packet is queued, and sent when it may leave (spec 10 R361); `false` where no port serves. -/
def emitCtl (s : State) (dev : BitVec 16) (cls : Net) (ty : Nat) (payload : List (BitVec 64)) : State × Bool :=
  let ok := rdB s A.FAB_COORD F.FAB_COORD_VALID && namesDevice s dev.toNat
  if !ok then (s, false)
  else
    let y := sendCtl s dev cls ty payload
    (match firstHop s dev.toNat with
     | some p => trySendClass y.1 p cls
     | none => y.1, y.2)

/-- A link-local packet (spec 10 R361): its destination is the neighbour's ID. -/
def emitLocal (s : State) (p : Nat) (cls : Net) (ty : Nat) (payload : List (BitVec 64)) : State :=
  let nb := BitVec.ofNat 16 (rd s (A.PORT_STATUS p) F.PORT_STATUS_NEIGHBOUR)
  trySendClass (queueOut s p (ctlPacket nb (devId s) cls false ty payload)) p cls

/-! ### Receiving -/

/-- The credits that a good header returns (spec 10 R367). -/
def takeCredits (s : State) (p : Nat) (k : Packet) : State :=
  let x := getP s p
  let b := k.crBuf.toNat
  setP s p { x with used := smSet 0 x.used b (smGet 0 x.used b - k.crCount.toNat) }

/-- A packet that cannot go on (spec 10 R370): a REQ is answered to its requester, anything else is discarded. -/
def unreachablePacket (s : State) (k : Packet) : State :=
  let s := unreachable s
  let f := bitsFlit .req (ofBlocks k.payload)
  if k.ctl ∨ k.cls ≠ .req ∨ (f.op = 2 ∧ bit f.addr.toNat 47) then s
  else sendFabric s k.srcDev { net := .rsp, dst := f.src, src := f.dst, tag := f.tag
                               status := BitVec.ofNat 8 (statusCode .remoteUnreachable) }

/-- Whether a control type is link-local (spec 10 R361). -/
def linkLocal (k : Packet) : Bool := k.ctl && decide (k.ctype.toNat ≤ 2)

/-- A packet for this device: a response is injected at the gateway unchanged, the rest waits for the gateway (spec 10 R373 to
R375). A control packet's time of arrival is that of its first bit at the pins (spec 11 R409). -/
def deliver (s : State) (p : Nat) (k : Packet) : State :=
  let key := bufKey k.cls k.vc
  let x := getP s p
  if k.ctl then setP s p { x with ctl := x.ctl ++ [(k, nowNs s - (portLatency s p).2)] }
  else
    let f := { bitsFlit k.cls (ofBlocks k.payload) with age := 0 }
    match k.cls with
    | .req => setP s p { x with arr := x.arr ++ [k] }
    | .rsp => pushOut (oweCredit s p key) (gatewayPort p) f
    | .snp => portDiscard (oweCredit s p key) p
    | .dat =>
      if f.op = 0 then pushOut (oweCredit s p key) (gatewayPort p) f
      else if f.op = 1 then setP s p { x with arr := x.arr ++ [k] }
      else portDiscard (oweCredit s p key) p

/-- `n` bits of the PRBS-31 sequence x^31 + x^28 + 1 from state `v`, the first at bit `k` of what is gathered in `acc`, and the state
after them. -/
def prbsRun : Nat → Nat → Nat → Nat → Nat × Nat
  | 0, _, acc, v => (acc, v)
  | n + 1, k, acc, v =>
    let o := b2n (bit v 30 != bit v 27)
    prbsRun n (k + 1) (acc + o * 2 ^ k) (v * 2 % 2 ^ 31 + o)
/-- The payload of the next TEST packet from a place in the sequence, and the place after it (spec 10 R361, R385).
DESIGN CHOICE (assumption log 73). -/
def prbsBlocks (v : BitVec 31) : List (BitVec 64) × BitVec 31 :=
  let y := prbsRun 576 0 0 v.toNat
  (toBlocks 9 y.1, BitVec.ofNat 31 y.2)

/-- The checker of a hairpin port compares a received TEST packet with its own place in the sequence (spec 10 R385).
DESIGN CHOICE (assumption log 73). -/
def checkTest (s : State) (p : Nat) (k : Packet) : State :=
  let t := getTr s p
  let y := prbsBlocks t.prbsRx
  let s := setTr s p { t with prbsRx := y.2 }
  if k.payload = y.1 then s else portErr s p F.PORT_ERR_CNT_TEST_ERR

/-- A packet whose header is good and below the hop limit (spec 10 R361, R362, R364, R370, R384). -/
def acceptPacket (s : State) (p : Nat) (k : Packet) : State :=
  let key := bufKey k.cls k.vc
  let bad := k.trailer != packetTrailer k
  let drop := fun (s : State) => if takesCredit k then oweCredit s p key else s
  let valid := rdB s A.FAB_COORD F.FAB_COORD_VALID
  let crc := fun (s : State) => reportGw (portErr s p F.PORT_ERR_CNT_CRC_BAD) p 0x412 []
  if k.ctl && decide (7 ≤ k.ctype.toNat) then portDiscard (drop s) p
  else if k.ctl && decide (k.ctype = 6) then
    let s := if bad then crc (drop s) else drop s
    if rd s (A.PORT_STATUS p) F.PORT_STATUS_STATE = 2 then checkTest s p k else if bad then s else portDiscard s p
  else if linkLocal k then
    (if bad then crc (drop s)
     else if k.ctype = 0 then s else deliver s p k)
  else if !valid then portDiscard (drop s) p
  else if k.dstDev = devId s then (if bad then crc (drop s) else deliver s p k)
  else
    let s := if bad then crc s else s
    match transitHop s p k with
    | none => unreachablePacket (drop s) k
    | some _ =>
      let x := getP s p
      setP s p { x with buf := smSet [] x.buf key (smGet [] x.buf key ++ [k]) }

/-- A packet that has arrived (spec 10 R362, R367, R368, R396). -/
def takePacket (s : State) (p : Nat) (k : Packet) : State :=
  let s := bump s (A.PORT_RX_CNT p) F.PORT_RX_CNT_COUNT 1
  let key := bufKey k.cls k.vc
  if k.hcrc ≠ headerCrc k then
    (portErr (if takesCredit k then oweCredit s p key else s) p F.PORT_ERR_CNT_HCRC_BAD)
  else
    let s := takeCredits s p k
    if k.hops.toNat = (let l := rd s A.FAB_ROUTE_CTL F.FAB_ROUTE_CTL_HOP_LIMIT; if l = 0 then 256 else l) then
      let s := if takesCredit k then oweCredit s p key else s
      reportGw (bump s A.FAB_ERR_CNT F.FAB_ERR_CNT_HOP_DISCARD 1) p 0x411 []
    else acceptPacket s p k

/-- A packet that a control block cuts short is bad (spec 11 R404; spec 10 R362): what is missing of its payload is a free value, its
trailer is wrong. DEDUCED (assumption log 69). -/
def brokenPacket (s : State) (bs : List (BitVec 64)) : State × Packet :=
  let n := packetLen (bs.headD 0) - 2
  let k := readPacket bs
  let k := { k with payload := ((bs.drop 1) ++ List.replicate n (freeVal s)).take n }
  (useFree s, { k with trailer := packetTrailer k ^^^ 0xFFFFFFFF00000000 })

/-- A block of the descrambled port stream (spec 11 R404): ballast is taken out; a data block begins or continues a packet, which its
header's length ends; any other block ends a packet that it finds open, and makes it bad. DEDUCED (assumption log 69). -/
def takeBlock (s : State) (p : Nat) (b : Block) : State :=
  let x := getP s p
  if isData b then
    let bs := x.rx ++ [b.payload]
    if bs.length < packetLen (bs.headD 0) then setP s p { x with rx := bs }
    else takePacket (setP s p { x with rx := [] }) p (readPacket bs)
  else if isBallast b ∨ x.rx = [] then s
  else
    let y := brokenPacket (setP s p { x with rx := [] }) x.rx
    takePacket y.1 p y.2

/-- The lane that carries the next block of a port's stream (spec 11 R405, R415). -/
def blockRx (s : State) (p : Nat) : Option Nat :=
  let g := groupRx s p
  g[blockLane g.length (getTr s p).pos]?

/-- A port takes the next block of its stream as the lanes deliver it (spec 11 R400, R401, R404): it descrambles it and notes its header;
a lane without FEC that loses block lock says so, and takes a port that is UP out of UP (R420). -/
def recvBlock (p : Nat) (s : State) (b : Block) : State :=
  if !portLive s p ∧ streamLanes s p = [] then s
  else
    let t := getTr s p
    let y := descrambleBlocks t.rxScr [b]
    let l := blockRx s p
    let s := match l with | some l => noteHeader t.fec l s b | none => s
    let s := setTr s p { t with rxScr := y.2, pos := (t.pos + 1) % pageBlocks, badHdrs := t.badHdrs + b2n (!t.fec && !blockValid b) }
    let s := if portLive s p then y.1.foldl (fun s b => takeBlock s p b) s else s
    match l with
    | some l =>
      if t.fec then s
      else if blockLock true (getLn s l).hdrs then noteLock s l
      else leaveUp (noteLock s l) p 3
    | none => s

/-- A codeword of the stream with FEC (spec 11 R405, R406, R422, R439): up to 4 symbols are corrected and counted on their lanes; one that
cannot be corrected is counted, and its message taken as it came. Its message bits join the stream, whose blocks go on. -/
def recvWord (p : Nat) (s : State) (w : List (BitVec 10)) : State :=
  let w := w.map BitVec.toNat
  let g := groupRx s p
  let good := rsDecode w
  let fixed := good.getD w
  let wrong := (List.range 136).filter (fun i => w.getD i 0 != fixed.getD i 0)
  let s := wrong.foldl (fun s i => match g[symbolLane g.length i]? with
    | some l => bump s (A.LANE_FEC_CNT l) F.LANE_FEC_CNT_CORR 1
    | none => s) s
  let lost := b2n good.isNone
  let s := bump s (A.LANE_FEC_CNT (8 * p)) F.LANE_FEC_CNT_UNCORR lost
  let t := getTr s p
  let y := bitsBlocks 40 (t.rxBits ++ messageBits fixed)
  let s := setTr s p { t with rxBits := y.2, symErrs := t.symErrs + wrong.length, badWords := t.badWords + lost, pageBad := t.pageBad + lost }
  y.1.foldl (recvBlock p) s

/-- PACKET_RECEIVE: the port stream arrives, as blocks or, with FEC, as codewords (spec 10 R362, R367, R368, R396; spec 11 R400, R401,
R404 to R406). -/
def opPacketReceive (p : Fin 6) (stream : PortStream) (s : State) : State :=
  if (!portLive s p ∧ streamLanes s p = []) ∨ dirState s (8 * p) false ≠ 0 ∨ tripped s then s
  else match stream with
    | .blocks bs => bs.foldl (recvBlock p) s
    | .words ws => if (getTr s p).fec then ws.foldl (recvWord p) s else s

/-- In the loop inside the device, what a port sends arrives at its own receiver (spec 10 R385). -/
def loopBack (s : State) (p : Nat) : State :=
  if rd s (A.PORT_CTL p) F.PORT_CTL_HAIRPIN = 1 ∧ dirState s (8 * p) false = 0 then (getP s p).sent.foldl (recvBlock p) s else s

/-- CREDIT: with nothing else to send, a CREDIT packet returns `count` credits of buffer `buf` (spec 10 R361, R367).
DESIGN CHOICE (assumption log 72). -/
def opCredit (p : Fin 6) (buf : Fin 8) (count : Fin 32) (s : State) : State :=
  let x := getP s p
  if count.val = 0 ∨ smGet 0 x.owed buf < count.val ∨ !portLive s p ∨ dirState s (8 * p) true ≠ 0 ∨ tripped s
      ∨ (getTr s p).wakePages ≠ 0 ∨ (portTurn s p).isSome then s
  else
    let nb := BitVec.ofNat 16 (rd s (A.PORT_STATUS p) F.PORT_STATUS_NEIGHBOUR)
    let k := sealPacket { ctlPacket nb (devId s) .rsp false 0 [0] with
      crBuf := BitVec.ofNat 3 buf.val, crCount := BitVec.ofNat 5 count.val }
    let x := { x with lastTx := some k, owed := smSet 0 x.owed buf (smGet 0 x.owed buf - count.val) }
    loopBack (bump (sendStream (setP s p x) p (packetBlocks k)) (A.PORT_TX_CNT p) F.PORT_TX_CNT_COUNT 1) p

/-- PACKET_FORWARD: the first packet of an input buffer goes on, in its turn at its output port (spec 10 R364 to R368, R370). -/
def opPacketForward (p : Fin 6) (c : Net) (vc : Bool) (s : State) : State :=
  let key := bufKey c vc
  let x := getP s p
  match smGet [] x.buf key with
  | [] => s
  | k :: rest =>
    let out := fun (s : State) =>
      oweCredit (setP s p { getP s p with buf := smSet [] (getP s p).buf key rest }) p key
    match transitHop s p k with
    | none => unreachablePacket (out s) k
    | some q =>
      let v := transitVc s p q k
      if !mayTransmit s q (bufKey c v) c ∨ portTurn s q ≠ some (netIx c, p.val) then s
      else nextTurn (transmit (out s) q { k with vc := v, hops := k.hops + 1 } (k.trailer != packetTrailer k)) q c p

/-! ### Gateways -/

/-- The permissions that a request needs at its final target, for the table of its port (spec 09 R338). The host windows of
another device lie where this device's would. -/
def remoteNeeds (s : State) (p : Nat) (f : Flit) : List (Nat × Nat) :=
  let a := f.addr.toNat
  if f.op = 2 then [(80 + p, cmdPerm (flitCmd p f))]
  else if 0x800000000000 ≤ a then [(80 + p, if reqWrite f then pWRITE else pREAD)]
  else (needsOf (placeOf s a) (reqWrite f)).map (fun n => (80 + p, n.2))

/-- A flit of the engine port goes into a packet to device `dev` (spec 10 R360, R366, R372). -/
def packFlit (s : State) (p : Nat) (dev : BitVec 16) (f : Flit) : State :=
  trySendClass (queueOut s p (flitPacket dev (devId s) { f with dev := if f.net = .req then devId s else 0, age := 0 } (dateline s p)))
    p f.net

/-- The requester's record that its request has met the table of its port (spec 09 R344). -/
def markTabled (s : State) (f : Flit) : State :=
  match getLand s f.src.toNat f.tag.toNat with
  | some l => setLand s f.src.toNat f.tag.toNat (some { l with req := { l.req with tabled := true } })
  | none => s

/-- The gateway's check of a request that leaves through port `p`, and its sending (spec 09 R338, R341; spec 10 R370, R372). A reserved
OP is answered with BAD_ADDRESS (spec 07 R254). Nothing answers a posted TRAIN: its landing slot ends here, and a refusal is reported
(spec 05 R174). -/
def gatewayReq (s : State) (p : Nat) (f : Flit) : State :=
  let ep := gatewayPort p
  let train := f.op == 2
  let posted := isPosted f
  let land := getLand s f.src.toNat f.tag.toNat
  let s := if posted then setLand s f.src.toNat f.tag.toNat none else s
  let fail := fun (s : State) (st : Status) =>
    if posted then (match land with | some l => refusePosted s p f l.owner st | none => s) else respond s ep f st [] 0 0 false
  let key : Key := ⟨devId s, f.mst⟩
  if 3 ≤ f.op.toNat then respond (malformed s) ep f .badAddress [] 0 0 false else
  let s := if preCheck s key false == none && !posted then markTabled s f else s
  match decideAccess s key false (remoteNeeds s p f) with
  | .refuse code table =>
    let perm := refusedPerm s key (remoteNeeds s p f) table
    let addr := if train then (flitCmd p f).pl.toNat * 2 ^ 32 + f.data.toNat % 2 ^ 32 else f.addr.toNat
    fail (denyWith s key false train (unitDev s) addr perm table code) .denied
  | .grant => if portUp s p then packFlit s p f.dev f else fail (unreachable s) .remoteUnreachable

/-- GATEWAY_SEND: a packet that waits in the output buffers of a class goes first; with none waiting, the gateway takes the next
flit of its engine port (spec 10 R367, R372). A WDATA flit names its target device beside its bits. -/
def opGatewaySend (p : Fin 6) (n : Net) (s : State) : State :=
  let x := getP s p
  let ep := gatewayPort p
  if smGet [] x.out (bufKey n false) ≠ [] ∨ smGet [] x.out (bufKey n true) ≠ [] then trySendClass s p n
  else if !rdB s A.FAB_COORD F.FAB_COORD_VALID then s
  else match n with
    | .req => (match takeFirst s ep .req (fun _ => true) with
      | some (f, s') => gatewayReq s' p f
      | none => s)
    | .dat => (match takeFirst s ep .dat (fun f => f.op == 1) with
      | some (f, s') => if portUp s' p then packFlit s' p f.dev f else unreachable s'
      | none => s)
    | .rsp => s
    | .snp => s

/-- The first arrived packet of a class at port `p` whose flit satisfies `ok`. -/
def arrivedFlit (s : State) (p : Nat) (c : Net) (ok : Flit → Bool) : Option (Packet × Flit) :=
  (getP s p).arr.findSome? (fun k =>
    if k.cls = c then
      let f := { bitsFlit c (ofBlocks k.payload) with age := 0 }
      if ok f then some (k, f) else none
    else none)

/-- PROXY_INJECT (spec 10 R373; spec 07 R255). -/
def opProxyInject (p : Fin 6) (s : State) : State :=
  match arrivedFlit s p .req (fun f => f.op != 2) with
  | none => s
  | some (k, f) =>
    let s := takeArr s p k
    let back : Flit := { net := .rsp, dst := f.src, src := BitVec.ofNat 11 (gatewayPort p), tag := f.tag }
    match localTarget s f.addr.toNat with
    | .fail st => sendFabric s k.srcDev { back with status := BitVec.ofNat 8 (statusCode st) }
    | .gateway _ => s
    | .local_ d =>
      let x := getP s p
      match (List.range 256).find? (fun e => (smGet none x.proxies e).isNone) with
      | none =>
        let s := devCount (bump s A.FAB_ERR_CNT F.FAB_ERR_CNT_PROXY_FULL 1) 0
        sendFabric s k.srcDev { back with op := 2, status := BitVec.ofNat 8 (statusCode .busyRetry) }
      | some e =>
        let dst := BitVec.ofNat 11 d
        let s := setP s p { x with proxies := smSet none x.proxies e (some ⟨k.srcDev, f.src, f.tag, dst⟩) }
        pushOut s (gatewayPort p) { f with dst := dst, src := BitVec.ofNat 11 (gatewayPort p), tag := BitVec.ofNat 8 e }

/-- PROXY_RESPONSE: a GO leaves the entry in place, every other response releases it (spec 10 R374); a response without an entry is
stray, a reserved opcode is discarded (spec 07 R254, R266). -/
def opProxyResponse (p : Fin 6) (dat : Bool) (s : State) : State :=
  let ep := gatewayPort p
  match takeFirst s ep (if dat then .dat else .rsp) (fun f => !dat || f.op == 0 || decide (3 ≤ f.op.toNat)) with
  | none => s
  | some (f, s) =>
    let x := getP s p
    if 3 ≤ f.op.toNat then malformed s else
    match smGet none x.proxies f.tag.toNat with
    | none => strayResponse s
    | some e =>
      let s := if !dat && f.op == 1 then s else setP s p { x with proxies := smSet none x.proxies f.tag.toNat none }
      sendFabric s e.dev { f with dst := e.src, tag := e.tag, age := 0 }

/-- PROXY_WDATA (spec 10 R374): the entry may belong to any gateway; the flit enters at the gateway of the arrival, and names as its
source the gateway of the entry, which sent the request (spec 07 R269). -/
def opProxyWdata (p : Fin 6) (s : State) : State :=
  match arrivedFlit s p .dat (fun _ => true) with
  | none => s
  | some (k, f) =>
    let s := takeArr s p k
    let found := (List.range 6).findSome? (fun q => (getP s q).proxies.findSome? (fun x => match x.2 with
      | some e => if e.dev = k.srcDev ∧ e.src = f.src ∧ e.tag = f.tag then some (q, x.1, e) else none
      | none => none))
    match found with
    | some (q, n, e) => pushOut s (gatewayPort p) { f with dst := e.dst, src := BitVec.ofNat 11 (gatewayPort q), tag := BitVec.ofNat 8 n }
    | none => portDiscard s p

/-- PROXY_ENTRY_TIMEOUT (spec 10 R374). -/
def opProxyEntryTimeout (p : Fin 6) (e : Fin 256) (s : State) : State :=
  let x := getP s p
  match smGet none x.proxies e with
  | some _ => reportGw (setP s p { x with proxies := smSet none x.proxies e none }) p 0x413 []
  | none => s

/-! ### Anchors and strings -/

/-- The first control packet that waits at port `p`, when it is of type `ty`; it leaves the buffer (spec 10 R367). -/
def takeCtl (s : State) (p ty : Nat) : Option (Packet × Nat × State) :=
  let x := getP s p
  match x.ctl with
  | (k, t) :: rest =>
    if k.ctype.toNat = ty then some (k, t, oweCredit (setP s p { x with ctl := rest }) p (bufKey k.cls k.vc)) else none
  | [] => none

/-- CLAIM_SEND (spec 10 R381). DEDUCED (assumption log 37). -/
def opClaimSend (i : Fin 64) (s : State) : State :=
  let a := A.FAB_STRING i
  if !isAnchor s ∨ !rdB s a F.FAB_STRING_EN then s
  else
    let y := emitCtl s (BitVec.ofNat 16 (rd s a F.FAB_STRING_DEVICE)) .req 3 [0]
    if y.2 then y.1 else wr y.1 a F.FAB_STRING_STATE 3

/-- CLAIM (spec 10 R381): the answer carries ACCEPTED. -/
def opClaim (p : Fin 6) (s : State) : State :=
  match takeCtl s p 3 with
  | none => s
  | some (k, _, s) =>
    let src := k.srcDev.toNat
    let a := A.FAB_ANCHOR
    let ack := fun (s : State) (yes : Bool) => (emitCtl s k.srcDev .rsp 4 [BitVec.ofNat 64 (b2n yes)]).1
    if isAnchor s then ack s false
    else if !rdB s a F.FAB_ANCHOR_VALID then
      let s := wr (wr (wr s a F.FAB_ANCHOR_ANCHOR_ID src) a F.FAB_ANCHOR_VALID 1) a F.FAB_ANCHOR_SOURCE 1
      ack (reportGw s p 0x420 []) true
    else ack s (rd s a F.FAB_ANCHOR_ANCHOR_ID == src)

/-- CLAIM_ACK (spec 10 R381). -/
def opClaimAck (p : Fin 6) (s : State) : State :=
  match takeCtl s p 4 with
  | none => s
  | some (k, _, s) =>
    let st := if bit (ofBlocks k.payload) 0 then 1 else 2
    ((List.range 64).filter (fun i => rdB s (A.FAB_STRING i) F.FAB_STRING_EN
        && rd s (A.FAB_STRING i) F.FAB_STRING_DEVICE == k.srcDev.toNat)).foldl
      (fun s i => wr s (A.FAB_STRING i) F.FAB_STRING_STATE st) s

/-- CLAIM_ACK_TIMEOUT (spec 10 R381). -/
def opClaimAckTimeout (i : Fin 64) (s : State) : State :=
  if isAnchor s ∧ rdB s (A.FAB_STRING i) F.FAB_STRING_EN then wr s (A.FAB_STRING i) F.FAB_STRING_STATE 3 else s

/-- LEASE_EXPIRE (spec 10 R382). -/
def opLeaseExpire (s : State) : State :=
  if rdB s A.FAB_ANCHOR F.FAB_ANCHOR_VALID ∧ rd s A.FAB_ANCHOR F.FAB_ANCHOR_LEASE_MS ≠ 0 then
    report (wr s A.FAB_ANCHOR F.FAB_ANCHOR_VALID 0) 203 (unitDev s) 0x421 []
  else s

/-- RELEASE (spec 10 R382). -/
def opRelease (p : Fin 6) (s : State) : State :=
  match takeCtl s p 5 with
  | none => s
  | some (k, _, s) =>
    if rd s A.FAB_ANCHOR F.FAB_ANCHOR_ANCHOR_ID = k.srcDev.toNat then wr s A.FAB_ANCHOR F.FAB_ANCHOR_VALID 0 else s

/-- A write of FAB_STRING[i] by the warden (spec 10 R382, R394): clearing EN releases the device that the entry held; an entry
written anew is pending. DEDUCED (assumption log 37). -/
def writeString (s : State) (i : Nat) (v : Reg) : State :=
  let a := A.FAB_STRING i
  let was := rdB s a F.FAB_STRING_EN
  let dev := rd s a F.FAB_STRING_DEVICE
  let s := setR s a (writeFlds true L.FAB_STRING (getR s a) v)
  let s := if was && rd s a F.FAB_STRING_EN == 0 && isAnchor s then (emitCtl s (BitVec.ofNat 16 dev) .req 5 [0]).1 else s
  if was ∧ rdB s a F.FAB_STRING_EN ∧ rd s a F.FAB_STRING_DEVICE = dev then s else wr s a F.FAB_STRING_STATE 0

/-- STRING_ENTRY_CLEAR (spec 10 R382). -/
def opStringEntryClear (i : Fin 64) (v : Reg) (s : State) : State := writeString s i v

/-- A write of FAB_ANCHOR by the warden (spec 10 R382, R393): VALID comes from the warden then. -/
def writeAnchor (s : State) (v : Reg) : State :=
  wr (setR s A.FAB_ANCHOR (writeFlds true L.FAB_ANCHOR (getR s A.FAB_ANCHOR) v)) A.FAB_ANCHOR F.FAB_ANCHOR_SOURCE 2

/-! ### Neighbours, identity -/

/-- The ID with coordinate `d` replaced (spec 10 R355). -/
def withCoord (s : State) (d id c : Nat) : Nat :=
  let bx := rd s A.FAB_DIMS F.FAB_DIMS_BX
  let by' := rd s A.FAB_DIMS F.FAB_DIMS_BY
  let x := fun k => if k = d then c else fabCoord s k id
  x 0 + 2 ^ bx * x 1 + 2 ^ (bx + by') * x 2

/-- The ID next to `id` across port `p` (spec 10 R357). -/
def nextId (s : State) (p id : Nat) : Nat :=
  let d := p / 2
  let n := fabSize s d
  withCoord s d id ((fabCoord s d id + (if p % 2 = 0 then 1 else n - 1)) % n)

/-- A port's state (spec 10 R396). -/
def setPort (s : State) (p st : Nat) : State := wr s (A.PORT_STATUS p) F.PORT_STATUS_STATE st

/-- A failed neighbour check (spec 10 R358). -/
def holdPort (s : State) (p : Nat) (f : Fld) (code : Nat) : State :=
  let t := getTr s p
  reportGw (setPort (wr s (A.PORT_STATUS p) f 1) p 3) p code (detail [(t.peerId.toNat, 2), (t.peerPort, 1)])

/-- NEIGHBOUR_CHECK: the lanes of a port have come up (spec 10 R357, R358, R384, R385, R389). IDs are compared where both are valid.
DEDUCED (assumption log 74). -/
def opNeighbourCheck (p : Fin 6) (s : State) : State :=
  let st := rd s (A.PORT_STATUS p) F.PORT_STATUS_STATE
  let t := getTr s p
  let own := devId s
  let valid := rdB s A.FAB_COORD F.FAB_COORD_VALID
  let hair := decide (rd s (A.PORT_CTL p) F.PORT_CTL_HAIRPIN ≠ 0)
  let other := if p.val % 2 = 0 then p.val + 1 else p.val - 1
  if lanesIn s p 9 = [] ∨ st = 1 ∨ st = 2 ∨ (getP s p).lost ∨ t.checked then s
  else
    let s := setTr s p { t with checked := true }
    let s := wr (wr s (A.PORT_STATUS p) F.PORT_STATUS_NEIGHBOUR t.peerId.toNat) (A.PORT_STATUS p) F.PORT_STATUS_NEIGHBOUR_PORT t.peerPort
    if fabSize s (p / 2) = 1 ∧ !hair then s
    else if t.peerDims.toNat ≠ (getR s A.FAB_DIMS).toNat % 2 ^ 63 then holdPort s p F.PORT_STATUS_MISMATCH 0x402
    else if hair then
      (if t.peerId = own ∧ t.peerPort = p.val then setP (setPort s p 2) p { getP s p with used := [], owed := [] }
       else holdPort s p F.PORT_STATUS_MISCABLED 0x403)
    else if t.peerPort ≠ other then holdPort s p F.PORT_STATUS_MISCABLED 0x403
    else if valid && t.peerValid && t.peerId == own then holdPort s p F.PORT_STATUS_OWN_ID_SEEN 0x404
    else if valid && t.peerValid && t.peerId.toNat != nextId s p own.toNat then
      (if rd s A.FAB_COORD F.FAB_COORD_SOURCE = 2 then
         reportGw (holdPort s p F.PORT_STATUS_MISMATCH 0x402) p 0x422 (detail [(t.peerId.toNat, 2), (t.peerPort, 1)])
       else holdPort s p F.PORT_STATUS_MISCABLED 0x403)
    else reportGw (setP (setPort s p 1) p { getP s p with used := [], owed := [] }) p 0x400 []

/-- ENUMERATION (spec 10 R384): the ID that lies across port `p` from the neighbour's; every other UP port retrains. Of several ports that
are UP toward a neighbour with an ID, the lowest decides. -/
def opEnumeration (p : Fin 6) (s : State) : State :=
  let t := getTr s p
  let other := if p.val % 2 = 0 then p.val + 1 else p.val - 1
  if rdB s A.FAB_COORD F.FAB_COORD_VALID ∨ !rdB s A.FAB_COORD F.FAB_COORD_ENUM ∨ !portUp s p ∨ !t.peerValid
      ∨ (List.range p.val).any (fun q => portUp s q && (getTr s q).peerValid) then s
  else
    let a := A.FAB_COORD
    let s := wr (wr (wr s a F.FAB_COORD_ID (nextId s other t.peerId.toNat)) a F.FAB_COORD_VALID 1) a F.FAB_COORD_SOURCE 2
    ((List.range 6).filter (fun q => decide (q ≠ p.val) && portUp s q)).foldl (fun s q => restartPort (portLost s q) q) s

/-- Whether every port is disabled and DOWN (spec 10 R356). -/
def portsDown (s : State) : Bool :=
  (List.range 6).all (fun p => !rdB s (A.PORT_CTL p) F.PORT_CTL_EN && rd s (A.PORT_STATUS p) F.PORT_STATUS_STATE == 0)

/-- Whether a value of FAB_DIMS keeps R355. -/
def dimsOk (v : Reg) : Bool :=
  let bx := getFld v F.FAB_DIMS_BX; let by' := getFld v F.FAB_DIMS_BY; let bz := getFld v F.FAB_DIMS_BZ
  bx + by' + bz == 16 && decide (getFld v F.FAB_DIMS_NX_M1 < 2 ^ bx) && decide (getFld v F.FAB_DIMS_NY_M1 < 2 ^ by')
    && decide (getFld v F.FAB_DIMS_NZ_M1 < 2 ^ bz)

/-- A write of FAB_DIMS (spec 10 R356). -/
def writeDims (s : State) (v : Reg) : State :=
  if portsDown s && dimsOk v then setR s A.FAB_DIMS (writeFlds true L.FAB_DIMS (getR s A.FAB_DIMS) v) else s

/-- A write of FAB_COORD (spec 10 R356, R393); `id` says that it covers ID. -/
def writeCoord (s : State) (v : Reg) (id : Bool) : State :=
  let a := A.FAB_COORD
  let s := setR s a (writeFlds true [F.FAB_COORD_ENUM] (getR s a) v)
  if id && portsDown s then
    wr (wr (wr s a F.FAB_COORD_ID (getFld v F.FAB_COORD_ID)) a F.FAB_COORD_VALID 1) a F.FAB_COORD_SOURCE 3
  else s

/-- FAB_ID_WRITE (spec 10 R356). -/
def opFabIdWrite (dims : Bool) (v : Reg) (s : State) : State := if dims then writeDims s v else writeCoord s v true

/-- PORT_DOWN: what follows when a port has left UP (spec 10 R389): a packet partly received counts too. -/
def opPortDown (p : Fin 6) (s : State) : State :=
  let x := getP s p
  if !x.lost then s
  else
    let n := (x.out.map (fun b => b.2.length)).foldl (· + ·) (if x.rx = [] then 0 else 1)
    let s := setP s p { x with out := [], rx := [], used := [], owed := [], lost := false }
    let s := bump s (A.PORT_ERR_CNT p) F.PORT_ERR_CNT_DISCARDED n
    reportGw (wr s (A.PORT_STATUS p) F.PORT_STATUS_DOWN_EVENT 1) p 0x401 []

/-- TEST: the generator of a hairpin port sends a packet of 9 blocks of the sequence (spec 10 R361, R385); in the loop inside the device
it reaches the checker at once, in the loop outside by PACKET_RECEIVE. -/
def opTest (p : Fin 6) (vc : Bool) (s : State) : State :=
  if rd s (A.PORT_STATUS p) F.PORT_STATUS_STATE ≠ 2 ∨ !rdB s (A.PORT_CTL p) F.PORT_CTL_TEST_EN
      ∨ !mayTransmit s p (bufKey .dat vc) .dat then s
  else
    let t := getTr s p
    let y := prbsBlocks t.prbs
    let nb := BitVec.ofNat 16 (rd s (A.PORT_STATUS p) F.PORT_STATUS_NEIGHBOUR)
    loopBack (transmit (setTr s p { t with prbs := y.2 }) p (ctlPacket nb (devId s) .dat vc 6 y.1) false) p

/-! ### The meanings of the commands of this file -/

/-- PACKET_RECEIVE (spec 10 R362). -/
def execPacketReceive (p : Fin 6) (stream : PortStream) (s : State) : Host.Outcome State Fault Refusal :=
  .next (engine (opPacketReceive p stream) s)
/-- PACKET_FORWARD (spec 10 R364). -/
def execPacketForward (p : Fin 6) (cls : Net) (vc : Bool) (s : State) : Host.Outcome State Fault Refusal :=
  .next (engine (opPacketForward p cls vc) s)
/-- CREDIT (spec 10 R367). -/
def execCredit (p : Fin 6) (buf : Fin 8) (count : Fin 32) (s : State) : Host.Outcome State Fault Refusal := .next (engine (opCredit p buf count) s)
/-- GATEWAY_SEND (spec 10 R372). -/
def execGatewaySend (p : Fin 6) (net : Net) (s : State) : Host.Outcome State Fault Refusal := .next (engine (opGatewaySend p net) s)
/-- PROXY_INJECT (spec 10 R373). -/
def execProxyInject (p : Fin 6) (s : State) : Host.Outcome State Fault Refusal := .next (engine (opProxyInject p) s)
/-- PROXY_RESPONSE (spec 10 R374). -/
def execProxyResponse (p : Fin 6) (dat : Bool) (s : State) : Host.Outcome State Fault Refusal := .next (engine (opProxyResponse p dat) s)
/-- PROXY_WDATA (spec 10 R374). -/
def execProxyWdata (p : Fin 6) (s : State) : Host.Outcome State Fault Refusal := .next (engine (opProxyWdata p) s)
/-- PROXY_ENTRY_TIMEOUT (spec 10 R374). -/
def execProxyEntryTimeout (p : Fin 6) (e : Fin 256) (s : State) : Host.Outcome State Fault Refusal := .next (engine (opProxyEntryTimeout p e) s)
/-- CLAIM_SEND (spec 10 R381). -/
def execClaimSend (i : Fin 64) (s : State) : Host.Outcome State Fault Refusal := .next (engine (opClaimSend i) s)
/-- CLAIM (spec 10 R381). -/
def execClaim (p : Fin 6) (s : State) : Host.Outcome State Fault Refusal := .next (engine (opClaim p) s)
/-- CLAIM_ACK (spec 10 R381). -/
def execClaimAck (p : Fin 6) (s : State) : Host.Outcome State Fault Refusal := .next (engine (opClaimAck p) s)
/-- LEASE_EXPIRE (spec 10 R382). -/
def execLeaseExpire (s : State) : Host.Outcome State Fault Refusal := .next (engine opLeaseExpire s)
/-- RELEASE (spec 10 R382). -/
def execRelease (p : Fin 6) (s : State) : Host.Outcome State Fault Refusal := .next (engine (opRelease p) s)
/-- STRING_ENTRY_CLEAR (spec 10 R382). -/
def execStringEntryClear (i : Fin 64) (value : Reg) (s : State) : Host.Outcome State Fault Refusal :=
  .next (hostAccess (opStringEntryClear i value) s)
/-- NEIGHBOUR_CHECK (spec 10 R358). -/
def execNeighbourCheck (p : Fin 6) (s : State) : Host.Outcome State Fault Refusal := .next (engine (opNeighbourCheck p) s)
/-- ENUMERATION (spec 10 R384). -/
def execEnumeration (p : Fin 6) (s : State) : Host.Outcome State Fault Refusal := .next (engine (opEnumeration p) s)
/-- FAB_ID_WRITE (spec 10 R356). -/
def execFabIdWrite (dims : Bool) (value : Reg) (s : State) : Host.Outcome State Fault Refusal :=
  .next (hostAccess (opFabIdWrite dims value) s)
/-- PORT_DOWN (spec 10 R389). -/
def execPortDown (p : Fin 6) (s : State) : Host.Outcome State Fault Refusal := .next (engine (opPortDown p) s)
/-- TEST (spec 10 R385). -/
def execTestPacket (p : Fin 6) (vc both : Bool) (s : State) : Host.Outcome State Fault Refusal :=
  .next (engine (fun s => if both then opTest p (!vc) (opTest p vc s) else opTest p vc s) s)
/-- CLAIM_ACK_TIMEOUT (spec 10 R381). -/
def execClaimAckTimeout (i : Fin 64) (s : State) : Host.Outcome State Fault Refusal := .next (engine (opClaimAckTimeout i) s)

end Sys2Proof.Machine
end

