-- ==== Sys2Proof/Machine/FabTimes.lean ====
section
/-! DEFINITION. Fabric time (spec 10 R386 to R388, R395; spec 13 R522). -/

namespace Sys2Proof.Machine

/-- Whether the device takes its time from a parent (spec 10 R386): it is not the master, and it has an ID. -/
def timeChild (s : State) : Bool := !rdB s A.FAB_TIME_CTL F.FAB_TIME_CTL_MASTER && rdB s A.FAB_COORD F.FAB_COORD_VALID

/-- The parent port: the first hop of R363 toward the master (spec 10 R386). -/
def parentPort (s : State) : Option Nat :=
  let own := (devId s).toNat
  let m := rd s A.FAB_TIME_CTL F.FAB_TIME_CTL_MASTER_ID
  if !timeChild s then none
  else (firstDim s own m).map (fun d => dimPort s d (fabCoord s d own) (fabCoord s d m))

/-- The length of the route to the master, 0 at the master itself and without an ID (spec 10 R386). -/
def masterHops (s : State) : Nat :=
  let m := rd s A.FAB_TIME_CTL F.FAB_TIME_CTL_MASTER_ID
  if !timeChild s then 0
  else ([0, 1, 2].map (fun d =>
    let n := fabSize s d
    let k := (((fabCoord s d m : Int) - fabCoord s d (devId s).toNat) % (n : Int)).toNat
    min k (n - k))).foldl (· + ·) 0

/-- FAB_TIME_STATUS as it reads: the distance and the parent port are those of the present route (spec 10 R386, R395). -/
def timeStatus (s : State) : Reg :=
  setFld (setFld (getR s A.FAB_TIME_STATUS) F.FAB_TIME_STATUS_HOPS (min 255 (masterHops s)))
    F.FAB_TIME_STATUS_PARENT ((parentPort s).getD 0)

/-- TIME_REQ (spec 10 R386): T1 is stamped as the packet leaves. -/
def opTimeReq (s : State) : State :=
  match parentPort s with
  | some p =>
    if !portUp s p ∨ !rdB s A.FAB_TIME_CTL F.FAB_TIME_CTL_EN then s else emitLocal s p .snp 1 [0]
  | none => s

/-- TIME_RSP: the parent answers with T2, the arrival, and T3, stamped as the answer leaves (spec 10 R386). -/
def opTimeRsp (p : Fin 6) (s : State) : State :=
  match takeCtl s p 1 with
  | none => s
  | some (_, t2, s) => emitLocal s p .snp 2 [BitVec.ofNat 64 t2, 0]

/-- An offset in ns is applied: own time steps, or is slewed over the next interval at 200 ppm at most (spec 10 R386). -/
def applyOffset (s : State) (off : Int) : State :=
  let a := A.FAB_TIME_STATUS
  let s := wr s a F.FAB_TIME_STATUS_OFFSET (wrapInt 32 (clampS 32 off))
  if rd s A.FAB_TIME_CTL F.FAB_TIME_CTL_STEP_NS < off.natAbs then
    let t := (((s.time : Int) + off * 2 ^ 24) % 2 ^ 88).toNat
    let s := { s with time := t, fabTime := { s.fabTime with slew := 0, slewRate := 0 } }
    report (wr s a F.FAB_TIME_STATUS_STEPPED 1) 203 (unitDev s) 0x430 []
  else
    let us := max 1 (rd s A.FAB_TIME_CTL F.FAB_TIME_CTL_INTERVAL_US)
    { s with fabTime := { s.fabTime with slew := off * (2 ^ 24 * 1000000000)
                                         slewRate := min 200000 ((off.natAbs * 1000000 + us - 1) / us) } }

/-- TIME_ADJUST (spec 10 R386, R387). -/
def opTimeAdjust (p : Fin 6) (s : State) : State :=
  match takeCtl s p 2 with
  | none => s
  | some (k, t4, s) =>
    match s.fabTime.t1 with
    | none => s
    | some t1 =>
      if parentPort s ≠ some p.val then s
      else
        let t2 : Int := (k.payload.headD 0).toNat
        let t3 : Int := ((k.payload.drop 1).headD 0).toNat
        let off := ((t2 - t1) - ((t4 : Int) - t3)) / 2
        let a := A.FAB_TIME_STATUS
        let good := if 2 * off.natAbs ≤ 10 + masterHops s then min 8 (s.fabTime.good + 1) else 0
        let s := { s with fabTime := { s.fabTime with t1 := none, good := good } }
        let s := applyOffset s off
        wr (wr s a F.FAB_TIME_STATUS_LOCKED (b2n (good == 8))) a F.FAB_TIME_STATUS_HOLDOVER (b2n (rdB s a F.FAB_TIME_STATUS_HOLDOVER && !portUp s p))

/-- HOLDOVER: the parent port has gone down; the rate stays (spec 10 R387). -/
def opHoldover (s : State) : State :=
  match parentPort s with
  | some p =>
    if portUp s p ∨ rdB s A.FAB_TIME_STATUS F.FAB_TIME_STATUS_HOLDOVER then s
    else report (wr s A.FAB_TIME_STATUS F.FAB_TIME_STATUS_HOLDOVER 1) 203 (unitDev s) 0x431 []
  | none => s

/-- SYNC_IN_EDGE (spec 10 R388; spec 13 R522): a pulse per second is an offset; a 10 MHz edge disciplines the rate, by a value that
the spec does not give (a free value). DESIGN CHOICE (assumption log 57). -/
def opSyncInEdge (s : State) : State :=
  if !rdB s A.CLK_SYNC_CTL F.CLK_SYNC_CTL_EN then s
  else
    let s := wr s A.CLK_SYNC_CAP F.CLK_SYNC_CAP_TIME (nowNs s)
    let m := syncMode s
    let clr := wr s A.FAB_TIME_STATUS F.FAB_TIME_STATUS_SYNC_LOST 0
    if m = 1 then
      let r : Int := nowNs s % 1000000000
      applyOffset clr (if r < 500000000 then -r else 1000000000 - r)
    else if m = 2 then
      useFree { clr with fabTime := { clr.fabTime with disc := sintOf 32 (freeVal s).toNat } }
    else s

/-- SYNC_LOST (spec 10 R388). -/
def opSyncLost (s : State) : State :=
  if syncMode s = 0 ∨ rdB s A.FAB_TIME_STATUS F.FAB_TIME_STATUS_SYNC_LOST then s
  else report (wr s A.FAB_TIME_STATUS F.FAB_TIME_STATUS_SYNC_LOST 1) 203 (unitDev s) 0x432 []

/-! ### The meanings of the commands of this file -/

/-- TIME_REQ (spec 10 R386). -/
def execTimeReq (s : State) : Host.Outcome State Fault Refusal := .next (engine opTimeReq s)
/-- TIME_RSP (spec 10 R386). -/
def execTimeRsp (p : Fin 6) (s : State) : Host.Outcome State Fault Refusal := .next (engine (opTimeRsp p) s)
/-- TIME_ADJUST (spec 10 R386). -/
def execTimeAdjust (p : Fin 6) (s : State) : Host.Outcome State Fault Refusal := .next (engine (opTimeAdjust p) s)
/-- SYNC_IN_EDGE (spec 10 R388). -/
def execSyncInEdge (s : State) : Host.Outcome State Fault Refusal := .next (engine opSyncInEdge s)
/-- SYNC_LOST (spec 10 R388). -/
def execSyncLost (s : State) : Host.Outcome State Fault Refusal := .next (engine opSyncLost s)
/-- HOLDOVER (spec 10 R387). -/
def execHoldover (s : State) : Host.Outcome State Fault Refusal := .next (engine opHoldover s)

end Sys2Proof.Machine
end

