-- ==== Sys2Proof/Machine/Thermal.lean ====
section
/-! DEFINITION. Temperature sensors and the thermal conditions (spec 13 R509 to R511, R520). -/

namespace Sys2Proof.Machine

/-- The reading of sensor `k` of field `f`, as it stands in PWR_TEMP (spec 13 R509, R520), and whether the sensor has failed. -/
def sensorRaw (s : State) (f k : Nat) : Nat := bitsOf (getR s (A.PWR_TEMP f)).toNat (16 * k + 15) (16 * k)
def sensorFailed (s : State) (f k : Nat) : Bool := sensorRaw s f k == 0x8000

/-- The readings of a field that take part in the conditions, in 1/16 °C: those of the sensors that have not failed, or 125 °C
where all four have (spec 13 R509). -/
def fieldTemps (s : State) (f : Nat) : List Int :=
  match ([0, 1, 2, 3].filter (fun k => !sensorFailed s f k)).map (fun k => sintOf 16 (sensorRaw s f k)) with
  | [] => [2000]
  | l => l

/-- Whether some reading, and whether every reading, satisfies a condition. -/
def anyTemp (s : State) (p : Int → Bool) : Bool := (List.range 64).any (fun f => (fieldTemps s f).any p)
def allTemps (s : State) (p : Int → Bool) : Bool := (List.range 64).all (fun f => (fieldTemps s f).all p)

/-- The hottest valid reading and its field; the lowest field where several are hottest. -/
def hottest (s : State) : Option (Int × Nat) :=
  ((List.range 64).flatMap (fun f => (([0, 1, 2, 3].filter (fun k => !sensorFailed s f k)).map
    (fun k => (sintOf 16 (sensorRaw s f k), f))))).foldl (fun m x => match m with
      | some y => if y.1 < x.1 then some x else some y
      | none => some x) none

/-- The pins that the thermal conditions drive: ALERT_N and THERM_N, true for low (spec 13 R510). -/
def alertLow (s : State) : Bool := rdB s A.PWR_THERM_STATUS F.PWR_THERM_STATUS_ALERT && rdB s A.PWR_THERM_CTL F.PWR_THERM_CTL_ALERT_EN
def thermLow (s : State) : Bool := rdB s A.PWR_THERM_STATUS F.PWR_THERM_STATUS_THERM

/-- One condition with its two thresholds in 1/16 °C (spec 13 R510): it asserts with an event, and releases. -/
def applyCond (s : State) (fld : Fld) (hi lo : Int) (code : Nat) (det : List Byte) : State :=
  let a := A.PWR_THERM_STATUS
  if !rdB s a fld then
    (if anyTemp s (fun t => decide (hi ≤ t)) then report (wr s a fld 1) 204 (unitDev s) code det else s)
  else if allTemps s (fun t => decide (t < lo)) then wr s a fld 0 else s

/-- TEMPERATURE_SAMPLE: sensor `k` of field `f` is read (spec 13 R509, R510). The trip itself is TRIP's. -/
def opTemperatureSample (f : Fin 64) (k : Fin 4) (reading : BitVec 16) (s : State) : State :=
  let was := sensorFailed s f k
  let fld : Fld := ⟨16 * k.val + 15, 16 * k.val, .ro, false, false, 0⟩
  let s := wr s (A.PWR_TEMP f) fld reading.toNat
  let s := if reading = 0x8000 then
      let s := wr s A.PWR_THERM_STATUS F.PWR_THERM_STATUS_SENSOR_FAIL 1
      if was then s else report s 204 (unitDev s) 0x804 (detail [(f.val, 1), (k.val, 1)])
    else s
  let s := match hottest s with
    | some x => wr (wr s A.PWR_THERM_STATUS F.PWR_THERM_STATUS_TMAX (wrapInt 16 x.1)) A.PWR_THERM_STATUS
        F.PWR_THERM_STATUS_TMAX_FIELD x.2
    | none => s
  let det := detail [(f.val, 1), (k.val, 1), (reading.toNat, 2)]
  let hi := 16 * sintOf 8 (rd s A.PWR_THERM_CTL F.PWR_THERM_CTL_ALERT_HI)
  let lo := 16 * sintOf 8 (rd s A.PWR_THERM_CTL F.PWR_THERM_CTL_ALERT_LO)
  applyCond (applyCond s F.PWR_THERM_STATUS_ALERT hi lo 0x800 det) F.PWR_THERM_STATUS_THERM 2000 1920 0x801 det

/-- The lanes that govern a direction of their own: lane 8 p of each tether port, every edge lane. -/
def powerLanes : List Nat := [0, 8, 16, 24, 32, 40] ++ (List.range 64).map (· + 48)

/-- TRIP: sensor `k` of field `f` reads 135 °C or more (spec 13 R511): burners stop, every lane direction that is on enters
QUIET; the ring engine and everything else look at TRIPPED. -/
def opTrip (f : Fin 64) (k : Fin 4) (s : State) : State :=
  if tripped s ∨ sensorFailed s f k ∨ sintOf 16 (sensorRaw s f k) < 2160 then s
  else
    let a := A.PWR_THERM_STATUS
    let s := wr (wr s a F.PWR_THERM_STATUS_TRIPPED 1) a F.PWR_THERM_STATUS_TRIP_SEEN 1
    let s := (List.range 64).foldl (fun s g =>
      let s := wr (wr s (A.PWR_STATUS g) F.PWR_STATUS_COMPUTE_CLK 0) (A.PWR_STATUS g) F.PWR_STATUS_TRANSIT_CLK 0
      setFS s g { getFS s g with burner := false }) s
    let s := powerLanes.foldl (fun s l => [true, false].foldl (fun s tx =>
      if dirState s l tx = 0 then setDir s l tx 1 else s) s) s
    report s 204 (unitDev s) 0x802 (detail [(f.val, 1), (k.val, 1), (sensorRaw s f k, 2)])

/-- A write of PWR_THERM_CTL by the warden; TRIP_CLR releases a trip once every reading is below 115 °C (spec 13 R510, R511). -/
def writeThermCtl (s : State) (v : Reg) : State :=
  let s := setR s A.PWR_THERM_CTL (writeFlds true L.PWR_THERM_CTL (getR s A.PWR_THERM_CTL) v)
  if getFld v F.PWR_THERM_CTL_TRIP_CLR ≠ 1 ∨ !tripped s ∨ !allTemps s (fun t => decide (t < 1840)) then s
  else
    let s := wr s A.PWR_THERM_STATUS F.PWR_THERM_STATUS_TRIPPED 0
    let s := ((List.range 64).filter (fun g => [0, 2, 3, 8].contains (pwrState s g))).foldl (fun s g => setPwr s g (pwrState s g)) s
    let s := powerLanes.foldl (fun s l => [true, false].foldl (fun s tx =>
      if dirState s l tx = 1 ∧ dirReq s l tx = 0 then setDir s l tx 0 else s) s) s
    let s := (List.range 64).foldl (fun s g => powerReached (seekTarget s g) g) s
    report s 204 (unitDev s) 0x803 (detail [(wrapInt 16 ((hottest s).elim 0 Prod.fst), 2)])

/-- TRIP_CLR (spec 13 R511). -/
def opTripClr (v : Reg) (s : State) : State := writeThermCtl s v

/-! ### The meanings of the commands of this file -/

/-- TEMPERATURE_SAMPLE (spec 13 R510). -/
def execTemperatureSample (f : Fin 64) (k : Fin 4) (reading : BitVec 16) (s : State) : Host.Outcome State Fault Refusal :=
  .next (opTemperatureSample f k reading s)
/-- TRIP (spec 13 R511). -/
def execTrip (f : Fin 64) (k : Fin 4) (s : State) : Host.Outcome State Fault Refusal := .next (opTrip f k s)
/-- TRIP_CLR (spec 13 R511). -/
def execTripClr (value : Reg) (s : State) : Host.Outcome State Fault Refusal := .next (hostAccess (opTripClr value) s)

end Sys2Proof.Machine
end

