-- ==== Sys2Proof/Machine/Rings.lean ====
section
/-! DEFINITION. Ring lifetime, doorbells, sleep, tugs, completions and interrupts (spec 08 R289 to R306, R321 to R323, R326,
R327, R331 to R333). -/

namespace Sys2Proof.Machine

/-- POLL_MIN and POLL_MAX in units of 100 ns (spec 08 R332). -/
def pollMin (s : State) : Nat := max 1 (rd s A.HIF_TUG_CTL F.HIF_TUG_CTL_POLL_MIN)
def pollMax (s : State) : Nat := 10 * max 1 (rd s A.HIF_TUG_CTL F.HIF_TUG_CTL_POLL_MAX)

/-- POLL_STATE replaced, with the ASLEEP bit that shows it (spec 08 R297, R333). -/
def setPoll (s : State) (r p : Nat) : State :=
  let s := setRing s r { getRing s r with poll := p }
  wr s (A.RING_STATUS r) F.RING_STATUS_ASLEEP (b2n (p == 1))

/-- The move from OFF to ON (spec 08 R300). -/
def ringOn (s : State) (r : Nat) : State :=
  let a := A.RING_STATUS r
  let s := wr (wr s a F.RING_STATUS_SQ_CONS 0) a F.RING_STATUS_ERR 0
  let s := setRing s r { interval := pollMin s }
  let s := wr (setRingState s r 1) (A.RING_CTL r) F.RING_CTL_EN 1
  writeShadow (setPoll s r 0) r

/-- Whether a vector is valid for a ring's function (spec 08 R300). -/
def vectorOk (s : State) (r v : Nat) : Bool :=
  if ringFn s r = 0 then decide (4 ≤ v ∧ v ≤ 2047) else decide (v ≤ 31)

/-- Whether a write of `v` would change a field of the register (spec 08 R301). -/
def wouldChange (old v : Reg) (fs : List Fld) : Bool := fs.any (fun f => getFld old f != getFld v f)

/-- The fields of CTL that a write changes while the ring is not OFF, and those that it does not (spec 08 R301). -/
def ctlLive : List Fld := [F.RING_CTL_EN, F.RING_CTL_PRIO, F.RING_CTL_BURST, F.RING_CTL_INFLIGHT_MAX, F.RING_CTL_IRQ_EN,
  F.RING_CTL_NO_IRQ_OK]
def ctlDead : List Fld := [F.RING_CTL_GEN, F.RING_CTL_VECTOR, F.RING_CTL_WARDEN, F.RING_CTL_RELAXED, F.RING_CTL_NO_SNOOP]

/-- A write of CTL (spec 08 R299 to R301, R318). -/
def writeRingCtl (s : State) (r : Nat) (v : Reg) : State :=
  let a := A.RING_CTL r
  let st := ringState s r
  let en := getFld v F.RING_CTL_EN == 1
  let x := getRing s r
  if st = 0 then
    let n := writeFlds true L.RING_CTL (getR s a) v
    let n := if ringFn s r = 0 then n else setFld n F.RING_CTL_WARDEN 0
    let s := setR s a (setFld n F.RING_CTL_EN 0)
    if !en then s
    else if vectorOk s r (getFld v F.RING_CTL_VECTOR) then ringOn s r
    else wr s (A.RING_STATUS r) F.RING_STATUS_CFG_REFUSED 1
  else
    let s := if wouldChange (getR s a) v ctlDead then wr s (A.RING_STATUS r) F.RING_STATUS_CFG_IGNORED 1 else s
    let s := setR s a (writeFlds true ctlLive (getR s a) v)
    if st = 1 then (if en then s else endHeld (setRingState s r 2) r)
    else if st = 2 then (if en then setRingState s r 1 else s)
    else setRing s r { x with restart := en }

/-- A write of a register of RING_SLOT[r]: 0 SQ_BASE, 1 CQ_BASE, 2 DB_ADDR, 3 SIZE, 4 CTL, 5 STATUS, 6 MASTER, 7 CONFLICTS (spec
08 R301, R333). -/
def writeRing (s : State) (r k : Nat) (v : Reg) : State :=
  let off := A.RING_SQ_BASE r + 8 * k
  let fs := (regFields off).getD []
  if k = 4 then writeRingCtl s r v
  else if k = 5 ∨ k = 7 then setR s off (writeFlds true fs (getR s off) v)
  else if k = 6 ∧ 0xFFF < getFld v F.RING_MASTER_ID then s
  else if ringState s r = 0 then setR s off (writeFlds true fs (getR s off) v)
  else if wouldChange (getR s off) v fs then wr s (A.RING_STATUS r) F.RING_STATUS_CFG_IGNORED 1
  else s

/-- RING_ENABLE (spec 08 R300). -/
def opRingEnable (r : Fin 4096) (v : Reg) (s : State) : State := writeRing s r 4 v
/-- RING_DISABLE (spec 08 R299). -/
def opRingDisable (r : Fin 4096) (v : Reg) (s : State) : State := writeRing s r 4 v
/-- RING_SLOT_WRITE (spec 08 R301). -/
def opRingSlotWrite (r : Fin 4096) (k : Fin 8) (v : Reg) (s : State) : State := writeRing s r k v

/-! ### Doorbells -/

/-- SQ_PROD and CQ_CONS of a doorbell record, and the descriptors fetched so far (spec 08 R296, R297). -/
def dbProd (bs : List Byte) : BitVec 32 := BitVec.ofNat 32 (leAt bs 0 4)
def dbCons (bs : List Byte) : BitVec 32 := BitVec.ofNat 32 (leAt bs 4 4)
def sqCons (s : State) (r : Nat) : BitVec 32 := BitVec.ofNat 32 (rd s (A.RING_STATUS r) F.RING_STATUS_SQ_CONS)

/-- Whether a doorbell record is of another generation, and whether it announces more than its rings hold (spec 08 R298). -/
def dbStale (s : State) (r : Nat) (bs : List Byte) : Bool := leAt bs 8 2 != rd s (A.RING_CTL r) F.RING_CTL_GEN
def dbOverrun (s : State) (r : Nat) (bs : List Byte) : Bool :=
  decide (2 ^ sqLog s r < (dbProd bs - sqCons s r).toNat ∨ 2 ^ cqLog s r < ((getRing s r).cqProd - dbCons bs).toNat)

/-- What a read of the doorbell record does (spec 08 R298, R302), and whether it found work or room. -/
def takeDoorbell (s : State) (r : Nat) (res : HostRead) : State × Bool :=
  let s := askDoorbell s r
  if !linkUp s then (ringFault s r .linkDown, false)
  else match res with
  | .fail e => (ringFault (hostFails s e) r (hostFailStatus e), false)
  | .ok bs =>
    let x := getRing s r
    if dbStale s r bs then (wr s (A.RING_STATUS r) F.RING_STATUS_STALE_GEN 1, false)
    else if dbOverrun s r bs then (ringFault s r .badDescriptor, false)
    else (setRing s r { x with sqProd := dbProd bs, cqCons := dbCons bs },
      dbProd bs != sqCons s r || (x.out != [] && dbCons bs != x.cqCons))

/-- DOORBELL_POLL (spec 08 R298, R302, R303). -/
def opDoorbellPoll (r : Fin 4096) (res : HostRead) (s : State) : State :=
  if ringState s r ≠ 1 ∨ (getRing s r).poll ≠ 0 then s
  else
    let y := takeDoorbell s r res
    let x := getRing y.1 r
    if ringState y.1 r ≠ 1 then y.1
    else setRing y.1 r { x with interval := if y.2 then pollMin s else min (pollMax s) (2 * x.interval) }

/-- RING_SLEEP (spec 08 R304): IDLE_US have passed without work. -/
def opRingSleep (r : Fin 4096) (res : HostRead) (s : State) : State :=
  let x := getRing s r
  if ringState s r ≠ 1 ∨ x.poll ≠ 0 ∨ !rdB s A.HIF_TUG_CTL F.HIF_TUG_CTL_SLEEP_EN ∨ x.descs.any (fun d => d.started) ∨ x.out ≠ []
      then s
  else
    let s := writeShadow (setPoll s r 1) r
    if ringState s r ≠ 1 then s
    else
      let y := takeDoorbell s r res
      if y.2 then
        let s := setRing y.1 r { getRing y.1 r with interval := pollMin y.1 }
        writeShadow (setPoll s r 0) r
      else y.1

/-- The ring whose tug page is page `j` of function `fn` (spec 08 R289, R290). -/
def tugRing (s : State) (fn j : Nat) : Option Nat :=
  if fn = 0 then (if j < 4096 then some j else none)
  else if fn ≤ vfCount s ∧ j < (mapRange s (fn - 1)).2 then some ((mapRange s (fn - 1)).1 + j)
  else none

/-- TUG: a write of `size` bytes at offset `off` of page `page` of function `fn` (spec 08 R291, R305). -/
def opTug (fn : Fin 65) (page : Fin 4096) (off size : Nat) (s : State) : State :=
  if off ≠ 0 ∨ size = 0 ∨ 8 < size then s
  else match tugRing s fn page with
  | none => s
  | some r =>
    let s := bump s A.HIF_TUG_CNT F.HIF_TUG_CNT_COUNT 1
    if ringState s r ≠ 1 ∨ (getRing s r).poll ≠ 1 then s
    else
      let s := setRing s r { getRing s r with interval := pollMin s }
      writeShadow (setPoll s r 0) r

/-- The reads of `n` descriptors from the one at SQ_CONS on: each has its slot (spec 08 R295, R296). -/
def askDescs (s : State) (r n : Nat) : State :=
  (List.range n).foldl (fun s k => hostAsk s (ringFn s r) (descAddr s r ((sqCons s r).toNat + k)) 64 false) s

/-- DESCRIPTOR_FETCH: posted descriptors are read from the submission ring (spec 08 R296, R299, R302); their slots may then be
reused, so the shadow is written. -/
def opDescriptorFetch (r : Fin 4096) (res : HostRead) (s : State) : State :=
  let x := getRing s r
  let sqc := sqCons s r
  if ringState s r ≠ 1 ∨ x.poll ≠ 0 ∨ x.sqProd = sqc then s
  else if !linkUp s then ringFault s r .linkDown
  else match res with
  | .fail e => ringFault (hostFails (askDescs s r 1) e) r (hostFailStatus e)
  | .ok bs =>
    let n := min (bs.length / 64) (x.sqProd - sqc).toNat
    if n = 0 then s
    else
      let s := askDescs s r n
      let ds := (List.range n).map (fun k => ({ id := (sqc + BitVec.ofNat 32 k).toNat, bytes := sliceBytes bs (64 * k) 64 } : Desc))
      let s := setRing s r { x with descs := x.descs ++ ds }
      writeShadow (wr s (A.RING_STATUS r) F.RING_STATUS_SQ_CONS (sqc + BitVec.ofNat 32 n).toNat) r

/-! ### Completions -/

/-- The 16 bytes of a completion entry (spec 08 R321 to R323). -/
def compBytes (s : State) (r : Nat) (x : RingSt) (c : Comp) : List Byte :=
  let phase := b2n (x.cqProd.toNat / 2 ^ cqLog s r % 2 == 0)
  let head := bytesLE 2 c.tag.toNat ++ bytesLE 1 (statusCode c.status) ++ bytesLE 1 (phase + 2 * b2n c.desc.isNone)
  head ++ (if c.desc.isNone then c.words.flatMap (fun w => bytesLE 4 w.toNat)
    else bytesLE 4 c.bytes ++ bytesLE 4 (nowNs s) ++ bytesLE 4 c.aux)

/-- One completion written at slot CQ_PROD, with its interrupt (spec 08 R322, R326); the first of those that wait. -/
def putComp (s : State) (r : Nat) (c : Comp) : State :=
  let x := getRing s r
  let addr := rd s (A.RING_CQ_BASE r) F.RING_CQ_BASE_ADDR * 4096 + 16 * (x.cqProd.toNat % 2 ^ cqLog s r)
  let s := (hostWrite s (ringFn s r) addr (compBytes s r x c) false false).1
  let x := { x with cqProd := x.cqProd + 1, out := x.out.drop 1 }
  let s := setRing s r (match c.desc with | some id => dropDesc x id | none => x)
  if c.counts ∧ rdB s (A.RING_CTL r) F.RING_CTL_IRQ_EN then raiseVec s (ringFn s r) (rd s (A.RING_CTL r) F.RING_CTL_VECTOR) else s

/-- COMPLETION_WRITE (spec 08 R302, R322): `failed` is the failure of the write, if it fails; the shadow follows the completion
(R325). -/
def opCompletionWrite (r : Fin 4096) (failed : Option HostFail) (s : State) : State :=
  let x := getRing s r
  match x.out with
  | [] => s
  | c :: _ =>
    if !([1, 2].contains (ringState s r)) ∨ !cqRoom s r x then s
    else if !linkUp s then ringFault s r .linkDown
    else match failed with
      | some e => ringFault (hostFails s e) r (hostFailStatus e)
      | none => writeShadow (putComp s r c) r

/-- Train commands of a ring's descriptors lose their issuer: nothing is answered (spec 08 R299). -/
def orphanCmds (s : State) (r : Nat) : State :=
  let g := fun (c : TreeCmd) => match c.issuer with
    | .ring r' _ => if r' = r then { c with issuer := .engine } else c
    | _ => c
  { s with tree := { s.tree with fromRing := s.tree.fromRing.map g
                                 runs := s.tree.runs.map (fun x => (x.1, x.2.map (fun y => { y with cmd := g y.cmd }))) } }

/-- The pieces of descriptor `id` of ring `r` that no response has answered. -/
def openPieces (s : State) (r id : Nat) : List Nat :=
  (getEp s (ringPort r)).landing.filterMap (fun y => match y.2 with
    | some l => (match l.owner with
        | .desc r' i k => if r' = r ∧ i = id then some k else none
        | .gw _ _ => none | .refetch _ _ _ => none | .push _ _ => none | .notify _ => none | .peek => none | .train _ _ => none)
    | none => none)

/-- An abandoned transfer has failed at its lowest piece that no response has answered, or that was never asked for (spec 08 R299,
R314). DEDUCED (assumption log 75). -/
def abandonMove (s : State) (r : Nat) (d : Desc) : Desc :=
  if (dOp d = 0x03 ∨ dOp d = 0x04) ∧ d.started ∧ !d.finished then
    (d.next :: openPieces s r d.id).foldl (fun d k => noteFail d (pieceOff d k) .aborted) d
  else d

/-- BYTES_DONE and AUX of an abandoned descriptor (spec 08 R312 to R315, R321). DEDUCED (assumption log 75). -/
def abandonedBytes (d : Desc) : Nat :=
  if dOp d = 0x03 ∨ dOp d = 0x04 then d.fail.elim 0 Prod.fst
  else if dOp d = 0x05 then 32 * d.done
  else if dOp d = 0x01 ∨ dOp d = 0x02 then d.done else 0
/-- AUX of an abandoned LOAD_CONTEXT: the frames stored (spec 08 R315). DEDUCED (assumption log 75). -/
def abandonedAux (d : Desc) : Nat := if dOp d = 0x05 then d.done else 0

/-- The requests, commands and bindings of a ring's descriptors are given up (spec 08 R299, R328). -/
def giveUp (s : State) (r : Nat) : State :=
  let s := setRing s r { getRing s r with descs := (getRing s r).descs.map (abandonMove s r) }
  let x := getRing s r
  let pops := x.descs.filter (fun d => d.started && dOp d == 0x02)
  let s := orphan s r (fun o => match o with | .desc r' id _ => r' == r && pops.any (fun d => d.id == id) | _ => false) true
  let s := orphan s r (fun o => match o with | .desc r' id _ => r' == r && decide (id < 2 ^ 40) | _ => false) false
  let s := orphan s r (fun o => match o with
    | .notify b => (match smGet none s.host.binds b with | some y => y.ring == r | none => false)
    | _ => false) true
  let s := { s with host := { s.host with binds := s.host.binds.filter (fun b => match b.2 with
      | some y => decide (y.ring ≠ r)
      | none => false) } }
  orphanCmds s r

/-- Everything that a ring still holds is given up (spec 08 R299, R328). -/
def dropAll (s : State) (r : Nat) : State :=
  let s := giveUp s r
  setPoll (setRing s r { getRing s r with descs := [], out := [] }) r 2

/-- RING_DRAIN_END (spec 08 R299): `limit` says that DRAIN_LIMIT has passed. Waits and pops that have come to be held in DRAINING end
first. -/
def opRingDrainEnd (r : Fin 4096) (limit : Bool) (s : State) : State :=
  if ringState s r ≠ 2 then s
  else
    let s := endHeld s r
    if limit ∨ (getRing s r).descs.all (fun d => !d.started) then giveUp (setRingState s r 3) r else s

/-- The completions that ISOLATING still writes, while there is room (spec 08 R299). -/
def putAborted (r : Nat) : List Comp → State → State
  | [], s => s
  | c :: cs, s =>
    let x := getRing s r
    if cqRoom s r x then putAborted r cs (putComp (setRing s r { x with out := c :: cs }) r c)
    else wr s (A.RING_STATUS r) F.RING_STATUS_COMP_DROPPED 1

/-- What ISOLATING's one read of the doorbell record does: CQ_CONS is taken where R298 lets it be (spec 08 R298, R299, R302). -/
def lastDoorbell (s : State) (r : Nat) (res : HostRead) : State :=
  let s := askDoorbell s r
  if !linkUp s then faultRing s r .linkDown
  else match res with
    | .fail e => faultRing (hostFails s e) r (hostFailStatus e)
    | .ok bs =>
      if dbStale s r bs then wr s (A.RING_STATUS r) F.RING_STATUS_STALE_GEN 1
      else if dbOverrun s r bs then faultRing s r .badDescriptor
      else setRing s r { getRing s r with cqCons := dbCons bs }

/-- RING_OFF: ISOLATING reads CQ_CONS once, writes what finds room, and the ring is OFF (spec 08 R299, R302). -/
def opRingOff (r : Fin 4096) (res : HostRead) (s : State) : State :=
  if ringState s r ≠ 3 then s
  else
    let s := lastDoorbell s r res
    let x := getRing s r
    let left := (x.descs.filter (fun d => !d.finished)).map (fun d =>
      (⟨some d.id, BitVec.ofNat 16 (dField d 2 2), .aborted, abandonedBytes d, abandonedAux d, [], true⟩ : Comp))
    let s := if linkUp s then putAborted r (x.out ++ left) s
      else if x.out ++ left = [] then s else wr s (A.RING_STATUS r) F.RING_STATUS_COMP_DROPPED 1
    let restart := (getRing s r).restart
    let s := writeShadow (dropAll s r) r
    let s := setRingState (setRing s r { getRing s r with restart := false }) r 0
    if restart then wr (ringOn s r) (A.RING_STATUS r) F.RING_STATUS_RESTART_MERGED 1 else s

/-! ### Interrupts -/

/-- The moderation register of a vector (spec 08 R327, R329). -/
def modReg (fn k : Nat) : Nat := if fn = 0 then A.HIF_MSIX_MOD k else A.HIF_MSIX_MOD_VF (32 * (fn - 1) + k)

/-- Whether the function has the vector (spec 08 R286). -/
def hasVector (fn k : Nat) : Bool := decide (fn = 0 ∨ k < 32)

/-- The vectors of a function, and where its MSI-X table and its pending bits lie in BAR4 (spec 08 R286, R289). -/
def vectors (fn : Nat) : Nat := if fn = 0 then 2048 else 32
def msixTableAt (k : Nat) : Nat := 16 * k
def msixPbaAt (fn : Nat) : Nat := if fn = 0 then 0x8000 else 0x1000

/-- Sizes of the BARs of a function; a virtual function has no BAR0 (spec 08 R289). -/
def barSize (fn bar : Nat) : Nat :=
  if fn = 0 then (if bar = 0 then 2 ^ 25 else if bar = 2 then 2 ^ 24 else if bar = 4 then 2 ^ 16 else 0)
  else if bar = 2 then 2 ^ 18 else if bar = 4 then 2 ^ 13 else 0

/-- Every read of BAR2 returns zero (spec 08 R291). -/
def bar2Read (_off _size : Nat) : Nat := 0

/-- What a read of 4 bytes of BAR4 returns: a table entry's address, data and mask bit, or pending bits (spec 08 R289, R291).
PRESUMED (assumption log 62). -/
def bar4Read (s : State) (fn off : Nat) : Nat :=
  let p := msixPbaAt fn
  if off < 16 * vectors fn then
    let key := 2048 * fn + off / 16
    let e := smGet (0, 0) s.msix.table key
    let w := off % 16 / 4
    if w = 0 then e.1.toNat % 2 ^ 32 else if w = 1 then e.1.toNat / 2 ^ 32 else if w = 2 then e.2.toNat
    else b2n (smGet true s.msix.mask key)
  else if p ≤ off ∧ off < p + vectors fn / 8 then
    ((List.range 32).map (fun j => b2n (smGet false s.msix.pba (2048 * fn + 8 * (off - p) + j)) * 2 ^ j)).sum
  else 0

/-- What the PCIe configuration space of a function reports of its identity (spec 08 R288). -/
def pcieVendor (s : State) : Nat := rd s A.ID_PART F.ID_PART_VENDOR
def pcieDevice (fn : Nat) : Nat := if fn = 0 then 0x1640 else 0x1641
def pcieClass : Nat := 0x120000

/-- The message of a vector, as its table entry gives it: a posted write of 4 bytes (spec 08 R291, R327). PRESUMED (assumption log
62). -/
def sendMessage (s : State) (fn key : Nat) : State :=
  let e := smGet (0, 0) s.msix.table key
  let s := { s with msix := { s.msix with sent := smSet 0 s.msix.sent key (smGet 0 s.msix.sent key + 1) } }
  (hostWrite s fn e.1.toNat (bytesLE 4 e.2.toNat) false false).1

/-- MSIX_MESSAGE (spec 08 R327): the count has been reached, or `holdoff` says that the time has passed. Vectors are masked until
the host unmasks them (PCI Express). -/
def opMsixMessage (fn : Fin 65) (k : Fin 2048) (holdoff : Bool) (s : State) : State :=
  let key := 2048 * fn.val + k.val
  let m := modReg fn k
  let n := smGet 0 s.msix.pend key
  let due := max 1 (rd s m F.HIF_MSIX_MOD_COUNT) ≤ n ∨ (holdoff ∧ rd s m F.HIF_MSIX_MOD_HOLDOFF ≠ 0 ∧ 0 < n)
  if !hasVector fn k ∨ ¬due then s
  else
    let x := { s.msix with pend := smSet 0 s.msix.pend key 0 }
    if smGet true s.msix.mask key then { s with msix := { x with pba := smSet false x.pba key true } }
    else sendMessage { s with msix := x } fn key

/-- MSIX_UNMASK: the host writes a table entry of BAR4; a vector that is unmasked sends the message that its mask has held (spec 08
R291, R327). -/
def opMsixUnmask (fn : Fin 65) (k : Fin 2048) (addr : BitVec 64) (data : BitVec 32) (mask : Bool) (s : State) : State :=
  let key := 2048 * fn.val + k.val
  if !hasVector fn k then s
  else
    let x := { s.msix with mask := smSet true s.msix.mask key mask, table := smSet (0, 0) s.msix.table key (addr, data) }
    if !mask && smGet false x.pba key then sendMessage { s with msix := { x with pba := smSet false x.pba key false } } fn key
    else { s with msix := x }

/-! ### The meanings of the commands of this file -/

/-- TUG (spec 08 R305). -/
def execTug (fn : Fin 65) (page : Fin 4096) (off : Nat) (size : Nat) (s : State) : Host.Outcome State Fault Refusal :=
  .next (engine (opTug fn page off size) s)
/-- DOORBELL_POLL (spec 08 R303). -/
def execDoorbellPoll (r : Fin 4096) (res : HostRead) (s : State) : Host.Outcome State Fault Refusal :=
  .next (engine (opDoorbellPoll r res) s)
/-- RING_SLEEP (spec 08 R304). -/
def execRingSleep (r : Fin 4096) (res : HostRead) (s : State) : Host.Outcome State Fault Refusal := .next (engine (opRingSleep r res) s)
/-- DESCRIPTOR_FETCH (spec 08 R299). -/
def execDescriptorFetch (r : Fin 4096) (res : HostRead) (s : State) : Host.Outcome State Fault Refusal :=
  .next (engine (opDescriptorFetch r res) s)
/-- COMPLETION_WRITE (spec 08 R322). -/
def execCompletionWrite (r : Fin 4096) (failed : Option HostFail) (s : State) : Host.Outcome State Fault Refusal :=
  .next (engine (opCompletionWrite r failed) s)
/-- MSIX_MESSAGE (spec 08 R327). -/
def execMsixMessage (fn : Fin 65) (k : Fin 2048) (holdoff : Bool) (s : State) : Host.Outcome State Fault Refusal :=
  .next (engine (opMsixMessage fn k holdoff) s)
/-- RING_ENABLE (spec 08 R300). -/
def execRingEnable (r : Fin 4096) (value : Reg) (s : State) : Host.Outcome State Fault Refusal :=
  .next (hostAccess (opRingEnable r value) s)
/-- RING_DISABLE (spec 08 R299). -/
def execRingDisable (r : Fin 4096) (value : Reg) (s : State) : Host.Outcome State Fault Refusal :=
  .next (hostAccess (opRingDisable r value) s)
/-- RING_DRAIN_END (spec 08 R299). -/
def execRingDrainEnd (r : Fin 4096) (limit : Bool) (s : State) : Host.Outcome State Fault Refusal :=
  .next (engine (opRingDrainEnd r limit) s)
/-- RING_OFF (spec 08 R299). -/
def execRingOff (r : Fin 4096) (res : HostRead) (s : State) : Host.Outcome State Fault Refusal := .next (engine (opRingOff r res) s)
/-- RING_SLOT_WRITE (spec 08 R301). -/
def execRingSlotWrite (r : Fin 4096) (k : Fin 8) (value : Reg) (s : State) : Host.Outcome State Fault Refusal :=
  .next (hostAccess (opRingSlotWrite r k value) s)
/-- MSIX_UNMASK (spec 08 R327). -/
def execMsixUnmask (fn : Fin 65) (e : MsixEntry) (s : State) : Host.Outcome State Fault Refusal :=
  .next (engine (opMsixUnmask fn e.vector e.addr e.data e.mask) s)

end Sys2Proof.Machine
end

