-- ==== Sys2Proof/Machine/Descs.lean ====
section
/-! DEFINITION. Descriptors: their checks, the scheduler, what each opcode does, and what it does with each response (spec 08
R307 to R320, R324, R325). -/

namespace Sys2Proof.Machine

/-! ### Checks -/

/-- Whether bytes `start` to `start + n - 1` of a descriptor are zero. -/
def dZero (d : Desc) (start n : Nat) : Bool := dField d start n == 0
def dInline (d : Desc) : Bool := bit (dFlags d) 2
def dRecEnd (d : Desc) : Bool := bit (dFlags d) 3

/-- The train command of a LOAD_CONTEXT, SWITCH or POWER descriptor (spec 08 R315, R316); a field too wide for its place in the
command is refused beside it. -/
def dCmd (s : State) (r : Nat) (d : Desc) : TreeCmd :=
  let mode := dField d 32 1
  let op := dOp d
  let code := if op = 0x05 then 6 else if op = 0x07 then 8 + mode
    else if mode = 5 then 0 else mode + 1
  let param := if op = 0x05 then dField d 26 2 else if op = 0x07 then dField d 33 1 else dField d 36 4
  { word := BitVec.ofNat 32 (dWord d), pl := BitVec.ofNat 5 (dPl d), cmd := BitVec.ofNat 4 code
    ctx := if op = 0x06 then BitVec.ofNat 4 (dField d 33 1) else 0, param := BitVec.ofNat 32 param
    key := ringKey s r false, issuer := .ring r d.id }

/-- Whether a train form breaks R21, R22 or R23 (spec 08 R307, R310). -/
def trainBad (s : State) (d : Desc) : Bool :=
  dField d 20 1 ≥ 32 || !dZero d 21 3 || decide (30 < dPl d) || dWord d % 2 ^ (32 - dPl d) != 0
    || (decide (dPl d < 16) && !isAnchor s)

/-- The BAD_DESCRIPTOR checks of an opcode (spec 08 R307 to R310, R315, R316, R320). -/
def opcodeBad (s : State) (r : Nat) (d : Desc) : Bool :=
  let op := dOp d
  let len0 := dZero d 4 4
  let h0 := dZero d 8 8
  let aux0 := dZero d 24 8
  let ops0 := dZero d 32 32
  if op = 0x00 ∨ op = 0x0D then !len0 || !h0 || !dZero d 16 8 || !aux0 || !ops0
  else if op = 0x01 ∨ op = 0x04 then !aux0 || (!ops0 && !dInline d) || (dInline d && !h0)
  else if op = 0x02 ∨ op = 0x03 ∨ op = 0x09 then !aux0 || !ops0
  else if op = 0x05 then
    let form := dField d 25 1
    trainBad s d || decide (16 < dField d 24 1) || decide (2 < form) || (decide (form < 2) && !dZero d 26 2)
      || (form == 2 && (!dZero d 24 1 || !h0)) || !dZero d 28 4 || !ops0
  else if op = 0x06 then
    !len0 || !h0 || trainBad s d || !aux0 || decide (5 < dField d 32 1) || decide (15 < dField d 33 1) || !dZero d 34 2
      || !dZero d 40 24 || !cmdOk (dCmd s r d)
  else if op = 0x07 then
    !len0 || !h0 || trainBad s d || !aux0 || decide (1 < dField d 32 1) || !dZero d 34 30 || !cmdOk (dCmd s r d)
  else if op = 0x08 then !len0 || !h0 || !dZero d 25 7 || !dZero d 40 24
  else if op = 0x0A then !h0 || !aux0 || !dZero d 48 16
  else if op = 0x0B then !len0 || !h0 || !dZero d 28 4 || !ops0
  else if op = 0x0C then !len0 || !h0 || decide (1 < dField d 24 1) || !dZero d 25 7 || !ops0
  else true

/-- The number of members of a LOAD_CONTEXT train (spec 08 R315). -/
def loadCount (s : State) (r : Nat) (d : Desc) : Nat :=
  if dPl d < 16 then 16384 * (expMembers s (dCmd s r d)).length else 2 ^ (30 - dPl d)

/-- Whether LEN breaks its opcode's rule (spec 08 R308, R309, R312, R313, R315). DESIGN CHOICE (assumption log 88). -/
def lengthBad (s : State) (r : Nat) (d : Desc) : Bool :=
  let op := dOp d
  let n := dLen d
  (dInline d && (n == 0 || decide (32 < n)))
    || (op == 0x01 && (n == 0 || (!dRecEnd d && n % 4 != 0)))
    || (op == 0x02 && decide (n < 4))
    || (op == 0x05 && n != (if dField d 25 1 = 0 then loadCount s r d else if dField d 25 1 = 1 then 1 else 0))
    || ((op == 0x09 || op == 0x0A) && n != 8)

/-- Whether a device-local address is the start of a queue port page (spec 08 R309). -/
def isQueuePage (a : Nat) : Bool :=
  decide (0x40000000 ≤ a ∧ a < 0x44000000) && tileKind ((a - 0x40000000) / 4096) == .b
    && [0xC00, 0xD00, 0xE00, 0xF00].contains (a % 4096)

/-- Whether a device-local address lies in set-up space. -/
def inSetup (a : Nat) : Bool := decide (0x80000000 ≤ a ∧ a < 0x82000000)

/-- Whether TARGET is not of the opcode's kind (spec 08 R310). -/
def targetBad (d : Desc) : Bool :=
  let op := dOp d
  let a := dAddr d
  if op = 0x01 ∨ op = 0x02 ∨ op = 0x0B ∨ op = 0x0C then !isQueuePage a
  else if op = 0x03 ∨ op = 0x04 then inSetup a || decide (0x800000000000 ≤ a) || decide (0x800000000000 < a + dLen d)
  else if op = 0x08 then a != 0
  else if op = 0x09 ∨ op = 0x0A then !inSetup a
  else false

/-- The status with which a descriptor is refused before anything is performed, or OK (spec 08 R310). -/
def descCheck (s : State) (r : Nat) (d : Desc) : Status :=
  if decide (0x0D < dOp d) || decide (32 ≤ dFlags d) || (dInline d && dOp d != 0x01 && dOp d != 0x04) || opcodeBad s r d then .badDescriptor
  else if lengthBad s r d then .length
  else if targetBad d then .badAddress
  else .ok

/-! ### The scheduler -/

/-- The queue page of a descriptor that serves a queue (spec 08 R311). -/
def servesQueue (d : Desc) : Option Nat := if dOp d = 0x01 ∨ dOp d = 0x02 then some (dTarget d) else none

/-- Whether a queue is held by a started descriptor of some ring, or by a request that its descriptor has left (spec 08 R311,
R324). -/
def queueHeld (s : State) (page : Nat) : Bool :=
  s.host.rings.any (fun x => x.2.descs.any (fun d => d.started && !d.finished && servesQueue d == some page))
    || queuePending s (BitVec.ofNat 16 (page / 2 ^ 48)) (page % 2 ^ 48)

/-- The next descriptor of a ring to start. -/
def nextDesc (x : RingSt) : Option Desc := x.descs.find? (fun d => !d.started)

/-- INFLIGHT_MAX (spec 08 R333). -/
def inflightMax (s : State) (r : Nat) : Nat :=
  let n := rd s (A.RING_CTL r) F.RING_CTL_INFLIGHT_MAX
  if n = 0 ∨ 8 < n then 8 else n

/-- Whether a ring is ready (spec 08 R324). -/
def ringReady (s : State) (r : Nat) : Bool :=
  let x := getRing s r
  ringState s r == 1 && decide ((x.descs.filter inProgress).length < inflightMax s r)
    && (match nextDesc x with
      | some d => (!bit (dFlags d) 0 || (x.descs.head?.map (fun e => e.id == d.id)).getD false)
          && (match servesQueue d with | some q => !queueHeld s q | none => true)
          && (x.descs.any (·.started) || decide ((s.host.rings.filter (fun y => y.1 != r && y.2.descs.any (·.started))).length < 64))
      | none => false)

/-- The ready rings of a priority level, in ring-number order. -/
def readyAt (s : State) (level : Nat) : List Nat :=
  (s.host.rings.map Prod.fst).filter (fun r => ringReady s r && rd s (A.RING_CTL r) F.RING_CTL_PRIO == level)

/-- Starts of a level per round (spec 08 R330). -/
def levelStarts (s : State) (level : Nat) : Nat :=
  max 1 (rd s A.HIF_CTL (if level = 0 then F.HIF_CTL_W0 else if level = 1 then F.HIF_CTL_W1 else if level = 2 then F.HIF_CTL_W2
    else F.HIF_CTL_W3))

/-- The ring to serve at a level: the one whose turn it is while its burst lasts, otherwise the next ready one in ring-number
order; with the starts left in its turn after this one (spec 08 R324). -/
def pickRing (s : State) (level : Nat) : Option (Nat × Nat) :=
  let z := s.host.sched
  let last := smGet 0 z.turn level
  let rs := readyAt s level
  if z.left.isSome && z.level == level && decide (0 < z.burst) && rs.contains last then some (last, z.burst - 1)
  else
    -- ring numbers above the last one first, then from the bottom
    match (rs.filter (fun r => decide (last < r))).head?.orElse (fun _ => rs.head?) with
    | some r => some (r, max 1 (rd s (A.RING_CTL r) F.RING_CTL_BURST) - 1)
    | none => none

/-- The next start: the ring and the scheduler's place after it. Levels are tried from the present one down, then from 3 again in
a new round. -/
def nextStart (s : State) : Nat → Sched → Option (Nat × Sched)
  | 0, _ => none
  | n + 1, z =>
    let left := z.left.getD (levelStarts s z.level)
    let down : Sched := { z with level := (z.level + 3) % 4, left := none, burst := 0 }
    if left = 0 then nextStart s n down
    else match pickRing { s with host := { s.host with sched := z } } z.level with
      | some (r, b) => some (r, { z with left := some (left - 1), burst := b, turn := smSet 0 z.turn z.level r })
      | none => nextStart s n down

/-- DESCRIPTOR_START (spec 08 R310, R324; spec 13 R511). -/
def opDescriptorStart (s : State) : State :=
  if tripped s then s
  else match nextStart s 9 s.host.sched with
  | none => s
  | some (r, z) =>
    match nextDesc (getRing s r) with
    | none => s
    | some d =>
      let s := modDesc { s with host := { s.host with sched := z } } r d.id (fun d => { d with started := true })
      let st := descCheck s r d
      if st = .ok then s else descDone s r d.id st 0 0

/-! ### Requests of a descriptor -/

/-- A descriptor's request, from its ring's port: sent, refused with a status, or without a landing slot (spec 08 R324; spec 07
R265). -/
def descSend (s : State) (r : Nat) (d : Desc) (k : Nat) (warden : Bool) (addr : Nat) (write : Bool) (len : Nat) (data : List Byte) : SendRes :=
  sendReq s (ringPort r) 0 256 (.desc r d.id k) (ringKey s r warden) (dDev d) addr write len data

/-- A transfer is complete when every piece has answered (spec 08 R314). -/
def moveFinish (s : State) (r id : Nat) : State :=
  match liveDesc s r id with
  | none => s
  | some d =>
    if d.busy ≠ 0 then s
    else match d.fail with
      | some (o, st) => descDone s r id st o 0
      | none => if pieceOff d d.next < dLen d then s else descDone s r id .ok (dLen d) 0

/-- One more piece is sent; after a failure none is. -/
def movePiece (s : State) (r : Nat) (d : Desc) (write : Bool) (data : List Byte) : State :=
  let k := d.next
  if pieceOff d k < dLen d ∧ d.fail.isNone then
    match descSend s r d k false (dAddr d + pieceOff d k) write (pieceLen d k) data with
    | .sent s => modDesc s r d.id (fun d => { d with next := k + 1, busy := d.busy + 1 })
    | .done st => moveFinish (modDesc s r d.id (fun d => noteFail { d with next := k + 1 } (pieceOff d k) st)) r d.id
    | .wait => s
  else moveFinish s r d.id

/-- MEM_READ: the next piece is asked for (spec 08 R314). -/
def opMemRead (r : Fin 4096) (id : Nat) (s : State) : State :=
  match runDesc s r id 0x03 with
  | some d => movePiece s r d false []
  | none => s

/-- The bytes that a descriptor moves next: inline, or what the host answers to the read (spec 08 R308, R314). -/
def sourceBytes (s : State) (d : Desc) (off n : Nat) (res : HostRead) : List Byte ⊕ Status :=
  if dInline d then .inl (sliceBytes d.bytes (32 + off) n)
  else if !linkUp s then .inr .linkDown
  else match res with
    | .ok bs => .inl (sliceBytes bs 0 n)
    | .fail e => .inr (hostFailStatus e)

/-- The host read that fetches them, with its outcome: `n` bytes at HADDR + `off` (spec 08 R286, R312, R314). -/
def askSource (s : State) (r : Nat) (d : Desc) (off n : Nat) (res : HostRead) : State :=
  if dInline d then s
  else
    let s := dataAsk s r (dHaddr d + off) n
    match linkUp s, res with
    | true, .fail e => hostFails s e
    | _, _ => s

/-- MEM_WRITE: the next piece is read from the host and sent (spec 08 R314). -/
def opMemWrite (r : Fin 4096) (id : Nat) (res : HostRead) (s : State) : State :=
  match runDesc s r id 0x04 with
  | none => s
  | some d =>
    if pieceOff d d.next < dLen d ∧ d.fail.isNone then
      let s := askSource s r d (pieceOff d d.next) (pieceLen d d.next) res
      match sourceBytes s d (pieceOff d d.next) (pieceLen d d.next) res with
      | .inl bs => movePiece s r d true bs
      | .inr st => moveFinish (modDesc s r id (fun e => noteFail e (pieceOff d d.next) st)) r id
    else moveFinish s r id

/-- STREAM_IN ends once nothing is outstanding and it has failed or moved everything (spec 08 R312). -/
def streamInFinish (s : State) (r id : Nat) : State :=
  match liveDesc s r id with
  | none => s
  | some d =>
    if d.busy ≠ 0 then s
    else match d.fail with
      | some (_, st) => descDone s r id st d.done 0
      | none => if d.done = dLen d then descDone s r id .ok d.done 0 else s

/-- The unused grants that the ring engine holds for a queue page, and their change (spec 08 R312). -/
def getGrant (s : State) (page : Nat) : Nat := smGet 0 s.host.grants page
def setGrant (s : State) (page n : Nat) : State := { s with host := { s.host with grants := smSet 0 s.host.grants page n } }

/-- STREAM_IN: a push within the grants held, or a credit request; at most one of each is outstanding (spec 08 R311, R312). The
bits of `busy` are 1 the credit request and 2 the push. -/
def opStreamIn (r : Fin 4096) (id : Nat) (res : HostRead) (s : State) : State :=
  match runDesc s r id 0x01 with
  | none => s
  | some d =>
    if d.fail.isSome then streamInFinish s r id
    else
      let left := dLen d - d.next
      let g := getGrant s (dTarget d)
      if 0 < left ∧ 0 < g ∧ d.busy < 2 then
        let last := dRecEnd d && decide (left ≤ 64 ∧ (left + 3) / 4 ≤ g)
        let n := if last then left else min (min 64 (4 * g)) (left / 4 * 4)
        let s := askSource s r d d.next n res
        match sourceBytes s d d.next n res with
        | .inr st => streamInFinish (modDesc s r id (fun d => noteFail d d.next st)) r id
        | .inl bs =>
          match descSend s r d 2 false (dAddr d + (if last then 0x80 else 0)) true n bs with
          | .sent s => setGrant (modDesc s r id (fun d => { d with next := d.next + n, busy := d.busy + 2 })) (dTarget d) (g - (n + 3) / 4)
          | .done st => streamInFinish (modDesc s r id (fun d => noteFail d d.next st)) r id
          | .wait => s
      else if 0 < left ∧ g = 0 ∧ d.busy % 2 = 0 then
        match descSend s r d 1 false (dAddr d + 0x40) false 8 [] with
        | .sent s => modDesc s r id (fun d => { d with busy := d.busy + 1 })
        | .done st => streamInFinish (modDesc s r id (fun d => noteFail d d.next st)) r id
        | .wait => s
      else s

/-- STREAM_OUT: the next pop, for the whole words that fit in the rest of the buffer (spec 08 R311, R313). -/
def opStreamOut (r : Fin 4096) (id : Nat) (s : State) : State :=
  match runDesc s r id 0x02 with
  | none => s
  | some d =>
    if d.busy ≠ 0 ∨ popOut s (dDev d) (dAddr d) then s
    else
      match descSend s r d 0 false (dAddr d) false (min 64 ((dLen d - d.done) / 4 * 4)) [] with
      | .sent s => modDesc s r id (fun d => { d with busy := 1 })
      | .done st => descDone s r id st d.done 0
      | .wait => s

/-! ### Train commands and frames -/

/-- A command of the ring engine waits at the root (spec 05 R172). -/
def pushCmd (s : State) (c : TreeCmd) : State := { s with tree := { s.tree with fromRing := s.tree.fromRing ++ [c] } }

/-- A descriptor hands its command to the root, once. -/
def issueCmd (s : State) (r : Nat) (d : Desc) : State :=
  if d.stage ≠ 0 then s else pushCmd (modDesc s r d.id (fun d => { d with stage := 1 })) (dCmd s r d)

/-- SWITCH_DESCRIPTOR (spec 08 R316). -/
def opSwitchDescriptor (r : Fin 4096) (id : Nat) (s : State) : State :=
  match runDesc s r id 0x06 with
  | some d => issueCmd s r d
  | none => s
/-- POWER_DESCRIPTOR (spec 08 R316). -/
def opPowerDescriptor (r : Fin 4096) (id : Nat) (s : State) : State :=
  match runDesc s r id 0x07 with
  | some d => issueCmd s r d
  | none => s

/-- Member `k` of a LOAD_CONTEXT train in ascending unit address: its device and tile (spec 08 R315). -/
def loadMember (s : State) (r : Nat) (d : Desc) (k : Nat) : BitVec 16 × Nat :=
  let c := dCmd s r d
  if dPl d < 16 then (BitVec.ofNat 16 ((expMembers s c).getD (k / 16384) 0), k % 16384)
  else (cmdDev c, cmdIx c / 2 ^ cmdK c * 2 ^ cmdK c + k)

/-- The end of a LOAD_CONTEXT of form 0 or 1 (spec 08 R315, R321; spec 12 R474): where a table of another device has refused, DENIED
with AUX 0. DEDUCED (assumption log 91). -/
def loadFinish (s : State) (r id : Nat) : State :=
  match liveDesc s r id with
  | none => s
  | some d =>
    if d.busy ≠ 0 ∨ d.next < loadCount s r d then s
    else match d.fail with
      | some (_, .denied) => descDone s r id .denied 0 0
      | f => descDone s r id (f.elim .ok Prod.snd) (32 * d.done) d.done

/-- One frame to member `k`: stored here by the loader after its checks, or sent to the member's device as a write of the frame
(spec 08 R315; spec 12 R472, R474; spec 10 R377). `false` where no landing slot is free. -/
def loadOne (s : State) (r id k : Nat) (c : Frame) : State × Bool :=
  match liveDesc s r id with
  | none => (s, false)
  | some d =>
    let m := loadMember s r d k
    let slot := dField d 24 1
    let took := fun (d : Desc) => { d with next := k + 1 }
    if m.1 = devId s then
      let st := frameWriteStatus s m.2 slot c
      if st = .ok then (engineStore (modDesc s r id (fun d => { took d with done := d.done + 1 })) m.2 slot c, true)
      else (modDesc s r id (fun d => noteFail (took d) k st), true)
    else
      match sendReq s (ringPort r) 0 256 (.desc r id k) (ringKey s r false) m.1 (0x40000000 + 4096 * m.2 + 32 * slot) true 32
          (frameBytes c) with
      | .sent s => (modDesc s r id (fun d => { took d with busy := d.busy + 1 }), true)
      | .done st => (modDesc s r id (fun d => noteFail (took d) k st), true)
      | .wait => (s, false)

/-- Frames to the members from `k` on, until one finds no landing slot. -/
def loadMany (r id : Nat) : List (Nat × Frame) → State → State
  | [], s => s
  | (k, c) :: rest, s =>
    let y := loadOne s r id k c
    if y.2 then loadMany r id rest y.1 else y.1

/-- The fields of this device that a LOAD_CONTEXT covers: none where the device is no member (spec 08 R315; spec 10 R378). -/
def loadFields (s : State) (c : TreeCmd) : List Nat :=
  if c.pl.toNat < 16 then (if (expMembers s c).contains (devId s).toNat then List.range 64 else [])
  else if cmdDev c = devId s then cmdFields c else []

/-- The first field table of this device that refuses the frames (spec 01 R31; spec 12 R474). -/
def loadRefusal (s : State) (r : Nat) (d : Desc) : Option (Nat × Nat) :=
  let c := dCmd s r d
  match decideAccess s c.key false ((loadFields s c).map (fun f => (f, pLOAD))) with
  | .refuse code table => some (code, table)
  | .grant => none

/-- LOAD_CONTEXT: a step takes the frames that the host read gives, for the members that follow; form 1 reads its frame once, form
2 is a tree command (spec 08 R314, R315; spec 12 R474). -/
def opLoadContext (r : Fin 4096) (id : Nat) (res : HostRead) (s : State) : State :=
  match runDesc s r id 0x05 with
  | none => s
  | some d =>
    let form := dField d 25 1
    if form = 2 then issueCmd s r d
    else match (if d.stage = 0 then loadRefusal s r d else none) with
    | some (code, table) => descDone (denyTrain s (dCmd s r d) code table) r id .denied 0 0
    | none =>
      let c := dCmd s r d
      let s := if d.stage = 0 then
          modDesc s r id (fun e => { e with stage := 1, tabled := loadFields s c != [] && !privileged s c.key false })
        else s
      let n := loadCount s r d
      if n ≤ d.next then loadFinish s r id
      else if form = 1 ∧ d.aux ≠ 0 then
        loadFinish (loadMany r id ((List.range (n - d.next)).map (fun j => (d.next + j, BitVec.ofNat 256 (d.aux - 1)))) s) r id
      else match sourceBytes s d 0 0 res with
        | .inr st => loadFinish (modDesc (askSource s r d (32 * d.next) 32 res) r id (fun e => noteFail { e with next := n } d.next st)) r id
        | .inl _ =>
          let bs := match res with | .ok bs => bs | .fail _ => []
          let got := min (bs.length / 32) (if form = 1 then 1 else n - d.next)
          let s := if got = 0 then s else askSource s r d (32 * d.next) (32 * got) res
          if got = 0 then s
          else if form = 1 then
            let c := frameOf (sliceBytes bs 0 32)
            let s := modDesc s r id (fun d => { d with aux := c.toNat + 1 })
            loadFinish (loadMany r id ((List.range n).map (fun j => (j, c))) s) r id
          else
            loadFinish (loadMany r id ((List.range got).map (fun j => (d.next + j, frameOf (sliceBytes bs (32 * j) 32)))) s) r id

/-! ### Mirrors and set-up registers -/

/-- The tables that a MIRROR_SET of value `v` needs (spec 08 R317): LOAD at the source's field and at every field of the holder
train. -/
def mirrorNeeds (s : State) (m : Nat) (v : Reg) : List (Nat × Nat) :=
  let s' := setR s (A.MIRROR_CFG m) v
  (tileField (mirSrc s' m) :: trainFields (getFld v F.MIRROR_CFG_HOLD_IDX) (min 14 (30 - getFld v F.MIRROR_CFG_HOLD_PL))).map (fun f => (f, pLOAD))

/-- MIRROR_SET (spec 08 R317): on this device at once; on another one as a set-up write. -/
def opMirrorSet (r : Fin 4096) (id : Nat) (s : State) : State :=
  match runDesc s r id 0x08 with
  | none => s
  | some d =>
    let m := dField d 24 1
    let v := BitVec.ofNat 64 (dField d 32 8)
    let off := A.MIRROR_CFG m
    if dDev d = devId s then
      match decideAccess s (ringKey s r false) false (mirrorNeeds s m v) with
      | .refuse code table =>
        descDone (denyWith s (ringKey s r false) false false (unitDev s) (0x80000000 + off) pLOAD table code) r id .denied 0 0
      | .grant =>
        let y := mirrorCfg s m v
        descDone y.1 r id (if y.2 then .badDescriptor else .ok) 0 0
    else if d.busy ≠ 0 then s
    else match descSend s r d 0 true (0x80000000 + off) true 8 (bytesLE 8 v.toNat) with
      | .sent s => modDesc s r id (fun d => { d with busy := 1 })
      | .done st => descDone s r id st 0 0
      | .wait => s

/-- REG_READ and REG_WRITE: their one request (spec 08 R318; spec 10 R383). -/
def regAsk (s : State) (r : Nat) (d : Desc) (write : Bool) : State :=
  if d.busy ≠ 0 then s
  else match descSend s r d 0 true (dAddr d) write (if write then 16 else 8) (if write then sliceBytes d.bytes 32 16 else []) with
    | .sent s => modDesc s r d.id (fun d => { d with busy := 1 })
    | .done st => descDone s r d.id st 0 0
    | .wait => s
/-- REG_READ (spec 08 R318). -/
def opRegRead (r : Fin 4096) (id : Nat) (s : State) : State :=
  match runDesc s r id 0x09 with | some d => regAsk s r d false | none => s
/-- REG_WRITE (spec 08 R318). -/
def opRegWrite (r : Fin 4096) (id : Nat) (s : State) : State :=
  match runDesc s r id 0x0A with | some d => regAsk s r d true | none => s

/-! ### Events and notifications -/

/-- The tile control offset of QSTATE of a queue page's queue; QCTL lies 8 above (spec 06 R229). -/
def qStateAddr (a : Nat) : Nat := a / 4096 * 4096 + 0x840 + 16 * ((a % 4096 - 0xC00) / 0x100)

/-- The registered waits of the ring engine (spec 08 R319). -/
def waitCount (s : State) : Nat :=
  (s.host.rings.map (fun x => (x.2.descs.filter (fun d => isWait d && d.started && !d.finished)).length)).foldl (· + ·) 0

/-- EVENT_WAIT (spec 08 R319): its stages are 1 registered, 2 QCTL asked for, 3 QCTL to be written (its value in `aux`), 4 the write
under way, 5 QSTATE to be read, 6 the read under way, 7 waiting. -/
def opEventWait (r : Fin 4096) (id : Nat) (s : State) : State :=
  match runDesc s r id 0x0B with
  | none => s
  | some d =>
    let go := fun (s : State) (k : Nat) (off : Nat) (write : Bool) (data : List Byte) =>
      match descSend s r d k false (qStateAddr (dAddr d) + off) write 8 data with
      | .sent s => modDesc s r id (fun d => { d with stage := d.stage + 1 })
      | .done st => descDone s r id st 0 0
      | .wait => s
    if d.stage = 0 then (if waitCount s < 256 then modDesc s r id (fun d => { d with stage := 1 }) else s)
    else if d.stage = 1 then go s 1 8 false []
    else if d.stage = 3 then go s 2 8 true (bytesLE 8 (Nat.lor d.aux 256))
    else if d.stage = 5 then go s 3 0 false []
    else s

/-- The engine clears LEVEL_HIT of a queue: a write of QSTATE whose response nobody awaits (spec 08 R319; spec 06 R234). Without a
landing slot it is owed. -/
def sendClear (s : State) (r : Nat) (dev : BitVec 16) (addr : Nat) : State :=
  match sendReq s (ringPort r) 0 256 (.desc r (2 ^ 40) 0) (ringKey s r false) dev addr true 8 (bytesLE 8 (2 ^ 39)) with
  | .sent s => s
  | .done _ => s
  | .wait => { s with host := { s.host with hits := s.host.hits ++ [(r, dev, addr)] } }
def clearHit (s : State) (r : Nat) (d : Desc) : State := sendClear s r (dDev d) (qStateAddr (dAddr d))

/-- What the engine owes is sent as landing slots become free. -/
def payHits (s : State) : State :=
  s.host.hits.foldl (fun s h => sendClear s h.1 h.2.1 h.2.2) { s with host := { s.host with hits := [] } }

/-- A wait completes (spec 08 R319). -/
def waitHit (s : State) (r : Nat) (d : Desc) (depth : Nat) : State := clearHit (descDone s r d.id .ok 0 depth) r d

/-- EVENT_WAIT_MATCH: a queue-level event reaches the ring engine (spec 08 R319; spec 06 R216). -/
def opEventWaitMatch (t : TileIx) (q : Fin 4) (s : State) : State :=
  match s.levelEvents.find? (fun e => e.1 == t.val && e.2.1 == q.val) with
  | none => s
  | some e =>
    let s := { s with levelEvents := s.levelEvents.erase e }
    let page := (devId s).toNat * 2 ^ 48 + 0x40000000 + 4096 * t.val + 0xC00 + 0x100 * q.val
    (s.host.rings.flatMap (fun x => (x.2.descs.filter (fun d => isWait d && d.started && !d.finished && dTarget d == page)).map
      (fun d => (x.1, d)))).foldl (fun s y => waitHit s y.1 y.2 e.2.2) s

/-- EVENT_WAIT_TIMEOUT (spec 08 R319). -/
def opEventWaitTimeout (r : Fin 4096) (id : Nat) (s : State) : State :=
  match runDesc s r id 0x0B with
  | some d => if isWait d && !dZero d 24 4 then descDone s r id .timeout 0 0 else s
  | none => s

/-- The binding of a queue page, by number. -/
def findBind (s : State) (d : Desc) : Option Nat :=
  s.host.binds.findSome? (fun x => match x.2 with
    | some b => if b.dev = dDev d ∧ b.addr = dAddr d then some x.1 else none
    | none => none)
def setBind (s : State) (b : Nat) (x : Option Bind) : State := { s with host := { s.host with binds := smSet none s.host.binds b x } }

/-- A binding ends; the response of its pop will be discarded (spec 08 R320). -/
def unbind (s : State) (b : Nat) : State :=
  match smGet none s.host.binds b with
  | some x => setBind (orphan s x.ring (fun o => o == .notify b) true) b none
  | none => s

/-- NOTIFY (spec 08 R320). A bind waits while all 256 bindings are in use. -/
def opNotifyDesc (r : Fin 4096) (id : Nat) (s : State) : State :=
  match runDesc s r id 0x0C with
  | none => s
  | some d =>
    if dField d 24 1 = 1 then
      descDone (match findBind s d with | some b => unbind s b | none => s) r id .ok 0 0
    else if (findBind s d).isSome then descDone s r id .badDescriptor 0 0
    else match (List.range 256).find? (fun b => (smGet none s.host.binds b).isNone) with
      | some b => descDone (setBind s b (some { dev := dDev d, addr := dAddr d, ring := r.val })) r id .ok 0 0
      | none => s

/-- NOTIFY_RECORD: the ring engine pops what is missing of the next record of a binding, while its completion ring has room for the
record (spec 08 R320, R323). -/
def opNotifyRecord (b : Fin 256) (s : State) : State :=
  match smGet none s.host.binds b with
  | none => s
  | some x =>
    let y := getRing s x.ring
    if x.busy ∨ queuePending s x.dev x.addr ∨ popOut s x.dev x.addr ∨ ringState s x.ring ≠ 1
        ∨ 2 ^ cqLog s x.ring ≤ (y.cqProd - y.cqCons).toNat + y.out.length then s
    else match sendReq s (ringPort x.ring) 0 256 (.notify b) (ringKey s x.ring false) x.dev x.addr false (4 * (4 - x.words.length)) [] with
      | .sent s => setBind s b (some { x with busy := true })
      | .done _ => s
      | .wait => s

/-- The response to a binding's pop (spec 08 R320, R323). -/
def notifyResp (s : State) (b : Nat) (st : Status) (data : List Byte) : State :=
  match smGet none s.host.binds b with
  | none => s
  | some x =>
    if st = .domainDown then setBind s b none
    else
      let ws := (List.range (data.length / 4)).map (fun j => BitVec.ofNat 32 (leAt data (4 * j) 4))
      let x := { x with busy := false, words := x.words ++ ws, bad := x.bad || st == .eccUncorrected }
      if x.words.length < 4 then setBind s b (some x)
      else
        let c : Comp := ⟨none, BitVec.ofNat 16 (x.words.getD 0 0).toNat, if x.bad then .eccUncorrected else .ok, 0, 0,
          (x.words.drop 1).take 3, true⟩
        let s := setBind s b (some { x with words := [], bad := false })
        setRing s x.ring { getRing s x.ring with out := (getRing s x.ring).out ++ [c] }

/-- NOP (spec 08 R309). -/
def opNopDesc (r : Fin 4096) (id : Nat) (s : State) : State :=
  match runDesc s r id 0x00 with | some _ => descDone s r id .ok 0 0 | none => s

/-- FENCE: every earlier descriptor of the ring has completed (spec 08 R309, R325). -/
def opFenceDesc (r : Fin 4096) (id : Nat) (s : State) : State :=
  match runDesc s r id 0x0D with
  | some _ => if ((getRing s r).descs.head?.map (fun e => e.id == id)).getD false then descDone s r id .ok 0 0 else s
  | none => s

/-! ### Responses -/

/-- A response to a descriptor's request (spec 08 R299, R312 to R315, R317 to R319): `len` is the request's length, `endTag` the code
of the end tag that closed a pop. DEDUCED (assumption log 91). -/
def descResp (s : State) (r id k : Nat) (st : Status) (data : List Byte) (len endTag : Nat) : State :=
  match liveDesc s r id with
  | none =>
    -- a response to a request that its descriptor no longer awaits
    if id = 2 ^ 41 ∧ data ≠ [] then wr s (A.RING_STATUS r) F.RING_STATUS_LOST_POP 1 else s
  | some d =>
    let op := dOp d
    let less := fun (s : State) (n : Nat) => modDesc s r id (fun d => { d with busy := d.busy - n })
    if op = 0x01 then
      if k = 1 then
        let s := less s 1
        if st = .ok then setGrant s (dTarget d) (getGrant s (dTarget d) + leAt data 0 8 % 32)
        else streamInFinish (modDesc s r id (fun d => noteFail d d.next st)) r id
      else
        let s := less s 2
        if st = .ok then streamInFinish (modDesc s r id (fun d => { d with done := d.done + len })) r id
        else streamInFinish (setGrant (modDesc s r id (fun d => noteFail d d.done st)) (dTarget d) 0) r id
    else if op = 0x02 then
      let s := less s 1
      if st = .ok then
        let y := dataWrite s r (dHaddr d + d.done) data
        if y.2 ≠ .ok then descDone (wr y.1 (A.RING_STATUS r) F.RING_STATUS_LOST_POP 1) r id y.2 d.done 0
        else
          let n := d.done + data.length
          let s := modDesc y.1 r id (fun d => { d with done := n })
          if endTag ≠ 0 then descDone s r id .ok n (1 + 2 * endTag)
          else if dLen d < n + 4 then descDone s r id .partialEnd n 0
          else s
      else descDone s r id st d.done 0
    else if op = 0x03 ∨ op = 0x04 then
      let s := less s 1
      let y := if st = .ok ∧ op = 0x03 then dataWrite s r (dHaddr d + pieceOff d k) data else (s, st)
      let s := if y.2 = .ok then modDesc y.1 r id (fun d => { d with done := d.done + len })
        else modDesc y.1 r id (fun d => noteFail d (pieceOff d k) y.2)
      moveFinish s r id
    else if op = 0x05 ∧ dField d 25 1 = 2 then descDone s r id st 0 0
    else if op = 0x05 then
      let s := less s 1
      loadFinish (if st = .ok then modDesc s r id (fun d => { d with done := d.done + 1 })
        else if st = .denied then modDesc s r id (fun d => { d with fail := some (0, .denied), next := loadCount s r d })
        else modDesc s r id (fun d => noteFail d k st)) r id
    else if op = 0x09 then
      let y := if st = .ok then dataWrite s r (dHaddr d) data else (s, st)
      descDone y.1 r id y.2 (if y.2 = .ok then 8 else 0) 0
    else if op = 0x0B then
      if st ≠ .ok then descDone s r id st 0 0
      else if k = 3 ∧ bit (leAt data 0 8) 39 then waitHit s r d (leAt data 0 2)
      else modDesc s r id (fun d => { d with stage := d.stage + 1, aux := if k = 1 then leAt data 0 8 else d.aux })
    else descDone s r id st (if op = 0x0A ∧ st = .ok then 8 else 0) (if op = 0x06 ∧ st = .ok then leAt data 0 1 % 16 else 0)

/-! ### The meanings of the commands of this file -/

/-- DESCRIPTOR_START (spec 08 R324). -/
def execDescriptorStart (s : State) : Host.Outcome State Fault Refusal := .next (engine opDescriptorStart s)
/-- NOP (spec 08 R309). -/
def execNopDesc (r : Fin 4096) (id : Nat) (s : State) : Host.Outcome State Fault Refusal := .next (engine (opNopDesc r id) s)
/-- STREAM_IN (spec 08 R312). -/
def execStreamIn (r : Fin 4096) (id : Nat) (res : HostRead) (s : State) : Host.Outcome State Fault Refusal :=
  .next (engine (opStreamIn r id res) s)
/-- STREAM_OUT (spec 08 R313). -/
def execStreamOut (r : Fin 4096) (id : Nat) (s : State) : Host.Outcome State Fault Refusal := .next (engine (opStreamOut r id) s)
/-- MEM_READ (spec 08 R314). -/
def execMemRead (r : Fin 4096) (id : Nat) (s : State) : Host.Outcome State Fault Refusal := .next (engine (opMemRead r id) s)
/-- MEM_WRITE (spec 08 R314). -/
def execMemWrite (r : Fin 4096) (id : Nat) (res : HostRead) (s : State) : Host.Outcome State Fault Refusal :=
  .next (engine (opMemWrite r id res) s)
/-- LOAD_CONTEXT (spec 08 R315). -/
def execLoadContext (r : Fin 4096) (id : Nat) (res : HostRead) (s : State) : Host.Outcome State Fault Refusal :=
  .next (engine (opLoadContext r id res) s)
/-- SWITCH_DESCRIPTOR (spec 08 R316). -/
def execSwitchDescriptor (r : Fin 4096) (id : Nat) (s : State) : Host.Outcome State Fault Refusal :=
  .next (engine (opSwitchDescriptor r id) s)
/-- POWER_DESCRIPTOR (spec 08 R316). -/
def execPowerDescriptor (r : Fin 4096) (id : Nat) (s : State) : Host.Outcome State Fault Refusal :=
  .next (engine (opPowerDescriptor r id) s)
/-- MIRROR_SET (spec 08 R317). -/
def execMirrorSet (r : Fin 4096) (id : Nat) (s : State) : Host.Outcome State Fault Refusal := .next (engine (opMirrorSet r id) s)
/-- REG_READ (spec 08 R318). -/
def execRegRead (r : Fin 4096) (id : Nat) (s : State) : Host.Outcome State Fault Refusal := .next (engine (opRegRead r id) s)
/-- REG_WRITE (spec 08 R318). -/
def execRegWrite (r : Fin 4096) (id : Nat) (s : State) : Host.Outcome State Fault Refusal := .next (engine (opRegWrite r id) s)
/-- EVENT_WAIT (spec 08 R319). -/
def execEventWait (r : Fin 4096) (id : Nat) (s : State) : Host.Outcome State Fault Refusal := .next (engine (opEventWait r id) s)
/-- EVENT_WAIT_MATCH (spec 08 R319). DEDUCED (assumption log 34). -/
def execEventWaitMatch (t : TileIx) (q : Fin 4) (s : State) : Host.Outcome State Fault Refusal := .next (engine (opEventWaitMatch t q) s)
/-- EVENT_WAIT_TIMEOUT (spec 08 R319). -/
def execEventWaitTimeout (r : Fin 4096) (id : Nat) (s : State) : Host.Outcome State Fault Refusal :=
  .next (engine (opEventWaitTimeout r id) s)
/-- NOTIFY (spec 08 R320). -/
def execNotifyDesc (r : Fin 4096) (id : Nat) (s : State) : Host.Outcome State Fault Refusal := .next (engine (opNotifyDesc r id) s)
/-- NOTIFY_RECORD (spec 08 R323). -/
def execNotifyRecord (b : Fin 256) (s : State) : Host.Outcome State Fault Refusal := .next (engine (opNotifyRecord b) s)
/-- FENCE (spec 08 R325). -/
def execFenceDesc (r : Fin 4096) (id : Nat) (s : State) : Host.Outcome State Fault Refusal := .next (engine (opFenceDesc r id) s)

end Sys2Proof.Machine
end

