-- ==== Sys2Proof/Machine/HostIf.lean ====
section
/-! DEFINITION. The host interface: function maps, host windows, virtual functions, function resets and the PCIe link (spec 08
R286, R290, R292 to R294, R328 to R331). -/

namespace Sys2Proof.Machine

/-! ### Function maps -/

/-- The rings that are not OFF. -/
def ringsOn (s : State) : List Nat := (s.host.rings.map Prod.fst).filter (fun r => decide (r < 4096) && ringState s r != 0)

/-- Whether two enabled maps overlap (spec 08 R290). -/
def mapsOverlap (s : State) (v : Nat) : Bool :=
  let a := mapRange s v
  (List.range 64).any (fun w => w != v &&
    (let b := mapRange s w; decide (0 < a.2 ∧ 0 < b.2 ∧ a.1 < b.1 + b.2 ∧ b.1 < a.1 + a.2)))

/-- A write of HIF_FUNC_MAP[v] (spec 08 R290): discarded with MAP_REFUSED when maps would overlap, or a ring that is not OFF would
move. -/
def writeFuncMap (s : State) (v : Nat) (val : Reg) : State :=
  let a := A.HIF_FUNC_MAP v
  let t := setR s a (writeFlds true L.HIF_FUNC_MAP (getR s a) val)
  if mapsOverlap t v || (ringsOn s).any (fun r => ringFn s r != ringFn t r) then wr s A.HIF_STATUS F.HIF_STATUS_MAP_REFUSED 1 else t

/-- HIF_FUNC_MAP_WRITE (spec 08 R290). -/
def opHifFuncMapWrite (v : Fin 64) (val : Reg) (s : State) : State := writeFuncMap s v val

/-! ### Host windows -/

/-- A write of WIN_CTL of window `w` (spec 08 R331): one that sets EN with a bad size, base or function is refused.
DEDUCED (assumption log 35). -/
def writeWinCtl (s : State) (w : Nat) (v : Reg) : State :=
  let n := getFld v F.WIN_CTL_SIZE_LOG2
  let base := rd s (A.WIN_BASE w) F.WIN_BASE_ADDR * 4096
  if getFld v F.WIN_CTL_EN = 1 ∧ (n < 12 ∨ 43 < n ∨ base % 2 ^ n ≠ 0 ∨ vfCount s < getFld v F.WIN_CTL_FUNC) then s
  else setR s (A.WIN_CTL w) (writeFlds true L.WIN_CTL (getR s (A.WIN_CTL w)) v)

/-- WINDOW_ENABLE_WRITE (spec 08 R331). -/
def opWindowEnableWrite (w : Fin 16) (v : Reg) (s : State) : State := writeWinCtl s w v

/-- A window access failed at the host (spec 08 R293). -/
def winFail (s : State) (w o : Nat) : State :=
  report (bump s (A.WIN_ERR (w % 16)) F.WIN_ERR_COUNT 1) 201 (unitDev s) 0x530 (detail [(w, 1), (o, 6)])

/-- Whether an older write of the same requester through the same window still waits in an ingress of the ring engine (spec 08
R294). -/
def olderWrite (s : State) (w : Nat) (g : Ingress) : Bool :=
  s.eps.any (fun x => x.2.ingress.any (fun y => match y.2 with
    | some h => reqWrite h.req && decide (h.seq < g.seq) && reqKey h.req == reqKey g.req
        && (match windowOf h.req.addr.toNat with | some (v, _) => v == w | none => false)
    | none => false))

/-- HOST_WINDOW_ACCESS (spec 08 R292 to R294): a write goes out posted, in the order of its requester's writes through the window; a
read is sent and waits for HOST_COMPLETION, as one of at most 1,024 (R286). DEDUCED (assumption log 58). -/
def opHostWindowAccess (ep : Fin 2048) (n : Fin 32) (s : State) : State :=
  match getIn s ep n with
  | none => s
  | some g =>
    match windowOf g.req.addr.toNat with
    | some (w, o) =>
      let len := reqLen g.req
      let c := A.WIN_CTL w
      let base := rd s (A.WIN_BASE w) F.WIN_BASE_ADDR * 4096
      let host := base + o
      if !g.checked ∨ g.held ∨ (reqWrite g.req ∧ g.wdata.isNone) then s
      else if 2 ^ rd s c F.WIN_CTL_SIZE_LOG2 ≤ o ∨ !rdB s c F.WIN_CTL_EN ∨ 4096 < host % 4096 + len then answer s ep n .badAddress []
      else if !linkUp s then answer (winFail s w o) ep n .linkDown []
      else if reqWrite g.req then
        if olderWrite s w g then s
        else
          let y := hostWrite s (rd s c F.WIN_CTL_FUNC) host ((g.wdata.getD []).take len) (rdB s c F.WIN_CTL_NO_SNOOP) (rdB s c F.WIN_CTL_RELAXED)
          -- sent, so finished for a seal point (spec 09 R344)
          answer (setIn y.1 ep n (some { g with req := { g.req with tabled := false, sealed := false } })) ep n .ok []
      else if 1024 ≤ (s.host.reads.filter (fun x => x.2.isSome)).length then s
      else
        let k := s.host.nextRead
        let s := hostAsk s (rd s c F.WIN_CTL_FUNC) host len false
        let s := { s with host := { s.host with reads := smSet none s.host.reads k (some ⟨ep.val, n.val, w, o⟩), nextRead := k + 1 } }
        setIn s ep n (some { g with held := true })
    | none => s

/-- A pending window read ends (spec 08 R293). -/
def endRead (s : State) (id : Nat) (st : Status) (bs : List Byte) : State :=
  match smGet none s.host.reads id with
  | none => s
  | some ⟨ep, n, w, o⟩ =>
    let s := { s with host := { s.host with reads := smSet none s.host.reads id none } }
    match getIn s ep n with
    | none => s
    | some g =>
      if st = .ok then answer s ep n .ok (sliceBytes bs 0 (reqLen g.req)) else answer (winFail s w o) ep n st []

/-- HOST_COMPLETION (spec 08 R293). -/
def opHostCompletion (id : Nat) (res : HostRead) (s : State) : State :=
  match res with
  | .ok bs => endRead s id .ok bs
  | .fail e => if (smGet none s.host.reads id).isSome then endRead (hostFails s e) id (hostFailStatus e) [] else s

/-! ### Function resets and the link -/

/-- A ring goes to OFF with nothing written to the host (spec 08 R328). DEDUCED (assumption log 62). -/
def killRing (s : State) (r : Nat) (st : Status) : State :=
  let s := setRingState (setRing (dropAll s r) r { getRing (dropAll s r) r with restart := false }) r 0
  wr s (A.RING_STATUS r) F.RING_STATUS_ERR (statusCode st)

/-- Every ring that is not OFF and belongs to the functions named. -/
def killRings (s : State) (fns : Nat → Bool) (st : Status) : State :=
  ((ringsOn s).filter (fun r => fns (ringFn s r))).foldl (fun s r => killRing s r st) s

/-- What a function-level reset does to the functions named: their rings, their MSI-X tables, which PCI Express masks, and their
attribute enables; FLR_BUSY reads 1 until the next tick of device time (spec 08 R286, R328). PRESUMED (assumption log 62). -/
def resetFns (s : State) (fns : Nat → Bool) : State :=
  let s := killRings s fns .aborted
  let keep := fun (k : Nat) => !fns (k / 2048)
  let m := s.msix
  let s := { s with
    msix := { m with table := m.table.filter (fun x => keep x.1), pend := m.pend.filter (fun x => keep x.1)
                     mask := m.mask.filter (fun x => keep x.1), pba := m.pba.filter (fun x => keep x.1) }
    host := { s.host with noSnoopOff := s.host.noSnoopOff.filter (fun f => !fns f)
                          relaxedOff := s.host.relaxedOff.filter (fun f => !fns f) } }
  report (wr s A.HIF_STATUS F.HIF_STATUS_FLR_BUSY 1) 201 (unitDev s) 0x520 []

/-- FLR_VF (spec 08 R328). -/
def opFlrVf (v : Fin 64) (s : State) : State := if vfCount s ≤ v.val then s else resetFns s (fun fn => fn == v.val + 1)

/-- FLR_PF (spec 08 R328): virtual functions are disabled; HIF_FUNC_MAP keeps its value. DEDUCED (assumption log 62). -/
def opFlrPf (s : State) : State :=
  let s := resetFns s (fun _ => true)
  wr { s with host := { s.host with pcie := {} } } A.HIF_STATUS F.HIF_STATUS_VFS 0

/-- Every pending window read ends with a status. -/
def endReads (s : State) (st : Status) : State := (s.host.reads.map Prod.fst).foldl (fun s id => endRead s id st []) s

/-- The link fields of HIF_STATUS while the link is down (spec 08 R330). -/
def linkFields (s : State) : State :=
  [F.HIF_STATUS_LINK_UP, F.HIF_STATUS_ANCHOR, F.HIF_STATUS_RATE, F.HIF_STATUS_WIDTH, F.HIF_STATUS_FLIT].foldl
    (fun s f => wr s A.HIF_STATUS f 0) s

/-- LINK_DOWN (spec 08 R328). -/
def opLinkDown (s : State) : State :=
  if !linkUp s then s
  else report (linkFields (endReads (killRings s (fun _ => true) .linkDown) .linkDown)) 201 (unitDev s) 0x501 []

/-- PCIE_LINK_UP (spec 08 R286, R330; spec 15 R558): `rate` 1 to 6, `width` lanes; at 64 GT/s the link is in Flit mode; with the link
the host has configured the functions. The host interface answers after the defaults have been applied (spec 14 R544).
DEDUCED (assumption log 62). DESIGN CHOICE (assumption log 90). -/
def opPcieLinkUp (rate : Fin 7) (width : Fin 32) (terms : LinkTerms) (s : State) : State :=
  if rate.val = 0 ∨ !([1, 2, 4, 8, 16].contains width.val) ∨ s.host.perst ∨ s.defaultsDue then s
  else
    let a := A.HIF_STATUS
    let flit := terms.flit
    let s := { s with host := { s.host with pcie := terms.cfg, noSnoopOff := terms.noSnoopOff, relaxedOff := terms.relaxedOff } }
    wr (wr (wr (wr (wr s a F.HIF_STATUS_RATE rate.val) a F.HIF_STATUS_WIDTH width.val) a F.HIF_STATUS_FLIT (b2n (flit || rate.val == 6)))
      a F.HIF_STATUS_LINK_UP 1) a F.HIF_STATUS_ANCHOR (b2n s.straps.anchor)

/-- VF_ENABLE: the host enables `n` virtual functions, 0 for none (spec 08 R286, R330); the rings of those it disables go to OFF. -/
def opVfEnable (n : Fin 65) (s : State) : State :=
  if !linkUp s then s
  else wr (killRings s (fun fn => decide (n.val < fn)) .aborted) A.HIF_STATUS F.HIF_STATUS_VFS n.val

/-! ### The meanings of the commands of this file -/

/-- HIF_FUNC_MAP_WRITE (spec 08 R290). -/
def execHifFuncMapWrite (v : Fin 64) (value : Reg) (s : State) : Host.Outcome State Fault Refusal :=
  .next (hostAccess (opHifFuncMapWrite v value) s)
/-- HOST_WINDOW_ACCESS (spec 08 R292). -/
def execHostWindowAccess (ep : Fin 2048) (n : Fin 32) (s : State) : Host.Outcome State Fault Refusal :=
  .next (engine (opHostWindowAccess ep n) s)
/-- WINDOW_ENABLE_WRITE (spec 08 R331). -/
def execWindowEnableWrite (w : Fin 16) (value : Reg) (s : State) : Host.Outcome State Fault Refusal :=
  .next (hostAccess (opWindowEnableWrite w value) s)
/-- FLR_VF (spec 08 R328). -/
def execFlrVf (v : Fin 64) (s : State) : Host.Outcome State Fault Refusal := .next (engine (opFlrVf v) s)
/-- FLR_PF (spec 08 R328). -/
def execFlrPf (s : State) : Host.Outcome State Fault Refusal := .next (engine opFlrPf s)
/-- LINK_DOWN (spec 08 R328). -/
def execLinkDown (s : State) : Host.Outcome State Fault Refusal := .next (engine opLinkDown s)
/-- PCIE_LINK_UP (spec 08 R330). -/
def execPcieLinkUp (rate : Fin 7) (width : Fin 32) (terms : LinkTerms) (s : State) : Host.Outcome State Fault Refusal :=
  .next (engine (opPcieLinkUp rate width terms) s)
/-- HOST_COMPLETION (spec 08 R293). -/
def execHostCompletion (id : Nat) (res : HostRead) (s : State) : Host.Outcome State Fault Refusal := .next (engine (opHostCompletion id res) s)
/-- VF_ENABLE (spec 08 R286). -/
def execVfEnable (n : Fin 65) (s : State) : Host.Outcome State Fault Refusal := .next (engine (opVfEnable n) s)

end Sys2Proof.Machine
end

