-- ==== Sys2Proof/Machine/Crypto.lean ====
section
/-! DEFINITION. The cryptographic functions that the spec names by their standards (spec 12 R443 to R455; spec 14 R535):
SHA-256 and SHA-384 (FIPS 180-4), HMAC-SHA-256 (FIPS 198-1), AES-256 (FIPS 197) in GCM (NIST SP 800-38D), ECDSA over P-384
(FIPS 186, SEC 1). PRESUMED: written from the standards, which the spec cites and does not repeat (assumption log 4). -/

namespace Sys2Proof.Machine

/-- The number that bytes spell, the most significant first (spec 12 R444). -/
def beNat (bs : List Byte) : Nat := bs.foldl (fun a b => 256 * a + b.toNat) 0
/-- `n` bytes of a number, the most significant first. -/
def beBytes (n v : Nat) : List Byte := (bytesLE n v).reverse

/-- `f n`, with `n` worked out first. -/
def afterNat {α : Type} (n : Nat) (f : Nat → α) : α :=
  match n with
  | 0 => f 0
  | k + 1 => f (k + 1)

/-! ### SHA-2 -/

/-- The round constants of SHA-256. -/
def shaK256 : List Nat :=
  [0x428a2f98, 0x71374491, 0xb5c0fbcf, 0xe9b5dba5, 0x3956c25b, 0x59f111f1, 0x923f82a4, 0xab1c5ed5]
    ++ [0xd807aa98, 0x12835b01, 0x243185be, 0x550c7dc3, 0x72be5d74, 0x80deb1fe, 0x9bdc06a7, 0xc19bf174]
    ++ [0xe49b69c1, 0xefbe4786, 0x0fc19dc6, 0x240ca1cc, 0x2de92c6f, 0x4a7484aa, 0x5cb0a9dc, 0x76f988da]
    ++ [0x983e5152, 0xa831c66d, 0xb00327c8, 0xbf597fc7, 0xc6e00bf3, 0xd5a79147, 0x06ca6351, 0x14292967]
    ++ [0x27b70a85, 0x2e1b2138, 0x4d2c6dfc, 0x53380d13, 0x650a7354, 0x766a0abb, 0x81c2c92e, 0x92722c85]
    ++ [0xa2bfe8a1, 0xa81a664b, 0xc24b8b70, 0xc76c51a3, 0xd192e819, 0xd6990624, 0xf40e3585, 0x106aa070]
    ++ [0x19a4c116, 0x1e376c08, 0x2748774c, 0x34b0bcb5, 0x391c0cb3, 0x4ed8aa4a, 0x5b9cca4f, 0x682e6ff3]
    ++ [0x748f82ee, 0x78a5636f, 0x84c87814, 0x8cc70208, 0x90befffa, 0xa4506ceb, 0xbef9a3f7, 0xc67178f2]

/-- The round constants of SHA-512 and SHA-384. -/
def shaK512 : List Nat :=
  [0x428a2f98d728ae22, 0x7137449123ef65cd, 0xb5c0fbcfec4d3b2f, 0xe9b5dba58189dbbc]
    ++ [0x3956c25bf348b538, 0x59f111f1b605d019, 0x923f82a4af194f9b, 0xab1c5ed5da6d8118]
    ++ [0xd807aa98a3030242, 0x12835b0145706fbe, 0x243185be4ee4b28c, 0x550c7dc3d5ffb4e2]
    ++ [0x72be5d74f27b896f, 0x80deb1fe3b1696b1, 0x9bdc06a725c71235, 0xc19bf174cf692694]
    ++ [0xe49b69c19ef14ad2, 0xefbe4786384f25e3, 0x0fc19dc68b8cd5b5, 0x240ca1cc77ac9c65]
    ++ [0x2de92c6f592b0275, 0x4a7484aa6ea6e483, 0x5cb0a9dcbd41fbd4, 0x76f988da831153b5]
    ++ [0x983e5152ee66dfab, 0xa831c66d2db43210, 0xb00327c898fb213f, 0xbf597fc7beef0ee4]
    ++ [0xc6e00bf33da88fc2, 0xd5a79147930aa725, 0x06ca6351e003826f, 0x142929670a0e6e70]
    ++ [0x27b70a8546d22ffc, 0x2e1b21385c26c926, 0x4d2c6dfc5ac42aed, 0x53380d139d95b3df]
    ++ [0x650a73548baf63de, 0x766a0abb3c77b2a8, 0x81c2c92e47edaee6, 0x92722c851482353b]
    ++ [0xa2bfe8a14cf10364, 0xa81a664bbc423001, 0xc24b8b70d0f89791, 0xc76c51a30654be30]
    ++ [0xd192e819d6ef5218, 0xd69906245565a910, 0xf40e35855771202a, 0x106aa07032bbd1b8]
    ++ [0x19a4c116b8d2d0c8, 0x1e376c085141ab53, 0x2748774cdf8eeb99, 0x34b0bcb5e19b48a8]
    ++ [0x391c0cb3c5c95a63, 0x4ed8aa4ae3418acb, 0x5b9cca4f7763e373, 0x682e6ff3d6b2b8a3]
    ++ [0x748f82ee5defb2fc, 0x78a5636f43172f60, 0x84c87814a1f0ab72, 0x8cc702081a6439ec]
    ++ [0x90befffa23631e28, 0xa4506cebde82bde9, 0xbef9a3f7b2c67915, 0xc67178f2e372532b]
    ++ [0xca273eceea26619c, 0xd186b8c721c0c207, 0xeada7dd6cde0eb1e, 0xf57d4f7fee6ed178]
    ++ [0x06f067aa72176fba, 0x0a637dc5a2c898a6, 0x113f9804bef90dae, 0x1b710b35131c471b]
    ++ [0x28db77f523047d84, 0x32caab7b40c72493, 0x3c9ebe0a15c9bebc, 0x431d67c49c100d4c]
    ++ [0x4cc5d4becb3e42b6, 0x597f299cfc657e2a, 0x5fcb6fab3ad6faec, 0x6c44198c4a475817]

/-- The initial hash value of SHA-256. -/
def shaH256 : List Nat :=
  [0x6a09e667, 0xbb67ae85, 0x3c6ef372, 0xa54ff53a, 0x510e527f, 0x9b05688c, 0x1f83d9ab, 0x5be0cd19]

/-- The initial hash value of SHA-384. -/
def shaH384 : List Nat :=
  [0xcbbb9d5dc1059ed8, 0x629a292a367cd507, 0x9159015a3070dd17, 0x152fecd8f70e5939]
    ++ [0x67332667ffc00b31, 0x8eb44a8768581511, 0xdb0c2e0d64f98fa7, 0x47b5481dbefa4fa4]

/-- A member of the SHA-2 family: bits of a word, round constants, initial value, and the amounts of the functions Σ0, Σ1, σ0, σ1. -/
structure ShaKind where
  w : Nat
  ks : List Nat
  init : List Nat
  big0 : Nat × Nat × Nat
  big1 : Nat × Nat × Nat
  small0 : Nat × Nat × Nat
  small1 : Nat × Nat × Nat

def sha256Kind : ShaKind := ⟨32, shaK256, shaH256, (2, 13, 22), (6, 11, 25), (7, 18, 3), (17, 19, 10)⟩
def sha384Kind : ShaKind := ⟨64, shaK512, shaH384, (28, 34, 39), (14, 18, 41), (1, 8, 7), (19, 61, 6)⟩

/-- A word rotated right by `n`. -/
def rotrNat (w n x : Nat) : Nat := x / 2 ^ n + x % 2 ^ n * 2 ^ (w - n)
/-- Σ: three rotations; σ: two rotations and a shift. -/
def shaBig (w : Nat) (a : Nat × Nat × Nat) (x : Nat) : Nat :=
  Nat.xor (Nat.xor (rotrNat w a.1 x) (rotrNat w a.2.1 x)) (rotrNat w a.2.2 x)
def shaSmall (w : Nat) (a : Nat × Nat × Nat) (x : Nat) : Nat :=
  Nat.xor (Nat.xor (rotrNat w a.1 x) (rotrNat w a.2.1 x)) (x / 2 ^ a.2.2)
/-- Ch and Maj. -/
def shaCh (w e f g : Nat) : Nat := Nat.xor (Nat.land e f) (Nat.land (2 ^ w - 1 - e) g)
def shaMaj (a b c : Nat) : Nat := Nat.xor (Nat.xor (Nat.land a b) (Nat.land a c)) (Nat.land b c)

/-- The next word of the message schedule, from the 16 before it. -/
def shaNext (k : ShaKind) (ws : List Nat) : Nat :=
  (shaSmall k.w k.small1 (ws.getD 14 0) + ws.getD 9 0 + shaSmall k.w k.small0 (ws.getD 1 0) + ws.getD 0 0) % 2 ^ k.w

/-- The rounds over the constants that are left, with the next 16 words of the schedule and the working variables. -/
def shaRounds (k : ShaKind) : List Nat → List Nat → Nat → Nat → Nat → Nat → Nat → Nat → Nat → Nat → List Nat
  | [], _, a, b, c, d, e, f, g, h => [a, b, c, d, e, f, g, h]
  | c0 :: cs, ws, a, b, c, d, e, f, g, h =>
    afterNat ((h + shaBig k.w k.big1 e + shaCh k.w e f g + c0 + ws.getD 0 0) % 2 ^ k.w) (fun t1 =>
      afterNat ((t1 + shaBig k.w k.big0 a + shaMaj a b c) % 2 ^ k.w) (fun a' =>
        afterNat ((d + t1) % 2 ^ k.w) (fun e' =>
          afterNat (shaNext k ws) (fun x => shaRounds k cs (ws.drop 1 ++ [x]) a' a b c e' e f g))))

/-- One block: 16 words. -/
def shaBlock (k : ShaKind) (hs ws : List Nat) : List Nat :=
  let g := fun (i : Nat) => hs.getD i 0
  (hs.zip (shaRounds k k.ks ws (g 0) (g 1) (g 2) (g 3) (g 4) (g 5) (g 6) (g 7))).map (fun p => (p.1 + p.2) % 2 ^ k.w)

/-- A message with its padding: a 1 bit, zeros, its length in bits as the last eighth of a block. -/
def shaPad (k : ShaKind) (m : List Byte) : List Byte :=
  let blk := 2 * k.w
  m ++ [0x80] ++ List.replicate ((blk - (m.length + 1 + k.w / 4) % blk) % blk) 0 ++ beBytes (k.w / 4) (8 * m.length)

/-- The blocks of a padded message, `n` of them, taken in order. -/
def shaRun (k : ShaKind) : Nat → List Byte → List Nat → List Nat
  | 0, _, hs => hs
  | n + 1, bs, hs =>
    let ws := (List.range 16).map (fun i => beNat (sliceBytes bs (k.w / 8 * i) (k.w / 8)))
    shaRun k n (bs.drop (2 * k.w)) (shaBlock k hs ws)

/-- The hash of a message, all eight words. -/
def shaHash (k : ShaKind) (m : List Byte) : List Byte :=
  let p := shaPad k m
  (shaRun k (p.length / (2 * k.w)) p k.init).flatMap (beBytes (k.w / 8))

/-- SHA-256, 32 bytes. -/
def sha256 (m : List Byte) : List Byte := shaHash sha256Kind m
/-- SHA-384, 48 bytes (spec 12 R443, R445, R455). PRESUMED (assumption log 4). -/
def sha384 (m : List Byte) : List Byte := (shaHash sha384Kind m).take 48

/-- HMAC-SHA-256 of key and message, 32 bytes (spec 12 R451; spec 14 R535). PRESUMED (assumption log 4). -/
def hmacSha256 (key m : List Byte) : List Byte :=
  let k := if 64 < key.length then sha256 key else key
  let k := k ++ List.replicate (64 - k.length) 0
  sha256 (k.map (· ^^^ 0x5C) ++ sha256 (k.map (· ^^^ 0x36) ++ m))

/-! ### AES-256 in GCM -/

/-- Twice an element of the field of AES. -/
def aesTwice (x : Nat) : Nat := if 128 ≤ x then Nat.xor (2 * x - 256) 0x1B else 2 * x
/-- The product of two elements, over the bits of the second. -/
def aesMul : Nat → Nat → Nat → Nat
  | 0, _, _ => 0
  | n + 1, x, y => Nat.xor (if y % 2 = 1 then x else 0) (aesMul n (aesTwice x) (y / 2))
/-- The inverse of an element, and 0 for 0: its power 254. -/
def aesInv (x : Nat) : Nat :=
  let m := aesMul 8
  let x2 := m x x; let x3 := m x2 x; let x6 := m x3 x3; let x12 := m x6 x6; let x15 := m x12 x3
  let x30 := m x15 x15; let x60 := m x30 x30; let x120 := m x60 x60; let x126 := m x120 x6; let x127 := m x126 x
  m x127 x127
/-- The S-box. -/
def aesSbox (x : Nat) : Nat :=
  let b := aesInv x
  let r := fun (n : Nat) => b * 2 ^ n % 256 + b / 2 ^ (8 - n)
  Nat.xor (Nat.xor (Nat.xor (Nat.xor (Nat.xor b (r 1)) (r 2)) (r 3)) (r 4)) 0x63

/-- The key schedule of AES-256: `n` more words of four bytes behind the last eight, `i` the number of the next word. -/
def aesExpand : Nat → Nat → Nat → List (List Nat) → List (List Nat)
  | 0, _, _, ws => ws
  | n + 1, i, rcon, ws =>
    let last := ws.getD (i - 1) []
    let t := if i % 8 = 0 then (match (last.drop 1 ++ last.take 1).map aesSbox with
        | x :: l => Nat.xor x rcon :: l
        | [] => [])
      else if i % 8 = 4 then last.map aesSbox else last
    aesExpand n (i + 1) (if i % 8 = 0 then aesTwice rcon else rcon) (ws ++ [(ws.getD (i - 8) []).zipWith Nat.xor t])
/-- The round keys, 16 bytes each: 15 of them. -/
def aesKeys (key : List Byte) : List (List Nat) :=
  let ws := aesExpand 52 8 1 ((List.range 8).map (fun i => (sliceBytes key (4 * i) 4).map BitVec.toNat))
  (List.range 15).map (fun r => ((ws.drop (4 * r)).take 4).flatten)

/-- ShiftRows, on the 16 bytes in column order. -/
def aesShift (s : List Nat) : List Nat := (List.range 16).map (fun i => s.getD ((i + 4 * (i % 4)) % 16) 0)
/-- MixColumns. -/
def aesMix (s : List Nat) : List Nat := (List.range 16).map (fun i =>
  let g := fun (k : Nat) => s.getD (i / 4 * 4 + (i + k) % 4) 0
  Nat.xor (Nat.xor (Nat.xor (aesTwice (g 0)) (Nat.xor (aesTwice (g 1)) (g 1))) (g 2)) (g 3))
/-- The rounds over the round keys that are left; the last has no MixColumns. -/
def aesRounds : List (List Nat) → List Nat → List Nat
  | [], s => s
  | [k], s => (aesShift (s.map aesSbox)).zipWith Nat.xor k
  | k :: ks, s => aesRounds ks ((aesMix (aesShift (s.map aesSbox))).zipWith Nat.xor k)
/-- AES-256 of one block, as a number of 128 bits. -/
def aesBlock (keys : List (List Nat)) (b : Nat) : Nat :=
  let s := (beBytes 16 b).map BitVec.toNat
  (aesRounds (keys.drop 1) (s.zipWith Nat.xor (keys.getD 0 []))).foldl (fun a x => 256 * a + x) 0

/-- The product in the field of GCM, over the bits of `x` from the most significant one on. -/
def gcmMul : Nat → Nat → Nat → Nat → Nat
  | 0, _, _, z => z
  | n + 1, x, v, z =>
    gcmMul n x (if v % 2 = 1 then Nat.xor (v / 2) (0xE1 * 2 ^ 120) else v / 2) (if bit x n then Nat.xor z v else z)
/-- GHASH over blocks of 16 bytes, `n` of them. -/
def gcmHash (h : Nat) : Nat → List Byte → Nat → Nat
  | 0, _, y => y
  | n + 1, bs, y => gcmHash h n (bs.drop 16) (gcmMul 128 (Nat.xor y (beNat (sliceBytes bs 0 16))) h 0)
/-- Bytes filled up with zeros to whole blocks. -/
def gcmPad (bs : List Byte) : List Byte := bs ++ List.replicate ((16 - bs.length % 16) % 16) 0
/-- Counter mode from counter `c` on, `n` blocks. -/
def gcmCtr (keys : List (List Nat)) (iv : Nat) : Nat → Nat → List Byte → List Byte
  | 0, _, _ => []
  | n + 1, c, bs =>
    (bs.take 16).zipWith (· ^^^ ·) (beBytes 16 (aesBlock keys (iv * 2 ^ 32 + c % 2 ^ 32))) ++ gcmCtr keys iv n (c + 1) (bs.drop 16)
/-- AES-256-GCM with a nonce of 12 bytes: the tag of associated data and ciphertext. -/
def gcmTag (keys : List (List Nat)) (iv : Nat) (aad ct : List Byte) : List Byte :=
  let h := aesBlock keys 0
  let bs := gcmPad aad ++ gcmPad ct ++ beBytes 8 (8 * aad.length) ++ beBytes 8 (8 * ct.length)
  beBytes 16 (Nat.xor (gcmHash h (bs.length / 16) bs 0) (aesBlock keys (iv * 2 ^ 32 + 1)))
/-- AES-256-GCM: the plaintext of key, nonce, associated data, ciphertext and tag; none where the tag is wrong (spec 12 R452,
R453). PRESUMED (assumption log 4). -/
def aesGcmOpen (key nonce aad ct tag : List Byte) : Option (List Byte) :=
  let keys := aesKeys key
  let iv := beNat nonce
  if gcmTag keys iv aad ct = tag then some (gcmCtr keys iv ((ct.length + 15) / 16) 2 ct) else none

/-! ### ECDSA over P-384 -/

/-- The prime, the order of the base point, the coefficient b (a is -3) and the base point. -/
def ecP : Nat := 2 ^ 384 - 2 ^ 128 - 2 ^ 96 + 2 ^ 32 - 1
def ecN : Nat := 0xffffffffffffffffffffffffffffffffffffffffffffffffc7634d81f4372ddf581a0db248b0a77aecec196accc52973
def ecB : Nat := 0xb3312fa7e23ee7e4988e056be3f82d19181d9c6efe8141120314088f5013875ac656398d8a2ed19d2a85c8edd3ec2aef
def ecGx : Nat := 0xaa87ca22be8b05378eb1c71ef320ad746e1d3b628ba79b9859f741e082542a385502f25dbf55296c3a545e3872760ab7
def ecGy : Nat := 0x3617de4a96262c6f5d9e98bf9292dc29f8f41dbd289a147ce9da3113b5f0b8c00a60b1ce1d7e819d7a431d7c90ea0e5f

/-- `b ^ e` modulo `m`, over at most `n` bits of the exponent, times `acc`. -/
def powMod (m : Nat) : Nat → Nat → Nat → Nat → Nat
  | 0, _, _, acc => acc
  | n + 1, b, e, acc => powMod m n (b * b % m) (e / 2) (if e % 2 = 1 then acc * b % m else acc)
/-- The inverse modulo a prime. -/
def invMod (m x : Nat) : Nat := powMod m 384 (x % m) (m - 2) 1

/-- A point in Jacobian coordinates; Z = 0 is the point at infinity. -/
structure EcPoint where
  x : Nat
  y : Nat
  z : Nat

def ecZero : EcPoint := ⟨1, 1, 0⟩
/-- A difference modulo p. -/
def ecSub (a b : Nat) : Nat := (a + ecP - b % ecP) % ecP

/-- A point doubled. -/
def ecDouble (q : EcPoint) : EcPoint :=
  if q.z = 0 ∨ q.y = 0 then ecZero
  else
    let yy := q.y * q.y % ecP
    let s := 4 * q.x * yy % ecP
    let zz := q.z * q.z % ecP
    let m := 3 * (ecSub q.x zz * (q.x + zz)) % ecP
    let x := ecSub (m * m) (2 * s)
    ⟨x, ecSub (m * ecSub s x) (8 * yy * yy), 2 * q.y * q.z % ecP⟩

/-- The sum of two points. -/
def ecAdd (a b : EcPoint) : EcPoint :=
  if a.z = 0 then b else if b.z = 0 then a
  else
    let za := a.z * a.z % ecP
    let zb := b.z * b.z % ecP
    let u := a.x * zb % ecP
    let s := a.y * zb * b.z % ecP
    let h := ecSub (b.x * za) u
    let r := ecSub (b.y * za * a.z) s
    if h = 0 then (if r = 0 then ecDouble a else ecZero)
    else
      let hh := h * h % ecP
      let x := ecSub (r * r) (hh * h + 2 * u * hh)
      ⟨x, ecSub (r * ecSub (u * hh) x) (s * hh * h), h * a.z * b.z % ecP⟩

/-- `k` times a point, over at most `n` bits of `k`, plus `acc`. -/
def ecMul : Nat → Nat → EcPoint → EcPoint → EcPoint
  | 0, _, _, acc => acc
  | n + 1, k, q, acc => ecMul n (k / 2) (ecDouble q) (if k % 2 = 1 then ecAdd acc q else acc)

/-- ECDSA P-384: whether the signature (r then s) of a digest of 48 bytes is valid under the public key (x then y) (spec 12 R443,
R445). PRESUMED (assumption log 4). -/
def ecdsaVerify (pub digest sig : List Byte) : Bool :=
  let x := beNat (sliceBytes pub 0 48)
  let y := beNat (sliceBytes pub 48 48)
  let r := beNat (sliceBytes sig 0 48)
  let s := beNat (sliceBytes sig 48 48)
  if ecP ≤ x ∨ ecP ≤ y ∨ y * y % ecP ≠ (x * x * x + ecB + (ecP - 3) * x) % ecP ∨ r = 0 ∨ s = 0 ∨ ecN ≤ r ∨ ecN ≤ s then false
  else
    let w := invMod ecN s
    let q := ecMul 384 (r * w % ecN) ⟨x, y, 1⟩ (ecMul 384 (beNat digest * w % ecN) ⟨ecGx, ecGy, 1⟩ ecZero)
    if q.z = 0 then false
    else
      let i := invMod ecP q.z
      q.x * (i * i % ecP) % ecP % ecN == r

end Sys2Proof.Machine
end

