-- ==== Sys2Proof/Machine/Records.lean ====
section
/-! DEFINITION. The trouble log, the event recorder, and the NV store with its key store (spec 14 R523 to R540, R545 to R551). -/

namespace Sys2Proof.Machine

/-! ### The trouble log -/

/-- UNREAD (spec 14 R526). -/
def logUnread (s : State) : Nat :=
  (rd s A.LOG_STATUS F.LOG_STATUS_WR_INDEX + 2048 - rd s A.LOG_CTL F.LOG_CTL_RD_INDEX) % 2048

/-- Word `k` of log slot `i` (spec 14 R528). -/
def logWord (s : State) (i k : Nat) : Reg := smGet 0 s.log.words (4 * i + k)

/-- Bit `c - 1` for every class `c` that has an unread entry (spec 14 R549). DEDUCED (assumption log 49). -/
def logClasses (s : State) : Nat :=
  let rdix := rd s A.LOG_CTL F.LOG_CTL_RD_INDEX
  (List.range (logUnread s)).foldl (fun m k =>
    let c := bitsOf (logWord s ((rdix + k) % 1024) 1).toNat 43 40
    if 1 ≤ c ∧ c ≤ 9 then Nat.lor m (2 ^ (c - 1)) else m) 0

/-- UNREAD and CLASSES follow the indexes, and a crossing of LEVEL by UNREAD raises vector 0 (spec 14 R527, R549); `before` is
UNREAD as it was. -/
def logMoved (s : State) (before : Nat) : State :=
  let n := logUnread s
  let s := wr s A.LOG_STATUS F.LOG_STATUS_UNREAD n
  let s := wr s A.LOG_SUMMARY F.LOG_SUMMARY_CLASSES (logClasses s)
  let lv := rd s A.LOG_CTL F.LOG_CTL_LEVEL
  raiseIf s (decide (lv ≠ 0 ∧ before < lv ∧ lv ≤ n) && rdB s A.LOG_CTL F.LOG_CTL_IE) 0

/-- The source that the log writer serves next: the first occupied latch after the one served last (spec 14 R525). -/
def logNext (s : State) : Option (Nat × LogLatch) :=
  ((List.range 256).map (fun k => (s.log.lastServed + 1 + k) % 256)).findSome? (fun i =>
    (smGet none s.log.latches i).map (fun l => (i, l)))

/-- The four words of an entry (spec 14 R528). -/
def logWords (src : Nat) (l : LogLatch) : List Reg :=
  [BitVec.ofNat 64 l.time, BitVec.ofNat 64 (l.unit.toNat + l.code.toNat * 2 ^ 32 + src * 2 ^ 48),
   BitVec.ofNat 64 (l.rep + leAt l.detail 0 6 * 2 ^ 16), BitVec.ofNat 64 (leAt l.detail 6 8)]

/-- Write an entry's words into a slot. -/
def putSlot (s : State) (slot : Nat) (ws : List Reg) : State :=
  { s with log := { s.log with words := (List.range 4).foldl (fun m k => smSet 0 m (4 * slot + k) (ws.getD k 0)) s.log.words } }

/-- LOG_WRITE: one occupied latch is written (spec 14 R525, R526). -/
def opLogWrite (s : State) : State :=
  match logNext s with
  | none => s
  | some (src, l) =>
    let before := logUnread s
    let s := setLatch { s with log := { s.log with lastServed := src } } src none
    if before = 1024 ∧ rd s A.LOG_CTL F.LOG_CTL_MODE = 1 then
      recClass (bump s A.LOG_STATUS F.LOG_STATUS_LOST (1 + l.rep)) 0 (1 + l.rep)
    else
      let s := if before = 1024 then
          bump (wr s A.LOG_CTL F.LOG_CTL_RD_INDEX ((rd s A.LOG_CTL F.LOG_CTL_RD_INDEX + 1) % 2048)) A.LOG_STATUS F.LOG_STATUS_OVERFLOW 1
        else s
      let wix := rd s A.LOG_STATUS F.LOG_STATUS_WR_INDEX
      let s := putSlot s (wix % 1024) (logWords src l)
      let s := wr s A.LOG_STATUS F.LOG_STATUS_WR_INDEX ((wix + 1) % 2048)
      let s := wr s A.LOG_SUMMARY F.LOG_SUMMARY_LAST_CODE l.code.toNat
      let s := wr s A.LOG_SUMMARY F.LOG_SUMMARY_LAST_TIME (l.time % 2 ^ 32)
      logMoved s before

/-- Whether a report is one that a source makes: no reserved source reports (spec 14 R523), no code lies outside the classes 1 to 9
(spec 00 R14). DEDUCED (assumption log 49). -/
def reportExists (r : Report) : Bool := decide (r.source < 205 ∧ 1 ≤ r.code.toNat / 256 ∧ r.code.toNat / 256 ≤ 9)

/-- LOG_REPORT: a report of a source of R523 (spec 14 R524). -/
def opLogReport (r : Report) (s : State) : State :=
  if reportExists r then report s r.source r.unit r.code.toNat r.detail else s

/-- A write of LOG_CTL by the warden (spec 14 R527, R549). A RD_INDEX that would leave UNREAD outside 0 to 1,024 is discarded;
CLEAR comes after it. DEDUCED (assumption log 49). -/
def writeLogCtl (s : State) (v : Reg) : State :=
  let before := logUnread s
  let a := A.LOG_CTL
  let s := setR s a (writeFlds true [F.LOG_CTL_LEVEL, F.LOG_CTL_IE, F.LOG_CTL_MODE] (getR s a) v)
  let wix := rd s A.LOG_STATUS F.LOG_STATUS_WR_INDEX
  let r := getFld v F.LOG_CTL_RD_INDEX
  let s := if (wix + 2048 - r) % 2048 ≤ 1024 then wr s a F.LOG_CTL_RD_INDEX r else s
  let s := if getFld v F.LOG_CTL_CLEAR = 1 then wr s a F.LOG_CTL_RD_INDEX wix else s
  logMoved s before

/-- RD_INDEX_WRITE (spec 14 R527). -/
def opRdIndexWrite (v : Reg) (s : State) : State := writeLogCtl s v
/-- CLEAR (spec 14 R527). -/
def opLogClear (v : Reg) (s : State) : State := writeLogCtl s v

/-- A read of word `k` of LOG_ENTRY[i] (spec 14 R529): the state and the value. -/
def readLogEntry (s : State) (i k : Nat) : State × Reg :=
  if k = 0 then
    ({ s with log := { s.log with snapTag := some i, snap := [logWord s i 1, logWord s i 2, logWord s i 3] } }, logWord s i 0)
  else if s.log.snapTag = some i then (s, s.log.snap.getD (k - 1) 0) else (s, logWord s i k)

/-- LOG_ENTRY_READ: a read of W0 (spec 14 R529). -/
def opLogEntryRead (i : Fin 1024) (s : State) : State :=
  let x := readLogEntry s i 0
  { x.1 with readData := x.2 }

/-! ### Runs of bytes in a sparse map -/

/-- `n` bytes of a sparse map from `a` up; an unlisted byte at `k` reads as `d k`. -/
def smBytes (d : Nat → Byte) (m : SMap Byte) (a n : Nat) : List Byte := (List.range n).map (fun k => smGet (d (a + k)) m (a + k))

/-- The listed cells of a run of bytes from `a` up: those that are not what an unlisted byte reads as. -/
def runCells (d : Nat → Byte) : Nat → List Byte → SMap Byte
  | _, [] => []
  | a, b :: bs => if b = d a then runCells d (a + 1) bs else (a, b) :: runCells d (a + 1) bs

/-- The map with the bytes from `a` up replaced by a run, in canonical form. -/
def smFill (d : Nat → Byte) (m : SMap Byte) (a : Nat) (bs : List Byte) : SMap Byte :=
  m.filter (fun c => decide (c.1 < a)) ++ runCells d a bs ++ m.filter (fun c => decide (a + bs.length ≤ c.1))

/-! ### The NV store -/

/-- What a byte of the NV store that nothing has written reads as: erased, all ones; the selector word is 0 as shipped (spec 14
R544). DESIGN CHOICE (assumption log 19). -/
def nvErased (k : Nat) : Byte := if 0x020FF8 ≤ k ∧ k < 0x021000 then 0 else 0xFF

/-- Bytes of the NV store. -/
def nvRead (s : State) (a n : Nat) : List Byte := smBytes nvErased s.nv.bytes a n
def nvWrite (s : State) (a : Nat) (bs : List Byte) : State :=
  { s with nv := { s.nv with bytes := smFill nvErased s.nv.bytes a bs } }

/-- Whether an NV offset lies in the key store or the recorder, which the window does not reach (spec 14 R538). -/
def nvHidden (a : Nat) : Bool := decide (0x020000 ≤ a ∧ a < 0x061000)

/-- The NV offset that byte `off` of the window shows (spec 14 R539). -/
def nvOffset (s : State) (off : Nat) : Nat := rd s A.NVI_CTL F.NVI_CTL_WINDOW * 65536 + off

/-- The 64-bit word at an aligned offset of the window (spec 14 R538). -/
def readNvWindow (s : State) (off : Nat) : Reg :=
  let a := nvOffset s off
  if nvHidden a then 0 else BitVec.ofNat 64 (leBytes (nvRead s a 8))

/-- The word at NV offset `a` is being written (spec 14 R538). -/
def nvBusy (s : State) (a : Nat) : State := wr { s with nv := { s.nv with writing := some a } } A.NVI_STATUS F.NVI_STATUS_BUSY 1

/-- A write of `size` bytes that the window shows at NV offset `a`; `ok` says that the word read back as written (spec 14
R538, R539). A word that did not holds a value that the spec leaves open. DESIGN CHOICE (assumption log 51). -/
def writeNvAt (s : State) (a size : Nat) (v : Reg) (ok : Bool) : State :=
  if size ≠ 8 ∨ a % 8 ≠ 0 then wr s A.NVI_STATUS F.NVI_STATUS_SIZE_ERR 1
  else
    if nvHidden a then s
    else if ok then nvBusy (nvWrite s a (bytesLE 8 v.toNat)) a
    else
      let s := nvBusy (useFree (nvWrite s a (bytesLE 8 (freeVal s).toNat))) a
      report (wr s A.NVI_STATUS F.NVI_STATUS_WRITE_ERR 1) 200 (unitDev s) 0x920 (detail [(a, 3)])

/-- The writes `ws` that waited, from the oldest on, until one of them keeps the store busy (spec 14 R539). -/
def nvDrain : List (Nat × Nat × Reg × Bool) → State → State
  | [], s => { s with nv := { s.nv with waiting := [] } }
  | w :: ws, s =>
    let n := writeNvAt s w.1 w.2.1 w.2.2.1 w.2.2.2
    if rdB n A.NVI_STATUS F.NVI_STATUS_BUSY then { n with nv := { n.nv with waiting := ws } } else nvDrain ws n

/-- NV_WINDOW_WRITE (spec 14 R539): a write of `size` bytes at offset `off` of the window; while an earlier one is under way it
waits. DEDUCED (assumption log 52). -/
def opNvWindowWrite (off size : Nat) (v : Reg) (ok : Bool) (s : State) : State :=
  if 65536 ≤ off then s
  else if rdB s A.NVI_STATUS F.NVI_STATUS_BUSY then
    { s with nv := { s.nv with waiting := s.nv.waiting ++ [(nvOffset s off, size, v, ok)] } }
  else writeNvAt s (nvOffset s off) size v ok

/-- NV_WRITE_DONE (spec 14 R538): a write that waits begins (R539). -/
def opNvWriteDone (s : State) : State :=
  nvDrain s.nv.waiting (wr { s with nv := { s.nv with writing := none } } A.NVI_STATUS F.NVI_STATUS_BUSY 0)

/-! ### The key store -/

/-- The size of a slot's key material (spec 14 R540). -/
def keySize (kind : Nat) : Nat := if kind = 1 then 48 else 32
/-- Whether a kind and slot name a slot of the key store. -/
def keySlotOk (kind slot : Nat) : Bool := decide (kind ≤ 1) || (kind == 2 && slot == 0)
/-- The bytes of a slot of the key store. -/
def keyBytes (s : State) (kind slot : Nat) : List Byte := smBytes (fun _ => 0) s.nv.keys (64 * (4 * kind + slot)) (keySize kind)
/-- Whether a slot is provisioned. -/
def keyThere (s : State) (kind slot : Nat) : Bool := s.nv.provisioned.contains (4 * kind + slot)

/-- The slot bits that CFG_KEY_CTL and REC_STATUS show (spec 12 R482; spec 14 R550). -/
def showKeys (s : State) : State :=
  let bits := fun kind => ([0, 1, 2, 3].filter (keyThere s kind)).foldl (fun a k => a + 2 ^ k) 0
  let s := wr s A.CFG_KEY_CTL F.CFG_KEY_CTL_SLOT_VALID (bits 0)
  let s := wr s A.CFG_KEY_CTL F.CFG_KEY_CTL_HASH_VALID (bits 1)
  wr s A.REC_STATUS F.REC_STATUS_KEY_VALID (b2n (keyThere s 2 0))

/-- The staging registers as bytes, and the staging registers loaded from bytes (spec 14 R540). -/
def staging (s : State) : List Byte := (List.range 6).flatMap (fun k => bytesLE 8 (getR s (A.NVI_KEY_DATA k)).toNat)
def setStaging (s : State) (bs : List Byte) : State :=
  (List.range 6).foldl (fun s k => setR s (A.NVI_KEY_DATA k) (BitVec.ofNat 64 (leAt bs (8 * k) 8))) s

/-- GO of NVI_KEY_CTL; `ok` says that the slot was written (spec 14 R540, R551). DEDUCED (assumption log 52). -/
def keyGo (s : State) (ok : Bool) : State :=
  let a := A.NVI_KEY_CTL
  let kind := rd s a F.NVI_KEY_CTL_KIND
  let slot := rd s a F.NVI_KEY_CTL_SLOT
  let res := fun (s : State) n => wr s a F.NVI_KEY_CTL_RESULT n
  if !keySlotOk kind slot then res s 2
  else if rdB s a F.NVI_KEY_CTL_READ && kind == 1 then
    let s := setStaging s (if keyThere s 1 slot then keyBytes s 1 slot else [])
    res { s with nv := { s.nv with shown := true } } 0
  else if keyThere s kind slot then res s 1
  else if !ok then res s 3
  else
    let n := 4 * kind + slot
    let bs := (staging s).take (keySize kind)
    let nv := { s.nv with provisioned := n :: s.nv.provisioned, keys := smFill (fun _ => 0) s.nv.keys (64 * n) bs, shown := false }
    res (nvBusy (showKeys (setStaging { s with nv := nv } [])) (0x020000 + 64 * n)) 0

/-- A write of NVI_KEY_CTL by the warden (spec 14 R551). -/
def writeKeyCtl (s : State) (v : Reg) (ok : Bool) : State :=
  let s := setR s A.NVI_KEY_CTL (writeFlds true L.NVI_KEY_CTL (getR s A.NVI_KEY_CTL) v)
  if getFld v F.NVI_KEY_CTL_GO = 1 then keyGo s ok else s

/-- KEY_PROVISION (spec 14 R540). -/
def opKeyProvision (v : Reg) (ok : Bool) (s : State) : State := writeKeyCtl s v ok

/-- A write of NVI_KEY_DATA[k] by the warden: staging, which no read shows (spec 14 R540, R551). -/
def writeKeyData (s : State) (k : Nat) (v : Reg) : State :=
  let s := if s.nv.shown then setStaging { s with nv := { s.nv with shown := false } } [] else s
  setR s (A.NVI_KEY_DATA k) v

/-- A write of NVI_SLOT_SEL by the warden (spec 14 R551, R544). -/
def writeSlotSel (s : State) (v : Reg) : State :=
  let x := getFld v F.NVI_SLOT_SEL_SELECT
  if x = 3 then s else wr (nvBusy (nvWrite s 0x020FF8 (bytesLE 8 x)) 0x020FF8) A.NVI_SLOT_SEL F.NVI_SLOT_SEL_SELECT x

/-- NVI_SLOT_SEL_WRITE (spec 14 R551). -/
def opNviSlotSelWrite (v : Reg) (s : State) : State := writeSlotSel s v

/-- The NV selector as R544 tests it: a word that is not 0, 1 or 2 acts as 0. -/
def nvSelector (s : State) : Nat :=
  let w := leBytes (nvRead s 0x020FF8 8)
  if w ≤ 2 then w else 0

/-! ### The event recorder -/

/-- Fields of the recorder's layout (spec 14 R532), in the accumulators and in the mirror. -/
def zeroByte (_ : Nat) : Byte := 0
def accAt (s : State) (off n : Nat) : Nat := leBytes (smBytes zeroByte s.recorder.acc off n)
def setAcc (s : State) (off n v : Nat) : State :=
  { s with recorder := { s.recorder with acc := smFill zeroByte s.recorder.acc off (bytesLE n v) } }
def mirAt (s : State) (off n : Nat) : Nat := leBytes (smBytes zeroByte s.recorder.mirror off n)
def setMir (s : State) (off n v : Nat) : State :=
  { s with recorder := { s.recorder with mirror := smFill zeroByte s.recorder.mirror off (bytesLE n v) } }

/-- The bin of a temperature in 1/16 °C (spec 14 R531). -/
def tempBin (t : Int) : Nat := if t < -640 then 0 else min 32 ((t + 640) / 80).toNat

/-- The readings of quarter `q` that are valid. -/
def quarterTemps (s : State) (q : Nat) : List Int :=
  (quarterFields q).flatMap (fun f => ([0, 1, 2, 3].filter (fun k => !sensorFailed s f k)).map (fun k => sintOf 16 (sensorRaw s f k)))

/-- The bin of a count: 0 for 0, k for 2^(k-1) to 2^k - 1, at most `top` (spec 14 R531). -/
def countBin (n top : Nat) : Nat := if n = 0 then 0 else min top (Nat.log2 n + 1)

/-- An extreme of quarter `q`: an entry all zero holds none yet. DEDUCED (assumption log 50). -/
def tempExtreme (s : State) (q : Nat) (t : Int) : State :=
  let o := 0x250 + 12 * q
  let fresh := accAt s o 12 == 0
  let at_ := accAt s 0x18 4
  let s := if fresh || decide (sintOf 16 (accAt s o 2) < t) then setAcc (setAcc s o 2 (wrapInt 16 t)) (o + 4) 4 at_ else s
  if fresh || decide (t < sintOf 16 (accAt s (o + 2) 2)) then setAcc (setAcc s (o + 2) 2 (wrapInt 16 t)) (o + 8) 4 at_ else s

/-- The extremes of rail `r`. DEDUCED (assumption log 50). -/
def railExtreme (s : State) (r mv : Nat) : State :=
  let o := 0x280 + 4 * r
  let fresh := accAt s o 4 == 0
  let s := if fresh || decide (mv < accAt s o 2) then setAcc s o 2 mv else s
  if fresh || decide (accAt s (o + 2) 2 < mv) then setAcc s (o + 2) 2 mv else s

/-- The hottest of some temperatures. -/
def hottestOf : List Int → Option Int
  | [] => none
  | t :: ts => some (ts.foldl max t)

/-- One sample (spec 14 R531). With EN = 0 nothing is sampled, and the power-on minutes still count. -/
def opRecorderSample (smp : Sample) (s : State) : State :=
  let en := rdB s A.REC_CTL F.REC_CTL_EN
  match smp with
  | .temps => if !en then s else [0, 1, 2, 3].foldl (fun s q => match hottestOf (quarterTemps s q) with
      | some t => recCount s (0x40 + 132 * q + 4 * tempBin t) 1
      | none => s) s
  | .tempExt f k => if !en || sensorFailed s f k then s else tempExtreme s (f.val / 16) (sintOf 16 (sensorRaw s f k))
  | .rail r mv => if !en then s else railExtreme s r mv.toNat
  | .power => if !en then s else recCount s (0x2C0 + 4 * min 20 (rd s A.PWR_CEILING F.PWR_CEILING_EST / 25)) 1
  | .minute =>
    let s := recCount (recCount s 0x10 1) 0x18 1
    let wakes := fun (s : State) f => rd s (A.PWR_STATUS f) F.PWR_STATUS_WAKES
    let s := if !en then s else (List.range 64).foldl (fun s f =>
      recCount s (0x1100 + 96 * f + 4 * countBin ((wakes s f + 2 ^ 32 - smGet 0 s.recorder.wakesAt f) % 2 ^ 32) 23) 1) s
    { s with recorder := { s.recorder with wakesAt := (List.range 64).foldl (fun m f => smSet 0 m f (wakes s f)) s.recorder.wakesAt } }
  | .states => if !en then s else (List.range 64).foldl (fun s f => recCount s (0x800 + 36 * f + 4 * pwrState s f) 1) s

/-- RECORDER_MIRROR_COPY: the accumulators are copied into the mirror; what the mirror holds beside them (its head, COMMIT_SEQ, CRC)
stays (spec 14 R531). -/
def opMirrorCopy (s : State) : State :=
  let m := s.recorder.mirror
  let n := m.filter (fun c => decide (c.1 < 0x10)) ++ s.recorder.acc.filter (fun c => decide (0x10 ≤ c.1 ∧ c.1 < 0x2900))
    ++ m.filter (fun c => decide (0x2900 ≤ c.1))
  { s with recorder := { s.recorder with mirror := n } }

/-- The recorder copy of number `c` starts here in the NV store (spec 14 R533). -/
def copyAt (c : Nat) : Nat := 0x021000 + 0x4000 * c

/-- A commit of the mirror to the copy not written last; `ok` is the outcome of its check (spec 14 R533). The CRC bytes of a copy
that fails its check are open. DEDUCED (assumption log 50). DESIGN CHOICE (assumption log 51). -/
def commit (s : State) (ok : Bool) : State :=
  let c := 1 - s.recorder.last
  let s := setMir s 8 8 (mirAt s 8 8 + 1)
  let s := setMir s 0x2900 8 (crc32c (smBytes zeroByte s.recorder.mirror 0 0x2900))
  let s := nvBusy (nvWrite s (copyAt c) (smBytes zeroByte s.recorder.mirror 0 0x2908)) (copyAt c + 0x2900)
  let s := { s with recorder := { s.recorder with last := c, commitDue := false, since := some 0 } }
  if ok then s
  else
    let s := useFree (nvWrite s (copyAt c + 0x2900) (bytesLE 4 (freeVal s).toNat))
    report (wr s A.REC_STATUS F.REC_STATUS_COMMIT_ERR 1) 200 (unitDev s) 0x903 (detail [(c, 1)])

/-- RECORDER_COMMIT: the commit that every 15 minutes bring, or one that was put off (spec 14 R533). -/
def opRecorderCommit (ok : Bool) (s : State) : State := commit s ok

/-- A new challenge: two free values are the nonce (spec 14 R535); none is issued under LOCKOUT (R536).
DESIGN CHOICE (assumption log 51). -/
def newChallenge (s : State) : State :=
  if rdB s A.REC_STATUS F.REC_STATUS_LOCKOUT then s
  else
    let s := useFree (setR s (A.REC_CHALLENGE 0) (freeVal s))
    let s := useFree (setR s (A.REC_CHALLENGE 1) (freeVal s))
    wr { s with recorder := { s.recorder with nonce := true } } A.REC_STATUS F.REC_STATUS_CHALLENGE_VALID 1

/-- A write of REC_CTL: EN and COMMIT are the warden's, NEW_CHALLENGE is anyone's (spec 14 R550). `recent` says that the last
commit lies within 60 s, `ok` the outcome of a commit. DEDUCED (assumption log 52). -/
def writeRecCtl (s : State) (warden : Bool) (v : Reg) (recent ok : Bool) : State :=
  let s := setR s A.REC_CTL (writeFlds warden L.REC_CTL (getR s A.REC_CTL) v)
  let s := if getFld v F.REC_CTL_NEW_CHALLENGE = 1 then newChallenge s else s
  if !warden ∨ getFld v F.REC_CTL_COMMIT ≠ 1 then s
  else if recent then { s with recorder := { s.recorder with commitDue := true } }
  else commit s ok

/-- Whether the last commit lies within 60 s (spec 14 R533). DEDUCED (assumption log 52). -/
def recentCommit (s : State) : Bool := s.recorder.since.elim false (fun t => decide (t < 60000000000 * 2 ^ 24))

/-- A write of REC_CTL that no COMMIT command carries: whether a commit that it makes reads back right is open (spec 14 R533).
DESIGN CHOICE (assumption log 51). -/
def regRecCtl (s : State) (warden : Bool) (v : Reg) : State :=
  if warden && getFld v F.REC_CTL_COMMIT == 1 && !recentCommit s then writeRecCtl (useFree s) true v false (bit (freeVal s).toNat 0)
  else writeRecCtl s warden v true true

/-- COMMIT (spec 14 R533). -/
def opRecCommit (v : Reg) (recent ok : Bool) (s : State) : State := writeRecCtl s true v recent ok
/-- NEW_CHALLENGE (spec 14 R535): of this write only NEW_CHALLENGE acts. -/
def opNewChallenge (v : Reg) (s : State) : State := writeRecCtl s false v false true

/-- The nonce ends (spec 14 R535). -/
def endNonce (s : State) : State :=
  wr { s with recorder := { s.recorder with nonce := false } } A.REC_STATUS F.REC_STATUS_CHALLENGE_VALID 0

/-- NONCE_EXPIRY (spec 14 R535). -/
def opNonceExpiry (s : State) : State := endNonce s
/-- LOCKOUT_END (spec 14 R536). -/
def opLockoutEnd (s : State) : State := wr s A.REC_STATUS F.REC_STATUS_LOCKOUT 0

/-- A write of REC_RESPONSEn (spec 14 R535). -/
def writeResponse (s : State) (k : Nat) (v : Reg) : State :=
  { s with recorder := { s.recorder with response := smSet 0 s.recorder.response k v } }

/-- The HMAC that the device computes (spec 14 R535). -/
def ownResponse (s : State) : List Byte :=
  hmacSha256 (keyBytes s 2 0) (bytesLE 8 (getR s (A.REC_CHALLENGE 0)).toNat ++ bytesLE 8 (getR s (A.REC_CHALLENGE 1)).toNat
    ++ bytesLE 8 (getR s A.ID_SERIAL).toNat)

/-- The response that the clearer wrote. -/
def givenResponse (s : State) : List Byte := (List.range 4).flatMap (fun k => bytesLE 8 (smGet 0 s.recorder.response k).toNat)

/-- LAST_RESULT of a GO, in the order: no nonce, no key, wrong, right (spec 14 R536). DEDUCED (assumption log 50). -/
def clearResult (s : State) : Nat :=
  if !s.recorder.nonce then 2 else if !keyThere s 2 0 then 4 else if givenResponse s = ownResponse s then 1 else 3

/-- The recorder cleared: accumulators and mirror to zero but for the lifetime figures, CLEARS raised (spec 14 R536).
DEDUCED (assumption log 50). -/
def clearRecorder (s : State) : State :=
  let life := (List.range 8).map (· + 0x10)
  let n := min (accAt s 0x20 4 + 1) (2 ^ 32 - 1)
  let acc := s.recorder.acc.filter (fun c => life.contains c.1)
  let mir := s.recorder.mirror.filter (fun c => decide (c.1 < 0x18))
  let s := { s with recorder := { s.recorder with acc := acc, mirror := mir } }
  wr (setMir (setAcc s 0x20 4 n) 0x20 4 n) A.REC_STATUS F.REC_STATUS_CLEARS n

/-- The ledger entry of the clear just made (spec 14 R537). DEDUCED (assumption log 50). -/
def ledgerClear (s : State) (who : Key) : State :=
  let n := rd s A.REC_STATUS F.REC_STATUS_CLEARS
  let i := (n + 15) % 16
  let l := smSet 0 s.nv.ledger (2 * i) (BitVec.ofNat 64 (nowNs s))
  let l := smSet 0 l (2 * i + 1) (BitVec.ofNat 64 (n + who.dev.toNat * 2 ^ 32 + who.mst.toNat * 2 ^ 48))
  { s with nv := { s.nv with ledger := l } }

/-- GO of REC_CLEAR by `who` (spec 14 R536). The outcome of the check of the commit that follows a clear is open. -/
def clearGo (s : State) (who : Key) : State :=
  let res := clearResult s
  let s := endNonce s
  let s := { s with recorder := { s.recorder with response := [] } }
  let s := wr s A.REC_STATUS F.REC_STATUS_LAST_RESULT res
  if res = 1 then
    let s := ledgerClear (clearRecorder s) who
    let ok := bit (freeVal s).toNat 0
    let s := commit (useFree s) ok
    report s 200 (unitDev s) 0x900 (detail [(rd s A.REC_STATUS F.REC_STATUS_CLEARS, 4), (who.mst.toNat, 2)])
  else
    report (wr s A.REC_STATUS F.REC_STATUS_LOCKOUT 1) 200 (unitDev s) 0x901 (detail [(res, 1), (who.mst.toNat, 2)])

/-- REC_CLEAR_GO (spec 14 R536). -/
def opRecClearGo (v : Reg) (who : Key) (s : State) : State := if getFld v F.REC_CLEAR_GO = 1 then clearGo s who else s

/-- The bytes of a recorder copy that is valid: its MAGIC and CRC are right (spec 14 R532, R534). -/
def validCopy (s : State) (c : Nat) : Option (List Byte) :=
  let bs := nvRead s (copyAt c) 0x2908
  if leAt bs 0 4 = 0x525A4C43 ∧ leAt bs 0x2900 4 = crc32c (bs.take 0x2900) then some bs else none

/-- The mirror as power-on leaves it: from the newer valid copy, or from zeros with COPY_LOST; then one more cycle (spec 14 R534). -/
def powerOnRecorder (s : State) : State :=
  let pick : Option (Nat × List Byte) := match validCopy s 0, validCopy s 1 with
    | some a, some b => if leAt b 8 8 < leAt a 8 8 then some (0, a) else some (1, b)
    | some a, none => some (0, a)
    | none, some b => some (1, b)
    | none, none => none
  let s := match pick with
    | some (c, bs) => { s with recorder := { s.recorder with mirror := runCells zeroByte 0 bs, acc := runCells zeroByte 0 bs, last := c } }
    | none =>
      let head := bytesLE 4 0x525A4C43 ++ bytesLE 4 1
      let s := { s with recorder := { s.recorder with mirror := runCells zeroByte 0 head, acc := runCells zeroByte 0 head, last := 1 } }
      report (wr s A.REC_STATUS F.REC_STATUS_COPY_LOST 1) 200 (unitDev s) 0x902 []
  let s := recCount (recCount s 0x14 1) 0x1C 1
  let s := setMir (setMir s 0x14 4 (accAt s 0x14 4)) 0x1C 4 (accAt s 0x1C 4)
  wr s A.REC_STATUS F.REC_STATUS_CLEARS (mirAt s 0x20 4)

/-! ### The meanings of the commands of this file -/

/-- LOG_REPORT (spec 14 R524). -/
def execLogReport (rep : Report) (s : State) : Host.Outcome State Fault Refusal :=
  if rep.detail.length ≤ 14 then .next (opLogReport rep s) else .fault .illFormed
/-- LOG_WRITE (spec 14 R525). -/
def execLogWrite (s : State) : Host.Outcome State Fault Refusal := .next (opLogWrite s)
/-- RD_INDEX_WRITE (spec 14 R527). -/
def execRdIndexWrite (value : Reg) (s : State) : Host.Outcome State Fault Refusal := .next (hostAccess (opRdIndexWrite value) s)
/-- CLEAR (spec 14 R527). -/
def execLogClear (value : Reg) (s : State) : Host.Outcome State Fault Refusal := .next (hostAccess (opLogClear value) s)
/-- LOG_ENTRY_READ (spec 14 R529). -/
def execLogEntryRead (i : Fin 1024) (s : State) : Host.Outcome State Fault Refusal := .next (hostAccess (opLogEntryRead i) s)
/-- RECORDER_MIRROR_COPY (spec 14 R531). -/
def execRecorderMirrorCopy (s : State) : Host.Outcome State Fault Refusal := .next (opMirrorCopy s)
/-- RECORDER_COMMIT (spec 14 R533). -/
def execRecorderCommit (ok : Bool) (s : State) : Host.Outcome State Fault Refusal := .next (opRecorderCommit ok s)
/-- COMMIT (spec 14 R533). -/
def execRecCommit (value : Reg) (recent : Bool) (ok : Bool) (s : State) : Host.Outcome State Fault Refusal :=
  .next (hostAccess (opRecCommit value recent ok) s)
/-- NEW_CHALLENGE (spec 14 R535). -/
def execNewChallenge (value : Reg) (s : State) : Host.Outcome State Fault Refusal := .next (hostAccess (opNewChallenge value) s)
/-- NONCE_EXPIRY (spec 14 R535). -/
def execNonceExpiry (s : State) : Host.Outcome State Fault Refusal := .next (opNonceExpiry s)
/-- LOCKOUT_END (spec 14 R536). -/
def execLockoutEnd (s : State) : Host.Outcome State Fault Refusal := .next (opLockoutEnd s)
/-- NV_WINDOW_WRITE (spec 14 R539). -/
def execNvWindowWrite (off : Nat) (size : Nat) (value : Reg) (ok : Bool) (s : State) : Host.Outcome State Fault Refusal :=
  .next (hostAccess (opNvWindowWrite off size value ok) s)
/-- NV_WRITE_DONE (spec 14 R538). -/
def execNvWriteDone (s : State) : Host.Outcome State Fault Refusal := .next (opNvWriteDone s)
/-- KEY_PROVISION (spec 14 R540). -/
def execKeyProvision (value : Reg) (ok : Bool) (s : State) : Host.Outcome State Fault Refusal :=
  .next (hostAccess (opKeyProvision value ok) s)
/-- NVI_SLOT_SEL_WRITE (spec 14 R551). -/
def execNviSlotSelWrite (value : Reg) (s : State) : Host.Outcome State Fault Refusal := .next (hostAccess (opNviSlotSelWrite value) s)
/-- REC_CLEAR_GO (spec 14 R536). -/
def execRecClearGo (value : Reg) (who : Key) (s : State) : Host.Outcome State Fault Refusal := .next (hostAccess (opRecClearGo value who) s)

end Sys2Proof.Machine
end

