-- ==== Sys2Proof/Machine/Loader.lean ====
section
/-! DEFINITION. Configuration images: the loader, the chain, start-up, partial loads and the auditor (spec 12). -/

namespace Sys2Proof.Machine

/-- A report of the loader (spec 12 R478; spec 14 R523). -/
def reportLoad (s : State) (code : Nat) (det : List Byte) : State := report s 198 (unitDev s) code det

def setLoad (s : State) (f : LoadSt → LoadSt) : State := { s with load := f s.load }

/-- A field of CFG_STATUS, and of CFG_REGION of field `f`, replaced. -/
def wrStatus (s : State) (f : Fld) (x : Nat) : State := wr s A.CFG_STATUS f x
def wrRegion (s : State) (f : Nat) (fld : Fld) (x : Nat) : State := wr s (A.CFG_REGION f) fld x
def cfgState (s : State) : Nat := rd s A.CFG_STATUS F.CFG_STATUS_STATE

/-! ### The header (spec 12 R443 to R445) -/

def hFlag (h : List Byte) (k : Nat) : Bool := bit (leAt h 8 4) k
def hEnc (h : List Byte) : Bool := hFlag h 0
def hSigned (h : List Byte) : Bool := hFlag h 1
def hPartial (h : List Byte) : Bool := hFlag h 2
def hIsolate (h : List Byte) : Bool := hFlag h 3
def hSlot (h : List Byte) : Nat := leAt h 12 1
def hRegion (h : List Byte) : Nat := leAt h 13 1
def hLen (h : List Byte) : Nat := leAt h 16 8
def hImage (h : List Byte) : Nat := leAt h 28 4
def hIv (h : List Byte) : List Byte := sliceBytes h 32 8
def hDigest (h : List Byte) : List Byte := sliceBytes h 48 48
def hPub (h : List Byte) : List Byte := sliceBytes h 96 96
def hSig (h : List Byte) : List Byte := sliceBytes h 416 96

/-- Whether bytes `a` to `a + n - 1` are zero. -/
def zeroAt (h : List Byte) (a n : Nat) : Bool := (sliceBytes h a n).all (· == 0)

/-- Whether the device requires encryption or signatures of an image (spec 12 R482). -/
def requireEnc (s : State) : Bool := rdB s A.CFG_KEY_CTL F.CFG_KEY_CTL_REQUIRE_ENC
def requireSig (s : State) : Bool := rdB s A.CFG_KEY_CTL F.CFG_KEY_CTL_REQUIRE_SIG

/-- Check 5 and check 6 of R445: 0x11 or 0x12 where a signed header fails them, 0 otherwise. -/
def signCause (s : State) (h : List Byte) : Nat :=
  if !hSigned h then 0
  else if !([0, 1, 2, 3].any fun k => keyThere s 1 k && keyBytes s 1 k == sha384 (hPub h)) then 0x11
  else if ecdsaVerify (hPub h) (sha384 (sliceBytes h 0 416)) (hSig h) then 0 else 0x12

/-- The cause of the first check of R445 that a header fails, 0 where it passes all. DEDUCED (assumption log 43). -/
def headerCause (s : State) (h : List Byte) : Nat :=
  let fixed := leAt h 0 4 == 0x315A4C43 && leAt h 4 2 == 1 && leAt h 6 2 == 0x200 && leAt h 24 2 == 0x1640
  let zeros := decide (leAt h 8 4 < 16) && zeroAt h 14 2 && zeroAt h 40 8 && zeroAt h 192 224
    && (hEnc h || (zeroAt h 12 1 && zeroAt h 32 8)) && (hSigned h || (zeroAt h 48 144 && zeroAt h 416 96))
  if !fixed || !zeros || decide (hLen h < 16 ∨ 2 ^ 32 ≤ hLen h) then 0x01
  else if rd s A.ID_REVISION F.ID_REVISION_REV < leAt h 26 2 then 0x02
  else if (if hPartial h then decide (63 < hRegion h) else hRegion h != 0xFF || hIsolate h)
      || (hEnc h && (decide (3 < hSlot h) || !keyThere s 0 (hSlot h))) then 0x01
  else if (requireEnc s && !hEnc h) || (requireSig s && !hSigned h) then 0x10
  else signCause s h

/-- The status that goes with a cause (spec 12 R458); causes 0x06 and 0x21 carry their own. -/
def causeStatus (c : Nat) : Status :=
  if c = 0x01 ∨ c = 0x02 then .configSelect
  else if c = 0x03 then .length
  else if c = 0x04 then .configCrc
  else if c = 0x05 ∨ c = 0x08 ∨ c = 0x0A then .timeout
  else if c = 0x07 then .aborted
  else if c = 0x09 ∨ c = 0x20 then .configRegion
  else .configAuth

/-- The load fails: LOAD_FAILURE works it off (spec 12 R458). The first failure stands. -/
def failWith (s : State) (c : Nat) (st : Status) : State :=
  if s.load.fail.isSome then s else setLoad s (fun l => { l with fail := some (c, st) })
def failLoad (s : State) (c : Nat) : State := failWith s c (causeStatus c)

/-! ### The configuration reset (spec 12 R442, R467) -/

/-- A tile as the configuration reset leaves it; GW_BASE stays (spec 06 R227). DESIGN CHOICE (assumption log 44). -/
def coldTile (s : State) (i : Nat) : Tile :=
  let t := getT s i
  let n := resetTile s true i { t with static := factoryStatic (tileKind i), slots := [], ends := [] }
  let n := { n with activeAt := t.activeAt }
  match tileKind i with
  | .b => { n with b := { n.b with ownDev := devId s } }
  | .a => n
  | .m => n

/-- A sparse map built from a function over the tiles. -/
def tileMap (f : Nat → Tile) : SMap Tile :=
  (List.range 16384).filterMap (fun i => if f i = Tile.factory i then none else some (i, f i))

/-- Writes that wait in an ingress when WEN is withdrawn are answered (spec 12 R466). DESIGN CHOICE (assumption log 44). -/
def sweepWen (s : State) : State :=
  let es := s.eps.flatMap (fun x => x.2.ingress.filterMap (fun y => match y.2 with
    | some g => if wenBlocks s (placeOf s g.req.addr.toNat) g then some (x.1, y.1) else none
    | none => none))
  es.foldl (fun s x => answerDown s x.1 x.2) s

/-- The configuration reset: the state before start-up, invalid contexts, factory static frames (spec 12 R442, R467). A full load
sets every CFG_REGION to its reset value (R484). DESIGN CHOICE (assumption log 44). -/
def configReset (s : State) : State :=
  let s := (List.range 64).foldl (fun s f => releaseField s f .aborted) s
  let s := { s with tiles := tileMap (coldTile s), borrowed := [], saved := [], boot := {}
                    chain := { s.chain with released := false, valid := false, due := none } }
  let s := (List.range 64).foldl (fun s f => setR s (A.CFG_REGION f) 0) s
  sweepWen (stopAllLanes (wrStatus s F.CFG_STATUS_STEPS 0))

/-! ### Beginning a load -/

/-- Whether the device sends on its chain outputs: a leader or a follower (spec 12 R440, R461); 1 PER_DEVICE, 2 REPLICATE.
DEDUCED (assumption log 43). -/
def chainMode (s : State) : Nat :=
  if s.straps.bootSel = 0 ∨ s.straps.bootSel = 2 then rd s A.CFG_CHAIN_CTL F.CFG_CHAIN_CTL_MODE else 0
/-- Bytes sent: bits 3 to 0 of each on CHN_D with the rising edge of CHN_CLK, bits 7 to 4 with the falling one (spec 12 R460). -/
def chainSend (s : State) (bs : List Byte) : State :=
  if bs = [] then s
  else { s with chain := { s.chain with
    out := s.chain.out ++ bs
    edges := bs.flatMap (fun b => [BitVec.ofNat 4 b.toNat, BitVec.ofNat 4 (b.toNat / 16)])
    valid := true } }
/-- In REPLICATE every byte of the input is passed on (spec 12 R461). -/
def replicate (s : State) (bs : List Byte) : State := if chainMode s = 2 then chainSend s bs else s

/-- KDF of R451. -/
def be32 (n : Nat) : List Byte := (bytesLE 4 n).reverse
def ascii (l : List Nat) : List Byte := l.map (fun c => BitVec.ofNat 8 c)
def kdf (k label ctx : List Byte) : List Byte := hmacSha256 k (be32 1 ++ label ++ [0] ++ ctx ++ be32 0x100)
/-- key(0) of an image, and key(n + 1) (spec 12 R451, R454). -/
def firstKey (s : State) (h : List Byte) : List Byte := kdf (keyBytes s 0 (hSlot h)) (ascii [105, 109, 97, 103, 101]) (hIv h)
def nextKey (k : List Byte) (n : Nat) : List Byte := kdf k (ascii [114, 111, 108, 108]) (be32 n)

/-- CFG_PROGRESS (spec 12 R484). -/
def progress (s : State) : State :=
  let a := A.CFG_PROGRESS
  let l := s.load
  wr (wr (wr s a F.CFG_PROGRESS_SEGMENT (l.segs - 1)) a F.CFG_PROGRESS_KEY_INDEX l.keyIdx) a F.CFG_PROGRESS_BYTES
    (if l.took then 512 + l.stored.length else l.head.length)

/-- A load begins from source `src` (spec 12 R456, R462, R473). -/
def claimLoader (s : State) (src : Nat) : State :=
  let s := { s with load := { active := true, source := src, prior := cfgState s } }
  progress (wrStatus s F.CFG_STATUS_SOURCE src)

/-- The header has been read: its checks, in order; a full host load of a configured device needs FORCE_FULL (spec 12 R445, R468,
R473). What passes goes on to its configuration reset, or, in a partial load, to its body. DEDUCED (assumption log 41).
DEDUCED (assumption log 43). -/
def takeHeader (s : State) (h : List Byte) : State :=
  let s := reportLoad s 0x200 (detail [(s.load.source, 1), (hImage h, 4)])
  let s := progress (setLoad s (fun l => { l with took := true, head := [] }))
  if s.load.source = 4 ∧ cfgState s = 3 ∧ !hPartial h ∧ !rdB s A.CFG_CTL F.CFG_CTL_FORCE_FULL then failLoad s 0x01
  else
    let s := setLoad s (fun l => { l with hdr := h })
    let c := headerCause s h
    if c ≠ 0 then failLoad s c
    else if hPartial h then
      (if cfgState s ≠ 3 then failLoad s 0x01
       else
        let f := hRegion h
        let s := wrRegion (wrRegion s f F.CFG_REGION_STATE 1) f F.CFG_REGION_FRAMES 0
        setLoad s (fun l => { l with body := true, region := some f, key := if hEnc h then firstKey s h else [] }))
    else wrStatus (setLoad s (fun l => { l with resetDue := true, key := if hEnc h then firstKey s h else [] })) F.CFG_STATUS_STATE 1

/-- CONFIGURATION_RESET: the one that begins a full load (spec 12 R442). -/
def opConfigurationReset (s : State) : State :=
  if s.load.active && s.load.resetDue && s.load.fail.isNone then
    setLoad (configReset s) (fun l => { l with resetDue := false, body := true })
  else s

/-- The read of `n` bytes at `off` of the image in the flash: command 0xEE11 in octal DDR at OCT_MHZ (0 and above 200: 200 MHz), or
command 0x13 in 1-1-1 SDR at 50 MHz (spec 12 R456, R481). -/
def flashRead (s : State) (off n : Nat) : FlashOp :=
  let m := rd s A.CFG_FLASH_MAP F.CFG_FLASH_MAP_OCT_MHZ
  .read (if s.flash.ddr then 0xEE11 else 0x13) (s.flash.addr + off) n
    (if !s.flash.ddr then 50 else if m = 0 ∨ 200 < m then 200 else m) s.flash.ddr

/-- The flash is reset, its SFDP read, octal DDR entered where it may be, and the header read at the image address (spec 12 R456). -/
def openFlash (s : State) (golden ddr : Bool) : State :=
  let a := A.CFG_FLASH_MAP
  let s := { s with flash := { cs := rdB s a (if golden then F.CFG_FLASH_MAP_GOLDEN_CS else F.CFG_FLASH_MAP_PRIMARY_CS)
                               addr := 4096 * rd s a (if golden then F.CFG_FLASH_MAP_GOLDEN else F.CFG_FLASH_MAP_PRIMARY)
                               ddr := ddr } }
  wrStatus { s with flash := { s.flash with ops := [.reset, .sfdp] ++ (if ddr then [.enter] else []) ++ [flashRead s 0 512] } }
    F.CFG_STATUS_SDR (b2n (!ddr))

/-- FLASH_LOAD: the primary image after a reset with BOOT_SEL 0b00 or a RELOAD_FLASH, the golden image after its failure (spec 12
R440, R456, R458). -/
def opFlashLoad (golden sfdpOct : Bool) (h : List Byte) (s : State) : State :=
  if s.load.active || !(if golden then s.load.goldenDue else s.load.primaryDue) then s
  else
    let s := openFlash (claimLoader s (if golden then 2 else 1)) golden (sfdpOct && !rdB s A.CFG_FLASH_MAP F.CFG_FLASH_MAP_FORCE_SDR)
    takeHeader (replicate s h) h

/-- Bytes of a header from the chain; with its 512th byte it is judged (spec 12 R462). Bytes past it are no part of one command. -/
def takeHead (s : State) (h : List Byte) : State :=
  let hd := s.load.head ++ h
  if 512 < hd.length then s
  else
    let s := progress (setLoad (replicate s h) (fun l => { l with head := hd }))
    if hd.length = 512 then takeHeader s hd else s

/-- Whether a load runs or falls due: another one is not started (spec 12 R472, R480). -/
def loaderBusy (s : State) : Bool := s.load.active || s.load.primaryDue || s.load.goldenDue

/-- Whether a follower may start a load by its chain: none runs, or its own waits for CHN_DONE (spec 12 R462, R464). -/
def chainFree (s : State) : Bool := !loaderBusy s || (s.load.source == 3 && s.load.ended && !s.load.starting)

/-- CHAIN_START: a follower starts a load at the first byte of its image, and takes the bytes of the header as they come (spec 12
R462). A device that waits for CHN_DONE starts again; another load that runs stays, and the start is ignored (R472). -/
def opChainStart (h : List Byte) (s : State) : State :=
  if s.straps.bootSel ≠ 2 ∨ h = [] then s
  else if chainFree s then takeHead (claimLoader s 3) h
  else if s.load.source ≠ 3 then wrStatus s F.CFG_STATUS_START_IGNORED 1
  else if s.load.took ∨ s.load.fail.isSome then s
  else takeHead s h

/-- Whether CFG_SRC names a source of this device (spec 12 R473). -/
def srcAddr (s : State) : Nat := (getR s A.CFG_SRC).toNat
def srcOk (s : State) : Bool :=
  let a := srcAddr s
  let d := a % 2 ^ 48
  a / 2 ^ 48 == (devId s).toNat && a % 64 == 0 && (decide (d < 0x40000000) || (decide (0x800000000000 ≤ d) && isAnchor s))

/-- The tiles that bytes `a` to `a + n - 1` of tile space lie in, and the part of the bytes that lies in one: its offset and length. -/
def spanTiles (a n : Nat) : List Nat := if n = 0 then [] else (List.range ((a + n - 1) / 65536 + 1 - a / 65536)).map (· + a / 65536)
def tilePart (a n t : Nat) : Nat × Nat :=
  let lo := max a (65536 * t)
  (lo % 65536, min (a + n) (65536 * (t + 1)) - lo)

/-- The loader's read of tile space, as a request of its own master ID (spec 12 R473). -/
def loaderRead (s : State) : Ingress := { req := { net := .req, dst := 0, src := 0, dev := devId s, mst := 0x2000 }, wdata := some [], remote := false }

/-- The status with which the loader's read of `n` bytes at offset `off` of tile `t` fails (spec 03 R102; spec 06 R196; spec 07 R272;
spec 12 R473). -/
def tileReadFault (s : State) (t off n : Nat) : Option Status :=
  if 16384 ≤ t then some .badAddress
  else if fieldRefuses s (tileField t) (loaderRead s) then some .domainDown
  else match tileKind t with
    | .a => some .badAddress
    | .m =>
      if 0x2000 < off + n then some .badAddress
      else if (List.range ((off + n + 3) / 4 - off / 4)).any (fun k =>
          (xyWord s t (decide (1024 ≤ off / 4 + k)) ((off / 4 + k) % 1024)).tag == .poison) then some .eccUncorrected
      else none
    | .b => if (halves off n).any (fun h => halfErr s t (8 * h) == 2) then some .eccUncorrected else none

/-- The address in tile space of byte `off` of the image, where its source is the device's own tile space. -/
def tileSource (s : State) (off : Nat) : Option Nat :=
  let d := srcAddr s % 2 ^ 48
  if s.load.source = 4 ∧ d < 0x40000000 then some (d + off) else none

/-- Bytes of an image in the device's own tile space are those that stand there. -/
def srcAgrees (s : State) (off : Nat) (bs : List Byte) : Bool :=
  (tileSource s off).elim true (fun a => memRead s a bs.length == bs)

/-- What a read of tile space leaves in the tiles that it touches: the errors it meets are worked off (spec 03 R102; spec 06 R196). -/
def touchSource (s : State) (a n : Nat) : State :=
  (spanTiles a n).foldl (fun s t =>
    let x := tilePart a n t
    if 16384 ≤ t ∨ fieldRefuses s (tileField t) (loaderRead s) then s
    else match tileKind t with
      | .a => s
      | .m => (List.range ((x.1 + x.2 + 3) / 4 - x.1 / 4)).foldl (fun s k =>
          let w := x.1 / 4 + k
          if w < 2048 ∧ (xyWord s t (decide (1024 ≤ w)) (w % 1024)).tag = .poison then xyFail s t (decide (1024 ≤ w)) (w % 1024) else s) s
      | .b => (readHalves s t (halves x.1 x.2)).1) s

/-- The loader acts with the `n` bytes `bs` at `off` of the image that its source has given: bytes of the own tile space are read
there, and the read fails, waits for a field to wake, or gives what stands there (spec 07 R272; spec 12 R473; spec 13 R503). -/
def withSource (s : State) (off : Nat) (bs : List Byte) (act : State → State) : State :=
  match tileSource s off with
  | none => act s
  | some a =>
    let ts := spanTiles a bs.length
    match ts.findSome? (fun t => tileReadFault s t (tilePart a bs.length t).1 (tilePart a bs.length t).2) with
    | some st => failWith (touchSource s a bs.length) 0x06 st
    | none =>
      match ts.find? (fun t => [1, 5, 6, 7, 8].contains (pwrState s (tileField t))) with
      | some t => wakeReq s (tileField t)
      | none => if srcAgrees s off bs then act s else s

/-- The read of `n` bytes of the image at `off`: of the flash, of the own tile space, of a host window (spec 08 R292; spec 12 R456,
R473). -/
def askImage (s : State) (off n : Nat) : State :=
  if s.load.source = 1 ∨ s.load.source = 2 then { s with flash := { s.flash with ops := [flashRead s off n] } }
  else if s.load.source ≠ 4 then s
  else match tileSource s off with
  | some a => touchSource s a n
  | none => match windowOf (srcAddr s % 2 ^ 48 + off) with
    | some (w, o) => hostAsk s (rd s (A.WIN_CTL w) F.WIN_CTL_FUNC) (rd s (A.WIN_BASE w) F.WIN_BASE_ADDR * 4096 + o) n false
    | none => s

/-- Whether a host window lets the loader read at `off` of the image (spec 08 R292). -/
def imageOpen (s : State) (off : Nat) : Bool :=
  match windowOf (srcAddr s % 2 ^ 48 + off) with
  | some (w, o) => rdB s (A.WIN_CTL w) F.WIN_CTL_EN && decide (o < 2 ^ rd s (A.WIN_CTL w) F.WIN_CTL_SIZE_LOG2)
  | none => true

/-- The header of a host load arrives, or its read fails (spec 08 R292, R293; spec 12 R473, R484). -/
def hostHeader (s : State) (hdr : HostRead) : State :=
  if rd s A.CFG_SRC_LEN F.CFG_SRC_LEN_LEN < 512 then failLoad s 0x03
  else if !imageOpen s 0 then failWith s 0x06 .badAddress
  else match hdr with
    | .fail e => if (tileSource s 0).isSome then s else failWith (hostFails (askImage s 0 512) e) 0x06 (hostFailStatus e)
    | .ok bs => if bs.length = 512 then withSource s 0 bs (fun s => takeHeader (replicate (askImage s 0 512) bs) bs) else s

/-- START (spec 12 R472, R473). -/
def startHost (s : State) : State :=
  if loaderBusy s then wrStatus s F.CFG_STATUS_START_IGNORED 1
  else
    let s := claimLoader s 4
    if srcOk s then s else failWith s 0x06 .badAddress

/-- ABORT ends a load that runs, or a flash load that falls due (spec 12 R472, R480). -/
def abortLoad (s : State) : State :=
  if s.load.active then failLoad s 0x07
  else if s.load.primaryDue then failLoad (claimLoader s 1) 0x07
  else if s.load.goldenDue then failLoad (claimLoader s 2) 0x07
  else s

/-- A write of CFG_CTL by the warden (spec 12 R472, R473, R480): ABORT, then RELOAD_FLASH, then START.
DEDUCED (assumption log 40). DEDUCED (assumption log 43). -/
def writeCfgCtl (s : State) (v : Reg) : State :=
  let s := setR s A.CFG_CTL (writeFlds true L.CFG_CTL (getR s A.CFG_CTL) v)
  let s := if getFld v F.CFG_CTL_ABORT = 1 then abortLoad s else s
  let s := if getFld v F.CFG_CTL_RELOAD_FLASH ≠ 1 then s
    else if loaderBusy s then wrStatus s F.CFG_STATUS_START_IGNORED 1
    else
      let s := wrStatus (configReset s) F.CFG_STATUS_STATE 1
      { s with load := { primaryDue := true } }
  if getFld v F.CFG_CTL_START = 1 then startHost s else s

/-- Whether a host load waits for its header. -/
def awaitsHeader (s : State) : Bool := s.load.active && s.load.source == 4 && s.load.hdr == [] && s.load.fail.isNone

/-- START with the answer to the read of the header; where a load already waits for its header, the answer goes to it (spec 12
R473). -/
def opCfgStart (v : Reg) (hdr : HostRead) (s : State) : State :=
  if awaitsHeader s then hostHeader s hdr
  else
    let s := writeCfgCtl s v
    if getFld v F.CFG_CTL_START = 1 ∧ awaitsHeader s then hostHeader s hdr else s

/-- ABORT (spec 12 R472). -/
def opCfgAbort (v : Reg) (s : State) : State := writeCfgCtl s v
/-- RELOAD_FLASH (spec 12 R480). -/
def opReloadFlash (v : Reg) (s : State) : State := writeCfgCtl s v

/-! ### Commands of the body (spec 12 R446 to R455) -/

/-- Whether commands of the body may run. -/
def bodyRuns (s : State) : Bool := let l := s.load; l.active && l.body && !l.ended && !l.resetDue && l.fail.isNone

/-- Bytes that the body still has to give, as stored. -/
def bodyLeft (s : State) : Nat := hLen s.load.hdr - s.load.stored.length

/-- Bytes taken from the source; CFG_SRC_LEN bounds a host load (spec 12 R484). -/
def takeStored (s : State) (bs : List Byte) : State :=
  let s := askImage s (512 + s.load.stored.length) bs.length
  replicate (progress (setLoad s (fun l => { l with stored := l.stored ++ bs }))) bs
def srcRoom (s : State) (n : Nat) : Bool :=
  s.load.source != 4 || decide (512 + s.load.stored.length + n ≤ rd s A.CFG_SRC_LEN F.CFG_SRC_LEN_LEN)

/-- What the next command finds: not yet there, or its plaintext (cut where the body ends), and whether it is whole. -/
inductive BodyTake where
  | wait
  | got (s : State) (bs : List Byte) (whole : Bool)

/-- Take `need` bytes of plaintext (all that are left where the body ends before): from the decrypted segments, or, in an image
that is not encrypted, the bytes `raw` that the source has given (spec 12 R449, R453). -/
def takeBody (s : State) (raw : List Byte) (need : Nat) : BodyTake :=
  let l := s.load
  if hEnc l.hdr then
    if need ≤ l.plain.length then
      .got (setLoad s (fun l => { l with plain := l.plain.drop need })) (l.plain.take need) true
    else if bodyLeft s = 0 then .got (setLoad s (fun l => { l with plain := [] })) l.plain false
    else .wait
  else
    let n := min need (bodyLeft s)
    let m := if srcRoom s n then n else rd s A.CFG_SRC_LEN F.CFG_SRC_LEN_LEN - 512 - l.stored.length
    if raw.length = m then .got (takeStored s raw) raw (decide (m = need)) else .wait

/-- The next 16 bytes of the body: the command that they spell, as far as they are there. -/
def peekBody (s : State) (raw : List Byte) : List Byte := (if hEnc s.load.hdr then s.load.plain else raw).take 16

/-- Opcodes that R446 lists. -/
def imageOps : List Nat := [0, 1, 2, 3, 4, 5, 6, 0x0F]

/-- The bytes of a command that has its first 16 in the stream, with its payload; a CHAIN_PASS goes on as its payload comes. -/
def heldNeed (c : List Byte) : Nat := if leAt c 0 1 = 1 then 16 + 32 * (if bit (leAt c 1 1) 0 then 1 else leAt c 4 4) else 16

/-- A body command with opcode `op`: `need` says how many bytes it takes with its payload, `ok` whether its fields are in range,
`act` what it does with its bytes. A body that ends too early fails with TRUNCATED after what has come of it. Another known opcode
is another command's; an unknown one fails the load (spec 12 R446, R449). -/
def bodyStep (op : Nat) (raw : List Byte) (need : List Byte → Nat) (ok : State → List Byte → Bool)
    (act : State → List Byte → Bool → State) (s : State) : State :=
  let c := peekBody s raw
  if c.length < 16 then
    match takeBody s raw 16 with
    | .got s' _ false => failLoad s' 0x03
    | _ => s
  else
    let o := leAt c 0 1
    if !imageOps.contains o then failLoad s 0x01
    else if o ≠ op then s
    else if !zeroAt c 2 2 || !ok s c then failLoad s 0x01
    else match takeBody s raw (need c) with
      | .wait => s
      | .got s' bs whole =>
        let s'' := act s' bs whole
        let s'' := setLoad s'' (fun l => if l.active then { l with text := l.text ++ bs } else l)
        if whole then s'' else failLoad s'' 0x03

/-- A body command while the body may run: in an image that is not encrypted the source gives its bytes (spec 12 R446, R473). -/
def bodyCmd (op : Nat) (raw : List Byte) (need : List Byte → Nat) (ok : State → List Byte → Bool)
    (act : State → List Byte → Bool → State) (s : State) : State :=
  if !bodyRuns s then s
  else if hEnc s.load.hdr then bodyStep op raw need ok act s
  else if bodyLeft s < raw.length || !srcRoom s raw.length then s
  else withSource s (512 + s.load.stored.length) raw (bodyStep op raw need ok act)

def cFlags (c : List Byte) : Nat := leAt c 1 1
def cArg0 (c : List Byte) : Nat := leAt c 4 4
def cArg1 (c : List Byte) : Nat := leAt c 8 8

/-- NOP (spec 12 R446). -/
def opImageNop (raw : List Byte) (s : State) : State :=
  bodyCmd 0 raw (fun _ => 16) (fun _ c => cFlags c == 0 && cArg0 c == 0 && cArg1 c == 0) (fun s _ _ => s) s

/-- One frame of WRITE_FRAMES to slot `slot` of tile `i` (spec 12 R447, R448, R469, R470, R472).
DEDUCED (assumption log 42). DEDUCED (assumption log 46). -/
def putFrame (s : State) (i slot : Nat) (c : Frame) : State :=
  if s.load.fail.isSome then s
  else if (match s.load.region with | some f => decide (tileField i ≠ f) | none => false) then failLoad s 0x20
  else
    let st := frameCheck i slot c
    if st ≠ .ok then failWith s 0x21 st
    else if !hPartial s.load.hdr then engineStore s i slot c
    else
      let f := hRegion s.load.hdr
      if pwrState s f = 6 then failLoad s 0x0A
      else if slot = 16 then setLoad s (fun l => { l with staged := smSet (BitVec.ofNat 256 0) l.staged i c })
      else if (userTile s i).cur.val = slot then failLoad s 0x09
      else
        let s := setLoad (engineStore s i slot c) (fun l =>
          { l with written := if l.written.contains (32 * i + slot) then l.written else l.written ++ [32 * i + slot] })
        wrRegion s f F.CFG_REGION_FRAMES s.load.written.length

/-- WRITE_FRAMES (spec 12 R447): the frames in order, until one fails. -/
def opWriteFrames (raw : List Byte) (s : State) : State :=
  let repl := fun (c : List Byte) => bit (cFlags c) 0
  bodyCmd 1 raw (fun c => 16 + 32 * (if repl c then 1 else cArg0 c))
    (fun _ c => decide (cFlags c < 2 ∧ 1 ≤ cArg0 c ∧ cArg0 c ≤ 16384 ∧ cArg1 c < 2 ^ 19)
      && decide (cArg1 c / 32 + cArg0 c ≤ 16384))
    (fun s bs _ =>
      let n := cArg0 bs
      let i0 := cArg1 bs / 32
      let slot := cArg1 bs % 32
      let have_ := (bs.length - 16) / 32
      let m := if repl bs then (if have_ = 0 then 0 else n) else min n have_
      (List.range m).foldl (fun s k => putFrame s (i0 + k) slot (frameOf (sliceBytes bs (16 + if repl bs then 0 else 32 * k) 32))) s) s

/-- SELECT_REGION (spec 12 R448). -/
def opSelectRegion (raw : List Byte) (s : State) : State :=
  bodyCmd 2 raw (fun _ => 16)
    (fun s c => cFlags c == 0 && cArg1 c == 0 && decide (cArg0 c < 64 ∨ cArg0 c = 0x7F)
      && (!hPartial s.load.hdr || cArg0 c == hRegion s.load.hdr))
    (fun s c _ => setLoad s (fun l => { l with region := if cArg0 c = 0x7F then none else some (cArg0 c) })) s

/-- ROLL: the last command of a segment of an encrypted image (spec 12 R449, R454). -/
def opRoll (raw : List Byte) (s : State) : State :=
  bodyCmd 3 raw (fun _ => 16)
    (fun s c => cFlags c == 0 && cArg0 c == 0 && cArg1 c == 0 && hEnc s.load.hdr && s.load.plain.length == 16)
    (fun s _ _ => progress (setLoad s (fun l => { l with key := nextKey l.key l.keyIdx, keyIdx := l.keyIdx + 1, keyBytes := 0 }))) s

/-- Payload bytes of a CHAIN_PASS: in PER_DEVICE they leave (spec 12 R461). -/
def passOn (s : State) (bs : List Byte) : State := if chainMode s = 1 then chainSend s bs else s

/-- CHAIN_PASS (spec 12 R449, R461): in an encrypted image its payload leaves segment by segment, as each is authenticated. -/
def opChainPass (raw : List Byte) (s : State) : State :=
  bodyCmd 4 raw (fun c => 16 + (if hEnc s.load.hdr then min (cArg0 c) (s.load.plain.length - 16) else cArg0 c))
    (fun s c => cFlags c == 0 && cArg1 c == 0 && cArg0 c != 0 && !hPartial s.load.hdr
      && rd s A.CFG_CHAIN_CTL F.CFG_CHAIN_CTL_MODE == 1)
    (fun s bs _ =>
      let s := setLoad (passOn s (bs.drop 16)) (fun l => { l with pass := if hEnc l.hdr then cArg0 bs - (bs.length - 16) else 0 })
      if s.load.pass ≠ 0 ∧ bodyLeft s = 0 then failLoad s 0x03 else s) s

/-- Plaintext that a segment has given: the bytes that a CHAIN_PASS still wants leave, the others wait for their commands (spec 12 R453,
R461). -/
def takePlain (s : State) (pt : List Byte) : State :=
  let k := min s.load.pass pt.length
  let s := setLoad (passOn s (pt.take k)) (fun l => { l with pass := l.pass - k, text := l.text ++ pt.take k, plain := l.plain ++ pt.drop k })
  if s.load.pass ≠ 0 ∧ bodyLeft s = 0 then failLoad s 0x03 else s

/-- Whether the plaintext taken so far holds a whole command: it is performed before the next segment is opened (spec 12 R449, R453,
R454). DEDUCED (assumption log 43). -/
def commandHeld (s : State) : Bool :=
  s.load.pass == 0 && decide (16 ≤ s.load.plain.length ∧ heldNeed s.load.plain ≤ s.load.plain.length)

/-- Whether a start-up order word names each step once (spec 12 R465), and its steps in order. -/
def orderSteps (w : Nat) : List Nat := [bitsOf w 1 0, bitsOf w 3 2, bitsOf w 5 4, bitsOf w 7 6]
def orderOk (w : Nat) : Bool := [0, 1, 2, 3].all (fun c => (orderSteps w).contains c)

/-- STARTUP (spec 12 R449, R465). -/
def opStartup (raw : List Byte) (s : State) : State :=
  bodyCmd 5 raw (fun _ => 16)
    (fun s c => cFlags c == 0 && cArg1 c == 0 && decide (cArg0 c < 256) && orderOk (cArg0 c) && !hPartial s.load.hdr
      && s.load.order.isNone)
    (fun s c _ => setLoad s (fun l => { l with order := some (cArg0 c) })) s

/-- The CRC-32C of the plaintext body so far (spec 12 R450). -/
def bodyCrc (s : State) : Nat := crc32c s.load.text

/-- CRC (spec 12 R450). -/
def opCrc (raw : List Byte) (s : State) : State :=
  bodyCmd 6 raw (fun _ => 16) (fun _ c => cFlags c == 0 && cArg1 c == 0)
    (fun s c _ => if bodyCrc s = cArg0 c then s else failLoad s 0x04) s

/-- A partial load completes (spec 12 R471, R484). -/
def partialDone (s : State) : State :=
  let f := hRegion s.load.hdr
  let im := hImage s.load.hdr
  let s := wrRegion (wrRegion (wrRegion s f F.CFG_REGION_IMAGE_ID im) f F.CFG_REGION_LAST_STATUS 0) f F.CFG_REGION_STATE 0
  let s := wrStatus (wrStatus s F.CFG_STATUS_CAUSE 0) F.CFG_STATUS_LAST_STATUS 0
  reportLoad { s with load := {} } 0x205 (detail [(f, 1), (im, 4)])

/-- After END has passed: a full image goes on to start-up, a partial one to its static frames (spec 12 R463, R465, R470).
DEDUCED (assumption log 43). -/
def bodyEnded (s : State) : State :=
  let s := setLoad s (fun l => { l with ended := true })
  let h := s.load.hdr
  if !hPartial h then
    let w := s.load.order.getD (rd s A.CFG_STARTUP_ORDER F.CFG_STARTUP_ORDER_DEFAULT)
    let go := !rdB s A.CFG_CHAIN_CTL F.CFG_CHAIN_CTL_USE_DONE
    let s := setLoad s (fun l => { l with order := some w, steps := orderSteps w, starting := go })
    let s := wrStatus (wr s A.CFG_STARTUP_ORDER F.CFG_STARTUP_ORDER_IN_USE w) F.CFG_STATUS_STATE 2
    { s with chain := { s.chain with released := true
                                     due := if s.straps.bootSel = 0 ∧ chainMode s ≠ 0 then some s.load.text.length else none } }
  else
    let f := hRegion h
    if pwrState s f = 6 then failLoad s 0x0A
    else if s.load.staged = [] then partialDone s
    else if hIsolate h then
      let s := wrRegion s f F.CFG_REGION_STATE 2
      setLoad (setTarget s f 1) (fun l => { l with isoAsked := true })
    else if isolated s f then wrRegion s f F.CFG_REGION_STATE 2
    else failLoad s 0x20

/-- END (spec 12 R449, R450, R455). In an image that is not encrypted `raw` holds what follows END in the body as well. -/
def opEndImage (raw : List Byte) (s : State) : State :=
  let all := if hEnc s.load.hdr then s.load.plain.length else bodyLeft s
  bodyCmd 0x0F raw (fun _ => max 16 all)
    (fun s c => cFlags c == 0 && cArg1 c == 0 && (!hEnc s.load.hdr || bodyLeft s == 0))
    (fun s bs whole =>
      if !whole then s
      else if bodyCrc s ≠ cArg0 bs then failLoad s 0x04
      else if !(bs.drop 16).all (· == 0) then failLoad s 0x01
      else if hSigned s.load.hdr && sha384 s.load.stored != hDigest s.load.hdr then failLoad s 0x15
      else bodyEnded s) s

/-- SEGMENT_DECRYPT: a whole segment is held, its tag checked, its plaintext taken (spec 12 R452 to R454).
DEDUCED (assumption log 43). -/
def opSegmentDecrypt (seg : List Byte) (s : State) : State :=
  if !bodyRuns s || !hEnc s.load.hdr || commandHeld s then s else
  withSource s (512 + s.load.stored.length) seg (fun s =>
  let left := bodyLeft s
  let n := leAt seg 0 4
  if left = 0 then s
  else if left < 8 then failLoad s 0x13
  else if seg.length < 8 then s
  else if !zeroAt seg 4 4 || decide (n < 16 ∨ 1048576 < n ∨ n % 16 ≠ 0 ∨ left < n + 24) then failLoad s 0x13
  else if !srcRoom s (n + 24) then failLoad s 0x03
  else if seg.length ≠ n + 24 then s
  else
    let j := s.load.segs
    let s := takeStored (setLoad s (fun l => { l with segs := j + 1 })) seg
    match aesGcmOpen s.load.key (hIv s.load.hdr ++ be32 j) (seg.take 8) ((seg.drop 8).take n) (seg.drop (8 + n)) with
    | none => failLoad s 0x13
    | some pt =>
      let s := setLoad s (fun l => { l with keyBytes := l.keyBytes + n })
      if max 1 (rd s A.CFG_KEY_CTL F.CFG_KEY_CTL_ROLL_MAX) * 1048576 < s.load.keyBytes then failLoad s 0x14 else takePlain s pt)

/-- LOAD_TIMEOUT (spec 12 R457). -/
def opLoadTimeout (s : State) : State :=
  if s.load.active ∧ [1, 2, 3].contains s.load.source ∧ !s.load.ended then failLoad s 0x05 else s

/-- CHAIN_ABANDON (spec 12 R462). -/
def opChainAbandon (s : State) : State :=
  if s.load.active ∧ s.load.source = 3 ∧ !s.load.ended then failLoad s 0x08 else s

/-- STATIC_FRAME_COMMIT: the staged static frames of a partial load; the queues of the field's B-tiles end empty, their banks with the
default owner (spec 12 R467, R470). DEDUCED (assumption log 42). -/
def opStaticFrameCommit (s : State) : State :=
  let l := s.load
  let f := hRegion l.hdr
  if l.active && l.ended && hPartial l.hdr && l.fail.isNone && isolated s f then
    let s := l.staged.foldl (fun s x => engineStore s x.1 16 x.2) s
    let s := ((List.range 256).map (· + 256 * f)).foldl (fun s i => if tileKind i = .b then staticQueues s i else s) s
    let s := wrRegion s f F.CFG_REGION_FRAMES (l.written.length + l.staged.length)
    let s := if l.isoAsked then setTarget s f 0 else s
    partialDone s
  else s

/-- ISOLATE_TIMEOUT (spec 12 R470, R472). -/
def opIsolateTimeout (s : State) : State :=
  if s.load.active && s.load.isoAsked && !isolated s (hRegion s.load.hdr) then failLoad s 0x0A else s

/-- CHAIN_ERROR: CHN_DONE still low 2 s after the leader's own END, whether or not its start-up waited for it (spec 12 R464). The load
that END completed fails; where it is over, it stands again for LOAD_FAILURE. DEDUCED (assumption log 43). -/
def opChainError (s : State) : State :=
  match s.chain.due with
  | none => s
  | some off =>
    let s := reportLoad { s with chain := { s.chain with due := none, valid := false } } 0x208 []
    if s.load.active ∧ s.load.ended ∧ !hPartial s.load.hdr then failLoad s 0x08
    else failLoad { s with load := { active := true, source := rd s A.CFG_STATUS F.CFG_STATUS_SOURCE, took := true, ended := true
                                     offset := some off } } 0x08

/-! ### Failure (spec 12 R458, R471, R473) -/

/-- A failed partial load is undone (spec 12 R471). -/
def undoPartial (s : State) (c : Nat) (st : Status) : State :=
  let f := hRegion s.load.hdr
  let l := s.load
  let s := if l.isoAsked then setTarget s f 0 else s
  let s := l.written.foldl (fun s x =>
    engineStore s (x / 32) (x % 32) (clearFmt (slotFrame (getT s (x / 32)) (x % 32)))) s
  let s := { s with load := {} }
  if 64 ≤ f then s
  else
    let s := wrRegion (wrRegion s f F.CFG_REGION_LAST_STATUS (statusCode st)) f F.CFG_REGION_STATE 3
    let s := wrRegion s f F.CFG_REGION_FRAMES l.written.length
    reportLoad s 0x206 (detail [(f, 1), (c, 1)])

/-- The device is left unconfigured or failed, after a configuration reset. -/
def dropConfig (s : State) (state : Nat) (golden : Bool) : State :=
  let s := wrStatus (configReset s) F.CFG_STATUS_STATE state
  { s with load := { goldenDue := golden } }

/-- The statuses with which a read fails: neither success nor the code that only NACK flits carry (spec 00 R13; spec 07 R270). -/
def isFailure (st : Status) : Bool := st != .ok && st != .partialEnd && st != .busyRetry

/-- LOAD_FAILURE: a failure, or the failed read of a running load's source, is worked off (spec 12 R458, R462, R471, R473).
DEDUCED (assumption log 40). DEDUCED (assumption log 41). DEDUCED (assumption log 43). -/
def opLoadFailure (rdst : Option Status) (s : State) : State :=
  let s := match rdst with
    | some st => if s.load.active ∧ !s.load.ended ∧ isFailure st ∧ tileSource s 0 = none then failWith s 0x06 st else s
    | none => s
  match s.load.fail with
  | none => s
  | some (c, st) =>
    let src := s.load.source
    let s := wrStatus (wrStatus s F.CFG_STATUS_CAUSE c) F.CFG_STATUS_LAST_STATUS (statusCode st)
    let s := reportLoad s 0x201 (detail [(c, 1), (s.load.offset.getD s.load.text.length, 4)])
    if src = 1 then dropConfig (reportLoad s 0x202 (detail [(c, 1)])) 0 true
    else if src = 2 then reportLoad (dropConfig s 4 false) 0x203 (detail [(c, 1)])
    else if hPartial s.load.hdr then undoPartial s c st
    else if src = 3 then dropConfig s 0 false
    else if s.load.hdr = [] ∧ !s.load.ended then wrStatus { s with load := {} } F.CFG_STATUS_STATE s.load.prior
    else dropConfig s 4 false

/-! ### Start-up (spec 12 R463 to R466) -/

/-- CHN_DONE_START: CHN_DONE has read high; a load that waits for it begins its start-up (spec 12 R463, R464). -/
def opChnDoneStart (s : State) : State :=
  if !s.chain.released then s
  else
    let s := { s with chain := { s.chain with due := none } }
    let l := s.load
    if l.active && l.ended && !hPartial l.hdr && !l.starting && l.fail.isNone then setLoad s (fun l => { l with starting := true }) else s

/-- Whether step code `c` is the next step of the start-up. -/
def stepDue (s : State) (c : Nat) : Bool :=
  s.load.active && s.load.starting && s.load.fail.isNone && s.load.steps.head? == some c

/-- Step code `c` is done; after the last the device is configured (spec 12 R465, R466). -/
def stepDone (s : State) (c : Nat) : State :=
  let s := wrStatus s F.CFG_STATUS_STEPS (Nat.lor (rd s A.CFG_STATUS F.CFG_STATUS_STEPS) (2 ^ c))
  let s := setLoad s (fun l => { l with steps := l.steps.drop 1 })
  if s.load.steps ≠ [] then s
  else
    let w := s.load.order.getD 0xE4
    let s := wrStatus (wrStatus s F.CFG_STATUS_STATE 3) F.CFG_STATUS_IMAGE_ID (hImage s.load.hdr)
    let s := wrStatus (wrStatus s F.CFG_STATUS_CAUSE 0) F.CFG_STATUS_LAST_STATUS 0
    let s := reportLoad { s with load := {} } 0x204 (detail [(w, 1)])
    raiseIf s (rdB s A.CFG_CTL F.CFG_CTL_IE) 1

/-- The burners not calibrated yet (spec 12 R466). -/
def openBurners (s : State) : List Nat := (List.range 64).filter (fun f => !(getFS s f).calibrated)
/-- Enabled lanes whose TX PLL has no lock: those without a reference clock (spec 12 R466; spec 15 R566). DEDUCED (assumption
log 45). -/
def openPlls (s : State) : List Nat := (List.range 112).filter (fun l => laneEn s l && !laneClock s l)

/-- WAIT_LOCK: every burner calibrated and every PLL locked, or 10 ms past (spec 12 R466). DEDUCED (assumption log 45). -/
def opWaitLock (late : Bool) (s : State) : State :=
  if !stepDue s 0 then s
  else if openBurners s = [] ∧ openPlls s = [] then stepDone s 0
  else if late then
    stepDone (reportLoad (wrStatus s F.CFG_STATUS_LOCK_LATE 1) 0x207 (detail [((openBurners s).length, 1), ((openPlls s).length, 1)])) 0
  else s

/-- OUT (spec 12 R466). -/
def opOutStep (s : State) : State :=
  if stepDue s 1 then stepDone (startAllLanes { s with boot := { s.boot with out := true } }) 1 else s

/-- WEN (spec 12 R466). -/
def opWen (s : State) : State := if stepDue s 2 then stepDone { s with boot := { s.boot with wen := true } } 2 else s

/-- SRST: tile set/reset is released; an idle field's tiles ask for its clock (spec 12 R466).
DEDUCED (assumption log 46). -/
def opSrst (s : State) : State :=
  if stepDue s 3 then
    let s := { s with boot := { s.boot with srst := true } }
    stepDone (((List.range 64).filter (fun f => pwrState s f == 1)).foldl wakeReq s) 3
  else s

/-! ### The auditor (spec 12 R475 to R477) -/

def reportAudit (s : State) (code : Nat) (det : List Byte) : State := report s 199 (unitDev s) code det

/-- AUDITOR_CHECK: the next stored frame is read and checked (spec 12 R475, R476). -/
def opAuditorCheck (s : State) : State :=
  let p := s.auditPos
  let i := p / 17
  let slot := p % 17
  let c := slotFrame (getT s i) slot
  let a := A.CFG_AUDIT_STATUS
  let s := { s with auditPos := (p + 1) % 278528 }
  let s := if p + 1 = 278528 then wr s a F.CFG_AUDIT_STATUS_PASSES (rd s a F.CFG_AUDIT_STATUS_PASSES + 1) else s
  if cFmt c = 0 ∨ fb c 15 0 = frameCrc c then s
  else
    let s := bump s a F.CFG_AUDIT_STATUS_MISMATCH_CNT 1
    let s := wr (wr s a F.CFG_AUDIT_STATUS_LAST_BAD (32 * i + slot)) a F.CFG_AUDIT_STATUS_MISMATCH 1
    let s := reportAudit s 0x2A0 (detail [(32 * i + slot, 3)])
    let s := raiseIf s (rdB s A.CFG_AUDIT_CTL F.CFG_AUDIT_CTL_IE && !rdB s A.CFG_CTL F.CFG_CTL_IE) 1
    if rdB s A.CFG_AUDIT_CTL F.CFG_AUDIT_CTL_ACTION ∧ slot < 16 then engineStore s i slot (clearFmt c) else s

/-- AUDITOR_SELF_CHECK: at the end of a pass (spec 12 R477). -/
def opAuditorSelfCheck (ok : Bool) (s : State) : State :=
  if s.auditPos ≠ 0 ∨ ok then s
  else reportAudit (wr s A.CFG_AUDIT_STATUS F.CFG_AUDIT_STATUS_SELF_FAIL 1) 0x2A1 []

/-- AUDITOR_VOTE (spec 12 R477). -/
def opAuditorVote (reg : BitVec 8) (s : State) : State :=
  reportAudit (wr s A.CFG_AUDIT_STATUS F.CFG_AUDIT_STATUS_VOTED 1) 0x2A2 (detail [(reg.toNat, 1)])

/-! ### Registers of the CFG block (spec 12 R481, R482) -/

/-- A write of CFG_STARTUP_ORDER: a DEFAULT that is no order is discarded. -/
def writeOrder (s : State) (v : Reg) : State :=
  let w := getFld v F.CFG_STARTUP_ORDER_DEFAULT
  if orderOk w then wr s A.CFG_STARTUP_ORDER F.CFG_STARTUP_ORDER_DEFAULT w else s

/-- A write of CFG_KEY_CTL: LOCK holds the others until cold reset. -/
def writeCfgKeys (s : State) (v : Reg) : State :=
  let a := A.CFG_KEY_CTL
  let s := if rdB s a F.CFG_KEY_CTL_LOCK then s else setR s a (writeFlds true L.CFG_KEY_CTL (getR s a) v)
  if getFld v F.CFG_KEY_CTL_LOCK = 1 then wr s a F.CFG_KEY_CTL_LOCK 1 else s

/-- A write of CFG_CHAIN_CTL: MODE 0b11 is discarded. -/
def writeChainCtl (s : State) (v : Reg) : State :=
  let a := A.CFG_CHAIN_CTL
  let fs := F.CFG_CHAIN_CTL_USE_DONE :: (if getFld v F.CFG_CHAIN_CTL_MODE = 3 then [] else [F.CFG_CHAIN_CTL_MODE])
  setR s a (writeFlds true fs (getR s a) v)

/-- CFG_ERR_N is driven low, CHN_DONE is released (spec 12 R459, R463, R467). -/
def cfgErrLow (s : State) : Bool := cfgState s == 4
def chnDoneReleased (s : State) : Bool := s.chain.released

/-! ### The meanings of the commands of this file -/

/-- CONFIGURATION_RESET (spec 12 R442). -/
def execConfigurationReset (s : State) : Host.Outcome State Fault Refusal := .next (opConfigurationReset s)
/-- FLASH_LOAD (spec 12 R456). -/
def execFlashLoad (golden : Bool) (sfdpOct : Bool) (hdr : List Byte) (s : State) : Host.Outcome State Fault Refusal :=
  if hdr.length = 512 then .next (engine (opFlashLoad golden sfdpOct hdr) s) else .fault .illFormed
/-- SEGMENT_DECRYPT (spec 12 R453). -/
def execSegmentDecrypt (seg : List Byte) (s : State) : Host.Outcome State Fault Refusal := .next (engine (opSegmentDecrypt seg) s)
/-- IMAGE_NOP (spec 12 R446). -/
def execImageNop (raw : List Byte) (s : State) : Host.Outcome State Fault Refusal := .next (engine (opImageNop raw) s)
/-- WRITE_FRAMES (spec 12 R447). -/
def execWriteFrames (raw : List Byte) (s : State) : Host.Outcome State Fault Refusal := .next (engine (opWriteFrames raw) s)
/-- SELECT_REGION (spec 12 R448). -/
def execSelectRegion (raw : List Byte) (s : State) : Host.Outcome State Fault Refusal := .next (engine (opSelectRegion raw) s)
/-- ROLL (spec 12 R454). -/
def execRoll (raw : List Byte) (s : State) : Host.Outcome State Fault Refusal := .next (engine (opRoll raw) s)
/-- CHAIN_PASS (spec 12 R461). -/
def execChainPass (raw : List Byte) (s : State) : Host.Outcome State Fault Refusal := .next (engine (opChainPass raw) s)
/-- STARTUP (spec 12 R465). -/
def execStartup (raw : List Byte) (s : State) : Host.Outcome State Fault Refusal := .next (engine (opStartup raw) s)
/-- CRC (spec 12 R450). -/
def execCrcCmd (raw : List Byte) (s : State) : Host.Outcome State Fault Refusal := .next (engine (opCrc raw) s)
/-- END (spec 12 R455). -/
def execEndImage (raw : List Byte) (s : State) : Host.Outcome State Fault Refusal := .next (engine (opEndImage raw) s)
/-- LOAD_TIMEOUT (spec 12 R457). -/
def execLoadTimeout (s : State) : Host.Outcome State Fault Refusal := .next (engine opLoadTimeout s)
/-- LOAD_FAILURE (spec 12 R458). -/
def execLoadFailure (read : Option Status) (s : State) : Host.Outcome State Fault Refusal := .next (engine (opLoadFailure read) s)
/-- CHAIN_START (spec 12 R462). -/
def execChainStart (hdr : List Byte) (s : State) : Host.Outcome State Fault Refusal :=
  if 1 ≤ hdr.length ∧ hdr.length ≤ 512 then .next (engine (opChainStart hdr) s) else .fault .illFormed
/-- CHAIN_ABANDON (spec 12 R462). -/
def execChainAbandon (s : State) : Host.Outcome State Fault Refusal := .next (engine opChainAbandon s)
/-- CHN_DONE_START (spec 12 R463). -/
def execChnDoneStart (s : State) : Host.Outcome State Fault Refusal := .next (engine opChnDoneStart s)
/-- CHAIN_ERROR (spec 12 R464). -/
def execChainError (s : State) : Host.Outcome State Fault Refusal := .next (engine opChainError s)
/-- WAIT_LOCK (spec 12 R466). -/
def execWaitLock (late : Bool) (s : State) : Host.Outcome State Fault Refusal := .next (engine (opWaitLock late) s)
/-- OUT (spec 12 R466). -/
def execOutStep (s : State) : Host.Outcome State Fault Refusal := .next (engine opOutStep s)
/-- WEN (spec 12 R466). -/
def execWen (s : State) : Host.Outcome State Fault Refusal := .next (engine opWen s)
/-- SRST (spec 12 R466). -/
def execSrst (s : State) : Host.Outcome State Fault Refusal := .next (engine opSrst s)
/-- STATIC_FRAME_COMMIT (spec 12 R470). -/
def execStaticFrameCommit (s : State) : Host.Outcome State Fault Refusal := .next (engine opStaticFrameCommit s)
/-- ISOLATE_TIMEOUT (spec 12 R470). -/
def execIsolateTimeout (s : State) : Host.Outcome State Fault Refusal := .next (engine opIsolateTimeout s)
/-- START (spec 12 R473). -/
def execCfgStart (value : Reg) (hdr : HostRead) (s : State) : Host.Outcome State Fault Refusal :=
  .next (hostAccess (opCfgStart value hdr) s)
/-- ABORT (spec 12 R472). -/
def execCfgAbort (value : Reg) (s : State) : Host.Outcome State Fault Refusal := .next (hostAccess (opCfgAbort value) s)
/-- RELOAD_FLASH (spec 12 R480). -/
def execReloadFlash (value : Reg) (s : State) : Host.Outcome State Fault Refusal := .next (hostAccess (opReloadFlash value) s)
/-- AUDITOR_CHECK (spec 12 R475). -/
def execAuditorCheck (s : State) : Host.Outcome State Fault Refusal := .next (engine opAuditorCheck s)
/-- AUDITOR_SELF_CHECK (spec 12 R477). -/
def execAuditorSelfCheck (ok : Bool) (s : State) : Host.Outcome State Fault Refusal := .next (engine (opAuditorSelfCheck ok) s)
/-- AUDITOR_VOTE (spec 12 R477). -/
def execAuditorVote (reg : BitVec 8) (s : State) : Host.Outcome State Fault Refusal := .next (engine (opAuditorVote reg) s)

end Sys2Proof.Machine
end

