-- ==== Sys2Proof/Machine/Resets.lean ====
section
/-! DEFINITION. The defaults image (spec 14 R541 to R545) and the resets of the device (spec 13 R516; spec 14 R530, R534; spec 08
R328). -/

namespace Sys2Proof.Machine

/-! ### The defaults image -/

/-- The bytes of a defaults slot, 0 A, 1 B (spec 14 R538). -/
def slotBytes (s : State) (slot a n : Nat) : List Byte := nvRead s (slot * 65536 + a) n

/-- The sections of a body, or `none` where its structure is not that of R542: each section's type and payload; END, with no
payload, comes last and fills the body. DEDUCED (assumption log 48). -/
def sections : Nat → List Byte → Option (List (Nat × List Byte))
  | 0, _ => none
  | n + 1, bs =>
    if bs.length < 8 then none
    else
      let ty := leAt bs 0 2
      let len := leAt bs 4 4
      let body := (bs.drop 8).take len
      let fits := decide (bs.length - 8 ≥ len) && len % 8 == 0 && zeroAt bs 2 2
        && (if ty = 0 then len == 0 && bs.length == 8
            else if ty = 1 then len % 24 == 0
            else if ty = 2 then len == 3584
            else if ty = 3 then len == 8 && body.all (fun b => decide (b.toNat < 3))
            else if ty = 4 then len == 8 && zeroAt body 4 4
            else true)
      if !fits then none
      else if ty = 0 then some []
      else (sections n (bs.drop (8 + len))).map (fun l => (ty, body) :: l)

/-- The check of a defaults slot: a cause of R458, 0 where it passes (spec 14 R541, R544). DEDUCED (assumption log 48). -/
def slotCheck (s : State) (slot : Nat) : Nat :=
  let h := slotBytes s slot 0 512
  let len := hLen h
  let fixed := leAt h 0 4 == 0x445A4C43 && leAt h 4 2 == 1 && leAt h 6 2 == 0x200 && leAt h 24 2 == 0x1640
  let zeros := (leAt h 8 4 == 0 || leAt h 8 4 == 2) && zeroAt h 12 4 && zeroAt h 36 12 && zeroAt h 192 224
    && (hSigned h || (zeroAt h 48 144 && zeroAt h 416 96))
  if !fixed || !zeros || decide (len < 16 ∨ 65024 < len) then 0x01
  else if rd s A.ID_REVISION F.ID_REVISION_REV < leAt h 26 2 then 0x02
  else if ([0, 1, 2, 3].any fun k => keyThere s 1 k) && !hSigned h then 0x10
  else
    let c := signCause s h
    let body := slotBytes s slot 512 len
    if c ≠ 0 then c
    else if crc32c body ≠ leAt h 32 4 then 0x04
    else if hSigned h && sha384 body != hDigest h then 0x15
    else if (sections 8128 body).isNone then 0x01 else 0

/-- The factory value of a register: its reset value, at the grade's maxima (spec 13 R519, R520). -/
def factoryReg (s : State) (off : Nat) : Reg :=
  let v := regReset off
  if !grade16 s then v
  else if inRow off 0x300010 64 0x40 then setFld v F.PWR_CLK_FREQ 88
  else if off = A.PWR_CEILING then setFld v F.PWR_CEILING_WATTS 360 else v

/-- The img fields that a mask touches, and whether the mask covers nothing else. -/
def imgFields (fs : List Fld) (mask : Reg) : List Fld := fs.filter (fun f => f.img && (f.mask &&& mask) != 0)
def maskOk (fs : List Fld) (mask : Reg) : Bool := (mask &&& ~~~((fs.filter (·.img)).foldl (fun m f => m ||| f.mask) 0)) == 0

/-- What an overlay brings beside the register: FAB_COORD.ID (spec 14 R543), a clamped FREQ (spec 13 R490), a group's EN (spec 06
R242). -/
def overlayEffect (s : State) (off : Nat) (mask : Reg) : State :=
  if off = A.FAB_COORD ∧ getFld mask F.FAB_COORD_ID ≠ 0 then
    wr (wr s off F.FAB_COORD_VALID 1) off F.FAB_COORD_SOURCE 1
  else if inRow off 0x300010 64 0x40 then (if getFld mask F.PWR_CLK_FREQ ≠ 0 then clampFreq s ((off - 0x300010) / 0x40) else s)
  else match (List.range 16).find? (fun n => gCtl n == off) with
    | some n => if rdB s off F.GRP_CTL_EN && gState s n == 0 then gSetState s n 1 else s
    | none => s

/-- A skipped section or entry counts (spec 14 R542, R543). -/
def skipped (s : State) : State := bump s A.NVI_STATUS F.NVI_STATUS_SKIPPED 1

/-- What a register stores of a value: bit 7 of PERM of an access entry is stored as 0 (spec 09 R339).
DEDUCED (assumption log 48). -/
def stored (off : Nat) (v : Reg) : Reg := if inGrid off 0x200008 90 0x200 32 0x10 then v &&& ~~~(0x80 : Reg) else v

/-- One REG_OVERLAY entry (spec 14 R543). `keep` names registers that this application leaves alone, `loud` says that a skip is
counted and reported. DEDUCED (assumption log 48). -/
def overlay (keep : Nat → Bool) (loud : Bool) (s : State) (e : List Byte) : State :=
  let off := leAt e 0 8
  let v : Reg := BitVec.ofNat 64 (leAt e 8 8)
  let m : Reg := BitVec.ofNat 64 (leAt e 16 8)
  match regFields off with
  | some fs =>
    if maskOk fs m then
      (if keep off then s
       else
        let n := (imgFields fs m).foldl (fun r f => setFld r f (getFld ((factoryReg s off &&& ~~~m) ||| (v &&& m)) f)) (getR s off)
        overlayEffect (setR s off (stored off n)) off m)
    else if loud then report (skipped s) 200 (unitDev s) 0x911 (detail [(off % 2 ^ 32, 4)]) else s
  | none => if loud then report (skipped s) 200 (unitDev s) 0x911 (detail [(off % 2 ^ 32, 4)]) else s

/-- Consecutive entries of 24 bytes. -/
def entries24 (bs : List Byte) : List (List Byte) := (List.range (bs.length / 24)).map (fun k => sliceBytes bs (24 * k) 24)

/-- One section applied (spec 14 R542). `pci` says that the PCIe identity is taken over (not at a device reset, R544). -/
def applySection (keep : Nat → Bool) (pci : Bool) (s : State) (x : Nat × List Byte) : State :=
  if x.1 = 1 then (entries24 x.2).foldl (overlay keep true) s
  else if x.1 = 2 then { s with defaults := { s.defaults with laneTable := x.2 } }
  else if x.1 = 3 then { s with defaults := { s.defaults with pulls := x.2 } }
  else if x.1 = 4 then
    (if pci then
      { s with defaults := { s.defaults with subVendor := BitVec.ofNat 16 (leAt x.2 0 2), subId := BitVec.ofNat 16 (leAt x.2 2 2) } }
     else s)
  else skipped s

/-- The sections of a slot that has passed its check. -/
def slotSections (s : State) (slot : Nat) : List (Nat × List Byte) :=
  (sections 8128 (slotBytes s slot 512 (hLen (slotBytes s slot 0 512)))).getD []

/-- Registers that a device reset keeps and its defaults therefore leave alone (spec 13 R516).
DEDUCED (assumption log 47). -/
def deviceKeeps (off : Nat) : Bool :=
  off == A.FAB_DIMS || off == A.FAB_COORD || off == A.FAB_ANCHOR || decide (0x310000 ≤ off ∧ off < 0x310038)
    || decide (0x400000 ≤ off ∧ off < 0x430000) || decide (0x500100 ≤ off ∧ off < 0x500280)

/-- The factory values that depend on the grade (spec 13 R519, R520). -/
def factoryGrade (s : State) : State :=
  let s := (List.range 64).foldl (fun s f => setR s (A.PWR_CLK f) (factoryReg s (A.PWR_CLK f))) s
  setR s A.PWR_CEILING (factoryReg s A.PWR_CEILING)

/-- Whether a BAR0 offset belongs to the host interface or a ring slot. -/
def hostOffset (off : Nat) : Bool := decide (0x10000 ≤ off ∧ off < 0x20000) || decide (0x100000 ≤ off ∧ off < 0x140000)

/-- What an image's overlays make of the registers of the host interface and the ring slots: their reset values until the next reset of
R544 (spec 08 R328; spec 14 R545). -/
def hostOverlays (s : State) (secs : List (Nat × List Byte)) : SMap Reg :=
  ((secs.filter (fun x => x.1 == 1)).foldl (fun s x => (entries24 x.2).foldl (overlay (fun off => !hostOffset off) false) s)
    { s with regs := [] }).regs.filter (fun x => hostOffset x.1)

/-- The slots that R544 tries, in order. -/
def slotOrder (sel : Nat) : List Nat := if sel = 0 then [0, 1] else if sel = 1 then [1, 0] else []

/-- DEFAULTS_APPLY: once the reset has ended, factory values and then the first slot that passes (spec 14 R544; spec 15 R563). The AON
clock follows SRC (spec 13 R485). -/
def opDefaultsApply (s : State) : State :=
  if !s.defaultsDue || s.railLow ≠ [] then s
  else
    let dev := rd s A.PWR_RESET F.PWR_RESET_LAST == 2
    let keep := fun off => dev && deviceKeeps off
    let s := factoryGrade { s with defaultsDue := false }
    let tries := slotOrder (nvSelector s)
    let good := tries.find? (fun k => slotCheck s k == 0)
    let tried := fun k => tries.contains k && (match good with | some g => g == k || slotCheck s (tries.headD 0) != 0 | none => true)
    let res := fun k => if tried k then slotCheck s k else 0xFE
    let ra := res 0
    let rb := res 1
    let src := match good with | some 0 => 1 | some _ => 2 | none => 0
    let s := match good with
      | some k =>
        let n := (slotSections s k).foldl (applySection keep !dev) s
        { n with defaults := { n.defaults with hostRegs := hostOverlays s (slotSections s k) } }
      | none => { s with defaults := { s.defaults with hostRegs := [] } }
    let a := A.NVI_STATUS
    let s := aonSource s
    let s := wr (wr (wr s a F.NVI_STATUS_A_RESULT ra) a F.NVI_STATUS_B_RESULT rb) a F.NVI_STATUS_SOURCE src
    report s 200 (unitDev s) 0x910 (detail [(src, 1), (ra, 1), (rb, 1)])

/-- A write of NVI_CTL by the warden (spec 14 R545, R551). DEDUCED (assumption log 52). -/
def writeNviCtl (s : State) (v : Reg) : State :=
  let s := setR s A.NVI_CTL (writeFlds true L.NVI_CTL (getR s A.NVI_CTL) v)
  if getFld v F.NVI_CTL_CHECK = 1 then
    wr s A.NVI_STATUS F.NVI_STATUS_CHECK_RESULT (slotCheck s (rd s A.NVI_CTL F.NVI_CTL_CHECK_SLOT))
  else s

/-- CHECK (spec 14 R545). -/
def opNviCheck (v : Reg) (s : State) : State := writeNviCtl s v

/-! ### Resets -/

/-- What no reset changes: the chip's identity and the AVS offsets that the factory sets. DEDUCED (assumption log 47). -/
def chipRegs (s : State) : SMap Reg :=
  let r := s.regs.filter (fun x => x.1 == A.ID_REVISION || x.1 == A.ID_CAPS || x.1 == A.ID_SERIAL)
  let fs := [F.PWR_AVS_CTL_VOFFSET0, F.PWR_AVS_CTL_VOFFSET1, F.PWR_AVS_CTL_VOFFSET2, F.PWR_AVS_CTL_VOFFSET3]
  let avs := fs.foldl (fun v f => setFld v f (rd s A.PWR_AVS_CTL f)) (regReset A.PWR_AVS_CTL)
  smSet (regReset A.PWR_AVS_CTL) r A.PWR_AVS_CTL avs

/-- The word that is being written when power fails may hold any value (spec 15 R563): a free value. -/
def tornNv (s : State) : State :=
  match s.nv.writing with
  | none => s
  | some a =>
    let bs := bytesLE 8 (freeVal s).toNat
    let s := useFree { s with nv := { s.nv with writing := none } }
    if 0x020000 ≤ a ∧ a < 0x020FF8 then { s with nv := { s.nv with keys := smFill (fun _ => 0) s.nv.keys (a - 0x020000) bs } }
    else nvWrite s a bs

/-- Every register and memory at reset, the NV store, the chip and the model's own records kept (spec 13 R516). `st` are the straps,
`last` the value of PWR_RESET.LAST. -/
def coldState (s : State) (st : Straps) (last : Nat) : State :=
  let n : State := { State.reset with
    pending := s.pending, fresh := s.fresh, readData := s.readData, nv := { s.nv with shown := false, waiting := [], writing := none }, regs := chipRegs s
    log := {}, recorder := {}
    straps := st, load := { primaryDue := st.bootSel == 0 }, chain := { out := s.chain.out }
    host := { writes := s.host.writes, asks := s.host.asks, peeks := s.host.peeks, nextRead := s.host.nextRead, perst := s.host.perst } }
  let n := wr (showKeys n) A.PWR_RESET F.PWR_RESET_LAST last
  wr n A.NVI_SLOT_SEL F.NVI_SLOT_SEL_SELECT (nvSelector n)

/-- The reserved BOOT_SEL is reported (spec 12 R440). DEDUCED (assumption log 48). -/
def reportBoot (s : State) : State :=
  if s.straps.bootSel = 3 then
    reportLoad s 0x20F (detail [(s.straps.bootSel.toNat + 4 * b2n s.straps.anchor + 8 * s.straps.i2cAddr.toNat, 1)])
  else s

/-- POWER_ON_RESET (spec 13 R516; spec 14 R530, R534; spec 15 R563). -/
def opPowerOnReset (st : Straps) (s : State) : State := reportBoot (powerOnRecorder (coldState (tornNv s) st 0))

/-- What cold reset and device reset keep of the log and the recorder (spec 14 R530, R534). DEDUCED (assumption log 49). -/
def keepRecords (s n : State) : State :=
  let n := { n with log := s.log, recorder := { s.recorder with nonce := false, response := [], wakesAt := [] } }
  let n := setR n A.LOG_STATUS (getR s A.LOG_STATUS)
  let n := wr n A.LOG_CTL F.LOG_CTL_RD_INDEX (rd s A.LOG_CTL F.LOG_CTL_RD_INDEX)
  let n := wr n A.LOG_SUMMARY F.LOG_SUMMARY_CLASSES (rd s A.LOG_SUMMARY F.LOG_SUMMARY_CLASSES)
  wr n A.REC_STATUS F.REC_STATUS_CLEARS (rd s A.REC_STATUS F.REC_STATUS_CLEARS)

/-- COLD_RESET (spec 13 R516): the AON accumulators start again from the mirror. DEDUCED (assumption log 47). -/
def opColdReset (st : Straps) (s : State) : State :=
  let n := keepRecords s (coldState s st 1)
  reportBoot { n with recorder := { n.recorder with acc := n.recorder.mirror }, railLow := s.railLow }

/-- The least voltage of rail `r`, in units of 0.01 mV (spec 14 R531; spec 15 R560): of an array rail, its target less 3 %. -/
def railMin (s : State) (r : Nat) : Nat :=
  if r < 4 then 97 * (if avsRead s r then rd s (A.PWR_AVS r) F.PWR_AVS_V_SET else 650)
  else if r = 4 then 77600 else if r = 5 then 87300 else if r = 6 then 116400 else 171000

/-- A reading of a rail's monitor: below 95 % of the minimum it holds internal reset (spec 15 R563). Then the device is as after a cold
reset, and a word being written in a failing VDD_NV may hold any value. DEDUCED (assumption log 47). -/
def railMonitor (s : State) (r mv : Nat) : State :=
  if 10000 * mv < 95 * railMin s r then
    let was := s.railLow
    let s := if was = [] then opColdReset s.straps (if r = 7 then tornNv s else s) else s
    { s with railLow := if was.contains r then was else r :: was }
  else { s with railLow := s.railLow.erase r }

/-- RECORDER_SAMPLE: what the recorder keeps of a reading, and what a rail's monitor does with it (spec 14 R531; spec 15 R563). -/
def opSample (smp : Sample) (s : State) : State :=
  let s := opRecorderSample smp s
  match smp with
  | .rail r mv => railMonitor s r mv.toNat
  | .temps => s
  | .tempExt _ _ => s
  | .power => s
  | .minute => s
  | .states => s

/-- The registers that a device reset keeps (spec 13 R516). DEDUCED (assumption log 47). -/
def keptRegs (s n : State) : State :=
  let rs := s.regs.filter (fun x => deviceKeeps x.1)
  let n := rs.foldl (fun n x => setR n x.1 x.2) n
  [F.HIF_STATUS_LINK_UP, F.HIF_STATUS_ANCHOR, F.HIF_STATUS_RATE, F.HIF_STATUS_WIDTH, F.HIF_STATUS_FLIT, F.HIF_STATUS_VFS].foldl
    (fun n f => wr n A.HIF_STATUS f (rd s A.HIF_STATUS f)) n

/-- DEVICE_RESET: the reset that PWR_RESET.DEVICE has asked for (spec 13 R516). DEDUCED (assumption log 47). -/
def opDeviceReset (s : State) : State :=
  if !s.resetDue then s
  else
    let on := if isAnchor s then ringsOn s else []
    let s := endReads s .aborted
    let n := keptRegs s (keepRecords s (coldState s s.straps 2))
    let n := on.foldl (fun n r => wr n (A.RING_STATUS r) F.RING_STATUS_ERR (statusCode .aborted)) n
    let n := { n with
      time := s.time, fabTime := s.fabTime, timeLatch := s.timeLatch
      ports := s.ports.map (fun x => (x.1, { x.2 with proxies := [] }))
      lanes := s.lanes.filter (fun x => decide (x.1 < 48)), trains := s.trains, msix := s.msix
      defaults := { s.defaults with laneTable := [], pulls := [], hostRegs := [] }
      host := { n.host with noSnoopOff := s.host.noSnoopOff, relaxedOff := s.host.relaxedOff, pcie := s.host.pcie }
      recorder := { n.recorder with acc := s.recorder.acc } }
    reportBoot (report n 204 (unitDev n) 0x130 [])

/-- A write of PWR_RESET by the warden (spec 13 R516, R520). -/
def writeReset (s : State) (v : Reg) : State := if getFld v F.PWR_RESET_DEVICE = 1 then { s with resetDue := true } else s

/-- PERST_N: low returns the host interface and the ring slots to their reset values, with those of the defaults in use; high ends
it (spec 08 R328; spec 14 R543, R545). It starts a stopped engine clock (spec 13 R489). DEDUCED (assumption log 47). -/
def opPerstN (level : Bool) (s : State) : State :=
  let s := { s with asleep := false }
  if level then { s with host := { s.host with perst := false } }
  else
    let s := endReads (killRings s (fun _ => true) .linkDown) .linkDown
    let h := s.host
    let s := { s with
      regs := s.regs.filter (fun x => !hostOffset x.1), msix := {}
      host := { writes := h.writes, asks := h.asks, peeks := h.peeks, nextRead := h.nextRead, received := h.received, perst := true } }
    s.defaults.hostRegs.foldl (fun s x => setR s x.1 x.2) s

/-! ### The meanings of the commands of this file -/

/-- PERST_N (spec 08 R328). -/
def execPerstN (level : Bool) (s : State) : Host.Outcome State Fault Refusal := .next (opPerstN level s)
/-- POWER_ON_RESET (spec 13 R516). -/
def execPowerOnReset (straps : Straps) (s : State) : Host.Outcome State Fault Refusal := .next (opPowerOnReset straps s)
/-- COLD_RESET (spec 13 R516). -/
def execColdReset (straps : Straps) (s : State) : Host.Outcome State Fault Refusal := .next (opColdReset straps s)
/-- DEVICE_RESET (spec 13 R516). -/
def execDeviceReset (s : State) : Host.Outcome State Fault Refusal := .next (opDeviceReset s)
/-- RECORDER_SAMPLE (spec 14 R531). -/
def execRecorderSample (smp : Sample) (s : State) : Host.Outcome State Fault Refusal := .next (opSample smp s)
/-- DEFAULTS_APPLY (spec 14 R544). -/
def execDefaultsApply (s : State) : Host.Outcome State Fault Refusal := .next (opDefaultsApply s)
/-- CHECK (spec 14 R545). -/
def execNviCheck (value : Reg) (s : State) : Host.Outcome State Fault Refusal := .next (hostAccess (opNviCheck value) s)

end Sys2Proof.Machine
end

