-- ==== Sys2Proof/Machine/Seal.lean ====
section
/-! DEFINITION. Seal points (spec 09 R344 to R346, R353). -/

namespace Sys2Proof.Machine

/-- A request or a response that a table has decided is behind the seal point now set (spec 09 R344). -/
def sealFlit (f : Flit) : Flit := { f with sealed := f.tabled }

/-- The requests and the unsent responses of an endpoint. -/
def sealEp (e : Endpoint) : Endpoint :=
  { e with ingress := e.ingress.map (fun y => (y.1, y.2.map (fun g => { g with req := sealFlit g.req })))
           landing := e.landing.map (fun y => (y.1, y.2.map (fun l => { l with req := sealFlit l.req })))
           outRsp := e.outRsp.map sealFlit
           outDat := e.outDat.map sealFlit
           present := e.present.map (fun y => (y.1, y.2.map sealFlit)) }

/-- Whether a table has decided any message of an expansion: the own root's, a port's as it left, or the member's that has answered
(spec 09 R338, R344; spec 10 R378). -/
def expChecked (s : State) (id : Nat) : Bool :=
  (runList s).any (fun y => childOf y.2.cmd id && !y.2.waiting)
    || (getEp s mgmtPort).landing.any (fun y => match y.2 with
        | some l => l.req.tabled && (match l.owner with | .train x _ => x == id | _ => false)
        | none => false)
    || (match smGet none s.expansions id with
        | some e => e.answers.any (fun a => a.2.1 != .remoteUnreachable)
        | none => false)

/-- A train command that a table has decided: a started one, or an expansion of which a copy has met a table. -/
def sealRun (s : State) (id : Nat) (r : TreeRun) : TreeRun :=
  { r with sealed := r.sealed || (!r.waiting && !privileged s r.cmd.key (cmdRemote s r.cmd)
      && (decide (16 ≤ r.cmd.pl.toNat) || expChecked s id)) }

/-- Everything checked at a table so far is sealed: requests where they wait, responses that have not left, commands, and the frames of
a LOAD_CONTEXT. DEDUCED (assumption log 53). -/
def sealAll (s : State) : State :=
  { s with
    eps := s.eps.map (fun x => (x.1, sealEp x.2))
    tree := { s.tree with runs := s.tree.runs.map (fun x => (x.1, x.2.map (sealRun s x.1))) }
    host := { s.host with
      rings := s.host.rings.map (fun x => (x.1, { x.2 with descs := x.2.descs.map (fun d => { d with sealed := d.tabled }) })) } }

/-- The sealed requests and unsent responses at one endpoint (spec 09 R344). -/
def epSealed (e : Endpoint) : Nat :=
  (e.ingress.filter (fun y => y.2.elim false (·.req.sealed))).length + (e.landing.filter (fun y => y.2.elim false (·.req.sealed))).length
    + (e.outRsp.filter (·.sealed)).length + (e.outDat.filter (·.sealed)).length
    + (e.present.filter (fun y => y.2.elim false (fun f => f.sealed && (f.net == .rsp || f.net == .dat)))).length

/-- Sealed requests that have not finished (spec 09 R344). DEDUCED (assumption log 53). -/
def outstanding (s : State) : Nat :=
  (s.eps.map (fun x => epSealed x.2)).sum + (s.tree.runs.filter (fun x => x.2.elim false (·.sealed))).length
    + (s.host.rings.map (fun x => (x.2.descs.filter (fun d => d.sealed && !d.finished)).length)).sum

/-- Whether a checked request is held for its field to wake (spec 07 R272; spec 09 R341). -/
def heldByField (s : State) (g : Ingress) : Bool :=
  g.checked && (match placeTile (placeOf s g.req.addr.toNat) with
    | some t => [1, 5, 6, 7, 8].contains (pwrState s (tileField t))
    | none => false)

/-- Whether a request is held where its target is: by a queue, or for a waking field. A read of host memory is under way, not
held. -/
def requestHeld (s : State) (g : Ingress) : Bool :=
  heldByField s g || (g.held && (match placeOf s g.req.addr.toNat with
    | .window _ _ => false
    | .port _ _ _ => true | .bank _ _ => true | .xy _ _ => true | .reg _ _ => true | .frame _ _ => true | .setup _ => true
    | .hole _ => true | .unassigned => true))

/-- Sealed requests that are held are released with ABORTED (spec 09 R345; spec 06 R220). -/
def abortHeld (s : State) : State :=
  let hs := s.eps.flatMap (fun x => x.2.ingress.filterMap (fun y => match y.2 with
    | some g => if g.req.sealed && requestHeld s g then some (x.1, y.1) else none
    | none => none))
  let s := (s.tiles.map Prod.fst).foldl (fun s i => [0, 1, 2, 3].foldl (fun s n =>
    let q := getQ (getT s i) n
    if q.held = [] then s else setQ s i n { q with held := q.held.filter (fun h => !hs.contains (h.ep, h.entry)) }) s) s
  hs.foldl (fun s h => answer s h.1 h.2 .aborted []) s

/-- ACC_SEAL_WRITE: by the warden; any other key's write is discarded (spec 09 R344, R345, R353). -/
def writeSeal (s : State) (v : Reg) : State :=
  let s := sealAll s
  let s := wr s A.ACC_SEAL F.ACC_SEAL_SEQ (rd s A.ACC_SEAL F.ACC_SEAL_SEQ + 1)
  if getFld v F.ACC_SEAL_ABORT_HELD = 1 then abortHeld s else s

def opAccSealWrite (v : Reg) (k : Key) (s : State) : State := if isWarden s k then writeSeal s v else s

/-- What a read of ACC_SEAL returns when its wait ends (spec 09 R344, R353). DEDUCED (assumption log 53). -/
def sealValue (s : State) : Reg :=
  let n := outstanding s
  setFld (setFld (setFld 0 F.ACC_SEAL_SEQ (rd s A.ACC_SEAL F.ACC_SEAL_SEQ)) F.ACC_SEAL_DONE (b2n (n == 0)))
    F.ACC_SEAL_OUTSTANDING (min n (2 ^ 31 - 1))

/-- The half of a register that a 4-byte access at `off` names, in the low 32 bits; the whole for 8 bytes. -/
def cutValue (off len : Nat) (v : Reg) : Reg :=
  if len = 4 then BitVec.ofNat 64 (if off % 8 = 4 then v.toNat / 2 ^ 32 else v.toNat % 2 ^ 32) else v

/-- Whether a read of ACC_SEAL still waits (spec 09 R344). -/
def sealWaits (s : State) : Bool := outstanding s != 0 && rd s A.ACC_CTL F.ACC_CTL_SEAL_WAIT != 0

/-- The reads of ACC_SEAL that wait in the ingress of an endpoint: endpoint, entry, offset and length. -/
def sealReaders (s : State) : List (Nat × Nat × Nat × Nat) :=
  s.eps.flatMap (fun x => x.2.ingress.filterMap (fun y => match y.2 with
    | none => none
    | some g =>
      if !g.checked || reqWrite g.req then none
      else match placeOf s g.req.addr.toNat with
        | .setup off => if off / 8 * 8 = A.ACC_SEAL then some (x.1, y.1, off, reqLen g.req) else none
        | .reg _ _ => none | .bank _ _ => none | .xy _ _ => none | .frame _ _ => none | .port _ _ _ => none | .hole _ => none
        | .window _ _ => none | .unassigned => none))

/-- ACC_SEAL_READ: a read by BAR0, with the value in readData, waits for the sealed requests, at most SEAL_WAIT µs; with its time up
the reads that wait in set-up space are answered too (spec 09 R344, R346). DEDUCED (assumption log 53). -/
def opAccSealRead (expired : Bool) (s : State) : State :=
  if sealWaits s && !expired then s
  else
    let n := { s with readData := sealValue s }
    if expired then
      (sealReaders s).foldl (fun n r => answer n r.1 r.2.1 .ok (bytesLE r.2.2.2 (cutValue r.2.2.1 r.2.2.2 (sealValue s)).toNat)) n
    else n

/-! ### The meanings of the commands of this file -/

/-- ACC_SEAL_WRITE (spec 09 R344). -/
def execAccSealWrite (value : Reg) (key : Key) (s : State) : Host.Outcome State Fault Refusal :=
  .next (hostAccess (opAccSealWrite value key) s)
/-- ACC_SEAL_READ (spec 09 R344). -/
def execAccSealRead (expired : Bool) (s : State) : Host.Outcome State Fault Refusal := .next (hostAccess (opAccSealRead expired) s)

end Sys2Proof.Machine
end

