-- ==== Sys2Proof/Machine/SetUp.lean ====
section
/-! DEFINITION. Accesses to set-up registers by every path: BAR0, set-up space, the PEEK window, the board controller (spec 00 R8 to
R12; spec 10 R383; spec 14 R546; spec 16 R575 to R578). -/

namespace Sys2Proof.Machine

/-! ### Reads -/

/-- The fields of a LANE register that read zero in lane `l`: those of a port outside lane 8p of a tether port, those of an edge lane in a
tether lane, and PWR outside lane 8p of a tether port (spec 11 R424, R436). -/
def laneHidden (l o : Nat) : List Fld :=
  let port := if l < 48 ∧ l % 8 = 0 then [] else
    if o = 0 then [F.LANE_CTL_STEP_LIMIT, F.LANE_CTL_RATE_MASK]
    else if o = 8 then [F.LANE_STATUS_RATE, F.LANE_STATUS_WIDTH, F.LANE_STATUS_GROUP, F.LANE_STATUS_REVERSED, F.LANE_STATUS_ELASTIC_ERR,
      F.LANE_STATUS_STEPPED_DOWN, F.LANE_STATUS_ADAPT_TIMEOUT, F.LANE_STATUS_WIDTH_REDUCED]
    else if o = 0x30 then [F.LANE_TRAIN_RATE_CAP, F.LANE_TRAIN_PEER_RATES, F.LANE_TRAIN_PEER_GOOD, F.LANE_TRAIN_OWN_GOOD,
      F.LANE_TRAIN_ADAPT_STEPS]
    else if o = 0x28 ∧ l < 48 then L.LANE_PWR else []
  let edge := if 48 ≤ l then [] else
    if o = 0 then [F.LANE_CTL_EDGE_RATE, F.LANE_CTL_MODE]
    else if o = 8 then [F.LANE_STATUS_WORD_RATE_ERR]
    else if o = 0x30 then [F.LANE_TRAIN_ALIGN_PAT] else []
  port ++ edge

/-- What a register reads as in its LANE block; every other register as it stands. -/
def laneSeen (off : Nat) (v : Reg) : Reg :=
  if 0x400000 ≤ off ∧ off < 0x470000 then
    (laneHidden ((off - 0x400000) / 0x1000) ((off - 0x400000) % 0x1000)).foldl (fun v f => setFld v f 0) v
  else v

/-- The value of the set-up register at an aligned offset, and the state that the read leaves. -/
def readReg (s : State) (off : Nat) : State × Reg :=
  if off = A.ID_DEVICE then (s, BitVec.ofNat 64 (devId s).toNat)
  else if off = A.ID_TIME then (s, BitVec.ofNat 64 (nowNs s))
  else if off = A.ACC_SEAL then (s, sealValue s)
  else if off = A.FAB_TIME_STATUS then (s, readFlds L.FAB_TIME_STATUS (timeStatus s))
  else if inGrid off 0x701000 1024 0x20 4 8 then readLogEntry s ((off - 0x701000) / 0x20) ((off - 0x701000) % 0x20 / 8)
  else if 0x718000 ≤ off ∧ off < 0x71A908 then
    (s, BitVec.ofNat 64 (leBytes (smBytes zeroByte s.recorder.mirror (off - 0x718000) 8)))
  else if 0x710100 ≤ off ∧ off < 0x710200 then (s, smGet 0 s.nv.ledger ((off - 0x710100) / 8))
  else if 0x730000 ≤ off ∧ off < 0x740000 then (s, readNvWindow s (off - 0x730000))
  else if inRow off 0x720040 6 8 then (s, if s.nv.shown then getR s off else 0)
  else if off = A.CFG_KEY_CTL then (s, getR s off)
  else if off = A.CFG_CHAIN_CTL then
    (if s.chain.released then (useFree s, setFld (getR s off) F.CFG_CHAIN_CTL_DONE_IN ((freeVal s).toNat % 2)) else (s, getR s off))
  else match regFields off with
    | some fs => (s, laneSeen off (readFlds fs (getR s off)))
    | none => (s, 0)

/-- A read of 4 or 8 aligned bytes. ID_TIME latches its high half (spec 13 R487). DEDUCED (assumption log 23). -/
def setupRead (s : State) (off len : Nat) : State × Reg :=
  if off / 8 * 8 = A.ID_TIME then
    let s := opIdTimeRead len (decide (len = 4 ∧ off % 8 = 4)) s
    (s, s.readData)
  else
    let x := readReg s (off / 8 * 8)
    (x.1, cutValue off len x.2)

/-! ### Writes -/

/-- What a register holds as far as a partial write leaves it alone: fields that act on a written 1 count as 0 there; the device
time's seconds and the recorder's response stand for the write-only registers that hold something.
DEDUCED (assumption log 54). -/
def quietValue (s : State) (off : Nat) : Reg :=
  if off = A.ID_TIME_SET then BitVec.ofNat 64 (nowNs s / 1000000000)
  else if inRow off 0x710020 4 8 then smGet 0 s.recorder.response ((off - 0x710020) / 8)
  else ((regFields off).getD []).foldl (fun v f => match f.ty with
    | .w1c => v &&& ~~~f.mask
    | .w1s => v &&& ~~~f.mask
    | .wo => v &&& ~~~f.mask
    | .rw | .ro => v) (getR s off)

/-- A write by the warden to a register whose write does more than store (the chapters' own rules), or a plain store. `v` is the whole
value, `mask` the bits written. DESIGN CHOICE (assumption log 51). -/
def wardenWrite (s : State) (k : Key) (off : Nat) (v mask : Reg) : State :=
  if off = A.ID_TIME_SET then opIdTimeSet v s
  else if inRow off 0x10100 64 8 then writeFuncMap s ((off - 0x10100) / 8) v
  else if inRow off 0x11000 16 0x20 then writeWinCtl s ((off - 0x11000) / 0x20) v
  else if 0x100000 ≤ off ∧ off < 0x140000 then writeRing s ((off - 0x100000) / 0x40) ((off - 0x100000) % 0x40 / 8) v
  else if off = A.ACC_SEAL then writeSeal s v
  else if inRow off 0x300000 64 0x40 then writePwrCtl s ((off - 0x300000) / 0x40) v
  else if inRow off 0x300010 64 0x40 then writeClk s ((off - 0x300010) / 0x40) v
  else if off = A.PWR_THERM_CTL then writeThermCtl s v
  else if off = A.PWR_RESET then writeReset s v
  else if off = A.PWR_AVS_CTL then
    (List.range 64).foldl recode (setR s off (writeFlds true L.PWR_AVS_CTL (getR s off) v))
  else if off = A.CLK_AON_CTL then
    let fs := F.CLK_AON_CTL_DEEP_EN :: (if getFld v F.CLK_AON_CTL_SRC = 3 then [] else [F.CLK_AON_CTL_SRC])
    aonSource (setR s off (writeFlds true fs (getR s off) v))
  else if 0x400000 ≤ off ∧ off < 0x470000 then
    let l := (off - 0x400000) / 0x1000
    let o := (off - 0x400000) % 0x1000
    if o = 0 then (if l < 48 then writeTetherCtl s l v else writeEdgeCtl s l v)
    else if o = 0x10 then writeEq s l v
    else if o = 0x18 then writeTaps s l v
    else if o = 0x28 then writeLanePwr s l v
    else setR s off (writeFlds true ((regFields off).getD []) (getR s off) v)
  else if off = A.FAB_DIMS then writeDims s v
  else if off = A.FAB_COORD then writeCoord s v (getFld mask F.FAB_COORD_ID != 0)
  else if off = A.FAB_ANCHOR then writeAnchor s v
  else if inRow off 0x500100 6 0x40 then writePortCtl s ((off - 0x500100) / 0x40) v
  else if inRow off 0x500400 64 8 then writeString s ((off - 0x500400) / 8) v
  else if off = A.CFG_CTL then writeCfgCtl s v
  else if off = A.CFG_STARTUP_ORDER then writeOrder s v
  else if off = A.CFG_KEY_CTL then writeCfgKeys s v
  else if off = A.CFG_CHAIN_CTL then writeChainCtl s v
  else if off = A.LOG_CTL then writeLogCtl s v
  else if off = A.REC_CTL then regRecCtl s true v
  else if inRow off 0x710020 4 8 then writeResponse s ((off - 0x710020) / 8) v
  else if off = A.REC_CLEAR then opRecClearGo v k s
  else if off = A.NVI_CTL then writeNviCtl s v
  else if off = A.NVI_SLOT_SEL then writeSlotSel s v
  else if off = A.NVI_KEY_CTL then writeKeyCtl (useFree s) v (bit (freeVal s).toNat 0)
  else if inRow off 0x720040 6 8 then writeKeyData s ((off - 0x720040) / 8) v
  else match (List.range 16).find? (fun n => gCtl n == off) with
    | some n => writeGrpCtl s n v
    | none =>
      if off = A.NOC_CTL then opCntClear v s
      else if inRow off 0x901000 256 0x10 then (mirrorCfg s ((off - 0x901000) / 0x10) v).1
      else setR s off (stored off (writeFlds true ((regFields off).getD []) (getR s off) v))

/-- A write by another master: only fields that are not the warden's take it (spec 00 R9). -/
def otherWrite (s : State) (k : Key) (off : Nat) (v : Reg) : State :=
  if off = A.REC_CTL then regRecCtl s false v
  else if inRow off 0x710020 4 8 then writeResponse s ((off - 0x710020) / 8) v
  else if off = A.REC_CLEAR then opRecClearGo v k s
  else setR s off (writeFlds false ((regFields off).getD []) (getR s off) v)

/-- A write of the bits `mask` of the register at an aligned offset by `k` (spec 00 R8, R9); a mask of 0 changes nothing (spec 08
R318), and a hole takes nothing (spec 16 R575). -/
def setupWrite (s : State) (k : Key) (off : Nat) (v mask : Reg) : State :=
  if mask = 0 ∨ (regFields off).isNone then s
  else
    let v := mergeMask (quietValue s off) v mask
    if isWarden s k then wardenWrite s k off v mask else otherWrite s k off v

/-- A write of `len` bytes at BAR0 offset `off` whose size the window or R8 has judged: the NV window's word may not read back, which
the spec leaves to the store. DEDUCED (assumption log 23). DESIGN CHOICE (assumption log 51). -/
def setupStore (s : State) (k : Key) (off len : Nat) (v : Reg) : State :=
  if 0x730000 ≤ off ∧ off < 0x740000 then
    (if isWarden s k then opNvWindowWrite (off - 0x730000) len v (bit (freeVal s).toNat 0) (useFree s) else s)
  else match regAccess off len with
    | .ok a => setupWrite s k a.1 (placeValue off len v) a.2
    | .error _ => s

/-- A masked update of a register, or of a word of the NV window, by `k`: (old AND NOT mask) OR (value AND mask) (spec 08 R318). -/
def maskedWrite (s : State) (k : Key) (off : Nat) (v mask : Reg) : State :=
  if 0x730000 ≤ off ∧ off < 0x740000 then
    (if mask = 0 then s else setupStore s k off 8 (mergeMask (readNvWindow s (off - 0x730000)) v mask))
  else setupWrite s k off v mask

/-- Whether a write that came by the network must wait in its ingress for an earlier NV write (spec 14 R539). DEDUCED (assumption log 52). -/
def nvWaits (s : State) (off : Nat) : Bool := decide (0x730000 ≤ off ∧ off < 0x740000) && rdB s A.NVI_STATUS F.NVI_STATUS_BUSY

/-! ### Register requests that wait in an ingress -/

/-- A request to a tile register is served (spec 02 R76; spec 03 R115; spec 06 R229). -/
def serveTileReg (s : State) (ep n : Nat) (g : Ingress) (i off : Nat) : State :=
  if !mayServe s i g then s
  else
    let len := reqLen g.req
    match regAccess off len with
    | .error st => answer s ep n st []
    | .ok (a, mask) =>
      if reqWrite g.req then
        match tileRegWrite s i a (reqKey g.req) g.remote (placeValue off len (BitVec.ofNat 64 (leBytes (g.wdata.getD [])))) mask with
        | some r => answer r.1 ep n r.2 []
        | none => answer s ep n .badAddress []
      else match tileRegRead s i a with
        | some v => answer (tileRegTouch s i a) ep n .ok (bytesLE len (cutValue off len v).toNat)
        | none => answer s ep n .badAddress []

/-- The status of a set-up write: OK, but BAD_DESCRIPTOR for a whole write by the warden of a mirror's CFG that R278 refuses, which is
what another device's MIRROR_SET completes with (DEDUCED; spec 07 R278; spec 08 R317). DEDUCED (assumption log 54). -/
def setupStatus (s : State) (k : Key) (off len : Nat) (v : Reg) : Status :=
  if len = 8 ∧ inRow off 0x901000 256 0x10 ∧ isWarden s k ∧ getFld v F.MIRROR_CFG_EN = 1 ∧ mirrorBad v then .badDescriptor else .ok

/-- A request to set-up space is served (spec 00 R8; spec 10 R383; spec 16 R575). -/
def serveSetup (s : State) (ep n : Nat) (g : Ingress) (off : Nat) : State :=
  let len := reqLen g.req
  let k := reqKey g.req
  if !g.checked ∨ (reqWrite g.req ∧ (g.wdata.isNone ∨ nvWaits s off)) then s
  else if reqWrite g.req then
    let bs := g.wdata.getD []
    let st := setupStatus s k off len (BitVec.ofNat 64 (leBytes bs))
    let s := if len = 16 then maskedWrite s k off (BitVec.ofNat 64 (leAt bs 0 8)) (BitVec.ofNat 64 (leAt bs 8 8))
      else setupStore s k off len (BitVec.ofNat 64 (leBytes bs))
    answer s ep n st []
  else if off / 8 * 8 = A.ACC_SEAL ∧ sealWaits s then s
  else
    let x := setupRead s off len
    answer x.1 ep n .ok (bytesLE len x.2.toNat)

/-- The register request in entry `n` of endpoint `ep`, read or write, is served. -/
def serveRegister (s : State) (ep n : Nat) : State :=
  match getIn s ep n with
  | none => s
  | some g => match placeOf s g.req.addr.toNat with
    | .reg i off => serveTileReg s ep n g i off
    | .setup off => serveSetup s ep n g off
    | .bank _ _ => s | .xy _ _ => s | .frame _ _ => s | .port _ _ _ => s | .hole _ => s | .window _ _ => s | .unassigned => s

/-- A host's read of a register by BAR0: 4 or 8 aligned bytes, any other access is an Unsupported Request (spec 00 R8); a hole reads
zero (spec 16 R575). A read of ACC_SEAL is answered when the seal's commands are done (spec 09 R344). -/
def bar0Read (s : State) (off size : Nat) : State :=
  match regAccess off size with
  | .error _ => hostAnswer s .unsupported
  | .ok _ =>
    if off / 8 * 8 = A.ACC_SEAL ∧ sealWaits s then s
    else
      let x := setupRead s off size
      { x.1 with readData := x.2 }

/-- REGISTER_WRITE: an access of a register (spec 00 R8, R9; spec 02 R76; spec 12 R466; spec 16 R575, R576). -/
def opRegisterWrite (dst : RegDst) (size : Nat) (v : Reg) (k : Key) (s : State) : State :=
  match dst with
  | .bar0 off => if 0x1000000 ≤ off then s else setupStore s k off size v
  | .bar0Read off => if 0x1000000 ≤ off then s else bar0Read s off size
  | .tile i off =>
    if !wenLets s k then s
    else match regAccess off size with
    | .ok (a, mask) => withYield i (fun s => match tileRegWrite s i a k false (placeValue off size v) mask with
      | some r => r.1
      | none => s) s
    | .error _ => s
  | .ingress ep n => serveRegister s ep n

/-! ### The PEEK window (spec 16 R578) -/

/-- PEEK_ACCESS: an aligned access of 4 or 8 bytes becomes a request of the warden, once a landing slot is free (spec 07 R265), and any other completes with Unsupported Request (spec
16 R578). DEDUCED (assumption log 54). -/
def opPeekAccess (write : Bool) (off size : Nat) (v : Reg) (s : State) : State :=
  if 0x1000000 ≤ off ∨ !linkUp s then s
  else if (size ≠ 4 ∧ size ≠ 8) ∨ off % size ≠ 0 then hostAnswer s .unsupported
  else
    let a := getR s A.PEEK_BASE + BitVec.ofNat 64 off
    peeksGo { s with host := { s.host with peekWait := s.host.peekWait ++ [⟨write, a, size, v⟩] } }

/-! ### The board controller (spec 14 R546) -/

/-- Registers that the board controller may read. DEDUCED (assumption log 54). -/
def smbusReads (off : Nat) : Bool :=
  decide (off < 0x10000) || decide (0x303000 ≤ off ∧ off < 0x303200) || off == A.PWR_THERM_STATUS || off == A.LOG_STATUS
    || off == A.LOG_SUMMARY || decide (0x710000 ≤ off ∧ off < 0x720000)

/-- SMBUS_OFFSET_WRITE. -/
def opSmbusOffset (off : BitVec 32) (pecOk : Bool) (s : State) : State :=
  let s := { s with asleep := false }
  if pecOk then { s with smbusOff := off } else s

/-- SMBUS_BLOCK_READ. An access of the board controller starts a stopped engine clock (spec 13 R489). -/
def opSmbusRead (pecOk : Bool) (s : State) : State :=
  let s := { s with asleep := false }
  let off := s.smbusOff.toNat
  if !pecOk then s
  else if smbusReads off ∧ off % 8 = 0 then
    let x := setupRead s off 8
    { x.1 with readData := x.2 }
  else { s with readData := 0 }

/-- The board controller's key: 0xFFFE and the device's own ID (spec 14 R537). -/
def boardKey (s : State) : Key := ⟨devId s, 0xFFFE⟩

/-- SMBUS_WRITE. -/
def opSmbusWrite (off : BitVec 32) (v : Reg) (pecOk : Bool) (s : State) : State :=
  let s := { s with asleep := false }
  let o := off.toNat
  if !pecOk then s
  else if o = A.REC_CTL then opNewChallenge v s
  else if inRow o 0x710020 4 8 then writeResponse s ((o - 0x710020) / 8) v
  else if o = A.REC_CLEAR then opRecClearGo v (boardKey s) s
  else s

/-! ### The meanings of the commands of this file -/

/-- REGISTER_WRITE (spec 00 R8). -/
def execRegisterWrite (dst : RegDst) (size : Nat) (value : Reg) (key : Key) (s : State) : Host.Outcome State Fault Refusal :=
  .next (hostAccess (opRegisterWrite dst size value key) s)
/-- SMBUS_BLOCK_READ (spec 14 R546). -/
def execSmbusBlockRead (pecOk : Bool) (s : State) : Host.Outcome State Fault Refusal := .next (opSmbusRead pecOk s)
/-- SMBUS_OFFSET_WRITE (spec 14 R546). -/
def execSmbusOffsetWrite (off : BitVec 32) (pecOk : Bool) (s : State) : Host.Outcome State Fault Refusal :=
  .next (opSmbusOffset off pecOk s)
/-- SMBUS_WRITE (spec 14 R546). -/
def execSmbusWrite (off : BitVec 32) (value : Reg) (pecOk : Bool) (s : State) : Host.Outcome State Fault Refusal :=
  .next (opSmbusWrite off value pecOk s)
/-- PEEK_ACCESS (spec 16 R578). -/
def execPeekAccess (write : Bool) (off : Nat) (size : Nat) (value : Reg) (s : State) : Host.Outcome State Fault Refusal :=
  .next (hostAccess (opPeekAccess write off size value) s)

end Sys2Proof.Machine
end

