-- ==== Sys2Proof/Machine/Resp.lean ====
section
/-! DEFINITION. What a requester does with a response, and with the waits for one: final responses, GO, NACK and retry,
timeouts (spec 07 R265 to R270, R276; spec 06 R206, R225; spec 08; spec 10 R371, R378 to R380). -/

namespace Sys2Proof.Machine

/-- The status that a code of spec 00 R13 names in a completion. A code that the list does not assign, and BUSY_RETRY, which no
completion carries (spec 07 R270), can only come from another device and are an unknown failure: which of the failures the requester
takes it for is a free value; PARTIAL is no failure. DEDUCED (assumption log 55). -/
def codeStatus (s : State) (c : Nat) : Status :=
  let l : List Status := [.ok, .partialEnd, .denied, .notOwner, .domainDown, .timeout, .badDescriptor, .badAddress,
    .length, .configCrc, .configAuth, .configRegion, .configSelect, .linkDown, .remoteUnreachable, .eccUncorrected, .aborted]
  (l.find? (fun x => statusCode x == c)).getD (l.getD (2 + (freeVal s).toNat % 15) .aborted)

/-- The answer of a member device in the step of the expansion in which it was asked; an answer of an earlier step is dropped. -/
def trainResp (s : State) (x dev : Nat) (st : Status) (bits : Nat) : State :=
  match smGet none s.expansions x with
  | some e => if e.step = dev / 65536 ∧ e.awaited.contains (dev % 65536) then expAnswer s x (dev % 65536) st bits else s
  | none => s

/-- A marked response is counted by its requester (spec 06 R206). DEDUCED (assumption log 55). -/
def countConflict (s : State) (o : Owner) : State :=
  match o with
  | .gw i _ => bumpConflicts s i
  | .desc r _ _ => bump s (A.RING_CONFLICTS r) F.RING_CONFLICTS_COUNT 1
  | .notify b => (match smGet none s.host.binds b with
    | some x => bump s (A.RING_CONFLICTS x.ring) F.RING_CONFLICTS_COUNT 1
    | none => s)
  | .refetch _ _ _ => s
  | .push _ _ => s
  | .peek => s
  | .train _ _ => s

/-- A request is complete: its landing slot is free, and its owner takes the status and the data.
DEDUCED (assumption log 55). -/
def complete (s : State) (ep tag : Nat) (l : Landing) (st : Status) (data : List Byte) (endTag : Nat) : State :=
  match l.owner with
  | .push m line => ackUpdate s ep tag m line
  | .gw i k =>
    setB (setLand s ep tag none) i (fun b => match smGet none b.gw k with
      | some g => { b with gw := smSet none b.gw k (some { g with answer := some (st, BitVec.ofNat 32 (leAt data 0 4)) }) }
      | none => b)
  | .desc r id k => payHits (descResp (setLand s ep tag none) r id k st data (reqLen l.req) endTag)
  | .refetch f m line => refetchDone (setLand s ep tag none) f m line st data
  | .notify b => payHits (notifyResp (setLand s ep tag none) b st data)
  | .peek =>
    let s := setLand s ep tag none
    peeksGo (if st = .ok then hostAnswer s (.done (BitVec.ofNat 64 (leBytes data)))
      else peekFail s st (l.req.dev.toNat * 2 ^ 48 + l.req.addr.toNat))
  | .train x dev =>
    if isPosted l.req then (if st = .ok then setLand s ep tag none else refusePosted (setLand s ep tag none) 0 l.req l.owner st)
    else trainResp (setLand s ep tag none) x dev st (leAt data 0 1 % 16)

/-- A request of the field's tiles is answered: its compute domain wakes (spec 13 R503). DEDUCED (assumption log 55). -/
def wakeAnswer (s : State) (ep : Nat) : State := if ep % 2 = 0 then wakeReq s (epField ep) else s

/-- The data flit of a write that has had GO (spec 07 R268, R269); one that leaves by a gateway names its target device. -/
def sendWdata (s : State) (ep : Nat) (l : Landing) (f : Flit) : State :=
  pushOut s ep { net := .dat, dst := l.req.dst, src := BitVec.ofNat 11 ep, op := 1, tag := f.tag, dev := l.req.dev
                 entry := f.entry, count := BitVec.ofNat 7 (reqLen l.req), data := BitVec.ofNat 512 (leBytes l.wdata) }

/-- RESPONSE_EJECT: the first arrived response of an endpoint reaches its landing slot (spec 07 R265, R266, R269, R270). An RSP flit
with a reserved opcode is discarded (R254). Responses at a gateway's port are PROXY_RESPONSE's. -/
def opResponseEject (ep : Fin 2048) (dat : Bool) (s : State) : State :=
  if (gatewayOf ep).isSome then s else
  match takeFirst s ep (if dat then .dat else .rsp) (fun f => !dat || f.op == 0 || decide (3 ≤ f.op.toNat)) with
  | none => s
  | some (f, s) =>
    if 3 ≤ f.op.toNat then malformed s
    else
      let tag := f.tag.toNat
      match getLand s ep tag with
      | none => strayResponse s
      | some l =>
        let s := wakeAnswer s ep
        if !dat && f.op == 1 then sendWdata s ep l f
        else if !dat && f.op == 2 then setLand s ep tag (some { l with nacks := l.nacks + 1, backoff := true })
        else
          let s := if f.conflict then countConflict s l.owner else s
          let st := if dat then Status.ok else codeStatus s f.status.toNat
          complete (if dat then s else useFree s) ep tag l st (bytesLE f.count.toNat f.data.toNat) f.endTag.toNat

/-- REQUEST_RETRY: the backoff has passed, and the request goes out again with the same tag and AGE 0 (spec 07 R270). -/
def opRequestRetry (ep : Fin 2048) (tag : Fin 256) (s : State) : State :=
  match getLand s ep tag with
  | some l =>
    if l.backoff && decide (l.nacks < retryMax s) then
      pushOut (setLand s ep tag (some { l with backoff := false })) ep { l.req with age := 0 }
    else s
  | none => s

/-- RETRY_TIMEOUT: the last NACK that RETRY_MAX allows has come (spec 07 R270). -/
def opRetryTimeout (ep : Fin 2048) (tag : Fin 256) (s : State) : State :=
  match getLand s ep tag with
  | some l =>
    if l.backoff && decide (retryMax s ≤ l.nacks) then
      complete (reportNet (devCount s 1) 0x310 []) ep tag l .timeout [] 0
    else s
  | none => s

/-- Whether a request is the arm of a cross-device SWITCH_BAR, which the barrier timeout governs (spec 10 R371). -/
def isArmFlit (f : Flit) : Bool := f.op == 2 && f.addr.toNat / 2 ^ 45 % 4 == 1

/-- RSP_TIMEOUT: no final response to a request that left through a gateway (spec 10 R371). -/
def opRspTimeout (ep : Fin 2048) (tag : Fin 256) (s : State) : State :=
  match getLand s ep tag with
  | some l =>
    if (gatewayOf l.req.dst.toNat).isSome && !l.backoff && !isArmFlit l.req && !isPosted l.req then
      complete (report (bump s A.FAB_ERR_CNT F.FAB_ERR_CNT_RSP_TIMEOUT 1) 203 (unitDev s) 0x414 []) ep tag l .timeout [] 0
    else s
  | none => s

/-! ### The meanings of the commands of this file -/

/-- RESPONSE_EJECT (spec 07 R266). -/
def execResponseEject (ep : Fin 2048) (dat : Bool) (s : State) : Host.Outcome State Fault Refusal := .next (atEndpoint ep (opResponseEject ep dat) s)
/-- REQUEST_RETRY (spec 07 R270). -/
def execRequestRetry (ep : Fin 2048) (tag : Fin 256) (s : State) : Host.Outcome State Fault Refusal := .next (atEndpoint ep (opRequestRetry ep tag) s)
/-- RETRY_TIMEOUT (spec 07 R270). -/
def execRetryTimeout (ep : Fin 2048) (tag : Fin 256) (s : State) : Host.Outcome State Fault Refusal := .next (atEndpoint ep (opRetryTimeout ep tag) s)
/-- RSP_TIMEOUT (spec 10 R371). -/
def execRspTimeout (ep : Fin 2048) (tag : Fin 256) (s : State) : Host.Outcome State Fault Refusal := .next (atEndpoint ep (opRspTimeout ep tag) s)

end Sys2Proof.Machine
end

