-- ==== Sys2Proof/Machine/Dispatch.lean ====
section
/-! DEFINITION. One arm for each command. -/

namespace Sys2Proof.Machine

/-- The effect of a command on everything but the queue. -/
def exec (i : Instr) (s : State) : Host.Outcome State Fault Refusal :=
  match i with
  | .registerWrite dst size value key => Sys2Proof.Machine.execRegisterWrite dst size value key s
  | .mov t => Sys2Proof.Machine.execMov t s
  | .add t => Sys2Proof.Machine.execAdd t s
  | .sub t => Sys2Proof.Machine.execSub t s
  | .neg t => Sys2Proof.Machine.execNeg t s
  | .abs t => Sys2Proof.Machine.execAbs t s
  | .absd t => Sys2Proof.Machine.execAbsd t s
  | .avg t => Sys2Proof.Machine.execAvg t s
  | .min_ t => Sys2Proof.Machine.execMin t s
  | .max_ t => Sys2Proof.Machine.execMax t s
  | .clamp t => Sys2Proof.Machine.execClamp t s
  | .add3 t => Sys2Proof.Machine.execAdd3 t s
  | .and_ t => Sys2Proof.Machine.execAnd t s
  | .or_ t => Sys2Proof.Machine.execOr t s
  | .xor t => Sys2Proof.Machine.execXor t s
  | .andn t => Sys2Proof.Machine.execAndn t s
  | .not_ t => Sys2Proof.Machine.execNot t s
  | .bsel t => Sys2Proof.Machine.execBsel t s
  | .shl t => Sys2Proof.Machine.execShl t s
  | .shr t => Sys2Proof.Machine.execShr t s
  | .rol t => Sys2Proof.Machine.execRol t s
  | .ror t => Sys2Proof.Machine.execRor t s
  | .fshr t => Sys2Proof.Machine.execFshr t s
  | .cmpeq t => Sys2Proof.Machine.execCmpeq t s
  | .cmpne t => Sys2Proof.Machine.execCmpne t s
  | .cmplt t => Sys2Proof.Machine.execCmplt t s
  | .cmple t => Sys2Proof.Machine.execCmple t s
  | .tst t => Sys2Proof.Machine.execTst t s
  | .sel t => Sys2Proof.Machine.execSel t s
  | .sel1 t => Sys2Proof.Machine.execSel1 t s
  | .clz t => Sys2Proof.Machine.execClz t s
  | .ctz t => Sys2Proof.Machine.execCtz t s
  | .popc t => Sys2Proof.Machine.execPopc t s
  | .brev t => Sys2Proof.Machine.execBrev t s
  | .perm t => Sys2Proof.Machine.execPerm t s
  | .ext t => Sys2Proof.Machine.execExt t s
  | .cntr t => Sys2Proof.Machine.execCntr t s
  | .cntld t => Sys2Proof.Machine.execCntld t s
  | .limld t => Sys2Proof.Machine.execLimld t s
  | .addc t => Sys2Proof.Machine.execAddc t s
  | .subc t => Sys2Proof.Machine.execSubc t s
  | .cmpc t => Sys2Proof.Machine.execCmpc t s
  | .dly t => Sys2Proof.Machine.execDly t s
  | .rdx t => Sys2Proof.Machine.execRdx t s
  | .wrx t => Sys2Proof.Machine.execWrx t s
  | .dropPad t => Sys2Proof.Machine.execDropPad t s
  | .forkOp t => Sys2Proof.Machine.execForkOp t s
  | .zip t => Sys2Proof.Machine.execZip t s
  | .unzip t => Sys2Proof.Machine.execUnzip t s
  | .join t => Sys2Proof.Machine.execJoin t s
  | .merge t => Sys2Proof.Machine.execMerge t s
  | .filtp t => Sys2Proof.Machine.execFiltp t s
  | .filtb t => Sys2Proof.Machine.execFiltb t s
  | .split t => Sys2Proof.Machine.execSplit t s
  | .tagins t => Sys2Proof.Machine.execTagins t s
  | .tagstrip t => Sys2Proof.Machine.execTagstrip t s
  | .droppad t => Sys2Proof.Machine.execDroppad t s
  | .discard t => Sys2Proof.Machine.execDiscard t s
  | .tcmd t => Sys2Proof.Machine.execTcmd t s
  | .mac32 t => Sys2Proof.Machine.execMac32 t s
  | .cmac16 t => Sys2Proof.Machine.execCmac16 t s
  | .dmac16 t => Sys2Proof.Machine.execDmac16 t s
  | .dot8 t => Sys2Proof.Machine.execDot8 t s
  | .mul32 t => Sys2Proof.Machine.execMul32 t s
  | .cmul16 t => Sys2Proof.Machine.execCmul16 t s
  | .dmul16 t => Sys2Proof.Machine.execDmul16 t s
  | .mdot8 t => Sys2Proof.Machine.execMdot8 t s
  | .dump t => Sys2Proof.Machine.execDump t s
  | .dumpt t => Sys2Proof.Machine.execDumpt t s
  | .accinit t => Sys2Proof.Machine.execAccinit t s
  | .xyNetworkAccess ep n => Sys2Proof.Machine.execXyNetworkAccess ep n s
  | .accLoRead t n => Sys2Proof.Machine.execAccLoRead t n s
  | .accRegisterWrite t n high value => Sys2Proof.Machine.execAccRegisterWrite t n high value s
  | .agRegisterWrite t set g value => Sys2Proof.Machine.execAgRegisterWrite t set g value s
  | .pipelineLatch t => Sys2Proof.Machine.execPipelineLatch t s
  | .segmentAccept t j => Sys2Proof.Machine.execSegmentAccept t j s
  | .seamWrite t j => Sys2Proof.Machine.execSeamWrite t j s
  | .seamDeliver t e => Sys2Proof.Machine.execSeamDeliver t e s
  | .sinkDiscard t j => Sys2Proof.Machine.execSinkDiscard t j s
  | .bridleRelease f => Sys2Proof.Machine.execBridleRelease f s
  | .waveFiring t => Sys2Proof.Machine.execWaveFiring t s
  | .waveNonLeadConsume t o => Sys2Proof.Machine.execWaveNonLeadConsume t o s
  | .rootAdmit src => Sys2Proof.Machine.execRootAdmit src s
  | .commandDelivery id f => Sys2Proof.Machine.execCommandDelivery id f s
  | .query id => Sys2Proof.Machine.execQuery id s
  | .switchImm id f => Sys2Proof.Machine.execSwitchImm id f s
  | .switchBar id f => Sys2Proof.Machine.execSwitchBar id f s
  | .barrierGo id => Sys2Proof.Machine.execBarrierGo id s
  | .barrierTimeout id => Sys2Proof.Machine.execBarrierTimeout id s
  | .armCmd id f => Sys2Proof.Machine.execArmCmd id f s
  | .disarmCmd id f => Sys2Proof.Machine.execDisarmCmd id f s
  | .injectCmd id t => Sys2Proof.Machine.execInjectCmd id t s
  | .invalidate id f => Sys2Proof.Machine.execInvalidate id f s
  | .wakeCmd id f => Sys2Proof.Machine.execWakeCmd id f s
  | .powerCmd id f => Sys2Proof.Machine.execPowerCmd id f s
  | .frameWrite ep n => Sys2Proof.Machine.execFrameWrite ep n s
  | .frameRead ep n => Sys2Proof.Machine.execFrameRead ep n s
  | .borrowStart patch => Sys2Proof.Machine.execBorrowStart patch s
  | .borrowEnd patch wrong => Sys2Proof.Machine.execBorrowEnd patch wrong s
  | .borrowYield patch trigger => Sys2Proof.Machine.execBorrowYield patch trigger s
  | .brd t => Sys2Proof.Machine.execBrd t s
  | .bwr t => Sys2Proof.Machine.execBwr t s
  | .qpush t => Sys2Proof.Machine.execQpush t s
  | .qpop t => Sys2Proof.Machine.execQpop t s
  | .qlvl t => Sys2Proof.Machine.execQlvl t s
  | .dlyb t => Sys2Proof.Machine.execDlyb t s
  | .gwld t => Sys2Proof.Machine.execGwld t s
  | .gwst t => Sys2Proof.Machine.execGwst t s
  | .gwfence t => Sys2Proof.Machine.execGwfence t s
  | .gatewayResponse t slot => Sys2Proof.Machine.execGatewayResponse t slot s
  | .bankRead ep n => Sys2Proof.Machine.execBankRead ep n s
  | .bankWrite ep n sameCycle => Sys2Proof.Machine.execBankWrite ep n sameCycle s
  | .eccWriteback t half => Sys2Proof.Machine.execEccWriteback t half s
  | .rowMove t q => Sys2Proof.Machine.execRowMove t q s
  | .creditedPush ep n => Sys2Proof.Machine.execCreditedPush ep n s
  | .uncreditedPush ep n => Sys2Proof.Machine.execUncreditedPush ep n s
  | .queuePop ep n => Sys2Proof.Machine.execQueuePop ep n s
  | .popServe t q waited => Sys2Proof.Machine.execPopServe t q waited s
  | .creditRequest ep n => Sys2Proof.Machine.execCreditRequest ep n s
  | .creditGrantHeld t q => Sys2Proof.Machine.execCreditGrantHeld t q s
  | .flush t q value => Sys2Proof.Machine.execFlush t q value s
  | .bankOwnerWrite t key value => Sys2Proof.Machine.execBankOwnerWrite t key value s
  | .packLaneWord g words ends => Sys2Proof.Machine.execPackLaneWord g words ends s
  | .droppingExit g => Sys2Proof.Machine.execDroppingExit g s
  | .packReadSidePop g => Sys2Proof.Machine.execPackReadSidePop g s
  | .unpackWordAccept g w => Sys2Proof.Machine.execUnpackWordAccept g w s
  | .unpackPush g => Sys2Proof.Machine.execUnpackPush g s
  | .unpackRecordStart g => Sys2Proof.Machine.execUnpackRecordStart g s
  | .unpackUnderrun g => Sys2Proof.Machine.execUnpackUnderrun g s
  | .groupEnable g value => Sys2Proof.Machine.execGroupEnable g value s
  | .groupDisable g value => Sys2Proof.Machine.execGroupDisable g value s
  | .groupDrainEnd g limit => Sys2Proof.Machine.execGroupDrainEnd g limit s
  | .groupOff g => Sys2Proof.Machine.execGroupOff g s
  | .routerCycle net r => Sys2Proof.Machine.execRouterCycle net r s
  | .flitInjection net ep => Sys2Proof.Machine.execFlitInjection net ep s
  | .starvation net ep => Sys2Proof.Machine.execStarvation net ep s
  | .throttleEnd net f => Sys2Proof.Machine.execThrottleEnd net f s
  | .bridgeCrossing net r side => Sys2Proof.Machine.execBridgeCrossing net r side s
  | .reqAdmit ep => Sys2Proof.Machine.execReqAdmit ep s
  | .responseEject ep dat => Sys2Proof.Machine.execResponseEject ep dat s
  | .wdataArrival ep => Sys2Proof.Machine.execWdataArrival ep s
  | .requestRetry ep tag => Sys2Proof.Machine.execRequestRetry ep tag s
  | .retryTimeout ep tag => Sys2Proof.Machine.execRetryTimeout ep tag s
  | .mirrorUpdate m line => Sys2Proof.Machine.execMirrorUpdate m line s
  | .mpush ep => Sys2Proof.Machine.execMpush ep s
  | .inval f => Sys2Proof.Machine.execInval f s
  | .mirrorRefetch f m line => Sys2Proof.Machine.execMirrorRefetch f m line s
  | .refetchRetry f m line => Sys2Proof.Machine.execRefetchRetry f m line s
  | .epochSend m => Sys2Proof.Machine.execEpochSend m s
  | .epochSnp f => Sys2Proof.Machine.execEpochSnp f s
  | .mirrorRecordedApply f => Sys2Proof.Machine.execMirrorRecordedApply f s
  | .mirrorCfgWrite m value => Sys2Proof.Machine.execMirrorCfgWrite m value s
  | .cntClear value => Sys2Proof.Machine.execCntClear value s
  | .tug fn page off size => Sys2Proof.Machine.execTug fn page off size s
  | .doorbellPoll r res => Sys2Proof.Machine.execDoorbellPoll r res s
  | .ringSleep r res => Sys2Proof.Machine.execRingSleep r res s
  | .descriptorFetch r res => Sys2Proof.Machine.execDescriptorFetch r res s
  | .descriptorStart => Sys2Proof.Machine.execDescriptorStart s
  | .nopDesc r id => Sys2Proof.Machine.execNopDesc r id s
  | .streamIn r id res => Sys2Proof.Machine.execStreamIn r id res s
  | .streamOut r id => Sys2Proof.Machine.execStreamOut r id s
  | .memRead r id => Sys2Proof.Machine.execMemRead r id s
  | .memWrite r id res => Sys2Proof.Machine.execMemWrite r id res s
  | .loadContext r id res => Sys2Proof.Machine.execLoadContext r id res s
  | .switchDescriptor r id => Sys2Proof.Machine.execSwitchDescriptor r id s
  | .powerDescriptor r id => Sys2Proof.Machine.execPowerDescriptor r id s
  | .mirrorSet r id => Sys2Proof.Machine.execMirrorSet r id s
  | .regRead r id => Sys2Proof.Machine.execRegRead r id s
  | .regWrite r id => Sys2Proof.Machine.execRegWrite r id s
  | .eventWait r id => Sys2Proof.Machine.execEventWait r id s
  | .eventWaitMatch t q => Sys2Proof.Machine.execEventWaitMatch t q s
  | .eventWaitTimeout r id => Sys2Proof.Machine.execEventWaitTimeout r id s
  | .notifyDesc r id => Sys2Proof.Machine.execNotifyDesc r id s
  | .notifyRecord b => Sys2Proof.Machine.execNotifyRecord b s
  | .fenceDesc r id => Sys2Proof.Machine.execFenceDesc r id s
  | .completionWrite r failed => Sys2Proof.Machine.execCompletionWrite r failed s
  | .msixMessage fn k holdoff => Sys2Proof.Machine.execMsixMessage fn k holdoff s
  | .ringEnable r value => Sys2Proof.Machine.execRingEnable r value s
  | .ringDisable r value => Sys2Proof.Machine.execRingDisable r value s
  | .ringDrainEnd r limit => Sys2Proof.Machine.execRingDrainEnd r limit s
  | .ringOff r res => Sys2Proof.Machine.execRingOff r res s
  | .ringSlotWrite r k value => Sys2Proof.Machine.execRingSlotWrite r k value s
  | .hifFuncMapWrite v value => Sys2Proof.Machine.execHifFuncMapWrite v value s
  | .hostWindowAccess ep n => Sys2Proof.Machine.execHostWindowAccess ep n s
  | .windowEnableWrite w value => Sys2Proof.Machine.execWindowEnableWrite w value s
  | .flrVf v => Sys2Proof.Machine.execFlrVf v s
  | .flrPf => Sys2Proof.Machine.execFlrPf s
  | .linkDown => Sys2Proof.Machine.execLinkDown s
  | .perstN level => Sys2Proof.Machine.execPerstN level s
  | .accSealWrite value key => Sys2Proof.Machine.execAccSealWrite value key s
  | .accSealRead expired => Sys2Proof.Machine.execAccSealRead expired s
  | .packetReceive p stream => Sys2Proof.Machine.execPacketReceive p stream s
  | .packetForward p cls vc => Sys2Proof.Machine.execPacketForward p cls vc s
  | .credit p buf count => Sys2Proof.Machine.execCredit p buf count s
  | .gatewaySend p net => Sys2Proof.Machine.execGatewaySend p net s
  | .proxyInject p => Sys2Proof.Machine.execProxyInject p s
  | .proxyResponse p dat => Sys2Proof.Machine.execProxyResponse p dat s
  | .proxyWdata p => Sys2Proof.Machine.execProxyWdata p s
  | .proxyEntryTimeout p e => Sys2Proof.Machine.execProxyEntryTimeout p e s
  | .rspTimeout ep tag => Sys2Proof.Machine.execRspTimeout ep tag s
  | .trainFlit p => Sys2Proof.Machine.execTrainFlit p s
  | .anchorExpansion id => Sys2Proof.Machine.execAnchorExpansion id s
  | .expandedCompletion x => Sys2Proof.Machine.execExpandedCompletion x s
  | .barrierArm id => Sys2Proof.Machine.execBarrierArm id s
  | .barrierGoPhase p => Sys2Proof.Machine.execBarrierGoPhase p s
  | .barrierCancel p => Sys2Proof.Machine.execBarrierCancel p s
  | .claimSend ix => Sys2Proof.Machine.execClaimSend ix s
  | .claim p => Sys2Proof.Machine.execClaim p s
  | .claimAck p => Sys2Proof.Machine.execClaimAck p s
  | .leaseExpire => Sys2Proof.Machine.execLeaseExpire s
  | .release p => Sys2Proof.Machine.execRelease p s
  | .stringEntryClear ix value => Sys2Proof.Machine.execStringEntryClear ix value s
  | .neighbourCheck p => Sys2Proof.Machine.execNeighbourCheck p s
  | .enumeration p => Sys2Proof.Machine.execEnumeration p s
  | .fabIdWrite dims value => Sys2Proof.Machine.execFabIdWrite dims value s
  | .timeReq => Sys2Proof.Machine.execTimeReq s
  | .timeRsp p => Sys2Proof.Machine.execTimeRsp p s
  | .timeAdjust p => Sys2Proof.Machine.execTimeAdjust p s
  | .syncInEdge => Sys2Proof.Machine.execSyncInEdge s
  | .syncLost => Sys2Proof.Machine.execSyncLost s
  | .holdover => Sys2Proof.Machine.execHoldover s
  | .portDown p => Sys2Proof.Machine.execPortDown p s
  | .testPacket p vc both => Sys2Proof.Machine.execTestPacket p vc both s
  | .laneSignal l => Sys2Proof.Machine.execLaneSignal l s
  | .laneLock h => Sys2Proof.Machine.execLaneLock h s
  | .lockTimeout l => Sys2Proof.Machine.execLockTimeout l s
  | .polarityInvert l => Sys2Proof.Machine.execPolarityInvert l s
  | .laneFailed l => Sys2Proof.Machine.execLaneFailed l s
  | .trainingFrame l blocks => Sys2Proof.Machine.execTrainingFrame l blocks s
  | .hello p late => Sys2Proof.Machine.execHello p late s
  | .agree p => Sys2Proof.Machine.execAgree p s
  | .stepRate p => Sys2Proof.Machine.execStepRate p s
  | .stepFailed p => Sys2Proof.Machine.execStepFailed p s
  | .adaptRequest l req => Sys2Proof.Machine.execAdaptRequest l req s
  | .adapt p => Sys2Proof.Machine.execAdapt p s
  | .adaptTimeout p => Sys2Proof.Machine.execAdaptTimeout p s
  | .deskew p => Sys2Proof.Machine.execDeskew p s
  | .fecState p => Sys2Proof.Machine.execFecState p s
  | .bringUpTimeout p => Sys2Proof.Machine.execBringUpTimeout p s
  | .portLeaveUp p cause => Sys2Proof.Machine.execPortLeaveUp p cause s
  | .retrain p value => Sys2Proof.Machine.execRetrain p value s
  | .stepDown p e => Sys2Proof.Machine.execStepDown p e s
  | .ballast p level g => Sys2Proof.Machine.execBallast p level g s
  | .elasticError p => Sys2Proof.Machine.execElasticError p s
  | .portQuietEntry p auto => Sys2Proof.Machine.execPortQuietEntry p auto s
  | .portQuietWake p => Sys2Proof.Machine.execPortQuietWake p s
  | .rxQuietEntry p => Sys2Proof.Machine.execRxQuietEntry p s
  | .rxQuietWake p ok => Sys2Proof.Machine.execRxQuietWake p ok s
  | .directionPowerRequest l value => Sys2Proof.Machine.execDirectionPowerRequest l value s
  | .directionPowerDone l tx => Sys2Proof.Machine.execDirectionPowerDone l tx s
  | .edgeLaneEnable l value => Sys2Proof.Machine.execEdgeLaneEnable l value s
  | .align l slots => Sys2Proof.Machine.execAlign l slots s
  | .realign l value => Sys2Proof.Machine.execRealign l value s
  | .edgeSignalLoss loss => Sys2Proof.Machine.execEdgeSignalLoss loss s
  | .edgeRecordError l code => Sys2Proof.Machine.execEdgeRecordError l code s
  | .edgeTxQuiet l => Sys2Proof.Machine.execEdgeTxQuiet l s
  | .edgeTxWake l => Sys2Proof.Machine.execEdgeTxWake l s
  | .tapsWrite l value => Sys2Proof.Machine.execTapsWrite l value s
  | .configurationReset => Sys2Proof.Machine.execConfigurationReset s
  | .flashLoad golden sfdpOct hdr => Sys2Proof.Machine.execFlashLoad golden sfdpOct hdr s
  | .segmentDecrypt seg => Sys2Proof.Machine.execSegmentDecrypt seg s
  | .imageNop raw => Sys2Proof.Machine.execImageNop raw s
  | .writeFrames raw => Sys2Proof.Machine.execWriteFrames raw s
  | .selectRegion raw => Sys2Proof.Machine.execSelectRegion raw s
  | .roll raw => Sys2Proof.Machine.execRoll raw s
  | .chainPass raw => Sys2Proof.Machine.execChainPass raw s
  | .startup raw => Sys2Proof.Machine.execStartup raw s
  | .crcCmd raw => Sys2Proof.Machine.execCrcCmd raw s
  | .endImage raw => Sys2Proof.Machine.execEndImage raw s
  | .loadTimeout => Sys2Proof.Machine.execLoadTimeout s
  | .loadFailure read => Sys2Proof.Machine.execLoadFailure read s
  | .chainStart hdr => Sys2Proof.Machine.execChainStart hdr s
  | .chainAbandon => Sys2Proof.Machine.execChainAbandon s
  | .chnDoneStart => Sys2Proof.Machine.execChnDoneStart s
  | .chainError => Sys2Proof.Machine.execChainError s
  | .waitLock late => Sys2Proof.Machine.execWaitLock late s
  | .outStep => Sys2Proof.Machine.execOutStep s
  | .wen => Sys2Proof.Machine.execWen s
  | .srst => Sys2Proof.Machine.execSrst s
  | .staticFrameCommit => Sys2Proof.Machine.execStaticFrameCommit s
  | .isolateTimeout => Sys2Proof.Machine.execIsolateTimeout s
  | .cfgStart value hdr => Sys2Proof.Machine.execCfgStart value hdr s
  | .cfgAbort value => Sys2Proof.Machine.execCfgAbort value s
  | .reloadFlash value => Sys2Proof.Machine.execReloadFlash value s
  | .auditorCheck => Sys2Proof.Machine.execAuditorCheck s
  | .auditorSelfCheck ok => Sys2Proof.Machine.execAuditorSelfCheck ok s
  | .auditorVote reg => Sys2Proof.Machine.execAuditorVote reg s
  | .aonClockSwitch present => Sys2Proof.Machine.execAonClockSwitch present s
  | .deepSleepEntry l12 => Sys2Proof.Machine.execDeepSleepEntry l12 s
  | .deepSleepExit ev => Sys2Proof.Machine.execDeepSleepExit ev s
  | .idTimeRead size high => Sys2Proof.Machine.execIdTimeRead size high s
  | .idTimeSet value => Sys2Proof.Machine.execIdTimeSet value s
  | .burnerCalibration f err => Sys2Proof.Machine.execBurnerCalibration f err s
  | .frequencyChange f value => Sys2Proof.Machine.execFrequencyChange f value s
  | .burnerStart f compute => Sys2Proof.Machine.execBurnerStart f compute s
  | .burnerStop f => Sys2Proof.Machine.execBurnerStop f s
  | .transitClockStop f => Sys2Proof.Machine.execTransitClockStop f s
  | .targetWrite f value => Sys2Proof.Machine.execTargetWrite f value s
  | .drainEnd f => Sys2Proof.Machine.execDrainEnd f s
  | .drainLimit f => Sys2Proof.Machine.execDrainLimit f s
  | .isolating f => Sys2Proof.Machine.execIsolating f s
  | .retainEntry f => Sys2Proof.Machine.execRetainEntry f s
  | .offEntry f => Sys2Proof.Machine.execOffEntry f s
  | .waking f => Sys2Proof.Machine.execWaking f s
  | .clearing f => Sys2Proof.Machine.execClearing f s
  | .computeWake f => Sys2Proof.Machine.execComputeWake f s
  | .idleEntry f => Sys2Proof.Machine.execIdleEntry f s
  | .fieldPowerUp q => Sys2Proof.Machine.execFieldPowerUp q s
  | .powerEstimate est => Sys2Proof.Machine.execPowerEstimate est s
  | .temperatureSample f k reading => Sys2Proof.Machine.execTemperatureSample f k reading s
  | .trip f k => Sys2Proof.Machine.execTrip f k s
  | .tripClr value => Sys2Proof.Machine.execTripClr value s
  | .avsUpdate q mv => Sys2Proof.Machine.execAvsUpdate q mv s
  | .avsSettle q => Sys2Proof.Machine.execAvsSettle q s
  | .avsError q mv => Sys2Proof.Machine.execAvsError q mv s
  | .powerOnReset straps => Sys2Proof.Machine.execPowerOnReset straps s
  | .coldReset straps => Sys2Proof.Machine.execColdReset straps s
  | .deviceReset => Sys2Proof.Machine.execDeviceReset s
  | .fieldReset f value => Sys2Proof.Machine.execFieldReset f value s
  | .logReport rep => Sys2Proof.Machine.execLogReport rep s
  | .logWrite => Sys2Proof.Machine.execLogWrite s
  | .rdIndexWrite value => Sys2Proof.Machine.execRdIndexWrite value s
  | .logClear value => Sys2Proof.Machine.execLogClear value s
  | .logEntryRead ix => Sys2Proof.Machine.execLogEntryRead ix s
  | .recorderSample smp => Sys2Proof.Machine.execRecorderSample smp s
  | .recorderMirrorCopy => Sys2Proof.Machine.execRecorderMirrorCopy s
  | .recorderCommit ok => Sys2Proof.Machine.execRecorderCommit ok s
  | .recCommit value recent ok => Sys2Proof.Machine.execRecCommit value recent ok s
  | .newChallenge value => Sys2Proof.Machine.execNewChallenge value s
  | .nonceExpiry => Sys2Proof.Machine.execNonceExpiry s
  | .lockoutEnd => Sys2Proof.Machine.execLockoutEnd s
  | .nvWindowWrite off size value ok => Sys2Proof.Machine.execNvWindowWrite off size value ok s
  | .nvWriteDone => Sys2Proof.Machine.execNvWriteDone s
  | .keyProvision value ok => Sys2Proof.Machine.execKeyProvision value ok s
  | .defaultsApply => Sys2Proof.Machine.execDefaultsApply s
  | .nviCheck value => Sys2Proof.Machine.execNviCheck value s
  | .nviSlotSelWrite value => Sys2Proof.Machine.execNviSlotSelWrite value s
  | .smbusBlockRead pecOk => Sys2Proof.Machine.execSmbusBlockRead pecOk s
  | .smbusOffsetWrite off pecOk => Sys2Proof.Machine.execSmbusOffsetWrite off pecOk s
  | .smbusWrite off value pecOk => Sys2Proof.Machine.execSmbusWrite off value pecOk s
  | .peekAccess write off size value => Sys2Proof.Machine.execPeekAccess write off size value s
  | .pcieLinkUp rate width terms => Sys2Proof.Machine.execPcieLinkUp rate width terms s
  | .hostCompletion id res => Sys2Proof.Machine.execHostCompletion id res s
  | .referenceClockLost ix present => Sys2Proof.Machine.execReferenceClockLost ix present s
  | .recClearGo value who => Sys2Proof.Machine.execRecClearGo value who s
  | .portEnable p value => Sys2Proof.Machine.execPortEnable p value s
  | .unpackLaneWord g => Sys2Proof.Machine.execUnpackLaneWord g s
  | .rxAutoWake p => Sys2Proof.Machine.execRxAutoWake p s
  | .claimAckTimeout ix => Sys2Proof.Machine.execClaimAckTimeout ix s
  | .msixUnmask fn e => Sys2Proof.Machine.execMsixUnmask fn e s
  | .vfEnable n => Sys2Proof.Machine.execVfEnable n s

end Sys2Proof.Machine
end

