-- ==== Sys2Proof/Safety.lean ====
section
/-! DEFINITION. What a state of the machine must look like, in the terms that claims use: the canonical form of its memory and of
its sparse maps, and the legal codes of its modes. -/

namespace Sys2Proof.Machine

/-- Tile space in its canonical form: addresses strictly rising, no byte 0 listed (an unlisted byte reads 0). -/
def Memory.wf (m : List Host.Cell) : Bool := smWf (fun _ => 0) m

/-- The set-up registers in canonical form: no register is listed with its reset value. -/
def Regs.wf (m : SMap Reg) : Bool := smWf regReset m

/-- The tiles in canonical form: no tile is listed as the factory leaves it. -/
def Tiles.wf (m : SMap Tile) : Bool := smWf Tile.factory m

/-- The invariant of memory. -/
def State.Inv (s : State) : Prop := Memory.wf s.mem = true

/-- A field's compute domain is in one of the states that spec 13 R497 names. -/
def State.powerLegal (s : State) (f : Fin 64) : Prop := pwrState s f ≤ 8

/-- The queue after a step: what waited behind the command that ran. -/
def State.rest (s : State) : List Instr := s.pending.drop 1

end Sys2Proof.Machine
end

