-- ==== Sys2Proof/Certificates/Slice0/Obligations.lean ====
section
/-! DEFINITION. The statements about the machine, for the provers. Helper definitions stand in namespace
`Sys2Proof.Claims`; each statement is a `def Obligations.<Name> : Prop`. A clause by which a
command given outside its enabling condition leaves the state as it is states the model's reading of assumption log 5; free values

are those of assumption log 3. -/

namespace Sys2Proof.Claims
end Sys2Proof.Claims

open Sys2Proof Sys2Proof.Machine Sys2Proof.Claims

namespace Sys2Proof.Claims

open Sys2Proof.Machine

/-- The current context's frame of tile `i` (spec 05 R158). -/
def ctx (s : State) (i : TileIx) : Frame := ctxFrame (getT s i)

/-- The word that operand `o` (0 A, 1 B, 2 C) of tile `i` supplies; zero where the opcode does not read it. -/
def opnd (s : State) (i : TileIx) (o : Nat) : SWord := (operandIf (getT s i) (ctx s i) o).getD ⟨0, .data⟩

/-- The firing rule of spec 02 R44 holds in an A-tile whose current context has opcode `op`: the tile runs, every stream
operand has its word, no WAVE token and no PAD drop comes first, and each output that the firing drives is empty. -/
def aluReadyFor (op : Nat) (s : State) (i : TileIx) : Bool :=
  let t := getT s i
  let c := ctx s i
  mayFire s i .a op && opsReady t c [0, 1, 2] && !waveAtHead t c && !padFires t c
    && latchOk t .out0 (drvSet c 1) && latchOk t .out1 (drvSet c 2) && latchOk t .fork (drvSet c 3)

/-- The tile fired with result `r`: only tile `i` differs; the result is in L[WB_REG] where `wb` and WB_EN say so, and in the
OUT0 latch with the segment set of code 1 where OUT0_EN says so (spec 02 R42, R45, R50). -/
def fired (s t : State) (i : TileIx) (r : Word) (wb : Bool) : Prop :=
  let c := ctx s i
  t = setT s i (getT t i)
    ∧ (wb = true → wbEn c = true → (smGet ⟨0, .data⟩ (getT t i).lreg (wbReg c)).data = r)
    ∧ (out0En c = true → drvSet c 1 ≠ [] →
        ∃ l ∈ (getT t i).latches, l.src = .out0 ∧ l.word.data = r ∧ l.set = drvSet c 1)

/-- The lane width, SIGNED and SAT of MODE (spec 02 R49, R56). -/
def laneW (c : Frame) : Nat := if bitsOf (cMode c) 15 14 = 1 then 16 else if bitsOf (cMode c) 15 14 = 2 then 8 else 32
def isSigned (c : Frame) : Bool := bit (cMode c) 13
def isSat (c : Frame) : Bool := bit (cMode c) 12

/-- Lane `k` of a word as a number, and under SIGNED as an integer. -/
def laneN (c : Frame) (v : Word) (k : Nat) : Nat := v.toNat / 2 ^ (laneW c * k) % 2 ^ laneW c
def laneI (c : Frame) (v : Word) (k : Nat) : Int :=
  if isSigned c = true ∧ 2 ^ (laneW c - 1) ≤ laneN c v k then (laneN c v k : Int) - (2 ^ laneW c : Nat) else laneN c v k
/-- Lane `k` read as a signed integer whatever SIGNED says. -/
def laneS (c : Frame) (v : Word) (k : Nat) : Int :=
  if 2 ^ (laneW c - 1) ≤ laneN c v k then (laneN c v k : Int) - (2 ^ laneW c : Nat) else laneN c v k

/-- The lane range under SIGNED (spec 02 R58). -/
def laneLo (c : Frame) : Int := if isSigned c = true then -(2 ^ (laneW c - 1) : Nat) else 0
def laneHi (c : Frame) : Int := if isSigned c = true then (2 ^ (laneW c - 1) : Nat) - 1 else (2 ^ laneW c : Nat) - 1

/-- The lane of an exact sum `x`: held to the lane's range under SAT, otherwise its low bits (spec 02 R58). -/
def laneOut (c : Frame) (x : Int) : Nat :=
  ((if isSat c = true then max (laneLo c) (min x (laneHi c)) else x) % (2 ^ laneW c : Nat)).toNat

/-- An A-tile command fires whenever the firing rule holds, and every lane of its result is what `f` gives for the
words of A, B and C and the lane's number. -/
def laneOp (op : Nat) (mk : TileIx → Instr) (f : Frame → Word → Word → Word → Nat → Nat) : Prop :=
  ∀ (s : State) (i : TileIx), aluReadyFor op s i = true →
    ∃ (t : State) (r : Word), exec (mk i) s = .next t ∧ fired s t i r true
      ∧ ∀ k < 32 / laneW (ctx s i), laneN (ctx s i) r k
          = f (ctx s i) (opnd s i 0).data (opnd s i 1).data (opnd s i 2).data k

/-- An A-tile command fires whenever the firing rule holds, and its result is what `f` gives for tile, frame and operands. -/
def wordOp (op : Nat) (mk : TileIx → Instr) (wb : Bool) (f : Tile → Frame → SWord → SWord → SWord → Word) : Prop :=
  ∀ (s : State) (i : TileIx), aluReadyFor op s i = true →
    ∃ t : State, exec (mk i) s = .next t
      ∧ fired s t i (f (getT s i) (ctx s i) (opnd s i 0) (opnd s i 1) (opnd s i 2)) wb

end Sys2Proof.Claims

/-- Sums, distances, averages and order opcodes of the A-tile complete under the firing rule, lane by lane (R45, R50,
R56, R58, R59). For every state in which the firing rule of R44 holds in an A-tile, ADD, SUB, NEG, ABS and ADD3 answer
a next state in which every lane of the result (LANES 32, 16 or 8) is the exact sum of the operand lanes read under
SIGNED (ABS: the magnitude of the signed lane), held to the lane range under SAT and otherwise cut to the lane width;
MOV gives the lane of A; ABSD the exact distance of the lanes read under SIGNED; AVG the floor of half the sum of the
unsigned lanes (unsigned whatever SIGNED says: the model choice of assumption log 9); MIN the smaller lane; MAX the
larger lane; CLAMP min(max(a, b), c), compared under SIGNED. The result is in L[WB_REG] under WB_EN and in the OUT0
latch under OUT0_EN with the segment set of driver code 1; nothing but the firing tile changes (memory, every
register, every other tile). -/
def Obligations.AluSums : Prop :=
  laneOp 0x02 .add (fun c a b _ k => laneOut c (laneI c a k + laneI c b k))
  ∧ laneOp 0x03 .sub (fun c a b _ k => laneOut c (laneI c a k - laneI c b k))
  ∧ laneOp 0x04 .neg (fun c a _ _ k => laneOut c (-laneI c a k))
  ∧ laneOp 0x05 .abs (fun c a _ _ k => laneOut c ((laneS c a k).natAbs : Nat))
  ∧ laneOp 0x0B .add3 (fun c a b e k => laneOut c (laneI c a k + laneI c b k + laneI c e k))
  ∧ laneOp 0x01 .mov (fun c a _ _ k => laneN c a k)
  ∧ laneOp 0x06 .absd (fun c a b _ k => (laneI c a k - laneI c b k).natAbs)
  ∧ laneOp 0x07 .avg (fun c a b _ k => (laneN c a k + laneN c b k) / 2)
  ∧ laneOp 0x08 .min_ (fun c a b _ k => if laneI c a k ≤ laneI c b k then laneN c a k else laneN c b k)
  ∧ laneOp 0x09 .max_ (fun c a b _ k => if laneI c a k ≤ laneI c b k then laneN c b k else laneN c a k)
  ∧ laneOp 0x0A .clamp (fun c a b e k =>
      if max (laneI c a k) (laneI c b k) ≤ laneI c e k then
        (if laneI c a k ≤ laneI c b k then laneN c b k else laneN c a k)
      else laneN c e k)

/-- AND, OR, XOR, ANDN, NOT, BSEL, SEL and SEL1 complete under the firing rule with the bitwise result (R45, R50,
R59). For every state in which the firing rule of R44 holds, AND, OR, XOR, ANDN, NOT and BSEL answer a next state
whose result is the bitwise function of the operand words that R59 names, whatever the lane width; SEL and SEL1 give A
when P0 (P1) is 1 and B otherwise. Result placement and frame as in AluSums. -/
def Obligations.AluLogic : Prop :=
  wordOp 0x10 .and_ true (fun _ _ a b _ => a.data &&& b.data)
  ∧ wordOp 0x11 .or_ true (fun _ _ a b _ => a.data ||| b.data)
  ∧ wordOp 0x12 .xor true (fun _ _ a b _ => a.data ^^^ b.data)
  ∧ wordOp 0x13 .andn true (fun _ _ a b _ => a.data &&& ~~~b.data)
  ∧ wordOp 0x14 .not_ true (fun _ _ a _ _ => ~~~a.data)
  ∧ wordOp 0x15 .bsel true (fun _ _ a b e => (a.data &&& e.data) ||| (b.data &&& ~~~e.data))
  ∧ wordOp 0x28 .sel true (fun t _ a b _ => if t.p0 = true then a.data else b.data)
  ∧ wordOp 0x29 .sel1 true (fun t _ a b _ => if t.p1 = true then a.data else b.data)

/-- SHL, SHR, ROL, ROR, FSHR, CMPEQ, CMPNE, CMPLT, CMPLE and TST complete under the firing rule (R45, R50, R56, R57,
R59). For every state in which the firing rule of R44 holds, SHL, SHR, ROL and ROR answer a next state in which every
lane of the result is the lane of A shifted or rotated by the lane of B modulo the lane width (SHR arithmetic under
SIGNED); FSHR gives bits 31 to 0 of the 64-bit value A:B shifted right by C mod 32; each lane of the result of CMPEQ,
CMPNE, CMPLT, CMPLE and TST is all ones when the test of R59 holds for the operand lanes (CMPLT and CMPLE read under
SIGNED), and zero otherwise. Result placement and frame as in AluSums. -/
def Obligations.AluShiftsAndTests : Prop :=
  laneOp 0x18 .shl (fun c a b _ k => laneN c a k * 2 ^ (laneN c b k % laneW c) % 2 ^ laneW c)
  ∧ laneOp 0x19 .shr (fun c a b _ k => (laneI c a k / (2 ^ (laneN c b k % laneW c) : Nat) % (2 ^ laneW c : Nat)).toNat)
  ∧ laneOp 0x1A .rol (fun c a b _ k =>
      let n := laneN c b k % laneW c
      laneN c a k * 2 ^ n % 2 ^ laneW c + laneN c a k / 2 ^ (laneW c - n))
  ∧ laneOp 0x1B .ror (fun c a b _ k =>
      let n := laneN c b k % laneW c
      laneN c a k / 2 ^ n + laneN c a k * 2 ^ (laneW c - n) % 2 ^ laneW c)
  ∧ wordOp 0x1C .fshr true (fun _ _ a b e => ((a.data ++ b.data) >>> (e.data.toNat % 32)).setWidth 32)
  ∧ laneOp 0x20 .cmpeq (fun c a b _ k => if laneN c a k = laneN c b k then 2 ^ laneW c - 1 else 0)
  ∧ laneOp 0x21 .cmpne (fun c a b _ k => if laneN c a k ≠ laneN c b k then 2 ^ laneW c - 1 else 0)
  ∧ laneOp 0x22 .cmplt (fun c a b _ k => if laneI c a k < laneI c b k then 2 ^ laneW c - 1 else 0)
  ∧ laneOp 0x23 .cmple (fun c a b _ k => if laneI c a k ≤ laneI c b k then 2 ^ laneW c - 1 else 0)
  ∧ laneOp 0x24 .tst (fun c a b _ k => if Nat.land (laneN c a k) (laneN c b k) ≠ 0 then 2 ^ laneW c - 1 else 0)

/-- CLZ, CTZ, POPC, BREV, PERM and EXT complete under the firing rule (R45, R50, R56, R59, R61). For every state in
which the firing rule of R44 holds: CLZ gives per lane the lane width for zero and otherwise the number n with
2^(w-1-n) <= a < 2^(w-n); CTZ the lane width for zero and otherwise the position of the lowest 1 bit; POPC the number
of 1 bits; BREV moves bit k to bit 31 - k; PERM gives for byte k zero when nibble k of B is 8 or more and otherwise
byte (nibble mod 8) of the pair C:A; EXT keeps the bits up to bit (B mod 32) and fills the others with that bit under
SIGNED, with zeros otherwise. Result placement and frame as in AluSums. -/
def Obligations.AluBitCounts : Prop :=
  laneOp 0x30 .clz (fun c a _ _ k => if laneN c a k = 0 then laneW c else laneW c - 1 - Nat.log2 (laneN c a k))
  ∧ laneOp 0x31 .ctz (fun c a _ _ k =>
      ((List.range (laneW c)).filter (fun n => (List.range (n + 1)).all (fun m => !(laneN c a k).testBit m))).length)
  ∧ laneOp 0x32 .popc (fun c a _ _ k => ((List.range (laneW c)).filter (fun n => (laneN c a k).testBit n)).length)
  ∧ (∀ (s : State) (i : TileIx), aluReadyFor 0x33 s i = true →
      ∃ (t : State) (r : Word), exec (.brev i) s = .next t ∧ fired s t i r true
        ∧ ∀ k : Fin 32, r.getLsbD k = (opnd s i 0).data.getLsbD (31 - k))
  ∧ (∀ (s : State) (i : TileIx), aluReadyFor 0x34 s i = true →
      ∃ (t : State) (r : Word), exec (.perm i) s = .next t ∧ fired s t i r true
        ∧ ∀ k : Fin 4,
            let n := (opnd s i 1).data.toNat / 16 ^ k.val % 16
            r.toNat / 256 ^ k.val % 256
              = if 8 ≤ n then 0 else ((opnd s i 2).data ++ (opnd s i 0).data).toNat / 256 ^ n % 256)
  ∧ (∀ (s : State) (i : TileIx), aluReadyFor 0x35 s i = true →
      ∃ (t : State) (r : Word), exec (.ext i) s = .next t ∧ fired s t i r true
        ∧ ∀ k : Fin 32,
            let n := (opnd s i 1).data.toNat % 32
            r.getLsbD k = if k.val ≤ n then (opnd s i 0).data.getLsbD k
              else (isSigned (ctx s i) && (opnd s i 0).data.getLsbD n))

namespace Sys2Proof.Claims

open Sys2Proof.Machine

/-- The tile fired with result word `w`: as `fired`, with the tag of the word latched for OUT0 (spec 02 R51, R579). -/
def firedWord (s t : State) (i : TileIx) (w : SWord) (wb : Bool) : Prop :=
  fired s t i w.data wb
    ∧ (out0En (ctx s i) = true → drvSet (ctx s i) 1 ≠ [] →
        ∃ l ∈ (getT t i).latches, l.src = .out0 ∧ l.word = w ∧ l.set = drvSet (ctx s i) 1)
    ∧ (getT t i).poisoned = ((getT s i).poisoned || decide (w.tag = .poison))

/-- A word as a local register stores it: under POISON_ABSORB a POISON tag is stored as DATA (spec 02 R579). -/
def stores (c : Frame) (w : SWord) : SWord :=
  if poisonAbsorb c = true ∧ w.tag = .poison then { w with tag := .data } else w

/-- Local register `k` of tile `i`, data and tag. -/
def localReg (s : State) (i : TileIx) (k : Nat) : SWord := smGet (⟨0, .data⟩ : SWord) (getT s i).lreg k

end Sys2Proof.Claims

/-- CNTR, CNTLD, LIMLD, DLY, RDX and WRX complete under the firing rule with results, registers and stored tags (R45,
R59, R62, R579). For every state in which the firing rule of R44 holds: CNTR gives CNT, and CNT then is 0 where it
equalled CNT_LIMIT and one more otherwise; CNTLD gives A and loads CNT with it; LIMLD gives A and loads CNT_LIMIT with
it; DLY with D = IMM[2:0] + 1 gives the word of L[D-1] with its stored tag while L1 to L[D-1] take the words below
with their tags and L0 takes A with its tag (POISON as DATA under POISON_ABSORB), every other register as before; RDX
gives the data of L[A mod 8] with its stored tag, or POISON where POISON_ABSORB is 0 and A carries POISON; WRX gives
the data of B, L[A mod 8] takes B with its tag under the same rule, and every other local register is as before (no
write-back). For DLY and RDX the word latched for OUT0 and TILE_STATUS.POISONED are stated too. Result placement and
frame as in AluSums. -/
def Obligations.AluRegisters : Prop :=
  (∀ (s : State) (i : TileIx), aluReadyFor 0x38 s i = true →
      ∃ t : State, exec (.cntr i) s = .next t ∧ fired s t i (getT s i).cnt true
        ∧ (getT t i).cnt = (if (getT s i).cnt = (getT s i).cntLimit then 0 else (getT s i).cnt + 1))
  ∧ (∀ (s : State) (i : TileIx), aluReadyFor 0x39 s i = true →
      ∃ t : State, exec (.cntld i) s = .next t ∧ fired s t i (opnd s i 0).data true ∧ (getT t i).cnt = (opnd s i 0).data)
  ∧ (∀ (s : State) (i : TileIx), aluReadyFor 0x3A s i = true →
      ∃ t : State, exec (.limld i) s = .next t ∧ fired s t i (opnd s i 0).data true
        ∧ (getT t i).cntLimit = (opnd s i 0).data)
  ∧ (∀ (s : State) (i : TileIx), aluReadyFor 0x48 s i = true →
      let d := cImm (ctx s i) % 8 + 1
      ∃ t : State, exec (.dly i) s = .next t ∧ firedWord s t i (localReg s i (d - 1)) false
        ∧ ∀ k : Nat, localReg t i k
            = if k = 0 then stores (ctx s i) (opnd s i 0) else if k < d then localReg s i (k - 1) else localReg s i k)
  ∧ (∀ (s : State) (i : TileIx), aluReadyFor 0x4C s i = true →
      let l := localReg s i ((opnd s i 0).data.toNat % 8)
      ∃ t : State, exec (.rdx i) s = .next t
        ∧ firedWord s t i (if poisonAbsorb (ctx s i) = false ∧ (opnd s i 0).tag = .poison then { l with tag := .poison } else l) true)
  ∧ (∀ (s : State) (i : TileIx), aluReadyFor 0x4D s i = true →
      let a := (opnd s i 0).data.toNat % 8
      ∃ t : State, exec (.wrx i) s = .next t ∧ fired s t i (opnd s i 1).data false
        ∧ localReg t i a = stores (ctx s i) (opnd s i 1)
        ∧ ∀ k : Nat, k ≠ a → localReg t i k = localReg s i k)

namespace Sys2Proof.Claims

open Sys2Proof.Machine

/-- The A-tile opcodes of spec 02 R59 with a result tag under R51 to R53: all but NOP, the chained opcodes, DLY and RDX, whose tags spec 02 R579 gives. -/
def aluTable : List (Nat × (TileIx → Instr)) :=
  [(0x01, .mov), (0x02, .add), (0x03, .sub), (0x04, .neg), (0x05, .abs), (0x06, .absd), (0x07, .avg), (0x08, .min_),
   (0x09, .max_), (0x0A, .clamp), (0x0B, .add3), (0x10, .and_), (0x11, .or_), (0x12, .xor), (0x13, .andn), (0x14, .not_),
   (0x15, .bsel), (0x18, .shl), (0x19, .shr), (0x1A, .rol), (0x1B, .ror), (0x1C, .fshr), (0x20, .cmpeq), (0x21, .cmpne),
   (0x22, .cmplt), (0x23, .cmple), (0x24, .tst), (0x28, .sel), (0x29, .sel1), (0x30, .clz), (0x31, .ctz), (0x32, .popc),
   (0x33, .brev), (0x34, .perm), (0x35, .ext), (0x38, .cntr), (0x39, .cntld), (0x3A, .limld), (0x4D, .wrx)]

/-- Operand `o` is read and carries POISON. -/
def opPoison (s : State) (i : TileIx) (o : Nat) : Bool :=
  match operandIf (getT s i) (ctx s i) o with
  | some w => decide (w.tag = .poison)
  | none => false

/-- A common stream operation may fire in tile `i`: the tile runs its opcode, no PAD drop and no wave firing comes first,
and its output latches (in an A-tile) or its pipeline (in an M-tile or B-tile) have room. -/
def strReadyFor (op : Nat) (s : State) (i : TileIx) : Bool :=
  let t := getT s i
  let c := ctx s i
  mayFire s i (tileKind i) op && !padFires t c && !waveDue t c
    && (if tileKind i = .a then latchOk t .out0 (drvSet c 1) && latchOk t .out1 (drvSet c 2) else pipeRoom i t)
    && latchOk t .fork (drvSet c 3)

/-- What a common stream operation leaves: only the tile differs; the words for OUT0 and OUT1 are latched on the segment
sets of codes 1 and 2 in an A-tile and enter the pipeline in an M-tile or B-tile; under STEP_COND 0 the arriving ends are
those of the state before with the heads of the operands in `use` consumed (spec 02 R40, R42, R45; spec 03 R110). -/
def streamed (s t : State) (i : TileIx) (use : List Nat) (o0 o1 : Option SWord) : Prop :=
  let c := ctx s i
  t = setT s i (getT t i)
    ∧ (cStep c = 0 → (getT t i).ends = (consume (getT s i) (consumedEnds c use)).ends)
    ∧ (if tileKind i = .a then
        (∀ w, o0 = some w → drvSet c 1 ≠ [] → (⟨.out0, w, drvSet c 1, 0⟩ : Latch) ∈ (getT t i).latches)
        ∧ (∀ w, o1 = some w → drvSet c 2 ≠ [] → (⟨.out1, w, drvSet c 2, 0⟩ : Latch) ∈ (getT t i).latches)
        ∧ (o0 = none → (getT t i).latches.filter (fun l => decide (l.src = .out0))
            = (getT s i).latches.filter (fun l => decide (l.src = .out0)))
      else ∃ wb, (getT t i).pipe = (getT s i).pipe ++ [⟨c, .words o0 o1 wb⟩])

/-- `some w` where `en` holds. -/
def when (en : Bool) (w : SWord) : Option SWord := if en = true then some w else none

end Sys2Proof.Claims

/-- A POISON operand makes the result tag POISON, sets POISONED and leaves the predicates (R53, R80). For each of the
39 A-tile opcodes named in aluTable, in every state in which the firing rule holds, POISON_ABSORB is 0 and an operand
that the opcode reads carries POISON: the command answers a next state in which TILE_STATUS.POISONED is set, P0 and P1
are as before, and the word latched for OUT0 (when OUT0_EN is 1 and some start selects code 1) carries the tag POISON.
Where the rules leave a corner open, the model's choice of assumption log 27 is what is stated. -/
def Obligations.PoisonRule : Prop :=
  ∀ x ∈ aluTable, ∀ (s : State) (i : TileIx), aluReadyFor x.1 s i = true → poisonAbsorb (ctx s i) = false →
    (opPoison s i 0 || opPoison s i 1 || opPoison s i 2) = true →
    ∃ t : State, exec (x.2 i) s = .next t
      ∧ (getT t i).poisoned = true ∧ (getT t i).p0 = (getT s i).p0 ∧ (getT t i).p1 = (getT s i).p1
      ∧ (out0En (ctx s i) = true → drvSet (ctx s i) 1 ≠ [] →
          ∃ l ∈ (getT t i).latches, l.src = .out0 ∧ l.word.tag = .poison)

/-- What an A-tile firing leaves alone: everything outside its tile, and inside it what its context does not name
(R45, R63, R67). For each of the 39 A-tile opcodes named in aluTable, and for DLY (whose registers are L0 to L[D-1],
not L[WB_REG]) and RDX, in every state in which the firing rule holds, the command answers a next state in which only
the firing tile differs (memory, every set-up register and every other tile are as before); in the tile the arriving
ends are as before but for the heads of the consumed operands (under STEP_COND 0), every local register but L[WB_REG]
(and L[A mod 8] of WRX) is as before, the frames of all slots, the static frame, the command arm, the pipeline and the
multiply-accumulate and bank parts are as before, CNT_LIMIT is as before except for LIMLD, and without PDEST P0 and P1
are as before. -/
def Obligations.FiringFrame : Prop :=
  ∀ x ∈ aluTable ++ [(0x48, .dly), (0x4C, .rdx)], ∀ (s : State) (i : TileIx), aluReadyFor x.1 s i = true →
    ∃ t : State, exec (x.2 i) s = .next t ∧ t = setT s i (getT t i)
      ∧ (cStep (ctx s i) = 0 → (getT t i).ends = (consume (getT s i) (consumedEnds (ctx s i) [0, 1, 2])).ends)
      ∧ (∀ k : Nat, (x.1 ≠ 0x48 → wbEn (ctx s i) = true → k ≠ wbReg (ctx s i)) →
          (x.1 = 0x48 → cImm (ctx s i) % 8 < k) → (x.1 = 0x4D → k ≠ (opnd s i 0).data.toNat % 8) →
          smGet (⟨0, .data⟩ : SWord) (getT t i).lreg k = smGet (⟨0, .data⟩ : SWord) (getT s i).lreg k)
      ∧ (getT t i).slots = (getT s i).slots ∧ (getT t i).static = (getT s i).static
      ∧ (getT t i).arm = (getT s i).arm ∧ (getT t i).pipe = (getT s i).pipe
      ∧ (getT t i).m = (getT s i).m ∧ (getT t i).b = (getT s i).b
      ∧ (x.1 ≠ 0x3A → (getT t i).cntLimit = (getT s i).cntLimit)
      ∧ (bitsOf (cMode (ctx s i)) 5 4 = 0 → (getT t i).p0 = (getT s i).p0 ∧ (getT t i).p1 = (getT s i).p1)

/-- ADDC, SUBC and CMPC outside a chain complete as a 32-bit add, subtract and compare (R70, R72, R74, R75). In every
state in which the firing rule holds and the context has CH_EN = 0, ADDC gives A + B and SUBC gives A - B in the OUT0
latch under OUT0_EN and in L[WB_REG] under WB_EN; CMPC gives bit 0 = equal and bit 1 = less (signed under SIGNED), and
unless an operand is POISON writes P0 := equal and P1 := less. Nothing but the tile and the counter of free values of
the model differs. Where the rules leave a corner open, the model's choice of assumption log 10, 77 is what is stated.
-/
def Obligations.ChainAlone : Prop :=
  (∀ (s : State) (i : TileIx), aluReadyFor 0x40 s i = true → chEn (ctx s i) = false →
      ∃ t : State, exec (.addc i) s = .next t ∧ fired { s with fresh := t.fresh } t i ((opnd s i 0).data + (opnd s i 1).data) true)
  ∧ (∀ (s : State) (i : TileIx), aluReadyFor 0x41 s i = true → chEn (ctx s i) = false →
      ∃ t : State, exec (.subc i) s = .next t ∧ fired { s with fresh := t.fresh } t i ((opnd s i 0).data - (opnd s i 1).data) true)
  ∧ (∀ (s : State) (i : TileIx), aluReadyFor 0x42 s i = true → chEn (ctx s i) = false →
      let a := (opnd s i 0).data
      let b := (opnd s i 1).data
      let lt := if isSigned (ctx s i) = true then a.slt b else a.ult b
      ∃ t : State, exec (.cmpc i) s = .next t
        ∧ fired { s with fresh := t.fresh } t i (BitVec.ofNat 32 (b2n (a == b) + 2 * b2n lt)) true
        ∧ ((opPoison s i 0 || opPoison s i 1) = false → (getT t i).p0 = (a == b) ∧ (getT t i).p1 = lt))

/-- FORK, ZIP, UNZIP, JOIN, MERGE and TCMD complete when their operand has its word; so do the filters (R45, R50, R64,
R65, R173, R174). In every state in which a common stream operation may fire and the operand it takes has a word: FORK
puts A on OUT0 and on OUT1 where they are enabled; ZIP puts the word of the operand whose turn it is on OUT0 and flips
the turn; UNZIP puts A on OUT0 at turn 0 and on OUT1 at turn 1 and flips the turn; JOIN puts the word of the operand
whose turn it is on OUT0 and flips the turn only behind an end tag; MERGE takes the only operand that has a word, or
on a tie B when A was taken last and A otherwise. Each consumes exactly the operand it used; turn and last-taken bits
are stated for STEP_COND 0. TCMD with the tree port empty puts the command there with train word A, PL = IMM[31:27],
CMD = IMM[26:23], CTX = IMM[22:19], PARAM = IMM[15:0] and the key of the tile: the device ID with master ID 0x1000 +
BADGE. FILTP, TAGINS, TAGSTRIP, DROPPAD and DISCARD with a word at A, FILTB and SPLIT with words at A and B, answer a
next state in which only the tile differs and (under STEP_COND 0) exactly the heads of those operands are consumed.
Where the rules leave a corner open, the model's choice of assumption log 11, 64, 76 is what is stated. -/
def Obligations.StreamPassing : Prop :=
  (∀ (s : State) (i : TileIx) (a : SWord), strReadyFor 0xE0 s i = true → sOpnd (getT s i) (ctx s i) 0 = some a →
      ∃ t : State, exec (.forkOp i) s = .next t
        ∧ streamed s t i [0] (when (out0En (ctx s i)) a) (when (out1En (ctx s i)) a))
  ∧ (∀ (s : State) (i : TileIx) (w : SWord), strReadyFor 0xE1 s i = true →
      sOpnd (getT s i) (ctx s i) (b2n (getT s i).turn) = some w →
      ∃ (t : State) (o1 : Option SWord), exec (.zip i) s = .next t
        ∧ streamed s t i [b2n (getT s i).turn] (when (out0En (ctx s i)) w) o1
        ∧ (cStep (ctx s i) = 0 → (getT t i).turn = !(getT s i).turn))
  ∧ (∀ (s : State) (i : TileIx) (a : SWord), strReadyFor 0xE2 s i = true → sOpnd (getT s i) (ctx s i) 0 = some a →
      ∃ t : State, exec (.unzip i) s = .next t
        ∧ streamed s t i [0] (when (!(getT s i).turn && out0En (ctx s i)) a) (when ((getT s i).turn && out1En (ctx s i)) a)
        ∧ (cStep (ctx s i) = 0 → (getT t i).turn = !(getT s i).turn))
  ∧ (∀ (s : State) (i : TileIx) (w : SWord), strReadyFor 0xE3 s i = true →
      sOpnd (getT s i) (ctx s i) (b2n (getT s i).turn) = some w →
      ∃ (t : State) (o1 : Option SWord), exec (.join i) s = .next t
        ∧ streamed s t i [b2n (getT s i).turn] (when (out0En (ctx s i)) w) o1
        ∧ (cStep (ctx s i) = 0 → (getT t i).turn = ((getT s i).turn != isEnd w.tag)))
  ∧ (∀ (s : State) (i : TileIx) (w : SWord) (o : Fin 2), strReadyFor 0xE4 s i = true →
      sOpnd (getT s i) (ctx s i) o = some w →
      (sOpnd (getT s i) (ctx s i) (1 - o) = none ∨ ((getT s i).lastTaken = decide (o = 1))) →
      ∃ (t : State) (o1 : Option SWord), exec (.merge i) s = .next t
        ∧ streamed s t i [o.val] (when (out0En (ctx s i)) w) o1
        ∧ (cStep (ctx s i) = 0 → (getT t i).lastTaken = decide (o = 0)))
  ∧ (∀ (s : State) (i : TileIx) (a : SWord), strReadyFor 0xF8 s i = true → (getT s i).treePort = none →
    sOpnd (getT s i) (ctx s i) 0 = some a →
    ∃ (t : State) (k : TreeCmd) (w : SWord) (o1 : Option SWord), exec (.tcmd i) s = .next t
      ∧ streamed s t i [0] (when (out0En (ctx s i)) w) o1 ∧ w.data = a.data
      ∧ (getT t i).treePort = some k ∧ k.word = a.data
      ∧ k.pl.toNat = cImm (ctx s i) / 2 ^ 27 % 32 ∧ k.cmd.toNat = cImm (ctx s i) / 2 ^ 23 % 16
      ∧ k.ctx.toNat = cImm (ctx s i) / 2 ^ 19 % 16 ∧ k.param.toNat = cImm (ctx s i) % 65536
      ∧ k.key.dev = devId s ∧ k.key.mst = BitVec.ofNat 16 (0x1000 + fb (getT s i).static 251 240))
  ∧ (∀ x ∈ [((0xE5 : Nat), (Instr.filtp : TileIx → Instr), [0]), (0xE6, .filtb, [0, 1]), (0xE7, .split, [0, 1]), (0xE8, .tagins, [0]),
        (0xE9, .tagstrip, [0]), (0xEA, .droppad, [0]), (0xEB, .discard, [0])],
      ∀ (s : State) (i : TileIx), strReadyFor x.1 s i = true → (∀ o ∈ x.2.2, (sOpnd (getT s i) (ctx s i) o).isSome = true) →
      ∃ t : State, exec (x.2.1 i) s = .next t ∧ t = setT s i (getT t i)
        ∧ (cStep (ctx s i) = 0 → (getT t i).ends = (consume (getT s i) (consumedEnds (ctx s i) x.2.2)).ends))

/-- FILTP, FILTB, SPLIT, TAGINS, TAGSTRIP, DROPPAD, DISCARD and the drop of a PAD word complete (R54, R64, R66). In
every state in which the operation may fire and its operands have their words: FILTP passes A to OUT0 when P0 is 1, or
with KEEP_END when A ends a record; FILTB when B is not 0, or with KEEP_END likewise; SPLIT passes A to OUT0 when B is
not 0 and to OUT1 otherwise; TAGINS passes A, with tag TCONST when its counter step wraps; TAGSTRIP turns an end tag
to DATA and swallows a PAD word; DROPPAD swallows a PAD word and passes every other; DISCARD passes nothing. Under
DROP_PAD a PAD word at A is consumed alone (in an M-tile or B-tile while the pipeline has room and no fork word
waits): no output, no register, no predicate and no counter step. Where the rules leave a corner open, the model's
choice of assumption log 24, 76 is what is stated. -/
def Obligations.StreamFilters : Prop :=
  (∀ (s : State) (i : TileIx) (a : SWord), strReadyFor 0xE5 s i = true → sOpnd (getT s i) (ctx s i) 0 = some a →
      ∃ t : State, exec (.filtp i) s = .next t
        ∧ streamed s t i [0] (when (((getT s i).p0 || (keepEnd (ctx s i) && isEnd a.tag)) && out0En (ctx s i)) a) none)
  ∧ (∀ (s : State) (i : TileIx) (a b : SWord), strReadyFor 0xE6 s i = true → sOpnd (getT s i) (ctx s i) 0 = some a →
      sOpnd (getT s i) (ctx s i) 1 = some b →
      ∃ t : State, exec (.filtb i) s = .next t
        ∧ streamed s t i [0, 1] (when ((decide (b.data ≠ 0) || (keepEnd (ctx s i) && isEnd a.tag)) && out0En (ctx s i)) a) none)
  ∧ (∀ (s : State) (i : TileIx) (a b : SWord), strReadyFor 0xE7 s i = true → sOpnd (getT s i) (ctx s i) 0 = some a →
      sOpnd (getT s i) (ctx s i) 1 = some b →
      ∃ t : State, exec (.split i) s = .next t
        ∧ streamed s t i [0, 1] (when (decide (b.data ≠ 0) && out0En (ctx s i)) a) (when (decide (b.data = 0) && out1En (ctx s i)) a))
  ∧ (∀ (s : State) (i : TileIx) (a : SWord), strReadyFor 0xE8 s i = true → sOpnd (getT s i) (ctx s i) 0 = some a →
      ∃ (t : State) (o1 : Option SWord), exec (.tagins i) s = .next t
        ∧ streamed s t i [0] (when (out0En (ctx s i))
            (if (getT s i).cnt = (getT s i).cntLimit then { a with tag := tagOf (tConst (ctx s i)) } else a)) o1
        ∧ (getT t i).cnt = (if (getT s i).cnt = (getT s i).cntLimit then 0 else (getT s i).cnt + 1))
  ∧ (∀ (s : State) (i : TileIx) (a : SWord), strReadyFor 0xE9 s i = true → sOpnd (getT s i) (ctx s i) 0 = some a →
      ∃ (t : State) (o1 : Option SWord), exec (.tagstrip i) s = .next t
        ∧ streamed s t i [0] (when (decide (a.tag ≠ .pad) && out0En (ctx s i))
            (if isEnd a.tag = true then { a with tag := .data } else a)) o1)
  ∧ (∀ (s : State) (i : TileIx) (a : SWord), strReadyFor 0xEA s i = true → sOpnd (getT s i) (ctx s i) 0 = some a →
      ∃ (t : State) (o1 : Option SWord), exec (.droppad i) s = .next t
        ∧ streamed s t i [0] (when (decide (a.tag ≠ .pad) && out0En (ctx s i)) a) o1)
  ∧ (∀ (s : State) (i : TileIx) (a : SWord), strReadyFor 0xEB s i = true → sOpnd (getT s i) (ctx s i) 0 = some a →
      ∃ t : State, exec (.discard i) s = .next t ∧ streamed s t i [0] none none)
  ∧ (∀ (s : State) (i : TileIx), mayFire s i (tileKind i) (cOp (ctx s i)) = true → padFires (getT s i) (ctx s i) = true →
      waveDue (getT s i) (ctx s i) = false →
      (tileKind i ≠ .a → pipeRoom i (getT s i) = true ∧ latchOk (getT s i) .fork (drvSet (ctx s i) 3) = true) →
      ∃ t : State, exec (.dropPad i) s = .next t ∧ t = setT s i (getT t i)
        ∧ (cStep (ctx s i) = 0 → (getT t i).ends = (consume (getT s i) (consumedEnds (ctx s i) [0])).ends)
        ∧ (cStep (ctx s i) = 1 → (getT t i).cur.val = cNext (ctx s i))
        ∧ (getT t i).lreg = (getT s i).lreg ∧ (getT t i).latches = (getT s i).latches
        ∧ (getT t i).p0 = (getT s i).p0 ∧ (getT t i).p1 = (getT s i).p1 ∧ (getT t i).cnt = (getT s i).cnt)

namespace Sys2Proof.Claims

open Sys2Proof.Machine

/-- An M-opcode may issue in tile `i` (spec 02 R44; spec 03 R101, R104, R110, R111): the tile runs it, its operands have their
words, no WAVE token and no PAD drop comes first, the pipeline and the fork latch have room, no port is taken, the fetched
Y line is not stale. -/
def macReadyFor (op : Nat) (s : State) (i : TileIx) : Bool :=
  let t := getT s i
  let c := ctx s i
  mayFire s i .m op && opsReady t c [0, 1, 2] && !waveAtHead t c && !padFires t c && pipeRoom i t
    && latchOk t .fork (drvSet c 3) && !macStale t c && !macBlocked s i c

/-- The factors of an M firing (spec 03 R85, R86, R90): F1 and F2 from X and Y memory or from operands A and B, and the
second pair, always operands A and B. -/
def factorP (s : State) (i : TileIx) : Word := if mSrcX (ctx s i) = true then (macFetch s i (ctx s i)).2.1.data else (opnd s i 0).data
def factorQ (s : State) (i : TileIx) : Word := if mSrcY (ctx s i) = true then (macFetch s i (ctx s i)).2.2.data else (opnd s i 1).data

/-- Lane `k` of `w` bits of a factor as an integer under its sign. -/
def facP (c : Frame) (w : Nat) (v : Word) (k : Nat) : Int :=
  let n := v.toNat / 2 ^ (w * k) % 2 ^ w
  if mSgnP c = true ∧ 2 ^ (w - 1) ≤ n then (n : Int) - (2 ^ w : Nat) else n
def facQ (c : Frame) (w : Nat) (v : Word) (k : Nat) : Int :=
  let n := v.toNat / 2 ^ (w * k) % 2 ^ w
  if mSgnQ c = true ∧ 2 ^ (w - 1) ≤ n then (n : Int) - (2 ^ w : Nat) else n

/-- An M-opcode issues whenever it may, with the sums `f` of its factors; `dump` says whether the firing produces results. -/
def macIssue (op : Nat) (mk : TileIx → Instr) (dump : Tile → Frame → Bool)
    (f : Frame → Word → Word → Word → Word → Int × Int) : Prop :=
  ∀ (s : State) (i : TileIx), macReadyFor op s i = true →
    ∃ (t : State) (tag : Tag) (fac psn : Bool) (a : Option SWord), exec (mk i) s = .next t
      ∧ (getT t i).pipe = (getT s i).pipe ++ [⟨ctx s i,
          .mac (f (ctx s i) (factorP s i) (factorQ s i) (opnd s i 0).data (opnd s i 1).data).1
            (f (ctx s i) (factorP s i) (factorQ s i) (opnd s i 0).data (opnd s i 1).data).2 tag fac psn a
            (dump (getT s i) (ctx s i))⟩]
      ∧ (getT t i).m.acc0 = (getT s i).m.acc0 ∧ (getT t i).m.acc1 = (getT s i).m.acc1
      ∧ t.regs = (macFetch s i (ctx s i)).1.regs ∧ t.mem = (macFetch s i (ctx s i)).1.mem

/-- The dump of a MAC form: DUMP_WRAP with a counter step that wraps (spec 03 R95). -/
def wrapDump (t : Tile) (c : Frame) : Bool := kDumpWrap c && decide (t.cnt = t.cntLimit) && mCntEn c

/-- The sums of the four forms (spec 03 R90). -/
def sum32 (c : Frame) (p q _ _ : Word) : Int × Int := (facP c 32 p 0 * facQ c 32 q 0, 0)
def sumC16 (c : Frame) (p q _ _ : Word) : Int × Int :=
  let a := facP c 16 p 0; let b := facP c 16 p 1; let x := facQ c 16 q 0; let y := facQ c 16 q 1
  if mConj c = true then (a * x + b * y, a * y - b * x) else (a * x - b * y, a * y + b * x)
def sumD16 (c : Frame) (p q g h : Word) : Int × Int :=
  (facP c 16 p 0 * facQ c 16 q 0 + (if mQuad c = true then facP c 16 g 0 * facQ c 16 h 0 else 0),
   facP c 16 p 1 * facQ c 16 q 1 + (if mQuad c = true then facP c 16 g 1 * facQ c 16 h 1 else 0))
def sumDot (c : Frame) (p q g h : Word) : Int × Int :=
  let d := fun (u v : Word) => facP c 8 u 0 * facQ c 8 v 0 + facP c 8 u 1 * facQ c 8 v 1 + facP c 8 u 2 * facQ c 8 v 2
    + facP c 8 u 3 * facQ c 8 v 3
  (d p q + (if mQuad c = true then d g h else 0), 0)

/-- The flight that waits longest in tile `i`'s pipeline has its words latched without waiting: the tile runs and its output
latches are empty (spec 03 R111). -/
def latchReady (s : State) (i : TileIx) (fl : Flight) : Bool :=
  tileRuns s i && decide ((getT s i).pipe.head? = some fl) && latchFree (getT s i) .out0 && latchFree (getT s i) .out1

/-- The accumulator after a MAC firing with exact sum `x` under ACC_OP (spec 03 R93). -/
def accAfter (c : Frame) (v : BitVec 80) (x : Int) : BitVec 80 :=
  BitVec.ofInt 80 (if mAccOp c = 1 then x else if mAccOp c = 2 then v.toInt - x else v.toInt + x)

/-- The value that a dump gives for `v` in `w` bits: shifted right by SHIFT with floor, then held to its range under OSAT,
otherwise cut (spec 03 R96). -/
def dumpFit (c : Frame) (w : Nat) (v : Int) : Nat :=
  let q := v / (2 ^ kShift c : Nat)
  let lo : Int := if kOsgn c = true then -(2 ^ (w - 1) : Nat) else 0
  let hi : Int := if kOsgn c = true then (2 ^ (w - 1) : Nat) - 1 else (2 ^ w : Nat) - 1
  ((if kOsat c = true then max lo (min q hi) else q) % (2 ^ w : Nat)).toNat

end Sys2Proof.Claims

/-- The M-opcodes issue; the MAC and MUL forms with the sums that R90 gives their factors (R85, R86, R89, R90, R95,
R110). In every state in which an M-opcode may issue, MAC32, CMAC16, DMAC16, DOT8, MUL32, CMUL16, DMUL16 and MDOT8
answer a next state in which the pipeline of the tile has gained, behind the firings in flight, one that carries the
issuing frame and the exact sums S0 and S1 of R90 (with CONJ for the complex forms and QUAD for the others), each
factor lane read under SGN_P or SGN_Q; the MUL forms dump, the MAC forms only under DUMP_WRAP at a counter wrap. The
accumulators are untouched at issue, and memory and registers are as the fetch and the AGW write of the firing leave
them. DUMP, DUMPT and ACCINIT likewise enter the pipeline, as a firing that dumps (DUMP, DUMPT) or does not (ACCINIT),
with the accumulators untouched at issue. Where the rules leave a corner open, the model's choice of assumption log 16
is what is stated. -/
def Obligations.MacIssues : Prop :=
  macIssue 0x60 .mac32 wrapDump sum32
  ∧ macIssue 0x61 .cmac16 wrapDump sumC16
  ∧ macIssue 0x62 .dmac16 wrapDump sumD16
  ∧ macIssue 0x63 .dot8 wrapDump sumDot
  ∧ macIssue 0x68 .mul32 (fun _ _ => true) sum32
  ∧ macIssue 0x69 .cmul16 (fun _ _ => true) sumC16
  ∧ macIssue 0x6A .dmul16 (fun _ _ => true) sumD16
  ∧ macIssue 0x6B .mdot8 (fun _ _ => true) sumDot
  ∧ (∀ x ∈ [((0x70 : Nat), (Instr.dump : TileIx → Instr), true), (0x71, .dumpt, true), (0x74, .accinit, false)],
    ∀ (s : State) (i : TileIx), macReadyFor x.1 s i = true →
    ∃ (t : State) (s0 s1 : Int) (tag : Tag) (fac psn : Bool) (a : Option SWord), exec (x.2.1 i) s = .next t
      ∧ (getT t i).pipe = (getT s i).pipe ++ [⟨ctx s i, .mac s0 s1 tag fac psn a x.2.2⟩]
      ∧ (getT t i).m.acc0 = (getT s i).m.acc0 ∧ (getT t i).m.acc1 = (getT s i).m.acc1)

/-- The last pipeline stage updates the accumulators as ACC_OP says, and ACCINIT reloads them (R93, R95, R97, R110).
When the oldest firing in the pipeline of a running tile is an M firing that does not dump, PIPELINE_LATCH answers a
next state in which it has left the pipeline and: for MAC32 and DOT8 the accumulator that ACC_SEL names is S0, old
minus S0, or old plus S0 (modulo 2^80) as ACC_OP says and the other is untouched; for CMAC16 and DMAC16 ACC0 is so
updated with S0 and ACC1 with S1; for ACCINIT both are their initial values. Only the tile differs. -/
def Obligations.MacAccumulates : Prop :=
  ∀ (s : State) (i : TileIx) (c : Frame) (s0 s1 : Int) (tag : Tag) (fac psn : Bool) (a : Option SWord),
    latchReady s i ⟨c, .mac s0 s1 tag fac psn a false⟩ = true →
    ∃ t : State, exec (.pipelineLatch i) s = .next t ∧ t = setT s i (getT t i) ∧ (getT t i).pipe = (getT s i).pipe.drop 1
      ∧ ((cOp c = 0x60 ∨ cOp c = 0x63) → mAccSel c = false →
          (getT t i).m.acc0 = accAfter c (getT s i).m.acc0 s0 ∧ (getT t i).m.acc1 = (getT s i).m.acc1)
      ∧ ((cOp c = 0x60 ∨ cOp c = 0x63) → mAccSel c = true →
          (getT t i).m.acc1 = accAfter c (getT s i).m.acc1 s0 ∧ (getT t i).m.acc0 = (getT s i).m.acc0)
      ∧ ((cOp c = 0x61 ∨ cOp c = 0x62) →
          (getT t i).m.acc0 = accAfter c (getT s i).m.acc0 s0 ∧ (getT t i).m.acc1 = accAfter c (getT s i).m.acc1 s1)
      ∧ (cOp c = 0x74 → (getT t i).m.acc0 = (getT s i).m.init0 ∧ (getT t i).m.acc1 = (getT s i).m.init1)

/-- A dump shifts, fits and packs its values and puts them on OUT0 (R95, R96, R97). When the oldest firing in the
pipeline is a DUMP or DUMPT, PIPELINE_LATCH latches on OUT0 (under OUT0_EN with a non-empty segment set) a word whose
data is ACC0 shifted right by SHIFT with floor and fitted to 32 bits under OSAT and OSGN where OFMT is 0, and
otherwise ACC0 and ACC1 so fitted to 16 bits in the low and the high half; under RELOAD both accumulators take their
initial values, otherwise they stay. For MUL32 the same holds of S0 (ACC_SEL 0) in place of ACC0. -/
def Obligations.MacDumps : Prop :=
  ∀ (s : State) (i : TileIx) (c : Frame) (s0 s1 : Int) (tag : Tag) (fac psn : Bool) (a : Option SWord),
    latchReady s i ⟨c, .mac s0 s1 tag fac psn a true⟩ = true → out0En c = true → drvSet c 1 ≠ [] →
    ((cOp c = 0x70 ∨ cOp c = 0x71) →
      ∃ t : State, exec (.pipelineLatch i) s = .next t ∧ t = setT s i (getT t i)
        ∧ (∃ l ∈ (getT t i).latches, l.src = .out0 ∧ l.set = drvSet c 1 ∧ l.word.data.toNat
            = (if kOfmt c = 0 then dumpFit c 32 (getT s i).m.acc0.toInt
               else dumpFit c 16 (getT s i).m.acc0.toInt + 65536 * dumpFit c 16 (getT s i).m.acc1.toInt))
        ∧ (getT t i).m.acc0 = (if kReload c = true then (getT s i).m.init0 else (getT s i).m.acc0)
        ∧ (getT t i).m.acc1 = (if kReload c = true then (getT s i).m.init1 else (getT s i).m.acc1))
    ∧ (cOp c = 0x68 → mAccSel c = false → kOfmt c = 0 →
      ∃ t : State, exec (.pipelineLatch i) s = .next t
        ∧ (∃ l ∈ (getT t i).latches, l.src = .out0 ∧ l.set = drvSet c 1 ∧ l.word.data.toNat = dumpFit c 32 s0)
        ∧ (getT t i).m.acc0 = (getT s i).m.acc0 ∧ (getT t i).m.acc1 = (getT s i).m.acc1)

namespace Sys2Proof.Claims

open Sys2Proof.Machine

/-- A B-opcode may issue in tile `i`. -/
def bankReadyFor (op : Nat) (s : State) (i : TileIx) : Bool :=
  let t := getT s i
  let c := ctx s i
  mayFire s i .b op && opsReady t c [0, 1] && !waveAtHead t c && !padFires t c && pipeRoom i t && latchOk t .fork (drvSet c 3)

/-- Tile `i`'s pipeline gained a bank firing with result data `r`. -/
def bankIssued (s t : State) (i : TileIx) (r : Word) : Prop :=
  ∃ (tag : Tag) (flag : Option Bool) (a : Option SWord) (p : Bool),
    (getT t i).pipe = (getT s i).pipe ++ [⟨ctx s i, .bank ⟨r, tag⟩ flag a p⟩]

/-- The bank offset that BRD and BWR name: 4 x a[15:2] (spec 06 R207). -/
def brdOff (s : State) (i : TileIx) : Nat := (opnd s i 0).data.toNat % 65536 / 4 * 4

end Sys2Proof.Claims

/-- BRD reads and BWR writes the bank word at 4 x a[15:2]; BWR changes no other byte (R196, R197, R207). In every
state in which it may issue and no network access takes the bank port: BRD answers a next state whose pipeline has
gained a firing with the little-endian word at bank offset 4 x a[15:2] as its result, and no byte of memory differs;
BWR, once writes are enabled and where neither half it touches is uncorrectable, answers one in which the four bytes
at that offset are B in little-endian order, every other byte of memory is as before, and the result is B. -/
def Obligations.BankAccess : Prop :=
  (∀ (s : State) (i : TileIx), bankReadyFor 0xA0 s i = true → bankForced s i = false →
      ∃ t : State, exec (.brd i) s = .next t
        ∧ bankIssued s t i (BitVec.ofNat 32 (leBytes (memRead s (tileBase i + brdOff s i) 4)))
        ∧ ∀ a : Nat, memGet t a = memGet s a)
  ∧ (∀ (s : State) (i : TileIx), bankReadyFor 0xA1 s i = true → bankForced s i = false → s.boot.wen = true →
      halfErr s i (brdOff s i) ≠ 2 →
      ∃ t : State, exec (.bwr i) s = .next t ∧ bankIssued s t i (opnd s i 1).data
        ∧ memRead t (tileBase i + brdOff s i) 4 = bytesLE 4 (opnd s i 1).data.toNat
        ∧ ∀ a : Nat, (a < tileBase i + brdOff s i ∨ tileBase i + brdOff s i + 4 ≤ a) → memGet t a = memGet s a)

/-- QPUSH, QPOP and QLVL complete and change the depth by the words they move (R207, R213, R215, R221). In every state
in which the opcode may issue: QPUSH to a STREAM queue with room, a free place in the assembly row and no network push
in progress answers a next state in which the depth of the queue is one more; QPOP of a STREAM queue whose oldest word
stands in the read-prefetch row, with no network pop in progress, answers one in which the depth is one less and the
result is that word; QLVL of a STREAM or NOTIFY queue answers one whose result is the depth, with every queue as it
was. -/
def Obligations.QueueOps : Prop :=
  (∀ (s : State) (i : TileIx), bankReadyFor 0xA8 s i = true → s.boot.wen = true →
      qEn (getT s i) (bQsel (ctx s i)) = true → qType (getT s i) (bQsel (ctx s i)) = 0 →
      qDepth (getQ (getT s i) (bQsel (ctx s i))) + (getQ (getT s i) (bQsel (ctx s i))).credited + 1
        ≤ qCap (getT s i) (bQsel (ctx s i)) →
      (getQ (getT s i) (bQsel (ctx s i))).asm.length < 4 → (getQ (getT s i) (bQsel (ctx s i))).incoming = [] →
      ∃ t : State, exec (.qpush i) s = .next t ∧ bankIssued s t i (opnd s i 0).data
        ∧ qDepth (getQ (getT t i) (bQsel (ctx s i))) = qDepth (getQ (getT s i) (bQsel (ctx s i))) + 1)
  ∧ (∀ (s : State) (i : TileIx) (w : SWord), bankReadyFor 0xA9 s i = true →
      qEn (getT s i) (bQsel (ctx s i)) = true → qType (getT s i) (bQsel (ctx s i)) = 0 →
      (getQ (getT s i) (bQsel (ctx s i))).pre.head? = some w → popLocked s i (bQsel (ctx s i)) = false →
      ∃ t : State, exec (.qpop i) s = .next t ∧ bankIssued s t i w.data
        ∧ qDepth (getQ (getT t i) (bQsel (ctx s i))) + 1 = qDepth (getQ (getT s i) (bQsel (ctx s i)))
        ∧ ∀ a : Nat, memGet t a = memGet s a)
  ∧ (∀ (s : State) (i : TileIx), bankReadyFor 0xAA s i = true →
      qEn (getT s i) (bQsel (ctx s i)) = true → qType (getT s i) (bQsel (ctx s i)) < 2 →
      ∃ t : State, exec (.qlvl i) s = .next t
        ∧ bankIssued s t i (BitVec.ofNat 32 (qDepth (getQ (getT s i) (bQsel (ctx s i)))))
        ∧ t = setT s i (getT t i) ∧ (getT t i).b = (getT s i).b)

/-- DLYB, GWLD, GWST, GWFENCE and GATEWAY_RESPONSE complete (R207, R223, R224, R225, R226). In every state in which
the opcode may issue: DLYB on a region that holds fewer than D words, with room in its assembly row, answers a next
state whose result is a zero word and in which operand A stands last in the assembly row and the fill count is one
more (up to the capacity); GWLD with a free slot of the reorder buffer answers one in which the first free slot holds
a load of GW_BASE[Q] + A; GWST likewise one in which it holds a store of B; GWFENCE with no store outstanding answers
one whose result is A. GATEWAY_RESPONSE with an OK answer to a store frees its slot, and to a load marks it worked
off. Where the rules leave a corner open, the model's choice of assumption log 14, 27 is what is stated. -/
def Obligations.DelayAndGateway : Prop :=
  (∀ (s : State) (i : TileIx), bankReadyFor 0xB0 s i = true → s.boot.wen = true →
      qEn (getT s i) (bQsel (ctx s i)) = true → qType (getT s i) (bQsel (ctx s i)) = 2 →
      (getQ (getT s i) (bQsel (ctx s i))).fill < dlyD (getT s i) (ctx s i) →
      (getQ (getT s i) (bQsel (ctx s i))).asm.length < 4 →
      ∃ t : State, exec (.dlyb i) s = .next t ∧ bankIssued s t i 0
        ∧ ((getQ (getT t i) (bQsel (ctx s i))).asm.map (fun w => w.data))
            = ((getQ (getT s i) (bQsel (ctx s i))).asm.map (fun w => w.data)) ++ [(opnd s i 0).data]
        ∧ (getQ (getT t i) (bQsel (ctx s i))).fill
            = min ((getQ (getT s i) (bQsel (ctx s i))).fill + 1) (qCap (getT s i) (bQsel (ctx s i))))
  ∧ (∀ (s : State) (i : TileIx) (k : Nat), bankReadyFor 0xC0 s i = true → gwFree s i = some k →
      ∃ (t : State) (g : GwSlot), exec (.gwld i) s = .next t ∧ smGet none (getT t i).b.gw k = some g ∧ g.load = true
        ∧ g.addr = BitVec.ofNat 64 ((smGet 0 (getT s i).b.gwBase (bQsel (ctx s i))).toNat + (opnd s i 0).data.toNat)
        ∧ (getT t i).pipe.length = (getT s i).pipe.length + 1)
  ∧ (∀ (s : State) (i : TileIx) (k : Nat), bankReadyFor 0xC1 s i = true → gwFree s i = some k →
      ∃ (t : State) (g : GwSlot), exec (.gwst i) s = .next t ∧ smGet none (getT t i).b.gw k = some g ∧ g.load = false
        ∧ g.data = (opnd s i 1).data ∧ bankIssued s t i (opnd s i 1).data)
  ∧ (∀ (s : State) (i : TileIx), bankReadyFor 0xC2 s i = true → (gwFree s i).isSome = true →
      (getT s i).b.gw.all (fun x => match x.2 with | some g => g.load | none => true) = true →
      ∃ t : State, exec (.gwfence i) s = .next t ∧ bankIssued s t i (opnd s i 0).data
        ∧ t = setT s i (getT t i) ∧ (getT t i).b = (getT s i).b)
  ∧ (∀ (s : State) (i : TileIx) (k : Fin 32) (g : GwSlot) (w : Word), smGet none (getT s i).b.gw k = some g →
      g.answer = some (.ok, w) → g.seen = false →
      ∃ t : State, exec (.gatewayResponse i k) s = .next t ∧ t = setT s i (getT t i)
        ∧ smGet none (getT t i).b.gw k = if g.load = true then some { g with seen := true } else none)

/-- WAVE_FIRING forwards the token and switches an armed tile; a WAVE word at another operand is only consumed (R181,
R182, R185). In every state in which a running tile with a valid context and no pending injection has a WAVE token at
its lead operand (and, under WAIT_ALL, at every stream operand), its output latches empty and room in its pipeline,
WAVE_FIRING answers a next state in which only the tile differs; unless STOP is set the token is in the fork latch on
the segment set of code 3 when that set is not empty; an armed tile has switched to the context data[3:0] with its
command arm cleared, an unarmed one, and one that runs the background test, keeps its context, its arm and, but for
the tokens consumed, its arriving ends; registers, predicates and counter are as before. With WAIT_ALL = 0,
WAVE_NON_LEAD_CONSUME takes the WAVE word of another operand and changes nothing else. Where the rules leave a corner
open, the model's choice of assumption log 12, 13 is what is stated. -/
def Obligations.WaveFirings : Prop :=
  (∀ (s : State) (i : TileIx) (o e : Nat) (w : SWord), tileRuns s i = true → cFmt (ctx s i) ≠ 0 → (getT s i).inject = none →
      leadOp (ctx s i) = some o → streamSel (ctx s i) o = some e → headAt (getT s i) e = some w → isWave w = true →
      (waveWaitAll (ctx s i) = true → (streamOps (ctx s i)).all (waveHead (getT s i) (ctx s i)) = true) →
      (getT s i).latches = [] → (tileKind i = .a ∨ pipeRoom i (getT s i) = true) →
      ∃ t : State, exec (.waveFiring i) s = .next t ∧ t = setT s i (getT t i)
        ∧ (waveStop (ctx s i) = false → drvSet (ctx s i) 3 ≠ [] →
            ∃ l ∈ (getT t i).latches, l.src = .fork ∧ l.word = w ∧ l.set = drvSet (ctx s i) 3)
        ∧ (waveArmed (getT s i) = true → lentTile s i = false → (getT t i).cur.val = w.data.toNat % 16 ∧ (getT t i).arm = false)
        ∧ (waveArmed (getT s i) = false ∨ lentTile s i = true → (getT t i).cur = (getT s i).cur ∧ (getT t i).arm = (getT s i).arm
            ∧ (waveWaitAll (ctx s i) = false → (getT t i).ends = (consume (getT s i) [e]).ends))
        ∧ (getT t i).lreg = (getT s i).lreg ∧ (getT t i).p0 = (getT s i).p0 ∧ (getT t i).p1 = (getT s i).p1
        ∧ (getT t i).cnt = (getT s i).cnt)
  ∧ (∀ (s : State) (i : TileIx) (o : Fin 3) (l e k : Nat), tileRuns s i = true → cFmt (ctx s i) ≠ 0 → waveWaitAll (ctx s i) = false →
      leadOp (ctx s i) = some l → l ≠ o.val → streamSel (ctx s i) l = some k → streamSel (ctx s i) o = some e → k ≠ e →
      waveHead (getT s i) (ctx s i) o = true →
      exec (.waveNonLeadConsume i o) s = .next (setT s i (touch s i (takeAt (getT s i) 24 e))))

/-- Segments and seams hand their word on, behind the words before it (R130, R131, R132, R137, R142, R148). In every
state in which the conditions of the rule hold: SEGMENT_ACCEPT puts the word that the driver of start j presents
behind the words of the skid buffer at the end (fewer than two), SEAM_WRITE behind those of the seam buffer (fewer
than four), and raises the wake request of a receiving field that does not run; SINK_DISCARD adds one to the counter
of the side (saturating) and leaves skid and seam buffer of the end as they are; SEAM_DELIVER moves the oldest word of
the seam buffer, or of the read side of an edge group that is not ISOLATING, behind the words of the skid buffer. No
byte of memory differs. -/
def Obligations.SegmentsMove : Prop :=
  (∀ (s : State) (i : TileIx) (j : Fin 24) (d e : Nat) (w : SWord) (src : Option Nat), segDest i j = some (d, e) → d ≠ i.val →
      seamAt d e = false → tileRuns s i = true → driverWord (getT s i) j = some (w, src) → (getE (getT s d) e).skid.length < 2 →
      ∃ t : State, exec (.segmentAccept i j) s = .next t ∧ getT t i = touch s i (driverGive (getT s i) j src)
        ∧ (getE (getT t d) e).skid = (getE (getT s d) e).skid ++ [w] ∧ t.mem = s.mem ∧ t.regs = s.regs)
  ∧ (∀ (s : State) (i : TileIx) (j : Fin 24) (d e : Nat) (w : SWord) (src : Option Nat), segDest i j = some (d, e) → d ≠ i.val →
      seamAt d e = true → tileRuns s i = true → engaged s (tileField i) = false →
      (engaged s (tileField d) && bridleSink s (seamOwner d e) (e / 6)) = false →
      driverWord (getT s i) j = some (w, src) → (getE (getT s d) e).seam.length < 4 →
      ∃ t : State, exec (.seamWrite i j) s = .next t ∧ getT t i = touch s i (driverGive (getT s i) j src)
        ∧ (getE (getT t d) e).seam = (getE (getT s d) e).seam ++ [w] ∧ t.mem = s.mem
        ∧ ([1, 2, 3, 4, 5, 6].contains (pwrState s (tileField d)) = true →
            rd t (A.PWR_STATUS (tileField d)) F.PWR_STATUS_WAKE_PENDING = 1))
  ∧ (∀ (s : State) (i : TileIx) (j : Fin 24) (d e : Nat) (w : SWord) (src : Option Nat), segDest i j = some (d, e) → d ≠ i.val →
      seamAt d e = true → tileRuns s i = true → engaged s (tileField i) = false → engaged s (tileField d) = true →
      bridleSink s (seamOwner d e) (e / 6) = true → driverWord (getT s i) j = some (w, src) →
      ∃ t : State, exec (.sinkDiscard i j) s = .next t
        ∧ (smGet 0 (getT t (seamOwner d e)).sinkCnt (e / 6)).toNat
            = min ((smGet 0 (getT s (seamOwner d e)).sinkCnt (e / 6)).toNat + 1) (2 ^ 32 - 1)
        ∧ (getE (getT t d) e) = (getE (getT s d) e) ∧ t.mem = s.mem ∧ t.regs = s.regs)
  ∧ (∀ (s : State) (i : TileIx) (e : Fin 24) (w : SWord) (rest : List SWord), fieldRuns s (tileField i) = true →
      engaged s (tileField i) = false → (getE (getT s i) e).skid.length < 2 → edgeTrack i e = none →
      pwrState s (tileField i) ≠ 2 → (getE (getT s i) e).seam = w :: rest →
      exec (.seamDeliver i e) s = .next (setT s i (setE (getT s i) e
        { getE (getT s i) e with skid := (getE (getT s i) e).skid ++ [w], seam := rest })))
  ∧ (∀ (s : State) (i : TileIx) (e : Fin 24) (w : SWord) (g : Nat), fieldRuns s (tileField i) = true →
      engaged s (tileField i) = false → (getE (getT s i) e).skid.length < 2 → edgeTrack i e = some g →
      (smGet {} s.groups g).readSide[e.val % 6]? = some (some w) → rd s (A.FIFO_STATUS (g / 4) (g % 4)) F.FIFO_STATUS_STATE ≠ 3 →
      ∃ t : State, exec (.seamDeliver i e) s = .next t ∧ (getE (getT t i) e).skid = (getE (getT s i) e).skid ++ [w]
        ∧ (smGet {} t.groups g).readSide = (smGet {} s.groups g).readSide.set (e.val % 6) none ∧ t.mem = s.mem)

/-- BRIDLE_RELEASE, ROW_MOVE and ECC_WRITEBACK complete (R141, R144, R196, R213, R581). BRIDLE_RELEASE of a field that
has reached RUN or IDLE with its bridle cells engaged disengages them and changes nothing else. ROW_MOVE of a STREAM
or NOTIFY queue whose read-prefetch row is empty while the bank holds a row moves that row in, and of one whose
assembly row is full (with no row to move in) moves it to the bank: either way the depth is unchanged. ECC_WRITEBACK
of a half whose corrected data wait leaves the half without an error and no longer waiting, and no byte of memory
differs. -/
def Obligations.BridlesAndRows : Prop :=
  (∀ (s : State) (f : Fin 64), engaged s f = true → pwrState s f ≤ 1 →
      exec (.bridleRelease f) s = .next (setFS s f { getFS s f with engaged := false }))
  ∧ (∀ (s : State) (i : TileIx) (q : Fin 4), fieldRuns s (tileField i) = true → tileKind i = .b → qEn (getT s i) q = true →
      qType (getT s i) q ≠ 2 → bankForced s i = false → (getQ (getT s i) q).pre = [] → 0 < (getQ (getT s i) q).rows →
      ∃ t : State, exec (.rowMove i q) s = .next t ∧ (getQ (getT t i) q).rows + 1 = (getQ (getT s i) q).rows
        ∧ (getQ (getT t i) q).pre.length = 4 ∧ qDepth (getQ (getT t i) q) = qDepth (getQ (getT s i) q))
  ∧ (∀ (s : State) (i : TileIx) (q : Fin 4), fieldRuns s (tileField i) = true → tileKind i = .b → qEn (getT s i) q = true →
      qType (getT s i) q ≠ 2 → bankForced s i = false → (getQ (getT s i) q).pre ≠ [] → (getQ (getT s i) q).asm.length = 4 →
      ∃ t : State, exec (.rowMove i q) s = .next t ∧ (getQ (getT t i) q).rows = (getQ (getT s i) q).rows + 1
        ∧ (getQ (getT t i) q).asm = (getQ (getT s i) q).incoming.take 4 ∧ qDepth (getQ (getT t i) q) = qDepth (getQ (getT s i) q))
  ∧ (∀ (s : State) (i : TileIx) (h : Fin 8192), (getT s i).b.writeBack.contains h.val = true →
      fieldRuns s (tileField i) = true → bankForced s i = false →
      ∃ t : State, exec (.eccWriteback i h) s = .next t ∧ halfErr t i (8 * h.val) = 0
        ∧ (getT t i).b.writeBack.contains h.val = false ∧ t.mem = s.mem ∧ t.regs = s.regs)

namespace Sys2Proof.Claims

open Sys2Proof.Machine

/-- Entry `n` of endpoint `ep` has been answered: it is free, and the endpoint has a response to inject for the requester,
with its tag, the status and the data, on DAT where it carries more than 8 bytes with status OK and on RSP otherwise
(spec 07 R251, R252, R268). -/
def answered (t : State) (ep : Fin 2048) (n : Fin 32) (req : Flit) (st : Status) (data : List Byte) : Prop :=
  getIn t ep n = none
    ∧ ∃ f ∈ epOut (getEp t ep) (if st = .ok ∧ 8 < data.length then .dat else .rsp),
        f.dst = req.src ∧ f.tag = req.tag ∧ f.data = BitVec.ofNat 512 (leBytes data)
          ∧ f.status.toNat = (if st = .ok ∧ 8 < data.length then 0 else statusCode st)

/-- The words that a push request carries (spec 06 R214). -/
def pushWordsOf (g : Ingress) (off : Nat) : List SWord :=
  pushedWords ((g.wdata.getD []).take (reqLen g.req)) (decide (2 ≤ off / 64))

/-- No earlier push is still on its way into queue `q`, and its assembly row has a free place (spec 06 R581). -/
def pushPlace (s : State) (i q : Nat) : Prop := (getQ (getT s i) q).incoming = [] ∧ (getQ (getT s i) q).asm.length < 4

/-- A push of `k` words has been taken: the depth has grown by them; the request is answered OK where all of them fit into the
assembly row, and otherwise either answered or waiting in its entry for row moves (spec 06 R218, R581). -/
def pushTaken (s t : State) (ep : Fin 2048) (n : Fin 32) (g : Ingress) (i q k : Nat) : Prop :=
  qDepth (getQ (getT t i) q) = qDepth (getQ (getT s i) q) + k
    ∧ ((getQ (getT s i) q).asm.length + k ≤ 4 → answered t ep n g.req .ok [])
    ∧ (answered t ep n g.req .ok [] ∨ getIn t ep n = some { g with busy := true })

end Sys2Proof.Claims

/-- BANK_READ, BANK_WRITE and XY_NETWORK_ACCESS complete: the bytes read or written, the answer, and no other byte
changed (R196, R197, R198, R268). In every state in which an ingress entry may be served: BANK_READ of bytes none of
whose halves is uncorrectable answers OK with those bytes, and with ECC_UNCORRECTED and no data when a half is; no
byte of memory differs. BANK_WRITE stores its data (with no partly covered half uncorrectable) and answers OK;
XY_NETWORK_ACCESS moves one word of a word-aligned access: a write stores it, a read of a word with good parity adds
it to what it has; before the last word the entry stays and waits anew for its next word, behind the last one the
request is answered OK (a read with its bytes). Every byte outside the stored ones is as before. Where the rules leave
a corner open, the model's choice of assumption log 26, 67 is what is stated. -/
def Obligations.BankRequests : Prop :=
  (∀ (s : State) (ep : Fin 2048) (n : Fin 32) (g : Ingress) (i off j : Nat), served s ep n = some (g, .bank i off, j) →
      reqWrite g.req = false → (∀ h ∈ halves off (reqLen g.req), halfErr s i (8 * h) ≠ 2) →
      ∃ t : State, exec (.bankRead ep n) s = .next t
        ∧ answered t ep n g.req .ok (memRead s (tileBase i + off) (reqLen g.req)) ∧ t.mem = s.mem)
  ∧ (∀ (s : State) (ep : Fin 2048) (n : Fin 32) (g : Ingress) (i off j : Nat), served s ep n = some (g, .bank i off, j) →
      reqWrite g.req = false → (∃ h ∈ halves off (reqLen g.req), halfErr s i (8 * h) = 2) →
      ∃ t : State, exec (.bankRead ep n) s = .next t ∧ answered t ep n g.req .eccUncorrected [] ∧ t.mem = s.mem)
  ∧ (∀ (s : State) (ep : Fin 2048) (n : Fin 32) (g : Ingress) (i off j : Nat) (bs : List Byte) (same : Bool),
      served s ep n = some (g, .bank i off, j) → reqWrite g.req = true → g.wdata = some bs → bs.length = reqLen g.req →
      (∀ h ∈ halves off (reqLen g.req), coversHalf off (reqLen g.req) h = false → halfErr s i (8 * h) ≠ 2) →
      ∃ t : State, exec (.bankWrite ep n same) s = .next t ∧ answered t ep n g.req .ok []
        ∧ memRead t (tileBase i + off) (reqLen g.req) = bs
        ∧ ∀ a : Nat, (a < tileBase i + off ∨ tileBase i + off + reqLen g.req ≤ a) → memGet t a = memGet s a)
  ∧ (∀ (s : State) (ep : Fin 2048) (n : Fin 32) (g : Ingress) (i off j : Nat) (bs : List Byte),
      served s ep n = some (g, .xy i off, j) → reqWrite g.req = true → g.wdata = some bs →
      off % 4 = 0 → g.moved % 4 = 0 → off + g.moved + 4 ≤ 0x2000 →
      ∃ t : State, exec (.xyNetworkAccess ep n) s = .next t
        ∧ (g.moved + 4 < reqLen g.req → ∃ h : Ingress, getIn t ep n = some h ∧ h.moved = g.moved + 4 ∧ h.req = g.req ∧ h.wait = 0)
        ∧ (reqLen g.req ≤ g.moved + 4 → answered t ep n g.req .ok [])
        ∧ memRead t (tileBase i + off + g.moved) 4 = bytesLE 4 (leAt bs g.moved 4)
        ∧ ∀ a : Nat, (a < tileBase i + off + g.moved ∨ tileBase i + off + g.moved + 4 ≤ a) → memGet t a = memGet s a)
  ∧ (∀ (s : State) (ep : Fin 2048) (n : Fin 32) (g : Ingress) (i off j : Nat), served s ep n = some (g, .xy i off, j) →
      reqWrite g.req = false → s.xyBad = [] → g.bad = false → off % 4 = 0 → g.moved % 4 = 0 → off + g.moved + 4 ≤ 0x2000 →
      ∃ t : State, exec (.xyNetworkAccess ep n) s = .next t ∧ t.mem = s.mem
        ∧ (g.moved + 4 < reqLen g.req → ∃ h : Ingress, getIn t ep n = some h ∧ h.moved = g.moved + 4 ∧ h.req = g.req ∧ h.wait = 0
            ∧ h.part = g.part ++ memRead s (tileBase i + off + g.moved) 4)
        ∧ (reqLen g.req ≤ g.moved + 4 →
            answered t ep n g.req .ok (g.part ++ memRead s (tileBase i + off + g.moved) 4)))

/-- Pushes, pops and credit requests complete: the depth, the credits and the answers (R214, R217, R218, R219, R220,
R581). In every state in which an ingress entry at a queue port page may be served: a credited or uncredited push to a
STREAM queue whose room check holds is taken: the depth grows by the words it carries, a credited push spends that
many credits, and the answer is OK, at once where the assembly row holds the words and otherwise once the row moves it
needs are done; an uncredited push whose check fails answers LENGTH, counts in REFUSED (saturating) and leaves the
depth. A pop of one word answers OK with the DATA word that stands first in the read-prefetch row and the depth falls
by one; a pop that cannot be served while fewer than four requests are held is held. A credit request answers OK with
g = min(16, capacity - depth - CREDITED) when g is not 0 and no earlier one is held, and CREDITED grows by g.
POP_SERVE and CREDIT_GRANT_HELD do the same for the oldest held request. Where the rules leave a corner open, the
model's choice of assumption log 15, 28 is what is stated. -/
def Obligations.QueueRequests : Prop :=
  (∀ (s : State) (ep : Fin 2048) (n : Fin 32) (g : Ingress) (i q off j : Nat), served s ep n = some (g, .port i q off, j) →
      reqWrite g.req = true → g.busy = false → qType (getT s i) q = 0 → off / 64 % 2 = 0 → pushPlace s i q →
      netRoom (getT s i) q true (pushWordsOf g off) = true →
      ∃ t : State, exec (.creditedPush ep n) s = .next t ∧ pushTaken s t ep n g i q (pushWordsOf g off).length
        ∧ (getQ (getT t i) q).credited + (pushWordsOf g off).length = (getQ (getT s i) q).credited)
  ∧ (∀ (s : State) (ep : Fin 2048) (n : Fin 32) (g : Ingress) (i q off j : Nat), served s ep n = some (g, .port i q off, j) →
      reqWrite g.req = true → g.busy = false → qType (getT s i) q = 0 → off / 64 % 2 = 1 → pushPlace s i q →
      netRoom (getT s i) q false (pushWordsOf g off) = true →
      ∃ t : State, exec (.uncreditedPush ep n) s = .next t ∧ pushTaken s t ep n g i q (pushWordsOf g off).length
        ∧ (getQ (getT t i) q).credited = (getQ (getT s i) q).credited)
  ∧ (∀ (s : State) (ep : Fin 2048) (n : Fin 32) (g : Ingress) (i q off j : Nat) (c : Instr), served s ep n = some (g, .port i q off, j) →
      reqWrite g.req = true → g.busy = true → (getQ (getT s i) q).incoming = [] →
      ((off / 64 % 2 = 0 ∧ c = .creditedPush ep n) ∨ (off / 64 % 2 = 1 ∧ c = .uncreditedPush ep n)) →
      ∃ t : State, exec c s = .next t ∧ answered t ep n g.req .ok [] ∧ t.tiles = s.tiles ∧ t.mem = s.mem)
  ∧ (∀ (s : State) (ep : Fin 2048) (n : Fin 32) (g : Ingress) (i q off j : Nat), served s ep n = some (g, .port i q off, j) →
      reqWrite g.req = true → g.busy = false → off / 64 % 2 = 1 → netRoom (getT s i) q false (pushWordsOf g off) = false →
      ∃ t : State, exec (.uncreditedPush ep n) s = .next t ∧ answered t ep n g.req .length []
        ∧ (getQ (getT t i) q).refused.toNat = min ((getQ (getT s i) q).refused.toNat + 1) 65535
        ∧ qDepth (getQ (getT t i) q) = qDepth (getQ (getT s i) q) ∧ t.mem = s.mem)
  ∧ (∀ (s : State) (ep : Fin 2048) (n : Fin 32) (g : Ingress) (i q off j : Nat) (w : SWord),
      served s ep n = some (g, .port i q off, j) → reqWrite g.req = false → off < 64 → reqLen g.req = 4 →
      (getQ (getT s i) q).held = [] → (getQ (getT s i) q).pre.head? = some w → w.tag = .data →
      g.busy = false → g.moved = 0 → g.part = [] → popLocked s i q = false →
      ∃ t : State, exec (.queuePop ep n) s = .next t ∧ answered t ep n g.req .ok (bytesLE 4 w.data.toNat)
        ∧ qDepth (getQ (getT t i) q) + 1 = qDepth (getQ (getT s i) q))
  ∧ (∀ (s : State) (ep : Fin 2048) (n : Fin 32) (g : Ingress) (i q off j : Nat), served s ep n = some (g, .port i q off, j) →
      reqWrite g.req = false → off < 64 → popReady s i q (reqLen g.req / 4) false = false → (getQ (getT s i) q).held.length < 4 →
      g.busy = false → popLocked s i q = false →
      ∃ t : State, exec (.queuePop ep n) s = .next t ∧ getIn t ep n = some { g with held := true }
        ∧ (getQ (getT t i) q).held = (getQ (getT s i) q).held ++ [⟨true, ep, n⟩])
  ∧ (∀ (s : State) (ep : Fin 2048) (n : Fin 32) (g : Ingress) (i q off j : Nat), served s ep n = some (g, .port i q off, j) →
      reqWrite g.req = false → off = 0x40 → (getQ (getT s i) q).held = [] →
      0 < qCap (getT s i) q - qDepth (getQ (getT s i) q) - (getQ (getT s i) q).credited →
      let k := min 16 (qCap (getT s i) q - qDepth (getQ (getT s i) q) - (getQ (getT s i) q).credited)
      ∃ t : State, exec (.creditRequest ep n) s = .next t ∧ answered t ep n g.req .ok (bytesLE 8 k)
        ∧ (getQ (getT t i) q).credited = (getQ (getT s i) q).credited + k)
  ∧ (∀ (s : State) (i : TileIx) (q : Fin 4) (h : Held) (c : BQueue) (g : Ingress) (w : SWord) (waited : Bool) (ep : Fin 2048)
        (n : Fin 32), takeHeld (getQ (getT s i) q) true = some (h, c) → h.ep = ep.val → h.entry = n.val →
      getIn s ep n = some g → fieldRuns s (tileField i) = true → reqLen g.req = 4 → c.pre.head? = some w → w.tag = .data →
      g.moved = 0 → g.part = [] → popLocked s i q = false →
      ∃ t : State, exec (.popServe i q waited) s = .next t ∧ answered t ep n g.req .ok (bytesLE 4 w.data.toNat)
        ∧ qDepth (getQ (getT t i) q) + 1 = qDepth (getQ (getT s i) q))
  ∧ (∀ (s : State) (i : TileIx) (q : Fin 4) (h : Held) (c : BQueue) (g : Ingress) (k : Nat) (ep : Fin 2048) (n : Fin 32),
      takeHeld (getQ (getT s i) q) false = some (h, c) → h.ep = ep.val → h.entry = n.val → getIn s ep n = some g →
      fieldRuns s (tileField i) = true → grantOf (getT s i) q = some k →
      ∃ t : State, exec (.creditGrantHeld i q) s = .next t ∧ answered t ep n g.req .ok (bytesLE 8 k)
        ∧ (getQ (getT t i) q).credited = c.credited + k ∧ (getQ (getT t i) q).held = c.held)

/-- FRAME_WRITE stores whole checked frames and FRAME_READ returns the stored ones (R150, R158, R159). In every state
in which an ingress entry in the frame area of a tile may be served: a write of whole aligned frames each of which
passes its check answers OK and every slot it names then holds its 32 bytes; a write one frame of which fails its
check stores no frame and answers the status of the first failure in address order; a read answers OK with the stored
bytes and changes no tile. -/
def Obligations.FrameRequests : Prop :=
  (∀ (s : State) (ep : Fin 2048) (n : Fin 32) (g : Ingress) (i off : Nat), getIn s ep n = some g →
      placeOf s g.req.addr.toNat = .frame i off → mayServe s i g = true → reqWrite g.req = true →
      off % 32 = 0 → reqLen g.req % 32 = 0 → off + reqLen g.req ≤ 0x220 →
      (∀ k < reqLen g.req / 32,
        frameWriteStatus s i (off / 32 + k) (frameOf (sliceBytes (g.wdata.getD []) (32 * k) 32)) = .ok) →
      (∀ q : Nat, ∀ h ∈ (getQ (getT s i) q).held, (h.ep, h.entry) ≠ (ep.val, n.val)) →
      ∃ t : State, exec (.frameWrite ep n) s = .next t ∧ answered t ep n g.req .ok []
        ∧ ∀ k < reqLen g.req / 32,
            slotFrame (getT t i) (off / 32 + k) = frameOf (sliceBytes (g.wdata.getD []) (32 * k) 32))
  ∧ (∀ (s : State) (ep : Fin 2048) (n : Fin 32) (g : Ingress) (i off k : Nat), getIn s ep n = some g →
      placeOf s g.req.addr.toNat = .frame i off → mayServe s i g = true → reqWrite g.req = true →
      off % 32 = 0 → reqLen g.req % 32 = 0 → off + reqLen g.req ≤ 0x220 → k < reqLen g.req / 32 →
      (∀ m < k, frameWriteStatus s i (off / 32 + m) (frameOf (sliceBytes (g.wdata.getD []) (32 * m) 32)) = .ok) →
      frameWriteStatus s i (off / 32 + k) (frameOf (sliceBytes (g.wdata.getD []) (32 * k) 32)) ≠ .ok →
      ∃ t : State, exec (.frameWrite ep n) s = .next t ∧ t.tiles = s.tiles
        ∧ answered t ep n g.req (frameWriteStatus s i (off / 32 + k) (frameOf (sliceBytes (g.wdata.getD []) (32 * k) 32))) [])
  ∧ (∀ (s : State) (ep : Fin 2048) (n : Fin 32) (g : Ingress) (i off : Nat), getIn s ep n = some g →
      placeOf s g.req.addr.toNat = .frame i off → mayServe s i g = true → reqWrite g.req = false →
      off + reqLen g.req ≤ 0x220 →
      ∃ (t : State) (bs : List Byte), exec (.frameRead ep n) s = .next t ∧ answered t ep n g.req .ok bs
        ∧ bs.length = reqLen g.req ∧ t.tiles = s.tiles ∧ t.mem = s.mem
        ∧ ∀ k < reqLen g.req, bs[k]? = some (BitVec.ofNat 8
            ((slotFrame (getT s i) ((off + k) / 32)).toNat / 256 ^ ((off + k) % 32))))

/-- Writes and reads of accumulator, generator, owner and queue registers do what their tables say (R107, R116, R120,
R204, R222, R234). In a tile whose patch is not borrowed, once SRST has been released: in an M-tile ACC_LO_READ puts
ACCn[79:64] into the snapshot that ACCn_HI returns; ACC_REGISTER_WRITE replaces the low 64 or the high 16 bits of ACCn
and clears its poison mark; AG_REGISTER_WRITE loads the generator with value[41:0]. In a B-tile BANK_OWNER_WRITE by a
key that R204 admits loads DEVICE and MASTER, by another key leaves them and records the denial with status NOT_OWNER,
and before WEN by a key that may not write it changes nothing; FLUSH (a write of QCTL) loads EVENT_EN and POP_WAIT and
with bit 9 leaves the queue empty, without credits and without held requests. Before SRST these registers hold their
reset values: writes of accumulators, generators and QCTL change nothing. Where the rules leave a corner open, the
model's choice of assumption log 66 is what is stated. -/
def Obligations.TileRegisters : Prop :=
  (∀ (s : State) (i : TileIx), tileKind i = .m → lentTile s i = false →
      (∃ t : State, exec (.accLoRead i 0) s = .next t ∧ t = setT s i (getT t i)
        ∧ (getT t i).m = { (getT s i).m with snap0 := BitVec.ofNat 16 ((getT s i).m.acc0.toNat / 2 ^ 64) })
      ∧ (∃ t : State, exec (.accLoRead i 1) s = .next t ∧ t = setT s i (getT t i)
        ∧ (getT t i).m = { (getT s i).m with snap1 := BitVec.ofNat 16 ((getT s i).m.acc1.toNat / 2 ^ 64) }))
  ∧ (∀ (s : State) (i : TileIx) (v : Reg), tileKind i = .m → lentTile s i = false → s.boot.srst = true →
      (∃ t : State, exec (.accRegisterWrite i 0 false v) s = .next t ∧ t = setT s i (getT t i)
        ∧ (getT t i).m.acc0.toNat = (getT s i).m.acc0.toNat / 2 ^ 64 * 2 ^ 64 + v.toNat ∧ (getT t i).m.psn0 = false
        ∧ (getT t i).m.acc1 = (getT s i).m.acc1)
      ∧ (∃ t : State, exec (.accRegisterWrite i 1 true v) s = .next t ∧ t = setT s i (getT t i)
        ∧ (getT t i).m.acc1.toNat = (getT s i).m.acc1.toNat % 2 ^ 64 + v.toNat % 2 ^ 16 * 2 ^ 64 ∧ (getT t i).m.psn1 = false
        ∧ (getT t i).m.acc0 = (getT s i).m.acc0))
  ∧ (∀ (s : State) (i : TileIx) (set : Fin 4) (g : Fin 3) (v : Reg), tileKind i = .m → lentTile s i = false → s.boot.srst = true →
      ∃ t : State, exec (.agRegisterWrite i set g v) s = .next t ∧ t = setT s i (getT t i)
        ∧ (agGet (getT t i) (3 * set.val + g.val)).toNat = v.toNat % 2 ^ 42
        ∧ ∀ k : Nat, k ≠ 3 * set.val + g.val → agGet (getT t i) k = agGet (getT s i) k)
  ∧ (∀ (s : State) (i : TileIx) (k : Key) (v : Reg), tileKind i = .b → lentTile s i = false → wenLets s k = true → ownerMayWrite s i k = true →
      ∃ t : State, exec (.bankOwnerWrite i k v) s = .next t ∧ t = setT s i (getT t i)
        ∧ (getT t i).b.ownDev.toNat = v.toNat / 65536 % 65536 ∧ (getT t i).b.ownMst.toNat = v.toNat % 65536)
  ∧ (∀ (s : State) (i : TileIx) (k : Key) (v : Reg), tileKind i = .b → lentTile s i = false → wenLets s k = true → ownerMayWrite s i k = false →
      ∃ t : State, exec (.bankOwnerWrite i k v) s = .next t ∧ t.tiles = s.tiles
        ∧ (rdB s A.ACC_FAULT F.ACC_FAULT_VALID = false → rd t A.ACC_FAULT F.ACC_FAULT_VALID = 1
            ∧ rd t A.ACC_FAULT F.ACC_FAULT_STATUS = statusCode .notOwner ∧ rd t A.ACC_FAULT F.ACC_FAULT_KEY = keyNat k))
  ∧ (∀ (s : State) (i : TileIx) (k : Key) (v : Reg), wenLets s k = false → exec (.bankOwnerWrite i k v) s = .next s)
  ∧ (∀ (s : State) (i : TileIx) (q : Fin 4) (v : Reg), tileKind i = .b → lentTile s i = false → s.boot.srst = true →
      ∃ t : State, exec (.flush i q v) s = .next t
        ∧ (getQ (getT t i) q).eventEn = v.getLsbD 8 ∧ (getQ (getT t i) q).popWait.toNat = v.toNat % 256
        ∧ (v.getLsbD 9 = true → qDepth (getQ (getT t i) q) = 0 ∧ (getQ (getT t i) q).credited = 0
            ∧ (getQ (getT t i) q).held = []))
  ∧ (∀ (s : State) (i : TileIx) (v : Reg), lentTile s i = false → s.boot.srst = false →
      (∀ (n : Fin 2) (h : Bool), exec (.accRegisterWrite i n h v) s = .next s)
      ∧ (∀ (set : Fin 4) (g : Fin 3), exec (.agRegisterWrite i set g v) s = .next s)
      ∧ (∀ q : Fin 4, exec (.flush i q v) s = .next s))

namespace Sys2Proof.Claims

open Sys2Proof.Machine

/-- A completion of descriptor `id` waits in ring `r` with status and AUX (spec 08 R321). -/
def completed (t : State) (r id : Nat) (st : Status) (aux : Nat) : Prop :=
  ∃ c ∈ (getRing t r).out, c.desc = some id ∧ c.status = st ∧ c.aux = aux

/-- The command's issuer is descriptor `d` of ring `rr`, which is not finished and asks for a completion (spec 08 R308). -/
def fromRing (s : State) (c : TreeCmd) (rr d : Nat) : Prop :=
  c.issuer = .ring rr d ∧ ∃ x : Desc, liveDesc s rr d = some x ∧ bit (dFlags x) 1 = false

/-- Run `id` is command `code`, presented in every field that it covers, with no earlier command in field `f`; no covered field has
gone down before a member has acted, and no member there is borrowed (spec 01 R31; spec 05 R164, R193). -/
def presented (s : State) (id f : Nat) (code : BitVec 4) (r : TreeRun) : Prop :=
  getRun s id = some r ∧ r.cmd.cmd = code ∧ r.todo = [] ∧ r.here.contains f = true ∧ earlierHere s id f = false
    ∧ (r.acted = true ∨ (cmdFields r.cmd).any (fieldDown s r.cmd) = false)
    ∧ (membersIn r.cmd f).any (lentTile s) = false

/-- Every tile that `p` names holds `g` of what it held, and every other tile is as it was; so is every byte of memory. -/
def tilesBy (s t : State) (p : Nat → Prop) (g : Nat → Tile → Tile) : Prop :=
  (∀ i : TileIx, p i → getT t i = g i (getT s i)) ∧ (∀ i : TileIx, ¬ p i → getT t i = getT s i) ∧ t.mem = s.mem

/-- A switch to context `n` by a command: the context is entered, both arms are clear, and the quiet cycles start anew (spec 05 R156,
R160, R176, R177). -/
def switched (s : State) (n : Fin 16) (i : Nat) (x : Tile) : Tile :=
  touch s i { enterCtx x n with arm := false, barArm := none }

/-- The members in field `f` on which a command acts: all of them once tile state has been released (spec 02 R83; spec 12 R467). -/
def acting (s : State) (c : TreeCmd) (f i : Nat) : Prop := s.boot.srst = true ∧ i ∈ membersIn c f

end Sys2Proof.Claims

/-- The members of a train are a block of tiles, and the tree finds exactly them in each field (R161). A tile is a
member of a train with 16 <= PL <= 30 exactly when its column agrees with that of the unit address above the low
ceil(k/2) bits and its row above the low floor(k/2) bits, k = 30 - PL; the tiles that the tree delivers to in a
covered field are exactly the members of that field. -/
def Obligations.TrainMembers : Prop :=
  (∀ (c : TreeCmd) (i : TileIx), 16 ≤ c.pl.toNat → c.pl.toNat ≤ 30 →
      (isMember c i = true ↔ tileX i / 2 ^ ((cmdK c + 1) / 2) = tileX (cmdIx c) / 2 ^ ((cmdK c + 1) / 2)
        ∧ tileY i / 2 ^ (cmdK c / 2) = tileY (cmdIx c) / 2 ^ (cmdK c / 2)))
  ∧ (∀ (c : TreeCmd) (i : TileIx) (f : Fin 64), 16 ≤ c.pl.toNat → c.pl.toNat ≤ 30 → f.val ∈ cmdFields c →
      (i.val ∈ membersIn c f ↔ isMember c i = true ∧ tileField i = f.val))
  ∧ (∀ (c : TreeCmd) (i : TileIx), 16 ≤ c.pl.toNat → c.pl.toNat ≤ 30 → isMember c i = true → tileField i ∈ cmdFields c)

/-- The root admits, refuses and delivers train commands (R163, R164, R165, R171, R172, R174). While the engine clock
runs, ROOT_ADMIT of the source whose turn it is: a well-formed command for this device that overlaps nothing that
holds it and that every covered field accepts goes on its way to every field that it covers, and (but for WAKE and
POWER) raises the wake request of a covered field that does not run; one that must wait waits at the root; a malformed
one from a ring completes with BAD_DESCRIPTOR, one that a field refuses because it is down completes with DOMAIN_DOWN,
and neither is held. COMMAND_DELIVERY presents a command in a field that runs and whose members are not borrowed; the
delivery of an INJECT to its last field, with no earlier command still to act there, gives every member its injection;
in a field that went down the command is refused, before any member has acted: it is no longer held and no tile
differs. Where the rules leave a corner open, the model's choice of assumption log 68 is what is stated. -/
def Obligations.RootAdmits : Prop :=
  (∀ (s s1 : State) (src : Nat) (c : TreeCmd), s.asleep = false → rootTurn s (srcGroup src) = true → takeSrc s src = some (c, s1) → cmdOk c = true →
      16 ≤ c.pl.toNat → cmdDev c = devId s → c.cmd ≠ 4 → rootBlocked s s.tree.next c = false → firstRefusal s c = none →
      ∃ t : State, exec (.rootAdmit src) s = .next t ∧ t.tree.next = s.tree.next + 1
        ∧ getRun t s.tree.next = some { cmd := c, waiting := false, todo := cmdFields c }
        ∧ (c.cmd ≠ 8 → c.cmd ≠ 9 → ∀ f ∈ cmdFields c, [1, 2, 3, 4, 5, 6].contains (pwrState s f) = true →
            rd t (A.PWR_STATUS f) F.PWR_STATUS_WAKE_PENDING = 1) ∧ t.mem = s.mem)
  ∧ (∀ (s s1 : State) (src : Nat) (c : TreeCmd), s.asleep = false → rootTurn s (srcGroup src) = true → takeSrc s src = some (c, s1) → cmdOk c = true →
      16 ≤ c.pl.toNat → cmdDev c = devId s → rootBlocked s s.tree.next c = true →
      exec (.rootAdmit src) s = .next (setRun { s1 with tree := { s1.tree with next := s1.tree.next + 1 } } s.tree.next
        (some { cmd := c })))
  ∧ (∀ (s s1 : State) (src rr d : Nat) (c : TreeCmd), s.asleep = false → rootTurn s (srcGroup src) = true → takeSrc s src = some (c, s1) →
      cmdOk c = false → fromRing s c rr d →
      ∃ t : State, exec (.rootAdmit src) s = .next t ∧ completed t rr d .badDescriptor 0 ∧ t.tree.runs = s.tree.runs)
  ∧ (∀ (s s1 : State) (src rr d : Nat) (c : TreeCmd), s.asleep = false → rootTurn s (srcGroup src) = true → takeSrc s src = some (c, s1) →
      cmdOk c = true → 16 ≤ c.pl.toNat → cmdDev c = devId s → rootBlocked s s.tree.next c = false →
      firstRefusal s c = some (.domainDown, 0, 0) → fromRing s c rr d →
      ∃ t : State, exec (.rootAdmit src) s = .next t ∧ completed t rr d .domainDown 0 ∧ getRun t s.tree.next = none)
  ∧ (∀ (s : State) (id : Nat) (f : Fin 64) (r : TreeRun), s.asleep = false → getRun s id = some r → r.waiting = false → r.todo.contains f.val = true →
      [0, 8, 9].contains r.cmd.cmd.toNat = false → (r.cmd.cmd = 5 → r.todo.erase f.val ≠ []) →
      earlierTo s id f = false → fieldDown s r.cmd f = false → fieldRuns s f = true → (membersIn r.cmd f).any (lentTile s) = false →
      exec (.commandDelivery id f) s
        = .next (setRun s id (some { r with todo := r.todo.erase f.val, here := r.here ++ [f.val] })))
  ∧ (∀ (s : State) (id : Nat) (f : Fin 64) (r : TreeRun), s.asleep = false → getRun s id = some r → r.waiting = false → r.todo = [f.val] →
      r.cmd.cmd = 5 → earlierTo s id f = false → fieldDown s r.cmd f = false →
      fieldRuns s f = true → (membersIn r.cmd f).any (lentTile s) = false →
      ((cmdFields r.cmd).flatMap (membersIn r.cmd)).any (fun i => lentTile s i || (getT s i).inject.isSome) = false →
      (cmdFields r.cmd).any (earlierHere s id) = false →
      ∃ t : State, exec (.commandDelivery id f) s = .next t
        ∧ getRun t id = some { r with todo := [], here := [], left := (cmdFields r.cmd).flatMap (membersIn r.cmd) }
        ∧ tilesBy s t (fun i => i ∈ (cmdFields r.cmd).flatMap (membersIn r.cmd))
            (fun _ x => { x with inject := some (r.cmd.ctx.toFin, id) }))
  ∧ (∀ (s : State) (id : Nat) (f : Fin 64) (r : TreeRun), s.asleep = false → getRun s id = some r → r.waiting = false → r.todo.contains f.val = true →
      [8, 9].contains r.cmd.cmd.toNat = false → earlierTo s id f = false → fieldDown s r.cmd f = true →
      ∃ t : State, exec (.commandDelivery id f) s = .next t ∧ getRun t id = none ∧ t.tiles = s.tiles ∧ t.mem = s.mem)

/-- SWITCH_IMM, SWITCH_BAR, BARRIER_GO, ARM, DISARM and INVALIDATE act on every member in the field and on no other
tile (R160, R170, R176, R177, R180). In every state in which the command is presented in every field that it covers,
no member there is borrowed and no earlier command holds the field; a member acts once SRST has released tile state
(INVALIDATE also before): SWITCH_IMM makes CTX the current context of every member there and clears its arms; the arm
phase of SWITCH_BAR gives every member the barrier arm with CTX and leaves its context; ARM sets and DISARM clears the
command arm of every member; INVALIDATE leaves FMT 0 in every named slot of every member, and every other bit of a
slot and every other slot as it was. BARRIER_GO, once every member is armed, the DRAINED reduction reads 1 and no
member is borrowed, switches every member to CTX with both arms clear, and the command is no longer held. No other
tile and no byte of memory differs. Where the rules leave a corner open, the model's choice of assumption log 68 is
what is stated. -/
def Obligations.TrainSwitches : Prop :=
  (∀ (s : State) (id : Nat) (f : Fin 64) (r : TreeRun), presented s id f 1 r →
      ∃ t : State, exec (.switchImm id f) s = .next t
        ∧ tilesBy s t (acting s r.cmd f) (switched s r.cmd.ctx.toFin))
  ∧ (∀ (s : State) (id : Nat) (f : Fin 64) (r : TreeRun), presented s id f 2 r →
      ∃ t : State, exec (.switchBar id f) s = .next t
        ∧ tilesBy s t (acting s r.cmd f) (fun i x => touch s i { x with barArm := some r.cmd.ctx.toFin }))
  ∧ (∀ (s : State) (id : Nat) (f : Fin 64) (r : TreeRun), presented s id f 3 r →
      ∃ t : State, exec (.armCmd id f) s = .next t ∧ tilesBy s t (acting s r.cmd f) (fun _ x => { x with arm := true }))
  ∧ (∀ (s : State) (id : Nat) (f : Fin 64) (r : TreeRun), presented s id f 4 r →
      ∃ t : State, exec (.disarmCmd id f) s = .next t ∧ tilesBy s t (acting s r.cmd f) (fun _ x => { x with arm := false }))
  ∧ (∀ (s : State) (id : Nat) (f : Fin 64) (r : TreeRun), presented s id f 6 r →
      ∃ t : State, exec (.invalidate id f) s = .next t
        ∧ (∀ (i : TileIx) (k : Fin 16), smGet 0 (getT t i).slots k
            = if i.val ∈ membersIn r.cmd f ∧ r.cmd.param.getLsbD k = true
              then smGet 0 (getT s i).slots k &&& BitVec.ofNat 256 (2 ^ 252 - 1) else smGet 0 (getT s i).slots k)
        ∧ (∀ i : TileIx, (getT t i).cur = (getT s i).cur ∧ (getT t i).static = (getT s i).static
            ∧ (getT t i).lreg = (getT s i).lreg)
        ∧ (∀ i : TileIx, i.val ∉ membersIn r.cmd f → getT t i = getT s i) ∧ t.mem = s.mem)
  ∧ (∀ (s : State) (id : Nat) (r : TreeRun), s.asleep = false → getRun s id = some r → r.cmd.phase = 0 → barReady s r = true → trainLent s r.cmd = false →
      ∃ t : State, exec (.barrierGo id) s = .next t ∧ getRun t id = none
        ∧ tilesBy s t (fun i => ∃ f ∈ cmdFields r.cmd, acting s r.cmd f i) (switched s r.cmd.ctx.toFin))

/-- QUERY, INJECT and BARRIER_TIMEOUT complete (R166, R170, R175, R179, R182, R186). QUERY of a train whose fields all
answer (state ON or isolated, transit clock running) ends with status OK and the four reductions in AUX [3:0] of the
completion of the ring that issued it, and changes no tile. INJECT of a member whose injection is pending switches an
armed member to CTX with its command arm cleared, leaves the context, the arm and every word at the arriving ends of
an unarmed one, and the injection is no longer pending. BARRIER_TIMEOUT of a SWITCH_BAR with a timeout clears every
barrier arm of its train, switches no member, and ends the command with TIMEOUT. Where the rules leave a corner open,
the model's choice of assumption log 57, 68 is what is stated. -/
def Obligations.TrainEnds : Prop :=
  (∀ (s : State) (id rr d : Nat) (r : TreeRun), s.asleep = false → getRun s id = some r → r.cmd.cmd = 0 → r.waiting = false →
      (∀ f ∈ r.todo, queryable s f = true) → fromRing s r.cmd rr d →
      ∃ t : State, exec (.query id) s = .next t ∧ getRun t id = none ∧ completed t rr d .ok (queryBits s r.cmd)
        ∧ queryBits s r.cmd < 16 ∧ t.tiles = s.tiles ∧ t.mem = s.mem)
  ∧ (∀ (s : State) (id : Nat) (i : TileIx) (n : Fin 16), (getT s i).inject = some (n, id) → tileRuns s i = true → lentTile s i = false →
      (cFmt (ctx s i) = 0 ∨ ((getT s i).latches = [] ∧ (tileKind i = .a ∨ pipeRoom i (getT s i) = true))) →
      ∃ t : State, exec (.injectCmd id i) s = .next t ∧ (getT t i).inject = none
        ∧ (waveArmed (getT s i) = true → (getT t i).cur = n ∧ (getT t i).arm = false)
        ∧ (waveArmed (getT s i) = false → (getT t i).cur = (getT s i).cur ∧ (getT t i).arm = (getT s i).arm
            ∧ (getT t i).ends = (getT s i).ends)
        ∧ (cFmt (ctx s i) ≠ 0 → waveStop (ctx s i) = false → drvSet (ctx s i) 3 ≠ [] →
            ∃ l ∈ (getT t i).latches, l.src = .fork ∧ l.word.tag = .wave ∧ l.word.data.toNat = n.val)
        ∧ (∀ j : TileIx, j ≠ i → getT t j = getT s j) ∧ t.mem = s.mem)
  ∧ (∀ (s : State) (id rr d : Nat) (r : TreeRun), s.asleep = false → getRun s id = some r → r.cmd.cmd = 2 → r.cmd.param ≠ 0 → r.cmd.phase = 0 →
      smGet none s.expansions id = none → fromRing s r.cmd rr d →
      ∃ t : State, exec (.barrierTimeout id) s = .next t ∧ getRun t id = none ∧ completed t rr d .timeout 0
        ∧ tilesBy s t (fun i => isMember r.cmd i = true) (fun _ x => { x with barArm := none }))
  ∧ (∀ (s : State) (id : Nat) (r : TreeRun) (e : Expansion), s.asleep = false → getRun s id = some r → r.cmd.cmd = 2 → r.cmd.param ≠ 0 → r.cmd.phase = 0 →
      smGet none s.expansions id = some e → e.step = 1 → e.cancelled = none →
      exec (.barrierTimeout id) s
        = .next { s with expansions := smSet none s.expansions id (some { e with cancelled := some .timeout }) })

/-- TRAIN_FLIT, ANCHOR_EXPANSION, BARRIER_ARM, BARRIER_GO_PHASE, BARRIER_CANCEL and EXPANDED_COMPLETION complete
(R377, R378, R379, R380). TRAIN_FLIT passes an arrived PHASE 0 or 1 command behind those that wait for the root, and
owes its credit; one with PL below 16 that this device may not expand is not passed. ANCHOR_EXPANSION of a waiting
command, with fewer than four expansions held and no copy of it yet, accounts for every counted member: not yet sent
to, awaited or answered. BARRIER_ARM of an armed and drained PHASE 1 command marks it answered and changes no tile.
BARRIER_GO_PHASE switches every member of the answered arm that it names, once none is borrowed; BARRIER_CANCEL clears
the barrier arm of every member of the arms that it names and ends them, and switches nothing. EXPANDED_COMPLETION,
when no member is awaited, completes with OK and a count of 0 when every counted member answered OK, and otherwise
with the status of the failed member with the lowest device ID and the number of failures in AUX [31:16]; QUERY adds
the combined reductions. Where the rules leave a corner open, the model's choice of assumption log 57, 89, 91 is what
is stated. -/
def Obligations.TrainsAcrossDevices : Prop :=
  (∀ (s : State) (p : Fin 6) (k : Packet) (c : TreeCmd), s.asleep = false → arrivedTrain s p (fun ph => decide (ph < 2)) = some (k, c) →
      (16 ≤ c.pl.toNat ∨ (c.phase = 0 ∧ isAnchor s = true)) →
      ∃ t : State, exec (.trainFlit p) s = .next t ∧ t.tree.fromGw = s.tree.fromGw ++ [c] ∧ (getP t p).arr = (getP s p).arr.erase k
        ∧ smGet 0 (getP t p).owed (bufKey k.cls k.vc) = smGet 0 (getP s p).owed (bufKey k.cls k.vc) + 1)
  ∧ (∀ (s : State) (p : Fin 6) (k : Packet) (c : TreeCmd), s.asleep = false → arrivedTrain s p (fun ph => decide (ph < 2)) = some (k, c) →
      c.pl.toNat < 16 → (c.phase ≠ 0 ∨ isAnchor s = false) →
      ∃ t : State, exec (.trainFlit p) s = .next t ∧ t.tree = s.tree)
  ∧ (∀ (s : State) (id : Nat) (r : TreeRun), s.asleep = false → getRun s id = some r → r.cmd.pl.toNat < 16 → smGet none s.expansions id = none →
      ownArm s id = none →
      rootBlocked s id r.cmd = false → expCount s < 4 →
      ∃ (t : State) (e : Expansion), exec (.anchorExpansion id) s = .next t ∧ smGet none t.expansions id = some e
        ∧ (∀ d ∈ expMembers s r.cmd, d ∈ e.unsent ∨ d ∈ e.awaited ∨ ∃ a ∈ e.answers, a.1 = d) ∧ t.tiles = s.tiles ∧ t.mem = s.mem)
  ∧ (∀ (s : State) (id : Nat) (r : TreeRun), s.asleep = false → getRun s id = some r → r.cmd.phase = 1 → r.answered = false → barReady s r = true →
      ∃ t : State, exec (.barrierArm id) s = .next t ∧ getRun t id = some { r with answered := true } ∧ t.tiles = s.tiles
        ∧ ∀ x e, r.cmd.issuer = .expansion x → smGet none s.expansions x = some e →
            ∃ e' : Expansion, smGet none t.expansions x = some e' ∧ ((devId s).toNat, Status.ok, 0) ∈ e'.answers
              ∧ (devId s).toNat ∉ e'.awaited)
  ∧ (∀ (s : State) (p : Fin 6) (k : Packet) (c : TreeCmd) (x : Nat × TreeRun), s.asleep = false → arrivedTrain s p (fun ph => ph == 2) = some (k, c) →
      (runList s).find? (fun x => samePhase x.2.cmd c && x.2.answered) = some x → trainLent s x.2.cmd = false →
      ∃ t : State, exec (.barrierGoPhase p) s = .next t ∧ getRun t x.1 = none
        ∧ tilesBy s t (fun i => ∃ f ∈ cmdFields x.2.cmd, acting s x.2.cmd f i) (switched s x.2.cmd.ctx.toFin))
  ∧ (∀ (s : State) (p : Fin 6) (k : Packet) (c : TreeCmd), s.asleep = false → arrivedTrain s p (fun ph => ph == 3) = some (k, c) →
      ∃ t : State, exec (.barrierCancel p) s = .next t
        ∧ (∀ x ∈ runList s, samePhase x.2.cmd c = true → getRun t x.1 = none
            ∧ ∀ i : TileIx, isMember x.2.cmd i = true → (getT t i).barArm = none)
        ∧ (∀ a ∈ t.tree.fromGw, samePhase a c = false)
        ∧ (∀ i : TileIx, (getT t i).cur = (getT s i).cur ∧ (getT t i).arm = (getT s i).arm))
  ∧ (∀ (s : State) (x rr d : Nat) (r : TreeRun) (e : Expansion), s.asleep = false → getRun s x = some r → smGet none s.expansions x = some e →
      e.step ≠ 1 → e.unsent = [] → e.awaited = [] → e.verdict = none → fromRing s r.cmd rr d →
      ∃ t : State, exec (.expandedCompletion x) s = .next t ∧ getRun t x = none ∧ smGet none t.expansions x = none
        ∧ ((∀ a ∈ e.answers, a.2.1 = .ok) → completed t rr d .ok (if r.cmd.cmd = 0 then expBits e else 0))
        ∧ (∀ a ∈ e.answers, a.2.1 ≠ .ok → (∀ b ∈ e.answers, b.2.1 ≠ .ok → b ≠ a → a.1 < b.1) →
            completed t rr d a.2.1 ((expFails e).length * 65536 + (if r.cmd.cmd = 0 then expBits e else 0))))

/-- A borrow keeps the user state of a patch aside, its end puts it back, and the field then goes on toward its target
(R190, R191, R192, R193). BORROW_START of a patch that may be borrowed keeps every member as it stood and gives it, in
slot 15 and as its current context, a test frame that the spec allows there; in its field the marks of earlier handler
contexts are cleared, and no other tile and no byte of memory differs. BORROW_END, and BORROW_YIELD when a trigger has
reached the patch, end the borrow: each member again has the current context, registers, predicates, counter, limit,
quiet cycles and slot 15 of its save set, and in an M-tile accumulators, generators and status; its arms and its other
slots are untouched, and while the target of the field is ON no other tile differs. A field in RUN whose last borrow
ends with another target begins to drain. Where the rules leave a corner open, the model's choice of assumption log 57
is what is stated. -/
def Obligations.Borrows : Prop :=
  (∀ (s : State) (p : Fin 1024), borrowOk s p = true →
      ∃ t : State, exec (.borrowStart p) s = .next t ∧ t.borrowed = s.borrowed ++ [p.val] ∧ t.mem = s.mem
        ∧ (∀ i : TileIx, tilePatch i = p.val → smGet none t.saved i = some { getT s i with handled := false } ∧ (getT t i).cur = 15
            ∧ testFrameOk i (smGet 0 (getT t i).slots 15) = true
            ∧ (getT t i).arm = (getT s i).arm ∧ (getT t i).barArm = (getT s i).barArm ∧ (getT t i).static = (getT s i).static)
        ∧ (∀ i : TileIx, tilePatch i ≠ p.val → tileField i = patchField p → getT t i = { getT s i with handled := false })
        ∧ (∀ i : TileIx, tileField i ≠ patchField p → getT t i = getT s i))
  ∧ (∀ (s : State) (p : Fin 1024) (wrong : List TileIx), s.borrowed.contains p.val = true →
      ∃ t : State, exec (.borrowEnd p wrong) s = .next t ∧ p.val ∉ t.borrowed ∧ t.mem = s.mem
        ∧ (pwrTarget s (patchField p) = 0 →
            (∀ (i : TileIx) (u : Tile), tilePatch i = p.val → smGet none s.saved i = some u →
              getT t i = restoreTile i (getT s i) u ∧ smGet none t.saved i = none)
            ∧ (∀ i : TileIx, tilePatch i ≠ p.val → getT t i = getT s i))
        ∧ (pwrTarget s (patchField p) ≠ 0 → lentPatches s (patchField p) = [p.val] → pwrState s (patchField p) = 0 → tripped s = false →
            pwrState t (patchField p) = 2))
  ∧ (∀ (s : State) (p : Fin 1024) (tr : Fin 6), s.borrowed.contains p.val = true → yieldDue s p tr = true →
      ∃ t : State, exec (.borrowYield p tr) s = .next t ∧ p.val ∉ t.borrowed ∧ t.mem = s.mem
        ∧ (∀ (i : TileIx) (u : Tile), tilePatch i = p.val → smGet none s.saved i = some u →
            (getT t i).cur = u.cur ∧ (getT t i).lreg = u.lreg ∧ (getT t i).cnt = u.cnt ∧ (getT t i).m.acc0 = u.m.acc0
              ∧ (getT t i).activeAt = u.activeAt
              ∧ smGet 0 (getT t i).slots 15 = smGet 0 u.slots 15 ∧ (getT t i).arm = (getT s i).arm
              ∧ ∀ k : Nat, k ≠ 15 → smGet 0 (getT t i).slots k = smGet 0 (getT s i).slots k)
        ∧ (pwrTarget s (patchField p) = 0 → ∀ i : TileIx, tilePatch i ≠ p.val → getT t i = getT s i)
        ∧ (pwrTarget s (patchField p) ≠ 0 → lentPatches s (patchField p) = [p.val] → pwrState s (patchField p) = 0 → tripped s = false →
            pwrState t (patchField p) = 2))

namespace Sys2Proof.Claims

open Sys2Proof.Machine

/-- The state that a field takes when its TARGET changes to `code`, by the table of spec 13 R499. -/
def movesTo (st code : Nat) : Nat :=
  if st ≤ 1 then (if code = 0 then st else 2)
  else if st = 2 then (if code = 0 then 0 else 2)
  else if st = 4 then (if code = 0 then 0 else 4)
  else if st = 5 then (if code ≤ 1 then 7 else 5)
  else if st = 6 then (if code ≤ 2 then 7 else 6)
  else st

/-- The state of field `f` after TARGET takes `code`: a TARGET that already holds the code moves nothing, a field with a borrowed
patch stays in RUN until the borrow has yielded (spec 05 R193), and under a trip every field keeps its state (spec 13 R511). -/
def stateAfter (s : State) (f code : Nat) : Nat :=
  if tripped s = true ∨ pwrTarget s f = code ∨ (pwrState s f ≤ 1 ∧ lentPatches s f ≠ []) then pwrState s f else movesTo (pwrState s f) code

/-- The state that a wake from `st` (RETAIN, or OFF after clearing) ends in (spec 13 R499). -/
def wokenTo (code : Nat) : Nat := if code = 0 then 0 else if code = 1 then 4 else if code = 2 then 5 else 6

/-- Only field `f` may have changed its state and its TARGET. -/
def othersKeep (s t : State) (f : Fin 64) : Prop :=
  ∀ g : Fin 64, g ≠ f → pwrState t g = pwrState s g ∧ pwrTarget t g = pwrTarget s g

end Sys2Proof.Claims

/-- TARGET_WRITE, WAKE, POWER, COMPUTE_WAKE, IDLE_ENTRY and FIELD_POWER_UP move a field as the table of targets says
(R498, R499, R502, R503, R506). While the host interface answers, TARGET_WRITE of a code of 0 to 3, and WAKE (code 0)
and POWER in a field where nothing holds them, leave that code in TARGET and, with no trip, the field in the state
that the table gives; a code of 4 to 7 leaves both. No other field changes state or TARGET. A command of a ring whose
last field thereby reaches its end state completes with OK. With no trip, COMPUTE_WAKE of a pending request starts the
clock of an IDLE field, and under WAKE_ON_ACCESS writes TARGET 0 in RETAIN and OFF, where the field begins to wake;
WAKES grows by one either way; under REFUSE it does nothing. IDLE_ENTRY under its conditions enters IDLE.
FIELD_POWER_UP, once the defaults have been applied, wakes the first OFF field of the quarter whose TARGET is not OFF.
Under a trip every field keeps its state. Where the rules leave a corner open, the model's choice of assumption log
46, 61 is what is stated. -/
def Obligations.PowerTargets : Prop :=
  (∀ (s : State) (f : Fin 64) (v : Reg), s.asleep = false → s.defaultsDue = false → getFld v F.PWR_CTL_FRESET = 0 → getFld v F.PWR_CTL_TARGET ≤ 3 →
      ∃ t : State, exec (.targetWrite f v) s = .next t ∧ pwrTarget t f = getFld v F.PWR_CTL_TARGET
        ∧ pwrState t f = stateAfter s f (getFld v F.PWR_CTL_TARGET) ∧ othersKeep s t f)
  ∧ (∀ (s : State) (f : Fin 64) (v : Reg), s.asleep = false → s.defaultsDue = false → getFld v F.PWR_CTL_FRESET = 0 → 4 ≤ getFld v F.PWR_CTL_TARGET →
      ∃ t : State, exec (.targetWrite f v) s = .next t ∧ pwrTarget t f = pwrTarget s f ∧ pwrState t f = pwrState s f ∧ othersKeep s t f)
  ∧ (∀ (s : State) (id : Nat) (f : Fin 64) (r : TreeRun) (c : Instr) (code : Nat), s.asleep = false → getRun s id = some r →
      ((r.cmd.cmd = 8 ∧ c = .wakeCmd id f ∧ code = 0) ∨ (r.cmd.cmd = 9 ∧ c = .powerCmd id f ∧ code = r.cmd.param.toNat ∧ code ≤ 3)) →
      r.waiting = false → r.todo.contains f.val = true → earlierTo s id f = false →
      ∃ t : State, exec c s = .next t ∧ pwrTarget t f = code ∧ pwrState t f = stateAfter s f code ∧ othersKeep s t f
        ∧ (∀ rr d : Nat, r.todo = [f.val] → r.here = [] → r.left = [] → r.fails = [] → fromRing s r.cmd rr d →
            (∀ y ∈ runList s, y ≠ (id, r) → y.1 ≠ id ∧ y.2.cmd.issuer ≠ r.cmd.issuer) →
            (if code = 0 then stateAfter s f code ≤ 1 else stateAfter s f code = code + 3) → completed t rr d .ok 0))
  ∧ (∀ (s : State) (f : Fin 64), tripped s = false → rd s (A.PWR_STATUS f) F.PWR_STATUS_WAKE_PENDING = 1 → pwrState s f = 1 →
      ∃ t : State, exec (.computeWake f) s = .next t ∧ pwrState t f = 0 ∧ pwrTarget t f = pwrTarget s f ∧ othersKeep s t f
        ∧ rd t (A.PWR_STATUS f) F.PWR_STATUS_WAKE_PENDING = 0
        ∧ rd t (A.PWR_STATUS f) F.PWR_STATUS_WAKES = (rd s (A.PWR_STATUS f) F.PWR_STATUS_WAKES + 1) % 2 ^ 32)
  ∧ (∀ (s : State) (f : Fin 64), tripped s = false → rd s (A.PWR_STATUS f) F.PWR_STATUS_WAKE_PENDING = 1 → (pwrState s f = 5 ∨ pwrState s f = 6) →
      rd s (A.PWR_CTL f) F.PWR_CTL_POLICY = 1 → pwrTarget s f ≠ 0 →
      ∃ t : State, exec (.computeWake f) s = .next t ∧ pwrState t f = 7 ∧ pwrTarget t f = 0 ∧ othersKeep s t f
        ∧ rd t (A.PWR_STATUS f) F.PWR_STATUS_WAKES = (rd s (A.PWR_STATUS f) F.PWR_STATUS_WAKES + 1) % 2 ^ 32)
  ∧ (∀ (s : State) (f : Fin 64), (pwrState s f = 5 ∨ pwrState s f = 6) → rd s (A.PWR_CTL f) F.PWR_CTL_POLICY = 0 →
      exec (.computeWake f) s = .next s)
  ∧ (∀ (s : State) (f : Fin 64), pwrState s f = 0 → pwrTarget s f = 0 → rd s (A.PWR_CTL f) F.PWR_CTL_AUTO_IDLE = 1 →
      fieldQuiet s f = true → fieldIngress s f (fun _ => true) = [] → rd s (A.PWR_STATUS f) F.PWR_STATUS_WAKE_PENDING = 0 →
      treeBusy s f = false → lentPatches s f = [] → tripped s = false →
      ∃ t : State, exec (.idleEntry f) s = .next t ∧ pwrState t f = 1 ∧ pwrTarget t f = 0 ∧ othersKeep s t f
        ∧ rd t (A.PWR_STATUS f) F.PWR_STATUS_COMPUTE_CLK = 0 ∧ t.tiles = s.tiles ∧ t.mem = s.mem)
  ∧ (∀ (s : State) (q : Fin 4) (f : Fin 64), s.defaultsDue = false → tripped s = false →
      (quarterFields q).find? (fun f => pwrState s f == 6 && decide (pwrTarget s f ≤ 2)) = some f.val →
      ∃ t : State, exec (.fieldPowerUp q) s = .next t ∧ pwrState t f = 7 ∧ pwrTarget t f = pwrTarget s f ∧ othersKeep s t f)
  ∧ (∀ (s : State) (q : Fin 4), s.defaultsDue = true ∨ tripped s = true → exec (.fieldPowerUp q) s = .next s)

/-- DRAIN_END, DRAIN_LIMIT, ISOLATING, RETAIN_ENTRY, OFF_ENTRY, WAKING, CLEARING and FIELD_RESET complete (R279, R499,
R500, R501, R505, R511, R516). While no trip stops the burners: DRAIN_END of a drained field in which no command has
still to act enters ISOLATING with the bridle cells engaged, heading for TARGET. DRAIN_LIMIT cancels a drain toward
ISOLATED (RUN, TARGET 0, DRAIN_CANCELLED) and forces one toward RETAIN or OFF (ISOLATING, DRAIN_FORCED). ISOLATING on
the way to ISOLATED ends there, or, when TARGET has become ON, with RESTART_MERGED set and the field in RUN, and on
the way to RETAIN or OFF it leaves the supply step to come; RETAIN_ENTRY in RETAIN and OFF_ENTRY in OFF, with the
words in latches, pipelines and tree ports lost and contexts, static frames kept. WAKING from RETAIN, and CLEARING,
end in the state of TARGET; WAKING from OFF goes on to CLEARING, which leaves every byte of the field zero, the
current context C0 and the registers zero, contexts and static frames and every other byte as they were. FIELD_RESET
in RUN or IDLE resets the tiles of the field and keeps memory, contexts and static frames; in any other state it only
sets FRESET_IGNORED. Under a trip every step leaves the state as it is. Where the rules leave a corner open, the
model's choice of assumption log 46, 61 is what is stated. -/
def Obligations.PowerSteps : Prop :=
  (∀ (s : State) (f : Fin 64), pwrState s f = 2 → tripped s = false → fieldDrained s f = true → fieldIngress s f (fun g => g.old) = [] →
      mirrorHolds s f = false → (runList s).any (fun x => x.2.acted && x.2.here.contains f.val) = false →
      ∃ t : State, exec (.drainEnd f) s = .next t ∧ pwrState t f = 3 ∧ engaged t f = true ∧ (getFS t f).heading = pwrTarget s f
        ∧ othersKeep s t f)
  ∧ (∀ (s : State) (f : Fin 64), pwrState s f = 2 → tripped s = false → pwrTarget s f = 1 →
      ∃ t : State, exec (.drainLimit f) s = .next t ∧ pwrState t f = 0 ∧ pwrTarget t f = 0
        ∧ rd t (A.PWR_STATUS f) F.PWR_STATUS_DRAIN_CANCELLED = 1 ∧ othersKeep s t f)
  ∧ (∀ (s : State) (f : Fin 64), pwrState s f = 2 → tripped s = false → 2 ≤ pwrTarget s f → mirrorHolds s f = false →
      ∃ t : State, exec (.drainLimit f) s = .next t ∧ pwrState t f = 3 ∧ pwrTarget t f = pwrTarget s f
        ∧ rd t (A.PWR_STATUS f) F.PWR_STATUS_DRAIN_FORCED = 1 ∧ engaged t f = true ∧ othersKeep s t f)
  ∧ (∀ (s : State) (f : Fin 64), pwrState s f = 3 → tripped s = false → (getFS s f).heading ≤ 1 →
      ∃ t : State, exec (.isolating f) s = .next t ∧ othersKeep s t f
        ∧ (pwrTarget s f ≠ 0 → pwrState t f = 4)
        ∧ (pwrTarget s f = 0 → pwrState t f = 0 ∧ rd t (A.PWR_STATUS f) F.PWR_STATUS_RESTART_MERGED = 1))
  ∧ (∀ (s : State) (f : Fin 64), pwrState s f = 3 → tripped s = false → 2 ≤ (getFS s f).heading → (getFS s f).isoDone = false →
      ∃ t : State, exec (.isolating f) s = .next t ∧ t = setFS s f { getFS s f with isoDone := true }
        ∧ goingTo t f (getFS s f).heading = true)
  ∧ (∀ (s : State) (f : Fin 64), goingTo s f 2 = true → tripped s = false →
      ∃ t : State, exec (.retainEntry f) s = .next t ∧ othersKeep s t f
        ∧ (pwrTarget s f ≠ 0 → pwrState t f = 5)
        ∧ (pwrTarget s f = 0 → pwrState t f = 7 ∧ rd t (A.PWR_STATUS f) F.PWR_STATUS_RESTART_MERGED = 1))
  ∧ (∀ (s : State) (f : Fin 64), goingTo s f 3 = true → tripped s = false →
      ∃ t : State, exec (.offEntry f) s = .next t ∧ othersKeep s t f ∧ t.mem = s.mem
        ∧ (pwrTarget s f ≠ 0 → pwrState t f = 6) ∧ (pwrTarget s f = 0 → pwrState t f = 7)
        ∧ (∀ i : TileIx, tileField i = f.val → (getT t i).latches = [] ∧ (getT t i).pipe = [] ∧ (getT t i).treePort = none
            ∧ (getT t i).slots = (getT s i).slots ∧ (getT t i).static = (getT s i).static)
        ∧ (∀ i : TileIx, tileField i ≠ f.val → getT t i = getT s i))
  ∧ (∀ (s : State) (f : Fin 64), pwrState s f = 7 → tripped s = false →
      ∃ t : State, exec (.waking f) s = .next t ∧ othersKeep s t f ∧ t.mem = s.mem
        ∧ pwrState t f = (if (getFS s f).wakeFrom = 5 then wokenTo (pwrTarget s f) else 8))
  ∧ (∀ (s : State) (f : Fin 64), pwrState s f = 8 → tripped s = false →
      ∃ t : State, exec (.clearing f) s = .next t ∧ othersKeep s t f ∧ pwrState t f = wokenTo (pwrTarget s f)
        ∧ (∀ a : Nat, a / 2 ^ 24 = f.val → memGet t a = 0) ∧ (∀ a : Nat, a / 2 ^ 24 ≠ f.val → memGet t a = memGet s a)
        ∧ (∀ i : TileIx, tileField i = f.val → (getT t i).cur = 0 ∧ (getT t i).lreg = [] ∧ (getT t i).latches = []
            ∧ (getT t i).arm = false ∧ (getT t i).slots = (getT s i).slots ∧ (getT t i).static = (getT s i).static))
  ∧ (∀ (s : State) (f : Fin 64) (v : Reg), s.asleep = false → s.defaultsDue = false → getFld v F.PWR_CTL_FRESET = 1 → getFld v F.PWR_CTL_TARGET = pwrTarget s f →
      pwrState s f ≤ 1 →
      ∃ t : State, exec (.fieldReset f v) s = .next t ∧ pwrState t f = pwrState s f ∧ othersKeep s t f ∧ t.mem = s.mem
        ∧ (∀ i : TileIx, tileField i = f.val → (getT t i).cur = 0 ∧ (getT t i).lreg = [] ∧ (getT t i).latches = []
            ∧ (getT t i).pipe = [] ∧ (getT t i).treePort = none ∧ (getT t i).arm = false
            ∧ (getT t i).static = (getT s i).static ∧ (getT t i).sinkCnt = (getT s i).sinkCnt
            ∧ (∀ k : Fin 15, smGet 0 (getT t i).slots k = smGet 0 (getT s i).slots k))
        ∧ (∀ i : TileIx, tileField i ≠ f.val → getT t i = getT s i))
  ∧ (∀ (s : State) (f : Fin 64) (v : Reg), s.asleep = false → s.defaultsDue = false → getFld v F.PWR_CTL_FRESET = 1 → getFld v F.PWR_CTL_TARGET = pwrTarget s f →
      2 ≤ pwrState s f →
      ∃ t : State, exec (.fieldReset f v) s = .next t ∧ pwrState t f = pwrState s f
        ∧ rd t (A.PWR_STATUS f) F.PWR_STATUS_FRESET_IGNORED = 1 ∧ t.tiles = s.tiles ∧ t.mem = s.mem)
  ∧ (∀ (s : State) (f : Fin 64), tripped s = true →
      ∀ c ∈ [Instr.drainEnd f, .drainLimit f, .isolating f, .retainEntry f, .offEntry f, .waking f, .clearing f], exec c s = .next s)

/-- Burner codes, clocks, power ceiling, array voltage and device time: the commands complete with the values that the
rules give (R485, R487, R489, R490, R491, R493, R494, R508, R513, R514, R515, R566). FREQUENCY_CHANGE leaves a code in
use no higher than the grade maximum, CAP and the code that the confirmed voltage supports, and sets FREQ_CLAMP for a
code above the grade maximum. BURNER_START, BURNER_STOP and TRANSIT_CLOCK_STOP start and stop burner and transit clock
under their conditions; BURNER_CALIBRATION records the error and counts one beyond 5 %. POWER_ESTIMATE records the
estimate and lowers CAP by 4 in every running field above WATTS. AVS_UPDATE writes the target, a multiple of 5 from
650 to 850 mV, and records the read-back; AVS_SETTLE confirms it, once a target is in force; AVS_ERROR sets ERR.
AON_CLOCK_SWITCH runs on the RC oscillator exactly when it is forced or, in automatic selection, when AONCLK is
missing. REFERENCE_CLOCK_LOST records the loss, and an input that was never there. DEEP_SLEEP_ENTRY and EXIT stop and
start the engine clock. ID_TIME_READ returns device time and latches its high half; ID_TIME_SET sets the whole seconds
and keeps the rest. Where the rules leave a corner open, the model's choice of assumption log 46, 61, 79 is what is
stated. -/
def Obligations.ClocksAndVoltage : Prop :=
  (∀ (s : State) (f : Fin 64) (v : Reg), s.asleep = false → s.defaultsDue = false → ∃ t : State, exec (.frequencyChange f v) s = .next t
        ∧ rd t (A.PWR_CLK f) F.PWR_CLK_FREQ = getFld v F.PWR_CLK_FREQ
        ∧ (pwrState s f ≠ 8 → rd t (A.PWR_CLK f) F.PWR_CLK_EFFECTIVE = min (min (min (getFld v F.PWR_CLK_FREQ) (gradeMax s))
            (rd s (A.PWR_CLK f) F.PWR_CLK_CAP)) (voltCode s (f.val / 16)))
        ∧ (gradeMax s < getFld v F.PWR_CLK_FREQ → rd t (A.PWR_STATUS f) F.PWR_STATUS_FREQ_CLAMP = 1))
  ∧ (∀ (s : State) (f : Fin 64), tripped s = false → rd s (A.PWR_STATUS f) F.PWR_STATUS_WAKE_PENDING = 1 →
      ∃ t : State, exec (.burnerStart f true) s = .next t ∧ (getFS t f).burner = true
        ∧ rd t (A.PWR_STATUS f) F.PWR_STATUS_TRANSIT_CLK = 1 ∧ pwrState t f = pwrState s f)
  ∧ (∀ (s : State) (f : Fin 64), rd s (A.PWR_STATUS f) F.PWR_STATUS_TRANSIT_CLK = 0 → rd s (A.PWR_STATUS f) F.PWR_STATUS_COMPUTE_CLK = 0 →
      exec (.burnerStop f) s = .next (setFS s f { getFS s f with burner := false }))
  ∧ (∀ (s : State) (f : Fin 64), rd s (A.PWR_STATUS f) F.PWR_STATUS_COMPUTE_CLK = 0 → transitWork s f = false →
      ∃ t : State, exec (.transitClockStop f) s = .next t ∧ rd t (A.PWR_STATUS f) F.PWR_STATUS_TRANSIT_CLK = 0 ∧ pwrState t f = pwrState s f)
  ∧ (∀ (s : State) (f : Fin 64) (e : BitVec 16), ∃ t : State, exec (.burnerCalibration f e) s = .next t
        ∧ rd t (A.PWR_CLK f) F.PWR_CLK_CAL_ERR = e.toNat ∧ (getFS t f).calibrated = true
        ∧ ((-500 ≤ e.toInt ∧ e.toInt ≤ 500) → rd t A.CLK_BURNER_CAL F.CLK_BURNER_CAL_FAIL_CNT = rd s A.CLK_BURNER_CAL F.CLK_BURNER_CAL_FAIL_CNT)
        ∧ ((e.toInt < -500 ∨ 500 < e.toInt) → rd t A.CLK_BURNER_CAL F.CLK_BURNER_CAL_FAIL_CNT
            = min (rd s A.CLK_BURNER_CAL F.CLK_BURNER_CAL_FAIL_CNT + 1) 65535))
  ∧ (∀ (s : State) (est : BitVec 16), ∃ t : State, exec (.powerEstimate est) s = .next t
        ∧ rd t A.PWR_CEILING F.PWR_CEILING_EST = est.toNat
        ∧ (rd s A.PWR_CEILING F.PWR_CEILING_EN = 1 → min (rd s A.PWR_CEILING F.PWR_CEILING_WATTS) (gradeWatts s) < est.toNat →
            ∀ f : Fin 64, rd t (A.PWR_CLK f) F.PWR_CLK_CAP
              = if pwrState s f = 0 then rd s (A.PWR_CLK f) F.PWR_CLK_CAP - 4 else rd s (A.PWR_CLK f) F.PWR_CLK_CAP)
        ∧ (rd s A.PWR_CEILING F.PWR_CEILING_EN = 0 → ∀ f : Fin 64, getR t (A.PWR_CLK f) = getR s (A.PWR_CLK f)))
  ∧ (∀ (s : State) (q : Fin 4) (mv : BitVec 16), rd s A.PWR_AVS_CTL F.PWR_AVS_CTL_EN = 1 →
      ∃ t : State, exec (.avsUpdate q mv) s = .next t ∧ rd t (A.PWR_AVS q) F.PWR_AVS_V_READ = mv.toNat
        ∧ 650 ≤ rd t (A.PWR_AVS q) F.PWR_AVS_V_SET ∧ rd t (A.PWR_AVS q) F.PWR_AVS_V_SET ≤ 850
        ∧ rd t (A.PWR_AVS q) F.PWR_AVS_V_SET % 5 = 0
        ∧ smGet 650 t.confirmed q = min (smGet 650 s.confirmed q) (rd t (A.PWR_AVS q) F.PWR_AVS_V_SET))
  ∧ (∀ (s : State) (q : Fin 4), rd s A.PWR_AVS_CTL F.PWR_AVS_CTL_EN = 1 →
      rd s (A.PWR_AVS q) F.PWR_AVS_V_SET ≠ 0 → rd s (A.PWR_AVS q) F.PWR_AVS_V_SET ≤ rd s (A.PWR_AVS q) F.PWR_AVS_V_READ + 10 →
      ∃ t : State, exec (.avsSettle q) s = .next t ∧ smGet 650 t.confirmed q = rd s (A.PWR_AVS q) F.PWR_AVS_V_SET)
  ∧ (∀ (s : State) (q : Fin 4) (mv : BitVec 16), rd s A.PWR_AVS_CTL F.PWR_AVS_CTL_EN = 1 →
      ∃ t : State, exec (.avsError q mv) s = .next t ∧ rd t (A.PWR_AVS q) F.PWR_AVS_ERR = 1 ∧ t.confirmed = s.confirmed)
  ∧ (∀ (s : State) (present : Bool), ∃ t : State, exec (.aonClockSwitch present) s = .next t
        ∧ (rd t A.CLK_AON_STATUS F.CLK_AON_STATUS_USING_RC = 1 ↔ rd s A.CLK_AON_CTL F.CLK_AON_CTL_SRC = 2
            ∨ (rd s A.CLK_AON_CTL F.CLK_AON_CTL_SRC = 0 ∧ present = false)))
  ∧ (∀ (s : State) (i : Fin 6), ∃ t : State, exec (.referenceClockLost i false) s = .next t ∧ (getR t A.CLK_REF_STATUS).getLsbD i = false
        ∧ (getR t A.CLK_REF_STATUS).getLsbD (8 + i.val) = true)
  ∧ (∀ (s : State) (l12 : Bool), rd s A.CLK_AON_CTL F.CLK_AON_CTL_DEEP_EN = 1 → (∀ f : Fin 64, pwrState s f = 6) → lanesOff s = true →
      (∀ x ∈ s.host.rings, ringState s x.1 ≠ 1) → ((l12 = true ∧ l12Allowed s = true) ∨ linkUp s = false) →
      exec (.deepSleepEntry l12) s = .next { s with asleep := true })
  ∧ (∀ (s : State), exec (.deepSleepExit .perstN) s = .next { s with asleep := false }
        ∧ exec (.deepSleepExit .smbus) s = .next { s with asleep := false })
  ∧ (∀ (s : State), s.asleep = false → s.defaultsDue = false → ∃ t : State, exec (.idTimeRead 4 false) s = .next t ∧ t.readData.toNat = nowNs s % 2 ^ 32
        ∧ ∃ u : State, exec (.idTimeRead 4 true) t = .next u ∧ u.readData.toNat = nowNs s / 2 ^ 32
          ∧ t.readData.toNat + 2 ^ 32 * u.readData.toNat = nowNs s)
  ∧ (∀ (s : State) (v : Reg), s.asleep = false → s.defaultsDue = false → v.toNat < 2 ^ 32 → ∃ t : State, exec (.idTimeSet v) s = .next t
        ∧ nowNs t / 1000000000 = v.toNat ∧ nowNs t % 1000000000 = nowNs s % 1000000000)

/-- Temperature samples, the trip and its release (R497, R509, R510, R511). TEMPERATURE_SAMPLE leaves the reading in
its sensor field; a valid reading of 125 degrees or more leaves THERM asserted, and when every reading is below 120
THERM is released; a reading of 0x8000 sets SENSOR_FAIL. TRIP of a sensor that reads 135 degrees or more stops every
burner and every field clock and sets TRIPPED and TRIP_SEEN, with every field keeping its state. TRIP_CLR written with
every reading below 115 degrees releases the trip, the running fields have their compute clocks again, and every field
without a borrowed patch goes on as its TARGET asks; written with some reading at or above, it leaves the trip. -/
def Obligations.ThermalConditions : Prop :=
  (∀ (s : State) (f : Fin 64) (k : Fin 4) (x : BitVec 16), ∃ t : State, exec (.temperatureSample f k x) s = .next t
        ∧ sensorRaw t f k = x.toNat
        ∧ (x ≠ 0x8000 → 2000 ≤ x.toInt → rd t A.PWR_THERM_STATUS F.PWR_THERM_STATUS_THERM = 1)
        ∧ (allTemps t (fun v => decide (v < 1920)) = true → rd t A.PWR_THERM_STATUS F.PWR_THERM_STATUS_THERM = 0)
        ∧ (x = 0x8000 → rd t A.PWR_THERM_STATUS F.PWR_THERM_STATUS_SENSOR_FAIL = 1)
        ∧ (∀ g : Fin 64, pwrState t g = pwrState s g))
  ∧ (∀ (s : State) (f : Fin 64) (k : Fin 4), tripped s = false → sensorFailed s f k = false → 2160 ≤ sintOf 16 (sensorRaw s f k) →
      ∃ t : State, exec (.trip f k) s = .next t ∧ tripped t = true ∧ rd t A.PWR_THERM_STATUS F.PWR_THERM_STATUS_TRIP_SEEN = 1
        ∧ ∀ g : Fin 64, pwrState t g = pwrState s g ∧ (getFS t g).burner = false
          ∧ rd t (A.PWR_STATUS g) F.PWR_STATUS_COMPUTE_CLK = 0 ∧ rd t (A.PWR_STATUS g) F.PWR_STATUS_TRANSIT_CLK = 0)
  ∧ (∀ (s : State) (v : Reg), s.asleep = false → s.defaultsDue = false → getFld v F.PWR_THERM_CTL_TRIP_CLR = 1 → tripped s = true → allTemps s (fun x => decide (x < 1840)) = true →
      ∃ t : State, exec (.tripClr v) s = .next t ∧ tripped t = false
        ∧ ∀ g : Fin 64, (lentPatches s g = [] → pwrState t g = movesTo (pwrState s g) (pwrTarget s g))
          ∧ (pwrState s g = 0 → rd t (A.PWR_STATUS g) F.PWR_STATUS_COMPUTE_CLK = 1))
  ∧ (∀ (s : State) (v : Reg), s.asleep = false → s.defaultsDue = false → tripped s = true → allTemps s (fun x => decide (x < 1840)) = false →
      ∃ t : State, exec (.tripClr v) s = .next t ∧ tripped t = true)

namespace Sys2Proof.Claims

open Sys2Proof.Machine

/-- A flit without its age. -/
def ageless (f : Flit) : Flit := { f with age := 0 }

/-- Every flit on the four networks: on the links and in the bridges, presented to a router, or arrived at an endpoint. -/
def netFlits (s : State) : List Flit :=
  [Net.req, .rsp, .snp, .dat].flatMap (fun n =>
    (List.range 1024).flatMap (fun r => (List.range 6).flatMap (fun sd => (getLink s n r sd).crossing.map Prod.fst ++ (getLink s n r sd).ready))
    ++ (List.range 2048).flatMap (fun ep => (smGet none (getEp s ep).present (netIx n)).toList ++ epIn (getEp s ep) n))

/-- The flits that router `r` places in a cycle, in rank order (spec 07 R259, R260). -/
def placedFlits (s : State) (n : Net) (r : Fin 1024) : List InFlit :=
  rankSort s (admitAll s r (availLinks s n r).length (mustPlace s n r) (mayPlace s n r ++ wantIn s n r))

/-- A request passes the checks of an endpoint: access table, bank owner, field state, the rules of its place (spec 07
R267, R272; spec 09 R338). -/
def passes (s : State) (g : Ingress) : Prop :=
  let p := placeOf s g.req.addr.toNat
  ¬ (setupRemoteWrite s p g = true ∧ preCheck s (reqKey g.req) g.remote = none)
    ∧ decideAccess s (reqKey g.req) g.remote (needsOf p (reqWrite g.req)) = .grant
    ∧ ownerOk s p (reqKey g.req) = true ∧ wenBlocks s p g = false
    ∧ (∀ i, placeTile p = some i → fieldRefuses s (tileField i) g = false) ∧ placeRule s p g.req g.remote = .ok

/-- An endpoint behind an engine bridge belongs to a device engine: it acts while the engine clock runs (spec 01 R25). -/
def epRuns (s : State) (ep : Nat) : Prop := bridged ep = true → s.asleep = false

/-- The ingress entry that a request makes as it is admitted: a write of up to 8 bytes carries its data (spec 07 R268), a request that a
table decides is marked so (spec 09 R344), and a window access takes its place in the order of receipt (spec 08 R294). -/
def entryFor (s : State) (f : Flit) : Ingress :=
  let remote := (gatewayOf f.src.toNat).isSome
  let p := placeOf s f.addr.toNat
  { req := { f with tabled := preCheck s (reqKey f) remote == none && needsOf p (reqWrite f) != [], sealed := false }
    remote := remote
    wdata := if reqWrite f then (if reqLen f ≤ 8 then some (bytesLE (reqLen f) f.data.toNat) else none) else some []
    seq := match p with | .window _ _ => s.host.received | _ => 0 }

/-- Slot `k` of tile `i`'s gateway has its answer, and the landing slot is free (spec 06 R225; spec 07 R265). -/
def gwAnswered (t : State) (ep tag i k : Nat) (g : GwSlot) (st : Status) (v : Word) : Prop :=
  getLand t ep tag = none ∧ smGet none (getT t i).b.gw k = some { g with answer := some (st, v) }

end Sys2Proof.Claims

/-- ROUTER_CYCLE loses and makes no flit, and the first flit in rank order that may eject does so (R256, R257, R258,
R259, R260). In every state ROUTER_CYCLE answers a next state whose flits, ages apart, are those of the state before:
none is lost and none is made. The flit with the highest priority among those to place, when it is at its destination
and its endpoint accepts it, is behind the flits that have arrived there, or in the engine bridge that leads there,
one router older (saturating at 255). -/
def Obligations.RouterKeepsFlits : Prop :=
  (∀ (s : State) (n : Net) (r : Fin 1024), ∃ t : State, exec (.routerCycle n r) s = .next t
      ∧ ((netFlits s).map ageless).Perm ((netFlits t).map ageless) ∧ t.mem = s.mem ∧ t.tiles = s.tiles)
  ∧ (∀ (s t : State) (n : Net) (r : Fin 1024) (x : InFlit) (rest : List InFlit), transitRuns s (r.val / 16) = true →
      placedFlits s n r = x :: rest → canEject s r x.f = true → exec (.routerCycle n r) s = .next t →
      (bridged x.f.dst.toNat = false → epIn (getEp t x.f.dst.toNat) x.f.net
        = epIn (getEp s x.f.dst.toNat) x.f.net ++ [{ x.f with age := BitVec.ofNat 8 (min 255 (x.f.age.toNat + 1)) }])
      ∧ (bridged x.f.dst.toNat = true → (getLink t n r 5).crossing
        = (getLink s n r 5).crossing ++ [({ x.f with age := BitVec.ofNat 8 (min 255 (x.f.age.toNat + 1)) }, 0)]))

/-- FLIT_INJECTION, STARVATION, THROTTLE_END and BRIDGE_CROSSING complete (R249, R260, R261, R264). FLIT_INJECTION
presents the head of an injection queue, with AGE 0, to the router of a patch port or mirror agent whose last flit has
been admitted, and writes that of an engine port into its bridge of fewer than four flits; either way the head leaves
the queue. STARVATION of an endpoint with a flit to inject suppresses injection at every other router of its field,
THROTTLE_END ends the oldest such signal, and no other field is touched. BRIDGE_CROSSING makes the oldest flit of a
bridge visible behind those that the receiving router can take, with an age that has not fallen; at side 5 the engine
endpoint takes it. -/
def Obligations.NetworkMoves : Prop :=
  (∀ (s : State) (n : Net) (ep : Fin 2048) (f : Flit) (rest : List Flit), bridged ep = false →
      epOut (getEp s ep) n = f :: rest → smGet none (getEp s ep).present (netIx n) = none →
      ∃ t : State, exec (.flitInjection n ep) s = .next t
        ∧ smGet none (getEp t ep).present (netIx n) = some { f with age := 0 } ∧ ∃ l, epOut (getEp t ep) n = rest ++ l)
  ∧ (∀ (s : State) (n : Net) (ep : Fin 2048) (f : Flit) (rest : List Flit), bridged ep = true → s.asleep = false →
      epOut (getEp s ep) n = f :: rest → linkOcc (getLink s n (ep.val / 2) 4) < 4 →
      ∃ t : State, exec (.flitInjection n ep) s = .next t
        ∧ (getLink t n (ep.val / 2) 4).crossing = (getLink s n (ep.val / 2) 4).crossing ++ [({ f with age := 0 }, 0)]
        ∧ ∃ l, epOut (getEp t ep) n = rest ++ l)
  ∧ (∀ (s : State) (n : Net) (ep : Fin 2048), (epOut (getEp s ep) n ≠ [] ∨ (smGet none (getEp s ep).present (netIx n)).isSome = true) →
      ∃ t : State, exec (.starvation n ep) s = .next t
        ∧ (∀ r : Fin 1024, r.val / 16 = epField ep → r.val ≠ ep.val / 2 → throttled t n r = true)
        ∧ (∀ r : Fin 1024, (r.val / 16 ≠ epField ep ∨ r.val = ep.val / 2) → throttled t n r = throttled s n r))
  ∧ (∀ (s : State) (n : Net) (f : Fin 64), ∃ t : State, exec (.throttleEnd n f) s = .next t
        ∧ (∀ r : Fin 1024, r.val / 16 = f.val → throttled t n r = ((smGet [] s.throttle (64 * netIx n + f.val)).drop 1).any (· != r.val))
        ∧ (∀ r : Fin 1024, r.val / 16 ≠ f.val → throttled t n r = throttled s n r))
  ∧ (∀ (s : State) (n : Net) (r : Fin 1024) (sd : Fin 6) (f : Flit) (k : Nat) (rest : List (Flit × Nat)), sd.val < 5 → linkBridge r sd = true →
      transitRuns s (r.val / 16) = true → (getLink s n r sd).crossing = (f, k) :: rest →
      ∃ (t : State) (a : BitVec 8), exec (.bridgeCrossing n r sd) s = .next t ∧ f.age.toNat ≤ a.toNat
        ∧ getLink t n r sd = { crossing := rest, ready := (getLink s n r sd).ready ++ [{ f with age := a }] })
  ∧ (∀ (s : State) (n : Net) (r : Fin 1024) (f : Flit) (k : Nat) (rest : List (Flit × Nat)), s.asleep = false →
      (getLink s n r 5).crossing = (f, k) :: rest →
      ∃ t : State, exec (.bridgeCrossing n r 5) s = .next t ∧ (getLink t n r 5).crossing = rest
        ∧ epIn (getEp t f.dst.toNat) f.net = epIn (getEp s f.dst.toNat) f.net ++ [f])

/-- REQ_ADMIT, WDATA_ARRIVAL, RESPONSE_EJECT, REQUEST_RETRY, RETRY_TIMEOUT and RSP_TIMEOUT complete (R254, R266, R267,
R268, R269, R270, R338, R371). REQ_ADMIT of the first arrived request: with a free entry and its checks passed it
stands checked in the lowest free entry, with GO asked for exactly when it is a write of more than 8 bytes; denied by
an access table it is answered DENIED and holds no entry; with no free entry it is turned away with a NACK of its tag;
with a reserved opcode it is answered BAD_ADDRESS. WDATA_ARRIVAL gives the waiting write of that requester and tag its
bytes. RESPONSE_EJECT: a GO sends the write data, a NACK counts and starts the backoff, a final response fills the
slot of the tile gateway that asked and frees the landing slot. REQUEST_RETRY sends the request again with its tag and
AGE 0; RETRY_TIMEOUT and RSP_TIMEOUT answer the gateway slot with TIMEOUT. Where the rules leave a corner open, the
model's choice of assumption log 29, 36, 55, 70, 71 is what is stated. -/
def Obligations.RequestsAndResponses : Prop :=
  (∀ (s : State) (ep : Fin 2048) (f : Flit) (fs : List Flit) (n : Nat), gatewayOf ep = none → epRuns s ep → (getEp s ep).inReq = f :: fs →
      f.op.toNat < 2 → ingressFree (getEp s ep) ep = some n → passes s (entryFor s f) →
      ∃ t : State, exec (.reqAdmit ep) s = .next t ∧ (getEp t ep).inReq = fs
        ∧ getIn t ep n = some { entryFor s f with checked := true, go := reqWrite f && decide (8 < reqLen f) }
        ∧ ((reqWrite f && decide (8 < reqLen f)) = true →
            ∃ g ∈ (getEp t ep).outRsp, g.op = 1 ∧ g.tag = f.tag ∧ g.dst = f.src ∧ g.entry = BitVec.ofNat 5 n))
  ∧ (∀ (s : State) (ep : Fin 2048) (f : Flit) (fs : List Flit) (n code table : Nat), gatewayOf ep = none → epRuns s ep →
      (getEp s ep).inReq = f :: fs → f.op.toNat < 2 → ingressFree (getEp s ep) ep = some n →
      decideAccess s (reqKey f) (entryFor s f).remote (needsOf (placeOf s f.addr.toNat) (reqWrite f)) = .refuse code table →
      ∃ t : State, exec (.reqAdmit ep) s = .next t ∧ getIn t ep n = none ∧ t.mem = s.mem
        ∧ ∃ g ∈ (getEp t ep).outRsp, g.tag = f.tag ∧ g.dst = f.src ∧ g.status.toNat = statusCode .denied)
  ∧ (∀ (s : State) (ep : Fin 2048) (f : Flit) (fs : List Flit), gatewayOf ep = none → epRuns s ep → (getEp s ep).inReq = f :: fs →
      f.op.toNat < 2 → ingressFree (getEp s ep) ep = none →
      ∃ t : State, exec (.reqAdmit ep) s = .next t ∧ (getEp t ep).ingress = (getEp s ep).ingress
        ∧ ∃ g ∈ (getEp t ep).outRsp ++ (getEp t ep).nackq, g.op = 2 ∧ g.tag = f.tag ∧ g.dst = f.src)
  ∧ (∀ (s : State) (ep : Fin 2048) (f : Flit) (fs : List Flit), gatewayOf ep = none → epRuns s ep → (getEp s ep).inReq = f :: fs →
      2 ≤ f.op.toNat →
      ∃ t : State, exec (.reqAdmit ep) s = .next t ∧ (getEp t ep).ingress = (getEp s ep).ingress
        ∧ ∃ g ∈ (getEp t ep).outRsp, g.tag = f.tag ∧ g.dst = f.src ∧ g.status.toNat = statusCode .badAddress)
  ∧ (∀ (s : State) (ep : Fin 2048) (f : Flit) (g : Ingress), gatewayOf ep = none → epRuns s ep → (getEp s ep).inDat.find? (fun f => f.op == 1) = some f →
      getIn s ep f.entry.toNat = some g → g.go = true → g.wdata = none → g.req.src = f.src → g.req.tag = f.tag →
      ∃ t : State, exec (.wdataArrival ep) s = .next t
        ∧ getIn t ep f.entry.toNat = some { g with wdata := some (bytesLE f.count.toNat f.data.toNat) }
        ∧ (getEp t ep).inDat = (getEp s ep).inDat.erase f)
  ∧ (∀ (s : State) (ep : Fin 2048) (f : Flit) (fs : List Flit) (l : Landing), gatewayOf ep = none → epRuns s ep → (getEp s ep).inRsp = f :: fs →
      getLand s ep f.tag.toNat = some l →
      ∃ t : State, exec (.responseEject ep false) s = .next t
        ∧ (f.op = 1 → getLand t ep f.tag.toNat = some l ∧ ∃ g ∈ (getEp t ep).outDat, g.op = 1 ∧ g.tag = f.tag ∧ g.entry = f.entry
            ∧ g.dst = l.req.dst ∧ g.data = BitVec.ofNat 512 (leBytes l.wdata))
        ∧ (f.op = 2 → getLand t ep f.tag.toNat = some { l with nacks := l.nacks + 1, backoff := true }))
  ∧ (∀ (s : State) (ep : Fin 2048) (f : Flit) (fs : List Flit) (l : Landing) (i k : Nat) (g : GwSlot) (st : Status),
      gatewayOf ep = none → epRuns s ep → (getEp s ep).inRsp = f :: fs → f.op = 0 → f.status.toNat = statusCode st → st ≠ .busyRetry →
      getLand s ep f.tag.toNat = some l → l.owner = .gw i k → smGet none (getT s i).b.gw k = some g →
      ∃ t : State, exec (.responseEject ep false) s = .next t
        ∧ gwAnswered t ep f.tag.toNat i k g st (BitVec.ofNat 32 (leAt (bytesLE f.count.toNat f.data.toNat) 0 4)))
  ∧ (∀ (s : State) (ep : Fin 2048) (tag : Fin 256) (l : Landing), epRuns s ep → getLand s ep tag = some l → l.backoff = true → l.req.net = .req →
      l.nacks < retryMax s →
      ∃ t : State, exec (.requestRetry ep tag) s = .next t ∧ getLand t ep tag = some { l with backoff := false }
        ∧ (getEp t ep).outReq = (getEp s ep).outReq ++ [{ l.req with age := 0 }])
  ∧ (∀ (s : State) (ep : Fin 2048) (tag : Fin 256) (l : Landing) (i k : Nat) (g : GwSlot), epRuns s ep → getLand s ep tag = some l →
      l.backoff = true → retryMax s ≤ l.nacks → l.owner = .gw i k → smGet none (getT s i).b.gw k = some g →
      ∃ t : State, exec (.retryTimeout ep tag) s = .next t ∧ gwAnswered t ep tag i k g .timeout 0)
  ∧ (∀ (s : State) (ep : Fin 2048) (tag : Fin 256) (l : Landing) (i k : Nat) (g : GwSlot), epRuns s ep → getLand s ep tag = some l →
      l.backoff = false → (gatewayOf l.req.dst.toNat).isSome = true → isArmFlit l.req = false → isPosted l.req = false → l.owner = .gw i k →
      smGet none (getT s i).b.gw k = some g →
      ∃ t : State, exec (.rspTimeout ep tag) s = .next t ∧ gwAnswered t ep tag i k g .timeout 0)

namespace Sys2Proof.Claims

open Sys2Proof.Machine

/-- Whether the mirror that an MPUSH names is enabled and maps the line in the tile that it names (spec 07 R273, R275, R278). -/
def holdsLine (s : State) (ep : Fin 2048) (f : Flit) : Prop :=
  mirrorOn s f.mirror.toNat = true
    ∧ (mirTargets s f.mirror.toNat (mirRegionLine s f.mirror.toNat (mpushTile ep f) f.line.toNat)).contains
        (mpushTile ep f, f.line.toNat) = true

end Sys2Proof.Claims

/-- The mirror commands and CNT_CLEAR complete (R274, R275, R276, R277, R278, R279, R283). MIRROR_UPDATE of a dirty
line by push sends the line of the source to every holder that maps it and counts the answers due. MPUSH of a running
holder writes the next 4 bytes of the Y line and changes no other byte; with the last it marks the line valid and
answers DONE; for a field that sleeps it records the line; one that a disabled mirror or no map asks for writes
nothing. INVAL marks the line of an enabled mirror stale in the holders of a field that is ON, or records it.
MIRROR_REFETCH and REFETCH_RETRY read the line from the source; after 16 failures the line is written with inverted
parity, word by word, and its last word sets FETCH_ERR. EPOCH_SEND raises EPOCH once everything is acknowledged; EPOCH
sets the predicate of EPRED in the holders once tile state is released. MIRROR_RECORDED_APPLY works off what a field
that runs, or wakes from RETAIN toward ON, has recorded, and in another state does nothing. MIRROR_CFG_WRITE enables a
mirror with every mapped line stale and EPOCH 0, or refuses a bad value with EN 0 and CFG_ERR; a disable leaves the
lines valid and ends the refills. CNT_CLEAR clears every network counter. Where the rules leave a corner open, the
model's choice of assumption log 67 is what is stated. -/
def Obligations.Mirrors : Prop :=
  (∀ (s : State) (m : Fin 256) (line : Fin 128) (tag : Nat), mirrorOn s m = true → (getMi s m).dirty.contains line.val = true →
      smGet 0 (getMi s m).unacked line = 0 → fieldRuns s (tileField (mirSrc s m)) = true →
      rd s (A.MIRROR_CFG m) F.MIRROR_CFG_POLICY = 0 → freeTag s (patchPort (mirSrc s m)) (gwTag0 (mirSrc s m)) 32 = some tag →
      (readHalves s (mirSrc s m) (halves (64 * (rd s (A.MIRROR_CFG m) F.MIRROR_CFG_SRC_LINE + line.val)) 64)).2 = false →
      ∃ t : State, exec (.mirrorUpdate m line) s = .next t ∧ line.val ∉ (getMi t m).dirty ∧ t.mem = s.mem
        ∧ smGet 0 (getMi t m).unacked line = (mirTargets s m line).length
        ∧ (∀ x ∈ mirTargets s m line, ∃ f ∈ (getEp t (patchPort (mirSrc s m))).outDat, f.op = 2
            ∧ f.dst = BitVec.ofNat 11 (patchPort x.1) ∧ f.line = BitVec.ofNat 7 x.2 ∧ f.data = BitVec.ofNat 512 (leBytes
              (memRead s (tileBase (mirSrc s m) + 64 * (rd s (A.MIRROR_CFG m) F.MIRROR_CFG_SRC_LINE + line.val)) 64))))
  ∧ (∀ (s : State) (ep : Fin 2048) (f : Flit), ep.val % 2 = 0 → pushFill s ep = none →
      (getEp s ep).inDat.find? (fun f => f.op == 2) = some f →
      holdsLine s ep f → clockRuns s (tileField (mpushTile ep f)) = true → pwrState s (tileField (mpushTile ep f)) = 0 →
      ∃ t : State, exec (.mpush ep) s = .next t
        ∧ (getT t (mpushTile ep f)).m.fills = ((getT s (mpushTile ep f)).m.fills.map fun z => { z with wait := 0 })
            ++ [{ line := f.line.toNat, data := bytesLE 64 f.data.toNat, owner := .push ep f, moved := 1 }]
        ∧ memRead t (yAddr (mpushTile ep f) f.line.toNat) 4 = bytesLE 4 f.data.toNat
        ∧ (∀ a : Nat, (a < yAddr (mpushTile ep f) f.line.toNat ∨ yAddr (mpushTile ep f) f.line.toNat + 4 ≤ a) →
            memGet t a = memGet s a))
  ∧ (∀ (s : State) (ep : Fin 2048) (f : Flit), ep.val % 2 = 0 → pushFill s ep = none →
      (getEp s ep).inDat.find? (fun f => f.op == 2) = some f → ¬ holdsLine s ep f →
      ∃ t : State, exec (.mpush ep) s = .next t ∧ t.mem = s.mem ∧ t.tiles = s.tiles ∧ t.agents = s.agents
        ∧ ∃ d ∈ (getEp t ep).outRsp, d.op = 0 ∧ d.dst = f.src ∧ d.tag = f.tag)
  ∧ (∀ (s : State) (ep : Fin 2048) (f : Flit) (i : Nat) (x : Fill), ep.val % 2 = 0 → pushFill s ep = some i →
      (getT s i).m.fills.find? (fun x => ofPush ep x.owner) = some x → x.owner = .push ep f → x.moved ≤ 15 →
      clockRuns s (tileField i) = true →
      ∃ t : State, exec (.mpush ep) s = .next t
        ∧ memRead t (yAddr i x.line + 4 * x.moved) 4 = bytesLE 4 (leAt x.data (4 * x.moved) 4)
        ∧ (∀ a : Nat, (a < yAddr i x.line + 4 * x.moved ∨ yAddr i x.line + 4 * x.moved + 4 ≤ a) → memGet t a = memGet s a)
        ∧ (x.moved = 15 → x.line ∉ (getT t i).m.yStale ∧ (getT t i).m.fills = ((getT s i).m.fills.map fun z => { z with wait := 0 }).erase { x with wait := 0 }
            ∧ ∃ d ∈ (getEp t ep).outRsp, d.op = 0 ∧ d.dst = f.src ∧ d.tag = f.tag)
        ∧ (x.moved < 15 → (getT t i).m.yStale = (getT s i).m.yStale ∧ { x with moved := x.moved + 1, wait := 0 } ∈ (getT t i).m.fills))
  ∧ (∀ (s : State) (ep : Fin 2048) (f : Flit), ep.val % 2 = 0 → pushFill s ep = none →
      (getEp s ep).inDat.find? (fun f => f.op == 2) = some f → holdsLine s ep f → 2 ≤ pwrState s (tileField (mpushTile ep f)) →
      ∃ t : State, exec (.mpush ep) s = .next t ∧ t.mem = s.mem ∧ t.tiles = s.tiles
        ∧ (128 * f.mirror.toNat + mirRegionLine s f.mirror.toNat (mpushTile ep f) f.line.toNat)
            ∈ (getAgent t (tileField (mpushTile ep f))).recLines)
  ∧ (∀ (s : State) (f : Fin 64) (x : Flit), (getEp s (agentPort f)).inSnp.find? (fun x => x.op != 1) = some x → x.op = 0 →
      ∃ t : State, exec (.inval f) s = .next t ∧ t.mem = s.mem
        ∧ (pwrState s f ≤ 1 → mirrorOn s x.mirror.toNat = true → ∀ h ∈ mirTargets s x.mirror.toNat x.line.toNat, tileField h.1 = f.val → h.2 ∈ (getT t h.1).m.yStale)
        ∧ (2 ≤ pwrState s f → (128 * x.mirror.toNat + x.line.toNat) ∈ (getAgent t f).recLines)
        ∧ ∃ d ∈ (getEp t (agentPort f)).outRsp, d.op = 0 ∧ d.dst = x.src ∧ d.tag = x.tag)
  ∧ (∀ (s : State) (f : Fin 64) (m : Fin 256) (line : Fin 128) (tag : Nat) (c : Instr), 
      ((c = .mirrorRefetch f m line ∧ mirrorOn s m = true ∧ fieldOn s f = true ∧ staleHere s f m line = true
          ∧ smGet none (getAgent s f).work (128 * m.val + line.val) = none)
        ∨ (c = .refetchRetry f m line ∧ mirrorOn s m = true ∧ ∃ w : Refetch, smGet none (getAgent s f).work (128 * m.val + line.val) = some w
            ∧ w.reading = false ∧ w.filling = false ∧ 0 < w.fails ∧ w.fails < 16)) →
      tileKind (mirSrc s m) = .b → rd s (A.MIRROR_CFG m) F.MIRROR_CFG_SRC_LINE + line.val < 1024 →
      freeTag s (agentPort f) 0 256 = some tag →
      ∃ (t : State) (l : Landing), exec c s = .next t ∧ getLand t (agentPort f) tag = some l ∧ l.owner = .refetch f m line
        ∧ l.req.op = 0 ∧ l.req.addr = BitVec.ofNat 48 (tileBase (mirSrc s m) + 64 * (rd s (A.MIRROR_CFG m) F.MIRROR_CFG_SRC_LINE + line.val))
        ∧ reqLen l.req = 64 ∧ (∃ w, smGet none (getAgent t f).work (128 * m.val + line.val) = some w ∧ w.reading = true))
  ∧ (∀ (s : State) (f : Fin 64) (m : Fin 256) (line : Fin 128) (w : Refetch),
      smGet none (getAgent s f).work (128 * m.val + line.val) = some w → w.reading = false → w.filling = false → 16 ≤ w.fails →
      mirrorOn s m = true → fillTiles s f (ofRefetch f m line) = [] →
      ∃ t : State, exec (.refetchRetry f m line) s = .next t
        ∧ (staleHolders s f m line = [] → rd t (A.MIRROR_STATE m) F.MIRROR_STATE_FETCH_ERR = 1
            ∧ smGet none (getAgent t f).work (128 * m.val + line.val) = none)
        ∧ (staleHolders s f m line ≠ [] → smGet none (getAgent t f).work (128 * m.val + line.val) = some { w with filling := true })
        ∧ (∀ x ∈ staleHolders s f m line, smGet false t.xyBad (yAddr x.1 x.2 / 4) = true
            ∧ ∃ y ∈ (getT t x.1).m.fills, y.line = x.2 ∧ y.owner = .refetch f m line ∧ y.bad = true ∧ y.moved = 1)
        ∧ ∀ a, (∀ x ∈ staleHolders s f m line, a < yAddr x.1 x.2 ∨ yAddr x.1 x.2 + 4 ≤ a) → memGet t a = memGet s a)
  ∧ (∀ (s : State) (f : Fin 64) (m : Fin 256) (line : Fin 128) (w : Refetch) (i : TileIx) (x : Fill),
      smGet none (getAgent s f).work (128 * m.val + line.val) = some w → w.filling = true → clockRuns s f = true →
      fillTiles s f (ofRefetch f m line) = [i.val] → (getT s i).m.fills = [x] → x.owner = .refetch f m line → x.moved = 15 →
      ∃ t : State, exec (.mirrorRefetch f m line) s = .next t ∧ x.line ∉ (getT t i).m.yStale ∧ (getT t i).m.fills = []
        ∧ smGet none (getAgent t f).work (128 * m.val + line.val) = none
        ∧ (16 ≤ w.fails → rd t (A.MIRROR_STATE m) F.MIRROR_STATE_FETCH_ERR = 1))
  ∧ (∀ (s : State) (m : Fin 256), mirrorOn s m = true → (getMi s m).dirty = [] → (getMi s m).unacked = [] → (getMi s m).updated = true →
      ∃ t : State, exec (.epochSend m) s = .next t ∧ (getMi t m).updated = false
        ∧ rd t (A.MIRROR_STATE m) F.MIRROR_STATE_EPOCH = (rd s (A.MIRROR_STATE m) F.MIRROR_STATE_EPOCH + 1) % 65536)
  ∧ (∀ (s : State) (f : Fin 64) (x : Flit), (getEp s (agentPort f)).inSnp.find? (fun x => x.op == 1) = some x → pwrState s f ≤ 1 →
      s.boot.srst = true → (∀ i ∈ mirHolders s x.mirror.toNat, tileField i = f.val → lentTile s i = false) →
      ∃ t : State, exec (.epochSnp f) s = .next t ∧ t.mem = s.mem
        ∧ ∀ i ∈ mirHolders s x.mirror.toNat, tileField i = f.val →
            (rd s (A.MIRROR_CFG x.mirror.toNat) F.MIRROR_CFG_EPRED = 1 → (getT t i).p0 = true)
            ∧ (rd s (A.MIRROR_CFG x.mirror.toNat) F.MIRROR_CFG_EPRED = 2 → (getT t i).p1 = true))
  ∧ (∀ (s : State) (f : Fin 64), (pwrState s f ≤ 1 ∨ (pwrState s f = 7 ∧ (getFS s f).wakeFrom = 5 ∧ pwrTarget s f = 0)) →
      ∃ t : State, exec (.mirrorRecordedApply f) s = .next t ∧ t.mem = s.mem
        ∧ (pwrState s f ≤ 1 → (getAgent t f).recLines = [] ∧ (getAgent t f).recEpochs = [])
        ∧ (pwrState s f = 7 → getAgent t f = getAgent s f)
        ∧ ∀ k ∈ (getAgent s f).recLines, mirrorOn s (k / 128) = true → ∀ h ∈ mirTargets s (k / 128) (k % 128),
            tileField h.1 = f.val → h.2 ∈ (getT t h.1).m.yStale)
  ∧ (∀ (s : State) (f : Fin 64), 2 ≤ pwrState s f → pwrState s f ≠ 7 → exec (.mirrorRecordedApply f) s = .next s)
  ∧ (∀ (s : State) (m : Fin 256) (v : Reg), s.asleep = false → s.defaultsDue = false → getFld v F.MIRROR_CFG_EN = 1 → mirrorBad v = false →
      ∃ t : State, exec (.mirrorCfgWrite m v) s = .next t ∧ mirrorOn t m = true
        ∧ rd t (A.MIRROR_STATE m) F.MIRROR_STATE_EPOCH = 0 ∧ (getMi t m).dirty = [] ∧ t.mem = s.mem
        ∧ (∀ l < mirrorLines t m, ∀ h ∈ mirTargets t m l, h.2 ∈ (getT t h.1).m.yStale)
        ∧ (mirrorOn s m = true → ∀ i : TileIx, (getT t i).m.fills.any (fun x => ofMirror m x.owner) = false))
  ∧ (∀ (s : State) (m : Fin 256) (v : Reg), s.asleep = false → s.defaultsDue = false → getFld v F.MIRROR_CFG_EN = 0 → mirrorOn s m = true →
      ∃ t : State, exec (.mirrorCfgWrite m v) s = .next t ∧ mirrorOn t m = false ∧ (getMi t m).dirty = [] ∧ t.mem = s.mem
        ∧ (∀ l < mirrorLines s m, ∀ h ∈ mirTargets s m l, h.2 ∉ (getT t h.1).m.yStale)
        ∧ ∀ i : TileIx, (getT t i).m.fills.any (fun x => ofMirror m x.owner) = false)
  ∧ (∀ (s : State) (m : Fin 256) (v : Reg), s.asleep = false → s.defaultsDue = false → getFld v F.MIRROR_CFG_EN = 1 → mirrorBad v = true →
      ∃ t : State, exec (.mirrorCfgWrite m v) s = .next t ∧ mirrorOn t m = false
        ∧ rd t (A.MIRROR_STATE m) F.MIRROR_STATE_CFG_ERR = 1 ∧ t.mem = s.mem)
  ∧ (∀ (s : State) (v : Reg), s.asleep = false → s.defaultsDue = false → v.getLsbD 1 = true → ∃ t : State, exec (.cntClear v) s = .next t
        ∧ (∀ n < 4, ∀ k < 6, rd t (A.NET_CNT n k) F.NET_CNT_COUNT = 0) ∧ (∀ k < 6, rd t (A.DEV_CNT k) F.DEV_CNT_COUNT = 0))

namespace Sys2Proof.Claims

open Sys2Proof.Machine

/-- Port `p` receives: it carries packets, its receive direction is on, no trip (spec 10 R362; spec 11 R425; spec 13 R511). -/
def portHears (s : State) (p : Nat) : Prop := portLive s p = true ∧ dirState s (8 * p) false = 0 ∧ tripped s = false

/-- The blocks `bs` carry packet `k` to port `p`: its port stream, descrambled, has the packet's blocks, between packets and on lanes that
have FEC or hold block lock (spec 11 R400, R401, R404). -/
def carries (s : State) (p : Nat) (bs : List Block) (k : Packet) : Prop :=
  packetShape k = true ∧ (getP s p).rx = [] ∧ (descrambleBlocks (getTr s p).rxScr bs).1 = packetBlocks k
    ∧ ((getTr s p).fec = true ∨ ∀ l ∈ groupRx s p, blockLock true (getLn s l).hdrs = true)

/-- HOP_LIMIT as a number of hops; 0 stands for 256 (spec 10 R368, R393). -/
def hopLimit (s : State) : Nat :=
  if rd s A.FAB_ROUTE_CTL F.FAB_ROUTE_CTL_HOP_LIMIT = 0 then 256 else rd s A.FAB_ROUTE_CTL F.FAB_ROUTE_CTL_HOP_LIMIT

/-- No packet of class `n` waits at port `p`. -/
def noneWaits (s : State) (p : Nat) (n : Net) : Prop :=
  smGet [] (getP s p).out (bufKey n false) = [] ∧ smGet [] (getP s p).out (bufKey n true) = []

/-- A packet with these contents waits at port `p` or was the last to leave. -/
def atPort (t : State) (p : Nat) (n : Net) (q : Packet → Prop) : Prop :=
  (∃ k, (getP t p).lastTx = some k ∧ q k) ∨ (∃ vc, ∃ k ∈ smGet [] (getP t p).out (bufKey n vc), q k)

/-- The first control packet that waits at port `p` is `k` of type `ty`, arrived at time `tm`. -/
def ctlHead (s : State) (p ty : Nat) (k : Packet) (tm : Nat) : Prop :=
  (getP s p).ctl.head? = some (k, tm) ∧ k.ctype.toNat = ty

/-- The proxy entry, of any gateway (the first number), of a requester's request (spec 10 R374). -/
def proxyFor (s : State) (dev : BitVec 16) (src : BitVec 11) (tag : BitVec 8) : Option (Nat × Nat × Proxy) :=
  (List.range 6).findSome? (fun q => (getP s q).proxies.findSome? (fun x => match x.2 with
    | some e => if e.dev = dev ∧ e.src = src ∧ e.tag = tag then some (q, x.1, e) else none
    | none => none))

end Sys2Proof.Claims

/-- A flit comes out of its packet as it went in: no bit of a field is dropped on any of the four classes (R250, R251,
R252, R253, R359, R360). Every flit that bits spell on a class is spelled again by its own bits, also after these have
been cut into the payload blocks of the class and put together; its packet, sealed, has the payload length of its
class, the HCRC of its header and the CRC-32C of header and payload in its trailer, and a header field changed in
transit (HOPS, VC) leaves the payload. -/
def Obligations.FlitsInPackets : Prop :=
  ∀ (n : Net) (v : Nat) (dst src : BitVec 16) (vc : Bool),
    bitsFlit n (flitBits (bitsFlit n v)) = bitsFlit n v
    ∧ bitsFlit n (ofBlocks (flitPacket dst src (bitsFlit n v) vc).payload) = bitsFlit n v
    ∧ (let k := sealPacket (flitPacket dst src (bitsFlit n v) vc)
       packetShape k = true ∧ k.hcrc = headerCrc k ∧ k.trailer = packetTrailer k ∧ k.payload.length = classBlocks n
         ∧ (sealPacket { k with hops := k.hops + 1, vc := !vc }).payload = k.payload)

/-- PACKET_RECEIVE, PACKET_FORWARD, CREDIT and GATEWAY_SEND complete (R362, R364, R366, R367, R368, R370, R372).
PACKET_RECEIVE of the scrambled blocks of a packet on a port that receives: a header that fails its HCRC is counted,
returns its credit and delivers nothing; HOPS at the limit discards and counts; a good request packet for this device
waits for the gateway, one for another device in the input buffer of its class and channel; the credits that a good
header returns are free again. PACKET_FORWARD with a credit, in its turn, sends the first packet of a buffer on its
way with HOPS one higher, its channel by the dateline rule, its payload unchanged and its CRC good exactly when it was
good, spends a credit there and owes one here. CREDIT, with nothing else to send, returns owed credits. GATEWAY_SEND
sends a waiting packet first, in its turn; a request that the table of its port admits goes into a packet to its
device with this device as source and key; one that it denies is answered DENIED. Where the rules leave a corner open,
the model's choice of assumption log 17, 69, 72, 89 is what is stated. -/
def Obligations.TetherPackets : Prop :=
  (∀ (s : State) (p : Fin 6) (bs : List Block) (k : Packet), s.asleep = false → carries s p bs k → portHears s p → k.hcrc ≠ headerCrc k →
      ∃ t : State, exec (.packetReceive p (.blocks bs)) s = .next t ∧ (getP t p).arr = (getP s p).arr ∧ (getP t p).ctl = (getP s p).ctl
        ∧ (getP t p).buf = (getP s p).buf ∧ (getP t p).used = (getP s p).used ∧ t.eps = s.eps
        ∧ (takesCredit k = true → smGet 0 (getP t p).owed (bufKey k.cls k.vc) = smGet 0 (getP s p).owed (bufKey k.cls k.vc) + 1)
        ∧ rd t (A.PORT_ERR_CNT p) F.PORT_ERR_CNT_HCRC_BAD
            = min (rd s (A.PORT_ERR_CNT p) F.PORT_ERR_CNT_HCRC_BAD + 1) (2 ^ F.PORT_ERR_CNT_HCRC_BAD.width - 1))
  ∧ (∀ (s : State) (p : Fin 6) (bs : List Block) (k : Packet), s.asleep = false → carries s p bs k → portHears s p → k.hcrc = headerCrc k →
      k.hops.toNat = hopLimit s →
      ∃ t : State, exec (.packetReceive p (.blocks bs)) s = .next t ∧ (getP t p).arr = (getP s p).arr ∧ (getP t p).buf = (getP s p).buf
        ∧ t.eps = s.eps ∧ rd t A.FAB_ERR_CNT F.FAB_ERR_CNT_HOP_DISCARD
            = min (rd s A.FAB_ERR_CNT F.FAB_ERR_CNT_HOP_DISCARD + 1) (2 ^ F.FAB_ERR_CNT_HOP_DISCARD.width - 1))
  ∧ (∀ (s : State) (p : Fin 6) (bs : List Block) (k : Packet), s.asleep = false → carries s p bs k → portHears s p → k.hcrc = headerCrc k →
      k.hops.toNat ≠ hopLimit s → k.ctl = false → k.cls = .req → k.trailer = packetTrailer k →
      rd s A.FAB_COORD F.FAB_COORD_VALID = 1 →
      ∃ t : State, exec (.packetReceive p (.blocks bs)) s = .next t
        ∧ smGet 0 (getP t p).used k.crBuf.toNat = smGet 0 (getP s p).used k.crBuf.toNat - k.crCount.toNat
        ∧ (k.dstDev = devId s → (getP t p).arr = (getP s p).arr ++ [k])
        ∧ (k.dstDev ≠ devId s → ∀ q, transitHop s p k = some q →
            smGet [] (getP t p).buf (bufKey k.cls k.vc) = smGet [] (getP s p).buf (bufKey k.cls k.vc) ++ [k]))
  ∧ (∀ (s : State) (p : Fin 6) (c : Net) (vc : Bool) (k : Packet) (rest : List Packet) (q : Nat),
      s.asleep = false → smGet [] (getP s p).buf (bufKey c vc) = k :: rest → k.cls = c → k.ctl = false → transitHop s p k = some q →
      mayTransmit s q (bufKey c (transitVc s p q k)) c = true → portTurn s q = some (netIx c, p.val) →
      ∃ (t : State) (k' : Packet), exec (.packetForward p c vc) s = .next t ∧ (getP t q).lastTx = some k'
        ∧ k'.hops = k.hops + 1 ∧ k'.vc = transitVc s p q k ∧ k'.payload = k.payload ∧ k'.dstDev = k.dstDev ∧ k'.srcDev = k.srcDev
        ∧ k'.hcrc = headerCrc k' ∧ (k.trailer = packetTrailer k ↔ k'.trailer = packetTrailer k')
        ∧ smGet [] (getP t p).buf (bufKey c vc) = rest
        ∧ smGet 0 (getP t p).owed (bufKey c vc) = smGet 0 (getP s p).owed (bufKey c vc) + 1
        ∧ smGet 0 (getP t q).used (bufKey c k'.vc) = smGet 0 (getP s q).used (bufKey c k'.vc) + 1)
  ∧ (∀ (s : State) (p : Fin 6) (b : Fin 8) (n : Fin 32), s.asleep = false → n.val ≠ 0 → n.val ≤ smGet 0 (getP s p).owed b → portLive s p = true →
      dirState s (8 * p.val) true = 0 → (getTr s p).wakePages = 0 → tripped s = false → portTurn s p = none → rd s (A.PORT_CTL p) F.PORT_CTL_HAIRPIN ≠ 1 →
      ∃ (t : State) (k : Packet), exec (.credit p b n) s = .next t ∧ (getP t p).lastTx = some k ∧ k.ctl = true ∧ k.ctype = 0
        ∧ k.crBuf.toNat = b.val ∧ k.crCount.toNat = n.val ∧ smGet 0 (getP t p).owed b + n.val = smGet 0 (getP s p).owed b)
  ∧ (∀ (s : State) (p : Fin 6) (n : Net) (k : Packet) (rest : List Packet), s.asleep = false → smGet [] (getP s p).out (bufKey n false) = k :: rest →
      smGet [] (getP s p).out (bufKey n true) = [] → k.cls = n → k.vc = false → k.ctl = false →
      mayTransmit s p (bufKey n false) n = true → portTurn s p = some (netIx n, 6) →
      ∃ (t : State) (k' : Packet), exec (.gatewaySend p n) s = .next t ∧ (getP t p).lastTx = some k' ∧ k'.payload = k.payload
        ∧ k'.dstDev = k.dstDev ∧ smGet [] (getP t p).out (bufKey n false) = rest)
  ∧ (∀ (s : State) (p : Fin 6) (f : Flit) (fs : List Flit), s.asleep = false → noneWaits s p .req → rd s A.FAB_COORD F.FAB_COORD_VALID = 1 →
      (getEp s (gatewayPort p)).inReq = f :: fs → f.net = .req → f.op.toNat < 3 → portUp s p = true →
      decideAccess s ⟨devId s, f.mst⟩ false (remoteNeeds s p f) = .grant →
      ∃ t : State, exec (.gatewaySend p .req) s = .next t ∧ (getEp t (gatewayPort p)).inReq = fs
        ∧ atPort t p .req (fun k => k.dstDev = f.dev ∧ k.srcDev = devId s
            ∧ k.payload = toBlocks 3 (flitBits { f with dev := devId s, age := 0 })))
  ∧ (∀ (s : State) (p : Fin 6) (f : Flit) (fs : List Flit) (code table : Nat), s.asleep = false → noneWaits s p .req →
      rd s A.FAB_COORD F.FAB_COORD_VALID = 1 → (getEp s (gatewayPort p)).inReq = f :: fs → f.op.toNat < 2 →
      decideAccess s ⟨devId s, f.mst⟩ false (remoteNeeds s p f) = .refuse code table →
      ∃ t : State, exec (.gatewaySend p .req) s = .next t ∧ t.ports = s.ports
        ∧ ∃ g ∈ (getEp t (gatewayPort p)).outRsp, g.tag = f.tag ∧ g.dst = f.src ∧ g.status.toNat = statusCode .denied)

/-- PROXY_INJECT, PROXY_RESPONSE, PROXY_WDATA and PROXY_ENTRY_TIMEOUT complete (R373, R374). PROXY_INJECT of an
arrived request takes the lowest free entry of its gateway, which records source device, source, tag and local
destination, and injects the request with the entry as its tag and the gateway as its source; with no free entry
PROXY_FULL is counted. PROXY_RESPONSE keeps the entry on a GO and releases it on a final response. PROXY_WDATA goes to
the recorded destination under the number of the entry that its source device, source and tag name, with the gateway
of that entry as its source, and is counted and discarded when none does. PROXY_ENTRY_TIMEOUT releases the entry.
Either arrival leaves the buffer and owes its credit. -/
def Obligations.Proxies : Prop :=
  (∀ (s : State) (p : Fin 6) (k : Packet) (f : Flit) (d e : Nat), s.asleep = false → arrivedFlit s p .req (fun f => f.op != 2) = some (k, f) →
      localTarget s f.addr.toNat = .local_ d → (List.range 256).find? (fun e => (smGet none (getP s p).proxies e).isNone) = some e →
      ∃ t : State, exec (.proxyInject p) s = .next t ∧ (getP t p).arr = (getP s p).arr.erase k
        ∧ smGet none (getP t p).proxies e = some ⟨k.srcDev, f.src, f.tag, BitVec.ofNat 11 d⟩
        ∧ (getEp t (gatewayPort p)).outReq = (getEp s (gatewayPort p)).outReq
            ++ [{ f with dst := BitVec.ofNat 11 d, src := BitVec.ofNat 11 (gatewayPort p), tag := BitVec.ofNat 8 e }]
        ∧ smGet 0 (getP t p).owed (bufKey k.cls k.vc) = smGet 0 (getP s p).owed (bufKey k.cls k.vc) + 1)
  ∧ (∀ (s : State) (p : Fin 6) (k : Packet) (f : Flit) (d : Nat), s.asleep = false → arrivedFlit s p .req (fun f => f.op != 2) = some (k, f) →
      localTarget s f.addr.toNat = .local_ d → (List.range 256).find? (fun e => (smGet none (getP s p).proxies e).isNone) = none →
      ∃ t : State, exec (.proxyInject p) s = .next t ∧ (getP t p).arr = (getP s p).arr.erase k ∧ t.eps = s.eps
        ∧ rd t A.FAB_ERR_CNT F.FAB_ERR_CNT_PROXY_FULL
            = min (rd s A.FAB_ERR_CNT F.FAB_ERR_CNT_PROXY_FULL + 1) (2 ^ F.FAB_ERR_CNT_PROXY_FULL.width - 1))
  ∧ (∀ (s : State) (p : Fin 6) (f : Flit) (fs : List Flit) (e : Proxy), s.asleep = false → (getEp s (gatewayPort p)).inRsp = f :: fs →
      smGet none (getP s p).proxies f.tag.toNat = some e → f.op.toNat < 3 →
      ∃ t : State, exec (.proxyResponse p false) s = .next t ∧ (getEp t (gatewayPort p)).inRsp = fs
        ∧ smGet none (getP t p).proxies f.tag.toNat = (if f.op = 1 then some e else none))
  ∧ (∀ (s : State) (p : Fin 6) (k : Packet) (f : Flit) (q n : Nat) (e : Proxy), s.asleep = false → arrivedFlit s p .dat (fun _ => true) = some (k, f) →
      proxyFor s k.srcDev f.src f.tag = some (q, n, e) →
      ∃ t : State, exec (.proxyWdata p) s = .next t ∧ (getP t p).arr = (getP s p).arr.erase k
        ∧ (getEp t (gatewayPort p)).outDat = (getEp s (gatewayPort p)).outDat
            ++ [{ f with dst := e.dst, src := BitVec.ofNat 11 (gatewayPort q), tag := BitVec.ofNat 8 n }])
  ∧ (∀ (s : State) (p : Fin 6) (k : Packet) (f : Flit), s.asleep = false → arrivedFlit s p .dat (fun _ => true) = some (k, f) →
      proxyFor s k.srcDev f.src f.tag = none →
      ∃ t : State, exec (.proxyWdata p) s = .next t ∧ (getP t p).arr = (getP s p).arr.erase k ∧ t.eps = s.eps)
  ∧ (∀ (s : State) (p : Fin 6) (n : Fin 256) (e : Proxy), s.asleep = false → smGet none (getP s p).proxies n = some e →
      ∃ t : State, exec (.proxyEntryTimeout p n) s = .next t ∧ smGet none (getP t p).proxies n = none ∧ t.eps = s.eps)

/-- CLAIM_SEND, CLAIM, CLAIM_ACK, CLAIM_ACK_TIMEOUT, LEASE_EXPIRE, RELEASE and STRING_ENTRY_CLEAR complete (R381,
R382, R394). CLAIM_SEND of an enabled entry of an anchor sends a CLAIM to its device, or marks the entry unreachable
(3). CLAIM at a device that is no anchor and has none records the claimant as its anchor; a device that has one keeps
it. CLAIM_ACK marks the enabled entries of that device claimed (1) or refused (2), no other; CLAIM_ACK_TIMEOUT marks
the entry unreachable. LEASE_EXPIRE and a RELEASE from the recorded anchor end the claim; a RELEASE from another
device does not. STRING_ENTRY_CLEAR with EN 0 clears the entry and returns its state to pending. Where the rules leave
a corner open, the model's choice of assumption log 37 is what is stated. -/
def Obligations.StringsAndLeases : Prop :=
  (∀ (s : State) (i : Fin 64) (p : Nat), s.asleep = false → isAnchor s = true → rd s (A.FAB_STRING i) F.FAB_STRING_EN = 1 →
      rd s A.FAB_COORD F.FAB_COORD_VALID = 1 → namesDevice s (rd s (A.FAB_STRING i) F.FAB_STRING_DEVICE) = true →
      firstHop s (rd s (A.FAB_STRING i) F.FAB_STRING_DEVICE) = some p → noneWaits s p .req →
      ∃ t : State, exec (.claimSend i) s = .next t ∧ getR t (A.FAB_STRING i) = getR s (A.FAB_STRING i)
        ∧ atPort t p .req (fun k => k.ctl = true ∧ k.ctype = 3 ∧ k.dstDev.toNat = rd s (A.FAB_STRING i) F.FAB_STRING_DEVICE))
  ∧ (∀ (s : State) (i : Fin 64), s.asleep = false → isAnchor s = true → rd s (A.FAB_STRING i) F.FAB_STRING_EN = 1 →
      firstHop s (rd s (A.FAB_STRING i) F.FAB_STRING_DEVICE) = none →
      ∃ t : State, exec (.claimSend i) s = .next t ∧ rd t (A.FAB_STRING i) F.FAB_STRING_STATE = 3)
  ∧ (∀ (s : State) (p : Fin 6) (k : Packet) (tm : Nat), s.asleep = false → ctlHead s p 3 k tm → isAnchor s = false →
      rd s A.FAB_ANCHOR F.FAB_ANCHOR_VALID = 0 →
      ∃ t : State, exec (.claim p) s = .next t ∧ rd t A.FAB_ANCHOR F.FAB_ANCHOR_VALID = 1
        ∧ rd t A.FAB_ANCHOR F.FAB_ANCHOR_ANCHOR_ID = k.srcDev.toNat ∧ (getP t p).ctl = (getP s p).ctl.drop 1)
  ∧ (∀ (s : State) (p : Fin 6) (k : Packet) (tm : Nat), s.asleep = false → ctlHead s p 3 k tm →
      (isAnchor s = true ∨ rd s A.FAB_ANCHOR F.FAB_ANCHOR_VALID = 1) →
      ∃ t : State, exec (.claim p) s = .next t ∧ getR t A.FAB_ANCHOR = getR s A.FAB_ANCHOR ∧ (getP t p).ctl = (getP s p).ctl.drop 1)
  ∧ (∀ (s : State) (p : Fin 6) (k : Packet) (tm : Nat), s.asleep = false → ctlHead s p 4 k tm →
      ∃ t : State, exec (.claimAck p) s = .next t ∧ (getP t p).ctl = (getP s p).ctl.drop 1
        ∧ ∀ i : Fin 64, rd t (A.FAB_STRING i) F.FAB_STRING_STATE
            = if rd s (A.FAB_STRING i) F.FAB_STRING_EN = 1 ∧ rd s (A.FAB_STRING i) F.FAB_STRING_DEVICE = k.srcDev.toNat
              then (if bit (ofBlocks k.payload) 0 then 1 else 2) else rd s (A.FAB_STRING i) F.FAB_STRING_STATE)
  ∧ (∀ (s : State) (i : Fin 64), s.asleep = false → isAnchor s = true → rd s (A.FAB_STRING i) F.FAB_STRING_EN = 1 →
      ∃ t : State, exec (.claimAckTimeout i) s = .next t ∧ rd t (A.FAB_STRING i) F.FAB_STRING_STATE = 3)
  ∧ (∀ (s : State), s.asleep = false → rd s A.FAB_ANCHOR F.FAB_ANCHOR_VALID = 1 → rd s A.FAB_ANCHOR F.FAB_ANCHOR_LEASE_MS ≠ 0 →
      ∃ t : State, exec .leaseExpire s = .next t ∧ rd t A.FAB_ANCHOR F.FAB_ANCHOR_VALID = 0
        ∧ rd t A.FAB_ANCHOR F.FAB_ANCHOR_ANCHOR_ID = rd s A.FAB_ANCHOR F.FAB_ANCHOR_ANCHOR_ID)
  ∧ (∀ (s : State) (p : Fin 6) (k : Packet) (tm : Nat), s.asleep = false → ctlHead s p 5 k tm →
      ∃ t : State, exec (.release p) s = .next t ∧ rd t A.FAB_ANCHOR F.FAB_ANCHOR_VALID
        = if rd s A.FAB_ANCHOR F.FAB_ANCHOR_ANCHOR_ID = k.srcDev.toNat then 0 else rd s A.FAB_ANCHOR F.FAB_ANCHOR_VALID)
  ∧ (∀ (s : State) (i : Fin 64) (v : Reg), s.asleep = false → s.defaultsDue = false → getFld v F.FAB_STRING_EN = 0 →
      ∃ t : State, exec (.stringEntryClear i v) s = .next t ∧ rd t (A.FAB_STRING i) F.FAB_STRING_EN = 0
        ∧ rd t (A.FAB_STRING i) F.FAB_STRING_STATE = 0)

/-- Neighbour checks, enumeration, identity, port loss, the tester and fabric time: the commands complete (R355, R356,
R358, R384, R385, R386, R387, R388, R389). NEIGHBOUR_CHECK brings a port whose neighbour fits to UP with full credits,
and holds one whose dimensions differ with MISMATCH; ENUMERATION takes the ID that lies across the port; FAB_ID_WRITE
takes dimensions that keep R355 and an ID only while every port is disabled and DOWN. PORT_DOWN discards what waited,
with its credits, and sets DOWN_EVENT. TEST sends the next 9 blocks of the PRBS-31 sequence, and in the loop inside
the device its checker counts the packet, and an error when the sequences differ. TIME_REQ sends its packet toward the
parent, and parent and hops read as the route gives them; TIME_RSP answers with the arrival time; TIME_ADJUST records
the offset of the exchange and steps the time by one beyond STEP_NS. SYNC_IN_EDGE captures the time; HOLDOVER and
SYNC_LOST set their flags. Where the rules leave a corner open, the model's choice of assumption log 38, 57, 73, 74 is
what is stated. -/
def Obligations.NeighboursAndTime : Prop :=
  (∀ (s : State) (p : Fin 6), s.asleep = false → lanesIn s p 9 ≠ [] → (rd s (A.PORT_STATUS p) F.PORT_STATUS_STATE = 0 ∨ rd s (A.PORT_STATUS p) F.PORT_STATUS_STATE = 3) →
      (getP s p).lost = false → (getTr s p).checked = false → rd s (A.PORT_CTL p) F.PORT_CTL_HAIRPIN = 0 → fabSize s (p.val / 2) ≠ 1 →
      (getTr s p).peerPort = (if p.val % 2 = 0 then p.val + 1 else p.val - 1) →
      (getTr s p).peerValid = true → rd s A.FAB_COORD F.FAB_COORD_VALID = 1 →
      (getTr s p).peerId.toNat = nextId s p (devId s).toNat → (getTr s p).peerId ≠ devId s →
      ∃ t : State, exec (.neighbourCheck p) s = .next t
        ∧ ((getTr s p).peerDims.toNat = (getR s A.FAB_DIMS).toNat % 2 ^ 63 → rd t (A.PORT_STATUS p) F.PORT_STATUS_STATE = 1
            ∧ (getP t p).used = [] ∧ rd t (A.PORT_STATUS p) F.PORT_STATUS_NEIGHBOUR = (getTr s p).peerId.toNat)
        ∧ ((getTr s p).peerDims.toNat ≠ (getR s A.FAB_DIMS).toNat % 2 ^ 63 → rd t (A.PORT_STATUS p) F.PORT_STATUS_STATE = 3
            ∧ rd t (A.PORT_STATUS p) F.PORT_STATUS_MISMATCH = 1))
  ∧ (∀ (s : State) (p : Fin 6), s.asleep = false → rd s A.FAB_COORD F.FAB_COORD_VALID = 0 → rd s A.FAB_COORD F.FAB_COORD_ENUM = 1 → portUp s p = true →
      (getTr s p).peerValid = true → (∀ q < p.val, portUp s q = true → (getTr s q).peerValid = false) →
      ∃ t : State, exec (.enumeration p) s = .next t ∧ rd t A.FAB_COORD F.FAB_COORD_VALID = 1 ∧ rd t A.FAB_COORD F.FAB_COORD_SOURCE = 2
        ∧ rd t A.FAB_COORD F.FAB_COORD_ID = nextId s (if p.val % 2 = 0 then p.val + 1 else p.val - 1) (getTr s p).peerId.toNat % 2 ^ 16)
  ∧ (∀ (s : State) (v : Reg), s.asleep = false → s.defaultsDue = false → ∃ t : State, exec (.fabIdWrite false v) s = .next t
        ∧ (portsDown s = true → rd t A.FAB_COORD F.FAB_COORD_ID = getFld v F.FAB_COORD_ID ∧ rd t A.FAB_COORD F.FAB_COORD_VALID = 1)
        ∧ (portsDown s = false → rd t A.FAB_COORD F.FAB_COORD_ID = rd s A.FAB_COORD F.FAB_COORD_ID
            ∧ rd t A.FAB_COORD F.FAB_COORD_VALID = rd s A.FAB_COORD F.FAB_COORD_VALID))
  ∧ (∀ (s : State) (v : Reg), s.asleep = false → s.defaultsDue = false → (portsDown s = false ∨ dimsOk v = false → exec (.fabIdWrite true v) s = .next s)
        ∧ (portsDown s = true → dimsOk v = true → ∃ t : State, exec (.fabIdWrite true v) s = .next t
            ∧ rd t A.FAB_DIMS F.FAB_DIMS_BX = getFld v F.FAB_DIMS_BX ∧ rd t A.FAB_DIMS F.FAB_DIMS_NX_M1 = getFld v F.FAB_DIMS_NX_M1))
  ∧ (∀ (s : State) (p : Fin 6), s.asleep = false → (getP s p).lost = true →
      ∃ t : State, exec (.portDown p) s = .next t ∧ (getP t p).out = [] ∧ (getP t p).used = [] ∧ (getP t p).owed = []
        ∧ (getP t p).rx = [] ∧ (getP t p).lost = false ∧ (getP t p).arr = (getP s p).arr ∧ rd t (A.PORT_STATUS p) F.PORT_STATUS_DOWN_EVENT = 1)
  ∧ (∀ (s : State) (p : Fin 6) (vc : Bool), s.asleep = false → rd s (A.PORT_STATUS p) F.PORT_STATUS_STATE = 2 → rd s (A.PORT_CTL p) F.PORT_CTL_TEST_EN = 1 →
      mayTransmit s p (bufKey .dat vc) .dat = true → rd s (A.PORT_CTL p) F.PORT_CTL_HAIRPIN ≠ 1 →
      ∃ (t : State) (k : Packet), exec (.testPacket p vc false) s = .next t ∧ (getP t p).lastTx = some k ∧ k.ctl = true ∧ k.ctype = 6
        ∧ k.payload = (prbsBlocks (getTr s p).prbs).1 ∧ (getTr t p).prbs = (prbsBlocks (getTr s p).prbs).2
        ∧ rd t (A.PORT_TX_CNT p) F.PORT_TX_CNT_COUNT = min (rd s (A.PORT_TX_CNT p) F.PORT_TX_CNT_COUNT + 1) (2 ^ F.PORT_TX_CNT_COUNT.width - 1))
  ∧ (∀ (s : State) (p : Fin 6) (vc : Bool), s.asleep = false → rd s (A.PORT_STATUS p) F.PORT_STATUS_STATE = 2 → rd s (A.PORT_CTL p) F.PORT_CTL_TEST_EN = 1 →
      mayTransmit s p (bufKey .dat vc) .dat = true → rd s (A.PORT_CTL p) F.PORT_CTL_HAIRPIN = 1 → dirState s (8 * p.val) false = 0 →
      (getP s p).rx = [] → (getTr s p).rxScr = (getTr s p).txScr →
      ((getTr s p).fec = true ∨ ∀ l ∈ groupRx s p, blockLock true (getLn s l).hdrs = true) →
      ∃ t : State, exec (.testPacket p vc false) s = .next t ∧ (getTr t p).prbsRx = (prbsBlocks (getTr s p).prbsRx).2
        ∧ rd t (A.PORT_RX_CNT p) F.PORT_RX_CNT_COUNT = min (rd s (A.PORT_RX_CNT p) F.PORT_RX_CNT_COUNT + 1) (2 ^ F.PORT_RX_CNT_COUNT.width - 1)
        ∧ ((getTr s p).prbsRx = (getTr s p).prbs → rd t (A.PORT_ERR_CNT p) F.PORT_ERR_CNT_TEST_ERR = rd s (A.PORT_ERR_CNT p) F.PORT_ERR_CNT_TEST_ERR)
        ∧ ((prbsBlocks (getTr s p).prbsRx).1 ≠ (prbsBlocks (getTr s p).prbs).1 → rd t (A.PORT_ERR_CNT p) F.PORT_ERR_CNT_TEST_ERR
            = min (rd s (A.PORT_ERR_CNT p) F.PORT_ERR_CNT_TEST_ERR + 1) (2 ^ F.PORT_ERR_CNT_TEST_ERR.width - 1)))
  ∧ (∀ (s : State) (p : Fin 6) (vc : Bool), s.asleep = false → ∃ t : State, exec (.testPacket p vc false) s = .next t
        ∧ exec (.testPacket p vc true) s = exec (.testPacket p (!vc) false) t)
  ∧ (∀ (s : State) (p : Nat), s.asleep = false → parentPort s = some p → portUp s p = true → rd s A.FAB_TIME_CTL F.FAB_TIME_CTL_EN = 1 → noneWaits s p .snp →
      ∃ t : State, exec .timeReq s = .next t ∧ atPort t p .snp (fun k => k.ctl = true ∧ k.ctype = 1)
        ∧ getFld (timeStatus t) F.FAB_TIME_STATUS_PARENT = p ∧ getFld (timeStatus t) F.FAB_TIME_STATUS_HOPS = min 255 (masterHops s))
  ∧ (∀ (s : State) (p : Fin 6) (k : Packet) (tm : Nat), s.asleep = false → ctlHead s p 1 k tm → noneWaits s p .snp →
      ∃ t : State, exec (.timeRsp p) s = .next t ∧ (getP t p).ctl = (getP s p).ctl.drop 1
        ∧ atPort t p .snp (fun k' => k'.ctl = true ∧ k'.ctype = 2 ∧ k'.payload.head? = some (BitVec.ofNat 64 tm)))
  ∧ (∀ (s : State) (p : Fin 6) (k : Packet) (t4 t1 : Nat) (t2 t3 : BitVec 64), s.asleep = false → ctlHead s p 2 k t4 → k.payload = [t2, t3] →
      s.fabTime.t1 = some t1 → parentPort s = some p.val →
      ∃ (t : State) (off : Int), exec (.timeAdjust p) s = .next t
        ∧ off = ((((t2.toNat : Int) - t1) - ((t4 : Int) - t3.toNat)) / 2)
        ∧ t.fabTime.t1 = none ∧ (getP t p).ctl = (getP s p).ctl.drop 1
        ∧ (rd s A.FAB_TIME_CTL F.FAB_TIME_CTL_STEP_NS < off.natAbs → (t.time : Int) = ((s.time : Int) + off * 2 ^ 24) % 2 ^ 88
            ∧ rd t A.FAB_TIME_STATUS F.FAB_TIME_STATUS_STEPPED = 1)
        ∧ (off.natAbs ≤ rd s A.FAB_TIME_CTL F.FAB_TIME_CTL_STEP_NS → t.time = s.time))
  ∧ (∀ (s : State), s.asleep = false → rd s A.CLK_SYNC_CTL F.CLK_SYNC_CTL_EN = 1 →
      ∃ t : State, exec .syncInEdge s = .next t ∧ rd t A.CLK_SYNC_CAP F.CLK_SYNC_CAP_TIME = nowNs s)
  ∧ (∀ (s : State) (p : Nat), s.asleep = false → parentPort s = some p → portUp s p = false →
      ∃ t : State, exec .holdover s = .next t ∧ rd t A.FAB_TIME_STATUS F.FAB_TIME_STATUS_HOLDOVER = 1)
  ∧ (∀ (s : State), s.asleep = false → syncMode s ≠ 0 →
      ∃ t : State, exec .syncLost s = .next t ∧ rd t A.FAB_TIME_STATUS F.FAB_TIME_STATUS_SYNC_LOST = 1)

namespace Sys2Proof.Claims

open Sys2Proof.Machine

/-- Port `p` may bring its lanes up: OUT has released the transmitters and EN is 1 (spec 11 R399, R412). -/
def portMay (s : State) (p : Nat) : Prop := s.boot.out = true ∧ rd s (A.PORT_CTL p) F.PORT_CTL_EN = 1

/-- In `t` the port is at rate 0, each direction on that is not requested OFF, or QUIET while the package is tripped (spec 11 R412, R424;
spec 13 R511). -/
def startedUp (t : State) (p : Nat) : Prop :=
  rd t (A.LANE_STATUS (8 * p)) F.LANE_STATUS_RATE = 0
    ∧ ∀ tx : Bool, dirReq t (8 * p) tx ≠ 2 → dirState t (8 * p) tx = if tripped t then 1 else 0

/-- In `t` the port stands at the beginning of a bring-up, its enabled lanes in state `st`, the others DISABLED (spec 11 R412). -/
def restartedAt (t : State) (p st : Nat) : Prop :=
  (∀ l ∈ portLanes p, laneState t l = if laneEn t l then st else 0) ∧ startedUp t p

/-- In `t` the port has gone back within its bring-up: as at a beginning, but the lanes that are SPARE or FAILED stay so (spec 11 R412,
R413). -/
def retriedAt (s t : State) (p st : Nat) : Prop :=
  (∀ l ∈ portLanes p, laneState t l = if laneEn t l = false then 0
      else if laneState s l = 10 ∨ laneState s l = 11 then laneState s l else st) ∧ startedUp t p

/-- The validity of the last 64 headers of lane `l` once it has received blocks (spec 11 R401). -/
def headersAfter (s : State) (l : Nat) (bs : List Block) : List Bool :=
  (laneWires s l bs).foldl (fun h b => (blockValid b :: h).take 64) (getLn s l).hdrs

/-- What lane `l` receives in a frame time holds the frame `b`: the lane holds block lock, its own loop is off, and the descrambled blocks
spell a frame that R411 decodes (spec 11 R400, R401, R411). -/
def hears (s : State) (l : Nat) (bs : List Block) (b : BitVec 248) : Prop :=
  blocksFrame (descrambleBlocks (getLn s l).rxScr (laneWires s l bs)).1 = some b ∧ tfOk b = true
    ∧ blockLock (rdB s (A.LANE_STATUS l) F.LANE_STATUS_LOCKED) (headersAfter s l bs) = true

/-- Every lane of port `p` is in `t` in the state that `g` gives. -/
def lanesBecome (t : State) (p : Nat) (g : Nat → Nat) : Prop := ∀ l ∈ portLanes p, laneState t l = g l

/-- The taps of a lane keep the limits (spec 11 R419). -/
def tapsGood (s : State) (l : Nat) : Prop :=
  tapsOk (rd s (A.LANE_TAPS l) F.LANE_TAPS_PRE) (rd s (A.LANE_TAPS l) F.LANE_TAPS_MAIN) (rd s (A.LANE_TAPS l) F.LANE_TAPS_POST) = true

/-- The port's rate code in use, and its rate cap (spec 11 R437, R439). -/
def portRate (s : State) (p : Nat) : Nat := rd s (A.LANE_STATUS (8 * p)) F.LANE_STATUS_RATE
def rateCap (s : State) (p : Nat) : Nat := rd s (A.LANE_TRAIN (8 * p)) F.LANE_TRAIN_RATE_CAP

/-- The findings that a restart keeps: the polarity with which a lane last worked, and REVERSED (spec 11 R413, R420). -/
def findingsKept (s t : State) (p : Nat) : Prop :=
  (∀ l ∈ portLanes p, laneEn s l = true → (getLn t l).inv = startInv s l ∧ startInv t l = startInv s l)
    ∧ rd t (A.LANE_STATUS (8 * p)) F.LANE_STATUS_REVERSED = rd s (A.LANE_STATUS (8 * p)) F.LANE_STATUS_REVERSED

end Sys2Proof.Claims

/-- A tether port brings its lanes up state by state: every command of the bring-up completes (R411, R412, R413, R414,
R415, R416, R417, R419). PORT_ENABLE of 1 starts SIGNAL on every enabled lane, of 0 leaves every lane DISABLED and the
directions OFF. SIGNAL leads to LOCK; LOCK, with 64 valid headers in a row, to HELLO; LOCK_TIMEOUT back to SIGNAL, or
takes the port back from AGREE, DESKEW or FEC, its SPARE and FAILED lanes apart. POLARITY_INVERT inverts once,
LANE_FAILED inverts back and fails the lane. A TRAINING_FRAME whose blocks hold a frame records the rates and good
lanes of the neighbour and the polarity that works, one that is not decoded is no frame; a lane whose transmitter is
on sends its own, scrambled. HELLO sends the good lanes to AGREE. AGREE on the selection of both sides puts the group
in STEP and the other enabled lanes, but failed ones, in SPARE. STEP changes rate once 64 frames have gone out, or
goes on (ADAPT on ports 4 and 5, else DESKEW); STEP_FAILED goes back to LOCK with rates below the failed one.
ADAPT_REQUEST keeps the taps in their limits, and applies none once ADAPT_DONE has arrived. ADAPT ends when both sides
have finished, or by ADAPT_TIMEOUT, DESKEW on aligned groups, FEC on READY both ways and, at a rate with FEC, with
both directions changed; BRING_UP_TIMEOUT restarts. Where the rules leave a corner open, the model's choice of
assumption log 17, 56, 59, 92, 93 is what is stated. -/
def Obligations.LaneBringUp : Prop :=
  (∀ (s : State) (p : Fin 6) (v : Reg), s.asleep = false → s.defaultsDue = false → s.boot.out = true → getFld v F.PORT_CTL_EN = 1 → rd s (A.PORT_CTL p) F.PORT_CTL_EN = 0 →
      ∃ t : State, exec (.portEnable p v) s = .next t ∧ restartedAt t p 1 ∧ rd t (A.PORT_CTL p) F.PORT_CTL_EN = 1)
  ∧ (∀ (s : State) (p : Fin 6) (v : Reg), s.asleep = false → s.defaultsDue = false → getFld v F.PORT_CTL_EN = 0 → rd s (A.PORT_CTL p) F.PORT_CTL_EN = 1 →
      ∃ t : State, exec (.portEnable p v) s = .next t ∧ lanesBecome t p (fun _ => 0)
        ∧ (∀ tx : Bool, dirState t (8 * p.val) tx = 2) ∧ rd t (A.PORT_STATUS p) F.PORT_STATUS_STATE = 0)
  ∧ (∀ (s : State) (l : Fin 112), laneState s l = 1 → laneClock s l = true → dirState s l false = 0 →
      ∃ t : State, exec (.laneSignal l) s = .next t ∧ laneState t l = 2 ∧ rd t (A.LANE_STATUS l) F.LANE_STATUS_LOS = 0
        ∧ ∀ m : Nat, m < 112 → m ≠ l → getR t (A.LANE_STATUS m) = getR s (A.LANE_STATUS m))
  ∧ (∀ (s : State) (l : Fin 112) (bs : List Block), l.val < 48 → laneState s l = 2 → 64 ≤ bs.length →
      ((laneWires s l bs).drop (bs.length - 64)).all blockValid = true →
      ∃ t : State, exec (.laneLock ⟨l, bs⟩) s = .next t ∧ laneState t l = 3 ∧ rd t (A.LANE_STATUS l) F.LANE_STATUS_LOL = 0
        ∧ rd t (A.LANE_STATUS l) F.LANE_STATUS_LOCKED = 1)
  ∧ (∀ (s : State) (l : Fin 112), l.val < 48 → laneState s l = 2 → ∃ t : State, exec (.lockTimeout l) s = .next t ∧ laneState t l = 1)
  ∧ (∀ (s : State) (l : Fin 112), 48 ≤ l.val → exec (.lockTimeout l) s = .next s)
  ∧ (∀ (s : State) (l : Fin 112), l.val < 48 → (laneState s l = 4 ∨ laneState s l = 7 ∨ laneState s l = 8) → portMay s (l / 8) →
      ∃ t : State, exec (.lockTimeout l) s = .next t ∧ retriedAt s t (l / 8) 1 ∧ (getTr t (l / 8)).limit = (getTr s (l / 8)).limit)
  ∧ (∀ (s : State) (l : Fin 112), laneState s l = 3 → (getLn s l).decoded = false → (getLn s l).tried = false →
      ∃ t : State, exec (.polarityInvert l) s = .next t ∧ laneState t l = 3 ∧ (getLn t l).inv = !(getLn s l).inv
        ∧ (getLn t l).tried = true ∧ rd t (A.LANE_STATUS l) F.LANE_STATUS_RX_INVERTED = 1)
  ∧ (∀ (s : State) (l : Fin 112), laneState s l = 3 → (getLn s l).decoded = false → (getLn s l).tried = true →
      ∃ t : State, exec (.laneFailed l) s = .next t ∧ laneState t l = 11 ∧ (getLn t l).inv = !(getLn s l).inv
        ∧ rd t (A.LANE_STATUS l) F.LANE_STATUS_FAILED = 1)
  ∧ (∀ (s : State) (l : Fin 112) (bs : List Block), l.val < 48 → 3 ≤ laneState s l → laneState s l ≤ 6 →
      ∃ t : State, exec (.trainingFrame l bs) s = .next t ∧ lanesBecome t (l / 8) (laneState s)
        ∧ (dirState s l true = 0 → (getLn t l).line.length = 4))
  ∧ (∀ (s : State) (l : Fin 112) (bs : List Block) (b : BitVec 248), l.val < 48 → laneState s l = 3 → hears s l bs b →
      rd s (A.PORT_CTL (l / 8)) F.PORT_CTL_HAIRPIN ≠ 1 →
      ∃ t : State, exec (.trainingFrame l bs) s = .next t ∧ laneState t l = 3 ∧ (getLn t l).decoded = true
        ∧ (getLn t l).worked = some (getLn s l).inv ∧ (getLn t l).laneField = some (tfBits b 22 20)
        ∧ (getLn t l).frames = (if (getLn s l).laneField = some (tfBits b 22 20) then min 16 ((getLn s l).frames + 1) else 1)
        ∧ rd t (A.LANE_TRAIN (8 * (l / 8))) F.LANE_TRAIN_PEER_RATES = tfBits b 31 28
        ∧ rd t (A.LANE_TRAIN (8 * (l / 8))) F.LANE_TRAIN_PEER_GOOD = tfBits b 39 32
        ∧ (dirState s l true = 0 → (getLn t l).line = (scrambleBlocks (getLn s l).txScr (frameBlocks (sentFrame t l))).1.map
            (turnBlock (rdB s (A.LANE_CTL l) F.LANE_CTL_TX_INV))))
  ∧ (∀ (s : State) (l : Fin 112) (bs : List Block), l.val < 48 → laneState s l = 3 → (∀ b, ¬ hears s l bs b) →
      rd s (A.PORT_CTL (l / 8)) F.PORT_CTL_HAIRPIN ≠ 1 →
      ∃ t : State, exec (.trainingFrame l bs) s = .next t ∧ laneState t l = 3 ∧ (getLn t l).decoded = (getLn s l).decoded
        ∧ (getLn t l).good = (getLn s l).good ∧ (getLn t l).frames = 0 ∧ getTr t (l / 8) = getTr s (l / 8))
  ∧ (∀ (s : State) (p : Fin 6) (good : List Nat), lanesIn s p 3 ≠ [] → good ≠ [] →
      good = ((List.range 8).filter (bit (rd s (A.LANE_TRAIN (8 * p.val)) F.LANE_TRAIN_OWN_GOOD))).map (rxLane s p) →
      ∃ t : State, exec (.hello p true) s = .next t
        ∧ lanesBecome t p (fun l => if good.contains l && laneState s l == 3 then 4 else laneState s l))
  ∧ (∀ (s : State) (p : Fin 6) (r w g : Nat), lanesIn s p 4 ≠ [] → ownSelection s p = some (r, w, g) →
      (getTr s p).peerSel = some (r, w, g) → (getTr s p).peerAck = true →
      ∃ t : State, exec (.agree p) s = .next t ∧ rd t (A.LANE_STATUS (8 * p.val)) F.LANE_STATUS_WIDTH = w
        ∧ rd t (A.LANE_STATUS (8 * p.val)) F.LANE_STATUS_GROUP = g ∧ (getTr t p).sel = some (r, w, g)
        ∧ (2 ^ w < (enabledLanes s p).length → rd t (A.LANE_STATUS (8 * p.val)) F.LANE_STATUS_WIDTH_REDUCED = 1)
        ∧ lanesBecome t p (fun l => if laneEn s l = false then laneState s l
            else if ((groupPos w g).map (rxLane s p)).contains l then 5 else if laneState s l = 11 then 11 else 10))
  ∧ (∀ (s : State) (p : Fin 6), lanesIn s p 4 ≠ [] → ownSelection s p = none →
      ∃ t : State, exec (.agree p) s = .next t ∧ (getTr t p).noCommon = true ∧ lanesBecome t p (laneState s))
  ∧ (∀ (s : State) (p : Fin 6) (r w g : Nat), lanesIn s p 5 ≠ [] → (getTr s p).sel = some (r, w, g) →
      (r = 0 ∨ (portRate s p = r ∧ (groupRx s p).all (fun l => (getLn s l).stepped) = true)) →
      ∃ t : State, exec (.stepRate p) s = .next t ∧ portRate t p = portRate s p
        ∧ lanesBecome t p (fun l => if (groupRx s p).contains l then (if 4 ≤ p.val then 6 else 7) else laneState s l))
  ∧ (∀ (s : State) (p : Fin 6) (r w g : Nat), lanesIn s p 5 ≠ [] → (getTr s p).sel = some (r, w, g) → r ≠ 0 → r < 4 →
      portRate s p ≠ r → steppedOut s p = true →
      ∃ t : State, exec (.stepRate p) s = .next t ∧ portRate t p = r ∧ lanesBecome t p (laneState s)
        ∧ ∀ l ∈ enabledLanes s p, laneState s l = 5 → (getLn t l).cls = r ∧ (getLn t l).stepped = false
            ∧ rd t (A.LANE_STATUS l) F.LANE_STATUS_LOCKED = 0)
  ∧ (∀ (s : State) (p : Fin 6) (r w g : Nat), (getTr s p).sel = some (r, w, g) → r ≠ 0 → portRate s p ≠ r → steppedOut s p = false →
      exec (.stepRate p) s = .next s)
  ∧ (∀ (s : State) (p : Fin 6) (r w g : Nat), lanesIn s p 5 ≠ [] → (getTr s p).sel = some (r, w, g) → r ≠ 0 →
      (groupRx s p).all (fun l => (getLn s l).stepped) = false → portMay s p →
      ∃ t : State, exec (.stepFailed p) s = .next t ∧ retriedAt s t p 2 ∧ (getTr t p).limit = r - 1)
  ∧ (∀ (s : State) (l : Fin 112) (q : BitVec 6), 32 ≤ l.val → l.val < 48 → lanesIn s (l / 8) 6 ≠ [] → (getLn s l).peerDone = false →
      tapsGood s l → q.toNat % 4 ≠ 3 → q.toNat / 4 % 4 ≠ 3 → q.toNat / 16 ≠ 3 →
      ∃ t : State, exec (.adaptRequest l q) s = .next t ∧ tapsGood t l)
  ∧ (∀ (s : State) (l : Fin 112), 32 ≤ l.val → l.val < 48 → lanesIn s (l / 8) 6 ≠ [] → (getLn s l).peerDone = false →
      (getLn s l).coefSts.toNat % 4 = 0 →
      ∃ t : State, exec (.adaptRequest l 1) s = .next t
        ∧ (let a := A.LANE_TAPS l
           let ok := rd s a F.LANE_TAPS_PRE < 15 ∧ rd s a F.LANE_TAPS_PRE + rd s a F.LANE_TAPS_MAIN + rd s a F.LANE_TAPS_POST < 63
           rd t a F.LANE_TAPS_PRE = (if ok then rd s a F.LANE_TAPS_PRE + 1 else rd s a F.LANE_TAPS_PRE)
             ∧ (getLn t l).coefSts.toNat % 4 = (if ok then 1 else 3)
             ∧ rd t a F.LANE_TAPS_MAIN = rd s a F.LANE_TAPS_MAIN ∧ rd t a F.LANE_TAPS_POST = rd s a F.LANE_TAPS_POST))
  ∧ (∀ (s : State) (l : Fin 112) (q : BitVec 6), (getLn s l).peerDone = true → exec (.adaptRequest l q) s = .next s)
  ∧ (∀ (s : State) (p : Fin 6), lanesIn s p 6 ≠ [] → (groupSel s p).all (fun j => (getLn s (8 * p.val + j)).peerDone) = true →
      (groupRx s p).all (fun l => (getLn s l).search.tap == 3) = true →
      ∃ t : State, exec (.adapt p) s = .next t
        ∧ lanesBecome t p (fun l => if (groupRx s p).contains l then 7 else laneState s l))
  ∧ (∀ (s : State) (p : Fin 6), lanesIn s p 6 ≠ [] →
      ∃ t : State, exec (.adaptTimeout p) s = .next t ∧ rd t (A.LANE_STATUS (8 * p.val)) F.LANE_STATUS_ADAPT_TIMEOUT = 1
        ∧ lanesBecome t p (fun l => if (groupRx s p).contains l then 7 else laneState s l))
  ∧ (∀ (s : State) (p : Fin 6), lanesIn s p 7 ≠ [] → (getTr s p).aligned = true →
      ∃ t : State, exec (.deskew p) s = .next t ∧ lanesBecome t p (fun l => if (groupRx s p).contains l then 8 else laneState s l))
  ∧ (∀ (s : State) (p : Fin 6), lanesIn s p 8 ≠ [] → (getTr s p).readyOut = true → (getTr s p).readyIn = true →
      ((rateOf (portRate s p)).fec = true → (getTr s p).fec = true ∧ (getTr s p).txFec = true) →
      ∃ t : State, exec (.fecState p) s = .next t ∧ (getTr t p).limit = 3 ∧ lanesBecome t p (fun l => if (groupRx s p).contains l then 9 else laneState s l))
  ∧ (∀ (s : State) (p : Fin 6), portMay s p → (∃ l ∈ portLanes p, 2 ≤ laneState s l ∧ laneState s l ≤ 8) →
      ∃ t : State, exec (.bringUpTimeout p) s = .next t ∧ restartedAt t p 1)

/-- A port leaves UP, steps down, dozes and wakes; directions change power without a half-on state (R408, R420, R422,
R423, R424, R425, R426). PORT_LEAVE_UP of causes 1, 2, 3 and 9, RETRAIN and ELASTIC_ERROR take an UP port down and
restart it from SIGNAL with its polarities, its reversal and its rate cap. STEP_DOWN: a window within the limit
changes no lane; the second window above it lowers the cap below the rate in use and begins the step-down, or at rate
0 only reports. BALLAST moves the level of the buffer toward its middle, begins a step-down on the flag of the
neighbour, and ends one, leaving UP, when the fourth group with the flag has gone out. PORT_QUIET_ENTRY begins the
entry of a transmitter, PORT_QUIET_WAKE cancels it before electrical idle or wakes a quiet one with pages that have no
FEC; RX_QUIET_ENTRY and RX_QUIET_WAKE move the receiver; a failed resume leaves UP. DIRECTION_POWER_REQUEST begins a
change, or cancels an entry to QUIET that has not reached electrical idle, and DIRECTION_POWER_DONE ends it or, when
the request has changed, begins the next, with RESTART_MERGED for a wake. RX_AUTO_WAKE restarts the port with its
receiver ON. Where the rules leave a corner open, the model's choice of assumption log 17, 56, 93 is what is stated.
-/
def Obligations.PortsInUp : Prop :=
  (∀ (s : State) (p : Fin 6) (c : Fin 10), lanesIn s p 9 ≠ [] → portMay s p → (c = 1 ∨ c = 2 ∨ c = 3 ∨ c = 9) →
      ∃ t : State, exec (.portLeaveUp p c) s = .next t ∧ restartedAt t p 1 ∧ rd t (A.PORT_STATUS p) F.PORT_STATUS_STATE = 0
        ∧ rateCap t p = rateCap s p ∧ findingsKept s t p)
  ∧ (∀ (s : State) (p : Fin 6) (v : Reg), s.asleep = false → s.defaultsDue = false → lanesIn s p 9 ≠ [] → portMay s p → getFld v F.LANE_CTL_RETRAIN = 1 →
      ∃ t : State, exec (.retrain p v) s = .next t ∧ restartedAt t p 1 ∧ rd t (A.PORT_STATUS p) F.PORT_STATUS_STATE = 0
        ∧ rateCap t p = rateCap s p)
  ∧ (∀ (s : State) (p : Fin 6), lanesIn s p 9 ≠ [] → portMay s p →
      ∃ t : State, exec (.elasticError p) s = .next t ∧ restartedAt t p 1 ∧ rd t (A.PORT_STATUS p) F.PORT_STATUS_STATE = 0
        ∧ rd t (A.LANE_STATUS (8 * p.val)) F.LANE_STATUS_ELASTIC_ERR = 1 ∧ rateCap t p = rateCap s p ∧ findingsKept s t p)
  ∧ (∀ (s : State) (p : Fin 6) (errs : List Nat) (bad e : Nat), e = windowErrors s p errs bad → lanesIn s p 9 ≠ [] →
      (rd s (A.LANE_CTL (8 * p.val)) F.LANE_CTL_STEP_LIMIT = 0 ∨ e ≤ 64 * rd s (A.LANE_CTL (8 * p.val)) F.LANE_CTL_STEP_LIMIT
        ∨ (getTr s p).above = false ∨ portRate s p = 0 ∨ (getTr s p).stepDown ≠ 0) →
      ∃ t : State, exec (.stepDown p ⟨errs, bad⟩) s = .next t ∧ lanesBecome t p (laneState s) ∧ rateCap t p = rateCap s p
        ∧ portRate t p = portRate s p
        ∧ ((getTr t p).above = true ↔ (rd s (A.LANE_CTL (8 * p.val)) F.LANE_CTL_STEP_LIMIT ≠ 0
            ∧ 64 * rd s (A.LANE_CTL (8 * p.val)) F.LANE_CTL_STEP_LIMIT < e ∧ (getTr s p).stepDown = 0 ∧ (getTr s p).above = false)))
  ∧ (∀ (s : State) (p : Fin 6) (errs : List Nat) (bad e : Nat), e = windowErrors s p errs bad → lanesIn s p 9 ≠ [] →
      rd s (A.LANE_CTL (8 * p.val)) F.LANE_CTL_STEP_LIMIT ≠ 0 → (getTr s p).stepDown = 0 →
      64 * rd s (A.LANE_CTL (8 * p.val)) F.LANE_CTL_STEP_LIMIT < e → (getTr s p).above = true → portRate s p ≠ 0 →
      ∃ t : State, exec (.stepDown p ⟨errs, bad⟩) s = .next t ∧ lanesBecome t p (laneState s) ∧ rateCap t p = portRate s p - 1
        ∧ (getTr t p).stepDown = 5 ∧ (getTr t p).above = false)
  ∧ (∀ (s : State) (p : Fin 6) (k : Fin 65) (g : BallastGroup), streamLanes s p = [] → exec (.ballast p k g) s = .next s)
  ∧ (∀ (s : State) (p : Fin 6) (k : Fin 65) (g : BallastGroup), streamLanes s p ≠ [] → dirState s (8 * p.val) false = 0 →
      rd s (A.PORT_CTL p) F.PORT_CTL_HAIRPIN ≠ 1 → (getTr s p).stepDown ≠ 1 → (getTr s p).fec = false ∨ g.atStart = true →
      (g.flags.toNat < 8 ∨ portRate s p = 0 ∨ (getTr s p).stepDown ≠ 0) →
      ∃ t : State, exec (.ballast p k g) s = .next t ∧ t.regs = s.regs
        ∧ (getTr t p).elastic = (if 48 < k.val then k.val - (streamLanes s p).length
            else if k.val < 16 then k.val + (streamLanes s p).length else k.val)
        ∧ ((getTr t p).quietNext = true ↔ (getTr s p).quietNext = true ∨ 4 ≤ g.flags.toNat % 8)
        ∧ ((getTr t p).readyIn = true ↔ (getTr s p).readyIn = true ∨ 2 ≤ g.flags.toNat % 4))
  ∧ (∀ (s : State) (p : Fin 6) (k : Fin 65) (g : BallastGroup), lanesIn s p 9 ≠ [] → dirState s (8 * p.val) false = 0 →
      rd s (A.PORT_CTL p) F.PORT_CTL_HAIRPIN ≠ 1 → (getTr s p).stepDown = 0 → (getTr s p).fec = false ∨ g.atStart = true →
      8 ≤ g.flags.toNat → portRate s p ≠ 0 →
      ∃ t : State, exec (.ballast p k g) s = .next t ∧ lanesBecome t p (laneState s) ∧ rateCap t p = portRate s p - 1
        ∧ (getTr t p).stepDown ≠ 0)
  ∧ (∀ (s : State) (p : Fin 6) (k : Fin 65) (g : BallastGroup), lanesIn s p 9 ≠ [] → portMay s p → (getTr s p).stepDown = 1 →
      (getTr s p).fec = false ∨ g.atStart = true →
      ∃ t : State, exec (.ballast p k g) s = .next t ∧ restartedAt t p 1 ∧ rateCap t p = rateCap s p
        ∧ rd t (A.LANE_STATUS (8 * p.val)) F.LANE_STATUS_STEPPED_DOWN = 1 ∧ rd t (A.PORT_STATUS p) F.PORT_STATUS_STATE = 0)
  ∧ (∀ (s : State) (p : Fin 6) (auto : Bool), lanesIn s p 9 ≠ [] → dirState s (8 * p.val) true = 0 → portTraffic s p = false →
      tripped s = false →
      (if auto then rd s (A.LANE_PWR (8 * p.val)) F.LANE_PWR_AUTO_US ≠ 0 else dirReq s (8 * p.val) true = 1) →
      ∃ t : State, exec (.portQuietEntry p auto) s = .next t ∧ dirState t (8 * p.val) true = 3 ∧ (getLn t (8 * p.val)).nextTx = some 1
        ∧ (getLn t (8 * p.val)).idleTx = false ∧ lanesBecome t p (laneState s))
  ∧ (∀ (s : State) (p : Fin 6), lanesIn s p 9 ≠ [] → portTraffic s p = true → tripped s = false → dirState s (8 * p.val) true = 1 →
      ∃ t : State, exec (.portQuietWake p) s = .next t ∧ dirState t (8 * p.val) true = 0 ∧ lanesBecome t p (laneState s)
        ∧ (getTr t p).txPage = 0 ∧ (getTr t p).txFec = false ∧ (getTr t p).wakePages = 5)
  ∧ (∀ (s : State) (p : Fin 6), lanesIn s p 9 ≠ [] → portTraffic s p = true → tripped s = false → dirState s (8 * p.val) true = 3 →
      (getLn s (8 * p.val)).nextTx = some 1 → (getLn s (8 * p.val)).idleTx = false →
      ∃ t : State, exec (.portQuietWake p) s = .next t ∧ dirState t (8 * p.val) true = 0 ∧ (getLn t (8 * p.val)).nextTx = none
        ∧ lanesBecome t p (laneState s))
  ∧ (∀ (s : State) (p : Fin 6), lanesIn s p 9 ≠ [] → dirState s (8 * p.val) false = 0 → (getTr s p).quietNext = true →
      ∃ t : State, exec (.rxQuietEntry p) s = .next t ∧ dirState t (8 * p.val) false = 1 ∧ (getTr t p).quietNext = false
        ∧ lanesBecome t p (laneState s) ∧ ∀ l ∈ lanesIn s p 9, rd t (A.LANE_STATUS l) F.LANE_STATUS_LOS = 1)
  ∧ (∀ (s : State) (p : Fin 6), lanesIn s p 9 ≠ [] → dirState s (8 * p.val) false = 1 → tripped s = false →
      (∃ t : State, exec (.rxQuietWake p true) s = .next t ∧ dirState t (8 * p.val) false = 0 ∧ (getTr t p).fec = false
          ∧ lanesBecome t p (laneState s))
        ∧ (portMay s p → ∃ t : State, exec (.rxQuietWake p false) s = .next t ∧ restartedAt t p 1
            ∧ rd t (A.PORT_STATUS p) F.PORT_STATUS_STATE = 0))
  ∧ (∀ (s : State) (l : Fin 112) (v : Reg) (tx : Bool) (q : Nat), s.asleep = false → s.defaultsDue = false → pwrLane s l = l →
      (if l.val < 48 then portMay s (l / 8) ∧ lanesIn s (l / 8) 9 = [] else laneState s l ≠ 0) →
      q = getFld v (if tx then F.LANE_PWR_TX_REQ else F.LANE_PWR_RX_REQ) → q ≠ 3 → dirState s l tx ≠ 3 →
      ∃ t : State, exec (.directionPowerRequest l v) s = .next t ∧ dirReq t l tx = q
        ∧ (if dirState s l tx = q then dirState t l tx = q
           else dirState t l tx = 3 ∧ (if tx then (getLn t l).nextTx else (getLn t l).nextRx) = some q))
  ∧ (∀ (s : State) (l : Fin 112) (v : Reg) (tx : Bool) (q : Nat), s.asleep = false → s.defaultsDue = false → pwrLane s l = l →
      (if l.val < 48 then portMay s (l / 8) ∧ lanesIn s (l / 8) 9 = [] else laneState s l ≠ 0) →
      q = getFld v (if tx then F.LANE_PWR_TX_REQ else F.LANE_PWR_RX_REQ) → q ≠ 3 → dirState s l tx = 3 →
      ∃ t : State, exec (.directionPowerRequest l v) s = .next t ∧ dirReq t l tx = q
        ∧ (if q = 0 ∧ (if tx then (getLn s l).nextTx else (getLn s l).nextRx) = some 1
              ∧ (if tx then (getLn s l).idleTx else (getLn s l).idleRx) = false then
            dirState t l tx = 0 ∧ (if tx then (getLn t l).nextTx else (getLn t l).nextRx) = none
           else dirState t l tx = 3
            ∧ (if tx then (getLn t l).nextTx else (getLn t l).nextRx) = (if tx then (getLn s l).nextTx else (getLn s l).nextRx)))
  ∧ (∀ (s : State) (p : Fin 6) (l : Fin 112) (v : Reg), s.asleep = false → s.defaultsDue = false → l.val = 8 * p.val → portMay s p → lanesIn s p 9 ≠ [] →
      getFld v F.LANE_PWR_TX_REQ = 2 → dirState s l true = 0 →
      ∃ t : State, exec (.directionPowerRequest l v) s = .next t ∧ dirState t l true = 3 ∧ (getLn t l).nextTx = some 2
        ∧ (∀ m ∈ portLanes p, laneState t m = if laneEn t m then 1 else 0) ∧ rd t (A.PORT_STATUS p) F.PORT_STATUS_STATE = 0)
  ∧ (∀ (s : State) (l : Fin 112) (tx : Bool) (q : Nat), dirState s l tx = 3 → tripped s = false → q < 3 →
      (if tx then (getLn s (pwrLane s l)).nextTx else (getLn s (pwrLane s l)).nextRx) = some q → (l.val < 48 → portMay s (l / 8)) →
      (q ≠ 0 → (if tx then (getLn s (pwrLane s l)).idleTx else (getLn s (pwrLane s l)).idleRx) = true) →
      ∃ t : State, exec (.directionPowerDone l tx) s = .next t
        ∧ (dirReq s l tx = q → dirState t l tx = q
            ∧ (if tx then (getLn t (pwrLane s l)).nextTx else (getLn t (pwrLane s l)).nextRx) = none)
        ∧ (dirReq s l tx ≠ q → dirState t l tx = 3
            ∧ (if tx then (getLn t (pwrLane s l)).nextTx else (getLn t (pwrLane s l)).nextRx) = some (dirReq s l tx)
            ∧ (dirReq s l tx = 0 → rd t (A.LANE_STATUS (pwrLane s l)) F.LANE_STATUS_RESTART_MERGED = 1)))
  ∧ (∀ (s : State) (p : Fin 6), dirState s (8 * p.val) false = 2 → rd s (A.LANE_PWR (8 * p.val)) F.LANE_PWR_RX_AUTO = 1 →
      portMay s p → tripped s = false →
      ∃ t : State, exec (.rxAutoWake p) s = .next t ∧ t.asleep = false ∧ dirState t (8 * p.val) false = 0
        ∧ (∀ l ∈ portLanes p, laneState t l = if laneEn t l then 1 else 0))

namespace Sys2Proof.Claims

open Sys2Proof.Machine

/-- Group `n` runs and its lanes are UP (spec 06 R242; spec 11 R427). -/
def groupGoes (s : State) (n : Nat) : Prop := gState s n = 1 ∧ gUp s n = true

/-- The receivers, the transmitters of group `n`'s lanes are ON (spec 11 R423). -/
def groupHears (s : State) (n : Nat) : Prop := rd s (A.LANE_PWR (groupLane n)) F.LANE_PWR_RX_STATE = 0
def groupTalks (s : State) (n : Nat) : Prop := rd s (A.LANE_PWR (groupLane n)) F.LANE_PWR_TX_STATE = 0

/-- The unpack side of group `n` may send: the group is ON or DRAINING, has its lane-word clock, and its transmitters are ON (spec 06
R241, R242; spec 11 R423). -/
def groupSends (s : State) (n : Nat) : Prop := (gState s n = 1 ∨ gState s n = 2) ∧ gClocked s n = true ∧ groupTalks s n

/-- The record under way is not a RAW32 record with a POISON word in it, which ends at once (spec 11 R429). -/
def notCut (s : State) (n : Nat) : Prop := (getG s n).txErr = false ∨ gRaw s n = false

/-- The slots that lane `l` receives are its ALIGN_PAT 8 times, in its polarity (spec 11 R429, R437). -/
def patternHeard (s : State) (l : Nat) (ws : List Word) : Prop :=
  ws.length = 8 ∧ ∀ w ∈ ws, (if (getLn s l).rxInv then ~~~w else w).toNat = rd s (A.LANE_TRAIN l) F.LANE_TRAIN_ALIGN_PAT

/-- Nothing of a read-word taken before is left to send (spec 06 R240). -/
def noRest (s : State) (n : Nat) : Prop := (getG s n).txRest.all (fun w => w.tag == .pad) = true

end Sys2Proof.Claims

/-- An edge lane comes up through SIGNAL, LOCK, ALIGN and UP, returns to SIGNAL on a loss, dozes, and keeps its taps
in limits (R419, R427, R428, R429, R434, R438). EDGE_LANE_ENABLE of EN 1 takes EDGE_RATE and MODE and starts in
SIGNAL, or stays DISABLED at a rate outside 125 to 3,200; of EN 0 the lane is DISABLED and, unless its group governs
them, its directions are OFF. LOCK (in EF66 with 64 valid headers in a row) leads to ALIGN, or with a lane-word clock
above 1.25 GHz sets WORD_RATE_ERR and stays. ALIGN leads to UP, in RAW32 only with ALIGN_PAT in 8 slots. REALIGN takes
a RAW32 lane from UP to ALIGN. EDGE_SIGNAL_LOSS returns to SIGNAL, with LOS and an automatic QUIET only for a lost
signal. EDGE_TX_QUIET and EDGE_TX_WAKE move TX between ON and QUIET. TAPS_WRITE writes values within the limits,
discards others, and discards any write on ports 4 and 5 during ADAPT. Where the rules leave a corner open, the
model's choice of assumption log 17, 56, 94, 95 is what is stated. -/
def Obligations.EdgeLanes : Prop :=
  (∀ (s : State) (l : Fin 112) (v : Reg), s.asleep = false → s.defaultsDue = false → 48 ≤ l.val → pwrLane s l = l → laneEn s l = false → getFld v F.LANE_CTL_EN = 1 →
      125 ≤ getFld v F.LANE_CTL_EDGE_RATE → getFld v F.LANE_CTL_EDGE_RATE ≤ 3200 → getFld v F.LANE_CTL_MODE ≠ 3 → s.boot.out = true →
      ∃ t : State, exec (.edgeLaneEnable l v) s = .next t ∧ laneState t l = 1
        ∧ (getLn t l).rate.toNat = getFld v F.LANE_CTL_EDGE_RATE ∧ (getLn t l).mode.toNat = getFld v F.LANE_CTL_MODE
        ∧ (∀ tx : Bool, dirReq s l tx ≠ 2 → dirState t l tx = if tripped s then 1 else 0))
  ∧ (∀ (s : State) (l : Fin 112) (v : Reg), s.asleep = false → s.defaultsDue = false → 48 ≤ l.val → pwrLane s l = l → laneEn s l = false → getFld v F.LANE_CTL_EN = 1 →
      (getFld v F.LANE_CTL_EDGE_RATE < 125 ∨ 3200 < getFld v F.LANE_CTL_EDGE_RATE) →
      ∃ t : State, exec (.edgeLaneEnable l v) s = .next t ∧ laneState t l = 0)
  ∧ (∀ (s : State) (l : Fin 112) (v : Reg), s.asleep = false → s.defaultsDue = false → 48 ≤ l.val → laneEn s l = true → getFld v F.LANE_CTL_EN = 0 →
      ∃ t : State, exec (.edgeLaneEnable l v) s = .next t ∧ laneState t l = 0
        ∧ (pwrLane s l = l → ∀ tx : Bool, dirState t l tx = 2))
  ∧ (∀ (s : State) (l : Fin 112) (bs : List Block), 48 ≤ l.val → laneState s l = 2 →
      (blockLane66 s l = true → 64 ≤ bs.length ∧ ((laneWires s l bs).drop (bs.length - 64)).all blockValid = true) →
      ∃ t : State, exec (.laneLock ⟨l, bs⟩) s = .next t
        ∧ (wordRateOk s l = true → laneState t l = 12)
        ∧ (wordRateOk s l = false → laneState t l = 2 ∧ rd t (A.LANE_STATUS l) F.LANE_STATUS_WORD_RATE_ERR = 1))
  ∧ (∀ (s : State) (l : Fin 112) (ws : List Word), 48 ≤ l.val → laneState s l = 12 →
      ((getLn s l).mode ≠ 0 ∨ patternHeard s l ws) →
      ∃ t : State, exec (.align l ws) s = .next t ∧ laneState t l = 9
        ∧ ((getLn s l).mode = 0 → rd t (A.LANE_STATUS l) F.LANE_STATUS_LOCKED = 1))
  ∧ (∀ (s : State) (l : Fin 112) (ws : List Word), 48 ≤ l.val → laneState s l = 12 → (getLn s l).mode = 0 →
      ¬ patternHeard s l ws →
      exec (.align l ws) s = .next s)
  ∧ (∀ (s : State) (l : Fin 112) (v : Reg), s.asleep = false → s.defaultsDue = false → 48 ≤ l.val → laneEn s l = true → getFld v F.LANE_CTL_EN = 1 →
      getFld v F.LANE_CTL_REALIGN = 1 → (getLn s l).mode = 0 → laneState s l = 9 →
      ∃ t : State, exec (.realign l v) s = .next t ∧ laneState t l = 12)
  ∧ (∀ (s : State) (l : Fin 112) (sig : Bool), 48 ≤ l.val → (laneState s l = 2 ∨ laneState s l = 12 ∨ laneState s l = 9) →
      ∃ t : State, exec (.edgeSignalLoss ⟨l, sig⟩) s = .next t ∧ laneState t l = 1 ∧ rd t (A.LANE_STATUS l) F.LANE_STATUS_LOCKED = 0
        ∧ rd t (A.LANE_STATUS l) F.LANE_STATUS_LOL = 1
        ∧ rd t (A.LANE_STATUS l) F.LANE_STATUS_LOS = (if sig then 1 else rd s (A.LANE_STATUS l) F.LANE_STATUS_LOS)
        ∧ dirState t l false = (if sig = true ∧ rd s (A.LANE_PWR (pwrLane s l)) F.LANE_PWR_RX_AUTO = 1 ∧ dirState s l false = 0 then 1
            else dirState s l false))
  ∧ (∀ (s : State) (l : Fin 112), 48 ≤ l.val → dirState s l true = 0 → rd s (A.LANE_PWR (pwrLane s l)) F.LANE_PWR_AUTO_US ≠ 0 →
      edgePending s l = false → (getG s ((l.val - 48) / 4)).unpack = [] → exec (.edgeTxQuiet l) s = .next (setDir s l true 1))
  ∧ (∀ (s : State) (l : Fin 112), 48 ≤ l.val → dirState s l true = 1 → edgePending s l = true → tripped s = false →
      ∃ t : State, exec (.edgeTxWake l) s = .next t ∧ dirState t l true = 0 ∧ t.regs = (setDir s l true 0).regs)
  ∧ (∀ (s : State) (l : Fin 112) (v : Reg), s.asleep = false → s.defaultsDue = false → 
      ∃ t : State, exec (.tapsWrite l v) s = .next t
        ∧ (let ok := tapsOk (getFld v F.LANE_TAPS_PRE) (getFld v F.LANE_TAPS_MAIN) (getFld v F.LANE_TAPS_POST) = true
             ∧ ¬(32 ≤ l.val ∧ l.val < 48 ∧ lanesIn s (l / 8) 6 ≠ [])
           (ok → rd t (A.LANE_TAPS l) F.LANE_TAPS_PRE = getFld v F.LANE_TAPS_PRE
              ∧ rd t (A.LANE_TAPS l) F.LANE_TAPS_MAIN = getFld v F.LANE_TAPS_MAIN
              ∧ rd t (A.LANE_TAPS l) F.LANE_TAPS_POST = getFld v F.LANE_TAPS_POST)
           ∧ (¬ok → t = s)))

/-- Edge groups pack records into read-words and send them out again; every command of a group completes (R236, R237,
R238, R239, R240, R241, R242, R433). The words that end a record of 1 to 16 bytes give exactly those bytes when they
are sent. PACK_LANE_WORD appends the read-words that the bytes complete; a refused one starts the dropping state;
DROPPING_EXIT stores the marker with the count, adds it to OVF_CNT and sets OVERFLOW. EDGE_RECORD_ERROR stores the
bytes so far and the marker with the error code. PACK_READ_SIDE_POP moves a read-word to the four wires.
UNPACK_WORD_ACCEPT fills a slot, UNPACK_PUSH pushes four, a full core refuses. Nothing arrives while the receivers are
not ON. UNPACK_RECORD_START starts a record; UNPACK_LANE_WORD gives the next lane words, the last ones with the record
end or, after POISON, the error termination and POISON_OUT (in RAW32 at once, the complement of ALIGN_PAT in every
slot that remains), keeps the words above the end of a record, and idles between records; UNPACK_UNDERRUN ends it in
error and discards the rest. GROUP_ENABLE, GROUP_DISABLE, GROUP_DRAIN_END and GROUP_OFF move a group through its
states. Where the rules leave a corner open, the model's choice of assumption log 56, 85 is what is stated. -/
def Obligations.EdgeGroups : Prop :=
  (∀ bs : List Byte, 1 ≤ bs.length → bs.length ≤ 16 →
      (recWords (endWord bs)).flatMap wordBytes = bs ∧ hasEnd (endWord bs) = true ∧ (endWord bs).length = 4)
  ∧ (∀ (s : State) (n : Fin 16) (bs : List Byte) (e : Bool), groupGoes s n → groupHears s n → (getG s n).dropped = 0 → bs ≠ [] →
      (bs.length = gBytes s n ∨ (bs.length < gBytes s n ∧ gRaw s n = false ∧ e = true)) →
      (let w := if gRaw s n then rawWords ((getG s n).asm ++ bs) (gRawRec s n) ((getG s n).recBytes / 16)
                else framedWords ((getG s n).asm ++ bs) e
       (getG s n).pack.length + w.1.length ≤ 256 →
       ∃ t : State, exec (.packLaneWord n (.bytes bs) e) s = .next t ∧ (getG t n).pack = (getG s n).pack ++ w.1.map (·.1)
         ∧ (getG t n).asm = w.2 ∧ rd t (A.FIFO_LEVEL (n.val / 4) (n.val % 4)) F.FIFO_LEVEL_IN_DEPTH
             = (if w.1 = [] then rd s (A.FIFO_LEVEL (n.val / 4) (n.val % 4)) F.FIFO_LEVEL_IN_DEPTH else (getG t n).pack.length)))
  ∧ (∀ (s : State) (n : Fin 16) (bs : List Byte), groupGoes s n → groupHears s n → (getG s n).dropped = 0 → (getG s n).pack.length = 256 →
      bs.length = gBytes s n → gRaw s n = false → 1 ≤ ((getG s n).asm ++ bs).length → ((getG s n).asm ++ bs).length ≤ 16 →
      ∃ t : State, exec (.packLaneWord n (.bytes bs) true) s = .next t ∧ (getG t n).pack = (getG s n).pack ∧ (getG t n).dropped = 1
        ∧ (getG t n).atEnd = true ∧ rd t (gStatus n) F.FIFO_STATUS_DROPPING = 1)
  ∧ (∀ (s : State) (n : Fin 16) (x : LaneWords) (e : Bool), (¬ groupHears s n ∨ gUp s n = false ∨ gState s n = 0 ∨ gState s n = 3) →
      exec (.packLaneWord n x e) s = .next s)
  ∧ (∀ (s : State) (n : Fin 16), (getG s n).dropped ≠ 0 → (getG s n).atEnd = true → (getG s n).pack.length < 256 →
      ∃ t : State, exec (.droppingExit n) s = .next t
        ∧ (getG t n).pack = (getG s n).pack ++ [markerWord (gNoRec s n) (getG s n).dropped] ∧ (getG t n).dropped = 0
        ∧ rd t (gOvf n) F.OVF_CNT_COUNT = min (rd s (gOvf n) F.OVF_CNT_COUNT + (getG s n).dropped) (2 ^ 32 - 1)
        ∧ rd t (gStatus n) F.FIFO_STATUS_OVERFLOW = 1 ∧ rd t (gStatus n) F.FIFO_STATUS_DROPPING = 0)
  ∧ (∀ (s : State) (l : Fin 112) (c : Fin 5) (n : Nat), 48 ≤ l.val → n = (l.val - 48) / 4 → c.val ≠ 0 → (getG s n).inRec = true →
      gState s n = 1 → (l.val - 48) % 4 < gLanes s n → (getG s n).dropped = 0 → (getG s n).pack.length ≤ 254 →
      ∃ t : State, exec (.edgeRecordError l c) s = .next t
        ∧ (getG t n).pack = (getG s n).pack ++ (if (getG s n).asm = [] then [] else [dataWord (sliceBytes (getG s n).asm 0 16)])
            ++ [markerWord false c]
        ∧ (getG t n).asm = [] ∧ (getG t n).inRec = false
        ∧ rd t (A.LANE_FEC_CNT l) F.LANE_FEC_CNT_UNCORR = min (rd s (A.LANE_FEC_CNT l) F.LANE_FEC_CNT_UNCORR + 1) (2 ^ 32 - 1))
  ∧ (∀ (s : State) (n : Fin 16) (w : List SWord) (rest : List (List SWord)), (gState s n = 1 ∨ gState s n = 2) →
      (getG s n).pack = w :: rest → (getG s n).readSide.any Option.isSome = false →
      ∃ t : State, exec (.packReadSidePop n) s = .next t ∧ (getG t n).pack = rest ∧ (getG t n).readSide = w.map some)
  ∧ (∀ (s : State) (n : Fin 16) (w : Fin 4) (x : SWord) (src : Option Nat), gState s n = 1 → smGet none (getG s n).slots w = none →
      tileRuns s (edgeTile n) = true → engaged s (tileField (edgeTile n)) = false →
      driverWord (getT s (edgeTile n)) (6 * edgeSide n + w.val) = some (x, src) →
      ∃ t : State, exec (.unpackWordAccept n w) s = .next t
        ∧ smGet none (getG t n).slots w = (if x.tag = .wave then none else some x) ∧ (getG t n).unpack = (getG s n).unpack)
  ∧ (∀ (s : State) (n : Fin 16) (ws : List SWord), (gState s n = 1 ∨ gState s n = 2) →
      [0, 1, 2, 3].filterMap (fun w => smGet none (getG s n).slots w) = ws → ws.length = 4 →
      ((getG s n).unpack.length < 256 →
        ∃ t : State, exec (.unpackPush n) s = .next t ∧ (∀ w : Nat, smGet none (getG t n).slots w = none)
          ∧ (getG t n).unpack = (if (getG s n).discard = false then (getG s n).unpack ++ [ws]
              else if hasEnd ws = false ∨ (wordsAbove ws).all (fun w => w.tag == .pad) = true then (getG s n).unpack
              else (getG s n).unpack ++ [List.replicate (ws.length - (wordsAbove ws).length) ⟨0, .pad⟩ ++ wordsAbove ws])
          ∧ ((getG t n).discard = true ↔ (getG s n).discard = true ∧ hasEnd ws = false))
      ∧ (256 ≤ (getG s n).unpack.length → exec (.unpackPush n) s = .next s))
  ∧ (∀ (s : State) (n : Fin 16), (gState s n = 1 ∨ gState s n = 2) → (getG s n).sending = false → unpackHeld (getG s n) ≠ [] →
      gNoRec s n = false →
      groupTalks s n →
      ((unpackHeld (getG s n)).any hasEnd = true ∨ (1 ≤ rd s (gCtl n) F.GRP_CTL_START_LEVEL
        ∧ rd s (gCtl n) F.GRP_CTL_START_LEVEL ≤ (getG s n).unpack.length)) →
      ∃ t : State, exec (.unpackRecordStart n) s = .next t ∧ (getG t n).sending = true ∧ (getG t n).unpack = (getG s n).unpack)
  ∧ (∀ (s : State) (n : Fin 16), groupSends s n → gNoRec s n = false → (getG s n).sending = true → (getG s n).txEnd = false →
      notCut s n → gBytes s n ≤ (getG s n).txBytes.length →
      ∃ t : State, exec (.unpackLaneWord n) s = .next t ∧ (getG t n).lastOut = (getG s n).txBytes.take (gBytes s n)
        ∧ (getG t n).txBytes = (getG s n).txBytes.drop (gBytes s n) ∧ (getG t n).outKind = 1 ∧ (getG t n).sending = true)
  ∧ (∀ (s : State) (n : Fin 16) (ws : List SWord) (rest : List (List SWord)), groupSends s n → noRest s n → gNoRec s n = false →
      (getG s n).sending = true → (getG s n).txEnd = false → (getG s n).txErr = false → (getG s n).txBytes = [] →
      (getG s n).unpack = ws :: rest → ws.all (fun w => w.tag == .data) = true → ws.length = 4 → gBytes s n ≤ 16 →
      ∃ t : State, exec (.unpackLaneWord n) s = .next t ∧ (getG t n).unpack = rest ∧ (getG t n).outKind = 1
        ∧ (getG t n).lastOut ++ (getG t n).txBytes = ws.flatMap wordBytes ∧ (getG t n).lastOut.length = gBytes s n)
  ∧ (∀ (s : State) (n : Fin 16), groupSends s n → gNoRec s n = false → (getG s n).sending = true → (getG s n).txEnd = true →
      notCut s n → (getG s n).txBytes.length ≤ gBytes s n →
      ∃ t : State, exec (.unpackLaneWord n) s = .next t ∧ (getG t n).lastOut = (getG s n).txBytes ∧ (getG t n).sending = false
        ∧ (getG t n).outKind = (if (getG s n).txErr then 3 else 2)
        ∧ rd t (gStatus n) F.FIFO_STATUS_POISON_OUT
            = (if (getG s n).txErr then 1 else rd s (gStatus n) F.FIFO_STATUS_POISON_OUT))
  ∧ (∀ (s : State) (n : Fin 16) (ws : List SWord) (rest : List (List SWord)), groupSends s n → noRest s n → gNoRec s n = false →
      (getG s n).sending = true → (getG s n).txEnd = false → (getG s n).txErr = false → (getG s n).txBytes = [] →
      (getG s n).unpack = ws :: rest → hasEnd ws = true → ((recWords ws).flatMap wordBytes).length ≤ gBytes s n →
      (gRaw s n = false ∨ (recWords ws).any (fun w => w.tag == .poison) = false) →
      ∃ t : State, exec (.unpackLaneWord n) s = .next t ∧ (getG t n).unpack = rest ∧ (getG t n).sending = false
        ∧ (getG t n).lastOut = (recWords ws).flatMap wordBytes ∧ (getG t n).txRest = wordsAbove ws
        ∧ (getG t n).outKind = (if (recWords ws).any (fun w => w.tag == .poison) = true then 3 else 2))
  ∧ (∀ (s : State) (n : Fin 16), groupSends s n → gNoRec s n = false → (getG s n).sending = true → (getG s n).txErr = true →
      gRaw s n = true →
      ∃ t : State, exec (.unpackLaneWord n) s = .next t ∧ (getG t n).sending = false ∧ (getG t n).outKind = 3
        ∧ (getG t n).lastOut = patternBytes (raw32Error (lanePat s (groupLane n))) (16 * gRawRec s n - (getG s n).txSent)
        ∧ rd t (gStatus n) F.FIFO_STATUS_POISON_OUT = 1)
  ∧ (∀ (s : State) (n : Fin 16), groupSends s n → gNoRec s n = false → (getG s n).sending = true → (getG s n).txEnd = false →
      notCut s n → unpackHeld (getG s n) = [] → (getG s n).txBytes.length < gBytes s n →
      ∃ t : State, exec (.unpackLaneWord n) s = .next t ∧ (getG t n).sending = true ∧ (getG t n).lastOut = (getG s n).lastOut
        ∧ (getG t n).txBytes = (getG s n).txBytes)
  ∧ (∀ (s : State) (n : Fin 16), groupSends s n → gNoRec s n = false → (getG s n).sending = false →
      ∃ t : State, exec (.unpackLaneWord n) s = .next t ∧ (getG t n).outKind = 0 ∧ (getG t n).lastOut = []
        ∧ (getG t n).unpack = (getG s n).unpack)
  ∧ (∀ (s : State) (n : Fin 16), (getG s n).sending = true → (getG s n).txEnd = false → unpackHeld (getG s n) = [] →
      (getG s n).txBytes.length < gBytes s n →
      ∃ t : State, exec (.unpackUnderrun n) s = .next t ∧ (getG t n).sending = false ∧ (getG t n).discard = true
        ∧ (getG t n).outKind = 3 ∧ rd t (gStatus n) F.FIFO_STATUS_UNDERRUN = 1
        ∧ ((getG s n).txErr = true → rd t (gStatus n) F.FIFO_STATUS_POISON_OUT = 1)
        ∧ rd t (gUnf n) F.UNF_CNT_COUNT = min (rd s (gUnf n) F.UNF_CNT_COUNT + 1) (2 ^ 32 - 1))
  ∧ (∀ (s : State) (n : Fin 16) (v : Reg), s.asleep = false → s.defaultsDue = false → getFld v F.GRP_CTL_EN = 1 →
      ∃ t : State, exec (.groupEnable n v) s = .next t ∧ gState t n = (if gState s n = 3 then 3 else 1)
        ∧ (getG t n).restart = (if gState s n = 3 then true else (getG s n).restart)
        ∧ (getG t n).pack = (getG s n).pack ∧ (getG t n).unpack = (getG s n).unpack
        ∧ (gState s n ≠ 0 → gLanes t n = gLanes s n ∧ gLaneBytes t n = gLaneBytes s n ∧ gRawRec t n = gRawRec s n))
  ∧ (∀ (s : State) (n : Fin 16) (v : Reg), s.asleep = false → s.defaultsDue = false → getFld v F.GRP_CTL_EN = 0 →
      ∃ t : State, exec (.groupDisable n v) s = .next t ∧ gState t n = (if gState s n = 1 then 2 else gState s n)
        ∧ (getG t n).pack = (getG s n).pack ∧ (getG t n).unpack = (getG s n).unpack)
  ∧ (∀ (s : State) (n : Fin 16), gState s n = 2 → ∃ t : State, exec (.groupDrainEnd n true) s = .next t ∧ gState t n = 3
      ∧ (getG t n) = getG s n)
  ∧ (∀ (s : State) (n : Fin 16), gState s n = 3 →
      ∃ t : State, exec (.groupOff n) s = .next t ∧ (getG t n).pack = [] ∧ (getG t n).unpack = []
        ∧ gState t n = (if (getG s n).restart then 1 else 0)
        ∧ ((getG s n).restart = true → rd t (gStatus n) F.FIFO_STATUS_RESTART_MERGED = 1)
        ∧ rd t (gOvf n) F.OVF_CNT_COUNT = min (rd s (gOvf n) F.OVF_CNT_COUNT + (getG s n).pack.length + (unpackHeld (getG s n)).length
            + (getG s n).dropped) (2 ^ 32 - 1))

namespace Sys2Proof.Claims

open Sys2Proof.Machine

/-- One posted write of the shadow of ring `r` with POLL_STATE `p` follows the earlier ones (spec 08 R297). -/
def toldShadow (s t : State) (r p : Nat) : Prop :=
  ∃ w : HostWrite, t.host.writes = s.host.writes ++ [w] ∧ w.fn = ringFn s r ∧ w.addr = (dbAddr s r + 64) % 2 ^ 64
    ∧ w.bytes.length = 64 ∧ w.bytes.getD 10 0 = BitVec.ofNat 8 p

/-- A doorbell record that R298 accepts: the ring's generation, and counts within the rings' sizes. -/
def goodRecord (s : State) (r : Nat) (bs : List Byte) : Prop :=
  leAt bs 8 2 = rd s (A.RING_CTL r) F.RING_CTL_GEN
    ∧ (BitVec.ofNat 32 (leAt bs 0 4) - BitVec.ofNat 32 (rd s (A.RING_STATUS r) F.RING_STATUS_SQ_CONS)).toNat ≤ 2 ^ sqLog s r
    ∧ ((getRing s r).cqProd - BitVec.ofNat 32 (leAt bs 4 4)).toNat ≤ 2 ^ cqLog s r

/-- The link is up and its Maximum Payload Size lets a shadow or a completion go out as one write (spec 08 R286). -/
def linkReady (s : State) : Prop := linkUp s = true ∧ 64 ≤ s.host.pcie.mps

/-- Such a record announces descriptors, or CQ_CONS has advanced while completions wait (spec 08 R303). -/
def findsWork (s : State) (r : Nat) (bs : List Byte) : Prop :=
  BitVec.ofNat 32 (leAt bs 0 4) ≠ BitVec.ofNat 32 (rd s (A.RING_STATUS r) F.RING_STATUS_SQ_CONS)
    ∨ ((getRing s r).out ≠ [] ∧ BitVec.ofNat 32 (leAt bs 4 4) ≠ (getRing s r).cqCons)

/-- A completion of descriptor `id` waits in ring `r` with status, BYTES_DONE and AUX (spec 08 R321). -/
def finishedAs (t : State) (r id : Nat) (st : Status) (bytes aux : Nat) : Prop :=
  ∃ c ∈ (getRing t r).out, c.desc = some id ∧ c.status = st ∧ c.bytes = bytes ∧ c.aux = aux

/-- A completion entry is due also when the status is OK (spec 08 R308). -/
def wantsComp (d : Desc) : Prop := bit (dFlags d) 1 = false

/-- Ring `r`'s port can send a request of `n` bytes to an address of a device: it has a path and a landing slot (spec 07 R265). -/
def maySend (s : State) (r : Nat) (dev : BitVec 16) (a n : Nat) : Prop :=
  1 ≤ n ∧ n ≤ 64 ∧ (∀ st : Status, targetOf s dev a ≠ .fail st) ∧ freeTag s (ringPort r) 0 256 ≠ none

/-- The request that left the port of ring `r` last is of `n` bytes to this address (spec 07 R250). -/
def asked (s t : State) (r : Nat) (a : Nat) (w : Bool) (n : Nat) : Prop :=
  ∃ f : Flit, (getEp t (ringPort r)).outReq = (getEp s (ringPort r)).outReq ++ [f] ∧ f.net = .req
    ∧ f.op = (if w then 1 else 0) ∧ f.addr = BitVec.ofNat 48 a ∧ f.len.toNat + 1 = n ∧ f.src.toNat = ringPort r

/-- Ring `r` holds descriptor `id` as `q` says. -/
def descAs (t : State) (r id : Nat) (q : Desc → Prop) : Prop := ∃ e ∈ (getRing t r).descs, e.id = id ∧ q e

end Sys2Proof.Claims

/-- A ring is enabled, disabled, drained and shut down; its slot registers take writes only while it is OFF (R290,
R297, R299, R300, R301, R302). While the engine clock runs and, where something is written, the link is up with a
payload of 64 bytes or more: RING_ENABLE with a valid vector turns an OFF ring ON with both counts 0, no error,
polling, and writes its shadow; with an invalid one it stays OFF and CFG_REFUSED is set. RING_DISABLE sends it to
DRAINING, where each wait ends with ABORTED; an enable in DRAINING brings it back with nothing lost; in ISOLATING it
waits for the end. RING_SLOT_WRITE of a base, size or doorbell register takes effect in OFF only; elsewhere
CFG_IGNORED is set when it would have changed something. RING_DRAIN_END leads to ISOLATING when nothing is in progress
or the limit has passed; waits end with ABORTED, and what had not started stays. RING_OFF writes ABORTED for each
descriptor left, as room lasts, then the shadow with POLL_STATE OFF, and the ring is OFF and empty. Where the rules
leave a corner open, the model's choice of assumption log 32, 62, 75 is what is stated. -/
def Obligations.RingLife : Prop :=
  (∀ (s : State) (r : Fin 4096) (v : Reg), s.asleep = false → s.defaultsDue = false → ringState s r = 0 → linkReady s → getFld v F.RING_CTL_EN = 1 →
      vectorOk s r (getFld v F.RING_CTL_VECTOR) = true →
      ∃ t : State, exec (.ringEnable r v) s = .next t ∧ ringState t r = 1 ∧ rd t (A.RING_CTL r) F.RING_CTL_EN = 1
        ∧ rd t (A.RING_STATUS r) F.RING_STATUS_SQ_CONS = 0 ∧ rd t (A.RING_STATUS r) F.RING_STATUS_ERR = 0
        ∧ getRing t r = { interval := pollMin s, poll := 0 } ∧ toldShadow s t r 0)
  ∧ (∀ (s : State) (r : Fin 4096) (v : Reg), s.asleep = false → s.defaultsDue = false → ringState s r = 0 → getFld v F.RING_CTL_EN = 1 →
      vectorOk s r (getFld v F.RING_CTL_VECTOR) = false →
      ∃ t : State, exec (.ringEnable r v) s = .next t ∧ ringState t r = 0 ∧ t.host = s.host
        ∧ rd t (A.RING_STATUS r) F.RING_STATUS_CFG_REFUSED = 1)
  ∧ (∀ (s : State) (r : Fin 4096) (v : Reg), s.asleep = false → s.defaultsDue = false → ringState s r = 1 → getFld v F.RING_CTL_EN = 0 →
      ∃ t : State, exec (.ringDisable r v) s = .next t ∧ ringState t r = 2
        ∧ ∀ d ∈ (getRing s r).descs, d.started = true → d.finished = false → dOp d = 0x0B → completed t r d.id .aborted 0)
  ∧ (∀ (s : State) (r : Fin 4096) (v : Reg), s.asleep = false → s.defaultsDue = false → ringState s r = 2 → getFld v F.RING_CTL_EN = 1 →
      ∃ t : State, exec (.ringEnable r v) s = .next t ∧ ringState t r = 1 ∧ t.host = s.host)
  ∧ (∀ (s : State) (r : Fin 4096) (v : Reg), s.asleep = false → s.defaultsDue = false → ringState s r = 3 → getFld v F.RING_CTL_EN = 1 →
      ∃ t : State, exec (.ringEnable r v) s = .next t ∧ ringState t r = 3 ∧ getRing t r = { getRing s r with restart := true })
  ∧ (∀ (s : State) (r : Fin 4096) (k : Fin 8) (v : Reg) (a : Nat) (fs : List Fld), s.asleep = false → s.defaultsDue = false → k.val < 4 → a = A.RING_SQ_BASE r + 8 * k.val →
      regFields a = some fs →
      ∃ t : State, exec (.ringSlotWrite r k v) s = .next t ∧ t.host = s.host
        ∧ (ringState s r = 0 → getR t a = writeFlds true fs (getR s a) v)
        ∧ (ringState s r ≠ 0 → getR t a = getR s a
            ∧ (wouldChange (getR s a) v fs = true → rd t (A.RING_STATUS r) F.RING_STATUS_CFG_IGNORED = 1)))
  ∧ (∀ (s : State) (r : Fin 4096) (limit : Bool), s.asleep = false → ringState s r = 2 →
      (limit = true ∨ (getRing s r).descs.all (fun d => !d.started) = true) →
      ∃ t : State, exec (.ringDrainEnd r limit) s = .next t ∧ ringState t r = 3 ∧ (getRing t r).cqProd = (getRing s r).cqProd
        ∧ (getRing t r).descs.map (fun d => d.id) = (getRing s r).descs.map (fun d => d.id)
        ∧ (∀ d ∈ (getRing s r).descs, d.started = true → d.finished = false → dOp d = 0x0B → completed t r d.id .aborted 0)
        ∧ ((getRing s r).descs.all (fun d => !d.started) = true →
            (getRing t r).descs = (getRing s r).descs ∧ (getRing t r).out = (getRing s r).out))
  ∧ (∀ (s : State) (r : Fin 4096) (bs : List Byte) (n : Nat), s.asleep = false → ringState s r = 3 → linkReady s → (getRing s r).restart = false →
      goodRecord s r bs → (getRing s r).out = [] →
      n = ((getRing s r).descs.filter (fun d => !d.finished)).length →
      ((getRing s r).cqProd - BitVec.ofNat 32 (leAt bs 4 4)).toNat + n ≤ 2 ^ cqLog s r →
      ∃ t : State, exec (.ringOff r (.ok bs)) s = .next t ∧ ringState t r = 0 ∧ (getRing t r).descs = [] ∧ (getRing t r).out = []
        ∧ (getRing t r).poll = 2 ∧ (getRing t r).cqProd = (getRing s r).cqProd + BitVec.ofNat 32 n
        ∧ t.host.writes.length = s.host.writes.length + n + 1)
  ∧ (∀ (s : State) (r : Fin 4096) (res : HostRead), s.asleep = false → ringState s r = 3 → linkUp s = true → (getRing s r).restart = true →
      ∃ t : State, exec (.ringOff r res) s = .next t ∧ ringState t r = 1
        ∧ rd t (A.RING_STATUS r) F.RING_STATUS_RESTART_MERGED = 1)

/-- Rings poll, sleep and wake on a tug; descriptors are fetched, completions written, interrupts sent (R291, R296,
R298, R302, R303, R304, R305, R322, R326, R327). DOORBELL_POLL of an acceptable record takes its counts and sets the
interval: POLL_MIN when it finds work, else doubled up to POLL_MAX; another generation only sets STALE_GEN; a failed
read is a ring fault. RING_SLEEP puts an idle ring asleep and tells the shadow first, or back to POLLING when its read
finds work. TUG counts and wakes a sleeping ring. DESCRIPTOR_FETCH takes the posted descriptors in order and advances
SQ_CONS. COMPLETION_WRITE writes the first waiting entry at its slot, then the shadow, and counts it for the vector;
without room it waits; a failed write is a ring fault. MSIX_MESSAGE sends a due message as a posted write to its table
entry's address or, masked, sets the pending bit; MSIX_UNMASK writes the table entry, and an unmasked vector sends
what pends. Where the rules leave a corner open, the model's choice of assumption log 31, 55 is what is stated. -/
def Obligations.DoorbellsAndCompletions : Prop :=
  (∀ (s : State) (r : Fin 4096) (bs : List Byte), s.asleep = false → ringState s r = 1 → (getRing s r).poll = 0 → linkUp s = true → goodRecord s r bs →
      ∃ t : State, exec (.doorbellPoll r (.ok bs)) s = .next t ∧ ringState t r = 1
        ∧ (getRing t r).sqProd = BitVec.ofNat 32 (leAt bs 0 4) ∧ (getRing t r).cqCons = BitVec.ofNat 32 (leAt bs 4 4)
        ∧ (findsWork s r bs → (getRing t r).interval = pollMin s)
        ∧ (¬findsWork s r bs → (getRing t r).interval = min (pollMax s) (2 * (getRing s r).interval)))
  ∧ (∀ (s : State) (r : Fin 4096) (bs : List Byte), s.asleep = false → ringState s r = 1 → (getRing s r).poll = 0 → linkUp s = true →
      leAt bs 8 2 ≠ rd s (A.RING_CTL r) F.RING_CTL_GEN →
      ∃ t : State, exec (.doorbellPoll r (.ok bs)) s = .next t ∧ rd t (A.RING_STATUS r) F.RING_STATUS_STALE_GEN = 1
        ∧ ringState t r = 1 ∧ (getRing t r).sqProd = (getRing s r).sqProd ∧ (getRing t r).cqCons = (getRing s r).cqCons)
  ∧ (∀ (s : State) (r : Fin 4096) (e : HostFail), s.asleep = false → ringState s r = 1 → (getRing s r).poll = 0 → linkUp s = true →
      ∃ t : State, exec (.doorbellPoll r (.fail e)) s = .next t ∧ ringState t r = 2 ∧ rd t (A.RING_CTL r) F.RING_CTL_EN = 0
        ∧ rd t (A.RING_STATUS r) F.RING_STATUS_ERR = statusCode (hostFailStatus e))
  ∧ (∀ (s : State) (r : Fin 4096) (bs : List Byte), s.asleep = false → ringState s r = 1 → (getRing s r).poll = 0 → linkReady s →
      rd s A.HIF_TUG_CTL F.HIF_TUG_CTL_SLEEP_EN = 1 → (getRing s r).descs.any (fun d => d.started) = false →
      (getRing s r).out = [] → goodRecord s r bs →
      ∃ t : State, exec (.ringSleep r (.ok bs)) s = .next t
        ∧ (¬findsWork s r bs → (getRing t r).poll = 1 ∧ rd t (A.RING_STATUS r) F.RING_STATUS_ASLEEP = 1 ∧ toldShadow s t r 1)
        ∧ (findsWork s r bs → (getRing t r).poll = 0 ∧ rd t (A.RING_STATUS r) F.RING_STATUS_ASLEEP = 0
            ∧ (getRing t r).interval = pollMin s ∧ t.host.writes.length = s.host.writes.length + 2))
  ∧ (∀ (s : State) (j : Fin 4096) (n : Nat), s.asleep = false → 1 ≤ n → n ≤ 8 →
      ∃ t : State, exec (.tug 0 j 0 n) s = .next t
        ∧ rd t A.HIF_TUG_CNT F.HIF_TUG_CNT_COUNT
            = min (rd s A.HIF_TUG_CNT F.HIF_TUG_CNT_COUNT + 1) (2 ^ F.HIF_TUG_CNT_COUNT.width - 1)
        ∧ (ringState s j = 1 → (getRing s j).poll = 1 → linkReady s → (getRing t j).poll = 0
            ∧ (getRing t j).interval = pollMin s ∧ toldShadow s t j 0)
        ∧ (ringState s j ≠ 1 → t.host = s.host))
  ∧ (∀ (s : State) (r : Fin 4096) (bs : List Byte) (c : BitVec 32) (n : Nat), s.asleep = false → ringState s r = 1 → (getRing s r).poll = 0 →
      linkReady s → c = BitVec.ofNat 32 (rd s (A.RING_STATUS r) F.RING_STATUS_SQ_CONS) →
      n = min (bs.length / 64) ((getRing s r).sqProd - c).toNat → n ≠ 0 →
      ∃ t : State, exec (.descriptorFetch r (.ok bs)) s = .next t
        ∧ (getRing t r).descs = (getRing s r).descs
            ++ (List.range n).map (fun k => { id := (c + BitVec.ofNat 32 k).toNat, bytes := sliceBytes bs (64 * k) 64 })
        ∧ rd t (A.RING_STATUS r) F.RING_STATUS_SQ_CONS = (c + BitVec.ofNat 32 n).toNat ∧ toldShadow s t r 0)
  ∧ (∀ (s : State) (r : Fin 4096) (c : Comp) (rest : List Comp), s.asleep = false → (ringState s r = 1 ∨ ringState s r = 2) → linkReady s →
      (getRing s r).out = c :: rest → c.words.length ≤ 3 → cqRoom s r (getRing s r) = true →
      ∃ (t : State) (w1 w2 : HostWrite), exec (.completionWrite r none) s = .next t ∧ t.host.writes = s.host.writes ++ [w1, w2]
        ∧ w1.fn = ringFn s r ∧ w1.bytes = compBytes s r (getRing s r) c
        ∧ w1.addr = (rd s (A.RING_CQ_BASE r) F.RING_CQ_BASE_ADDR * 4096 + 16 * ((getRing s r).cqProd.toNat % 2 ^ cqLog s r)) % 2 ^ 64
        ∧ (getRing t r).cqProd = (getRing s r).cqProd + 1 ∧ (getRing t r).out = rest
        ∧ (∀ id : Nat, c.desc = some id → ∀ d ∈ (getRing t r).descs, d.id ≠ id)
        ∧ (let key := 2048 * ringFn s r + rd s (A.RING_CTL r) F.RING_CTL_VECTOR
           smGet 0 t.msix.pend key = smGet 0 s.msix.pend key
             + (if c.counts ∧ rd s (A.RING_CTL r) F.RING_CTL_IRQ_EN = 1 then 1 else 0)))
  ∧ (∀ (s : State) (r : Fin 4096) (e : Option HostFail), s.asleep = false → cqRoom s r (getRing s r) = false →
      exec (.completionWrite r e) s = .next s)
  ∧ (∀ (s : State) (r : Fin 4096) (e : HostFail), s.asleep = false → ringState s r = 1 → linkUp s = true → (getRing s r).out ≠ [] →
      cqRoom s r (getRing s r) = true →
      ∃ t : State, exec (.completionWrite r (some e)) s = .next t ∧ ringState t r = 2
        ∧ rd t (A.RING_STATUS r) F.RING_STATUS_ERR = statusCode (hostFailStatus e))
  ∧ (∀ (s : State) (fn : Fin 65) (k : Fin 2048) (hold : Bool), s.asleep = false → hasVector fn k = true →
      (max 1 (rd s (modReg fn k) F.HIF_MSIX_MOD_COUNT) ≤ smGet 0 s.msix.pend (2048 * fn.val + k.val)
        ∨ (hold = true ∧ rd s (modReg fn k) F.HIF_MSIX_MOD_HOLDOFF ≠ 0 ∧ 0 < smGet 0 s.msix.pend (2048 * fn.val + k.val))) →
      ∃ t : State, exec (.msixMessage fn k hold) s = .next t ∧ smGet 0 t.msix.pend (2048 * fn.val + k.val) = 0
        ∧ smGet 0 t.msix.sent (2048 * fn.val + k.val) = smGet 0 s.msix.sent (2048 * fn.val + k.val)
            + (if smGet true s.msix.mask (2048 * fn.val + k.val) then 0 else 1)
        ∧ smGet false t.msix.pba (2048 * fn.val + k.val)
            = (if smGet true s.msix.mask (2048 * fn.val + k.val) then true else smGet false s.msix.pba (2048 * fn.val + k.val))
        ∧ (let e := smGet (0, 0) s.msix.table (2048 * fn.val + k.val)
           smGet true s.msix.mask (2048 * fn.val + k.val) = false →
             t.host = (hostWrite s fn e.1.toNat (bytesLE 4 e.2.toNat) false false).1.host))
  ∧ (∀ (s : State) (fn : Fin 65) (k : Fin 2048) (addr : BitVec 64) (data : BitVec 32) (mask : Bool), s.asleep = false →
      hasVector fn k = true →
      ∃ t : State, exec (.msixUnmask fn ⟨k, addr, data, mask⟩) s = .next t ∧ smGet true t.msix.mask (2048 * fn.val + k.val) = mask
        ∧ smGet (0, 0) t.msix.table (2048 * fn.val + k.val) = (addr, data)
        ∧ smGet false t.msix.pba (2048 * fn.val + k.val) = (mask && smGet false s.msix.pba (2048 * fn.val + k.val))
        ∧ smGet 0 t.msix.sent (2048 * fn.val + k.val) = smGet 0 s.msix.sent (2048 * fn.val + k.val)
            + (if mask = false ∧ smGet false s.msix.pba (2048 * fn.val + k.val) = true then 1 else 0))

/-- The scheduler starts descriptors, each opcode does its work and completes (R309, R310, R312, R313, R314, R315,
R316, R317, R318, R319, R320, R324). DESCRIPTOR_START starts the next descriptor of the ring whose turn it is; one
that a check refuses completes with that status. NOP and FENCE complete with OK, FENCE only behind all earlier ones.
MEM_READ and MEM_WRITE ask for their next piece and complete when all pieces have answered. STREAM_IN asks for credit,
pushes within its grants and counts them down; STREAM_OUT pops, while no other pop of the ring engine is outstanding
at the queue. LOAD_CONTEXT stores a frame that passes its checks, as an access that wakes an idle field, and completes
with its status, is DENIED by a table, or becomes a tree command; SWITCH and POWER hand their command to the root.
MIRROR_SET writes CFG or completes with BAD_DESCRIPTOR. REG_READ and REG_WRITE send one request. EVENT_WAIT registers,
enables and reads its queue, ends on its event with the depth, or times out. NOTIFY binds and unbinds; NOTIFY_RECORD
pops a record. Where the rules leave a corner open, the model's choice of assumption log 33, 34, 51, 55, 75, 91 is
what is stated. -/
def Obligations.Descriptors : Prop :=
  (∀ (s : State) (r : Nat) (z : Sched) (d : Desc), s.asleep = false → tripped s = false → nextStart s 9 s.host.sched = some (r, z) →
      nextDesc (getRing s r) = some d → d.finished = false →
      ∃ t : State, exec .descriptorStart s = .next t ∧ t.host.sched = z
        ∧ (if descCheck s r d = .ok then descAs t r d.id (fun e => e.started = true) else completed t r d.id (descCheck s r d) 0))
  ∧ (∀ (s : State) (r : Fin 4096) (id : Nat) (d : Desc), s.asleep = false → runDesc s r id 0x00 = some d → wantsComp d →
      ∃ t : State, exec (.nopDesc r id) s = .next t ∧ finishedAs t r id .ok 0 0)
  ∧ (∀ (s : State) (r : Fin 4096) (id : Nat) (d : Desc), s.asleep = false → runDesc s r id 0x0D = some d → wantsComp d →
      ((getRing s r).descs.head?.map (fun e => e.id) = some id →
        ∃ t : State, exec (.fenceDesc r id) s = .next t ∧ finishedAs t r id .ok 0 0)
      ∧ ((getRing s r).descs.head?.map (fun e => e.id) ≠ some id → exec (.fenceDesc r id) s = .next s))
  ∧ (∀ (s : State) (r : Fin 4096) (id : Nat) (d : Desc), s.asleep = false → runDesc s r id 0x03 = some d → pieceOff d d.next < dLen d → d.fail = none →
      maySend s r (dDev d) (dAddr d + pieceOff d d.next) (pieceLen d d.next) →
      ∃ t : State, exec (.memRead r id) s = .next t ∧ asked s t r (dAddr d + pieceOff d d.next) false (pieceLen d d.next)
        ∧ descAs t r id (fun e => e.next = d.next + 1 ∧ e.busy = d.busy + 1))
  ∧ (∀ (s : State) (r : Fin 4096) (id : Nat) (d : Desc) (bs : List Byte), s.asleep = false → runDesc s r id 0x04 = some d → linkUp s = true →
      pieceOff d d.next < dLen d → d.fail = none → maySend s r (dDev d) (dAddr d + pieceOff d d.next) (pieceLen d d.next) →
      ∃ t : State, exec (.memWrite r id (.ok bs)) s = .next t ∧ asked s t r (dAddr d + pieceOff d d.next) true (pieceLen d d.next)
        ∧ descAs t r id (fun e => e.next = d.next + 1 ∧ e.busy = d.busy + 1))
  ∧ (∀ (s : State) (r : Fin 4096) (id : Nat) (d : Desc) (res : HostRead) (c : Instr) (op : Nat), s.asleep = false →
      ((c = .memRead r id ∧ op = 0x03) ∨ (c = .memWrite r id res ∧ op = 0x04)) → runDesc s r id op = some d → d.busy = 0 →
      (d.fail = none → ¬ pieceOff d d.next < dLen d → wantsComp d →
        ∃ t : State, exec c s = .next t ∧ finishedAs t r id .ok (dLen d) 0)
      ∧ (∀ (o : Nat) (st : Status), d.fail = some (o, st) → st ≠ .ok →
        ∃ t : State, exec c s = .next t ∧ finishedAs t r id st o 0))
  ∧ (∀ (s : State) (r : Fin 4096) (id : Nat) (d : Desc) (res : HostRead), s.asleep = false → runDesc s r id 0x01 = some d → d.fail = none →
      d.next < dLen d → getGrant s (dTarget d) = 0 → d.busy % 2 = 0 → maySend s r (dDev d) (dAddr d + 0x40) 8 →
      ∃ t : State, exec (.streamIn r id res) s = .next t ∧ asked s t r (dAddr d + 0x40) false 8
        ∧ descAs t r id (fun e => e.busy = d.busy + 1))
  ∧ (∀ (s : State) (r : Fin 4096) (id : Nat) (d : Desc) (bs : List Byte) (g left n : Nat) (last : Bool), s.asleep = false →
      runDesc s r id 0x01 = some d → d.fail = none → linkUp s = true → g = getGrant s (dTarget d) → left = dLen d - d.next →
      0 < left → 0 < g → d.busy < 2 → (last = true ↔ dRecEnd d = true ∧ left ≤ 64 ∧ (left + 3) / 4 ≤ g) →
      n = (if last then left else min (min 64 (4 * g)) (left / 4 * 4)) →
      maySend s r (dDev d) (dAddr d + (if last then 0x80 else 0)) n →
      ∃ t : State, exec (.streamIn r id (.ok bs)) s = .next t ∧ asked s t r (dAddr d + (if last then 0x80 else 0)) true n
        ∧ descAs t r id (fun e => e.next = d.next + n ∧ e.busy = d.busy + 2)
        ∧ getGrant t (dTarget d) = g - (n + 3) / 4)
  ∧ (∀ (s : State) (r : Fin 4096) (id : Nat) (d : Desc), s.asleep = false → runDesc s r id 0x02 = some d → d.busy = 0 →
      popOut s (dDev d) (dAddr d) = false → maySend s r (dDev d) (dAddr d) (min 64 ((dLen d - d.done) / 4 * 4)) →
      ∃ t : State, exec (.streamOut r id) s = .next t ∧ asked s t r (dAddr d) false (min 64 ((dLen d - d.done) / 4 * 4))
        ∧ descAs t r id (fun e => e.busy = 1))
  ∧ (∀ (s : State) (r : Fin 4096) (id : Nat) (d : Desc), runDesc s r id 0x02 = some d → popOut s (dDev d) (dAddr d) = true →
      exec (.streamOut r id) s = .next s)
  ∧ (∀ (s : State) (r : Fin 4096) (id : Nat) (d : Desc) (res : HostRead), s.asleep = false → runDesc s r id 0x05 = some d → dField d 25 1 = 2 →
      d.stage = 0 →
      ∃ t : State, exec (.loadContext r id res) s = .next t ∧ t.tree.fromRing = s.tree.fromRing ++ [dCmd s r d])
  ∧ (∀ (s : State) (r : Fin 4096) (id : Nat) (d : Desc) (res : HostRead) (x : Nat × Nat), s.asleep = false → runDesc s r id 0x05 = some d →
      dField d 25 1 ≠ 2 → d.stage = 0 → loadRefusal s r d = some x →
      ∃ t : State, exec (.loadContext r id res) s = .next t ∧ finishedAs t r id .denied 0 0 ∧ t.tiles = s.tiles)
  ∧ (∀ (s : State) (r : Fin 4096) (id : Nat) (d : Desc) (bs : List Byte) (i slot : Nat) (c : Frame), s.asleep = false → runDesc s r id 0x05 = some d →
      dField d 25 1 = 0 → dPl d = 30 → cmdDev (dCmd s r d) = devId s → d.next = 0 → d.done = 0 → d.busy = 0 → d.fail = none →
      (d.stage = 0 → loadRefusal s r d = none) → linkUp s = true → 32 ≤ bs.length → i = (loadMember s r d 0).2 →
      slot = dField d 24 1 → c = frameOf (sliceBytes bs 0 32) → wantsComp d →
      ∃ t : State, exec (.loadContext r id (.ok bs)) s = .next t
        ∧ (frameWriteStatus s i slot c = .ok → finishedAs t r id .ok 32 1
            ∧ (lentTile s i = false → t.tiles = (storeFrame s i slot c).tiles)
            ∧ (pwrState s (tileField i) = 1 → rd t (A.PWR_STATUS (tileField i)) F.PWR_STATUS_WAKE_PENDING = 1))
        ∧ (frameWriteStatus s i slot c ≠ .ok → finishedAs t r id (frameWriteStatus s i slot c) 0 0 ∧ t.tiles = s.tiles))
  ∧ (∀ (s : State) (r : Fin 4096) (id : Nat) (d : Desc) (c : Instr) (op : Nat), s.asleep = false →
      ((c = .switchDescriptor r id ∧ op = 0x06) ∨ (c = .powerDescriptor r id ∧ op = 0x07)) → runDesc s r id op = some d → d.stage = 0 →
      ∃ t : State, exec c s = .next t ∧ t.tree.fromRing = s.tree.fromRing ++ [dCmd s r d] ∧ t.tree.runs = s.tree.runs
        ∧ descAs t r id (fun e => e.stage = 1))
  ∧ (∀ (s : State) (r : Fin 4096) (id : Nat) (d : Desc) (m : Nat) (v : Reg), s.asleep = false → runDesc s r id 0x08 = some d → wantsComp d →
      m = dField d 24 1 → v = BitVec.ofNat 64 (dField d 32 8) → dDev d = devId s → getFld v F.MIRROR_CFG_EN = 1 →
      decideAccess s (ringKey s r false) false (mirrorNeeds s m v) = .grant →
      ∃ t : State, exec (.mirrorSet r id) s = .next t
        ∧ (mirrorBad v = false → finishedAs t r id .ok 0 0 ∧ rd t (A.MIRROR_CFG m) F.MIRROR_CFG_EN = 1)
        ∧ (mirrorBad v = true → finishedAs t r id .badDescriptor 0 0 ∧ rd t (A.MIRROR_CFG m) F.MIRROR_CFG_EN = 0
            ∧ rd t (A.MIRROR_STATE m) F.MIRROR_STATE_CFG_ERR = 1))
  ∧ (∀ (s : State) (r : Fin 4096) (id : Nat) (d : Desc) (code table : Nat), s.asleep = false → runDesc s r id 0x08 = some d → dDev d = devId s →
      decideAccess s (ringKey s r false) false (mirrorNeeds s (dField d 24 1) (BitVec.ofNat 64 (dField d 32 8))) = .refuse code table →
      ∃ t : State, exec (.mirrorSet r id) s = .next t ∧ finishedAs t r id .denied 0 0
        ∧ getR t (A.MIRROR_CFG (dField d 24 1)) = getR s (A.MIRROR_CFG (dField d 24 1)))
  ∧ (∀ (s : State) (r : Fin 4096) (id : Nat) (d : Desc), s.asleep = false → runDesc s r id 0x09 = some d → d.busy = 0 → maySend s r (dDev d) (dAddr d) 8 →
      ∃ t : State, exec (.regRead r id) s = .next t ∧ asked s t r (dAddr d) false 8 ∧ descAs t r id (fun e => e.busy = 1))
  ∧ (∀ (s : State) (r : Fin 4096) (id : Nat) (d : Desc), s.asleep = false → runDesc s r id 0x0A = some d → d.busy = 0 → maySend s r (dDev d) (dAddr d) 16 →
      ∃ t : State, exec (.regWrite r id) s = .next t ∧ asked s t r (dAddr d) true 16 ∧ descAs t r id (fun e => e.busy = 1))
  ∧ (∀ (s : State) (r : Fin 4096) (id : Nat) (d : Desc), s.asleep = false → runDesc s r id 0x0B = some d →
      (d.stage = 0 → waitCount s < 256 → ∃ t : State, exec (.eventWait r id) s = .next t ∧ descAs t r id (fun e => isWait e = true))
      ∧ (d.stage = 1 → maySend s r (dDev d) (qStateAddr (dAddr d) + 8) 8 →
        ∃ t : State, exec (.eventWait r id) s = .next t ∧ asked s t r (qStateAddr (dAddr d) + 8) false 8)
      ∧ (d.stage = 3 → maySend s r (dDev d) (qStateAddr (dAddr d) + 8) 8 →
        ∃ t : State, exec (.eventWait r id) s = .next t ∧ asked s t r (qStateAddr (dAddr d) + 8) true 8)
      ∧ (d.stage = 5 → maySend s r (dDev d) (qStateAddr (dAddr d)) 8 →
        ∃ t : State, exec (.eventWait r id) s = .next t ∧ asked s t r (qStateAddr (dAddr d)) false 8))
  ∧ (∀ (s : State) (i : TileIx) (q : Fin 4) (e : Nat × Nat × Nat) (r : Nat) (d : Desc), s.asleep = false →
      s.levelEvents.find? (fun e => e.1 == i.val && e.2.1 == q.val) = some e → d ∈ (getRing s r).descs →
      (∀ x ∈ (getRing s r).descs, x.id = d.id → x = d) → isWait d = true → d.started = true → d.finished = false → wantsComp d →
      dTarget d = (devId s).toNat * 2 ^ 48 + 0x40000000 + 4096 * i.val + 0xC00 + 0x100 * q.val →
      ∃ t : State, exec (.eventWaitMatch i q) s = .next t ∧ finishedAs t r d.id .ok 0 e.2.2)
  ∧ (∀ (s : State) (r : Fin 4096) (id : Nat) (d : Desc), s.asleep = false → runDesc s r id 0x0B = some d → 1 ≤ d.stage → dField d 24 4 ≠ 0 →
      ∃ t : State, exec (.eventWaitTimeout r id) s = .next t ∧ finishedAs t r id .timeout 0 0)
  ∧ (∀ (s : State) (r : Fin 4096) (id : Nat) (d : Desc) (b : Nat), s.asleep = false → runDesc s r id 0x0C = some d → wantsComp d →
      (dField d 24 1 = 1 → findBind s d = some b →
        ∃ t : State, exec (.notifyDesc r id) s = .next t ∧ smGet none t.host.binds b = none ∧ finishedAs t r id .ok 0 0)
      ∧ (dField d 24 1 ≠ 1 → findBind s d = none → (List.range 256).find? (fun b => (smGet none s.host.binds b).isNone) = some b →
        ∃ t : State, exec (.notifyDesc r id) s = .next t ∧ finishedAs t r id .ok 0 0
          ∧ smGet none t.host.binds b = some { dev := dDev d, addr := dAddr d, ring := r.val })
      ∧ (dField d 24 1 ≠ 1 → findBind s d = some b →
        ∃ t : State, exec (.notifyDesc r id) s = .next t ∧ t.host.binds = s.host.binds ∧ finishedAs t r id .badDescriptor 0 0))
  ∧ (∀ (s : State) (b : Fin 256) (x : Bind), s.asleep = false → smGet none s.host.binds b = some x → x.busy = false → x.words = [] →
      queuePending s x.dev x.addr = false → popOut s x.dev x.addr = false →
      ringState s x.ring = 1 → ((getRing s x.ring).cqProd - (getRing s x.ring).cqCons).toNat + (getRing s x.ring).out.length
        < 2 ^ cqLog s x.ring → maySend s x.ring x.dev x.addr 16 →
      ∃ t : State, exec (.notifyRecord b) s = .next t ∧ asked s t x.ring x.addr false 16
        ∧ smGet none t.host.binds b = some { x with busy := true })

namespace Sys2Proof.Claims

open Sys2Proof.Machine

/-- The rings of the functions that `sel` names have ended with nothing written to the host, their ERR is `code`; the others keep
their state (spec 08 R328). -/
def ringsEnded (s t : State) (sel : Nat → Bool) (code : Nat) : Prop :=
  t.host.writes = s.host.writes
    ∧ (∀ r ∈ ringsOn s, sel (ringFn s r) = true → ringState t r = 0 ∧ rd t (A.RING_STATUS r) F.RING_STATUS_ERR = code
        ∧ (getRing t r).descs = [] ∧ (getRing t r).out = [])
    ∧ (∀ r ∈ ringsOn s, sel (ringFn s r) = false → ringState t r = ringState s r ∧ getRing t r = getRing s r)

/-- Array, configuration and access tables are as they were (spec 08 R328). -/
def arrayKept (s t : State) : Prop :=
  t.tiles = s.tiles ∧ t.mem = s.mem ∧ ∀ tb e : Nat, tb < 90 → e < 32 → getR t (A.ACC_W0 tb e) = getR s (A.ACC_W0 tb e)
    ∧ getR t (A.ACC_W1 tb e) = getR s (A.ACC_W1 tb e)

/-- Entry `n` of endpoint `ep` holds a checked request of host window `w` at offset `o`, its write data here (spec 08 R292). -/
def windowRequest (s : State) (ep : Fin 2048) (n : Fin 32) (g : Ingress) (w o : Nat) : Prop :=
  getIn s ep n = some g ∧ windowOf g.req.addr.toNat = some (w, o) ∧ g.checked = true ∧ g.held = false
    ∧ (reqWrite g.req = true → ∃ bs : List Byte, g.wdata = some bs ∧ reqLen g.req ≤ bs.length)

/-- The host address of offset `o` of window `w`, and whether R292 admits an access of `len` bytes there. -/
def windowAddr (s : State) (w o : Nat) : Nat := rd s (A.WIN_BASE w) F.WIN_BASE_ADDR * 4096 + o
def windowAdmits (s : State) (w o len : Nat) : Prop :=
  o < 2 ^ rd s (A.WIN_CTL w) F.WIN_CTL_SIZE_LOG2 ∧ rd s (A.WIN_CTL w) F.WIN_CTL_EN = 1 ∧ windowAddr s w o % 4096 + len ≤ 4096

end Sys2Proof.Claims

/-- Function maps, host windows, function resets and the PCIe link: every command completes (R290, R292, R293, R328,
R330, R331). HIF_FUNC_MAP_WRITE takes effect unless maps would overlap or a running ring would move, when MAP_REFUSED
is set. WINDOW_ENABLE_WRITE takes effect unless it enables a window of a bad size, base or function.
HOST_WINDOW_ACCESS outside the window, of a closed one or across 4 KiB answers BAD_ADDRESS; without a link LINK_DOWN
and a count; a write goes to the host, behind older ones of its requester, and answers OK; a read, of at most 1,024,
waits for HOST_COMPLETION, which answers with the bytes or with the failure and a count. FLR_VF, FLR_PF, LINK_DOWN and
VF_ENABLE end exactly the rings they name, with nothing written to the host; PERST_N returns every host interface
register and ring slot to its reset value, that of the defaults image in use where it gives one; none of them changes
the array, its memory or the access tables. PCIE_LINK_UP shows the link and takes the configuration that the host has
given. Where the rules leave a corner open, the model's choice of assumption log 35, 47, 58, 62, 75, 90 is what is
stated. -/
def Obligations.HostFunctions : Prop :=
  (∀ (s s' : State) (v : Fin 64) (x : Reg), s' = setR s (A.HIF_FUNC_MAP v) (writeFlds true L.HIF_FUNC_MAP (getR s (A.HIF_FUNC_MAP v)) x) →
      s.asleep = false → s.defaultsDue = false →
      (mapsOverlap s' v = false → (ringsOn s).all (fun r => ringFn s r == ringFn s' r) = true →
        exec (.hifFuncMapWrite v x) s = .next s')
      ∧ ((mapsOverlap s' v = true ∨ (ringsOn s).all (fun r => ringFn s r == ringFn s' r) = false) →
        ∃ t : State, exec (.hifFuncMapWrite v x) s = .next t ∧ rd t A.HIF_STATUS F.HIF_STATUS_MAP_REFUSED = 1
          ∧ ∀ w : Fin 64, getR t (A.HIF_FUNC_MAP w) = getR s (A.HIF_FUNC_MAP w)))
  ∧ (∀ (s : State) (w : Fin 16) (x : Reg) (n : Nat), n = getFld x F.WIN_CTL_SIZE_LOG2 → s.asleep = false → s.defaultsDue = false →
      ((getFld x F.WIN_CTL_EN = 0 ∨ (12 ≤ n ∧ n ≤ 43 ∧ rd s (A.WIN_BASE w) F.WIN_BASE_ADDR * 4096 % 2 ^ n = 0
          ∧ getFld x F.WIN_CTL_FUNC ≤ vfCount s)) →
        ∃ t : State, exec (.windowEnableWrite w x) s = .next t ∧ rd t (A.WIN_CTL w) F.WIN_CTL_EN = getFld x F.WIN_CTL_EN
          ∧ rd t (A.WIN_CTL w) F.WIN_CTL_SIZE_LOG2 = n ∧ rd t (A.WIN_CTL w) F.WIN_CTL_FUNC = getFld x F.WIN_CTL_FUNC)
      ∧ (getFld x F.WIN_CTL_EN = 1 → (n < 12 ∨ 43 < n ∨ rd s (A.WIN_BASE w) F.WIN_BASE_ADDR * 4096 % 2 ^ n ≠ 0
          ∨ vfCount s < getFld x F.WIN_CTL_FUNC) → exec (.windowEnableWrite w x) s = .next s))
  ∧ (∀ (s : State) (ep : Fin 2048) (n : Fin 32) (g : Ingress) (w o : Nat), s.asleep = false → windowRequest s ep n g w o →
      (¬windowAdmits s w o (reqLen g.req) →
        ∃ t : State, exec (.hostWindowAccess ep n) s = .next t ∧ answered t ep n g.req .badAddress [] ∧ t.host = s.host)
      ∧ (windowAdmits s w o (reqLen g.req) → linkUp s = false →
        ∃ t : State, exec (.hostWindowAccess ep n) s = .next t ∧ answered t ep n g.req .linkDown [] ∧ t.host = s.host
          ∧ rd t (A.WIN_ERR w) F.WIN_ERR_COUNT = min (rd s (A.WIN_ERR w) F.WIN_ERR_COUNT + 1) (2 ^ 32 - 1))
      ∧ (windowAdmits s w o (reqLen g.req) → linkUp s = true → 64 ≤ s.host.pcie.mps → reqWrite g.req = true →
        olderWrite s w g = false →
        ∃ (t : State) (x : HostWrite), exec (.hostWindowAccess ep n) s = .next t ∧ answered t ep n g.req .ok []
          ∧ t.host.writes = s.host.writes ++ [x] ∧ x.addr = windowAddr s w o % 2 ^ 64
          ∧ x.bytes = (g.wdata.getD []).take (reqLen g.req) ∧ x.fn = rd s (A.WIN_CTL w) F.WIN_CTL_FUNC)
      ∧ (windowAdmits s w o (reqLen g.req) → linkUp s = true → reqWrite g.req = false →
        (s.host.reads.filter (fun x => x.2.isSome)).length < 1024 →
        ∃ t : State, exec (.hostWindowAccess ep n) s = .next t ∧ getIn t ep n = some { g with held := true }
          ∧ smGet none t.host.reads s.host.nextRead = some ⟨ep.val, n.val, w, o⟩
          ∧ (64 ≤ s.host.pcie.mrrs → ∃ q : HostAsk, t.host.asks = s.host.asks ++ [q] ∧ q.addr = windowAddr s w o % 2 ^ 64
              ∧ q.len = reqLen g.req ∧ q.fn = rd s (A.WIN_CTL w) F.WIN_CTL_FUNC)))
  ∧ (∀ (s : State) (id w o : Nat) (ep : Fin 2048) (n : Fin 32) (g : Ingress) (bs : List Byte),
      s.asleep = false → smGet none s.host.reads id = some ⟨ep.val, n.val, w, o⟩ → getIn s ep n = some g →
      ∃ t : State, exec (.hostCompletion id (.ok bs)) s = .next t ∧ smGet none t.host.reads id = none
        ∧ answered t ep n g.req .ok (sliceBytes bs 0 (reqLen g.req)))
  ∧ (∀ (s : State) (id w o : Nat) (ep : Fin 2048) (n : Fin 32) (g : Ingress) (e : HostFail), s.asleep = false → w < 16 →
      smGet none s.host.reads id = some ⟨ep.val, n.val, w, o⟩ → getIn s ep n = some g →
      ∃ t : State, exec (.hostCompletion id (.fail e)) s = .next t ∧ smGet none t.host.reads id = none
        ∧ answered t ep n g.req (hostFailStatus e) []
        ∧ rd t (A.WIN_ERR w) F.WIN_ERR_COUNT = min (rd s (A.WIN_ERR w) F.WIN_ERR_COUNT + 1) (2 ^ 32 - 1))
  ∧ (∀ (s : State) (v : Fin 64), s.asleep = false → v.val < vfCount s →
      ∃ t : State, exec (.flrVf v) s = .next t ∧ ringsEnded s t (fun fn => fn == v.val + 1) 0x60 ∧ arrayKept s t
        ∧ rd t A.HIF_STATUS F.HIF_STATUS_FLR_BUSY = 1)
  ∧ (∀ s : State, s.asleep = false → ∃ t : State, exec .flrPf s = .next t ∧ ringsEnded s t (fun _ => true) 0x60 ∧ arrayKept s t ∧ vfCount t = 0
      ∧ ∀ w : Fin 64, getR t (A.HIF_FUNC_MAP w) = getR s (A.HIF_FUNC_MAP w))
  ∧ (∀ s : State, s.asleep = false → linkUp s = true →
      ∃ t : State, exec .linkDown s = .next t ∧ ringsEnded s t (fun _ => true) 0x40 ∧ arrayKept s t ∧ linkUp t = false
        ∧ rd t A.HIF_STATUS F.HIF_STATUS_ANCHOR = 0 ∧ (∀ id : Nat, smGet none t.host.reads id = none)
        ∧ getR t A.HIF_TUG_CNT = getR s A.HIF_TUG_CNT)
  ∧ (∀ (s : State) (n : Fin 65), s.asleep = false → linkUp s = true →
      ∃ t : State, exec (.vfEnable n) s = .next t ∧ ringsEnded s t (fun fn => decide (n.val < fn)) 0x60 ∧ arrayKept s t
        ∧ vfCount t = n.val)
  ∧ (∀ (s : State) (rate : Fin 7) (width : Fin 32) (x : LinkTerms), s.asleep = false → rate.val ≠ 0 → [1, 2, 4, 8, 16].contains width.val = true →
      s.host.perst = false → s.defaultsDue = false →
      ∃ t : State, exec (.pcieLinkUp rate width x) s = .next t ∧ linkUp t = true ∧ t.host.pcie = x.cfg
        ∧ rd t A.HIF_STATUS F.HIF_STATUS_RATE = rate.val ∧ rd t A.HIF_STATUS F.HIF_STATUS_WIDTH = width.val
        ∧ rd t A.HIF_STATUS F.HIF_STATUS_FLIT = (if x.flit ∨ rate.val = 6 then 1 else 0)
        ∧ rd t A.HIF_STATUS F.HIF_STATUS_ANCHOR = (if s.straps.anchor then 1 else 0))
  ∧ (∀ s : State, ∃ t : State, exec (.perstN false) s = .next t ∧ t.host.rings = [] ∧ t.host.perst = true ∧ arrayKept s t
      ∧ ((s.defaults.hostRegs.map Prod.fst).Nodup → ∀ off : Nat, hostOffset off = true →
          getR t off = smGet (regReset off) s.defaults.hostRegs off))
  ∧ (∀ s : State, exec (.perstN true) s = .next { s with asleep := false, host := { s.host with perst := false } })

/-- Set-up registers, the seal barrier, the PEEK window and the board controller: every command completes (R8, R9,
R339, R344, R345, R353, R546, R551, R575, R578). ACC_SEAL_WRITE by the warden raises SEQ and seals every request that
a table has decided, and with ABORT_HELD answers the held ones with ABORTED; of any other master it does nothing.
ACC_SEAL_READ returns DONE and the count once nothing sealed is left or its time is up, else it waits, and so does a
read of ACC_SEAL in an ingress. REGISTER_WRITE of 8 aligned bytes by the warden stores the fields of an access entry
(bit 7 of PERM as 0), of 4 bytes one half of HIF_CTL; a hole takes nothing; a read by BAR0 gives the register, and one
of a bad size or alignment is an Unsupported Request; a read that waits in an ingress answers the bytes of the
register. PEEK_ACCESS sends a request of the warden once a landing slot is free, or records the failure; a bad size or
alignment is an Unsupported Request. The host has these once the defaults are applied and while the engine clock runs;
the board controller starts that clock. The SMBus commands set the offset, read what they may (else zero), write the
response, and discard bad PEC and every other write. NVI_SLOT_SEL_WRITE of 0 to 2 stores the selector, of 3 nothing.
Where the rules leave a corner open, the model's choice of assumption log 23, 53, 54 is what is stated. -/
def Obligations.SetUpAccess : Prop :=
  (∀ (s : State) (v : Reg) (k : Key), isWarden s k = false → exec (.accSealWrite v k) s = .next s)
  ∧ (∀ (s : State) (v : Reg) (k : Key), s.asleep = false → s.defaultsDue = false → isWarden s k = true →
      getFld v F.ACC_SEAL_ABORT_HELD = 0 →
      ∃ t : State, exec (.accSealWrite v k) s = .next t
        ∧ rd t A.ACC_SEAL F.ACC_SEAL_SEQ = (rd s A.ACC_SEAL F.ACC_SEAL_SEQ + 1) % 2 ^ 16
        ∧ (∀ (ep n : Nat) (g : Ingress), getIn s ep n = some g →
            getIn t ep n = some { g with req := { g.req with sealed := g.req.tabled } })
        ∧ t.tiles = s.tiles ∧ t.mem = s.mem)
  ∧ (∀ (s : State) (v : Reg) (k : Key) (ep : Fin 2048) (n : Fin 32) (g : Ingress), s.asleep = false → s.defaultsDue = false →
      isWarden s k = true → getFld v F.ACC_SEAL_ABORT_HELD = 1 → getIn s ep n = some g → g.req.tabled = true → requestHeld s g = true →
      ∃ t : State, exec (.accSealWrite v k) s = .next t ∧ answered t ep n g.req .aborted [])
  ∧ (∀ (s : State) (expired : Bool), s.asleep = false → s.defaultsDue = false → (outstanding s = 0 ∨ expired = true) →
      ∃ t : State, exec (.accSealRead expired) s = .next t ∧ getFld t.readData F.ACC_SEAL_DONE = (if outstanding s = 0 then 1 else 0)
        ∧ getFld t.readData F.ACC_SEAL_OUTSTANDING = min (outstanding s) (2 ^ 31 - 1)
        ∧ getFld t.readData F.ACC_SEAL_SEQ = rd s A.ACC_SEAL F.ACC_SEAL_SEQ
        ∧ ((expired = false ∨ sealReaders s = []) → t = { s with readData := t.readData }))
  ∧ (∀ s : State, s.asleep = false → s.defaultsDue = false → outstanding s ≠ 0 → rd s A.ACC_CTL F.ACC_CTL_SEAL_WAIT ≠ 0 → exec (.accSealRead false) s = .next s)
  ∧ (∀ (s : State) (ep : Fin 2048) (n : Fin 32) (g : Ingress) (v : Reg) (k : Key) (size off : Nat), s.asleep = false → s.defaultsDue = false → getIn s ep n = some g →
      placeOf s g.req.addr.toNat = .setup off → off / 8 * 8 = A.ACC_SEAL → reqWrite g.req = false → outstanding s ≠ 0 →
      rd s A.ACC_CTL F.ACC_CTL_SEAL_WAIT ≠ 0 → exec (.registerWrite (.ingress ep n) size v k) s = .next s)
  ∧ (∀ (s : State) (tb : Fin 90) (e : Fin 32) (v : Reg) (k : Key), s.asleep = false → s.defaultsDue = false →
      isWarden s k = true →
      (∃ t : State, exec (.registerWrite (.bar0 (A.ACC_W0 tb e)) 8 v k) s = .next t ∧ getR t (A.ACC_W0 tb e) = v)
      ∧ (∃ t : State, exec (.registerWrite (.bar0 (A.ACC_W1 tb e)) 8 v k) s = .next t
        ∧ rd t (A.ACC_W1 tb e) F.ACC_W1_EN = getFld v F.ACC_W1_EN ∧ rd t (A.ACC_W1 tb e) F.ACC_W1_PERM = getFld v F.ACC_W1_PERM % 128))
  ∧ (∀ (s : State) (v : Reg) (k : Key), s.asleep = false → s.defaultsDue = false → isWarden s k = true →
      ∃ t : State, exec (.registerWrite (.bar0 A.HIF_CTL) 4 v k) s = .next t
        ∧ rd t A.HIF_CTL F.HIF_CTL_W0 = getFld v F.HIF_CTL_W0 ∧ rd t A.HIF_CTL F.HIF_CTL_W3 = getFld v F.HIF_CTL_W3
        ∧ rd t A.HIF_CTL F.HIF_CTL_DRAIN_LIMIT = rd s A.HIF_CTL F.HIF_CTL_DRAIN_LIMIT)
  ∧ (∀ (s : State) (off : Nat) (v : Reg) (k : Key), s.asleep = false → s.defaultsDue = false → off % 8 = 0 → off < 0x730000 → regFields off = none →
      exec (.registerWrite (.bar0 off) 8 v k) s = .next s)
  ∧ (∀ (s : State) (off size : Nat) (v : Reg) (k : Key), s.asleep = false → s.defaultsDue = false → off < 0x730000 →
      ((∀ x, regAccess off size ≠ .ok x) →
        ∃ t : State, exec (.registerWrite (.bar0Read off) size v k) s = .next t ∧ t.host.peeks = s.host.peeks ++ [.unsupported]
          ∧ t.regs = s.regs)
      ∧ (off % 8 = 0 → size = 8 → off = A.HIF_CTL →
        exec (.registerWrite (.bar0Read off) size v k) s = .next { s with readData := readFlds L.HIF_CTL (getR s A.HIF_CTL) }))
  ∧ (∀ (s : State) (ep : Fin 2048) (n : Fin 32) (g : Ingress) (v : Reg) (k : Key) (size : Nat), s.asleep = false → s.defaultsDue = false →
      getIn s ep n = some g → placeOf s g.req.addr.toNat = .setup A.HIF_CTL → g.checked = true → reqWrite g.req = false → reqLen g.req = 8 →
      ∃ t : State, exec (.registerWrite (.ingress ep n) size v k) s = .next t
        ∧ answered t ep n g.req .ok (bytesLE 8 (readFlds L.HIF_CTL (getR s A.HIF_CTL)).toNat))
  ∧ (∀ (s : State) (w : Bool) (off size a : Nat) (v : Reg), s.asleep = false → s.defaultsDue = false → (size = 4 ∨ size = 8) →
      off % size = 0 → off < 0x1000000 → linkUp s = true → a = ((getR s A.PEEK_BASE).toNat + off) % 2 ^ 64 →
      s.host.peekWait = [] →
      (maySend s 0 (BitVec.ofNat 16 (a / 2 ^ 48)) (a % 2 ^ 48) size →
        ∃ t : State, exec (.peekAccess w off size v) s = .next t ∧ asked s t 0 (a % 2 ^ 48) w size
          ∧ ∃ f ∈ (getEp t (ringPort 0)).outReq, f.mst = 0x203F ∧ f.addr = BitVec.ofNat 48 (a % 2 ^ 48))
      ∧ (∀ st : Status, targetOf s (BitVec.ofNat 16 (a / 2 ^ 48)) (a % 2 ^ 48) = .fail st →
        ∃ t : State, exec (.peekAccess w off size v) s = .next t ∧ t.host.peeks = s.host.peeks ++ [.failed st] ∧ t.eps = s.eps)
      ∧ ((∀ st : Status, targetOf s (BitVec.ofNat 16 (a / 2 ^ 48)) (a % 2 ^ 48) ≠ .fail st) → freeTag s (ringPort 0) 0 256 = none →
        ∃ t : State, exec (.peekAccess w off size v) s = .next t ∧ t.host.peekWait = [⟨w, BitVec.ofNat 64 a, size, v⟩]
          ∧ t.host.peeks = s.host.peeks))
  ∧ (∀ (s : State) (w : Bool) (off size : Nat) (v : Reg), s.asleep = false → s.defaultsDue = false → off < 0x1000000 → linkUp s = true →
      ((size ≠ 4 ∧ size ≠ 8) ∨ off % size ≠ 0) →
      ∃ t : State, exec (.peekAccess w off size v) s = .next t ∧ t.host.peeks = s.host.peeks ++ [.unsupported] ∧ t.eps = s.eps
        ∧ t.regs = s.regs)
  ∧ (∀ (s : State) (d : RegDst) (w : Bool) (off size : Nat) (v : Reg) (k : Key), (s.asleep = true ∨ s.defaultsDue = true) →
      exec (.registerWrite d size v k) s = .next s ∧ exec (.peekAccess w off size v) s = .next s)
  ∧ (∀ (s : State) (off : BitVec 32), exec (.smbusOffsetWrite off true) s = .next { s with asleep := false, smbusOff := off }
      ∧ exec (.smbusOffsetWrite off false) s = .next { s with asleep := false })
  ∧ (∀ s : State, exec (.smbusBlockRead false) s = .next { s with asleep := false }
      ∧ (∃ t : State, exec (.smbusBlockRead true) s = .next t
        ∧ (smbusReads s.smbusOff.toNat = false → t = { s with asleep := false, readData := 0 })
        ∧ (∀ fs : List Fld, regFields s.smbusOff.toNat = some fs →
            (s.smbusOff.toNat = A.PWR_THERM_STATUS ∨ s.smbusOff.toNat = A.LOG_STATUS ∨ s.smbusOff.toNat = A.LOG_SUMMARY) →
            t = { s with asleep := false, readData := readFlds fs (getR s s.smbusOff.toNat) })))
  ∧ (∀ (s : State) (off : BitVec 32) (v : Reg),
      exec (.smbusWrite off v false) s = .next { s with asleep := false }
      ∧ (∀ k : Fin 4, off.toNat = A.REC_RESPONSE k →
        ∃ t : State, exec (.smbusWrite off v true) s = .next t ∧ smGet 0 t.recorder.response k = v ∧ t.regs = s.regs)
      ∧ (off.toNat ≠ A.REC_CTL → off.toNat ≠ A.REC_CLEAR → (∀ k : Fin 4, off.toNat ≠ A.REC_RESPONSE k) →
        exec (.smbusWrite off v true) s = .next { s with asleep := false }))
  ∧ (∀ (s : State) (v : Reg), s.asleep = false → s.defaultsDue = false →
      (getFld v F.NVI_SLOT_SEL_SELECT ≠ 3 → ∃ t : State, exec (.nviSlotSelWrite v) s = .next t
        ∧ nvSelector t = getFld v F.NVI_SLOT_SEL_SELECT ∧ rd t A.NVI_SLOT_SEL F.NVI_SLOT_SEL_SELECT = getFld v F.NVI_SLOT_SEL_SELECT
        ∧ rd t A.NVI_STATUS F.NVI_STATUS_BUSY = 1)
      ∧ (getFld v F.NVI_SLOT_SEL_SELECT = 3 → exec (.nviSlotSelWrite v) s = .next s))

/-- No write of another master than the warden changes an access table entry, and the board controller has no path to
the tables (R343). In every state: REGISTER_WRITE of a master that is not the warden, on whatever path (BAR0, a tile
register, a request that waits in an ingress) and to whatever offset, leaves every word of every entry of the 90
access tables as it was; so does every command of the board controller on SMBus. -/
def Obligations.TablesGuarded : Prop :=
  (∀ (s : State) (d : RegDst) (size : Nat) (v : Reg) (k : Key),
      (match d with
        | .ingress ep n => ∀ g : Ingress, getIn s ep n = some g → isWarden s (reqKey g.req) = false
        | .bar0 _ => isWarden s k = false
        | .bar0Read _ => isWarden s k = false
        | .tile _ _ => isWarden s k = false) →
      ∃ t : State, exec (.registerWrite d size v k) s = .next t ∧ ∀ tb e : Nat, tb < 90 → e < 32 →
        getR t (A.ACC_W0 tb e) = getR s (A.ACC_W0 tb e) ∧ getR t (A.ACC_W1 tb e) = getR s (A.ACC_W1 tb e))
  ∧ (∀ (s : State) (c : Instr) (off : BitVec 32) (v : Reg) (ok : Bool),
      (c = .smbusWrite off v ok ∨ c = .smbusOffsetWrite off ok ∨ c = .smbusBlockRead ok) →
      ∃ t : State, exec c s = .next t ∧ ∀ tb e : Nat, tb < 90 → e < 32 →
        getR t (A.ACC_W0 tb e) = getR s (A.ACC_W0 tb e) ∧ getR t (A.ACC_W1 tb e) = getR s (A.ACC_W1 tb e))

namespace Sys2Proof.Claims

open Sys2Proof.Machine

/-- The latch of a log source (spec 14 R524). -/
def latchOf (s : State) (src : Nat) : Option LogLatch := smGet none s.log.latches src

/-- The log's indexes and counts (spec 14 R526). -/
def logWr (s : State) : Nat := rd s A.LOG_STATUS F.LOG_STATUS_WR_INDEX
def logRd (s : State) : Nat := rd s A.LOG_CTL F.LOG_CTL_RD_INDEX
def logLost (s : State) : Nat := rd s A.LOG_STATUS F.LOG_STATUS_LOST
def logOver (s : State) : Nat := rd s A.LOG_STATUS F.LOG_STATUS_OVERFLOW

/-- The entry of source `src` and its latch `l` has been written to slot WR_INDEX mod 1,024 and to no other; WR_INDEX has advanced
modulo 2,048 (spec 14 R526). -/
def entryWritten (s t : State) (src : Nat) (l : LogLatch) : Prop :=
  (∀ k < 4, logWord t (logWr s % 1024) k = (logWords src l).getD k 0)
    ∧ (∀ i k : Nat, i < 1024 → i ≠ logWr s % 1024 → k < 4 → logWord t i k = logWord s i k)
    ∧ logWr t = (logWr s + 1) % 2048

end Sys2Proof.Claims

/-- A report is held, counted as a repeat or counted as lost; an entry goes to its slot, or MODE says what becomes of
a full log (R524, R526). LOG_REPORT: into an empty latch with the time of arrival; on an occupied one the repeat count
rises, whatever the code, up to 0xFFFF, and each report beyond adds 1 to LOST; it always completes and touches no
other latch. LOG_WRITE of a latch: with UNREAD below 1,024 the entry goes to slot WR_INDEX mod 1,024 and WR_INDEX
advances modulo 2,048; at 1,024 MODE 0 writes over the oldest unread entry, RD_INDEX advances by 1 and OVERFLOW
increments, MODE 1 writes nothing and LOST rises by 1 plus the repeat count. The latch is empty after either; UNREAD,
(WR_INDEX - RD_INDEX) mod 2,048, stays from 0 to 1,024. MODE is read at the write, so a change governs the next write.
Counters saturate. -/
def Obligations.LogReports : Prop :=
  (∀ (s : State) (r : Report), reportExists r = true → r.detail.length ≤ 14 →
      ∃ t : State, exec (.logReport r) s = .next t
        ∧ (∀ src : Nat, src ≠ r.source → latchOf t src = latchOf s src)
        ∧ (latchOf s r.source = none →
            latchOf t r.source = some ⟨nowNs s, r.unit, r.code, r.detail, 0⟩ ∧ logLost t = logLost s)
        ∧ (∀ l : LogLatch, latchOf s r.source = some l → l.rep < 0xFFFF →
            latchOf t r.source = some { l with rep := l.rep + 1 } ∧ logLost t = logLost s)
        ∧ (∀ l : LogLatch, latchOf s r.source = some l → 0xFFFF ≤ l.rep →
            latchOf t r.source = some l ∧ logLost t = min (logLost s + 1) 0xFFFF))
  ∧ (∀ (s : State) (src : Nat) (l : LogLatch), logNext s = some (src, l) → logUnread s ≤ 1024 →
      ∃ t : State, exec .logWrite s = .next t ∧ latchOf t src = none
        ∧ (∀ k : Nat, k ≠ src → latchOf t k = latchOf s k)
        ∧ logUnread t = (logWr t + 2048 - logRd t) % 2048 ∧ logUnread t ≤ 1024
        ∧ (logUnread s < 1024 →
            entryWritten s t src l ∧ logRd t = logRd s ∧ logOver t = logOver s ∧ logLost t = logLost s)
        ∧ (logUnread s = 1024 → rd s A.LOG_CTL F.LOG_CTL_MODE = 0 →
            entryWritten s t src l ∧ logRd t = (logRd s + 1) % 2048 ∧ logOver t = min (logOver s + 1) 0xFFFF ∧ logLost t = logLost s)
        ∧ (logUnread s = 1024 → rd s A.LOG_CTL F.LOG_CTL_MODE = 1 →
            t.log.words = s.log.words ∧ logWr t = logWr s ∧ logRd t = logRd s ∧ logOver t = logOver s
              ∧ logLost t = min (logLost s + 1 + l.rep) 0xFFFF))
  ∧ (∀ s : State, (∀ src : Nat, src < 256 → latchOf s src = none) → exec .logWrite s = .next s)

namespace Sys2Proof.Claims

open Sys2Proof.Machine

/-- A commit of the recorder has written the copy not written last: COMMIT_SEQ is one higher, the CRC field follows the bytes
before it, the other copy is as it was (spec 14 R533). -/
def committed (s t : State) : Prop :=
  mirAt t 8 8 = (mirAt s 8 8 + 1) % 2 ^ 64
    ∧ mirAt t 0x2900 8 = crc32c (smBytes zeroByte t.recorder.mirror 0 0x2900) % 2 ^ 64
    ∧ nvRead t (copyAt (1 - s.recorder.last)) 0x2900 = smBytes zeroByte t.recorder.mirror 0 0x2900
    ∧ t.recorder.last = 1 - s.recorder.last ∧ t.recorder.commitDue = false ∧ t.recorder.since = some 0
    ∧ rd t A.NVI_STATUS F.NVI_STATUS_BUSY = 1
    ∧ (s.recorder.last < 2 → nvRead t (copyAt s.recorder.last) 0x2908 = nvRead s (copyAt s.recorder.last) 0x2908)

/-- Kind and slot of a value written to NVI_KEY_CTL (spec 14 R551). -/
def keyKind (v : Reg) : Nat := getFld v F.NVI_KEY_CTL_KIND
def keySlot (v : Reg) : Nat := getFld v F.NVI_KEY_CTL_SLOT

/-- SOURCE, A_RESULT and B_RESULT of NVI_STATUS (spec 14 R544). -/
def defaultsAre (t : State) (src ra rb : Nat) : Prop :=
  rd t A.NVI_STATUS F.NVI_STATUS_SOURCE = src ∧ rd t A.NVI_STATUS F.NVI_STATUS_A_RESULT = ra
    ∧ rd t A.NVI_STATUS F.NVI_STATUS_B_RESULT = rb ∧ t.defaultsDue = false

/-- A reading of rail `r` lies below the monitor's limit: 95 % of its minimum (spec 15 R563). -/
def railTooLow (s : State) (r : Nat) (mv : BitVec 16) : Prop := 10000 * mv.toNat < 95 * railMin s r

/-- The two-byte field of the recorder at `off` holds in `t` the value `v` where `new` holds, else what it held (spec 14 R531). -/
def keptOr (s t : State) (off : Nat) (new : Prop) (v : Nat) : Prop := (new → accAt t off 2 = v) ∧ (¬new → accAt t off 2 = accAt s off 2)

/-- The wakes of field `f` since the last minute sample (spec 14 R531). -/
def wakesOf (s : State) (f : Nat) : Nat :=
  (rd s (A.PWR_STATUS f) F.PWR_STATUS_WAKES + 2 ^ 32 - smGet 0 s.recorder.wakesAt f) % 2 ^ 32

/-- A four-byte count of the recorder has gone up by one, saturating (spec 14 R531). -/
def counted (s t : State) (off : Nat) : Prop := accAt t off 4 = min (accAt s off 4 + 1) (2 ^ 32 - 1)

end Sys2Proof.Claims

/-- Log reading, recorder samples, commits, challenges and clears: every command completes with its effect (R527,
R529, R531, R532, R533, R535, R536, R537, R550). With the defaults applied and the engine clock running,
RD_INDEX_WRITE stores a RD_INDEX that leaves UNREAD at most 1,024 and keeps the old one otherwise (log: only that
field is discarded); CLEAR sets RD_INDEX to WR_INDEX. LOG_ENTRY_READ answers W0 and takes the snapshot.
RECORDER_SAMPLE with EN = 0 samples nothing but the power-on minutes; with EN = 1 it counts temperatures, power,
states and wakes and keeps the extremes of temperatures and rails; a rail below 95 % of its minimum takes the device
into reset. RECORDER_MIRROR_COPY copies the accumulators. RECORDER_COMMIT and COMMIT write the copy not written last,
a failed check sets COMMIT_ERR, a COMMIT within 60 s is put off. NEW_CHALLENGE issues a nonce (a free value) unless
locked out; NONCE_EXPIRY and LOCKOUT_END end. REC_CLEAR_GO ends the nonce; a right response clears all but the
lifetime figures, counts the clear and enters it in the ledger; any other outcome clears nothing and locks. Where the
rules leave a corner open, the model's choice of assumption log 47, 49, 50, 51, 52 is what is stated. -/
def Obligations.LogReadingAndRecorder : Prop :=
  (∀ (s : State) (v : Reg), s.asleep = false → s.defaultsDue = false → getFld v F.LOG_CTL_CLEAR = 0 →
      ∃ t : State, exec (.rdIndexWrite v) s = .next t ∧ logWr t = logWr s ∧ t.log = s.log
        ∧ logRd t = (if (logWr s + 2048 - getFld v F.LOG_CTL_RD_INDEX) % 2048 ≤ 1024 then getFld v F.LOG_CTL_RD_INDEX else logRd s)
        ∧ rd t A.LOG_CTL F.LOG_CTL_LEVEL = getFld v F.LOG_CTL_LEVEL ∧ rd t A.LOG_CTL F.LOG_CTL_IE = getFld v F.LOG_CTL_IE
        ∧ rd t A.LOG_CTL F.LOG_CTL_MODE = getFld v F.LOG_CTL_MODE)
  ∧ (∀ (s : State) (v : Reg), s.asleep = false → s.defaultsDue = false → getFld v F.LOG_CTL_CLEAR = 1 →
      ∃ t : State, exec (.logClear v) s = .next t ∧ logRd t = logWr s ∧ logWr t = logWr s ∧ logUnread t = 0 ∧ t.log = s.log)
  ∧ (∀ (s : State) (i : Fin 1024), s.asleep = false → s.defaultsDue = false →
      ∃ t : State, exec (.logEntryRead i) s = .next t ∧ t.readData = logWord s i 0
      ∧ t.log.snapTag = some i.val ∧ t.log.snap = [logWord s i 1, logWord s i 2, logWord s i 3] ∧ t.log.words = s.log.words)
  ∧ (∀ (s : State) (x : Sample), rd s A.REC_CTL F.REC_CTL_EN = 0 → x ≠ .minute → (∀ (r : Fin 9) (mv : BitVec 16), x ≠ .rail r mv) →
      exec (.recorderSample x) s = .next s)
  ∧ (∀ s : State, ∃ t : State, exec (.recorderSample .minute) s = .next t ∧ counted s t 0x10 ∧ counted s t 0x18
      ∧ t.recorder.mirror = s.recorder.mirror
      ∧ ∀ f : Nat, f < 64 → smGet 0 t.recorder.wakesAt f = rd s (A.PWR_STATUS f) F.PWR_STATUS_WAKES
        ∧ (rd s A.REC_CTL F.REC_CTL_EN = 1 → counted s t (0x1100 + 96 * f + 4 * countBin (wakesOf s f) 23)))
  ∧ (∀ (s : State) (f : Fin 64) (k : Fin 4) (x : Int) (o : Nat), rd s A.REC_CTL F.REC_CTL_EN = 1 → x = sintOf 16 (sensorRaw s f k) →
      o = 0x250 + 12 * (f.val / 16) →
      (sensorFailed s f k = true → exec (.recorderSample (.tempExt f k)) s = .next s)
      ∧ (sensorFailed s f k = false → ∃ t : State, exec (.recorderSample (.tempExt f k)) s = .next t
        ∧ keptOr s t o (accAt s o 12 = 0 ∨ sintOf 16 (accAt s o 2) < x) (wrapInt 16 x)
        ∧ keptOr s t (o + 2) (accAt s o 12 = 0 ∨ x < sintOf 16 (accAt s (o + 2) 2)) (wrapInt 16 x)))
  ∧ (∀ s : State, rd s A.REC_CTL F.REC_CTL_EN = 1 →
      (∃ t : State, exec (.recorderSample .power) s = .next t
        ∧ counted s t (0x2C0 + 4 * min 20 (rd s A.PWR_CEILING F.PWR_CEILING_EST / 25)))
      ∧ (∃ t : State, exec (.recorderSample .temps) s = .next t ∧ ∀ q : Nat, q < 4 → ∀ x : Int,
          hottestOf (quarterTemps s q) = some x → counted s t (0x40 + 132 * q + 4 * tempBin x))
      ∧ (∃ t : State, exec (.recorderSample .states) s = .next t
        ∧ ((∀ f : Nat, f < 64 → pwrState s f ≤ 8) → ∀ f : Nat, f < 64 → counted s t (0x800 + 36 * f + 4 * pwrState s f))))
  ∧ (∀ (s : State) (r : Fin 9) (mv : BitVec 16),
      (¬ railTooLow s r mv → ∃ t : State, exec (.recorderSample (.rail r mv)) s = .next t ∧ t.railLow = s.railLow.erase r.val
        ∧ t.regs = s.regs ∧ (rd s A.REC_CTL F.REC_CTL_EN = 0 → t.recorder = s.recorder)
        ∧ (rd s A.REC_CTL F.REC_CTL_EN = 1 →
            keptOr s t (0x280 + 4 * r) (accAt s (0x280 + 4 * r) 4 = 0 ∨ mv.toNat < accAt s (0x280 + 4 * r) 2) mv.toNat
            ∧ keptOr s t (0x282 + 4 * r) (accAt s (0x280 + 4 * r) 4 = 0 ∨ accAt s (0x282 + 4 * r) 2 < mv.toNat) mv.toNat))
      ∧ (railTooLow s r mv → ∃ t : State, exec (.recorderSample (.rail r mv)) s = .next t ∧ r.val ∈ t.railLow
        ∧ (s.railLow = [] → rd t A.PWR_RESET F.PWR_RESET_LAST = 1 ∧ t.tiles = [] ∧ t.mem = [] ∧ t.defaultsDue = true
            ∧ t.straps = s.straps ∧ t.pending = s.pending)
        ∧ (s.railLow ≠ [] → t.tiles = s.tiles ∧ t.regs = s.regs)))
  ∧ (∀ s : State, ∃ t : State, exec .recorderMirrorCopy s = .next t ∧ t.recorder.acc = s.recorder.acc ∧ ∀ off : Nat,
      smGet 0 t.recorder.mirror off
        = if 0x10 ≤ off ∧ off < 0x2900 then smGet 0 s.recorder.acc off else smGet 0 s.recorder.mirror off)
  ∧ (∀ (s : State) (ok : Bool), ∃ t : State, exec (.recorderCommit ok) s = .next t ∧ committed s t
      ∧ rd t A.REC_STATUS F.REC_STATUS_COMMIT_ERR = (if ok then rd s A.REC_STATUS F.REC_STATUS_COMMIT_ERR else 1))
  ∧ (∀ (s : State) (v : Reg) (recent ok : Bool), s.asleep = false → s.defaultsDue = false → getFld v F.REC_CTL_COMMIT = 1 →
      ∃ t : State, exec (.recCommit v recent ok) s = .next t ∧ rd t A.REC_CTL F.REC_CTL_EN = getFld v F.REC_CTL_EN
        ∧ (recent = true → t.recorder.commitDue = true ∧ t.recorder.mirror = s.recorder.mirror ∧ t.nv = s.nv)
        ∧ (recent = false → committed s t))
  ∧ (∀ (s : State) (v : Reg), s.asleep = false → s.defaultsDue = false → getFld v F.REC_CTL_NEW_CHALLENGE = 1 →
      ∃ t : State, exec (.newChallenge v) s = .next t ∧ rd t A.REC_CTL F.REC_CTL_EN = rd s A.REC_CTL F.REC_CTL_EN
        ∧ (rd s A.REC_STATUS F.REC_STATUS_LOCKOUT = 1 → t.recorder = s.recorder
            ∧ ∀ k : Fin 2, getR t (A.REC_CHALLENGE k) = getR s (A.REC_CHALLENGE k))
        ∧ (rd s A.REC_STATUS F.REC_STATUS_LOCKOUT = 0 → t.recorder.nonce = true
            ∧ rd t A.REC_STATUS F.REC_STATUS_CHALLENGE_VALID = 1 ∧ getR t (A.REC_CHALLENGE 0) = Config.freeWord s.fresh
            ∧ getR t (A.REC_CHALLENGE 1) = Config.freeWord (s.fresh + 1)))
  ∧ (∀ s : State, (∃ t : State, exec .nonceExpiry s = .next t ∧ t.recorder.nonce = false
        ∧ rd t A.REC_STATUS F.REC_STATUS_CHALLENGE_VALID = 0 ∧ t.recorder.acc = s.recorder.acc)
      ∧ (∃ t : State, exec .lockoutEnd s = .next t ∧ rd t A.REC_STATUS F.REC_STATUS_LOCKOUT = 0 ∧ t.recorder = s.recorder))
  ∧ (∀ (s : State) (v : Reg) (who : Key), s.asleep = false → s.defaultsDue = false → getFld v F.REC_CLEAR_GO = 0 → exec (.recClearGo v who) s = .next s)
  ∧ (∀ (s : State) (v : Reg) (who : Key), s.asleep = false → s.defaultsDue = false → getFld v F.REC_CLEAR_GO = 1 →
      ∃ t : State, exec (.recClearGo v who) s = .next t ∧ t.recorder.nonce = false
        ∧ rd t A.REC_STATUS F.REC_STATUS_CHALLENGE_VALID = 0 ∧ t.recorder.response = []
        ∧ rd t A.REC_STATUS F.REC_STATUS_LAST_RESULT
            = (if s.recorder.nonce = false then 2 else if keyThere s 2 0 = false then 4
               else if givenResponse s = ownResponse s then 1 else 3)
        ∧ (rd t A.REC_STATUS F.REC_STATUS_LAST_RESULT ≠ 1 → rd t A.REC_STATUS F.REC_STATUS_LOCKOUT = 1
            ∧ t.recorder.mirror = s.recorder.mirror ∧ t.nv = s.nv ∧ ∀ off : Nat, off < 0x340 → smGet 0 t.recorder.acc off = smGet 0 s.recorder.acc off)
        ∧ (rd t A.REC_STATUS F.REC_STATUS_LAST_RESULT = 1 →
            accAt t 0x10 8 = accAt s 0x10 8 ∧ (∀ off : Nat, 0x24 ≤ off → off < 0x340 → smGet 0 t.recorder.acc off = 0)
            ∧ accAt t 0x18 8 = 0 ∧ accAt t 0x20 4 = min (accAt s 0x20 4 + 1) (2 ^ 32 - 1)
            ∧ rd t A.REC_STATUS F.REC_STATUS_CLEARS = accAt t 0x20 4 ∧ mirAt t 0x20 4 = accAt t 0x20 4
            ∧ smGet 0 t.nv.ledger (2 * ((accAt t 0x20 4 + 15) % 16)) = BitVec.ofNat 64 (nowNs s)
            ∧ (smGet 0 t.nv.ledger (2 * ((accAt t 0x20 4 + 15) % 16) + 1)).toNat
                = accAt t 0x20 4 + who.dev.toNat * 2 ^ 32 + who.mst.toNat * 2 ^ 48
            ∧ mirAt t 8 8 = (mirAt s 8 8 + 1) % 2 ^ 64))

/-- NV writes, the key store, the defaults image and the three resets of the device: every command completes (R516,
R530, R534, R538, R539, R540, R544, R545, R551). With the defaults applied and the engine clock running,
NV_WINDOW_WRITE stores an aligned 8-byte word outside the key store and the recorder and is BUSY until NV_WRITE_DONE;
a write that comes meanwhile waits and begins at NV_WRITE_DONE; another size sets SIZE_ERR; a word that did not read
back sets WRITE_ERR. KEY_PROVISION writes an empty slot and clears the staging registers; a used slot gives 1, a bad
one 2, a failed write 3; READ of a hash shows it. DEFAULTS_APPLY, once no rail holds the reset, takes the first slot
of the selector order that passes and records source and results; CHECK records a result and applies nothing.
POWER_ON_RESET empties the log, sets device time 0 and keeps the NV store, but for a word that was being written;
COLD_RESET keeps the log and the recorder mirror too; DEVICE_RESET, once asked for, keeps device time and the log and
ends every ring of an anchor with ABORTED. LAST records the kind. Where the rules leave a corner open, the model's
choice of assumption log 19, 47, 50, 51, 52 is what is stated. -/
def Obligations.NvStoreAndResets : Prop :=
  (∀ (s : State) (off size : Nat) (v : Reg) (ok : Bool), s.asleep = false → s.defaultsDue = false →
      (65536 ≤ off → exec (.nvWindowWrite off size v ok) s = .next s)
      ∧ (off < 65536 → rd s A.NVI_STATUS F.NVI_STATUS_BUSY = 1 → exec (.nvWindowWrite off size v ok) s
          = .next { s with nv := { s.nv with waiting := s.nv.waiting ++ [(nvOffset s off, size, v, ok)] } })
      ∧ (off < 65536 → rd s A.NVI_STATUS F.NVI_STATUS_BUSY = 0 →
        ∃ t : State, exec (.nvWindowWrite off size v ok) s = .next t
          ∧ ((size ≠ 8 ∨ off % 8 ≠ 0) → t.nv = s.nv ∧ rd t A.NVI_STATUS F.NVI_STATUS_SIZE_ERR = 1)
          ∧ (size = 8 → off % 8 = 0 → nvHidden (nvOffset s off) = true → t = s)
          ∧ (size = 8 → off % 8 = 0 → nvHidden (nvOffset s off) = false → rd t A.NVI_STATUS F.NVI_STATUS_BUSY = 1
              ∧ (ok = true → nvRead t (nvOffset s off) 8 = bytesLE 8 v.toNat
                  ∧ rd t A.NVI_STATUS F.NVI_STATUS_WRITE_ERR = rd s A.NVI_STATUS F.NVI_STATUS_WRITE_ERR)
              ∧ (ok = false → rd t A.NVI_STATUS F.NVI_STATUS_WRITE_ERR = 1)
              ∧ ∀ a : Nat, (a < nvOffset s off ∨ nvOffset s off + 8 ≤ a) → nvRead t a 1 = nvRead s a 1)))
  ∧ (∀ s : State, ∃ t : State, exec .nvWriteDone s = .next t
      ∧ (s.nv.waiting = [] → rd t A.NVI_STATUS F.NVI_STATUS_BUSY = 0 ∧ t.nv = { s.nv with writing := none })
      ∧ ∀ (a : Nat) (v : Reg) (ws : List (Nat × Nat × Reg × Bool)), s.nv.waiting = (a, 8, v, true) :: ws → a % 8 = 0 →
          nvHidden a = false → rd t A.NVI_STATUS F.NVI_STATUS_BUSY = 1 ∧ t.nv.waiting = ws
            ∧ nvRead t a 8 = bytesLE 8 v.toNat)
  ∧ (∀ (s : State) (v : Reg) (ok : Bool), s.asleep = false → s.defaultsDue = false → getFld v F.NVI_KEY_CTL_GO = 1 →
      ∃ t : State, exec (.keyProvision v ok) s = .next t
        ∧ (keySlotOk (keyKind v) (keySlot v) = false → rd t A.NVI_KEY_CTL F.NVI_KEY_CTL_RESULT = 2 ∧ t.nv = s.nv)
        ∧ (keySlotOk (keyKind v) (keySlot v) = true →
          (getFld v F.NVI_KEY_CTL_READ = 1 → keyKind v = 1 → keyThere s 1 (keySlot v) = true →
            rd t A.NVI_KEY_CTL F.NVI_KEY_CTL_RESULT = 0 ∧ staging t = keyBytes s 1 (keySlot v) ∧ t.nv.keys = s.nv.keys)
          ∧ ((getFld v F.NVI_KEY_CTL_READ = 0 ∨ keyKind v ≠ 1) →
            (keyThere s (keyKind v) (keySlot v) = true → rd t A.NVI_KEY_CTL F.NVI_KEY_CTL_RESULT = 1 ∧ t.nv = s.nv)
            ∧ (keyThere s (keyKind v) (keySlot v) = false → ok = false →
                rd t A.NVI_KEY_CTL F.NVI_KEY_CTL_RESULT = 3 ∧ t.nv = s.nv)
            ∧ (keyThere s (keyKind v) (keySlot v) = false → ok = true →
                rd t A.NVI_KEY_CTL F.NVI_KEY_CTL_RESULT = 0 ∧ keyThere t (keyKind v) (keySlot v) = true
                  ∧ keyBytes t (keyKind v) (keySlot v) = (staging s).take (keySize (keyKind v))
                  ∧ staging t = List.replicate 48 0 ∧ rd t A.NVI_STATUS F.NVI_STATUS_BUSY = 1))))
  ∧ (∀ s : State, (s.defaultsDue = false ∨ s.railLow ≠ []) → exec .defaultsApply s = .next s)
  ∧ (∀ s : State, s.defaultsDue = true → s.railLow = [] → ∃ t : State, exec .defaultsApply s = .next t
      ∧ (nvSelector s = 2 → defaultsAre t 0 0xFE 0xFE)
      ∧ (nvSelector s = 0 → slotCheck s 0 = 0 → defaultsAre t 1 0 0xFE)
      ∧ (nvSelector s = 0 → slotCheck s 0 ≠ 0 → slotCheck s 1 = 0 → defaultsAre t 2 (slotCheck s 0) 0)
      ∧ (nvSelector s = 1 → slotCheck s 1 = 0 → defaultsAre t 2 0xFE 0)
      ∧ (nvSelector s = 1 → slotCheck s 1 ≠ 0 → slotCheck s 0 = 0 → defaultsAre t 1 0 (slotCheck s 1))
      ∧ (nvSelector s ≠ 2 → slotCheck s 0 ≠ 0 → slotCheck s 1 ≠ 0 → defaultsAre t 0 (slotCheck s 0) (slotCheck s 1)))
  ∧ (∀ (s : State) (v : Reg), s.asleep = false → s.defaultsDue = false →
      ∃ t : State, exec (.nviCheck v) s = .next t ∧ t.nv = s.nv
      ∧ rd t A.NVI_CTL F.NVI_CTL_WINDOW = getFld v F.NVI_CTL_WINDOW
      ∧ rd t A.NVI_STATUS F.NVI_STATUS_CHECK_RESULT
          = (if getFld v F.NVI_CTL_CHECK = 1 then slotCheck s (getFld v F.NVI_CTL_CHECK_SLOT)
             else rd s A.NVI_STATUS F.NVI_STATUS_CHECK_RESULT))
  ∧ (∀ (s : State) (st : Straps), ∃ t : State, exec (.powerOnReset st) s = .next t ∧ rd t A.PWR_RESET F.PWR_RESET_LAST = 0
      ∧ t.time = 0 ∧ t.straps = st ∧ (s.nv.writing = none → t.nv.bytes = s.nv.bytes ∧ t.nv.keys = s.nv.keys) ∧ t.nv.ledger = s.nv.ledger
      ∧ (∀ a x : Nat, s.nv.writing = some a → (a < 0x020000 ∨ 0x020FF8 ≤ a) → (x < a ∨ a + 8 ≤ x) →
          nvRead t x 1 = nvRead s x 1 ∧ t.nv.keys = s.nv.keys)
      ∧ t.tiles = [] ∧ t.mem = [] ∧ logUnread t = 0 ∧ t.log.words = [] ∧ t.log.snapTag = none ∧ t.defaultsDue = true
      ∧ t.pending = s.pending ∧ (t.load.primaryDue = true ↔ st.bootSel = 0))
  ∧ (∀ (s : State) (st : Straps), ∃ t : State, exec (.coldReset st) s = .next t ∧ rd t A.PWR_RESET F.PWR_RESET_LAST = 1
      ∧ t.time = 0 ∧ t.straps = st ∧ t.nv.bytes = s.nv.bytes ∧ t.nv.keys = s.nv.keys ∧ t.nv.ledger = s.nv.ledger
      ∧ t.tiles = [] ∧ t.mem = [] ∧ logUnread t = logUnread s ∧ t.log.words = s.log.words
      ∧ t.recorder.mirror = s.recorder.mirror ∧ linkUp t = false ∧ t.defaultsDue = true ∧ t.pending = s.pending)
  ∧ (∀ s : State, s.resetDue = false → exec .deviceReset s = .next s)
  ∧ (∀ s : State, s.resetDue = true → ∃ t : State, exec .deviceReset s = .next t ∧ rd t A.PWR_RESET F.PWR_RESET_LAST = 2
      ∧ t.resetDue = false ∧ t.time = s.time ∧ t.straps = s.straps ∧ t.nv.bytes = s.nv.bytes ∧ t.tiles = [] ∧ t.mem = []
      ∧ logUnread t = logUnread s ∧ t.log.words = s.log.words ∧ t.recorder.mirror = s.recorder.mirror
      ∧ linkUp t = linkUp s ∧ t.pending = s.pending
      ∧ t.defaults.hostRegs = [] ∧ (isAnchor s = true → ∀ r ∈ ringsOn s, ringState t r = 0
          ∧ rd t (A.RING_STATUS r) F.RING_STATUS_ERR = statusCode .aborted))

namespace Sys2Proof.Claims

open Sys2Proof.Machine

/-- The 16 bytes of an image command (spec 12 R446). -/
def cmdBytes (op flags : Nat) (a0 : BitVec 32) (a1 : Nat) : List Byte :=
  [BitVec.ofNat 8 op, BitVec.ofNat 8 flags, 0, 0] ++ bytesLE 4 a0.toNat ++ bytesLE 8 a1

/-- The loader's read of the bytes `bs` at address `a` of the own tile space gives them: no tile that it touches refuses it or has to
wake first (spec 12 R473; spec 13 R503). -/
def tileGives (s : State) (a : Nat) (bs : List Byte) : Prop :=
  (∀ t ∈ spanTiles a bs.length, tileReadFault s t (tilePart a bs.length t).1 (tilePart a bs.length t).2 = none
      ∧ [1, 5, 6, 7, 8].contains (pwrState s (tileField t)) = false)
    ∧ memRead s a bs.length = bs

/-- The source gives the bytes `bs` at offset `off` of the image (spec 12 R473). -/
def sourceGives (s : State) (off : Nat) (bs : List Byte) : Prop := ∀ a : Nat, tileSource s off = some a → tileGives s a bs

/-- No tile has changed, where the image does not come out of tile space, whose reads work off the errors that they meet. -/
def tilesKept (s t : State) : Prop := tileSource s 0 = none → t.tiles = s.tiles

/-- The running body gives `bs` next: the first bytes of the decrypted segments, or, where the image is not encrypted, the bytes
`raw` from its source, within BODY_LEN and CFG_SRC_LEN (spec 12 R449, R453, R484). -/
def givesNext (s : State) (raw bs : List Byte) : Prop :=
  bodyRuns s = true ∧ (if hEnc s.load.hdr = true then ∃ rest, s.load.plain = bs ++ rest
    else raw = bs ∧ bs.length ≤ bodyLeft s ∧ srcRoom s bs.length = true ∧ sourceGives s (512 + s.load.stored.length) bs)

/-- The bytes `bs` of the body have been performed (spec 12 R450). -/
def performed (s t : State) (bs : List Byte) : Prop := t.load.text = s.load.text ++ bs ∧ t.load.fail = none

/-- The load has failed with cause `c`, whose status R458 gives; nothing was written. -/
def loadFails (s t : State) (c : Nat) : Prop := t.load.fail = some (c, causeStatus c) ∧ tilesKept s t

/-- Frame `k` of a WRITE_FRAMES with payload `p`. -/
def frameAt (repl : Bool) (p : List Byte) (k : Nat) : Frame := frameOf (sliceBytes p (if repl then 0 else 32 * k) 32)

/-- The region that SELECT_REGION set holds tile `i` (spec 12 R448). -/
def inRegion (s : State) (i : Nat) : Prop := ∀ f : Nat, s.load.region = some f → tileField i = f

/-- The frame `c` may go to slot `slot` of tile `i`, which no background test borrows (spec 12 R447 to R449, R469, R472). -/
def framePasses (s : State) (i slot : Nat) (c : Frame) : Prop :=
  inRegion s i ∧ frameCheck i slot c = .ok ∧ lentTile s i = false
    ∧ (hPartial s.load.hdr = true → pwrState s (hRegion s.load.hdr) ≠ 6 ∧ (slot ≠ 16 → (getT s i).cur.val ≠ slot))

/-- `c` is one of the commands of the body. -/
def isBodyCmd (raw : List Byte) (c : Instr) : Prop :=
  c = .imageNop raw ∨ c = .writeFrames raw ∨ c = .selectRegion raw ∨ c = .roll raw ∨ c = .chainPass raw ∨ c = .startup raw
    ∨ c = .crcCmd raw ∨ c = .endImage raw

/-- Every slot of the device is invalid, every static frame the factory's, start-up undone (spec 12 R442, R467). -/
def unconfigured (t : State) : Prop :=
  t.boot = {} ∧ ∀ i : Nat, i < 16384 → (getT t i).static = factoryStatic (tileKind i) ∧ ∀ k < 16, cFmt (slotFrame (getT t i) k) = 0

/-- A header has been taken by a load: one that fails its checks ends the load; a full image awaits its configuration reset; a
partial one runs on a configured device (spec 12 R442, R445, R468). -/
def headerTaken (s t : State) (h : List Byte) : Prop :=
  (tileSource t 0 = none → t.tiles = s.tiles) ∧ t.load.active = true ∧ rd t A.CFG_PROGRESS F.CFG_PROGRESS_BYTES = 512
    ∧ (headerCause s h ≠ 0 → t.load.fail = some (headerCause s h, causeStatus (headerCause s h)) ∧ t.load.body = false)
    ∧ (headerCause s h = 0 → hPartial h = false → t.load.fail = none ∧ t.load.resetDue = true ∧ t.load.hdr = h ∧ cfgState t = 1)
    ∧ (headerCause s h = 0 → hPartial h = true →
        (cfgState s = 3 → t.load.fail = none ∧ t.load.body = true ∧ t.load.hdr = h ∧ t.load.region = some (hRegion h)
          ∧ rd t (A.CFG_REGION (hRegion h)) F.CFG_REGION_STATE = 1)
        ∧ (cfgState s ≠ 3 → t.load.fail = some (1, .configSelect)))

/-- Step code `c` of the start-up is done; after the last one the device is configured (spec 12 R465, R466). -/
def stepTaken (s t : State) (c : Nat) : Prop :=
  rd t A.CFG_STATUS F.CFG_STATUS_STEPS = Nat.lor (rd s A.CFG_STATUS F.CFG_STATUS_STEPS) (2 ^ c)
    ∧ (s.load.steps.drop 1 ≠ [] → t.load = { s.load with steps := s.load.steps.drop 1 } ∧ cfgState t = cfgState s)
    ∧ (s.load.steps.drop 1 = [] → t.load = {} ∧ cfgState t = 3 ∧ rd t A.CFG_STATUS F.CFG_STATUS_IMAGE_ID = hImage s.load.hdr
        ∧ rd t A.CFG_STATUS F.CFG_STATUS_CAUSE = 0 ∧ rd t A.CFG_STATUS F.CFG_STATUS_LAST_STATUS = 0)

/-- What becomes of a failed load (spec 12 R458, R462, R471, R473). -/
def failureWorked (s t : State) (c : Nat) (st : Status) : Prop :=
  rd t A.CFG_STATUS F.CFG_STATUS_CAUSE = c ∧ rd t A.CFG_STATUS F.CFG_STATUS_LAST_STATUS = statusCode st
    ∧ t.load.active = false ∧ t.load.fail = none
    ∧ (s.load.source = 1 → cfgState t = 0 ∧ t.load.goldenDue = true ∧ unconfigured t)
    ∧ (s.load.source = 2 → cfgState t = 4 ∧ t.load.goldenDue = false ∧ unconfigured t)
    ∧ (s.load.source ≠ 1 → s.load.source ≠ 2 → hPartial s.load.hdr = true →
        cfgState t = cfgState s
        ∧ (hRegion s.load.hdr < 64 → rd t (A.CFG_REGION (hRegion s.load.hdr)) F.CFG_REGION_STATE = 3
            ∧ rd t (A.CFG_REGION (hRegion s.load.hdr)) F.CFG_REGION_LAST_STATUS = statusCode st)
        ∧ ((∀ x ∈ s.load.written, x % 32 < 16 ∧ lentTile s (x / 32) = false) → ∀ x ∈ s.load.written, cFmt (slotFrame (getT t (x / 32)) (x % 32)) = 0))
    ∧ (s.load.source = 3 → hPartial s.load.hdr = false → cfgState t = 0 ∧ unconfigured t)
    ∧ (3 < s.load.source → hPartial s.load.hdr = false →
        (s.load.hdr = [] → s.load.ended = false → cfgState t = s.load.prior % 8 ∧ t.tiles = s.tiles)
        ∧ (s.load.hdr ≠ [] ∨ s.load.ended = true → cfgState t = 4 ∧ unconfigured t))

end Sys2Proof.Claims

/-- The commands of an image body complete: frames written, region, key roll, chain bytes, order word, checks, END
(R446, R447, R448, R449, R450, R453, R454, R455, R461, R463, R465, R470). While the engine clock runs: whenever a
running body gives the command next (from decrypted segments or, in an image that is not encrypted, from the source):
NOP does nothing more; WRITE_FRAMES puts its frames into the slots (static frames of a partial image into the staging
store), and a frame that lies outside the region, fails its check or names a live slot ends the load; SELECT_REGION,
ROLL, CHAIN_PASS, STARTUP and CRC act as the table of R446 says; a CHAIN_PASS that goes beyond the segments held
leaves the rest to the next ones; END with every check passed ends the body, and a full image goes on to its start-up
or waits for CHN_DONE. A segment is opened when no whole command is left of those before; one whose tag holds gives
its plaintext; one that fails does not. Wrong CRCs, unknown opcodes and truncated bodies end the load with their
causes. No body command acts while no body runs. Where the rules leave a corner open, the model's choice of assumption
log 42, 43, 51 is what is stated. -/
def Obligations.ImageBody : Prop :=
  (∀ (s : State) (raw : List Byte), bodyRuns s = false → ∀ c : Instr, isBodyCmd raw c → exec c s = .next s)
  ∧ (∀ (s : State) (raw : List Byte), s.asleep = false → bodyRuns s = true → hEnc s.load.hdr = false → bodyLeft s < 16 → raw.length = bodyLeft s →
      srcRoom s raw.length = true → sourceGives s (512 + s.load.stored.length) raw →
      ∀ c : Instr, isBodyCmd raw c → ∃ t : State, exec c s = .next t ∧ loadFails s t 3)
  ∧ (∀ (s : State) (raw bs : List Byte), s.asleep = false → givesNext s raw bs → bs.length = 16 → imageOps.contains (leAt bs 0 1) = false →
      ∀ c : Instr, isBodyCmd raw c → ∃ t : State, exec c s = .next t ∧ loadFails s t 1)
  ∧ (∀ (s : State) (raw : List Byte), s.asleep = false → givesNext s raw (cmdBytes 0 0 0 0) →
      ∃ t : State, exec (.imageNop raw) s = .next t ∧ performed s t (cmdBytes 0 0 0 0) ∧ tilesKept s t)
  ∧ (∀ (s : State) (raw p : List Byte) (repl : Bool) (n : BitVec 32) (a : Nat), s.asleep = false →
      1 ≤ n.toNat → a / 32 + n.toNat ≤ 16384 → p.length = 32 * (if repl then 1 else n.toNat) →
      givesNext s raw (cmdBytes 1 (if repl then 1 else 0) n a ++ p) →
      ((∀ k < n.toNat, framePasses s (a / 32 + k) (a % 32) (frameAt repl p k)) →
        ∃ t : State, exec (.writeFrames raw) s = .next t ∧ performed s t (cmdBytes 1 (if repl then 1 else 0) n a ++ p)
          ∧ ((hPartial s.load.hdr = false ∨ a % 32 ≠ 16) →
              ∀ k < n.toNat, slotFrame (getT t (a / 32 + k)) (a % 32) = frameAt repl p k)
          ∧ (hPartial s.load.hdr = true → a % 32 = 16 → tilesKept s t
              ∧ ∀ k < n.toNat, smGet 0 t.load.staged (a / 32 + k) = frameAt repl p k))
      ∧ (¬inRegion s (a / 32) → ∃ t : State, exec (.writeFrames raw) s = .next t ∧ loadFails s t 0x20)
      ∧ (inRegion s (a / 32) → frameCheck (a / 32) (a % 32) (frameAt repl p 0) ≠ .ok →
        ∃ t : State, exec (.writeFrames raw) s = .next t ∧ tilesKept s t
          ∧ t.load.fail = some (0x21, frameCheck (a / 32) (a % 32) (frameAt repl p 0)))
      ∧ (inRegion s (a / 32) → frameCheck (a / 32) (a % 32) (frameAt repl p 0) = .ok → hPartial s.load.hdr = true →
        pwrState s (hRegion s.load.hdr) ≠ 6 → a % 32 ≠ 16 → (userTile s (a / 32)).cur.val = a % 32 →
        ∃ t : State, exec (.writeFrames raw) s = .next t ∧ loadFails s t 0x09))
  ∧ (∀ (s : State) (raw : List Byte) (f : BitVec 32), s.asleep = false → (f.toNat < 64 ∨ f.toNat = 0x7F) → givesNext s raw (cmdBytes 2 0 f 0) →
      ((hPartial s.load.hdr = true → f.toNat = hRegion s.load.hdr) →
        ∃ t : State, exec (.selectRegion raw) s = .next t ∧ performed s t (cmdBytes 2 0 f 0) ∧ tilesKept s t
          ∧ t.load.region = if f.toNat = 0x7F then none else some f.toNat)
      ∧ (hPartial s.load.hdr = true → f.toNat ≠ hRegion s.load.hdr →
        ∃ t : State, exec (.selectRegion raw) s = .next t ∧ loadFails s t 1))
  ∧ (∀ (s : State) (raw : List Byte), s.asleep = false → givesNext s raw (cmdBytes 3 0 0 0) →
      (hEnc s.load.hdr = true → s.load.plain = cmdBytes 3 0 0 0 →
        ∃ t : State, exec (.roll raw) s = .next t ∧ performed s t (cmdBytes 3 0 0 0) ∧ t.load.key = nextKey s.load.key s.load.keyIdx
          ∧ t.load.keyIdx = s.load.keyIdx + 1 ∧ t.load.keyBytes = 0)
      ∧ ((hEnc s.load.hdr = false ∨ s.load.plain.length ≠ 16) →
        ∃ t : State, exec (.roll raw) s = .next t ∧ loadFails s t 1))
  ∧ (∀ (s : State) (raw p : List Byte) (n : BitVec 32), s.asleep = false → n ≠ 0 → p.length = n.toNat → givesNext s raw (cmdBytes 4 0 n 0 ++ p) →
      ((hPartial s.load.hdr = false ∧ rd s A.CFG_CHAIN_CTL F.CFG_CHAIN_CTL_MODE = 1) →
        ∃ t : State, exec (.chainPass raw) s = .next t ∧ performed s t (cmdBytes 4 0 n 0 ++ p)
          ∧ t.chain.out = s.chain.out ++ (if s.straps.bootSel = 0 ∨ s.straps.bootSel = 2 then p else []))
      ∧ ((hPartial s.load.hdr = true ∨ rd s A.CFG_CHAIN_CTL F.CFG_CHAIN_CTL_MODE ≠ 1) →
        ∃ t : State, exec (.chainPass raw) s = .next t ∧ loadFails s t 1 ∧ t.chain = s.chain))
  ∧ (∀ (s : State) (raw p : List Byte) (n : BitVec 32), s.asleep = false → bodyRuns s = true → hEnc s.load.hdr = true →
      s.load.plain = cmdBytes 4 0 n 0 ++ p → p.length < n.toNat → bodyLeft s ≠ 0 → hPartial s.load.hdr = false →
      rd s A.CFG_CHAIN_CTL F.CFG_CHAIN_CTL_MODE = 1 →
      ∃ t : State, exec (.chainPass raw) s = .next t ∧ performed s t (cmdBytes 4 0 n 0 ++ p) ∧ t.load.pass = n.toNat - p.length
        ∧ t.load.plain = [] ∧ t.chain.out = s.chain.out ++ (if s.straps.bootSel = 0 ∨ s.straps.bootSel = 2 then p else []))
  ∧ (∀ (s : State) (raw : List Byte) (w : BitVec 32), s.asleep = false → givesNext s raw (cmdBytes 5 0 w 0) →
      (w.toNat < 256 → orderOk w.toNat = true → hPartial s.load.hdr = false → s.load.order = none →
        ∃ t : State, exec (.startup raw) s = .next t ∧ performed s t (cmdBytes 5 0 w 0) ∧ t.load.order = some w.toNat)
      ∧ ((256 ≤ w.toNat ∨ orderOk w.toNat = false ∨ hPartial s.load.hdr = true ∨ s.load.order ≠ none) →
        ∃ t : State, exec (.startup raw) s = .next t ∧ loadFails s t 1))
  ∧ (∀ (s : State) (raw : List Byte) (x : BitVec 32), s.asleep = false → givesNext s raw (cmdBytes 6 0 x 0) →
      (crc32c s.load.text = x.toNat → ∃ t : State, exec (.crcCmd raw) s = .next t ∧ performed s t (cmdBytes 6 0 x 0))
      ∧ (crc32c s.load.text ≠ x.toNat → ∃ t : State, exec (.crcCmd raw) s = .next t ∧ loadFails s t 4))
  ∧ (∀ (s : State) (raw : List Byte) (x : BitVec 32) (z : Nat) (bs : List Byte), s.asleep = false → bs = cmdBytes 15 0 x 0 ++ List.replicate z 0 →
      givesNext s raw bs → (hEnc s.load.hdr = true → s.load.plain = bs ∧ bodyLeft s = 0) →
      (hEnc s.load.hdr = false → bs.length = bodyLeft s) →
      (crc32c s.load.text ≠ x.toNat → ∃ t : State, exec (.endImage raw) s = .next t ∧ loadFails s t 4)
      ∧ (crc32c s.load.text = x.toNat → hSigned s.load.hdr = true →
          sha384 (s.load.stored ++ (if hEnc s.load.hdr = true then [] else bs)) ≠ hDigest s.load.hdr →
          ∃ t : State, exec (.endImage raw) s = .next t ∧ loadFails s t 0x15)
      ∧ (crc32c s.load.text = x.toNat → (hSigned s.load.hdr = true →
          sha384 (s.load.stored ++ (if hEnc s.load.hdr = true then [] else bs)) = hDigest s.load.hdr) →
          (hPartial s.load.hdr = false →
            ∃ t : State, exec (.endImage raw) s = .next t ∧ t.load.ended = true ∧ t.chain.released = true ∧ cfgState t = 2
              ∧ t.load.steps = orderSteps (s.load.order.getD (rd s A.CFG_STARTUP_ORDER F.CFG_STARTUP_ORDER_DEFAULT))
              ∧ t.load.starting = decide (rd s A.CFG_CHAIN_CTL F.CFG_CHAIN_CTL_USE_DONE = 0) ∧ tilesKept s t)
          ∧ (hPartial s.load.hdr = true → pwrState s (hRegion s.load.hdr) ≠ 6 → s.load.staged = [] →
            ∃ t : State, exec (.endImage raw) s = .next t ∧ tilesKept s t ∧ t.load.active = false
              ∧ rd t (A.CFG_REGION (hRegion s.load.hdr)) F.CFG_REGION_STATE = 0
              ∧ rd t (A.CFG_REGION (hRegion s.load.hdr)) F.CFG_REGION_IMAGE_ID = hImage s.load.hdr)
          ∧ (hPartial s.load.hdr = true → pwrState s (hRegion s.load.hdr) ≠ 6 → s.load.staged ≠ [] → hIsolate s.load.hdr = false →
            isolated s (hRegion s.load.hdr) = false → ∃ t : State, exec (.endImage raw) s = .next t ∧ loadFails s t 0x20)))
  ∧ (∀ (s : State) (seg : List Byte) (n : Nat), s.asleep = false → bodyRuns s = true → hEnc s.load.hdr = true → n = leAt seg 0 4 →
      8 ≤ bodyLeft s → 8 ≤ seg.length → commandHeld s = false → sourceGives s (512 + s.load.stored.length) seg →
      ((zeroAt seg 4 4 = false ∨ n < 16 ∨ 1048576 < n ∨ n % 16 ≠ 0 ∨ bodyLeft s < n + 24) →
        ∃ t : State, exec (.segmentDecrypt seg) s = .next t ∧ loadFails s t 0x13)
      ∧ (zeroAt seg 4 4 = true → 16 ≤ n → n ≤ 1048576 → n % 16 = 0 → n + 24 ≤ bodyLeft s → seg.length = n + 24 →
        srcRoom s (n + 24) = true →
        ∃ t : State, exec (.segmentDecrypt seg) s = .next t ∧ t.load.stored = s.load.stored ++ seg ∧ tilesKept s t
          ∧ (match aesGcmOpen s.load.key (hIv s.load.hdr ++ be32 s.load.segs) (seg.take 8) ((seg.drop 8).take n)
                (seg.drop (8 + n)) with
            | none => t.load.fail = some (0x13, .configAuth) ∧ t.load.plain = s.load.plain
            | some pt => t.load.segs = s.load.segs + 1
                ∧ (if max 1 (rd s A.CFG_KEY_CTL F.CFG_KEY_CTL_ROLL_MAX) * 1048576 < s.load.keyBytes + n then
                    t.load.fail = some (0x14, .configAuth)
                  else t.load.plain = s.load.plain ++ pt.drop s.load.pass ∧ t.load.text = s.load.text ++ pt.take s.load.pass
                    ∧ t.load.pass = s.load.pass - pt.length
                    ∧ t.load.fail = (if pt.length < s.load.pass ∧ bodyLeft t = 0 then some (3, .length) else none)))))
  ∧ (∀ (s : State) (seg : List Byte), (bodyRuns s = false ∨ hEnc s.load.hdr = false ∨ commandHeld s = true) → exec (.segmentDecrypt seg) s = .next s)

/-- Loads begin, fail, start up and end; the auditor checks: every command of the loader completes with its effect
(R442, R445, R456, R457, R458, R462, R463, R464, R466, R470, R472, R473). While the engine clock runs: FLASH_LOAD,
CHAIN_START (which may bring it in parts) and START take a header: its first failed check ends the load, a full image
awaits its CONFIGURATION_RESET, which leaves every context invalid and every static frame the factory one, a partial
one runs on a configured device. LOAD_TIMEOUT, CHAIN_ABANDON, CHAIN_ERROR, ISOLATE_TIMEOUT and ABORT end a load with
their causes; LOAD_FAILURE records cause and status and falls back, drops the configuration or undoes the partial
load. CHAIN_ERROR fails also a load that is over. CHN_DONE_START, WAIT_LOCK (until burners and PLLs are ready, or
late), OUT, WEN and SRST go through the start-up, the last step configures. STATIC_FRAME_COMMIT writes the staged
frames. RELOAD_FLASH starts again. A second load sets START_IGNORED. The auditor steps through the frames, and records
and, under ACTION, invalidates a bad one. Where the rules leave a corner open, the model's choice of assumption log
40, 41, 43, 45 is what is stated. -/
def Obligations.ImageLoads : Prop :=
  (∀ (s : State) (golden oct : Bool) (h : List Byte), s.asleep = false → h.length = 512 →
      ((s.load.active = true ∨ (if golden then s.load.goldenDue else s.load.primaryDue) = false) →
        exec (.flashLoad golden oct h) s = .next s)
      ∧ (s.load.active = false → (if golden then s.load.goldenDue else s.load.primaryDue) = true →
        ∃ t : State, exec (.flashLoad golden oct h) s = .next t ∧ headerTaken s t h
          ∧ rd t A.CFG_STATUS F.CFG_STATUS_SOURCE = (if golden then 2 else 1)
          ∧ t.flash.addr = 4096 * rd s A.CFG_FLASH_MAP (if golden then F.CFG_FLASH_MAP_GOLDEN else F.CFG_FLASH_MAP_PRIMARY)
          ∧ t.flash.cs = rdB s A.CFG_FLASH_MAP (if golden then F.CFG_FLASH_MAP_GOLDEN_CS else F.CFG_FLASH_MAP_PRIMARY_CS)
          ∧ rd t A.CFG_STATUS F.CFG_STATUS_SDR
              = (if oct = false ∨ rd s A.CFG_FLASH_MAP F.CFG_FLASH_MAP_FORCE_SDR = 1 then 1 else 0)))
  ∧ (∀ (s : State) (h : List Byte), s.asleep = false → 1 ≤ h.length → h.length ≤ 512 →
      (s.straps.bootSel ≠ 2 → exec (.chainStart h) s = .next s)
      ∧ (s.straps.bootSel = 2 → chainFree s = true →
        ∃ t : State, exec (.chainStart h) s = .next t ∧ rd t A.CFG_STATUS F.CFG_STATUS_SOURCE = 3 ∧ t.load.active = true
          ∧ (h.length = 512 → headerTaken s t h)
          ∧ (h.length < 512 → t.load.head = h ∧ t.load.took = false ∧ t.tiles = s.tiles
              ∧ rd t A.CFG_PROGRESS F.CFG_PROGRESS_BYTES = h.length))
      ∧ (s.straps.bootSel = 2 → chainFree s = false → s.load.source ≠ 3 →
        ∃ t : State, exec (.chainStart h) s = .next t ∧ t.load = s.load ∧ rd t A.CFG_STATUS F.CFG_STATUS_START_IGNORED = 1)
      ∧ (s.straps.bootSel = 2 → chainFree s = false → s.load.active = true → s.load.source = 3 → s.load.took = false →
        s.load.fail = none → s.load.hdr = [] → s.load.body = false → s.load.stored = [] → s.load.head.length + h.length = 512 →
        ∃ t : State, exec (.chainStart h) s = .next t ∧ headerTaken s t (s.load.head ++ h)))
  ∧ (∀ s : State,
      (s.load.active = true → s.load.resetDue = true → s.load.fail = none →
        ∃ t : State, exec .configurationReset s = .next t ∧ unconfigured t ∧ t.load.resetDue = false ∧ t.load.body = true
          ∧ ∀ f : Fin 64, getR t (A.CFG_REGION f) = 0)
      ∧ ((s.load.active = false ∨ s.load.resetDue = false ∨ s.load.fail ≠ none) → exec .configurationReset s = .next s))
  ∧ (∀ s : State, s.asleep = false → s.load.active = true → s.load.fail = none →
      (s.load.ended = false → (s.load.source = 1 ∨ s.load.source = 2 ∨ s.load.source = 3) →
        ∃ t : State, exec .loadTimeout s = .next t ∧ loadFails s t 5)
      ∧ (s.load.ended = false → s.load.source = 3 → ∃ t : State, exec .chainAbandon s = .next t ∧ loadFails s t 8)
      ∧ (s.load.isoAsked = true → isolated s (hRegion s.load.hdr) = false →
        ∃ t : State, exec .isolateTimeout s = .next t ∧ loadFails s t 0x0A))
  ∧ (∀ s : State, s.asleep = false →
      (s.chain.due = none → exec .chainError s = .next s)
      ∧ (∀ off : Nat, s.chain.due = some off → ∃ t : State, exec .chainError s = .next t ∧ t.chain.due = none ∧ t.tiles = s.tiles
        ∧ t.load.active = true ∧ t.load.ended = true
        ∧ (s.load.active = true → s.load.ended = true → hPartial s.load.hdr = false → s.load.fail = none → loadFails s t 8
            ∧ t.load.source = s.load.source)
        ∧ ((s.load.active = false ∨ s.load.ended = false ∨ hPartial s.load.hdr = true) → loadFails s t 8
            ∧ t.load.source = rd s A.CFG_STATUS F.CFG_STATUS_SOURCE ∧ t.load.offset = some off)))
  ∧ (∀ s : State, s.load.active = false → ∀ c ∈ [Instr.loadTimeout, .chainAbandon, .isolateTimeout,
      .outStep, .wen, .srst, .staticFrameCommit, .configurationReset], exec c s = .next s)
  ∧ (∀ (s : State) (r : Option Status) (c : Nat) (st : Status), s.asleep = false → s.load.fail = some (c, st) → c < 256 →
      ∃ t : State, exec (.loadFailure r) s = .next t ∧ failureWorked s t c st)
  ∧ (∀ (s : State) (st : Status), s.asleep = false → s.load.active = true → s.load.ended = false → s.load.fail = none →
      tileSource s 0 = none →
      (isFailure st = true → ∃ t : State, exec (.loadFailure (some st)) s = .next t ∧ failureWorked s t 6 st)
      ∧ (isFailure st = false → exec (.loadFailure (some st)) s = .next s))
  ∧ (∀ s : State, s.asleep = false → s.load.fail = none → exec (.loadFailure none) s = .next s)
  ∧ (∀ s : State, s.asleep = false → s.load.active = true → s.load.ended = true → hPartial s.load.hdr = false → s.load.starting = false →
      s.load.fail = none → s.chain.released = true → ∃ t : State, exec .chnDoneStart s = .next t
        ∧ t.load = { s.load with starting := true } ∧ t.chain = { s.chain with due := none })
  ∧ (∀ s : State, s.chain.released = false → exec .chnDoneStart s = .next s)
  ∧ (∀ s : State, s.asleep = false →
      (stepDue s 0 = true →
        (openBurners s = [] → openPlls s = [] → ∀ late : Bool, ∃ t : State, exec (.waitLock late) s = .next t ∧ stepTaken s t 0)
        ∧ ((openBurners s ≠ [] ∨ openPlls s ≠ []) → exec (.waitLock false) s = .next s
          ∧ ∃ t : State, exec (.waitLock true) s = .next t ∧ stepTaken s t 0 ∧ rd t A.CFG_STATUS F.CFG_STATUS_LOCK_LATE = 1))
      ∧ (stepDue s 1 = true → ∃ t : State, exec .outStep s = .next t ∧ stepTaken s t 1 ∧ t.boot.out = true)
      ∧ (stepDue s 2 = true → ∃ t : State, exec .wen s = .next t ∧ stepTaken s t 2 ∧ t.boot = { s.boot with wen := true })
      ∧ (stepDue s 3 = true → ∃ t : State, exec .srst s = .next t ∧ stepTaken s t 3 ∧ t.boot = { s.boot with srst := true }))
  ∧ (∀ s : State, s.asleep = false → s.load.active = true → s.load.ended = true → hPartial s.load.hdr = true → s.load.fail = none →
      isolated s (hRegion s.load.hdr) = true → smWf (fun _ => (0 : Frame)) s.load.staged = true →
      (∀ x ∈ s.load.staged, lentTile s x.1 = false) →
      ∃ t : State, exec .staticFrameCommit s = .next t ∧ t.load.active = false
        ∧ (∀ x ∈ s.load.staged, slotFrame (getT t x.1) 16 = x.2)
        ∧ rd t (A.CFG_REGION (hRegion s.load.hdr)) F.CFG_REGION_STATE = 0
        ∧ rd t (A.CFG_REGION (hRegion s.load.hdr)) F.CFG_REGION_IMAGE_ID = hImage s.load.hdr)
  ∧ (∀ (s : State) (v : Reg) (hr : HostRead), s.asleep = false → s.defaultsDue = false → getFld v F.CFG_CTL_START = 1 → getFld v F.CFG_CTL_ABORT = 0 →
      getFld v F.CFG_CTL_RELOAD_FLASH = 0 →
      (loaderBusy s = true → awaitsHeader s = false → ∃ t : State, exec (.cfgStart v hr) s = .next t ∧ t.load = s.load
        ∧ rd t A.CFG_STATUS F.CFG_STATUS_START_IGNORED = 1)
      ∧ (loaderBusy s = false →
        ∃ t : State, exec (.cfgStart v hr) s = .next t ∧ rd t A.CFG_STATUS F.CFG_STATUS_SOURCE = 4
          ∧ (0x40000000 ≤ srcAddr s % 2 ^ 48 → t.tiles = s.tiles)
          ∧ (srcOk s = false → t.load.fail = some (6, .badAddress))
          ∧ (srcOk s = true → rd s A.CFG_SRC_LEN F.CFG_SRC_LEN_LEN < 512 → t.load.fail = some (3, .length))
          ∧ (srcOk s = true → 512 ≤ rd s A.CFG_SRC_LEN F.CFG_SRC_LEN_LEN → imageOpen s 0 = false →
              t.load.fail = some (6, .badAddress))
          ∧ (srcOk s = true → 512 ≤ rd s A.CFG_SRC_LEN F.CFG_SRC_LEN_LEN → imageOpen s 0 = true →
            (∀ e : HostFail, hr = .fail e → 0x40000000 ≤ srcAddr s % 2 ^ 48 → t.load.fail = some (6, hostFailStatus e))
            ∧ (∀ h : List Byte, hr = .ok h → h.length = 512 →
              (0x40000000 ≤ srcAddr s % 2 ^ 48 ∨ tileGives s (srcAddr s % 2 ^ 48) h) →
              ((cfgState s = 3 ∧ hPartial h = false ∧ getFld v F.CFG_CTL_FORCE_FULL = 0) →
                t.load.fail = some (1, .configSelect))
              ∧ (¬(cfgState s = 3 ∧ hPartial h = false ∧ getFld v F.CFG_CTL_FORCE_FULL = 0) → headerTaken s t h))
            ∧ (∀ (h : List Byte) (st : Status), hr = .ok h → h.length = 512 → srcAddr s % 2 ^ 48 < 0x40000000 →
              (spanTiles (srcAddr s % 2 ^ 48) 512).findSome? (fun i => tileReadFault s i (tilePart (srcAddr s % 2 ^ 48) 512 i).1
                (tilePart (srcAddr s % 2 ^ 48) 512 i).2) = some st → t.load.fail = some (6, st)))))
  ∧ (∀ (s : State) (v : Reg), s.asleep = false → s.defaultsDue = false → getFld v F.CFG_CTL_ABORT = 1 → getFld v F.CFG_CTL_START = 0 →
      getFld v F.CFG_CTL_RELOAD_FLASH = 0 →
      ∃ t : State, exec (.cfgAbort v) s = .next t ∧ t.tiles = s.tiles ∧ rd t A.CFG_CTL F.CFG_CTL_IE = getFld v F.CFG_CTL_IE
        ∧ (s.load.active = true → s.load.fail = none → t.load.fail = some (7, .aborted))
        ∧ (s.load.active = false → s.load.primaryDue = true → t.load.fail = some (7, .aborted) ∧ t.load.source = 1)
        ∧ (loaderBusy s = false → t.load = s.load))
  ∧ (∀ (s : State) (v : Reg), s.asleep = false → s.defaultsDue = false → getFld v F.CFG_CTL_RELOAD_FLASH = 1 → getFld v F.CFG_CTL_START = 0 →
      getFld v F.CFG_CTL_ABORT = 0 →
      (loaderBusy s = true → ∃ t : State, exec (.reloadFlash v) s = .next t ∧ t.load = s.load ∧ t.tiles = s.tiles
        ∧ rd t A.CFG_STATUS F.CFG_STATUS_START_IGNORED = 1)
      ∧ (loaderBusy s = false → ∃ t : State, exec (.reloadFlash v) s = .next t ∧ t.load = { primaryDue := true }
        ∧ cfgState t = 1 ∧ unconfigured t))
  ∧ (∀ (s : State) (i k : Nat) (c : Frame), s.asleep = false → i < 16384 → k < 17 → s.auditPos = 17 * i + k → c = slotFrame (getT s i) k →
      ∃ t : State, exec .auditorCheck s = .next t ∧ t.auditPos = (17 * i + k + 1) % 278528
        ∧ ((cFmt c = 0 ∨ fb c 15 0 = frameCrc c) → t.tiles = s.tiles
            ∧ rd t A.CFG_AUDIT_STATUS F.CFG_AUDIT_STATUS_MISMATCH_CNT = rd s A.CFG_AUDIT_STATUS F.CFG_AUDIT_STATUS_MISMATCH_CNT)
        ∧ (cFmt c ≠ 0 → fb c 15 0 ≠ frameCrc c →
            rd t A.CFG_AUDIT_STATUS F.CFG_AUDIT_STATUS_MISMATCH = 1
            ∧ rd t A.CFG_AUDIT_STATUS F.CFG_AUDIT_STATUS_LAST_BAD = 32 * i + k
            ∧ rd t A.CFG_AUDIT_STATUS F.CFG_AUDIT_STATUS_MISMATCH_CNT
                = min (rd s A.CFG_AUDIT_STATUS F.CFG_AUDIT_STATUS_MISMATCH_CNT + 1) 0xFFFF
            ∧ (rd s A.CFG_AUDIT_CTL F.CFG_AUDIT_CTL_ACTION = 1 → k < 16 → slotFrame (getT t i) k = clearFmt c)
            ∧ ((rd s A.CFG_AUDIT_CTL F.CFG_AUDIT_CTL_ACTION = 0 ∨ k = 16) → t.tiles = s.tiles)))
  ∧ (∀ (s : State) (ok : Bool), s.asleep = false →
      ((s.auditPos ≠ 0 ∨ ok = true) → exec (.auditorSelfCheck ok) s = .next s)
      ∧ (s.auditPos = 0 → ok = false → ∃ t : State, exec (.auditorSelfCheck ok) s = .next t ∧ t.tiles = s.tiles
        ∧ rd t A.CFG_AUDIT_STATUS F.CFG_AUDIT_STATUS_SELF_FAIL = 1))
  ∧ (∀ (s : State) (r : BitVec 8), s.asleep = false → ∃ t : State, exec (.auditorVote r) s = .next t ∧ t.tiles = s.tiles
      ∧ rd t A.CFG_AUDIT_STATUS F.CFG_AUDIT_STATUS_VOTED = 1)

namespace Sys2Proof.Claims

open Sys2Proof.Machine

/-- Nothing but device time, the cycles of running compute clocks, the age of the last recorder commit and FLR_BUSY, which reads 0, differs
while no PEEK access waits; one that waits may go out (spec 07 R265; spec 08 R328; spec 13 R487). -/
def onlyTime (s t : State) : Prop :=
  t.pending = s.pending ∧ t.tiles = s.tiles ∧ t.mem = s.mem
    ∧ (∀ f : Nat, f < 64 → getFS t f = { getFS s f with cycles := (getFS t f).cycles }
        ∧ (clockRuns s f = false → (getFS t f).cycles = (getFS s f).cycles))
    ∧ (s.host.peekWait = [] ∨ s.asleep = true →
        t = { s with time := t.time, fabTime := t.fabTime, regs := t.regs, fields := t.fields
                     recorder := { s.recorder with since := t.recorder.since } }
          ∧ rd t A.HIF_STATUS F.HIF_STATUS_FLR_BUSY = 0
          ∧ (∀ off : Nat, off ≠ A.HIF_STATUS → getR t off = getR s off)
          ∧ (rd s A.HIF_STATUS F.HIF_STATUS_FLR_BUSY = 0 → t.regs = s.regs))

end Sys2Proof.Claims

/-- A step runs the command at the front of the queue; on an empty queue only device time passes (a choice of the
model, log 2) (R487, R488). For every command c, queue q and state s: the step of s with queue c, q is exec of c on s
with the queue q, whatever the outcome. With an empty queue the step answers a next state that differs from s in
device time, the cycles of running compute clocks, the age of the last commit and FLR_BUSY, which reads 0, or in
nothing, but for a PEEK access that waits and goes out (DESIGN CHOICE of assumption log 2: the table has no row for a
clock tick). -/
def Obligations.StepRunsFront : Prop :=
  (∀ (c : Instr) (q : List Instr) (s : State), step { s with pending := c :: q } = exec c { s with pending := q })
  ∧ (∀ s : State, s.pending = [] → ∃ t : State, step s = .next t ∧ onlyTime s t)

/-- Every step keeps the canonical form of memory and takes exactly the front command off the queue (R103, R195,
R227). For every state whose memory is in canonical form (addresses strictly rising, no listed byte equal to the 0
that an unlisted address reads as): if a step answers a next state, its memory is in canonical form again, whichever
of the 351 commands it ran; and, in every state, the queue after the step is the queue before it without its front
command. -/
def Obligations.InvKept : Prop :=
  (∀ s t : State, s.Inv → step s = .next t → t.Inv)
  ∧ (∀ s t : State, step s = .next t → t.pending = s.rest)

/-- The state after reset satisfies the invariant and holds the values that the spec gives (R83, R103, R154, R227,
R480, R497, R551). At reset: the memory is canonical and every byte of tile space reads 0, no command waits, device
time is 0 and the device is UNCONFIGURED with start-up undone; in every tile the predicates, CNT and the current
context are 0, CNT_LIMIT is all ones, no word stands anywhere, every context slot is invalid and the static frame is
the factory one; every field is OFF, every ring OFF, the log empty, the PCIe link down, CHECK_RESULT 0xFE and the
start-up order 0xE4; a step completes. Where the rules leave a corner open, the model's choice of assumption log 18,
19, 20 is what is stated. -/
def Obligations.ResetState : Prop :=
  State.reset.Inv ∧ (∀ a : Nat, memGet State.reset a = 0) ∧ State.reset.pending = [] ∧ State.reset.time = 0
  ∧ cfgState State.reset = 0 ∧ State.reset.boot = {} ∧ linkUp State.reset = false ∧ logUnread State.reset = 0
  ∧ (∀ i : TileIx, (getT State.reset i).p0 = false ∧ (getT State.reset i).p1 = false ∧ (getT State.reset i).cnt = 0
      ∧ (getT State.reset i).cntLimit = 0xFFFFFFFF ∧ (getT State.reset i).cur = 0 ∧ (getT State.reset i).ends = []
      ∧ (getT State.reset i).latches = [] ∧ (getT State.reset i).pipe = [] ∧ (getT State.reset i).slots = []
      ∧ (getT State.reset i).static = factoryStatic (tileKind i))
  ∧ (∀ f : Fin 64, pwrState State.reset f = 6) ∧ (∀ r : Fin 4096, ringState State.reset r = 0)
  ∧ rd State.reset A.NVI_STATUS F.NVI_STATUS_CHECK_RESULT = 0xFE
  ∧ rd State.reset A.CFG_STARTUP_ORDER F.CFG_STARTUP_ORDER_DEFAULT = 0xE4
  ∧ ∃ t : State, step State.reset = .next t ∧ onlyTime State.reset t
end

