-- ==== Sys2Proof/Laws/Bytes.lean ====
section
/-! SUPPORT. What the byte stores of the device (the NV store, the recorder's images) read after a run of bytes has been
written: the run inside it, the old byte outside it. -/

namespace Sys2Proof.Machine

theorem smGet_append (d : Byte) (m n : SMap Byte) (k : Nat) (h : ∀ x ∈ m, x.1 ≠ k) : smGet d (m ++ n) k = smGet d n k := by
  induction m with
  | nil => rfl
  | cons x xs ih =>
    have h0 : k ≠ x.1 := fun e => h x (by simp) e.symm
    simp [smGet, h0]
    exact ih fun y hy => h y (by simp [hy])

theorem smGet_none (d : Byte) (m : SMap Byte) (k : Nat) (h : ∀ x ∈ m, x.1 ≠ k) : smGet d m k = d := by
  have := smGet_append d m [] k h
  simpa [smGet] using this

/-- A part of a map that keeps every entry of key `k` reads at `k` as the whole. -/
theorem smGet_filter_keep (d : Byte) (m : SMap Byte) (p : Nat → Bool) (k : Nat) (h : p k = true) :
    smGet d (m.filter fun c => p c.1) k = smGet d m k := by
  induction m with
  | nil => rfl
  | cons x xs ih =>
    by_cases hx : k = x.1
    · subst hx; simp [List.filter, h, smGet]
    · by_cases hp : p x.1 = true <;> simp [List.filter, hp, smGet, hx, ih]

theorem runCells_lower (d : Nat → Byte) (a : Nat) (bs : List Byte) : ∀ x ∈ runCells d a bs, a ≤ x.1 ∧ x.1 < a + bs.length := by
  induction bs generalizing a with
  | nil => simp [runCells]
  | cons b bs ih =>
    intro x hx
    simp only [runCells] at hx
    split at hx
    · have := ih (a + 1) x hx; simp; omega
    · rcases List.mem_cons.mp hx with rfl | hx
      · simp
      · have := ih (a + 1) x hx; simp; omega

/-- The cells of a run read as the run. -/
theorem smGet_runCells (d : Nat → Byte) (a k : Nat) (bs : List Byte) (n : SMap Byte) (h : k < bs.length)
    (hn : ∀ x ∈ n, x.1 ≠ a + k) : smGet (d (a + k)) (runCells d a bs ++ n) (a + k) = bs[k] := by
  induction bs generalizing a k with
  | nil => simp at h
  | cons b bs ih =>
    cases k with
    | zero =>
      simp only [runCells, Nat.add_zero, List.getElem_cons_zero] at hn ⊢
      split
      · rename_i e
        rw [smGet_append _ _ _ _ fun x hx => by have := runCells_lower d (a + 1) bs x hx; omega, smGet_none _ _ _ hn, e]
      · simp [smGet]
    | succ k =>
      have e : a + (k + 1) = a + 1 + k := by omega
      rw [e] at hn ⊢
      simp only [runCells, List.getElem_cons_succ]
      split
      · exact ih (a + 1) k (by simpa using h) hn
      · have e2 : a + 1 + k ≠ a := by omega
        simp only [List.cons_append, smGet, e2, if_false]
        exact ih (a + 1) k (by simpa using h) hn

/-- A byte inside the run reads as the run gives it. -/
theorem smGet_smFill_in (d : Nat → Byte) (m : SMap Byte) (a k : Nat) (bs : List Byte) (h : k < bs.length) :
    smGet (d (a + k)) (smFill d m a bs) (a + k) = bs[k] := by
  unfold smFill
  rw [List.append_assoc, smGet_append _ _ _ _ fun x hx => by simp at hx; omega]
  exact smGet_runCells d a k bs _ h fun x hx => by simp at hx; omega

/-- A byte outside the run reads as before. -/
theorem smGet_smFill_out (d : Nat → Byte) (m : SMap Byte) (a k : Nat) (bs : List Byte) (h : k < a ∨ a + bs.length ≤ k) :
    smGet (d k) (smFill d m a bs) k = smGet (d k) m k := by
  unfold smFill
  rcases h with h | h
  · by_cases hk : ∃ x ∈ m.filter (fun c => decide (c.1 < a)), x.1 = k
    · rw [List.append_assoc]
      have key : ∀ (l n : SMap Byte), (∃ x ∈ l, x.1 = k) → smGet (d k) (l ++ n) k = smGet (d k) l k := by
        intro l n
        induction l with
        | nil => simp
        | cons y ys ih =>
          intro hl
          by_cases hy : k = y.1
          · simp [smGet, hy]
          · simp only [List.cons_append, smGet, hy, if_false]
            refine ih ?_
            obtain ⟨x, hx, e⟩ := hl
            rcases List.mem_cons.mp hx with rfl | hx
            · exact absurd e.symm hy
            · exact ⟨x, hx, e⟩
      rw [key _ _ hk]
      exact smGet_filter_keep (d k) m (fun c => decide (c < a)) k (by simpa using h)
    · have h1 : smGet (d k) (m.filter (fun c => decide (c.1 < a))) k = d k := smGet_none _ _ _ fun x hx e => hk ⟨x, hx, e⟩
      rw [smGet_filter_keep (d k) m (fun c => decide (c < a)) k (by simpa using h)] at h1
      rw [h1]
      refine smGet_none _ _ _ fun x hx e => ?_
      simp only [List.mem_append] at hx
      rcases hx with (hx | hx) | hx
      · exact hk ⟨x, hx, e⟩
      · have := runCells_lower d a bs x hx; omega
      · simp at hx; omega
  · rw [smGet_append _ _ _ _ ?_]
    · exact smGet_filter_keep (d k) m (fun c => decide (a + bs.length ≤ c)) k (by simpa using h)
    · intro x hx
      simp only [List.mem_append] at hx
      rcases hx with hx | hx
      · simp at hx; omega
      · have := runCells_lower d a bs x hx; omega

/-- A part of the run read back. -/
theorem smBytes_smFill (d : Nat → Byte) (m : SMap Byte) (a o n : Nat) (bs : List Byte) (h : o + n ≤ bs.length) :
    smBytes d (smFill d m a bs) (a + o) n = (bs.drop o).take n := by
  apply List.ext_getElem
  · simp [smBytes]; omega
  · intro i h1 h2
    simp [smBytes] at h1
    have := smGet_smFill_in d m a (o + i) bs (by omega)
    simp only [smBytes, List.getElem_map, List.getElem_range, List.getElem_take, List.getElem_drop, Nat.add_assoc]
    exact this

/-- The NV store reads what was written to it. -/
theorem nvRead_nvWrite (s : State) (a o n : Nat) (bs : List Byte) (h : o + n ≤ bs.length) :
    nvRead (nvWrite s a bs) (a + o) n = (bs.drop o).take n := smBytes_smFill nvErased s.nv.bytes a o n bs h

/-- Bytes apart from the run read as before. -/
theorem nvRead_nvWrite_out (s : State) (a b n : Nat) (bs : List Byte) (h : b + n ≤ a ∨ a + bs.length ≤ b) :
    nvRead (nvWrite s a bs) b n = nvRead s b n := by
  apply List.map_congr_left
  intro k hk
  have := List.mem_range.mp hk
  exact smGet_smFill_out nvErased s.nv.bytes a (b + k) bs (by omega)

end Sys2Proof.Machine
end

