-- ==== Sys2Proof/Laws/Maps.lean ====
section
/-! SUPPORT. The sparse maps: what a read after a write gives, and that a write keeps the canonical form; the same for memory. -/

namespace Sys2Proof.Laws

open Machine

variable {V : Type} [DecidableEq V]

omit [DecidableEq V] in
theorem smGet_filter_same (d : V) (m : SMap V) (k : Nat) : smGet d (m.filter (fun x => decide (x.1 ≠ k))) k = d := by
  induction m with
  | nil => rfl
  | cons x xs ih =>
    obtain ⟨a, v⟩ := x
    by_cases h : a = k
    · simpa [h] using ih
    · have h' : k ≠ a := fun e => h e.symm
      simp [h, smGet, h'] at ih ⊢
      exact ih

omit [DecidableEq V] in
theorem smGet_filter_ne (d : V) (m : SMap V) (k j : Nat) (hj : j ≠ k) :
    smGet d (m.filter (fun x => decide (x.1 ≠ k))) j = smGet d m j := by
  induction m with
  | nil => rfl
  | cons x xs ih =>
    obtain ⟨a, v⟩ := x
    by_cases h : a = k
    · subst h
      simpa [smGet, hj] using ih
    · simp [h, smGet] at ih ⊢
      split <;> simp_all

omit [DecidableEq V] in
theorem smGet_smIns_same (d : V) (m : SMap V) (k : Nat) (v : V) : smGet d (smIns m k v) k = v := by
  induction m with
  | nil => simp [smIns, smGet]
  | cons x xs ih =>
    obtain ⟨a, w⟩ := x
    simp only [smIns]
    split
    · simp [smGet]
    · split
      · simp [smGet]
      · rename_i h _; simp [smGet, h, ih]

omit [DecidableEq V] in
theorem smGet_smIns_ne (d : V) (m : SMap V) (k j : Nat) (v : V) (hj : j ≠ k) : smGet d (smIns m k v) j = smGet d m j := by
  induction m with
  | nil => simp [smIns, smGet, hj]
  | cons x xs ih =>
    obtain ⟨a, w⟩ := x
    simp only [smIns]
    split
    · rename_i h; subst h; simp [smGet, hj]
    · split
      · simp [smGet, hj]
      · simp [smGet, ih]

/-- A read after a write of the same key gives the value written. -/
@[simp] theorem smGet_smSet_same (d : V) (m : SMap V) (k : Nat) (v : V) : smGet d (smSet d m k v) k = v := by
  unfold smSet
  split
  · rename_i h; rw [smGet_filter_same, h]
  · exact smGet_smIns_same d m k v

/-- A write leaves every other key alone. -/
theorem smGet_smSet_ne (d d' : V) (m : SMap V) (k j : Nat) (v : V) (hj : j ≠ k) : smGet d (smSet d' m k v) j = smGet d m j := by
  unfold smSet
  split
  · exact smGet_filter_ne d m k j hj
  · exact smGet_smIns_ne d m k j v hj

/-- The keys of a map, in order. -/
def Rising (m : SMap V) : Prop := m.Pairwise (fun x y => x.1 < y.1)

omit [DecidableEq V] in
theorem mem_smIns {m : SMap V} {k : Nat} {v : V} {x : Nat × V} (h : x ∈ smIns m k v) : x = (k, v) ∨ x ∈ m := by
  induction m with
  | nil => simp [smIns] at h; exact .inl h
  | cons y ys ih =>
    obtain ⟨a, w⟩ := y
    simp only [smIns] at h
    split at h
    · rcases List.mem_cons.mp h with h | h
      · exact .inl h
      · exact .inr (List.mem_cons_of_mem _ h)
    · split at h
      · rcases List.mem_cons.mp h with h | h
        · exact .inl h
        · exact .inr h
      · rcases List.mem_cons.mp h with h | h
        · exact .inr (h ▸ List.mem_cons_self)
        · rcases ih h with h | h
          · exact .inl h
          · exact .inr (List.mem_cons_of_mem _ h)

omit [DecidableEq V] in
theorem smIns_rising {m : SMap V} (hm : Rising m) (k : Nat) (v : V) : Rising (smIns m k v) := by
  unfold Rising at *
  induction m with
  | nil => simp [smIns]
  | cons y ys ih =>
    obtain ⟨a, w⟩ := y
    rw [List.pairwise_cons] at hm
    simp only [smIns]
    split
    · rename_i h; subst h
      exact List.pairwise_cons.mpr ⟨fun x hx => hm.1 x hx, hm.2⟩
    · split
      · rename_i h
        refine List.pairwise_cons.mpr ⟨?_, List.pairwise_cons.mpr hm⟩
        intro x hx
        rcases List.mem_cons.mp hx with rfl | hx
        · exact h
        · exact Nat.lt_trans h (hm.1 x hx)
      · rename_i h1 h2
        refine List.pairwise_cons.mpr ⟨?_, ih hm.2⟩
        intro x hx
        rcases mem_smIns hx with rfl | hx
        · show a < k
          omega
        · exact hm.1 x hx

/-- A write keeps the canonical form. -/
theorem smSet_wf {d : Nat → V} {m : SMap V} (h : smWf d m = true) (k : Nat) (v : V) : smWf d (smSet (d k) m k v) = true := by
  simp only [smWf, Bool.and_eq_true, decide_eq_true_eq, List.all_eq_true] at h ⊢
  obtain ⟨h1, h2⟩ := h
  unfold smSet
  split
  · exact ⟨h1.filter _, fun x hx => h2 x (List.mem_filter.mp hx).1⟩
  · rename_i hv
    refine ⟨smIns_rising h1 k v, fun x hx => ?_⟩
    rcases mem_smIns hx with rfl | hx
    · exact hv
    · exact h2 x hx

/-- Dropping entries keeps the canonical form. -/
theorem filter_wf {d : Nat → V} {m : SMap V} (h : smWf d m = true) (p : Nat × V → Bool) : smWf d (m.filter p) = true := by
  simp only [smWf, Bool.and_eq_true, decide_eq_true_eq, List.all_eq_true] at h ⊢
  exact ⟨h.1.filter _, fun x hx => h.2 x (List.mem_filter.mp hx).1⟩

/-! ### Memory -/

@[simp] theorem memGet_memSet_same (s : State) (a : Nat) (v : Byte) : memGet (memSet s a v) a = v := by
  simp [memGet, memSet]

theorem memGet_memSet_ne (s : State) (a b : Nat) (v : Byte) (h : b ≠ a) : memGet (memSet s a v) b = memGet s b := by
  simp [memGet, memSet, smGet_smSet_ne _ _ _ _ _ _ h]

theorem memSet_wf {s : State} (h : Memory.wf s.mem = true) (a : Nat) (v : Byte) : Memory.wf (memSet s a v).mem = true :=
  smSet_wf (d := fun _ => (0 : Byte)) h a v

theorem memWrite_wf {s : State} (h : Memory.wf s.mem = true) (a : Nat) (bs : List Byte) : Memory.wf (memWrite s a bs).mem = true := by
  induction bs generalizing s a with
  | nil => exact h
  | cons b bs ih => exact ih (memSet_wf h a b) (a + 1)

theorem memZero_wf {s : State} (h : Memory.wf s.mem = true) (a n : Nat) : Memory.wf (memZero s a n).mem = true :=
  filter_wf h _

/-- A write of bytes leaves every byte outside them as it was. -/
theorem memGet_memWrite_out (s : State) (a b : Nat) (bs : List Byte) (h : b < a ∨ a + bs.length ≤ b) :
    memGet (memWrite s a bs) b = memGet s b := by
  induction bs generalizing s a with
  | nil => rfl
  | cons x xs ih =>
    simp only [List.length_cons] at h
    rw [memWrite, ih _ _ (by omega), memGet_memSet_ne _ _ _ _ (by omega)]

/-- A write of bytes puts each byte in its place. -/
theorem memGet_memWrite_in (s : State) (a k : Nat) (bs : List Byte) (h : k < bs.length) :
    memGet (memWrite s a bs) (a + k) = bs[k] := by
  induction bs generalizing s a k with
  | nil => simp at h
  | cons x xs ih =>
    cases k with
    | zero => rw [memWrite, memGet_memWrite_out _ _ _ _ (by omega)]; simp
    | succ k =>
      rw [memWrite, show a + (k + 1) = (a + 1) + k by omega]
      exact ih _ _ _ (by simpa using h)

/-! ### Registers and tiles -/

@[simp] theorem getR_setR_same (s : State) (o : Nat) (v : Reg) : getR (setR s o v) o = v := by simp [getR, setR]
theorem getR_setR_ne (s : State) (o p : Nat) (v : Reg) (h : p ≠ o) : getR (setR s o v) p = getR s p := by
  simp [getR, setR, smGet_smSet_ne _ _ _ _ _ _ h]
@[simp] theorem getT_setT_same (s : State) (i : Nat) (t : Tile) : getT (setT s i t) i = t := by simp [getT, setT]
theorem getT_setT_ne (s : State) (i j : Nat) (t : Tile) (h : j ≠ i) : getT (setT s i t) j = getT s j := by
  simp [getT, setT, smGet_smSet_ne _ _ _ _ _ _ h]
@[simp] theorem getEp_setEp_same (s : State) (i : Nat) (x : Endpoint) : getEp (setEp s i x) i = x := by simp [getEp, setEp]
theorem getEp_setEp_ne (s : State) (i j : Nat) (x : Endpoint) (h : j ≠ i) : getEp (setEp s i x) j = getEp s j := by
  simp [getEp, setEp, smGet_smSet_ne _ _ _ _ _ _ h]
@[simp] theorem getFS_setFS_same (s : State) (i : Nat) (x : FieldSt) : getFS (setFS s i x) i = x := by simp [getFS, setFS]

theorem setR_wf {s : State} (h : Regs.wf s.regs = true) (o : Nat) (v : Reg) : Regs.wf (setR s o v).regs = true :=
  smSet_wf (d := regReset) h o v
theorem setT_wf {s : State} (h : Tiles.wf s.tiles = true) (i : Nat) (t : Tile) : Tiles.wf (setT s i t).tiles = true :=
  smSet_wf (d := Tile.factory) h i t

end Sys2Proof.Laws
end

