-- ==== Sys2Proof/Laws/State.lean ====
section
/-! SUPPORT. What each update of the state leaves alone, one lemma for each field. -/

namespace Sys2Proof.Laws

open Machine

@[simp] theorem setR_pending (s : State) (o : Nat) (v : Reg) : (setR s o v).pending = s.pending := rfl
@[simp] theorem setR_tiles (s : State) (o : Nat) (v : Reg) : (setR s o v).tiles = s.tiles := rfl
@[simp] theorem setR_mem (s : State) (o : Nat) (v : Reg) : (setR s o v).mem = s.mem := rfl
@[simp] theorem setR_eccErr (s : State) (o : Nat) (v : Reg) : (setR s o v).eccErr = s.eccErr := rfl
@[simp] theorem setR_xyBad (s : State) (o : Nat) (v : Reg) : (setR s o v).xyBad = s.xyBad := rfl
@[simp] theorem setR_tagStore (s : State) (o : Nat) (v : Reg) : (setR s o v).tagStore = s.tagStore := rfl
@[simp] theorem setR_tagBad (s : State) (o : Nat) (v : Reg) : (setR s o v).tagBad = s.tagBad := rfl
@[simp] theorem setR_fields (s : State) (o : Nat) (v : Reg) : (setR s o v).fields = s.fields := rfl
@[simp] theorem setR_boot (s : State) (o : Nat) (v : Reg) : (setR s o v).boot = s.boot := rfl
@[simp] theorem setR_borrowed (s : State) (o : Nat) (v : Reg) : (setR s o v).borrowed = s.borrowed := rfl
@[simp] theorem setR_saved (s : State) (o : Nat) (v : Reg) : (setR s o v).saved = s.saved := rfl
@[simp] theorem setR_eps (s : State) (o : Nat) (v : Reg) : (setR s o v).eps = s.eps := rfl
@[simp] theorem setR_links (s : State) (o : Nat) (v : Reg) : (setR s o v).links = s.links := rfl
@[simp] theorem setR_throttle (s : State) (o : Nat) (v : Reg) : (setR s o v).throttle = s.throttle := rfl
@[simp] theorem setR_mirrors (s : State) (o : Nat) (v : Reg) : (setR s o v).mirrors = s.mirrors := rfl
@[simp] theorem setR_agents (s : State) (o : Nat) (v : Reg) : (setR s o v).agents = s.agents := rfl
@[simp] theorem setR_levelEvents (s : State) (o : Nat) (v : Reg) : (setR s o v).levelEvents = s.levelEvents := rfl
@[simp] theorem setR_tree (s : State) (o : Nat) (v : Reg) : (setR s o v).tree = s.tree := rfl
@[simp] theorem setR_groups (s : State) (o : Nat) (v : Reg) : (setR s o v).groups = s.groups := rfl
@[simp] theorem setR_ports (s : State) (o : Nat) (v : Reg) : (setR s o v).ports = s.ports := rfl
@[simp] theorem setR_expansions (s : State) (o : Nat) (v : Reg) : (setR s o v).expansions = s.expansions := rfl
@[simp] theorem setR_fabTime (s : State) (o : Nat) (v : Reg) : (setR s o v).fabTime = s.fabTime := rfl
@[simp] theorem setR_host (s : State) (o : Nat) (v : Reg) : (setR s o v).host = s.host := rfl
@[simp] theorem setR_lanes (s : State) (o : Nat) (v : Reg) : (setR s o v).lanes = s.lanes := rfl
@[simp] theorem setR_trains (s : State) (o : Nat) (v : Reg) : (setR s o v).trains = s.trains := rfl
@[simp] theorem setR_load (s : State) (o : Nat) (v : Reg) : (setR s o v).load = s.load := rfl
@[simp] theorem setR_chain (s : State) (o : Nat) (v : Reg) : (setR s o v).chain = s.chain := rfl
@[simp] theorem setR_flash (s : State) (o : Nat) (v : Reg) : (setR s o v).flash = s.flash := rfl
@[simp] theorem setR_auditPos (s : State) (o : Nat) (v : Reg) : (setR s o v).auditPos = s.auditPos := rfl
@[simp] theorem setR_defaults (s : State) (o : Nat) (v : Reg) : (setR s o v).defaults = s.defaults := rfl
@[simp] theorem setR_defaultsDue (s : State) (o : Nat) (v : Reg) : (setR s o v).defaultsDue = s.defaultsDue := rfl
@[simp] theorem setR_smbusOff (s : State) (o : Nat) (v : Reg) : (setR s o v).smbusOff = s.smbusOff := rfl
@[simp] theorem setR_confirmed (s : State) (o : Nat) (v : Reg) : (setR s o v).confirmed = s.confirmed := rfl
@[simp] theorem setR_asleep (s : State) (o : Nat) (v : Reg) : (setR s o v).asleep = s.asleep := rfl
@[simp] theorem setR_timeLatch (s : State) (o : Nat) (v : Reg) : (setR s o v).timeLatch = s.timeLatch := rfl
@[simp] theorem setR_resetDue (s : State) (o : Nat) (v : Reg) : (setR s o v).resetDue = s.resetDue := rfl
@[simp] theorem setR_straps (s : State) (o : Nat) (v : Reg) : (setR s o v).straps = s.straps := rfl
@[simp] theorem setR_railLow (s : State) (o : Nat) (v : Reg) : (setR s o v).railLow = s.railLow := rfl
@[simp] theorem setR_readData (s : State) (o : Nat) (v : Reg) : (setR s o v).readData = s.readData := rfl
@[simp] theorem setR_log (s : State) (o : Nat) (v : Reg) : (setR s o v).log = s.log := rfl
@[simp] theorem setR_recorder (s : State) (o : Nat) (v : Reg) : (setR s o v).recorder = s.recorder := rfl
@[simp] theorem setR_nv (s : State) (o : Nat) (v : Reg) : (setR s o v).nv = s.nv := rfl
@[simp] theorem setR_msix (s : State) (o : Nat) (v : Reg) : (setR s o v).msix = s.msix := rfl
@[simp] theorem setR_time (s : State) (o : Nat) (v : Reg) : (setR s o v).time = s.time := rfl
@[simp] theorem setR_fresh (s : State) (o : Nat) (v : Reg) : (setR s o v).fresh = s.fresh := rfl

@[simp] theorem wr_pending (s : State) (o : Nat) (f : Fld) (x : Nat) : (wr s o f x).pending = s.pending := rfl
@[simp] theorem wr_tiles (s : State) (o : Nat) (f : Fld) (x : Nat) : (wr s o f x).tiles = s.tiles := rfl
@[simp] theorem wr_mem (s : State) (o : Nat) (f : Fld) (x : Nat) : (wr s o f x).mem = s.mem := rfl
@[simp] theorem wr_eccErr (s : State) (o : Nat) (f : Fld) (x : Nat) : (wr s o f x).eccErr = s.eccErr := rfl
@[simp] theorem wr_xyBad (s : State) (o : Nat) (f : Fld) (x : Nat) : (wr s o f x).xyBad = s.xyBad := rfl
@[simp] theorem wr_tagStore (s : State) (o : Nat) (f : Fld) (x : Nat) : (wr s o f x).tagStore = s.tagStore := rfl
@[simp] theorem wr_tagBad (s : State) (o : Nat) (f : Fld) (x : Nat) : (wr s o f x).tagBad = s.tagBad := rfl
@[simp] theorem wr_fields (s : State) (o : Nat) (f : Fld) (x : Nat) : (wr s o f x).fields = s.fields := rfl
@[simp] theorem wr_boot (s : State) (o : Nat) (f : Fld) (x : Nat) : (wr s o f x).boot = s.boot := rfl
@[simp] theorem wr_borrowed (s : State) (o : Nat) (f : Fld) (x : Nat) : (wr s o f x).borrowed = s.borrowed := rfl
@[simp] theorem wr_saved (s : State) (o : Nat) (f : Fld) (x : Nat) : (wr s o f x).saved = s.saved := rfl
@[simp] theorem wr_eps (s : State) (o : Nat) (f : Fld) (x : Nat) : (wr s o f x).eps = s.eps := rfl
@[simp] theorem wr_links (s : State) (o : Nat) (f : Fld) (x : Nat) : (wr s o f x).links = s.links := rfl
@[simp] theorem wr_throttle (s : State) (o : Nat) (f : Fld) (x : Nat) : (wr s o f x).throttle = s.throttle := rfl
@[simp] theorem wr_mirrors (s : State) (o : Nat) (f : Fld) (x : Nat) : (wr s o f x).mirrors = s.mirrors := rfl
@[simp] theorem wr_agents (s : State) (o : Nat) (f : Fld) (x : Nat) : (wr s o f x).agents = s.agents := rfl
@[simp] theorem wr_levelEvents (s : State) (o : Nat) (f : Fld) (x : Nat) : (wr s o f x).levelEvents = s.levelEvents := rfl
@[simp] theorem wr_tree (s : State) (o : Nat) (f : Fld) (x : Nat) : (wr s o f x).tree = s.tree := rfl
@[simp] theorem wr_groups (s : State) (o : Nat) (f : Fld) (x : Nat) : (wr s o f x).groups = s.groups := rfl
@[simp] theorem wr_ports (s : State) (o : Nat) (f : Fld) (x : Nat) : (wr s o f x).ports = s.ports := rfl
@[simp] theorem wr_expansions (s : State) (o : Nat) (f : Fld) (x : Nat) : (wr s o f x).expansions = s.expansions := rfl
@[simp] theorem wr_fabTime (s : State) (o : Nat) (f : Fld) (x : Nat) : (wr s o f x).fabTime = s.fabTime := rfl
@[simp] theorem wr_host (s : State) (o : Nat) (f : Fld) (x : Nat) : (wr s o f x).host = s.host := rfl
@[simp] theorem wr_lanes (s : State) (o : Nat) (f : Fld) (x : Nat) : (wr s o f x).lanes = s.lanes := rfl
@[simp] theorem wr_trains (s : State) (o : Nat) (f : Fld) (x : Nat) : (wr s o f x).trains = s.trains := rfl
@[simp] theorem wr_load (s : State) (o : Nat) (f : Fld) (x : Nat) : (wr s o f x).load = s.load := rfl
@[simp] theorem wr_chain (s : State) (o : Nat) (f : Fld) (x : Nat) : (wr s o f x).chain = s.chain := rfl
@[simp] theorem wr_flash (s : State) (o : Nat) (f : Fld) (x : Nat) : (wr s o f x).flash = s.flash := rfl
@[simp] theorem wr_auditPos (s : State) (o : Nat) (f : Fld) (x : Nat) : (wr s o f x).auditPos = s.auditPos := rfl
@[simp] theorem wr_defaults (s : State) (o : Nat) (f : Fld) (x : Nat) : (wr s o f x).defaults = s.defaults := rfl
@[simp] theorem wr_defaultsDue (s : State) (o : Nat) (f : Fld) (x : Nat) : (wr s o f x).defaultsDue = s.defaultsDue := rfl
@[simp] theorem wr_smbusOff (s : State) (o : Nat) (f : Fld) (x : Nat) : (wr s o f x).smbusOff = s.smbusOff := rfl
@[simp] theorem wr_confirmed (s : State) (o : Nat) (f : Fld) (x : Nat) : (wr s o f x).confirmed = s.confirmed := rfl
@[simp] theorem wr_asleep (s : State) (o : Nat) (f : Fld) (x : Nat) : (wr s o f x).asleep = s.asleep := rfl
@[simp] theorem wr_timeLatch (s : State) (o : Nat) (f : Fld) (x : Nat) : (wr s o f x).timeLatch = s.timeLatch := rfl
@[simp] theorem wr_resetDue (s : State) (o : Nat) (f : Fld) (x : Nat) : (wr s o f x).resetDue = s.resetDue := rfl
@[simp] theorem wr_straps (s : State) (o : Nat) (f : Fld) (x : Nat) : (wr s o f x).straps = s.straps := rfl
@[simp] theorem wr_railLow (s : State) (o : Nat) (f : Fld) (x : Nat) : (wr s o f x).railLow = s.railLow := rfl
@[simp] theorem wr_readData (s : State) (o : Nat) (f : Fld) (x : Nat) : (wr s o f x).readData = s.readData := rfl
@[simp] theorem wr_log (s : State) (o : Nat) (f : Fld) (x : Nat) : (wr s o f x).log = s.log := rfl
@[simp] theorem wr_recorder (s : State) (o : Nat) (f : Fld) (x : Nat) : (wr s o f x).recorder = s.recorder := rfl
@[simp] theorem wr_nv (s : State) (o : Nat) (f : Fld) (x : Nat) : (wr s o f x).nv = s.nv := rfl
@[simp] theorem wr_msix (s : State) (o : Nat) (f : Fld) (x : Nat) : (wr s o f x).msix = s.msix := rfl
@[simp] theorem wr_time (s : State) (o : Nat) (f : Fld) (x : Nat) : (wr s o f x).time = s.time := rfl
@[simp] theorem wr_fresh (s : State) (o : Nat) (f : Fld) (x : Nat) : (wr s o f x).fresh = s.fresh := rfl

@[simp] theorem bump_pending (s : State) (o : Nat) (f : Fld) (n : Nat) : (bump s o f n).pending = s.pending := rfl
@[simp] theorem bump_tiles (s : State) (o : Nat) (f : Fld) (n : Nat) : (bump s o f n).tiles = s.tiles := rfl
@[simp] theorem bump_mem (s : State) (o : Nat) (f : Fld) (n : Nat) : (bump s o f n).mem = s.mem := rfl
@[simp] theorem bump_eccErr (s : State) (o : Nat) (f : Fld) (n : Nat) : (bump s o f n).eccErr = s.eccErr := rfl
@[simp] theorem bump_xyBad (s : State) (o : Nat) (f : Fld) (n : Nat) : (bump s o f n).xyBad = s.xyBad := rfl
@[simp] theorem bump_tagStore (s : State) (o : Nat) (f : Fld) (n : Nat) : (bump s o f n).tagStore = s.tagStore := rfl
@[simp] theorem bump_tagBad (s : State) (o : Nat) (f : Fld) (n : Nat) : (bump s o f n).tagBad = s.tagBad := rfl
@[simp] theorem bump_fields (s : State) (o : Nat) (f : Fld) (n : Nat) : (bump s o f n).fields = s.fields := rfl
@[simp] theorem bump_boot (s : State) (o : Nat) (f : Fld) (n : Nat) : (bump s o f n).boot = s.boot := rfl
@[simp] theorem bump_borrowed (s : State) (o : Nat) (f : Fld) (n : Nat) : (bump s o f n).borrowed = s.borrowed := rfl
@[simp] theorem bump_saved (s : State) (o : Nat) (f : Fld) (n : Nat) : (bump s o f n).saved = s.saved := rfl
@[simp] theorem bump_eps (s : State) (o : Nat) (f : Fld) (n : Nat) : (bump s o f n).eps = s.eps := rfl
@[simp] theorem bump_links (s : State) (o : Nat) (f : Fld) (n : Nat) : (bump s o f n).links = s.links := rfl
@[simp] theorem bump_throttle (s : State) (o : Nat) (f : Fld) (n : Nat) : (bump s o f n).throttle = s.throttle := rfl
@[simp] theorem bump_mirrors (s : State) (o : Nat) (f : Fld) (n : Nat) : (bump s o f n).mirrors = s.mirrors := rfl
@[simp] theorem bump_agents (s : State) (o : Nat) (f : Fld) (n : Nat) : (bump s o f n).agents = s.agents := rfl
@[simp] theorem bump_levelEvents (s : State) (o : Nat) (f : Fld) (n : Nat) : (bump s o f n).levelEvents = s.levelEvents := rfl
@[simp] theorem bump_tree (s : State) (o : Nat) (f : Fld) (n : Nat) : (bump s o f n).tree = s.tree := rfl
@[simp] theorem bump_groups (s : State) (o : Nat) (f : Fld) (n : Nat) : (bump s o f n).groups = s.groups := rfl
@[simp] theorem bump_ports (s : State) (o : Nat) (f : Fld) (n : Nat) : (bump s o f n).ports = s.ports := rfl
@[simp] theorem bump_expansions (s : State) (o : Nat) (f : Fld) (n : Nat) : (bump s o f n).expansions = s.expansions := rfl
@[simp] theorem bump_fabTime (s : State) (o : Nat) (f : Fld) (n : Nat) : (bump s o f n).fabTime = s.fabTime := rfl
@[simp] theorem bump_host (s : State) (o : Nat) (f : Fld) (n : Nat) : (bump s o f n).host = s.host := rfl
@[simp] theorem bump_lanes (s : State) (o : Nat) (f : Fld) (n : Nat) : (bump s o f n).lanes = s.lanes := rfl
@[simp] theorem bump_trains (s : State) (o : Nat) (f : Fld) (n : Nat) : (bump s o f n).trains = s.trains := rfl
@[simp] theorem bump_load (s : State) (o : Nat) (f : Fld) (n : Nat) : (bump s o f n).load = s.load := rfl
@[simp] theorem bump_chain (s : State) (o : Nat) (f : Fld) (n : Nat) : (bump s o f n).chain = s.chain := rfl
@[simp] theorem bump_flash (s : State) (o : Nat) (f : Fld) (n : Nat) : (bump s o f n).flash = s.flash := rfl
@[simp] theorem bump_auditPos (s : State) (o : Nat) (f : Fld) (n : Nat) : (bump s o f n).auditPos = s.auditPos := rfl
@[simp] theorem bump_defaults (s : State) (o : Nat) (f : Fld) (n : Nat) : (bump s o f n).defaults = s.defaults := rfl
@[simp] theorem bump_defaultsDue (s : State) (o : Nat) (f : Fld) (n : Nat) : (bump s o f n).defaultsDue = s.defaultsDue := rfl
@[simp] theorem bump_smbusOff (s : State) (o : Nat) (f : Fld) (n : Nat) : (bump s o f n).smbusOff = s.smbusOff := rfl
@[simp] theorem bump_confirmed (s : State) (o : Nat) (f : Fld) (n : Nat) : (bump s o f n).confirmed = s.confirmed := rfl
@[simp] theorem bump_asleep (s : State) (o : Nat) (f : Fld) (n : Nat) : (bump s o f n).asleep = s.asleep := rfl
@[simp] theorem bump_timeLatch (s : State) (o : Nat) (f : Fld) (n : Nat) : (bump s o f n).timeLatch = s.timeLatch := rfl
@[simp] theorem bump_resetDue (s : State) (o : Nat) (f : Fld) (n : Nat) : (bump s o f n).resetDue = s.resetDue := rfl
@[simp] theorem bump_straps (s : State) (o : Nat) (f : Fld) (n : Nat) : (bump s o f n).straps = s.straps := rfl
@[simp] theorem bump_railLow (s : State) (o : Nat) (f : Fld) (n : Nat) : (bump s o f n).railLow = s.railLow := rfl
@[simp] theorem bump_readData (s : State) (o : Nat) (f : Fld) (n : Nat) : (bump s o f n).readData = s.readData := rfl
@[simp] theorem bump_log (s : State) (o : Nat) (f : Fld) (n : Nat) : (bump s o f n).log = s.log := rfl
@[simp] theorem bump_recorder (s : State) (o : Nat) (f : Fld) (n : Nat) : (bump s o f n).recorder = s.recorder := rfl
@[simp] theorem bump_nv (s : State) (o : Nat) (f : Fld) (n : Nat) : (bump s o f n).nv = s.nv := rfl
@[simp] theorem bump_msix (s : State) (o : Nat) (f : Fld) (n : Nat) : (bump s o f n).msix = s.msix := rfl
@[simp] theorem bump_time (s : State) (o : Nat) (f : Fld) (n : Nat) : (bump s o f n).time = s.time := rfl
@[simp] theorem bump_fresh (s : State) (o : Nat) (f : Fld) (n : Nat) : (bump s o f n).fresh = s.fresh := rfl

@[simp] theorem setT_pending (s : State) (i : Nat) (t : Tile) : (setT s i t).pending = s.pending := rfl
@[simp] theorem setT_regs (s : State) (i : Nat) (t : Tile) : (setT s i t).regs = s.regs := rfl
@[simp] theorem setT_mem (s : State) (i : Nat) (t : Tile) : (setT s i t).mem = s.mem := rfl
@[simp] theorem setT_eccErr (s : State) (i : Nat) (t : Tile) : (setT s i t).eccErr = s.eccErr := rfl
@[simp] theorem setT_xyBad (s : State) (i : Nat) (t : Tile) : (setT s i t).xyBad = s.xyBad := rfl
@[simp] theorem setT_tagStore (s : State) (i : Nat) (t : Tile) : (setT s i t).tagStore = s.tagStore := rfl
@[simp] theorem setT_tagBad (s : State) (i : Nat) (t : Tile) : (setT s i t).tagBad = s.tagBad := rfl
@[simp] theorem setT_fields (s : State) (i : Nat) (t : Tile) : (setT s i t).fields = s.fields := rfl
@[simp] theorem setT_boot (s : State) (i : Nat) (t : Tile) : (setT s i t).boot = s.boot := rfl
@[simp] theorem setT_borrowed (s : State) (i : Nat) (t : Tile) : (setT s i t).borrowed = s.borrowed := rfl
@[simp] theorem setT_saved (s : State) (i : Nat) (t : Tile) : (setT s i t).saved = s.saved := rfl
@[simp] theorem setT_eps (s : State) (i : Nat) (t : Tile) : (setT s i t).eps = s.eps := rfl
@[simp] theorem setT_links (s : State) (i : Nat) (t : Tile) : (setT s i t).links = s.links := rfl
@[simp] theorem setT_throttle (s : State) (i : Nat) (t : Tile) : (setT s i t).throttle = s.throttle := rfl
@[simp] theorem setT_mirrors (s : State) (i : Nat) (t : Tile) : (setT s i t).mirrors = s.mirrors := rfl
@[simp] theorem setT_agents (s : State) (i : Nat) (t : Tile) : (setT s i t).agents = s.agents := rfl
@[simp] theorem setT_levelEvents (s : State) (i : Nat) (t : Tile) : (setT s i t).levelEvents = s.levelEvents := rfl
@[simp] theorem setT_tree (s : State) (i : Nat) (t : Tile) : (setT s i t).tree = s.tree := rfl
@[simp] theorem setT_groups (s : State) (i : Nat) (t : Tile) : (setT s i t).groups = s.groups := rfl
@[simp] theorem setT_ports (s : State) (i : Nat) (t : Tile) : (setT s i t).ports = s.ports := rfl
@[simp] theorem setT_expansions (s : State) (i : Nat) (t : Tile) : (setT s i t).expansions = s.expansions := rfl
@[simp] theorem setT_fabTime (s : State) (i : Nat) (t : Tile) : (setT s i t).fabTime = s.fabTime := rfl
@[simp] theorem setT_host (s : State) (i : Nat) (t : Tile) : (setT s i t).host = s.host := rfl
@[simp] theorem setT_lanes (s : State) (i : Nat) (t : Tile) : (setT s i t).lanes = s.lanes := rfl
@[simp] theorem setT_trains (s : State) (i : Nat) (t : Tile) : (setT s i t).trains = s.trains := rfl
@[simp] theorem setT_load (s : State) (i : Nat) (t : Tile) : (setT s i t).load = s.load := rfl
@[simp] theorem setT_chain (s : State) (i : Nat) (t : Tile) : (setT s i t).chain = s.chain := rfl
@[simp] theorem setT_flash (s : State) (i : Nat) (t : Tile) : (setT s i t).flash = s.flash := rfl
@[simp] theorem setT_auditPos (s : State) (i : Nat) (t : Tile) : (setT s i t).auditPos = s.auditPos := rfl
@[simp] theorem setT_defaults (s : State) (i : Nat) (t : Tile) : (setT s i t).defaults = s.defaults := rfl
@[simp] theorem setT_defaultsDue (s : State) (i : Nat) (t : Tile) : (setT s i t).defaultsDue = s.defaultsDue := rfl
@[simp] theorem setT_smbusOff (s : State) (i : Nat) (t : Tile) : (setT s i t).smbusOff = s.smbusOff := rfl
@[simp] theorem setT_confirmed (s : State) (i : Nat) (t : Tile) : (setT s i t).confirmed = s.confirmed := rfl
@[simp] theorem setT_asleep (s : State) (i : Nat) (t : Tile) : (setT s i t).asleep = s.asleep := rfl
@[simp] theorem setT_timeLatch (s : State) (i : Nat) (t : Tile) : (setT s i t).timeLatch = s.timeLatch := rfl
@[simp] theorem setT_resetDue (s : State) (i : Nat) (t : Tile) : (setT s i t).resetDue = s.resetDue := rfl
@[simp] theorem setT_straps (s : State) (i : Nat) (t : Tile) : (setT s i t).straps = s.straps := rfl
@[simp] theorem setT_railLow (s : State) (i : Nat) (t : Tile) : (setT s i t).railLow = s.railLow := rfl
@[simp] theorem setT_readData (s : State) (i : Nat) (t : Tile) : (setT s i t).readData = s.readData := rfl
@[simp] theorem setT_log (s : State) (i : Nat) (t : Tile) : (setT s i t).log = s.log := rfl
@[simp] theorem setT_recorder (s : State) (i : Nat) (t : Tile) : (setT s i t).recorder = s.recorder := rfl
@[simp] theorem setT_nv (s : State) (i : Nat) (t : Tile) : (setT s i t).nv = s.nv := rfl
@[simp] theorem setT_msix (s : State) (i : Nat) (t : Tile) : (setT s i t).msix = s.msix := rfl
@[simp] theorem setT_time (s : State) (i : Nat) (t : Tile) : (setT s i t).time = s.time := rfl
@[simp] theorem setT_fresh (s : State) (i : Nat) (t : Tile) : (setT s i t).fresh = s.fresh := rfl

@[simp] theorem setFS_pending (s : State) (f : Nat) (x : FieldSt) : (setFS s f x).pending = s.pending := rfl
@[simp] theorem setFS_regs (s : State) (f : Nat) (x : FieldSt) : (setFS s f x).regs = s.regs := rfl
@[simp] theorem setFS_tiles (s : State) (f : Nat) (x : FieldSt) : (setFS s f x).tiles = s.tiles := rfl
@[simp] theorem setFS_mem (s : State) (f : Nat) (x : FieldSt) : (setFS s f x).mem = s.mem := rfl
@[simp] theorem setFS_eccErr (s : State) (f : Nat) (x : FieldSt) : (setFS s f x).eccErr = s.eccErr := rfl
@[simp] theorem setFS_xyBad (s : State) (f : Nat) (x : FieldSt) : (setFS s f x).xyBad = s.xyBad := rfl
@[simp] theorem setFS_tagStore (s : State) (f : Nat) (x : FieldSt) : (setFS s f x).tagStore = s.tagStore := rfl
@[simp] theorem setFS_tagBad (s : State) (f : Nat) (x : FieldSt) : (setFS s f x).tagBad = s.tagBad := rfl
@[simp] theorem setFS_boot (s : State) (f : Nat) (x : FieldSt) : (setFS s f x).boot = s.boot := rfl
@[simp] theorem setFS_borrowed (s : State) (f : Nat) (x : FieldSt) : (setFS s f x).borrowed = s.borrowed := rfl
@[simp] theorem setFS_saved (s : State) (f : Nat) (x : FieldSt) : (setFS s f x).saved = s.saved := rfl
@[simp] theorem setFS_eps (s : State) (f : Nat) (x : FieldSt) : (setFS s f x).eps = s.eps := rfl
@[simp] theorem setFS_links (s : State) (f : Nat) (x : FieldSt) : (setFS s f x).links = s.links := rfl
@[simp] theorem setFS_throttle (s : State) (f : Nat) (x : FieldSt) : (setFS s f x).throttle = s.throttle := rfl
@[simp] theorem setFS_mirrors (s : State) (f : Nat) (x : FieldSt) : (setFS s f x).mirrors = s.mirrors := rfl
@[simp] theorem setFS_agents (s : State) (f : Nat) (x : FieldSt) : (setFS s f x).agents = s.agents := rfl
@[simp] theorem setFS_levelEvents (s : State) (f : Nat) (x : FieldSt) : (setFS s f x).levelEvents = s.levelEvents := rfl
@[simp] theorem setFS_tree (s : State) (f : Nat) (x : FieldSt) : (setFS s f x).tree = s.tree := rfl
@[simp] theorem setFS_groups (s : State) (f : Nat) (x : FieldSt) : (setFS s f x).groups = s.groups := rfl
@[simp] theorem setFS_ports (s : State) (f : Nat) (x : FieldSt) : (setFS s f x).ports = s.ports := rfl
@[simp] theorem setFS_expansions (s : State) (f : Nat) (x : FieldSt) : (setFS s f x).expansions = s.expansions := rfl
@[simp] theorem setFS_fabTime (s : State) (f : Nat) (x : FieldSt) : (setFS s f x).fabTime = s.fabTime := rfl
@[simp] theorem setFS_host (s : State) (f : Nat) (x : FieldSt) : (setFS s f x).host = s.host := rfl
@[simp] theorem setFS_lanes (s : State) (f : Nat) (x : FieldSt) : (setFS s f x).lanes = s.lanes := rfl
@[simp] theorem setFS_trains (s : State) (f : Nat) (x : FieldSt) : (setFS s f x).trains = s.trains := rfl
@[simp] theorem setFS_load (s : State) (f : Nat) (x : FieldSt) : (setFS s f x).load = s.load := rfl
@[simp] theorem setFS_chain (s : State) (f : Nat) (x : FieldSt) : (setFS s f x).chain = s.chain := rfl
@[simp] theorem setFS_flash (s : State) (f : Nat) (x : FieldSt) : (setFS s f x).flash = s.flash := rfl
@[simp] theorem setFS_auditPos (s : State) (f : Nat) (x : FieldSt) : (setFS s f x).auditPos = s.auditPos := rfl
@[simp] theorem setFS_defaults (s : State) (f : Nat) (x : FieldSt) : (setFS s f x).defaults = s.defaults := rfl
@[simp] theorem setFS_defaultsDue (s : State) (f : Nat) (x : FieldSt) : (setFS s f x).defaultsDue = s.defaultsDue := rfl
@[simp] theorem setFS_smbusOff (s : State) (f : Nat) (x : FieldSt) : (setFS s f x).smbusOff = s.smbusOff := rfl
@[simp] theorem setFS_confirmed (s : State) (f : Nat) (x : FieldSt) : (setFS s f x).confirmed = s.confirmed := rfl
@[simp] theorem setFS_asleep (s : State) (f : Nat) (x : FieldSt) : (setFS s f x).asleep = s.asleep := rfl
@[simp] theorem setFS_timeLatch (s : State) (f : Nat) (x : FieldSt) : (setFS s f x).timeLatch = s.timeLatch := rfl
@[simp] theorem setFS_resetDue (s : State) (f : Nat) (x : FieldSt) : (setFS s f x).resetDue = s.resetDue := rfl
@[simp] theorem setFS_straps (s : State) (f : Nat) (x : FieldSt) : (setFS s f x).straps = s.straps := rfl
@[simp] theorem setFS_railLow (s : State) (f : Nat) (x : FieldSt) : (setFS s f x).railLow = s.railLow := rfl
@[simp] theorem setFS_readData (s : State) (f : Nat) (x : FieldSt) : (setFS s f x).readData = s.readData := rfl
@[simp] theorem setFS_log (s : State) (f : Nat) (x : FieldSt) : (setFS s f x).log = s.log := rfl
@[simp] theorem setFS_recorder (s : State) (f : Nat) (x : FieldSt) : (setFS s f x).recorder = s.recorder := rfl
@[simp] theorem setFS_nv (s : State) (f : Nat) (x : FieldSt) : (setFS s f x).nv = s.nv := rfl
@[simp] theorem setFS_msix (s : State) (f : Nat) (x : FieldSt) : (setFS s f x).msix = s.msix := rfl
@[simp] theorem setFS_time (s : State) (f : Nat) (x : FieldSt) : (setFS s f x).time = s.time := rfl
@[simp] theorem setFS_fresh (s : State) (f : Nat) (x : FieldSt) : (setFS s f x).fresh = s.fresh := rfl

@[simp] theorem memSet_pending (s : State) (a : Nat) (v : Byte) : (memSet s a v).pending = s.pending := rfl
@[simp] theorem memSet_regs (s : State) (a : Nat) (v : Byte) : (memSet s a v).regs = s.regs := rfl
@[simp] theorem memSet_tiles (s : State) (a : Nat) (v : Byte) : (memSet s a v).tiles = s.tiles := rfl
@[simp] theorem memSet_eccErr (s : State) (a : Nat) (v : Byte) : (memSet s a v).eccErr = s.eccErr := rfl
@[simp] theorem memSet_xyBad (s : State) (a : Nat) (v : Byte) : (memSet s a v).xyBad = s.xyBad := rfl
@[simp] theorem memSet_tagStore (s : State) (a : Nat) (v : Byte) : (memSet s a v).tagStore = s.tagStore := rfl
@[simp] theorem memSet_tagBad (s : State) (a : Nat) (v : Byte) : (memSet s a v).tagBad = s.tagBad := rfl
@[simp] theorem memSet_fields (s : State) (a : Nat) (v : Byte) : (memSet s a v).fields = s.fields := rfl
@[simp] theorem memSet_boot (s : State) (a : Nat) (v : Byte) : (memSet s a v).boot = s.boot := rfl
@[simp] theorem memSet_borrowed (s : State) (a : Nat) (v : Byte) : (memSet s a v).borrowed = s.borrowed := rfl
@[simp] theorem memSet_saved (s : State) (a : Nat) (v : Byte) : (memSet s a v).saved = s.saved := rfl
@[simp] theorem memSet_eps (s : State) (a : Nat) (v : Byte) : (memSet s a v).eps = s.eps := rfl
@[simp] theorem memSet_links (s : State) (a : Nat) (v : Byte) : (memSet s a v).links = s.links := rfl
@[simp] theorem memSet_throttle (s : State) (a : Nat) (v : Byte) : (memSet s a v).throttle = s.throttle := rfl
@[simp] theorem memSet_mirrors (s : State) (a : Nat) (v : Byte) : (memSet s a v).mirrors = s.mirrors := rfl
@[simp] theorem memSet_agents (s : State) (a : Nat) (v : Byte) : (memSet s a v).agents = s.agents := rfl
@[simp] theorem memSet_levelEvents (s : State) (a : Nat) (v : Byte) : (memSet s a v).levelEvents = s.levelEvents := rfl
@[simp] theorem memSet_tree (s : State) (a : Nat) (v : Byte) : (memSet s a v).tree = s.tree := rfl
@[simp] theorem memSet_groups (s : State) (a : Nat) (v : Byte) : (memSet s a v).groups = s.groups := rfl
@[simp] theorem memSet_ports (s : State) (a : Nat) (v : Byte) : (memSet s a v).ports = s.ports := rfl
@[simp] theorem memSet_expansions (s : State) (a : Nat) (v : Byte) : (memSet s a v).expansions = s.expansions := rfl
@[simp] theorem memSet_fabTime (s : State) (a : Nat) (v : Byte) : (memSet s a v).fabTime = s.fabTime := rfl
@[simp] theorem memSet_host (s : State) (a : Nat) (v : Byte) : (memSet s a v).host = s.host := rfl
@[simp] theorem memSet_lanes (s : State) (a : Nat) (v : Byte) : (memSet s a v).lanes = s.lanes := rfl
@[simp] theorem memSet_trains (s : State) (a : Nat) (v : Byte) : (memSet s a v).trains = s.trains := rfl
@[simp] theorem memSet_load (s : State) (a : Nat) (v : Byte) : (memSet s a v).load = s.load := rfl
@[simp] theorem memSet_chain (s : State) (a : Nat) (v : Byte) : (memSet s a v).chain = s.chain := rfl
@[simp] theorem memSet_flash (s : State) (a : Nat) (v : Byte) : (memSet s a v).flash = s.flash := rfl
@[simp] theorem memSet_auditPos (s : State) (a : Nat) (v : Byte) : (memSet s a v).auditPos = s.auditPos := rfl
@[simp] theorem memSet_defaults (s : State) (a : Nat) (v : Byte) : (memSet s a v).defaults = s.defaults := rfl
@[simp] theorem memSet_defaultsDue (s : State) (a : Nat) (v : Byte) : (memSet s a v).defaultsDue = s.defaultsDue := rfl
@[simp] theorem memSet_smbusOff (s : State) (a : Nat) (v : Byte) : (memSet s a v).smbusOff = s.smbusOff := rfl
@[simp] theorem memSet_confirmed (s : State) (a : Nat) (v : Byte) : (memSet s a v).confirmed = s.confirmed := rfl
@[simp] theorem memSet_asleep (s : State) (a : Nat) (v : Byte) : (memSet s a v).asleep = s.asleep := rfl
@[simp] theorem memSet_timeLatch (s : State) (a : Nat) (v : Byte) : (memSet s a v).timeLatch = s.timeLatch := rfl
@[simp] theorem memSet_resetDue (s : State) (a : Nat) (v : Byte) : (memSet s a v).resetDue = s.resetDue := rfl
@[simp] theorem memSet_straps (s : State) (a : Nat) (v : Byte) : (memSet s a v).straps = s.straps := rfl
@[simp] theorem memSet_railLow (s : State) (a : Nat) (v : Byte) : (memSet s a v).railLow = s.railLow := rfl
@[simp] theorem memSet_readData (s : State) (a : Nat) (v : Byte) : (memSet s a v).readData = s.readData := rfl
@[simp] theorem memSet_log (s : State) (a : Nat) (v : Byte) : (memSet s a v).log = s.log := rfl
@[simp] theorem memSet_recorder (s : State) (a : Nat) (v : Byte) : (memSet s a v).recorder = s.recorder := rfl
@[simp] theorem memSet_nv (s : State) (a : Nat) (v : Byte) : (memSet s a v).nv = s.nv := rfl
@[simp] theorem memSet_msix (s : State) (a : Nat) (v : Byte) : (memSet s a v).msix = s.msix := rfl
@[simp] theorem memSet_time (s : State) (a : Nat) (v : Byte) : (memSet s a v).time = s.time := rfl
@[simp] theorem memSet_fresh (s : State) (a : Nat) (v : Byte) : (memSet s a v).fresh = s.fresh := rfl

@[simp] theorem memZero_pending (s : State) (a n : Nat) : (memZero s a n).pending = s.pending := rfl
@[simp] theorem memZero_regs (s : State) (a n : Nat) : (memZero s a n).regs = s.regs := rfl
@[simp] theorem memZero_tiles (s : State) (a n : Nat) : (memZero s a n).tiles = s.tiles := rfl
@[simp] theorem memZero_eccErr (s : State) (a n : Nat) : (memZero s a n).eccErr = s.eccErr := rfl
@[simp] theorem memZero_xyBad (s : State) (a n : Nat) : (memZero s a n).xyBad = s.xyBad := rfl
@[simp] theorem memZero_tagStore (s : State) (a n : Nat) : (memZero s a n).tagStore = s.tagStore := rfl
@[simp] theorem memZero_tagBad (s : State) (a n : Nat) : (memZero s a n).tagBad = s.tagBad := rfl
@[simp] theorem memZero_fields (s : State) (a n : Nat) : (memZero s a n).fields = s.fields := rfl
@[simp] theorem memZero_boot (s : State) (a n : Nat) : (memZero s a n).boot = s.boot := rfl
@[simp] theorem memZero_borrowed (s : State) (a n : Nat) : (memZero s a n).borrowed = s.borrowed := rfl
@[simp] theorem memZero_saved (s : State) (a n : Nat) : (memZero s a n).saved = s.saved := rfl
@[simp] theorem memZero_eps (s : State) (a n : Nat) : (memZero s a n).eps = s.eps := rfl
@[simp] theorem memZero_links (s : State) (a n : Nat) : (memZero s a n).links = s.links := rfl
@[simp] theorem memZero_throttle (s : State) (a n : Nat) : (memZero s a n).throttle = s.throttle := rfl
@[simp] theorem memZero_mirrors (s : State) (a n : Nat) : (memZero s a n).mirrors = s.mirrors := rfl
@[simp] theorem memZero_agents (s : State) (a n : Nat) : (memZero s a n).agents = s.agents := rfl
@[simp] theorem memZero_levelEvents (s : State) (a n : Nat) : (memZero s a n).levelEvents = s.levelEvents := rfl
@[simp] theorem memZero_tree (s : State) (a n : Nat) : (memZero s a n).tree = s.tree := rfl
@[simp] theorem memZero_groups (s : State) (a n : Nat) : (memZero s a n).groups = s.groups := rfl
@[simp] theorem memZero_ports (s : State) (a n : Nat) : (memZero s a n).ports = s.ports := rfl
@[simp] theorem memZero_expansions (s : State) (a n : Nat) : (memZero s a n).expansions = s.expansions := rfl
@[simp] theorem memZero_fabTime (s : State) (a n : Nat) : (memZero s a n).fabTime = s.fabTime := rfl
@[simp] theorem memZero_host (s : State) (a n : Nat) : (memZero s a n).host = s.host := rfl
@[simp] theorem memZero_lanes (s : State) (a n : Nat) : (memZero s a n).lanes = s.lanes := rfl
@[simp] theorem memZero_trains (s : State) (a n : Nat) : (memZero s a n).trains = s.trains := rfl
@[simp] theorem memZero_load (s : State) (a n : Nat) : (memZero s a n).load = s.load := rfl
@[simp] theorem memZero_chain (s : State) (a n : Nat) : (memZero s a n).chain = s.chain := rfl
@[simp] theorem memZero_flash (s : State) (a n : Nat) : (memZero s a n).flash = s.flash := rfl
@[simp] theorem memZero_auditPos (s : State) (a n : Nat) : (memZero s a n).auditPos = s.auditPos := rfl
@[simp] theorem memZero_defaults (s : State) (a n : Nat) : (memZero s a n).defaults = s.defaults := rfl
@[simp] theorem memZero_defaultsDue (s : State) (a n : Nat) : (memZero s a n).defaultsDue = s.defaultsDue := rfl
@[simp] theorem memZero_smbusOff (s : State) (a n : Nat) : (memZero s a n).smbusOff = s.smbusOff := rfl
@[simp] theorem memZero_confirmed (s : State) (a n : Nat) : (memZero s a n).confirmed = s.confirmed := rfl
@[simp] theorem memZero_asleep (s : State) (a n : Nat) : (memZero s a n).asleep = s.asleep := rfl
@[simp] theorem memZero_timeLatch (s : State) (a n : Nat) : (memZero s a n).timeLatch = s.timeLatch := rfl
@[simp] theorem memZero_resetDue (s : State) (a n : Nat) : (memZero s a n).resetDue = s.resetDue := rfl
@[simp] theorem memZero_straps (s : State) (a n : Nat) : (memZero s a n).straps = s.straps := rfl
@[simp] theorem memZero_railLow (s : State) (a n : Nat) : (memZero s a n).railLow = s.railLow := rfl
@[simp] theorem memZero_readData (s : State) (a n : Nat) : (memZero s a n).readData = s.readData := rfl
@[simp] theorem memZero_log (s : State) (a n : Nat) : (memZero s a n).log = s.log := rfl
@[simp] theorem memZero_recorder (s : State) (a n : Nat) : (memZero s a n).recorder = s.recorder := rfl
@[simp] theorem memZero_nv (s : State) (a n : Nat) : (memZero s a n).nv = s.nv := rfl
@[simp] theorem memZero_msix (s : State) (a n : Nat) : (memZero s a n).msix = s.msix := rfl
@[simp] theorem memZero_time (s : State) (a n : Nat) : (memZero s a n).time = s.time := rfl
@[simp] theorem memZero_fresh (s : State) (a n : Nat) : (memZero s a n).fresh = s.fresh := rfl

@[simp] theorem useFree_pending (s : State) : (useFree s).pending = s.pending := rfl
@[simp] theorem useFree_regs (s : State) : (useFree s).regs = s.regs := rfl
@[simp] theorem useFree_tiles (s : State) : (useFree s).tiles = s.tiles := rfl
@[simp] theorem useFree_mem (s : State) : (useFree s).mem = s.mem := rfl
@[simp] theorem useFree_eccErr (s : State) : (useFree s).eccErr = s.eccErr := rfl
@[simp] theorem useFree_xyBad (s : State) : (useFree s).xyBad = s.xyBad := rfl
@[simp] theorem useFree_tagStore (s : State) : (useFree s).tagStore = s.tagStore := rfl
@[simp] theorem useFree_tagBad (s : State) : (useFree s).tagBad = s.tagBad := rfl
@[simp] theorem useFree_fields (s : State) : (useFree s).fields = s.fields := rfl
@[simp] theorem useFree_boot (s : State) : (useFree s).boot = s.boot := rfl
@[simp] theorem useFree_borrowed (s : State) : (useFree s).borrowed = s.borrowed := rfl
@[simp] theorem useFree_saved (s : State) : (useFree s).saved = s.saved := rfl
@[simp] theorem useFree_eps (s : State) : (useFree s).eps = s.eps := rfl
@[simp] theorem useFree_links (s : State) : (useFree s).links = s.links := rfl
@[simp] theorem useFree_throttle (s : State) : (useFree s).throttle = s.throttle := rfl
@[simp] theorem useFree_mirrors (s : State) : (useFree s).mirrors = s.mirrors := rfl
@[simp] theorem useFree_agents (s : State) : (useFree s).agents = s.agents := rfl
@[simp] theorem useFree_levelEvents (s : State) : (useFree s).levelEvents = s.levelEvents := rfl
@[simp] theorem useFree_tree (s : State) : (useFree s).tree = s.tree := rfl
@[simp] theorem useFree_groups (s : State) : (useFree s).groups = s.groups := rfl
@[simp] theorem useFree_ports (s : State) : (useFree s).ports = s.ports := rfl
@[simp] theorem useFree_expansions (s : State) : (useFree s).expansions = s.expansions := rfl
@[simp] theorem useFree_fabTime (s : State) : (useFree s).fabTime = s.fabTime := rfl
@[simp] theorem useFree_host (s : State) : (useFree s).host = s.host := rfl
@[simp] theorem useFree_lanes (s : State) : (useFree s).lanes = s.lanes := rfl
@[simp] theorem useFree_trains (s : State) : (useFree s).trains = s.trains := rfl
@[simp] theorem useFree_load (s : State) : (useFree s).load = s.load := rfl
@[simp] theorem useFree_chain (s : State) : (useFree s).chain = s.chain := rfl
@[simp] theorem useFree_flash (s : State) : (useFree s).flash = s.flash := rfl
@[simp] theorem useFree_auditPos (s : State) : (useFree s).auditPos = s.auditPos := rfl
@[simp] theorem useFree_defaults (s : State) : (useFree s).defaults = s.defaults := rfl
@[simp] theorem useFree_defaultsDue (s : State) : (useFree s).defaultsDue = s.defaultsDue := rfl
@[simp] theorem useFree_smbusOff (s : State) : (useFree s).smbusOff = s.smbusOff := rfl
@[simp] theorem useFree_confirmed (s : State) : (useFree s).confirmed = s.confirmed := rfl
@[simp] theorem useFree_asleep (s : State) : (useFree s).asleep = s.asleep := rfl
@[simp] theorem useFree_timeLatch (s : State) : (useFree s).timeLatch = s.timeLatch := rfl
@[simp] theorem useFree_resetDue (s : State) : (useFree s).resetDue = s.resetDue := rfl
@[simp] theorem useFree_straps (s : State) : (useFree s).straps = s.straps := rfl
@[simp] theorem useFree_railLow (s : State) : (useFree s).railLow = s.railLow := rfl
@[simp] theorem useFree_readData (s : State) : (useFree s).readData = s.readData := rfl
@[simp] theorem useFree_log (s : State) : (useFree s).log = s.log := rfl
@[simp] theorem useFree_recorder (s : State) : (useFree s).recorder = s.recorder := rfl
@[simp] theorem useFree_nv (s : State) : (useFree s).nv = s.nv := rfl
@[simp] theorem useFree_msix (s : State) : (useFree s).msix = s.msix := rfl
@[simp] theorem useFree_time (s : State) : (useFree s).time = s.time := rfl

@[simp] theorem setEp_pending (s : State) (ep : Nat) (x : Endpoint) : (setEp s ep x).pending = s.pending := rfl
@[simp] theorem setEp_regs (s : State) (ep : Nat) (x : Endpoint) : (setEp s ep x).regs = s.regs := rfl
@[simp] theorem setEp_tiles (s : State) (ep : Nat) (x : Endpoint) : (setEp s ep x).tiles = s.tiles := rfl
@[simp] theorem setEp_mem (s : State) (ep : Nat) (x : Endpoint) : (setEp s ep x).mem = s.mem := rfl
@[simp] theorem setEp_eccErr (s : State) (ep : Nat) (x : Endpoint) : (setEp s ep x).eccErr = s.eccErr := rfl
@[simp] theorem setEp_xyBad (s : State) (ep : Nat) (x : Endpoint) : (setEp s ep x).xyBad = s.xyBad := rfl
@[simp] theorem setEp_tagStore (s : State) (ep : Nat) (x : Endpoint) : (setEp s ep x).tagStore = s.tagStore := rfl
@[simp] theorem setEp_tagBad (s : State) (ep : Nat) (x : Endpoint) : (setEp s ep x).tagBad = s.tagBad := rfl
@[simp] theorem setEp_fields (s : State) (ep : Nat) (x : Endpoint) : (setEp s ep x).fields = s.fields := rfl
@[simp] theorem setEp_boot (s : State) (ep : Nat) (x : Endpoint) : (setEp s ep x).boot = s.boot := rfl
@[simp] theorem setEp_borrowed (s : State) (ep : Nat) (x : Endpoint) : (setEp s ep x).borrowed = s.borrowed := rfl
@[simp] theorem setEp_saved (s : State) (ep : Nat) (x : Endpoint) : (setEp s ep x).saved = s.saved := rfl
@[simp] theorem setEp_links (s : State) (ep : Nat) (x : Endpoint) : (setEp s ep x).links = s.links := rfl
@[simp] theorem setEp_throttle (s : State) (ep : Nat) (x : Endpoint) : (setEp s ep x).throttle = s.throttle := rfl
@[simp] theorem setEp_mirrors (s : State) (ep : Nat) (x : Endpoint) : (setEp s ep x).mirrors = s.mirrors := rfl
@[simp] theorem setEp_agents (s : State) (ep : Nat) (x : Endpoint) : (setEp s ep x).agents = s.agents := rfl
@[simp] theorem setEp_levelEvents (s : State) (ep : Nat) (x : Endpoint) : (setEp s ep x).levelEvents = s.levelEvents := rfl
@[simp] theorem setEp_tree (s : State) (ep : Nat) (x : Endpoint) : (setEp s ep x).tree = s.tree := rfl
@[simp] theorem setEp_groups (s : State) (ep : Nat) (x : Endpoint) : (setEp s ep x).groups = s.groups := rfl
@[simp] theorem setEp_ports (s : State) (ep : Nat) (x : Endpoint) : (setEp s ep x).ports = s.ports := rfl
@[simp] theorem setEp_expansions (s : State) (ep : Nat) (x : Endpoint) : (setEp s ep x).expansions = s.expansions := rfl
@[simp] theorem setEp_fabTime (s : State) (ep : Nat) (x : Endpoint) : (setEp s ep x).fabTime = s.fabTime := rfl
@[simp] theorem setEp_host (s : State) (ep : Nat) (x : Endpoint) : (setEp s ep x).host = s.host := rfl
@[simp] theorem setEp_lanes (s : State) (ep : Nat) (x : Endpoint) : (setEp s ep x).lanes = s.lanes := rfl
@[simp] theorem setEp_trains (s : State) (ep : Nat) (x : Endpoint) : (setEp s ep x).trains = s.trains := rfl
@[simp] theorem setEp_load (s : State) (ep : Nat) (x : Endpoint) : (setEp s ep x).load = s.load := rfl
@[simp] theorem setEp_chain (s : State) (ep : Nat) (x : Endpoint) : (setEp s ep x).chain = s.chain := rfl
@[simp] theorem setEp_flash (s : State) (ep : Nat) (x : Endpoint) : (setEp s ep x).flash = s.flash := rfl
@[simp] theorem setEp_auditPos (s : State) (ep : Nat) (x : Endpoint) : (setEp s ep x).auditPos = s.auditPos := rfl
@[simp] theorem setEp_defaults (s : State) (ep : Nat) (x : Endpoint) : (setEp s ep x).defaults = s.defaults := rfl
@[simp] theorem setEp_defaultsDue (s : State) (ep : Nat) (x : Endpoint) : (setEp s ep x).defaultsDue = s.defaultsDue := rfl
@[simp] theorem setEp_smbusOff (s : State) (ep : Nat) (x : Endpoint) : (setEp s ep x).smbusOff = s.smbusOff := rfl
@[simp] theorem setEp_confirmed (s : State) (ep : Nat) (x : Endpoint) : (setEp s ep x).confirmed = s.confirmed := rfl
@[simp] theorem setEp_asleep (s : State) (ep : Nat) (x : Endpoint) : (setEp s ep x).asleep = s.asleep := rfl
@[simp] theorem setEp_timeLatch (s : State) (ep : Nat) (x : Endpoint) : (setEp s ep x).timeLatch = s.timeLatch := rfl
@[simp] theorem setEp_resetDue (s : State) (ep : Nat) (x : Endpoint) : (setEp s ep x).resetDue = s.resetDue := rfl
@[simp] theorem setEp_straps (s : State) (ep : Nat) (x : Endpoint) : (setEp s ep x).straps = s.straps := rfl
@[simp] theorem setEp_railLow (s : State) (ep : Nat) (x : Endpoint) : (setEp s ep x).railLow = s.railLow := rfl
@[simp] theorem setEp_readData (s : State) (ep : Nat) (x : Endpoint) : (setEp s ep x).readData = s.readData := rfl
@[simp] theorem setEp_log (s : State) (ep : Nat) (x : Endpoint) : (setEp s ep x).log = s.log := rfl
@[simp] theorem setEp_recorder (s : State) (ep : Nat) (x : Endpoint) : (setEp s ep x).recorder = s.recorder := rfl
@[simp] theorem setEp_nv (s : State) (ep : Nat) (x : Endpoint) : (setEp s ep x).nv = s.nv := rfl
@[simp] theorem setEp_msix (s : State) (ep : Nat) (x : Endpoint) : (setEp s ep x).msix = s.msix := rfl
@[simp] theorem setEp_time (s : State) (ep : Nat) (x : Endpoint) : (setEp s ep x).time = s.time := rfl
@[simp] theorem setEp_fresh (s : State) (ep : Nat) (x : Endpoint) : (setEp s ep x).fresh = s.fresh := rfl

@[simp] theorem setIn_pending (s : State) (ep n : Nat) (x : Option Ingress) : (setIn s ep n x).pending = s.pending := rfl
@[simp] theorem setIn_regs (s : State) (ep n : Nat) (x : Option Ingress) : (setIn s ep n x).regs = s.regs := rfl
@[simp] theorem setIn_tiles (s : State) (ep n : Nat) (x : Option Ingress) : (setIn s ep n x).tiles = s.tiles := rfl
@[simp] theorem setIn_mem (s : State) (ep n : Nat) (x : Option Ingress) : (setIn s ep n x).mem = s.mem := rfl
@[simp] theorem setIn_eccErr (s : State) (ep n : Nat) (x : Option Ingress) : (setIn s ep n x).eccErr = s.eccErr := rfl
@[simp] theorem setIn_xyBad (s : State) (ep n : Nat) (x : Option Ingress) : (setIn s ep n x).xyBad = s.xyBad := rfl
@[simp] theorem setIn_tagStore (s : State) (ep n : Nat) (x : Option Ingress) : (setIn s ep n x).tagStore = s.tagStore := rfl
@[simp] theorem setIn_tagBad (s : State) (ep n : Nat) (x : Option Ingress) : (setIn s ep n x).tagBad = s.tagBad := rfl
@[simp] theorem setIn_fields (s : State) (ep n : Nat) (x : Option Ingress) : (setIn s ep n x).fields = s.fields := rfl
@[simp] theorem setIn_boot (s : State) (ep n : Nat) (x : Option Ingress) : (setIn s ep n x).boot = s.boot := rfl
@[simp] theorem setIn_borrowed (s : State) (ep n : Nat) (x : Option Ingress) : (setIn s ep n x).borrowed = s.borrowed := rfl
@[simp] theorem setIn_saved (s : State) (ep n : Nat) (x : Option Ingress) : (setIn s ep n x).saved = s.saved := rfl
@[simp] theorem setIn_links (s : State) (ep n : Nat) (x : Option Ingress) : (setIn s ep n x).links = s.links := rfl
@[simp] theorem setIn_throttle (s : State) (ep n : Nat) (x : Option Ingress) : (setIn s ep n x).throttle = s.throttle := rfl
@[simp] theorem setIn_mirrors (s : State) (ep n : Nat) (x : Option Ingress) : (setIn s ep n x).mirrors = s.mirrors := rfl
@[simp] theorem setIn_agents (s : State) (ep n : Nat) (x : Option Ingress) : (setIn s ep n x).agents = s.agents := rfl
@[simp] theorem setIn_levelEvents (s : State) (ep n : Nat) (x : Option Ingress) : (setIn s ep n x).levelEvents = s.levelEvents := rfl
@[simp] theorem setIn_tree (s : State) (ep n : Nat) (x : Option Ingress) : (setIn s ep n x).tree = s.tree := rfl
@[simp] theorem setIn_groups (s : State) (ep n : Nat) (x : Option Ingress) : (setIn s ep n x).groups = s.groups := rfl
@[simp] theorem setIn_ports (s : State) (ep n : Nat) (x : Option Ingress) : (setIn s ep n x).ports = s.ports := rfl
@[simp] theorem setIn_expansions (s : State) (ep n : Nat) (x : Option Ingress) : (setIn s ep n x).expansions = s.expansions := rfl
@[simp] theorem setIn_fabTime (s : State) (ep n : Nat) (x : Option Ingress) : (setIn s ep n x).fabTime = s.fabTime := rfl
@[simp] theorem setIn_host (s : State) (ep n : Nat) (x : Option Ingress) : (setIn s ep n x).host = s.host := rfl
@[simp] theorem setIn_lanes (s : State) (ep n : Nat) (x : Option Ingress) : (setIn s ep n x).lanes = s.lanes := rfl
@[simp] theorem setIn_trains (s : State) (ep n : Nat) (x : Option Ingress) : (setIn s ep n x).trains = s.trains := rfl
@[simp] theorem setIn_load (s : State) (ep n : Nat) (x : Option Ingress) : (setIn s ep n x).load = s.load := rfl
@[simp] theorem setIn_chain (s : State) (ep n : Nat) (x : Option Ingress) : (setIn s ep n x).chain = s.chain := rfl
@[simp] theorem setIn_flash (s : State) (ep n : Nat) (x : Option Ingress) : (setIn s ep n x).flash = s.flash := rfl
@[simp] theorem setIn_auditPos (s : State) (ep n : Nat) (x : Option Ingress) : (setIn s ep n x).auditPos = s.auditPos := rfl
@[simp] theorem setIn_defaults (s : State) (ep n : Nat) (x : Option Ingress) : (setIn s ep n x).defaults = s.defaults := rfl
@[simp] theorem setIn_defaultsDue (s : State) (ep n : Nat) (x : Option Ingress) : (setIn s ep n x).defaultsDue = s.defaultsDue := rfl
@[simp] theorem setIn_smbusOff (s : State) (ep n : Nat) (x : Option Ingress) : (setIn s ep n x).smbusOff = s.smbusOff := rfl
@[simp] theorem setIn_confirmed (s : State) (ep n : Nat) (x : Option Ingress) : (setIn s ep n x).confirmed = s.confirmed := rfl
@[simp] theorem setIn_asleep (s : State) (ep n : Nat) (x : Option Ingress) : (setIn s ep n x).asleep = s.asleep := rfl
@[simp] theorem setIn_timeLatch (s : State) (ep n : Nat) (x : Option Ingress) : (setIn s ep n x).timeLatch = s.timeLatch := rfl
@[simp] theorem setIn_resetDue (s : State) (ep n : Nat) (x : Option Ingress) : (setIn s ep n x).resetDue = s.resetDue := rfl
@[simp] theorem setIn_straps (s : State) (ep n : Nat) (x : Option Ingress) : (setIn s ep n x).straps = s.straps := rfl
@[simp] theorem setIn_railLow (s : State) (ep n : Nat) (x : Option Ingress) : (setIn s ep n x).railLow = s.railLow := rfl
@[simp] theorem setIn_readData (s : State) (ep n : Nat) (x : Option Ingress) : (setIn s ep n x).readData = s.readData := rfl
@[simp] theorem setIn_log (s : State) (ep n : Nat) (x : Option Ingress) : (setIn s ep n x).log = s.log := rfl
@[simp] theorem setIn_recorder (s : State) (ep n : Nat) (x : Option Ingress) : (setIn s ep n x).recorder = s.recorder := rfl
@[simp] theorem setIn_nv (s : State) (ep n : Nat) (x : Option Ingress) : (setIn s ep n x).nv = s.nv := rfl
@[simp] theorem setIn_msix (s : State) (ep n : Nat) (x : Option Ingress) : (setIn s ep n x).msix = s.msix := rfl
@[simp] theorem setIn_time (s : State) (ep n : Nat) (x : Option Ingress) : (setIn s ep n x).time = s.time := rfl
@[simp] theorem setIn_fresh (s : State) (ep n : Nat) (x : Option Ingress) : (setIn s ep n x).fresh = s.fresh := rfl

@[simp] theorem setLatch_pending (s : State) (src : Nat) (l : Option LogLatch) : (setLatch s src l).pending = s.pending := rfl
@[simp] theorem setLatch_regs (s : State) (src : Nat) (l : Option LogLatch) : (setLatch s src l).regs = s.regs := rfl
@[simp] theorem setLatch_tiles (s : State) (src : Nat) (l : Option LogLatch) : (setLatch s src l).tiles = s.tiles := rfl
@[simp] theorem setLatch_mem (s : State) (src : Nat) (l : Option LogLatch) : (setLatch s src l).mem = s.mem := rfl
@[simp] theorem setLatch_eccErr (s : State) (src : Nat) (l : Option LogLatch) : (setLatch s src l).eccErr = s.eccErr := rfl
@[simp] theorem setLatch_xyBad (s : State) (src : Nat) (l : Option LogLatch) : (setLatch s src l).xyBad = s.xyBad := rfl
@[simp] theorem setLatch_tagStore (s : State) (src : Nat) (l : Option LogLatch) : (setLatch s src l).tagStore = s.tagStore := rfl
@[simp] theorem setLatch_tagBad (s : State) (src : Nat) (l : Option LogLatch) : (setLatch s src l).tagBad = s.tagBad := rfl
@[simp] theorem setLatch_fields (s : State) (src : Nat) (l : Option LogLatch) : (setLatch s src l).fields = s.fields := rfl
@[simp] theorem setLatch_boot (s : State) (src : Nat) (l : Option LogLatch) : (setLatch s src l).boot = s.boot := rfl
@[simp] theorem setLatch_borrowed (s : State) (src : Nat) (l : Option LogLatch) : (setLatch s src l).borrowed = s.borrowed := rfl
@[simp] theorem setLatch_saved (s : State) (src : Nat) (l : Option LogLatch) : (setLatch s src l).saved = s.saved := rfl
@[simp] theorem setLatch_eps (s : State) (src : Nat) (l : Option LogLatch) : (setLatch s src l).eps = s.eps := rfl
@[simp] theorem setLatch_links (s : State) (src : Nat) (l : Option LogLatch) : (setLatch s src l).links = s.links := rfl
@[simp] theorem setLatch_throttle (s : State) (src : Nat) (l : Option LogLatch) : (setLatch s src l).throttle = s.throttle := rfl
@[simp] theorem setLatch_mirrors (s : State) (src : Nat) (l : Option LogLatch) : (setLatch s src l).mirrors = s.mirrors := rfl
@[simp] theorem setLatch_agents (s : State) (src : Nat) (l : Option LogLatch) : (setLatch s src l).agents = s.agents := rfl
@[simp] theorem setLatch_levelEvents (s : State) (src : Nat) (l : Option LogLatch) : (setLatch s src l).levelEvents = s.levelEvents := rfl
@[simp] theorem setLatch_tree (s : State) (src : Nat) (l : Option LogLatch) : (setLatch s src l).tree = s.tree := rfl
@[simp] theorem setLatch_groups (s : State) (src : Nat) (l : Option LogLatch) : (setLatch s src l).groups = s.groups := rfl
@[simp] theorem setLatch_ports (s : State) (src : Nat) (l : Option LogLatch) : (setLatch s src l).ports = s.ports := rfl
@[simp] theorem setLatch_expansions (s : State) (src : Nat) (l : Option LogLatch) : (setLatch s src l).expansions = s.expansions := rfl
@[simp] theorem setLatch_fabTime (s : State) (src : Nat) (l : Option LogLatch) : (setLatch s src l).fabTime = s.fabTime := rfl
@[simp] theorem setLatch_host (s : State) (src : Nat) (l : Option LogLatch) : (setLatch s src l).host = s.host := rfl
@[simp] theorem setLatch_lanes (s : State) (src : Nat) (l : Option LogLatch) : (setLatch s src l).lanes = s.lanes := rfl
@[simp] theorem setLatch_trains (s : State) (src : Nat) (l : Option LogLatch) : (setLatch s src l).trains = s.trains := rfl
@[simp] theorem setLatch_load (s : State) (src : Nat) (l : Option LogLatch) : (setLatch s src l).load = s.load := rfl
@[simp] theorem setLatch_chain (s : State) (src : Nat) (l : Option LogLatch) : (setLatch s src l).chain = s.chain := rfl
@[simp] theorem setLatch_flash (s : State) (src : Nat) (l : Option LogLatch) : (setLatch s src l).flash = s.flash := rfl
@[simp] theorem setLatch_auditPos (s : State) (src : Nat) (l : Option LogLatch) : (setLatch s src l).auditPos = s.auditPos := rfl
@[simp] theorem setLatch_defaults (s : State) (src : Nat) (l : Option LogLatch) : (setLatch s src l).defaults = s.defaults := rfl
@[simp] theorem setLatch_defaultsDue (s : State) (src : Nat) (l : Option LogLatch) : (setLatch s src l).defaultsDue = s.defaultsDue := rfl
@[simp] theorem setLatch_smbusOff (s : State) (src : Nat) (l : Option LogLatch) : (setLatch s src l).smbusOff = s.smbusOff := rfl
@[simp] theorem setLatch_confirmed (s : State) (src : Nat) (l : Option LogLatch) : (setLatch s src l).confirmed = s.confirmed := rfl
@[simp] theorem setLatch_asleep (s : State) (src : Nat) (l : Option LogLatch) : (setLatch s src l).asleep = s.asleep := rfl
@[simp] theorem setLatch_timeLatch (s : State) (src : Nat) (l : Option LogLatch) : (setLatch s src l).timeLatch = s.timeLatch := rfl
@[simp] theorem setLatch_resetDue (s : State) (src : Nat) (l : Option LogLatch) : (setLatch s src l).resetDue = s.resetDue := rfl
@[simp] theorem setLatch_straps (s : State) (src : Nat) (l : Option LogLatch) : (setLatch s src l).straps = s.straps := rfl
@[simp] theorem setLatch_railLow (s : State) (src : Nat) (l : Option LogLatch) : (setLatch s src l).railLow = s.railLow := rfl
@[simp] theorem setLatch_readData (s : State) (src : Nat) (l : Option LogLatch) : (setLatch s src l).readData = s.readData := rfl
@[simp] theorem setLatch_recorder (s : State) (src : Nat) (l : Option LogLatch) : (setLatch s src l).recorder = s.recorder := rfl
@[simp] theorem setLatch_nv (s : State) (src : Nat) (l : Option LogLatch) : (setLatch s src l).nv = s.nv := rfl
@[simp] theorem setLatch_msix (s : State) (src : Nat) (l : Option LogLatch) : (setLatch s src l).msix = s.msix := rfl
@[simp] theorem setLatch_time (s : State) (src : Nat) (l : Option LogLatch) : (setLatch s src l).time = s.time := rfl
@[simp] theorem setLatch_fresh (s : State) (src : Nat) (l : Option LogLatch) : (setLatch s src l).fresh = s.fresh := rfl

@[simp] theorem recCount_pending (s : State) (off n : Nat) : (recCount s off n).pending = s.pending := rfl
@[simp] theorem recCount_regs (s : State) (off n : Nat) : (recCount s off n).regs = s.regs := rfl
@[simp] theorem recCount_tiles (s : State) (off n : Nat) : (recCount s off n).tiles = s.tiles := rfl
@[simp] theorem recCount_mem (s : State) (off n : Nat) : (recCount s off n).mem = s.mem := rfl
@[simp] theorem recCount_eccErr (s : State) (off n : Nat) : (recCount s off n).eccErr = s.eccErr := rfl
@[simp] theorem recCount_xyBad (s : State) (off n : Nat) : (recCount s off n).xyBad = s.xyBad := rfl
@[simp] theorem recCount_tagStore (s : State) (off n : Nat) : (recCount s off n).tagStore = s.tagStore := rfl
@[simp] theorem recCount_tagBad (s : State) (off n : Nat) : (recCount s off n).tagBad = s.tagBad := rfl
@[simp] theorem recCount_fields (s : State) (off n : Nat) : (recCount s off n).fields = s.fields := rfl
@[simp] theorem recCount_boot (s : State) (off n : Nat) : (recCount s off n).boot = s.boot := rfl
@[simp] theorem recCount_borrowed (s : State) (off n : Nat) : (recCount s off n).borrowed = s.borrowed := rfl
@[simp] theorem recCount_saved (s : State) (off n : Nat) : (recCount s off n).saved = s.saved := rfl
@[simp] theorem recCount_eps (s : State) (off n : Nat) : (recCount s off n).eps = s.eps := rfl
@[simp] theorem recCount_links (s : State) (off n : Nat) : (recCount s off n).links = s.links := rfl
@[simp] theorem recCount_throttle (s : State) (off n : Nat) : (recCount s off n).throttle = s.throttle := rfl
@[simp] theorem recCount_mirrors (s : State) (off n : Nat) : (recCount s off n).mirrors = s.mirrors := rfl
@[simp] theorem recCount_agents (s : State) (off n : Nat) : (recCount s off n).agents = s.agents := rfl
@[simp] theorem recCount_levelEvents (s : State) (off n : Nat) : (recCount s off n).levelEvents = s.levelEvents := rfl
@[simp] theorem recCount_tree (s : State) (off n : Nat) : (recCount s off n).tree = s.tree := rfl
@[simp] theorem recCount_groups (s : State) (off n : Nat) : (recCount s off n).groups = s.groups := rfl
@[simp] theorem recCount_ports (s : State) (off n : Nat) : (recCount s off n).ports = s.ports := rfl
@[simp] theorem recCount_expansions (s : State) (off n : Nat) : (recCount s off n).expansions = s.expansions := rfl
@[simp] theorem recCount_fabTime (s : State) (off n : Nat) : (recCount s off n).fabTime = s.fabTime := rfl
@[simp] theorem recCount_host (s : State) (off n : Nat) : (recCount s off n).host = s.host := rfl
@[simp] theorem recCount_lanes (s : State) (off n : Nat) : (recCount s off n).lanes = s.lanes := rfl
@[simp] theorem recCount_trains (s : State) (off n : Nat) : (recCount s off n).trains = s.trains := rfl
@[simp] theorem recCount_load (s : State) (off n : Nat) : (recCount s off n).load = s.load := rfl
@[simp] theorem recCount_chain (s : State) (off n : Nat) : (recCount s off n).chain = s.chain := rfl
@[simp] theorem recCount_flash (s : State) (off n : Nat) : (recCount s off n).flash = s.flash := rfl
@[simp] theorem recCount_auditPos (s : State) (off n : Nat) : (recCount s off n).auditPos = s.auditPos := rfl
@[simp] theorem recCount_defaults (s : State) (off n : Nat) : (recCount s off n).defaults = s.defaults := rfl
@[simp] theorem recCount_defaultsDue (s : State) (off n : Nat) : (recCount s off n).defaultsDue = s.defaultsDue := rfl
@[simp] theorem recCount_smbusOff (s : State) (off n : Nat) : (recCount s off n).smbusOff = s.smbusOff := rfl
@[simp] theorem recCount_confirmed (s : State) (off n : Nat) : (recCount s off n).confirmed = s.confirmed := rfl
@[simp] theorem recCount_asleep (s : State) (off n : Nat) : (recCount s off n).asleep = s.asleep := rfl
@[simp] theorem recCount_timeLatch (s : State) (off n : Nat) : (recCount s off n).timeLatch = s.timeLatch := rfl
@[simp] theorem recCount_resetDue (s : State) (off n : Nat) : (recCount s off n).resetDue = s.resetDue := rfl
@[simp] theorem recCount_straps (s : State) (off n : Nat) : (recCount s off n).straps = s.straps := rfl
@[simp] theorem recCount_railLow (s : State) (off n : Nat) : (recCount s off n).railLow = s.railLow := rfl
@[simp] theorem recCount_readData (s : State) (off n : Nat) : (recCount s off n).readData = s.readData := rfl
@[simp] theorem recCount_log (s : State) (off n : Nat) : (recCount s off n).log = s.log := rfl
@[simp] theorem recCount_nv (s : State) (off n : Nat) : (recCount s off n).nv = s.nv := rfl
@[simp] theorem recCount_msix (s : State) (off n : Nat) : (recCount s off n).msix = s.msix := rfl
@[simp] theorem recCount_time (s : State) (off n : Nat) : (recCount s off n).time = s.time := rfl
@[simp] theorem recCount_fresh (s : State) (off n : Nat) : (recCount s off n).fresh = s.fresh := rfl

@[simp] theorem raiseVec_pending (s : State) (fn k : Nat) : (raiseVec s fn k).pending = s.pending := rfl
@[simp] theorem raiseVec_regs (s : State) (fn k : Nat) : (raiseVec s fn k).regs = s.regs := rfl
@[simp] theorem raiseVec_tiles (s : State) (fn k : Nat) : (raiseVec s fn k).tiles = s.tiles := rfl
@[simp] theorem raiseVec_mem (s : State) (fn k : Nat) : (raiseVec s fn k).mem = s.mem := rfl
@[simp] theorem raiseVec_eccErr (s : State) (fn k : Nat) : (raiseVec s fn k).eccErr = s.eccErr := rfl
@[simp] theorem raiseVec_xyBad (s : State) (fn k : Nat) : (raiseVec s fn k).xyBad = s.xyBad := rfl
@[simp] theorem raiseVec_tagStore (s : State) (fn k : Nat) : (raiseVec s fn k).tagStore = s.tagStore := rfl
@[simp] theorem raiseVec_tagBad (s : State) (fn k : Nat) : (raiseVec s fn k).tagBad = s.tagBad := rfl
@[simp] theorem raiseVec_fields (s : State) (fn k : Nat) : (raiseVec s fn k).fields = s.fields := rfl
@[simp] theorem raiseVec_boot (s : State) (fn k : Nat) : (raiseVec s fn k).boot = s.boot := rfl
@[simp] theorem raiseVec_borrowed (s : State) (fn k : Nat) : (raiseVec s fn k).borrowed = s.borrowed := rfl
@[simp] theorem raiseVec_saved (s : State) (fn k : Nat) : (raiseVec s fn k).saved = s.saved := rfl
@[simp] theorem raiseVec_eps (s : State) (fn k : Nat) : (raiseVec s fn k).eps = s.eps := rfl
@[simp] theorem raiseVec_links (s : State) (fn k : Nat) : (raiseVec s fn k).links = s.links := rfl
@[simp] theorem raiseVec_throttle (s : State) (fn k : Nat) : (raiseVec s fn k).throttle = s.throttle := rfl
@[simp] theorem raiseVec_mirrors (s : State) (fn k : Nat) : (raiseVec s fn k).mirrors = s.mirrors := rfl
@[simp] theorem raiseVec_agents (s : State) (fn k : Nat) : (raiseVec s fn k).agents = s.agents := rfl
@[simp] theorem raiseVec_levelEvents (s : State) (fn k : Nat) : (raiseVec s fn k).levelEvents = s.levelEvents := rfl
@[simp] theorem raiseVec_tree (s : State) (fn k : Nat) : (raiseVec s fn k).tree = s.tree := rfl
@[simp] theorem raiseVec_groups (s : State) (fn k : Nat) : (raiseVec s fn k).groups = s.groups := rfl
@[simp] theorem raiseVec_ports (s : State) (fn k : Nat) : (raiseVec s fn k).ports = s.ports := rfl
@[simp] theorem raiseVec_expansions (s : State) (fn k : Nat) : (raiseVec s fn k).expansions = s.expansions := rfl
@[simp] theorem raiseVec_fabTime (s : State) (fn k : Nat) : (raiseVec s fn k).fabTime = s.fabTime := rfl
@[simp] theorem raiseVec_host (s : State) (fn k : Nat) : (raiseVec s fn k).host = s.host := rfl
@[simp] theorem raiseVec_lanes (s : State) (fn k : Nat) : (raiseVec s fn k).lanes = s.lanes := rfl
@[simp] theorem raiseVec_trains (s : State) (fn k : Nat) : (raiseVec s fn k).trains = s.trains := rfl
@[simp] theorem raiseVec_load (s : State) (fn k : Nat) : (raiseVec s fn k).load = s.load := rfl
@[simp] theorem raiseVec_chain (s : State) (fn k : Nat) : (raiseVec s fn k).chain = s.chain := rfl
@[simp] theorem raiseVec_flash (s : State) (fn k : Nat) : (raiseVec s fn k).flash = s.flash := rfl
@[simp] theorem raiseVec_auditPos (s : State) (fn k : Nat) : (raiseVec s fn k).auditPos = s.auditPos := rfl
@[simp] theorem raiseVec_defaults (s : State) (fn k : Nat) : (raiseVec s fn k).defaults = s.defaults := rfl
@[simp] theorem raiseVec_defaultsDue (s : State) (fn k : Nat) : (raiseVec s fn k).defaultsDue = s.defaultsDue := rfl
@[simp] theorem raiseVec_smbusOff (s : State) (fn k : Nat) : (raiseVec s fn k).smbusOff = s.smbusOff := rfl
@[simp] theorem raiseVec_confirmed (s : State) (fn k : Nat) : (raiseVec s fn k).confirmed = s.confirmed := rfl
@[simp] theorem raiseVec_asleep (s : State) (fn k : Nat) : (raiseVec s fn k).asleep = s.asleep := rfl
@[simp] theorem raiseVec_timeLatch (s : State) (fn k : Nat) : (raiseVec s fn k).timeLatch = s.timeLatch := rfl
@[simp] theorem raiseVec_resetDue (s : State) (fn k : Nat) : (raiseVec s fn k).resetDue = s.resetDue := rfl
@[simp] theorem raiseVec_straps (s : State) (fn k : Nat) : (raiseVec s fn k).straps = s.straps := rfl
@[simp] theorem raiseVec_railLow (s : State) (fn k : Nat) : (raiseVec s fn k).railLow = s.railLow := rfl
@[simp] theorem raiseVec_readData (s : State) (fn k : Nat) : (raiseVec s fn k).readData = s.readData := rfl
@[simp] theorem raiseVec_log (s : State) (fn k : Nat) : (raiseVec s fn k).log = s.log := rfl
@[simp] theorem raiseVec_recorder (s : State) (fn k : Nat) : (raiseVec s fn k).recorder = s.recorder := rfl
@[simp] theorem raiseVec_nv (s : State) (fn k : Nat) : (raiseVec s fn k).nv = s.nv := rfl
@[simp] theorem raiseVec_time (s : State) (fn k : Nat) : (raiseVec s fn k).time = s.time := rfl
@[simp] theorem raiseVec_fresh (s : State) (fn k : Nat) : (raiseVec s fn k).fresh = s.fresh := rfl

end Sys2Proof.Laws
end

