-- ==== Sys2Proof/Machine/Pins.lean ====
section
/-! DEFINITION. The package: which signal stands on which ball (spec 15 R552 to R557), the straps (R558), and the levels of
pins that follow from the state (spec 12 R467; spec 15 R569). ALERT_N and THERM_N stand in Thermal.lean, CFG_ERR_N and CHN_DONE in
Loader.lean. -/

namespace Sys2Proof.Machine

/-- The low-speed pins and reference clocks (spec 15 R557). -/
inductive Pin where
  | refclkPcie (neg : Bool) | perstN | pcieClkreqN | resetN | aonclk | syncIn
  | flSck | flCsN (k : Nat) | flDqs | flResetN | flDq (n : Nat)
  | chnClkIn | chnValidIn | chnDIn (n : Nat) | chnDone | chnClkOut | chnValidOut | chnDOut (n : Nat)
  | gpio (n : Nat) | tck | tms | tdi | tdo | trstN | i2cScl | i2cSda | i2cAddr (n : Nat)
  | avsClk | avsMdata | avsSdata | alertN | thermN | cfgErrN | bootSel (k : Nat) | anchor | refclkLn (q : Nat) (neg : Bool)
  deriving DecidableEq, Repr

/-- The leg of a serial lane: its direction and polarity (spec 15 R556). -/
structure Leg where
  rx : Bool
  neg : Bool
  deriving DecidableEq, Repr

/-- What a ball carries (spec 15 R554, R556). -/
inductive Signal where
  | gnd | vddio | vddAon | vddNv | vddArr (q : Nat) | vddaLn | vddhLn
  | pin (p : Pin) | lane (n : Nat) (leg : Leg) | pcie (n : Nat) (leg : Leg)
  deriving DecidableEq, Repr

/-- Direction, input level and state in cold reset of a pin (spec 15 R557). -/
inductive PinDir where
  | input | output | inOut | openDrain | strap
  deriving DecidableEq, Repr
inductive PinLevel where
  | hcsl | tolerant33 | v18 | v18hyst | differential
  deriving DecidableEq, Repr
inductive PinCold where
  | unstated | low | high | released | floating | pullDown | pullUp | imagePulls | active
  deriving DecidableEq, Repr

/-- A row of R557: ball row and column, pin, direction, level, state in cold reset. -/
structure PinRow where
  row : Nat
  col : Nat
  pin : Pin
  dir : PinDir
  level : PinLevel
  cold : PinCold
  deriving DecidableEq, Repr

/-- `n` balls of a row, from column `c` up. -/
def pinRun (row c n : Nat) (p : Nat → Pin) (d : PinDir) (l : PinLevel) (x : PinCold) : List PinRow :=
  (List.range n).map (fun k => ⟨row, c + k, p k, d, l, x⟩)

/-- R557, rows A to D. -/
def pinRowsA : List PinRow :=
  pinRun 1 2 2 (fun k => .refclkPcie (k == 1)) .input .hcsl .unstated
  ++ [⟨1, 5, .perstN, .input, .tolerant33, .unstated⟩, ⟨1, 6, .pcieClkreqN, .openDrain, .tolerant33, .released⟩,
      ⟨1, 8, .resetN, .input, .v18hyst, .unstated⟩, ⟨1, 10, .aonclk, .input, .v18, .unstated⟩,
      ⟨1, 11, .syncIn, .input, .v18hyst, .unstated⟩, ⟨2, 1, .flSck, .output, .v18, .low⟩]
  ++ pinRun 2 2 2 .flCsN .output .v18 .high
  ++ [⟨2, 4, .flDqs, .input, .v18, .pullDown⟩, ⟨2, 5, .flResetN, .output, .v18, .low⟩]
  ++ pinRun 3 1 8 .flDq .inOut .v18 .pullDown
  ++ [⟨4, 1, .chnClkIn, .input, .v18, .pullDown⟩, ⟨4, 2, .chnValidIn, .input, .v18, .pullDown⟩]
  ++ pinRun 4 3 4 .chnDIn .input .v18 .pullDown
  ++ [⟨4, 8, .chnDone, .openDrain, .v18, .low⟩]

/-- R557, rows E to H. -/
def pinRowsE : List PinRow :=
  [⟨5, 1, .chnClkOut, .output, .v18, .low⟩, ⟨5, 2, .chnValidOut, .output, .v18, .low⟩]
  ++ pinRun 5 3 4 .chnDOut .output .v18 .low
  ++ pinRun 6 1 8 .gpio .inOut .v18 .imagePulls
  ++ [⟨7, 1, .tck, .input, .v18, .unstated⟩, ⟨7, 2, .tms, .input, .v18, .pullUp⟩, ⟨7, 3, .tdi, .input, .v18, .pullUp⟩,
      ⟨7, 4, .tdo, .output, .v18, .floating⟩, ⟨7, 5, .trstN, .input, .v18, .pullDown⟩,
      ⟨8, 1, .i2cScl, .openDrain, .tolerant33, .released⟩, ⟨8, 2, .i2cSda, .openDrain, .tolerant33, .released⟩]
  ++ pinRun 8 4 3 .i2cAddr .strap .v18 .pullDown

/-- R557, rows J to CE. -/
def pinRowsJ : List PinRow :=
  [⟨9, 1, .avsClk, .output, .v18, .low⟩, ⟨9, 2, .avsMdata, .output, .v18, .low⟩, ⟨9, 3, .avsSdata, .input, .v18, .pullUp⟩,
   ⟨9, 5, .alertN, .openDrain, .tolerant33, .active⟩, ⟨9, 6, .thermN, .openDrain, .tolerant33, .active⟩,
   ⟨9, 7, .cfgErrN, .openDrain, .v18, .released⟩]
  ++ pinRun 10 1 2 .bootSel .strap .v18 .pullDown
  ++ [⟨10, 3, .anchor, .strap, .v18, .pullDown⟩]
  ++ pinRun 11 2 2 (fun k => .refclkLn 0 (k == 1)) .input .differential .unstated
  ++ pinRun 11 70 2 (fun k => .refclkLn 1 (k == 1)) .input .differential .unstated
  ++ pinRun 62 2 2 (fun k => .refclkLn 2 (k == 1)) .input .differential .unstated
  ++ pinRun 62 70 2 (fun k => .refclkLn 3 (k == 1)) .input .differential .unstated

/-- The ball map (spec 15 R557). DESIGN CHOICE (assumption log 63). -/
def pinRows : List PinRow := pinRowsA ++ pinRowsE ++ pinRowsJ

/-- The letters of row names, in order (spec 15 R552). -/
def rowLetters : String := "ABCDEFGHJKLMNPTUVWY"
/-- The letter name of row `i`, 1 to 72: one letter for rows 1 to 19, then two (spec 15 R552). -/
def rowName (i : Nat) : String :=
  let l := fun k => String.ofList [rowLetters.toList.getD k 'A']
  if i ≤ 19 then l (i - 1) else l ((i - 20) / 19) ++ l ((i - 20) % 19)

/-- What serves a position of a band: PCI Express quad `m`, or quad `m` of the port whose lane 0 of quad 0 is `first` (spec 15
R555). Bands: 0 north, 1 west, 2 east; `h` is the half, `n` the position. -/
inductive Quad where
  | pcie (m : Nat) | lanes (first : Nat)
  deriving DecidableEq, Repr
def quadAt (band h n : Nat) : Option Quad :=
  let tether := fun p m => some (Quad.lanes (8 * p + 4 * m))
  let edge := fun q m => some (Quad.lanes (48 + 16 * q + 4 * m))
  if band = 0 then
    (if h = 0 then (if n < 4 then some (.pcie n) else tether 4 (n - 4)) else if n < 2 then tether 5 n else none)
  else
    let q := 2 * h + (band - 1)
    if n < 4 then edge q n else tether q (n - 4)

/-- The ball at position `k`, depth `d` of a cell (spec 15 R556). -/
def cellBall (u : Quad) (k d : Nat) : Signal :=
  let leg := fun rx => (⟨rx, decide (k % 2 = 1)⟩ : Leg)
  let wire := fun rx => match u with
    | .pcie m => Signal.pcie (4 * m + k / 2) (leg rx)
    | .lanes f => Signal.lane (f + k / 2) (leg rx)
  if d = 1 then wire false
  else if d = 3 then wire true
  else if d = 5 then (if k % 2 = 0 then .vddaLn else .vddhLn)
  else .gnd

/-- A ball of a band: along the edge `a`, from the edge inward `e` (spec 15 R554). -/
def bandBall (band a e : Nat) : Signal :=
  match quadAt band (a / 24) (3 * (e / 6) + a % 24 / 8) with
  | none => .gnd
  | some u => cellBall u (a % 8) (e % 6)

/-- The signal of the ball in row `i` and column `j`, 1 to 72 each (spec 15 R554). DESIGN CHOICE (assumption log 63). -/
def ballSignal (i j : Nat) : Signal :=
  if (i ≤ 12 ∨ 61 ≤ i) ∧ (j ≤ 12 ∨ 61 ≤ j) then
    match pinRows.find? (fun r => r.row == i && r.col == j) with
    | some r => .pin r.pin
    | none =>
      if (i + j) % 2 = 0 then .gnd
      else if i ≤ 12 ∧ j ≤ 12 then .vddio
      else if 61 ≤ i ∧ j ≤ 12 then .vddNv
      else .vddAon
  else if i ≤ 12 then bandBall 0 (j - 13) (i - 1)
  else if j ≤ 12 then bandBall 1 (i - 13) (j - 1)
  else if 61 ≤ j ∧ i ≤ 60 then bandBall 2 (i - 13) (72 - j)
  else if (i + j) % 2 = 0 then .gnd
  else .vddArr (2 * b2n (decide (37 ≤ i)) + b2n (decide (37 ≤ j)))

/-! ### Levels that follow from the state -/

/-- The SMBus target address that the straps select (spec 15 R558). DESIGN CHOICE (assumption log 63). -/
def smbusTarget (s : State) : Nat := 0x58 + s.straps.i2cAddr.toNat
/-- The GPIO pins are high impedance before OUT and while FAILED (spec 12 R467). -/
def gpioFloats (s : State) : Bool := !s.boot.out || cfgState s == 4
/-- The pull of GPIO[n], 0 none, 1 up, 2 down (spec 14 R542). -/
def gpioPull (s : State) (n : Nat) : Nat := (s.defaults.pulls.getD n 0).toNat
/-- The bits of the JTAG IDCODE that the spec gives: 31 to 12 (spec 15 R569). DESIGN CHOICE (assumption log 96). -/
def idcodeHigh (s : State) : Nat := (rd s A.ID_REVISION F.ID_REVISION_REV % 16) * 2 ^ 16 + 0x1640

end Sys2Proof.Machine
end

