-- ==== Sys2Proof/Tests/Slice0.lean ====
section
/-! SUPPORT. Tests: for each statement of Obligations.lean concrete states and operands that meet its hypotheses, terms that
WellFormed refuses, and values taken from outside the model (published cases of the functions that the spec names). -/

namespace Sys2Proof.Tests

set_option Elab.async false

open Sys2Proof Sys2Proof.Machine Sys2Proof.Claims

/-- A state that runs: defaults applied, start-up done, fields 0 and 1 in RUN. -/
def run : State :=
  wr (wr { State.reset with boot := { wen := true, out := true, srst := true }, defaultsDue := false, log := {} } (A.PWR_STATUS 0) F.PWR_STATUS_STATE 0)
    (A.PWR_STATUS 1) F.PWR_STATUS_STATE 0

/-- The engine clock runs and the host interface answers: hypotheses that the statements about engines and host accesses share. -/
def awake (s : State) : Bool := !s.asleep && !s.defaultsDue

/-- A context frame: its FMT, opcode, MODE, the operand selects, DEST, and the driver selects of segment starts 0 to 2. -/
def frame (fmt op mode sel dest drv : Nat) : Frame :=
  BitVec.ofNat 256 (fmt * 2 ^ 252 + op * 2 ^ 232 + mode * 2 ^ 216 + sel * 2 ^ 201 + dest * 2 ^ 192 + drv * 2 ^ 24)

/-- Tile `i` of a running device in context 0 with this frame. -/
def tileWith (i : Nat) (c : Frame) : State := setT run i { Tile.factory i with slots := [(0, c)] }

/-- The same tile with a word at arriving end `e`. -/
def feed (s : State) (i e : Nat) (w : SWord) : State :=
  setT s i (setE (getT s i) e { getE (getT s i) e with skid := [w] })

/-- A frame of an A-tile whose operands are the immediate. -/
def aluImm (op : Nat) : State := tileWith 0 (frame 1 op 0xE00 0 0x110 1)
/-- A stream operation in tile 0 with operands A and B at ends 0 and 1. -/
def strIn (op : Nat) : State := feed (feed (tileWith 0 (frame 1 op 0 (1 * 32) 0x180 1)) 0 0 ⟨5, .data⟩) 0 1 ⟨6, .data⟩

/-- The same device with the bridle cells of fields 0 and 1 released. -/
def open_ : State := setFS (setFS run 0 { engaged := false }) 1 { engaged := false }

/-- A checked request for address `a` of `len` bytes in entry 31 of endpoint 0: a write of `bs`, or a read. -/
def asking (s : State) (a len : Nat) (bs : Option (List Byte)) : State :=
  setIn s 0 31 (some { req := { net := .req, dst := 0, src := 9, op := if bs.isSome then 1 else 0, tag := 7, addr := BitVec.ofNat 48 a,
                                len := BitVec.ofNat 6 (len - 1) }
                       wdata := some (bs.getD []), checked := true })

/-- The entry that `asking` makes, and the request in it. -/
def entry (s : State) : Ingress := (getIn s 0 31).getD { req := { net := .req, dst := 0, src := 0 }, wdata := none }

/-! ### Firings -/

theorem test_aluHyp : ([0x02, 0x03, 0x04, 0x05, 0x0B, 0x01, 0x06, 0x07, 0x08, 0x09, 0x0A, 0x10, 0x11, 0x12, 0x13, 0x14, 0x15, 0x18, 0x19,
    0x1A, 0x1B, 0x1C, 0x20, 0x21, 0x22, 0x23, 0x24, 0x28, 0x29, 0x30, 0x31, 0x32, 0x33, 0x34, 0x35, 0x38, 0x39, 0x3A, 0x48, 0x4C,
    0x4D].all fun op => aluReadyFor op (aluImm op) 0) = true := by decide +kernel

/-- PoisonRule, FiringFrame. -/
theorem test_poisonHyp : let s := feed (tileWith 0 (frame 1 0x01 0 0 0x110 1)) 0 0 ⟨5, .poison⟩
    aluReadyFor 0x01 s 0 = true ∧ poisonAbsorb (ctx s 0) = false ∧ opPoison s 0 0 = true := by decide +kernel

theorem test_chainHyp : ([0x40, 0x41, 0x42].all fun op => aluReadyFor op (aluImm op) 0 && !chEn (ctx (aluImm op) 0)) = true := by
  decide +kernel

/-- StreamPassing, StreamFilters: the words of A and B are there, turn is 0, A is next in MERGE, the tree port is empty. -/
theorem test_streamHyp : ([0xE0, 0xE1, 0xE2, 0xE3, 0xE4, 0xE5, 0xE6, 0xE7, 0xE8, 0xE9, 0xEA, 0xEB, 0xF8].all fun op =>
    strReadyFor op (strIn op) 0 && (sOpnd (getT (strIn op) 0) (ctx (strIn op) 0) 0).isSome && !(getT (strIn op) 0).turn
      && !(getT (strIn op) 0).lastTaken && (getT (strIn op) 0).treePort.isNone) = true
    ∧ ([0xE6, 0xE7].all fun op => (sOpnd (getT (strIn op) 0) (ctx (strIn op) 0) 1).isSome) = true := by decide +kernel

theorem test_padHyp : let s := feed (tileWith 0 (frame 1 0x01 0 0 0x110 1 + BitVec.ofNat 256 (2 ^ 154))) 0 0 ⟨5, .pad⟩
    let u := feed (tileWith 2 (frame 2 0x01 0 0 0x100 1 + BitVec.ofNat 256 (2 ^ 154))) 2 0 ⟨5, .pad⟩
    mayFire s 0 (tileKind 0) (cOp (ctx s 0)) = true ∧ padFires (getT s 0) (ctx s 0) = true ∧ waveDue (getT s 0) (ctx s 0) = false
      ∧ tileKind 0 = .a ∧ tileKind 2 ≠ .a
      ∧ mayFire u 2 (tileKind 2) (cOp (ctx u 2)) = true ∧ padFires (getT u 2) (ctx u 2) = true ∧ waveDue (getT u 2) (ctx u 2) = false
      ∧ pipeRoom 2 (getT u 2) = true ∧ latchOk (getT u 2) .fork (drvSet (ctx u 2) 3) = true := by
  decide +kernel

/-- MacIssues: factors from X and Y memory, DUMPT with its operand in a register. -/
theorem test_macHyp : ([0x60, 0x61, 0x62, 0x63, 0x68, 0x69, 0x6A, 0x6B, 0x70, 0x71, 0x74].all fun op =>
    macReadyFor op (tileWith 2 (frame 2 op 0x3000 (24 * 1024) 0x100 1)) 2) = true := by decide +kernel

/-- MacAccumulates: MAC32 on either accumulator, CMAC16, ACCINIT; MacDumps: DUMP, DUMPT, MUL32. -/
theorem test_latchHyp : ([0x60, 0x61, 0x62, 0x63, 0x74].all fun op =>
      let c := frame 2 op 0x3000 0 0x100 1
      let f : Flight := ⟨c, .mac 7 8 .data false false none false⟩
      latchReady (setT (tileWith 2 c) 2 { getT (tileWith 2 c) 2 with pipe := [f] }) 2 f) = true
    ∧ ([0x68, 0x70, 0x71].all fun op =>
      let c := frame 2 op 0x3000 0 0x100 1
      let f : Flight := ⟨c, .mac 7 8 .data false false none true⟩
      latchReady (setT (tileWith 2 c) 2 { getT (tileWith 2 c) 2 with pipe := [f] }) 2 f && out0En c && drvSet c 1 == [0]
        && kOfmt c == 0 && !mAccSel c) = true := by decide +kernel

/-- A B-tile in context 0 with this opcode, its queue 0 of type `ty` enabled with `rows` + 1 rows. -/
def bTile (op ty rows : Nat) : State :=
  setT run 3 { Tile.factory 3 with slots := [(0, frame 3 op 0xE00 0 0x100 1)]
                                   static := BitVec.ofNat 256 (2 ^ 199 + ty * 2 ^ 197 + rows * 2 ^ 172) }
/-- The same with this content of queue 0. -/
def bQueue (op ty rows : Nat) (q : BQueue) : State := setQ (bTile op ty rows) 3 0 q

theorem test_bankHyp : bankReadyFor 0xA0 (bTile 0xA0 0 0) 3 = true ∧ bankForced (bTile 0xA0 0 0) 3 = false
    ∧ bankReadyFor 0xA1 (bTile 0xA1 0 0) 3 = true ∧ bankForced (bTile 0xA1 0 0) 3 = false ∧ (bTile 0xA1 0 0).boot.wen = true
    ∧ halfErr (bTile 0xA1 0 0) 3 (brdOff (bTile 0xA1 0 0) 3) ≠ 2 := by decide +kernel

theorem test_queueOpsHyp :
    (let s := bTile 0xA8 0 0
     bankReadyFor 0xA8 s 3 = true ∧ s.boot.wen = true ∧ qEn (getT s 3) (bQsel (ctx s 3)) = true ∧ qType (getT s 3) (bQsel (ctx s 3)) = 0
       ∧ qDepth (getQ (getT s 3) (bQsel (ctx s 3))) + (getQ (getT s 3) (bQsel (ctx s 3))).credited + 1 ≤ qCap (getT s 3) (bQsel (ctx s 3))
       ∧ (getQ (getT s 3) (bQsel (ctx s 3))).asm.length < 4 ∧ (getQ (getT s 3) (bQsel (ctx s 3))).incoming = [])
    ∧ (let s := bQueue 0xA9 0 0 { pre := [⟨9, .data⟩] }
       bankReadyFor 0xA9 s 3 = true ∧ qEn (getT s 3) (bQsel (ctx s 3)) = true ∧ qType (getT s 3) (bQsel (ctx s 3)) = 0
         ∧ (getQ (getT s 3) (bQsel (ctx s 3))).pre.head? = some ⟨9, .data⟩ ∧ popLocked s 3 (bQsel (ctx s 3)) = false)
    ∧ (let s := bTile 0xAA 1 0
       bankReadyFor 0xAA s 3 = true ∧ qEn (getT s 3) (bQsel (ctx s 3)) = true ∧ qType (getT s 3) (bQsel (ctx s 3)) < 2) := by
  decide +kernel

theorem test_delayHyp :
    (let s := bTile 0xB0 2 3
     bankReadyFor 0xB0 s 3 = true ∧ s.boot.wen = true ∧ qEn (getT s 3) (bQsel (ctx s 3)) = true ∧ qType (getT s 3) (bQsel (ctx s 3)) = 2
       ∧ (getQ (getT s 3) (bQsel (ctx s 3))).fill < dlyD (getT s 3) (ctx s 3) ∧ (getQ (getT s 3) (bQsel (ctx s 3))).asm.length < 4)
    ∧ (bankReadyFor 0xC0 (bTile 0xC0 0 0) 3 = true ∧ gwFree (bTile 0xC0 0 0) 3 = some 0)
    ∧ (bankReadyFor 0xC1 (bTile 0xC1 0 0) 3 = true ∧ gwFree (bTile 0xC1 0 0) 3 = some 0)
    ∧ (bankReadyFor 0xC2 (bTile 0xC2 0 0) 3 = true ∧ (gwFree (bTile 0xC2 0 0) 3).isSome = true
      ∧ (getT (bTile 0xC2 0 0) 3).b.gw = []) := by decide +kernel

/-- A gateway slot of tile 3 with this content. -/
def gwSlot (s : State) (k : Nat) (g : GwSlot) : State := setB s 3 (fun b => { b with gw := smSet none b.gw k (some g) })

theorem test_gwResponseHyp : let g : GwSlot := { load := true, addr := 0, data := 0, answer := some (.ok, 5) }
    smGet none (getT (gwSlot run 31 g) 3).b.gw 31 = some g ∧ g.answer = some (.ok, 5) ∧ g.seen = false := by decide +kernel

theorem test_waveHyp :
    let s := feed (tileWith 0 (frame 1 0x01 0 0 0x110 3)) 0 0 ⟨5, .wave⟩
    tileRuns s 0 = true ∧ cFmt (ctx s 0) ≠ 0 ∧ (getT s 0).inject = none ∧ leadOp (ctx s 0) = some 0 ∧ streamSel (ctx s 0) 0 = some 0
      ∧ headAt (getT s 0) 0 = some ⟨5, .wave⟩ ∧ isWave ⟨5, .wave⟩ = true ∧ waveWaitAll (ctx s 0) = false ∧ (getT s 0).latches = []
      ∧ tileKind 0 = .a ∧ waveStop (ctx s 0) = false ∧ drvSet (ctx s 0) 3 ≠ [] ∧ waveArmed (getT s 0) = false
      ∧ (let u := setT s 0 { getT s 0 with arm := true }
         waveArmed (getT u 0) = true ∧ lentTile u 0 = false ∧ lentTile { u with borrowed := [0] } 0 = true) := by decide +kernel

theorem test_waveNonLeadHyp :
    let s := feed (tileWith 0 (frame 1 0x02 0 32 0x110 1)) 0 1 ⟨5, .wave⟩
    tileRuns s 0 = true ∧ cFmt (ctx s 0) ≠ 0 ∧ waveWaitAll (ctx s 0) = false ∧ leadOp (ctx s 0) = some 0 ∧ streamSel (ctx s 0) 0 = some 0
      ∧ streamSel (ctx s 0) 1 = some 1 ∧ waveHead (getT s 0) (ctx s 0) 1 = true := by decide +kernel

/-! ### Segments, rows, requests -/

theorem test_segmentHyp : let l : Latch := ⟨.out0, ⟨5, .data⟩, [6], 0⟩
    let s := setT open_ 0 { getT open_ 0 with latches := [l] }
    segDest 0 6 = some (1, 18) ∧ seamAt 1 18 = false ∧ tileRuns s 0 = true ∧ driverWord (getT s 0) 6 = some (⟨5, .data⟩, none)
      ∧ (getE (getT s 1) 18).skid.length < 2 := by decide +kernel

/-- SEAM_WRITE over an open boundary, SINK_DISCARD at an engaged SINK side. -/
theorem test_seamHyp : let l : Latch := ⟨.out0, ⟨5, .data⟩, [6], 0⟩
    let s := setT open_ 85 { getT open_ 85 with latches := [l] }
    let u := setT (setFS s 1 { engaged := true }) 256 { getT s 256 with static := BitVec.ofNat 256 (2 ^ 226) }
    segDest 85 6 = some (256, 18) ∧ seamAt 256 18 = true ∧ tileRuns s 85 = true ∧ engaged s (tileField 85) = false
      ∧ engaged s (tileField 256) = false ∧ driverWord (getT s 85) 6 = some (⟨5, .data⟩, none)
      ∧ (getE (getT s 256) 18).seam.length < 4
      ∧ tileRuns u 85 = true ∧ engaged u 0 = false ∧ engaged u 1 = true ∧ bridleSink u (seamOwner 256 18) (18 / 6) = true
      ∧ driverWord (getT u 85) 6 = some (⟨5, .data⟩, none) := by decide +kernel

theorem test_deliverHyp : let s := setT open_ 256 (setE (getT open_ 256) 18 { seam := [⟨5, .data⟩] })
    let u := { open_ with groups := [(0, { readSide := [some ⟨5, .data⟩, none, none, none] })] }
    fieldRuns s 1 = true ∧ engaged s 1 = false ∧ (getE (getT s 256) 18).skid.length < 2 ∧ edgeTrack 256 18 = none ∧ pwrState s 1 ≠ 2
      ∧ (getE (getT s 256) 18).seam = [⟨5, .data⟩]
      ∧ fieldRuns u 0 = true ∧ (getE (getT u 128) 18).skid.length < 2 ∧ edgeTrack 128 18 = some 0
      ∧ (smGet {} u.groups 0).readSide[18 % 6]? = some (some ⟨5, .data⟩) ∧ rd u (A.FIFO_STATUS (0 / 4) (0 % 4)) F.FIFO_STATUS_STATE ≠ 3 := by decide +kernel

theorem test_rowsHyp : let w : SWord := ⟨5, .data⟩
    let s := bQueue 0xA9 0 3 { rows := 1 }
    let u := bQueue 0xA9 1 3 { pre := [w], asm := [w, w, w, w] }
    let e := setB run 3 (fun b => { b with writeBack := [8191] })
    engaged run 0 = true ∧ pwrState run 0 ≤ 1
      ∧ fieldRuns s 0 = true ∧ tileKind 3 = .b ∧ qEn (getT s 3) 0 = true ∧ qType (getT s 3) 0 ≠ 2 ∧ bankForced s 3 = false
      ∧ (getQ (getT s 3) 0).pre = [] ∧ 0 < (getQ (getT s 3) 0).rows
      ∧ qEn (getT u 3) 0 = true ∧ qType (getT u 3) 0 ≠ 2 ∧ bankForced u 3 = false ∧ (getQ (getT u 3) 0).pre ≠ []
      ∧ (getQ (getT u 3) 0).asm.length = 4 ∧ fieldRuns u 0 = true
      ∧ (getT e 3).b.writeBack.contains 8191 = true ∧ fieldRuns e 0 = true ∧ bankForced e 3 = false := by decide +kernel

/-- BANK_READ without and with an uncorrectable half, BANK_WRITE, the last bytes of the bank. -/
theorem test_bankRequestHyp :
    (let s := asking run (65536 * 3 + 65528) 8 none
     served s 0 31 = some (entry s, .bank 3 65528, 3) ∧ reqWrite (entry s).req = false
       ∧ (∀ h ∈ halves 65528 (reqLen (entry s).req), halfErr s 3 (8 * h) ≠ 2))
    ∧ (let s := { asking run (65536 * 3 + 65528) 8 none with eccErr := [(halfKey 3 65528, 2)] }
       served s 0 31 = some (entry s, .bank 3 65528, 3) ∧ (∃ h ∈ halves 65528 (reqLen (entry s).req), halfErr s 3 (8 * h) = 2))
    ∧ (let s := asking run (65536 * 3 + 4) 4 (some [1, 2, 3, 4])
       served s 0 31 = some (entry s, .bank 3 4, 3) ∧ reqWrite (entry s).req = true ∧ (entry s).wdata = some [1, 2, 3, 4]
         ∧ reqLen (entry s).req = 4
         ∧ (∀ h ∈ halves 4 (reqLen (entry s).req), coversHalf 4 (reqLen (entry s).req) h = false → halfErr s 3 (8 * h) ≠ 2))
    ∧ (let s := asking run (65536 * 2 + 0x1FFC) 4 (some [1, 2, 3, 4])
       served s 0 31 = some (entry s, .xy 2 0x1FFC, 2) ∧ reqWrite (entry s).req = true ∧ (entry s).wdata = some [1, 2, 3, 4]
         ∧ reqLen (entry s).req = 4 ∧ 0x1FFC % 4 = 0 ∧ (entry s).moved % 4 = 0 ∧ 0x1FFC + (entry s).moved + 4 ≤ 0x2000)
    ∧ (let s := asking run (65536 * 2) 4 none
       served s 0 31 = some (entry s, .xy 2 0, 2) ∧ reqWrite (entry s).req = false ∧ s.xyBad = [] ∧ (entry s).bad = false) := by decide +kernel

/-- The address of offset `off` of the port page of queue 0 of tile 3. -/
def portAddr (off : Nat) : Nat := 0x40000000 + 4096 * 3 + 0xC00 + off

theorem test_pushHyp :
    (let s := asking (bQueue 0xA9 0 3 { credited := 1 }) (portAddr 0) 4 (some [1, 2, 3, 4])
     served s 0 31 = some (entry s, .port 3 0 0, 3) ∧ reqWrite (entry s).req = true ∧ qType (getT s 3) 0 = 0 ∧ 0 / 64 % 2 = 0
       ∧ (entry s).busy = false ∧ pushPlace s 3 0
       ∧ netRoom (getT s 3) 0 true (pushWordsOf (entry s) 0) = true ∧ (pushWordsOf (entry s) 0).length = 1)
    ∧ (let s := asking (bQueue 0xA9 0 3 {}) (portAddr 0x40) 4 (some [1, 2, 3, 4])
       served s 0 31 = some (entry s, .port 3 0 0x40, 3) ∧ reqWrite (entry s).req = true ∧ qType (getT s 3) 0 = 0 ∧ 0x40 / 64 % 2 = 1
         ∧ (entry s).busy = false ∧ pushPlace s 3 0
         ∧ netRoom (getT s 3) 0 false (pushWordsOf (entry s) 0x40) = true)
    ∧ (let s := asking (bQueue 0xA9 0 0 { credited := 4 }) (portAddr 0x40) 4 (some [1, 2, 3, 4])
       served s 0 31 = some (entry s, .port 3 0 0x40, 3) ∧ reqWrite (entry s).req = true
         ∧ (entry s).busy = false ∧ netRoom (getT s 3) 0 false (pushWordsOf (entry s) 0x40) = false)
    ∧ ([0, 0x40].all fun off =>
        let s := asking (bQueue 0xA9 0 3 {}) (portAddr off) 4 (some [1, 2, 3, 4])
        let u := setIn s 0 31 (some { entry s with busy := true })
        served u 0 31 == some (entry u, .port 3 0 off, 3) && reqWrite (entry u).req && (entry u).busy
          && (getQ (getT u 3) 0).incoming == []) = true := by
  unfold pushPlace; decide +kernel

theorem test_popHyp :
    (let s := asking (bQueue 0xA9 0 3 { pre := [⟨5, .data⟩] }) (portAddr 0) 4 none
     served s 0 31 = some (entry s, .port 3 0 0, 3) ∧ reqWrite (entry s).req = false ∧ reqLen (entry s).req = 4
       ∧ (getQ (getT s 3) 0).held = [] ∧ (getQ (getT s 3) 0).pre.head? = some ⟨5, .data⟩
       ∧ (entry s).busy = false ∧ (entry s).moved = 0 ∧ (entry s).part = [] ∧ popLocked s 3 0 = false)
    ∧ (let s := asking (bQueue 0xA9 0 3 {}) (portAddr 0) 4 none
       served s 0 31 = some (entry s, .port 3 0 0, 3) ∧ reqWrite (entry s).req = false
         ∧ (entry s).busy = false ∧ popLocked s 3 0 = false
         ∧ popReady s 3 0 (reqLen (entry s).req / 4) false = false ∧ (getQ (getT s 3) 0).held.length < 4)
    ∧ (let s := asking (bQueue 0xA9 0 3 {}) (portAddr 0x40) 8 none
       served s 0 31 = some (entry s, .port 3 0 0x40, 3) ∧ reqWrite (entry s).req = false ∧ (getQ (getT s 3) 0).held = []
         ∧ 0 < qCap (getT s 3) 0 - qDepth (getQ (getT s 3) 0) - (getQ (getT s 3) 0).credited)
    ∧ (let s := asking (bQueue 0xA9 0 3 { pre := [⟨5, .data⟩], held := [⟨true, 0, 31⟩] }) (portAddr 0) 4 none
       takeHeld (getQ (getT s 3) 0) true = some (⟨true, 0, 31⟩, { getQ (getT s 3) 0 with held := [] })
         ∧ (getIn s 0 31).isSome = true ∧ fieldRuns s 0 = true ∧ reqLen (entry s).req = 4
         ∧ (entry s).moved = 0 ∧ (entry s).part = [] ∧ popLocked s 3 0 = false)
    ∧ (let s := asking (bQueue 0xA9 0 3 { held := [⟨false, 0, 31⟩] }) (portAddr 0x40) 8 none
       takeHeld (getQ (getT s 3) 0) false = some (⟨false, 0, 31⟩, { getQ (getT s 3) 0 with held := [] })
         ∧ (getIn s 0 31).isSome = true ∧ fieldRuns s 0 = true ∧ grantOf (getT s 3) 0 = some 16) := by decide +kernel

/-- FRAME_WRITE of an invalid frame to slot 0, of a frame with a bad CRC, FRAME_READ of slot 16. -/
theorem test_frameHyp :
    (let s := asking run (0x40000000 + 4096 * 3) 32 (some (List.replicate 32 0))
     placeOf s (entry s).req.addr.toNat = .frame 3 0 ∧ mayServe s 3 (entry s) = true ∧ reqWrite (entry s).req = true
       ∧ reqLen (entry s).req = 32
       ∧ (∀ k < reqLen (entry s).req / 32, frameWriteStatus s 3 (0 / 32 + k) (frameOf (sliceBytes ((entry s).wdata.getD []) (32 * k) 32)) = .ok)
       ∧ (getT s 3).b.queues = [])
    ∧ (let s := asking run (0x40000000 + 4096 * 3) 32 (some (List.replicate 32 0x33))
       placeOf s (entry s).req.addr.toNat = .frame 3 0 ∧ mayServe s 3 (entry s) = true ∧ reqWrite (entry s).req = true
         ∧ reqLen (entry s).req = 32 ∧ frameWriteStatus s 3 0 (frameOf (sliceBytes ((entry s).wdata.getD []) 0 32)) ≠ .ok)
    ∧ (let s := asking run (0x40000000 + 4096 * 3 + 0x200) 32 none
       placeOf s (entry s).req.addr.toNat = .frame 3 0x200 ∧ mayServe s 3 (entry s) = true ∧ reqWrite (entry s).req = false
         ∧ 0x200 + reqLen (entry s).req ≤ 0x220) := by decide +kernel

theorem test_tileRegisterHyp : tileKind 2 = .m ∧ tileKind 3 = .b ∧ ownerMayWrite run 3 ⟨1, 0x2000⟩ = false
    ∧ lentTile run 2 = false ∧ lentTile run 3 = false ∧ run.boot.srst = true ∧ { run with boot := { wen := true } }.boot.srst = false
    ∧ wenLets run ⟨1, 0x2000⟩ = true ∧ wenLets { run with boot := {} } ⟨1, 0x2000⟩ = false
    ∧ ownerMayWrite run 3 ⟨devId run, 0x2000⟩ = true ∧ ownerMayWrite run 3 ⟨devId run, 0x2004⟩ = false := by decide +kernel

/-! ### Trains -/

/-- A command with this code, CTX and PARAM for the train `w`/`pl`. -/
def cmdOf (x ctx param w pl : Nat) (iss : Issuer := .engine) (phase : Nat := 0) : TreeCmd :=
  ⟨BitVec.ofNat 32 w, BitVec.ofNat 5 pl, BitVec.ofNat 4 x, BitVec.ofNat 4 ctx, BitVec.ofNat 32 param, ⟨0, 0x2000⟩, iss, BitVec.ofNat 2 phase⟩

/-- Descriptor 5 of ring 0 with these first bytes is in progress. -/
def withDesc (s : State) (bs : List Byte) : State :=
  setRing s 0 { descs := [{ id := 5, bytes := bs ++ List.replicate (64 - bs.length) 0, started := true }] }

/-- `fromRing` as a test. -/
def ringB (s : State) (c : TreeCmd) (rr d : Nat) : Bool :=
  c.issuer == .ring rr d && (liveDesc s rr d).any (fun x => !bit (dFlags x) 1)

theorem fromRing_of_ringB {s : State} {c : TreeCmd} {rr d : Nat} (h : ringB s c rr d = true) : fromRing s c rr d := by
  unfold ringB at h
  cases hx : liveDesc s rr d with
  | none => simp [hx] at h
  | some x => simp [hx] at h; exact ⟨h.1, x, hx, h.2⟩

/-- The same device with run 0 of the tree as given. -/
def running (s : State) (r : TreeRun) : State := { setRun s 0 (some r) with tree := { (setRun s 0 (some r)).tree with next := 1 } }

theorem test_membersHyp : ([16, 22, 23, 30].all fun pl => let c := cmdOf 1 1 0 (4 * 256) pl
    (cmdFields c).all fun f => decide (f < 64)) = true ∧ isMember (cmdOf 1 1 0 (4 * 256) 30) 256 = true := by decide +kernel

theorem test_rootHyp :
    (let c := cmdOf 1 1 0 0 22 (.ring 0 5)
     let s := { withDesc run [] with tree := { fromRing := [c] } }
     rootTurn s (srcGroup 0) = true ∧ (takeSrc s 0).map Prod.fst = some c ∧ cmdOk c = true ∧ 16 ≤ c.pl.toNat ∧ cmdDev c = devId s
       ∧ rootBlocked s s.tree.next c = false ∧ firstRefusal s c = none)
    ∧ (let c := cmdOf 1 1 0 0 30 (.ring 0 5)
       let s := running run { cmd := cmdOf 2 1 0 0 22, waiting := false }
       let s := { s with tree := { s.tree with fromGw := [c] } }
       rootTurn s (srcGroup 1) = true ∧ (takeSrc s 1).map Prod.fst = some c ∧ cmdOk c = true ∧ rootBlocked s s.tree.next c = true)
    ∧ (let c := cmdOf 7 1 0 0 22 (.ring 0 5)
       let s := { withDesc run [] with tree := { fromEng := [c] } }
       rootTurn s (srcGroup 2) = true ∧ (takeSrc s 2).map Prod.fst = some c ∧ cmdOk c = false ∧ ringB s c 0 5 = true)
    ∧ (let c := cmdOf 1 1 0 (4 * 256 * 2) 22 (.ring 0 5)
       let s := setT (withDesc (wr run (A.PWR_CTL 2) F.PWR_CTL_POLICY 0) []) 16383 { Tile.factory 16383 with treePort := some c }
       rootTurn s (srcGroup 16399) = true ∧ (takeSrc s 16399).map Prod.fst = some c ∧ cmdOk c = true
         ∧ rootBlocked s s.tree.next c = false ∧ firstRefusal s c = some (.domainDown, 0, 0) ∧ ringB s c 0 5 = true) := by
  decide +kernel

theorem test_deliveryHyp :
    ([1, 5].all fun x => let r : TreeRun := { cmd := cmdOf x 15 0 0 16, waiting := false, todo := [0, 1] }
      let s := running run r
      getRun s 0 == some r && !earlierTo s 0 0 && !fieldDown s r.cmd 0 && fieldRuns s 0
        && !(membersIn r.cmd 0).any (lentTile s) && !([0, 8, 9].contains r.cmd.cmd.toNat) && r.todo.erase 0 != []) = true
    ∧ (let r : TreeRun := { cmd := cmdOf 5 15 0 0 22, waiting := false, todo := [0] }
       let s := running run r
       getRun s 0 = some r ∧ r.todo = [0] ∧ r.cmd.cmd = 5 ∧ earlierTo s 0 0 = false ∧ fieldDown s r.cmd 0 = false ∧ fieldRuns s 0 = true
         ∧ (membersIn r.cmd 0).any (lentTile s) = false ∧ (cmdFields r.cmd).any (earlierHere s 0) = false
         ∧ ((cmdFields r.cmd).flatMap (membersIn r.cmd)).any (fun i => lentTile s i || (getT s i).inject.isSome) = false)
    ∧ (let r : TreeRun := { cmd := cmdOf 2 1 0 0 16, waiting := false, todo := [63] }
       let s := running (wr run (A.PWR_CTL 63) F.PWR_CTL_POLICY 0) r
       getRun s 0 = some r ∧ earlierTo s 0 63 = false ∧ fieldDown s r.cmd 63 = true ∧ [8, 9].contains r.cmd.cmd.toNat = false) := by decide +kernel

theorem test_switchHyp :
    ([1, 2, 3, 4, 6].all fun x => let r : TreeRun := { cmd := cmdOf x 0 0 0 22, waiting := false, here := [0] }
      let s := running run r
      getRun s 0 == some r && r.cmd.cmd == BitVec.ofNat 4 x && r.here.contains 0 && !earlierHere s 0 0
        && r.todo == [] && !(cmdFields r.cmd).any (fieldDown s r.cmd) && !(membersIn r.cmd 0).any (lentTile s)) = true
    ∧ (let r : TreeRun := { cmd := cmdOf 2 15 0 0 30, waiting := false }
       let s := running run r
       getRun s 0 = some r ∧ r.cmd.phase = 0 ∧ barReady s r = true ∧ trainLent s r.cmd = false) := by decide +kernel

theorem test_trainEndHyp :
    (let r : TreeRun := { cmd := cmdOf 0 0 0 0 16 (.ring 0 5), waiting := false, todo := [0, 1] }
     let s := running (withDesc (wr (wr run (A.PWR_STATUS 0) F.PWR_STATUS_TRANSIT_CLK 1) (A.PWR_STATUS 1) F.PWR_STATUS_TRANSIT_CLK 1) []) r
     getRun s 0 = some r ∧ (∀ f ∈ r.todo, queryable s f = true) ∧ ringB s r.cmd 0 5 = true)
    ∧ (let s := setT run 0 { Tile.factory 0 with inject := some (15, 0) }
       (getT s 0).inject = some (15, 0) ∧ tileRuns s 0 = true ∧ lentTile s 0 = false ∧ cFmt (ctx s 0) = 0)
    ∧ (let s := setT run 0 { getT (tileWith 0 (frame 1 1 0 0 0x110 3)) 0 with inject := some (1, 0), arm := true }
       (getT s 0).inject = some (1, 0) ∧ tileRuns s 0 = true ∧ lentTile s 0 = false ∧ cFmt (ctx s 0) ≠ 0 ∧ (getT s 0).latches = [] ∧ tileKind 0 = .a
         ∧ waveArmed (getT s 0) = true ∧ waveStop (ctx s 0) = false ∧ drvSet (ctx s 0) 3 ≠ [])
    ∧ (let r : TreeRun := { cmd := cmdOf 2 1 1 0 22 (.ring 0 5), waiting := false }
       let s := running (withDesc run []) r
       let u := { s with expansions := smSet none s.expansions 0 (some { step := 1 }) }
       getRun s 0 = some r ∧ r.cmd.cmd = 2 ∧ r.cmd.param ≠ 0 ∧ r.cmd.phase = 0 ∧ smGet none s.expansions 0 = none
         ∧ ringB s r.cmd 0 5 = true ∧ getRun u 0 = some r ∧ smGet none u.expansions 0 = some { step := 1 }) := by decide +kernel

/-- A TRAIN flit with these argument bits has arrived on port 5. -/
def trainIn (s : State) (w pl x ctx param phase : Nat) : State :=
  let f := trainFlit (cmdOf x ctx param w pl .engine phase) false 3 1 2044 0
  setP s 5 { arr := [⟨0, 0, false, .req, false, 0, 0, 0, 0, 0, toBlocks 4 (flitBits f), 0⟩] }

/-- The command that the gateway of port 5 makes of it. -/
def trainCmd (s : State) : TreeCmd := ((arrivedTrain s 5 (fun _ => true)).map Prod.snd).getD (cmdOf 0 0 0 0 0)

theorem test_fabricTrainHyp :
    (let s := trainIn run 0 22 1 1 0 0
     (arrivedTrain s 5 (fun ph => decide (ph < 2))).isSome = true ∧ trainCmd s
       = ⟨0, 22, 1, 1, 0, ⟨(trainCmd s).key.dev, 0x2000⟩, .fabric 3 1 (trainCmd s).key.dev false 5, 0⟩)
    ∧ (let s := trainIn run 0 15 1 1 0 0
       (arrivedTrain s 5 (fun ph => decide (ph < 2))).isSome = true ∧ (trainCmd s).pl.toNat < 16 ∧ isAnchor s = false)
    ∧ (let s := trainIn run 0 22 2 1 0 2
       let x : TreeRun := { cmd := { trainCmd s with phase := 1 }, waiting := false, answered := true }
       let u := running s x
       (arrivedTrain u 5 (fun ph => ph == 2)).isSome = true
         ∧ (runList u).find? (fun y => samePhase y.2.cmd (trainCmd u) && y.2.answered) = some (0, x) ∧ trainLent u x.cmd = false)
    ∧ (let s := trainIn run 0 22 2 1 0 3
       let x : TreeRun := { cmd := { trainCmd s with phase := 1 }, waiting := false, answered := true }
       let u := running s x
       (arrivedTrain u 5 (fun ph => ph == 3)).isSome = true ∧ (∀ y ∈ runList u, samePhase y.2.cmd (trainCmd u) = true)) := by
  decide +kernel

theorem test_anchorHyp :
    (let r : TreeRun := { cmd := cmdOf 1 1 0 0 15 }
     let s := running run r
     getRun s 0 = some r ∧ r.cmd.pl.toNat < 16 ∧ smGet none s.expansions 0 = none ∧ rootBlocked s 0 r.cmd = false ∧ expCount s < 4
       ∧ ownArm s 0 = none
       ∧ expMembers s r.cmd ≠ []) := by decide +kernel
theorem test_armHyp : (let r : TreeRun := { cmd := cmdOf 2 1 0 0 16 (.expansion 7) 1, waiting := false }
       let s := { running run r with expansions := [(7, some { step := 1, awaited := [0] })] }
       getRun s 0 = some r ∧ r.cmd.phase = 1 ∧ r.answered = false ∧ barReady s r = true
         ∧ smGet none s.expansions 7 = some { step := 1, awaited := [0] }) := by decide +kernel
theorem test_expandedHyp : ([[(0, Status.ok, 15)], [(0, .ok, 15), (2, .timeout, 0), (1, .denied, 0)]].all fun (l : List (Nat × Status × Nat)) =>
       let r : TreeRun := { cmd := cmdOf 0 0 0 0 14 (.ring 0 5), waiting := false }
       let e : Expansion := { answers := l, step := 0 }
       let s := { running (withDesc run []) r with expansions := [(0, some e)] }
       getRun s 0 == some r && smGet none s.expansions 0 == some e && e.step != 1 && e.unsent == [] && e.awaited == []
         && e.verdict == none && ringB s r.cmd 0 5) = true := by decide +kernel

/-- Patch 0 may be borrowed: TEST_OK in its static frames, quiet for a second. -/
def lendable : State := { (patchTiles 0).foldl (fun s i => setT s i { Tile.factory i with static := BitVec.ofNat 256 (2 ^ 230) }) open_ with time := 2 ^ 60 }

/-- Patch 0 is borrowed, and a request for it has arrived. -/
def lent : State := { open_ with borrowed := [0], saved := [(0, some (Tile.factory 0))] }

theorem test_borrowHyp : borrowOk lendable 0 = true ∧ lent.borrowed.contains 0 = true
    ∧ smGet none lent.saved 0 = some (Tile.factory 0) ∧ yieldDue (asking lent 0 8 none) 0 3 = true
    ∧ pwrTarget (wr lent (A.PWR_CTL 0) F.PWR_CTL_TARGET 0) (patchField 0) = 0
    ∧ (let s := wr lent (A.PWR_CTL 0) F.PWR_CTL_TARGET 2
       pwrTarget s (patchField 0) ≠ 0 ∧ lentPatches s (patchField 0) = [0] ∧ pwrState s (patchField 0) = 0 ∧ tripped s = false
         ∧ yieldDue (asking s 0 8 none) 0 3 = true)
    ∧ tilePatch 0 = 0 ∧ tilePatch 16 ≠ 0 ∧ tileField 16 = patchField 0 ∧ tileField 256 ≠ patchField 0 := by decide +kernel

/-! ### Power -/

/-- Field 63 in STATE `st` with TARGET `tg`. -/
def inState (st tg : Nat) : State := wr (wr run (A.PWR_STATUS 63) F.PWR_STATUS_STATE st) (A.PWR_CTL 63) F.PWR_CTL_TARGET tg
/-- A write of PWR_CTL with this TARGET and FRESET. -/
def ctlWord (tg fr : Nat) : Reg := setFld (setFld 0 F.PWR_CTL_TARGET tg) F.PWR_CTL_FRESET fr
/-- The same state with a wake request. -/
def waking (s : State) : State := wr s (A.PWR_STATUS 63) F.PWR_STATUS_WAKE_PENDING 1

theorem test_targetHyp : ([0, 3].all fun v => getFld (ctlWord v 0) F.PWR_CTL_FRESET == 0 && decide (getFld (ctlWord v 0) F.PWR_CTL_TARGET ≤ 3)) = true
    ∧ ([4, 7].all fun v => getFld (ctlWord v 0) F.PWR_CTL_FRESET == 0 && decide (4 ≤ getFld (ctlWord v 0) F.PWR_CTL_TARGET)) = true
    ∧ (let r : TreeRun := { cmd := cmdOf 9 0 3 0 22 (.ring 0 5), waiting := false, todo := [0] }
       let s := running (withDesc run []) r
       getRun s 0 = some r ∧ r.cmd.param.toNat = 3 ∧ earlierTo s 0 0 = false ∧ ringB s r.cmd 0 5 = true)
    ∧ (let r : TreeRun := { cmd := cmdOf 8 0 0 0 22 (.ring 0 5), waiting := false, todo := [0] }
       let s := running (withDesc run []) r
       getRun s 0 = some r ∧ earlierTo s 0 0 = false ∧ ringB s r.cmd 0 5 = true ∧ (∀ y ∈ runList s, y = (0, r))
         ∧ stateAfter s 0 0 ≤ 1) := by decide +kernel

theorem test_wakeHyp : tripped (waking (inState 1 0)) = false ∧ tripped (waking (inState 5 2)) = false ∧ tripped (waking (inState 6 3)) = false
    ∧ rd (waking (inState 1 0)) (A.PWR_STATUS 63) F.PWR_STATUS_WAKE_PENDING = 1 ∧ pwrState (waking (inState 1 0)) 63 = 1
    ∧ pwrState (waking (inState 5 2)) 63 = 5 ∧ pwrState (waking (inState 6 3)) 63 = 6
    ∧ rd (waking (inState 6 3)) (A.PWR_STATUS 63) F.PWR_STATUS_WAKE_PENDING = 1
    ∧ rd (waking (inState 6 3)) (A.PWR_CTL 63) F.PWR_CTL_POLICY = 1 ∧ pwrTarget (waking (inState 6 3)) 63 ≠ 0
    ∧ rd (wr (inState 5 2) (A.PWR_CTL 63) F.PWR_CTL_POLICY 0) (A.PWR_CTL 63) F.PWR_CTL_POLICY = 0
    ∧ pwrState (wr (inState 5 2) (A.PWR_CTL 63) F.PWR_CTL_POLICY 0) 63 = 5 := by decide +kernel

theorem test_idleHyp : let s := wr { inState 0 0 with time := 2 ^ 60 } (A.PWR_CTL 63) F.PWR_CTL_AUTO_IDLE 1
    pwrState s 63 = 0 ∧ pwrTarget s 63 = 0 ∧ rd s (A.PWR_CTL 63) F.PWR_CTL_AUTO_IDLE = 1 ∧ fieldQuiet s 63 = true
      ∧ fieldIngress s 63 (fun _ => true) = [] ∧ rd s (A.PWR_STATUS 63) F.PWR_STATUS_WAKE_PENDING = 0 ∧ treeBusy s 63 = false
      ∧ lentPatches s 63 = [] ∧ tripped s = false := by
  decide +kernel

theorem test_powerUpHyp : ([0, 2].all fun tg => let s := wr run (A.PWR_CTL 48) F.PWR_CTL_TARGET tg
      !s.defaultsDue && !tripped s && (quarterFields 3).find? (fun f => pwrState s f == 6 && decide (pwrTarget s f ≤ 2)) == some 48) = true
    ∧ State.reset.defaultsDue = true ∧ tripped (wr run A.PWR_THERM_STATUS F.PWR_THERM_STATUS_TRIPPED 1) = true := by decide +kernel

theorem test_stepsHyp :
    (let s := inState 2 1
     pwrState s 63 = 2 ∧ pwrTarget s 63 = 1 ∧ fieldDrained s 63 = true ∧ fieldIngress s 63 (fun g => g.old) = [] ∧ mirrorHolds s 63 = false
       ∧ (runList s).any (fun x => x.2.acted && x.2.here.contains 63) = false)
    ∧ (pwrState (inState 2 3) 63 = 2 ∧ 2 ≤ pwrTarget (inState 2 3) 63 ∧ mirrorHolds (inState 2 3) 63 = false)
    ∧ ([0, 1].all fun tg => let s := setFS (inState 3 tg) 63 { heading := 1 }
        pwrState s 63 == 3 && pwrTarget s 63 == tg && decide ((getFS s 63).heading ≤ 1)) = true
    ∧ ([0, 3].all fun tg => [2, 3].all fun h => goingTo (setFS (inState 3 tg) 63 { heading := h, isoDone := true }) 63 h) = true
    ∧ pwrState (inState 7 0) 63 = 7 ∧ pwrState (inState 8 3) 63 = 8
    ∧ (let s := setFS (inState 3 3) 63 { heading := 2 }
       pwrState s 63 = 3 ∧ 2 ≤ (getFS s 63).heading ∧ (getFS s 63).isoDone = false)
    ∧ (([(2, 1), (2, 3), (3, 0), (3, 1), (3, 3), (7, 0), (8, 3)] : List (Nat × Nat)).all fun x => !tripped (inState x.1 x.2)) = true
    ∧ tripped (wr (inState 2 1) A.PWR_THERM_STATUS F.PWR_THERM_STATUS_TRIPPED 1) = true
    ∧ getFld (ctlWord 3 1) F.PWR_CTL_FRESET = 1 ∧ getFld (ctlWord 3 1) F.PWR_CTL_TARGET = pwrTarget (inState 2 3) 63
    ∧ getFld (ctlWord 0 1) F.PWR_CTL_FRESET = 1 ∧ getFld (ctlWord 0 1) F.PWR_CTL_TARGET = pwrTarget (inState 1 0) 63
    ∧ pwrState (inState 1 0) 63 ≤ 1 ∧ 2 ≤ pwrState (inState 2 3) 63 := by decide +kernel

theorem test_clocksHyp : tripped (waking (inState 1 0)) = false
    ∧ rd State.reset (A.PWR_STATUS 63) F.PWR_STATUS_TRANSIT_CLK = 0 ∧ rd State.reset (A.PWR_STATUS 63) F.PWR_STATUS_COMPUTE_CLK = 0
    ∧ transitWork State.reset 63 = false
    ∧ (let s := wr (wr run A.PWR_CEILING F.PWR_CEILING_EN 1) A.PWR_CEILING F.PWR_CEILING_WATTS 1
       rd s A.PWR_CEILING F.PWR_CEILING_EN = 1 ∧ min (rd s A.PWR_CEILING F.PWR_CEILING_WATTS) (gradeWatts s) < (2 : BitVec 16).toNat)
    ∧ rd (wr run A.PWR_AVS_CTL F.PWR_AVS_CTL_EN 1) A.PWR_AVS_CTL F.PWR_AVS_CTL_EN = 1
    ∧ (let s := wr (wr (wr run A.PWR_AVS_CTL F.PWR_AVS_CTL_EN 1) (A.PWR_AVS 3) F.PWR_AVS_V_SET 850) (A.PWR_AVS 3) F.PWR_AVS_V_READ 840
       rd s A.PWR_AVS_CTL F.PWR_AVS_CTL_EN = 1 ∧ rd s (A.PWR_AVS 3) F.PWR_AVS_V_SET ≠ 0
         ∧ rd s (A.PWR_AVS 3) F.PWR_AVS_V_SET ≤ rd s (A.PWR_AVS 3) F.PWR_AVS_V_READ + 10)
    ∧ (getR (setR run A.CLK_REF_STATUS 0x20) A.CLK_REF_STATUS).getLsbD 5 = true
    ∧ (0xFFFFFFFF : Reg).toNat < 2 ^ 32 := by decide +kernel

theorem test_sleepHyp : let s := wr State.reset A.CLK_AON_CTL F.CLK_AON_CTL_DEEP_EN 1
    rd s A.CLK_AON_CTL F.CLK_AON_CTL_DEEP_EN = 1 ∧ (∀ f : Fin 64, pwrState s f = 6) ∧ lanesOff s = true
      ∧ (∀ x ∈ s.host.rings, ringState s x.1 ≠ 1) ∧ linkUp s = false
      ∧ l12Allowed { s with host := { s.host with pcie := { s.host.pcie with aspm := true } } } = true := by decide +kernel

/-- The device with sensor 3 of field 63 at this reading. -/
def heated (x : BitVec 16) : State := opTemperatureSample 63 3 x run

theorem test_thermHyp : tripped (heated 2160) = false ∧ sensorFailed (heated 2160) 63 3 = false
    ∧ 2160 ≤ sintOf 16 (sensorRaw (heated 2160) 63 3)
    ∧ ([1839, 1840].all fun x => tripped (wr (heated x) A.PWR_THERM_STATUS F.PWR_THERM_STATUS_TRIPPED 1)) = true
    ∧ lentPatches (heated 1839) 63 = [] ∧ pwrState (heated 1839) 0 = 0
    ∧ allTemps (heated 1839) (fun x => decide (x < 1840)) = true ∧ allTemps (heated 1840) (fun x => decide (x < 1840)) = false
    ∧ getFld (setFld 0 F.PWR_THERM_CTL_TRIP_CLR 1) F.PWR_THERM_CTL_TRIP_CLR = 1 := by decide +kernel

/-! ### Networks and mirrors -/

/-- A request flit of tile 3's patch port for address `a`: a read of 8 bytes, or a write of `len` bytes. -/
def reqFlit (op a len : Nat) : Flit :=
  { net := .req, dst := 0, src := 9, op := BitVec.ofNat 4 op, tag := 7, mst := 0x2000, addr := BitVec.ofNat 48 a, len := BitVec.ofNat 6 (len - 1) }

/-- The same device with the transit clock of field 0 running. -/
def moving : State := wr run (A.PWR_STATUS 0) F.PWR_STATUS_TRANSIT_CLK 1

theorem test_ejectHyp : let f : Flit := reqFlit 0 0 8
    let s := setLink moving .req 0 1 { ready := [f] }
    transitRuns s 0 = true ∧ (placedFlits s .req 0).head? = some ⟨f, 1⟩ ∧ canEject s 0 f = true := by decide +kernel

theorem test_injectionHyp : let f : Flit := reqFlit 0 0 8
    ([2046, 1].all fun ep => let s := setEp moving ep { outReq := [f] }
      !bridged ep && epOut (getEp s ep) .req == [f] && smGet none (getEp s ep).present (netIx .req) == none) = true
    ∧ (let s := setEp moving mgmtPort { outReq := [f] }
       bridged mgmtPort = true ∧ epOut (getEp s mgmtPort) .req = [f] ∧ linkOcc (getLink s .req (mgmtPort / 2) 4) < 4 ∧ awake s = true)
    ∧ (let s := setLink moving .req 0 4 { crossing := [(f, 0)] }
       linkBridge 0 4 = true ∧ transitRuns s 0 = true ∧ (getLink s .req 0 4).crossing = [(f, 0)])
    ∧ (let s := setLink moving .req 0 5 { crossing := [(f, 0)] }
       (getLink s .req 0 5).crossing = [(f, 0)] ∧ awake s = true) := by decide +kernel

/-- The request has arrived at endpoint 0. -/
def arrived (f : Flit) : State := setEp run 0 { inReq := [f] }

theorem test_admitHyp : ([reqFlit 0 (65536 * 3 + 65528) 8, reqFlit 1 (65536 * 3) 8, reqFlit 1 (65536 * 3) 16].all fun f =>
      (getEp (arrived f) 0).inReq == [f] && decide (f.op.toNat < 2) && ingressFree (getEp (arrived f) 0) 0 == some 0) = true
    ∧ gatewayOf 0 = none := by decide +kernel

theorem test_admitPasses : let s := arrived (reqFlit 1 (65536 * 3) 16)
    passes s (entryFor s (reqFlit 1 (65536 * 3) 16)) ∧ epRuns s 0 := by
  intro s
  have e : placeTile (placeOf s (entryFor s (reqFlit 1 (65536 * 3) 16)).req.addr.toNat) = some 3 := by decide +kernel
  refine ⟨⟨by decide +kernel, by decide +kernel, by decide +kernel, by decide +kernel, fun i h => ?_, by decide +kernel⟩, fun _ => rfl⟩
  rw [e] at h
  cases h
  decide +kernel

/-- A key that no table grants anything, a full ingress, a reserved opcode. -/
theorem test_admitRefusedHyp : (let f := { reqFlit 0 (65536 * 3) 8 with mst := 0x0FFF }
      decideAccess (arrived f) (reqKey f) (entryFor (arrived f) f).remote (needsOf (placeOf (arrived f) f.addr.toNat) (reqWrite f)) ≠ .grant)
    ∧ (let f := reqFlit 0 (65536 * 3) 8
       let s := setEp run 0 { inReq := [f], ingress := (List.range 32).map fun k => (k, some { req := f, wdata := none }) }
       (getEp s 0).inReq = [f] ∧ ingressFree (getEp s 0) 0 = none)
    ∧ 2 ≤ (reqFlit 2 0 8).op.toNat := by decide +kernel

theorem test_wdataHyp : let f : Flit := { net := .dat, dst := 0, src := 9, op := 1, tag := 7, entry := 31, count := 16 }
    let g : Ingress := { req := reqFlit 1 (65536 * 3) 16, wdata := none, checked := true, go := true }
    let s := setEp run 0 { inDat := [f], ingress := [(31, some g)] }
    (getEp s 0).inDat.find? (fun f => f.op == 1) = some f ∧ getIn s 0 f.entry.toNat = some g ∧ g.go = true ∧ g.wdata = none
      ∧ g.req.src = f.src ∧ g.req.tag = f.tag := by decide +kernel

/-- A request of gateway slot 31 of tile 3 with landing slot 63 of endpoint 0. -/
def owed (nacks : Nat) (backoff : Bool) (dst : BitVec 11) : Landing :=
  ⟨{ reqFlit 1 0 8 with dst := dst }, [1, 2, 3, 4, 5, 6, 7, 8], .gw 3 31, nacks, backoff⟩
/-- The device with that landing slot, its gateway slot, and a response of this opcode. -/
def awaiting (nacks : Nat) (backoff : Bool) (dst : BitVec 11) (op : BitVec 4) : State :=
  let s := gwSlot run 31 { load := true, addr := 0, data := 0, answer := none }
  setEp s 0 { inRsp := [{ net := .rsp, dst := 0, src := 9, op := op, tag := 63, status := 0, count := 4 }], landing := [(63, some (owed nacks backoff dst))] }

theorem test_responseHyp :
    ([0, 1, 2].all fun op => let s := awaiting 0 false 4 op
      (getEp s 0).inRsp.length == 1 && getLand s 0 63 == some (owed 0 false 4)
        && smGet none (getT s 3).b.gw 31 == some { load := true, addr := 0, data := 0, answer := none } && statusCode .ok == 0) = true
    ∧ (let s := awaiting (retryMax run - 1) true 4 0
       getLand s 0 63 = some (owed (retryMax run - 1) true 4) ∧ retryMax s - 1 < retryMax s ∧ retryMax s = retryMax run)
    ∧ (let s := awaiting (retryMax run) true 4 0
       getLand s 0 63 = some (owed (retryMax s) true 4))
    ∧ (gatewayOf (BitVec.ofNat 11 (gatewayPort 5)).toNat).isSome = true
    ∧ isArmFlit (owed 0 false (BitVec.ofNat 11 (gatewayPort 5))).req = false ∧ isPosted (owed 0 false (BitVec.ofNat 11 (gatewayPort 5))).req = false
    ∧ getLand (awaiting 0 false (BitVec.ofNat 11 (gatewayPort 5)) 0) 0 63 = some (owed 0 false (BitVec.ofNat 11 (gatewayPort 5))) := by decide +kernel

/-- A value of MIRROR_CFG: enabled, source tile 3 from line 0, `size` lines, policy `pol`, holders of the first patch. -/
def mirrorWord (size pol : Nat) : Reg :=
  [(F.MIRROR_CFG_EN, 1), (F.MIRROR_CFG_SRC_IDX, 3), (F.MIRROR_CFG_SIZE, size), (F.MIRROR_CFG_POLICY, pol), (F.MIRROR_CFG_HOLD_PL, 26),
    (F.MIRROR_CFG_EPRED, 1)].foldl (fun v x => setFld v x.1 x.2) 0
/-- Mirror 255 enabled with this content. -/
def mirrored (size pol : Nat) (x : MirrorSt) : State := setMi (setR run (A.MIRROR_CFG 255) (mirrorWord size pol)) 255 x

theorem test_mirrorCfgHyp : getFld (mirrorWord 0 0) F.MIRROR_CFG_EN = 1 ∧ mirrorBad (mirrorWord 0 0) = false
    ∧ mirrorBad (mirrorWord 7 0) = false
    ∧ getFld (setFld (mirrorWord 0 0) F.MIRROR_CFG_EN 0) F.MIRROR_CFG_EN = 0
    ∧ getFld (setFld (mirrorWord 0 0) F.MIRROR_CFG_HOLD_PL 15) F.MIRROR_CFG_EN = 1
    ∧ mirrorBad (setFld (mirrorWord 0 0) F.MIRROR_CFG_HOLD_PL 15) = true := by decide +kernel

theorem test_mirrorHyp :
    (let s := mirrored 0 0 { dirty := [0] }
     mirrorOn s 255 = true ∧ (getMi s 255).dirty.contains 0 = true ∧ smGet 0 (getMi s 255).unacked 0 = 0
       ∧ fieldRuns s (tileField (mirSrc s 255)) = true ∧ rd s (A.MIRROR_CFG 255) F.MIRROR_CFG_POLICY = 0
       ∧ (freeTag s (patchPort (mirSrc s 255)) (gwTag0 (mirSrc s 255)) 32).isSome = true ∧ mirTargets s 255 0 ≠ []
       ∧ (readHalves s (mirSrc s 255) (halves (64 * (rd s (A.MIRROR_CFG 255) F.MIRROR_CFG_SRC_LINE + 0)) 64)).2 = false)
    ∧ (let s := mirrored 0 0 { updated := true }
       mirrorOn s 255 = true ∧ (getMi s 255).dirty = [] ∧ (getMi s 255).unacked = [] ∧ (getMi s 255).updated = true)
    ∧ (let s := mirrored 0 1 {}
       let u := setAgent s 0 { work := [(128 * 255, some { fails := 15 })] }
       mirrorOn s 255 = true ∧ fieldOn s 0 = true ∧ staleHere (staleIn s 0 255 0) 0 255 0 = true
         ∧ smGet none (getAgent s 0).work (128 * 255) = none ∧ tileKind (mirSrc s 255) = .b
         ∧ rd s (A.MIRROR_CFG 255) F.MIRROR_CFG_SRC_LINE + 0 < 1024 ∧ (freeTag s (agentPort 0) 0 256).isSome = true
         ∧ smGet none (getAgent u 0).work (128 * 255) = some { fails := 15 })
    ∧ (let u := setAgent (mirrored 0 1 {}) 0 { work := [(128 * 255, some { fails := 16 })] }
       let v := staleIn u 0 255 0
       let x : Fill := { line := 0, data := List.replicate 64 0, owner := .refetch 0 255 0, moved := 15, bad := true }
       let w := setT (setAgent v 0 { work := [(128 * 255, some { fails := 16, filling := true })] }) 2 { getT v 2 with m := { (getT v 2).m with fills := [x] } }
       smGet none (getAgent u 0).work (128 * 255) = some { fails := 16 } ∧ mirrorOn u 255 = true ∧ fillTiles u 0 (ofRefetch 0 255 0) = []
         ∧ staleHolders u 0 255 0 = [] ∧ staleHolders v 0 255 0 ≠ [] ∧ fillTiles v 0 (ofRefetch 0 255 0) = []
         ∧ smGet none (getAgent w 0).work (128 * 255) = some { fails := 16, filling := true } ∧ clockRuns w 0 = true
         ∧ fillTiles w 0 (ofRefetch 0 255 0) = [2] ∧ (getT w 2).m.fills = [x])
    ∧ (let s := setFS (wr (wr (mirrored 0 1 {}) (A.PWR_STATUS 0) F.PWR_STATUS_STATE 7) (A.PWR_CTL 0) F.PWR_CTL_TARGET 0) 0 { wakeFrom := 5 }
       pwrState s 0 = 7 ∧ (getFS s 0).wakeFrom = 5 ∧ pwrTarget s 0 = 0)
    ∧ (let s := setAgent (mirrored 0 1 {}) 0 { recLines := [128 * 255] }
       mirrorOn s (128 * 255 / 128) = true ∧ ∃ h ∈ mirTargets s 255 0, tileField h.1 = 0) := by decide +kernel

theorem test_mirrorFlitHyp : let f : Flit := { net := .dat, dst := 0, src := 9, op := 2, tile := 4, line := 15, mirror := 255 }
    let x : Flit := { net := .snp, dst := 1, src := 9, op := 0, line := 0, mirror := 255 }
    let s := setEp (setEp (mirrored 0 1 {}) 0 { inDat := [f] }) 1 { inSnp := [x] }
    let u := setEp (mirrored 0 1 {}) 1 { inSnp := [{ x with op := 1 }] }
    let x1 : Fill := { line := 15, data := List.replicate 64 0, owner := .push 0 f, moved := 15 }
    let v := setT s 2 { getT s 2 with m := { (getT s 2).m with fills := [x1] } }
    (getEp s 0).inDat.find? (fun f => f.op == 2) = some f ∧ clockRuns s (tileField (mpushTile 0 f)) = true
      ∧ pwrState s (tileField (mpushTile 0 f)) = 0 ∧ pushFill s 0 = none
      ∧ mirrorOn s 255 = true ∧ (mirTargets s 255 (mirRegionLine s 255 (mpushTile 0 f) 15)).contains (mpushTile 0 f, 15) = true
      ∧ (mirTargets s 255 (mirRegionLine s 255 (mpushTile 0 f) 16)).contains (mpushTile 0 f, 16) = false ∧ mirrorOn run 255 = false
      ∧ pushFill v 0 = some 2 ∧ (getT v 2).m.fills.find? (fun x => ofPush 0 x.owner) = some x1 ∧ clockRuns v (tileField 2) = true
      ∧ 2 ≤ pwrState (wr s (A.PWR_STATUS 0) F.PWR_STATUS_STATE 2) (tileField (mpushTile 0 f))
      ∧ agentPort 0 = 1 ∧ (getEp s 1).inSnp.find? (fun x => x.op != 1) = some x ∧ pwrState s 0 ≤ 1 ∧ mirrorOn s 255 = true
      ∧ (∃ h ∈ mirTargets s 255 0, tileField h.1 = 0)
      ∧ (getEp u 1).inSnp.find? (fun x => x.op == 1) = some { x with op := 1 }
      ∧ u.boot.srst = true ∧ (∀ i ∈ mirHolders u 255, tileField i = 0 → lentTile u i = false)
      ∧ (∃ i ∈ mirHolders u 255, tileField i = 0) ∧ rd u (A.MIRROR_CFG 255) F.MIRROR_CFG_EPRED = 1 := by decide +kernel

/-! ### Tether -/

/-- A fabric of four devices in a ring along X; this is device `id`, with ports 0 and 1 UP. -/
def fabric (id : Nat) : State :=
  let s := [(F.FAB_DIMS_BX, 4), (F.FAB_DIMS_BY, 4), (F.FAB_DIMS_BZ, 8), (F.FAB_DIMS_NX_M1, 3), (F.FAB_DIMS_NY_M1, 0), (F.FAB_DIMS_NZ_M1, 0)].foldl
    (fun s x => wr s A.FAB_DIMS x.1 x.2) run
  [0, 1].foldl (fun s p => wr (wr (wr s (A.PORT_STATUS p) F.PORT_STATUS_STATE 1) (A.LANE_PWR (8 * p)) F.LANE_PWR_TX_STATE 0)
      (A.LANE_PWR (8 * p)) F.LANE_PWR_RX_STATE 0)
    (wr (wr s A.FAB_COORD F.FAB_COORD_VALID 1) A.FAB_COORD F.FAB_COORD_ID id)

/-- A packet of request flit `f` from device 3 to device `d`. -/
def reqPacket (d : BitVec 16) (f : Flit) : Packet := sealPacket (flitPacket d 3 f false)
/-- A control packet of this type from device 3 to device `d`. -/
def ctlPacket (d : BitVec 16) (ty : Nat) (bs : List (BitVec 64)) : Packet :=
  sealPacket ⟨d, 3, true, .req, false, BitVec.ofNat 4 ty, 0, 0, 0, 0, bs, 0⟩

/-- Port 0 of device 0 receives with FEC on; `onLine` gives the blocks of a packet as they arrive there. -/
def hearing (s : State) : State := setTr s 0 { getTr s 0 with fec := true, rxScr := 5 }
def onLine (k : Packet) : List Block := (scrambleBlocks 5 (packetBlocks k)).1

theorem test_carriesHyp : let k := reqPacket 0 (reqFlit 0 0 8)
    let s := hearing (fabric 0)
    carries s 0 (onLine k) k ∧ carries s 0 (onLine { k with hcrc := ~~~k.hcrc }) { k with hcrc := ~~~k.hcrc }
      ∧ (let h := sealPacket { k with hops := 255 }
         carries (wr s A.FAB_ROUTE_CTL F.FAB_ROUTE_CTL_HOP_LIMIT 255) 0 (onLine h) h)
      ∧ carries s 0 (onLine (reqPacket 1 (reqFlit 0 0 8))) (reqPacket 1 (reqFlit 0 0 8)) := by
  unfold carries; decide +kernel

theorem test_receiveHyp : let k := reqPacket 0 (reqFlit 0 0 8)
    let s := fabric 0
    let l := wr s A.FAB_ROUTE_CTL F.FAB_ROUTE_CTL_HOP_LIMIT 255
    packetShape k = true ∧ (portLive s 0 = true ∧ dirState s (8 * 0) false = 0 ∧ tripped s = false) ∧ k.hcrc = headerCrc k
      ∧ packetShape { k with hcrc := ~~~k.hcrc } = true ∧ ~~~k.hcrc ≠ headerCrc { k with hcrc := ~~~k.hcrc }
      ∧ k.hops.toNat ≠ hopLimit s ∧ k.ctl = false ∧ k.trailer = packetTrailer k ∧ k.cls = .req ∧ rd s A.FAB_COORD F.FAB_COORD_VALID = 1
      ∧ k.dstDev = devId s ∧ transitHop s 0 (reqPacket 1 (reqFlit 0 0 8)) = some 1 ∧ (1 : BitVec 16) ≠ devId s
      ∧ (let h := sealPacket { k with hops := 255 }
         packetShape h = true ∧ h.hcrc = headerCrc h ∧ h.hops.toNat = hopLimit l ∧ portLive l 0 = true ∧ dirState l 0 false = 0) := by
  decide +kernel

theorem test_sendHyp : let k := reqPacket 1 (reqFlit 0 0 8)
    let s := setP (fabric 0) 0 { buf := [(bufKey .req false, [k])], owed := [(7, 31)] }
    let u := setP (fabric 0) 0 { out := [(bufKey .req false, [k])] }
    smGet [] (getP s 0).buf (bufKey .req false) = [k] ∧ transitHop s 0 k = some 1
      ∧ mayTransmit s 1 (bufKey .req (transitVc s 0 1 k)) .req = true ∧ portTurn s 1 = some (netIx .req, 0) ∧ k.ctl = false
      ∧ (let s := setP (fabric 0) 0 { owed := [(7, 31)] }
         31 ≤ smGet 0 (getP s 0).owed 7 ∧ portLive s 0 = true ∧ dirState s (8 * 0) true = 0 ∧ (getTr s 0).wakePages = 0 ∧ tripped s = false ∧ portTurn s 0 = none
           ∧ rd s (A.PORT_CTL 0) F.PORT_CTL_HAIRPIN ≠ 1)
      ∧ smGet [] (getP u 0).out (bufKey .req false) = [k] ∧ smGet [] (getP u 0).out (bufKey .req true) = [] ∧ k.vc = false
      ∧ mayTransmit u 0 (bufKey .req false) .req = true ∧ portTurn u 0 = some (netIx .req, 6) := by decide +kernel

/-- A request for device 1 that has reached the gateway of port 0. -/
def outward (mst : BitVec 16) : State :=
  setEp (fabric 0) (gatewayPort 0) { inReq := [{ reqFlit 0 (65536 * 3) 8 with dev := 1, mst := mst }] }

theorem test_gatewayHyp : let f : Flit := { reqFlit 0 (65536 * 3) 8 with dev := 1 }
    noneWaits (outward 0x2000) 0 .req ∧ (getEp (outward 0x2000) (gatewayPort 0)).inReq = [f] ∧ portUp (outward 0x2000) 0 = true
      ∧ rd (outward 0x2000) A.FAB_COORD F.FAB_COORD_VALID = 1 ∧ f.net = .req ∧ f.op.toNat < 2
      ∧ decideAccess (outward 0x2000) ⟨devId (outward 0x2000), 0x2000⟩ false (remoteNeeds (outward 0x2000) 0 f) = .grant
      ∧ decideAccess (outward 0x0FFF) ⟨devId (outward 0x0FFF), 0x0FFF⟩ false (remoteNeeds (outward 0x0FFF) 0 { f with mst := 0x0FFF }) ≠ .grant := by
  unfold noneWaits; decide +kernel

theorem test_proxyHyp : let k := reqPacket 0 (reqFlit 0 (65536 * 3) 8)
    let s := setP (fabric 0) 0 { arr := [k] }
    let u := setP (fabric 0) 0 { arr := [k], proxies := (List.range 256).map fun e => (e, some ⟨0, 0, 0, 0⟩) }
    (arrivedFlit s 0 .req (fun f => f.op != 2)).map Prod.fst = some k
      ∧ (arrivedFlit s 0 .req (fun f => f.op != 2)).map (fun x => x.2.addr.toNat) = some (65536 * 3)
      ∧ (match localTarget s (65536 * 3) with | .local_ d => d == 0 | _ => false) = true
      ∧ (List.range 256).find? (fun e => (smGet none (getP s 0).proxies e).isNone) = some 0
      ∧ (arrivedFlit u 0 .req (fun f => f.op != 2)).isSome = true
      ∧ (List.range 256).find? (fun e => (smGet none (getP u 0).proxies e).isNone) = none
      ∧ smGet none (getP u 0).proxies 255 = some ⟨0, 0, 0, 0⟩ := by decide +kernel

theorem test_proxyDataHyp : let k := sealPacket (flitPacket 0 3 { net := .dat, dst := 0, src := 9, op := 1, tag := 7, count := 16 } false)
    let s := setP (fabric 0) 0 { arr := [k] }
    let u := setP s 5 { proxies := [(255, some ⟨3, 9, 7, 0⟩)] }
    let v := setEp u (gatewayPort 5) { inRsp := [{ net := .rsp, dst := 0, src := 9, op := 1, tag := 255 }] }
    (arrivedFlit s 0 .dat (fun _ => true)).isSome = true ∧ proxyFor s 3 9 7 = none ∧ proxyFor u 3 9 7 = some (5, 255, ⟨3, 9, 7, 0⟩)
      ∧ ((getEp v (gatewayPort 5)).inRsp.all fun f => decide (f.op.toNat < 3)) = true ∧ (getEp v (gatewayPort 5)).inRsp.length = 1
      ∧ smGet none (getP v 5).proxies 255 = some ⟨3, 9, 7, 0⟩ := by decide +kernel

/-- Device 0 as an anchor whose string entry 63 names device 1. -/
def anchor (dev : Nat) : State :=
  let s := wr (wr (fabric 0) A.HIF_STATUS F.HIF_STATUS_ANCHOR 1) A.HIF_STATUS F.HIF_STATUS_LINK_UP 1
  wr (wr s (A.FAB_STRING 63) F.FAB_STRING_EN 1) (A.FAB_STRING 63) F.FAB_STRING_DEVICE dev
/-- A device on whose port 1 a control packet of this type has arrived. -/
def told (s : State) (ty : Nat) (bs : List (BitVec 64)) : State := setP s 1 { ctl := [(ctlPacket 0 ty bs, 5000)] }

theorem test_stringsHyp :
    (isAnchor (anchor 1) = true ∧ rd (anchor 1) (A.FAB_STRING 63) F.FAB_STRING_EN = 1 ∧ namesDevice (anchor 1) 1 = true
      ∧ rd (anchor 1) (A.FAB_STRING 63) F.FAB_STRING_DEVICE = 1 ∧ firstHop (anchor 1) 1 = some 0 ∧ noneWaits (anchor 1) 0 .req)
    ∧ (isAnchor (anchor 0) = true ∧ firstHop (anchor 0) (rd (anchor 0) (A.FAB_STRING 63) F.FAB_STRING_DEVICE) = none)
    ∧ ([3, 4, 5].all fun ty => (getP (told (fabric 0) ty []) 1).ctl.head? == some (ctlPacket 0 ty [], 5000)
        && (ctlPacket 0 ty []).ctype.toNat == ty) = true
    ∧ (isAnchor (told (fabric 0) 3 []) = false ∧ rd (told (fabric 0) 3 []) A.FAB_ANCHOR F.FAB_ANCHOR_VALID = 0)
    ∧ (let s := wr (wr (fabric 0) A.FAB_ANCHOR F.FAB_ANCHOR_VALID 1) A.FAB_ANCHOR F.FAB_ANCHOR_LEASE_MS 1
       rd s A.FAB_ANCHOR F.FAB_ANCHOR_VALID = 1 ∧ rd s A.FAB_ANCHOR F.FAB_ANCHOR_LEASE_MS ≠ 0)
    ∧ getFld 0 F.FAB_STRING_EN = 0 := by
  unfold noneWaits; decide +kernel

/-- Port 1 of device 0 has its lanes in READY; its neighbour says that it is device `id`, port 0. -/
def meeting (id : Nat) (dims : Reg) : State :=
  let s := wr (fabric 0) (A.PORT_STATUS 1) F.PORT_STATUS_STATE 0
  let s := setTr s 1 { peerId := BitVec.ofNat 16 id, peerValid := true, peerPort := 0, peerDims := dims.setWidth 63 }
  (portLanes 1).foldl (fun s l => setLane s l 9) s

theorem test_neighbourHyp : let dims := getR (fabric 0) A.FAB_DIMS
    let s := meeting (nextId (fabric 0) 1 0) dims
    lanesIn s 1 9 ≠ [] ∧ rd s (A.PORT_STATUS 1) F.PORT_STATUS_STATE = 0 ∧ (getP s 1).lost = false ∧ (getTr s 1).checked = false
      ∧ rd s (A.PORT_CTL 1) F.PORT_CTL_HAIRPIN = 0 ∧ fabSize s (1 / 2) ≠ 1 ∧ (getTr s 1).peerPort = 1 - 1 ∧ (getTr s 1).peerValid = true
      ∧ rd s A.FAB_COORD F.FAB_COORD_VALID = 1 ∧ (getTr s 1).peerId.toNat = nextId s 1 (devId s).toNat ∧ (getTr s 1).peerId ≠ devId s
      ∧ (getTr s 1).peerDims.toNat = (getR s A.FAB_DIMS).toNat % 2 ^ 63
      ∧ (getTr (meeting 3 0) 1).peerDims.toNat ≠ (getR (meeting 3 0) A.FAB_DIMS).toNat % 2 ^ 63 := by decide +kernel

theorem test_fabricHyp :
    (let s := setTr (wr (wr (fabric 0) A.FAB_COORD F.FAB_COORD_VALID 0) A.FAB_COORD F.FAB_COORD_ENUM 1) 1 { peerId := 3, peerValid := true }
     rd s A.FAB_COORD F.FAB_COORD_VALID = 0 ∧ rd s A.FAB_COORD F.FAB_COORD_ENUM = 1 ∧ portUp s 1 = true ∧ (getTr s 1).peerValid = true
       ∧ portUp s 0 = true ∧ (getTr s 0).peerValid = false)
    ∧ portsDown ((List.range 6).foldl (fun s p => wr s (A.PORT_CTL p) F.PORT_CTL_EN 0) run) = true ∧ portsDown (fabric 0) = false ∧ dimsOk (getR (fabric 0) A.FAB_DIMS) = true ∧ dimsOk 0 = false
    ∧ (getP (setP (fabric 0) 5 { lost := true }) 5).lost = true
    ∧ (let s := wr (wr (fabric 0) (A.PORT_STATUS 1) F.PORT_STATUS_STATE 2) (A.PORT_CTL 1) F.PORT_CTL_TEST_EN 1
       rd s (A.PORT_STATUS 1) F.PORT_STATUS_STATE = 2 ∧ rd s (A.PORT_CTL 1) F.PORT_CTL_TEST_EN = 1
         ∧ mayTransmit s 1 (bufKey .dat true) .dat = true ∧ rd s (A.PORT_CTL 1) F.PORT_CTL_HAIRPIN ≠ 1)
    ∧ ([0, 1].all fun v : Nat => let s := wr (wr (fabric 0) (A.PORT_STATUS 1) F.PORT_STATUS_STATE 2) (A.PORT_CTL 1) F.PORT_CTL_TEST_EN 1
       let s := setTr (wr s (A.PORT_CTL 1) F.PORT_CTL_HAIRPIN 1) 1 { prbsRx := BitVec.ofNat 31 (if v = 0 then (getTr s 1).prbs.toNat else 5), fec := true }
       rd s (A.PORT_STATUS 1) F.PORT_STATUS_STATE == 2 && rd s (A.PORT_CTL 1) F.PORT_CTL_TEST_EN == 1 && (getP s 1).rx == []
         && mayTransmit s 1 (bufKey .dat true) .dat && rd s (A.PORT_CTL 1) F.PORT_CTL_HAIRPIN == 1 && dirState s (8 * 1) false == 0
         && (getTr s 1).rxScr == (getTr s 1).txScr && (getTr s 1).fec
         && ((prbsBlocks (getTr s 1).prbsRx).1 == (prbsBlocks (getTr s 1).prbs).1) == (v == 0)) = true
    ∧ awake (fabric 0) = true := by decide +kernel

/-- Device 0 whose time master is device 3, across port 1; an exchange began at 1000 ns. -/
def timed : State := { told (wr (wr (fabric 0) A.FAB_TIME_CTL F.FAB_TIME_CTL_EN 1) A.FAB_TIME_CTL F.FAB_TIME_CTL_MASTER_ID 3) 2 [9, 10] with fabTime := { t1 := some 1000 } }

theorem test_timeHyp : parentPort timed = some 1 ∧ portUp timed 1 = true ∧ rd timed A.FAB_TIME_CTL F.FAB_TIME_CTL_EN = 1
    ∧ noneWaits timed 1 .snp
    ∧ (getP timed 1).ctl.head? = some (ctlPacket 0 2 [9, 10], 5000) ∧ (ctlPacket 0 2 [9, 10]).payload = [9, 10]
    ∧ timed.fabTime.t1 = some 1000 ∧ noneWaits (told (fabric 0) 1 []) 1 .snp ∧ (ctlPacket 0 1 []).ctype.toNat = 1
    ∧ rd timed A.FAB_TIME_CTL F.FAB_TIME_CTL_STEP_NS < ((((9 : Int) - 1000) - (5000 - 10)) / 2).natAbs
    ∧ ((((999 : Int) - 1000) - (5000 - 5000)) / 2).natAbs ≤ rd timed A.FAB_TIME_CTL F.FAB_TIME_CTL_STEP_NS
    ∧ rd (wr run A.CLK_SYNC_CTL F.CLK_SYNC_CTL_EN 1) A.CLK_SYNC_CTL F.CLK_SYNC_CTL_EN = 1
    ∧ portUp (wr timed (A.PORT_STATUS 1) F.PORT_STATUS_STATE 0) 1 = false
    ∧ parentPort (wr timed (A.PORT_STATUS 1) F.PORT_STATUS_STATE 0) = some 1
    ∧ syncMode (wr (wr run A.FAB_TIME_CTL F.FAB_TIME_CTL_MASTER 1) A.FAB_TIME_CTL F.FAB_TIME_CTL_SYNC_MODE 1) ≠ 0 := by
  unfold noneWaits; decide +kernel

/-! ### Lanes and groups -/

/-- Port `p` with every lane in state `st`. -/
def lanesAt (p st : Nat) : State := (portLanes p).foldl (fun s l => setLane s l st) run

theorem test_enableHyp : rd (wr run (A.PORT_CTL 5) F.PORT_CTL_EN 0) (A.PORT_CTL 5) F.PORT_CTL_EN = 0 ∧ run.boot.out = true
    ∧ getFld (setFld 0 F.PORT_CTL_EN 1) F.PORT_CTL_EN = 1 ∧ getFld 0 F.PORT_CTL_EN = 0 ∧ rd run (A.PORT_CTL 5) F.PORT_CTL_EN = 1 := by
  decide +kernel

theorem test_signalHyp : (let s := wr (setR (setLane run 111 1) A.CLK_REF_STATUS 0x3F) (A.LANE_PWR 111) F.LANE_PWR_RX_STATE 0
      laneState s 111 = 1 ∧ laneClock s 111 = true ∧ dirState s 111 false = 0)
    ∧ ([2, 3, 4, 7, 8].all fun st => laneState (lanesAt 5 st) 47 == st) = true
    ∧ ([4, 7, 8].all fun st => laneState (lanesAt 5 st) 47 == st) = true
    ∧ (portMay (lanesAt 5 8) (47 / 8) ∧ laneState (lanesAt 5 8) 47 = 8)
    ∧ awake (lanesAt 5 8) = true
    ∧ (let bs := ⟨true, true, 0⟩ :: List.replicate 64 (dataBlock 0)
       (47 : Fin 112).val < 48 ∧ 48 ≤ (111 : Fin 112).val ∧ 64 ≤ bs.length
         ∧ ((laneWires (lanesAt 5 2) 47 bs).drop (bs.length - 64)).all blockValid = true
         ∧ (laneWires (lanesAt 5 2) 47 bs).all blockValid = false)
    ∧ (getLn (lanesAt 5 3) 47).decoded = false ∧ (getLn (lanesAt 5 3) 47).tried = false
    ∧ (getLn (setLn (lanesAt 5 3) 47 { tried := true }) 47).tried = true := by
  unfold portMay; decide +kernel

/-- A training frame: PHASE 1 of lane 7 that offers every rate and names every lane good. -/
def tframe : BitVec 248 :=
  let v := 7 * 2 ^ 20 + 1 * 2 ^ 24 + 15 * 2 ^ 28 + 255 * 2 ^ 32
  BitVec.ofNat 248 (tfCrc (BitVec.ofNat 248 v) * 2 ^ 232 + v)

/-- Lane 47 in HELLO, locked, its descrambler at 5. -/
def helloLane : State := setLn (wr (lanesAt 5 3) (A.LANE_STATUS 47) F.LANE_STATUS_LOCKED 1) 47 { rxScr := 5, hdrs := List.replicate 64 true }

theorem test_frameDecodes : tfOk tframe = true ∧ tfBits tframe 22 20 = 7 ∧ tfBits tframe 31 28 = 15 ∧ tfOk (tframe ^^^ 1) = false
    ∧ laneState helloLane 47 = 3 ∧ rd helloLane (A.PORT_CTL (47 / 8)) F.PORT_CTL_HAIRPIN ≠ 1 ∧ (47 : Fin 112).val < 48 := by
  decide +kernel

theorem test_hearsHyp : hears helloLane 47 (scrambleBlocks 5 (frameBlocks tframe)).1 tframe := by
  unfold hears headersAfter; decide +kernel

/-- What holds no frame, and a frame whose CRC is wrong. -/
theorem test_hearsNoneHyp : ∀ b, ¬ hears helloLane 47 [] b := by
  intro b h
  simp [hears, laneWires, descrambleBlocks, throughBlocks, blocksFrame] at h
theorem test_hearsBadHyp : ∀ b, ¬ hears helloLane 47 (scrambleBlocks 5 (frameBlocks (tframe ^^^ 1))).1 b := by
  intro b h
  have e : blocksFrame (descrambleBlocks (getLn helloLane 47).rxScr (laneWires helloLane 47 (scrambleBlocks 5 (frameBlocks (tframe ^^^ 1))).1)).1
      = some (tframe ^^^ 1) := by decide +kernel
  have f : tfOk (tframe ^^^ 1) = false := by decide +kernel
  have g := h.1
  rw [e] at g
  have k := h.2.1
  rw [← Option.some.inj g, f] at k
  exact Bool.noConfusion k

/-- Port 5 in state `st` with every lane good on both sides and every rate offered. -/
def trained (st : Nat) : State :=
  [(F.LANE_TRAIN_OWN_GOOD, 255), (F.LANE_TRAIN_PEER_GOOD, 255), (F.LANE_TRAIN_PEER_RATES, 15)].foldl
    (fun s x => wr s (A.LANE_TRAIN 40) x.1 x.2) (lanesAt 5 st)
/-- What port 5 selects then. -/
def chosen (st : Nat) : Nat × Nat × Nat := (ownSelection (trained st) 5).getD (9, 9, 9)
/-- Port 5 in state `st` after its selection `sel`. -/
def selected (st : Nat) (sel : Nat × Nat × Nat) : State := setTr (trained st) 5 { getTr (trained st) 5 with sel := some sel }

theorem test_bringUpHyp :
    (lanesIn (trained 3) 5 3 ≠ [] ∧ ((List.range 8).filter (bit (rd (trained 3) (A.LANE_TRAIN 40) F.LANE_TRAIN_OWN_GOOD))).map
        (rxLane (trained 3) 5) ≠ [])
    ∧ (let s := setTr (trained 4) 5 { getTr (trained 4) 5 with peerSel := some (chosen 4), peerAck := true }
       lanesIn s 5 4 ≠ [] ∧ ownSelection s 5 = some (chosen 4) ∧ (getTr s 5).peerSel = some (chosen 4) ∧ (getTr s 5).peerAck = true)
    ∧ (lanesIn (lanesAt 5 4) 5 4 ≠ [] ∧ ownSelection (lanesAt 5 4) 5 = none)
    ∧ (lanesIn (selected 5 (0, 3, 0)) 5 5 ≠ [] ∧ (getTr (selected 5 (0, 3, 0)) 5).sel = some (0, 3, 0))
    ∧ (let s := selected 5 (3, 3, 0)
       lanesIn s 5 5 ≠ [] ∧ (getTr s 5).sel = some (3, 3, 0) ∧ portRate s 5 ≠ 3 ∧ steppedOut s 5 = false)
    ∧ (let s := (portLanes 5).foldl (fun s l => setLn s l { stepTx := 64, stepRx := some 64 }) (selected 5 (3, 3, 0))
       lanesIn s 5 5 ≠ [] ∧ portRate s 5 ≠ 3 ∧ steppedOut s 5 = true ∧ (47 ∈ enabledLanes s 5 ∧ laneState s 47 = 5))
    ∧ (let s := (portLanes 5).foldl (fun s l => setLn s l { stepped := true }) (wr (selected 5 (3, 3, 0)) (A.LANE_STATUS 40) F.LANE_STATUS_RATE 3)
       lanesIn s 5 5 ≠ [] ∧ portRate s 5 = 3 ∧ (groupRx s 5).all (fun l => (getLn s l).stepped) = true)
    ∧ (let s := wr (selected 5 (3, 3, 0)) (A.LANE_STATUS 40) F.LANE_STATUS_RATE 3
       lanesIn s 5 5 ≠ [] ∧ portRate s 5 = 3 ∧ (groupRx s 5).all (fun l => (getLn s l).stepped) = false ∧ portMay s 5) := by
  unfold portMay portRate; decide +kernel

theorem test_adaptHyp :
    (let s := selected 6 (3, 3, 0)
     (32 ≤ 47 ∧ lanesIn s (47 / 8) 6 ≠ [] ∧ (getLn s 47).peerDone = false ∧ tapsGood s 47 ∧ (getLn s 47).coefSts.toNat % 4 = 0))
    ∧ (getLn (setLn run 47 { peerDone := true }) 47).peerDone = true
    ∧ (let s := (portLanes 5).foldl (fun s l => setLn s l { peerDone := true, search := { tap := 3 } }) (selected 6 (3, 3, 0))
       lanesIn s 5 6 ≠ [] ∧ (groupSel s 5).all (fun j => (getLn s (8 * 5 + j)).peerDone) = true
         ∧ (groupRx s 5).all (fun l => (getLn s l).search.tap == 3) = true ∧ groupSel s 5 ≠ [])
    ∧ (let s := setTr (selected 7 (3, 3, 0)) 5 { getTr (selected 7 (3, 3, 0)) 5 with aligned := true }
       lanesIn s 5 7 ≠ [] ∧ (getTr s 5).aligned = true)
    ∧ ([0, 3].all fun r => let u := wr (selected 8 (3, 3, 0)) (A.LANE_STATUS 40) F.LANE_STATUS_RATE r
       let s := setTr u 5 { getTr u 5 with readyOut := true, readyIn := true, fec := r == 3, txFec := r == 3 }
       lanesIn s 5 8 != [] && (getTr s 5).readyOut && (getTr s 5).readyIn && (rateOf (rd s (A.LANE_STATUS 40) F.LANE_STATUS_RATE)).fec == (r == 3)
         && (getTr s 5).fec == (r == 3) && (getTr s 5).txFec == (r == 3)) = true
    ∧ (portMay (lanesAt 5 8) 5 ∧ ∃ l ∈ portLanes 5, 2 ≤ laneState (lanesAt 5 8) l ∧ laneState (lanesAt 5 8) l ≤ 8) := by
  unfold portMay tapsGood; decide +kernel

/-- Port 5 is UP with these TX and RX states. -/
def upAs (tx rx : Nat) : State :=
  wr (wr (lanesAt 5 9) (A.LANE_PWR 40) F.LANE_PWR_TX_STATE tx) (A.LANE_PWR 40) F.LANE_PWR_RX_STATE rx

theorem test_upHyp : lanesIn (upAs 0 0) 5 9 ≠ [] ∧ portMay (upAs 0 0) 5 ∧ getFld (setFld 0 F.LANE_CTL_RETRAIN 1) F.LANE_CTL_RETRAIN = 1
    ∧ ([0, 5].all fun k => let s := wr (setTr (upAs 0 0) 5 { stepDown := k }) (A.LANE_CTL 40) F.LANE_CTL_STEP_LIMIT 1
       rd s (A.LANE_CTL 40) F.LANE_CTL_STEP_LIMIT == 1 && lanesIn s 5 9 != [] && (getTr s 5).stepDown == k
         && decide (windowErrors s 5 [64] 9 ≤ 64 * rd s (A.LANE_CTL 40) F.LANE_CTL_STEP_LIMIT)) = true
    ∧ (let s := wr (wr (setTr (upAs 0 0) 5 { above := true }) (A.LANE_CTL 40) F.LANE_CTL_STEP_LIMIT 1) (A.LANE_STATUS 40) F.LANE_STATUS_RATE 1
       rd s (A.LANE_CTL 40) F.LANE_CTL_STEP_LIMIT ≠ 0 ∧ 64 * rd s (A.LANE_CTL 40) F.LANE_CTL_STEP_LIMIT < windowErrors s 5 [60, 5] 0 ∧ (getTr s 5).above = true
         ∧ (getTr s 5).stepDown = 0 ∧ portRate s 5 ≠ 0) := by
  unfold portMay portRate; decide +kernel

theorem test_ballastHyp : streamLanes (lanesAt 5 3) 5 = []
    ∧ ([0, 1, 2, 5].all fun k => [(true, true), (false, false)].all fun f =>
        let s := setTr (wr (upAs 0 0) (A.LANE_STATUS 40) F.LANE_STATUS_RATE 1) 5 { fec := f.1, stepDown := k }
        let g : BallastGroup := { flags := 8, atStart := f.2 || f.1 }
        streamLanes s 5 != [] && lanesIn s 5 9 != [] && dirState s (8 * 5) false == 0 && rd s (A.PORT_CTL 5) F.PORT_CTL_HAIRPIN != 1
          && (getTr s 5).stepDown == k && rd s (A.LANE_STATUS 40) F.LANE_STATUS_RATE == 1 && (!(getTr s 5).fec || g.atStart)
          && decide (8 ≤ g.flags.toNat)) = true
    ∧ portRate (upAs 0 0) 5 = 0 ∧ (7 : BitVec 4).toNat < 8 ∧ portMay (upAs 0 0) 5 := by
  unfold portMay portRate; decide +kernel

theorem test_quietHyp :
    (let s := wr (upAs 0 0) (A.LANE_PWR 40) F.LANE_PWR_TX_REQ 1
     lanesIn s 5 9 ≠ [] ∧ dirState s (8 * 5) true = 0 ∧ portTraffic s 5 = false ∧ tripped s = false ∧ dirReq s (8 * 5) true = 1)
    ∧ (let s := wr (upAs 0 0) (A.LANE_PWR 40) F.LANE_PWR_AUTO_US 1
       rd s (A.LANE_PWR 40) F.LANE_PWR_AUTO_US ≠ 0 ∧ dirState s (8 * 5) true = 0 ∧ portTraffic s 5 = false ∧ tripped s = false)
    ∧ (let s := setP (upAs 1 0) 5 { owed := [(0, 1)] }
       lanesIn s 5 9 ≠ [] ∧ dirState s (8 * 5) true = 1 ∧ portTraffic s 5 = true ∧ tripped s = false)
    ∧ (let s := setLn (setP (upAs 3 0) 5 { owed := [(0, 1)] }) 40 { nextTx := some 1 }
       lanesIn s 5 9 ≠ [] ∧ dirState s (8 * 5) true = 3 ∧ portTraffic s 5 = true ∧ tripped s = false ∧ (getLn s (8 * 5)).nextTx = some 1
         ∧ (getLn s (8 * 5)).idleTx = false)
    ∧ (let s := setTr (upAs 0 0) 5 { quietNext := true }
       lanesIn s 5 9 ≠ [] ∧ dirState s (8 * 5) false = 0 ∧ (getTr s 5).quietNext = true)
    ∧ (lanesIn (upAs 0 1) 5 9 ≠ [] ∧ dirState (upAs 0 1) (8 * 5) false = 1 ∧ tripped (upAs 0 1) = false ∧ portMay (upAs 0 1) 5)
    ∧ (let s := wr (upAs 0 2) (A.LANE_PWR 40) F.LANE_PWR_RX_AUTO 1
       dirState s (8 * 5) false = 2 ∧ rd s (A.LANE_PWR 40) F.LANE_PWR_RX_AUTO = 1 ∧ portMay s 5 ∧ tripped s = false) := by
  unfold portMay; decide +kernel

theorem test_directionHyp :
    (pwrLane (lanesAt 5 3) 40 = 40 ∧ portMay (lanesAt 5 3) (40 / 8) ∧ lanesIn (lanesAt 5 3) (40 / 8) 9 = []
      ∧ getFld (setFld 0 F.LANE_PWR_TX_REQ 2) F.LANE_PWR_TX_REQ = 2 ∧ dirState (lanesAt 5 3) 40 true ≠ 3)
    ∧ (pwrLane (setLane run 111 9) 111 = 111 ∧ laneState (setLane run 111 9) 111 ≠ 0)
    ∧ ([false, true].all fun idle => 
        let u := wr (wr (lanesAt 5 3) (A.LANE_PWR 40) F.LANE_PWR_TX_STATE 3) (A.LANE_PWR 40) F.LANE_PWR_RX_STATE 3
        let s := setLn u 40 { nextTx := some 1, nextRx := some 1, idleTx := idle, idleRx := idle }
        pwrLane s 40 == 40 && lanesIn s (40 / 8) 9 == [] && [true, false].all (fun tx => dirState s 40 tx == 3)) = true
    ∧ getFld 0 F.LANE_PWR_TX_REQ = 0 ∧ getFld 0 F.LANE_PWR_RX_REQ = 0
    ∧ (lanesIn (upAs 0 0) 5 9 ≠ [] ∧ dirState (upAs 0 0) 40 true = 0)
    ∧ ([0, 2].all fun q => let s := setLn (wr (upAs 3 0) (A.LANE_PWR 40) F.LANE_PWR_TX_REQ q) 40 { nextTx := some 2, idleTx := true }
        dirState s 40 true == 3 && !tripped s && (getLn s (pwrLane s 40)).nextTx == some 2 && (getLn s (pwrLane s 40)).idleTx
          && dirReq s 40 true == q) = true
    ∧ (let s := setLn (upAs 3 0) 40 { nextTx := some 0 }
       dirState s 40 true = 3 ∧ (getLn s (pwrLane s 40)).nextTx = some 0 ∧ dirReq s 40 true = 0) := by
  unfold portMay; decide +kernel

/-- Edge lane 111 in state `st` with this mode and rate, EN 1. -/
def edgeAt (st : Nat) (mode : BitVec 2) (rate : BitVec 16) : State :=
  setLn (setLane (wr run (A.LANE_CTL 111) F.LANE_CTL_EN 1) 111 st) 111 { mode := mode, rate := rate }
/-- A value of LANE_CTL. -/
def laneWord (rate mode realign : Nat) : Reg :=
  [(F.LANE_CTL_EN, 1), (F.LANE_CTL_EDGE_RATE, rate), (F.LANE_CTL_MODE, mode), (F.LANE_CTL_REALIGN, realign)].foldl (fun v x => setFld v x.1 x.2) 0

theorem test_edgeHyp :
    (let s := wr run (A.LANE_CTL 111) F.LANE_CTL_EN 0
     pwrLane s 111 = 111 ∧ laneEn s 111 = false ∧ s.boot.out = true ∧ awake s = true)
    ∧ ([125, 3200].all fun r => [0, 2].all fun m => let v := laneWord r m 0
        getFld v F.LANE_CTL_EN == 1 && getFld v F.LANE_CTL_EDGE_RATE == r && getFld v F.LANE_CTL_MODE == m) = true
    ∧ ([124, 3201].all fun r => getFld (laneWord r 0 0) F.LANE_CTL_EDGE_RATE == r) = true
    ∧ laneEn (edgeAt 9 0 125) 111 = true ∧ getFld 0 F.LANE_CTL_EN = 0
    ∧ (laneState (edgeAt 2 0 125) 111 = 2 ∧ wordRateOk (edgeAt 2 0 125) 111 = true ∧ wordRateOk (wr (edgeAt 2 0 3200) (gCtl 15) F.GRP_CTL_WIDTH 0) 111 = false)
    ∧ blockLane66 (edgeAt 2 0 125) 111 = false ∧ blockLane66 (edgeAt 2 1 125) 111 = true
    ∧ laneState (edgeAt 12 1 125) 111 = 12 ∧ (getLn (edgeAt 12 1 125) 111).mode ≠ 0 ∧ (getLn (edgeAt 12 0 125) 111).mode = 0
    ∧ ([0, 1].all fun a => let s := wr (wr (edgeAt 9 1 125) (A.LANE_PWR 111) F.LANE_PWR_RX_AUTO a) (A.LANE_PWR 111) F.LANE_PWR_RX_STATE 0
        laneState s 111 == 9 && rd s (A.LANE_PWR (pwrLane s 111)) F.LANE_PWR_RX_AUTO == a && dirState s 111 false == 0) = true
    ∧ (let bs := ⟨true, true, 0⟩ :: List.replicate 64 (dataBlock 0)
       64 ≤ bs.length ∧ ((laneWires (edgeAt 2 1 125) 111 bs).drop (bs.length - 64)).all blockValid = true)
    ∧ getFld (laneWord 125 0 1) F.LANE_CTL_REALIGN = 1 ∧ laneState (edgeAt 9 0 125) 111 = 9
    ∧ dirReq (edgeAt 0 0 125) 111 true ≠ 2 ∧ dirReq (edgeAt 0 0 125) 111 false ≠ 2 ∧ tripped run = false := by decide +kernel

theorem patternHeard_iff (s : State) (l : Nat) (ws : List Word) : patternHeard s l ws ↔ ws.length = 8 ∧ ws.all (fun w =>
    decide ((if (getLn s l).rxInv then ~~~w else w).toNat = rd s (A.LANE_TRAIN l) F.LANE_TRAIN_ALIGN_PAT)) = true := by
  simp [patternHeard, List.all_eq_true]

/-- ALIGN_PAT of lane 111 after reset (spec 11 R437), 8 times, 7 times, broken in the last slot, and inverted for an inverted receiver. -/
theorem test_patternHyp : let pat : Word := 0x0F5A96C3
    patternHeard (edgeAt 12 0 125) 111 (List.replicate 8 pat) ∧ ¬ patternHeard (edgeAt 12 0 125) 111 (List.replicate 7 pat)
      ∧ ¬ patternHeard (edgeAt 12 0 125) 111 (List.replicate 7 pat ++ [~~~pat])
      ∧ patternHeard (setLn (edgeAt 12 0 125) 111 { mode := 0, rxInv := true }) 111 (List.replicate 8 (~~~pat)) := by
  have a : rd (edgeAt 12 0 125) (A.LANE_TRAIN 111) F.LANE_TRAIN_ALIGN_PAT = 0x0F5A96C3 := by decide +kernel
  have b : (getLn (edgeAt 12 0 125) 111).rxInv = false := by decide +kernel
  have c : rd (setLn (edgeAt 12 0 125) 111 { mode := 0, rxInv := true }) (A.LANE_TRAIN 111) F.LANE_TRAIN_ALIGN_PAT = 0x0F5A96C3 := by
    decide +kernel
  have d : (getLn (setLn (edgeAt 12 0 125) 111 { mode := 0, rxInv := true }) 111).rxInv = true := by decide +kernel
  simp only [patternHeard_iff, a, b, c, d]
  decide +kernel

theorem test_edgeQuietHyp :
    (let s := wr (wr (edgeAt 9 1 125) (A.LANE_PWR 111) F.LANE_PWR_TX_STATE 0) (A.LANE_PWR 111) F.LANE_PWR_AUTO_US 1
     dirState s 111 true = 0 ∧ rd s (A.LANE_PWR (pwrLane s 111)) F.LANE_PWR_AUTO_US ≠ 0 ∧ edgePending s 111 = false
       ∧ (getG s ((111 - 48) / 4)).unpack = [])
    ∧ (let s := setG (wr (edgeAt 9 1 125) (A.LANE_PWR 111) F.LANE_PWR_TX_STATE 1) 15 { sending := true }
       dirState s 111 true = 1 ∧ edgePending s 111 = true ∧ tripped s = false)
    ∧ tapsOk 15 24 24 = true ∧ tapsOk 16 24 0 = false ∧ tapsOk 0 23 0 = false := by decide +kernel

/-- Group 15 in state `st` on lane 108, framed (mode 1) or raw, with this content and that lane UP. -/
def groupAs (st : Nat) (mode : BitVec 2) (g : GroupSt) : State :=
  let s := wr (wr open_ (A.LANE_PWR 108) F.LANE_PWR_TX_STATE 0) (A.LANE_PWR 108) F.LANE_PWR_RX_STATE 0
  setG (setLn (setLane (wr (wr s (A.LANE_CTL 108) F.LANE_CTL_EN 1) (gStatus 15) F.FIFO_STATUS_STATE st) 108 9) 108 { mode := mode }) 15 g
/-- A data read-word, and one that ends a record. -/
def rw : List SWord := List.replicate 4 ⟨5, .data⟩
def rwEnd : List SWord := [⟨5, .data⟩, ⟨5, .data⟩, ⟨5, .data⟩, ⟨5, .eof⟩]

theorem test_packHyp : (let s := groupAs 1 1 {}
      (gState s 15 = 1 ∧ gUp s 15 = true) ∧ groupHears s 15 ∧ ¬ groupHears (wr s (A.LANE_PWR 108) F.LANE_PWR_RX_STATE 1) 15
        ∧ gState (groupAs 0 1 {}) 15 = 0 ∧ gUp (setLane s 108 2) 15 = false ∧ (getG s 15).dropped = 0 ∧ gBytes s 15 = 4 ∧ gRaw s 15 = false)
    ∧ (let s := groupAs 1 1 { pack := List.replicate 256 rw }
       groupHears s 15 ∧ (getG s 15).dropped = 0 ∧ (getG s 15).pack.length = 256 ∧ gBytes s 15 = 4 ∧ gRaw s 15 = false ∧ gState s 15 = 1 ∧ gUp s 15 = true)
    ∧ gRaw (groupAs 1 0 {}) 15 = true
    ∧ (let s := groupAs 1 1 { dropped := 1, atEnd := true, pack := List.replicate 255 rw }
       (getG s 15).dropped ≠ 0 ∧ (getG s 15).atEnd = true ∧ (getG s 15).pack.length < 256)
    ∧ (let s := groupAs 1 1 { inRec := true, pack := List.replicate 254 rw }
       (108 - 48) / 4 = 15 ∧ (getG s 15).inRec = true ∧ gState s 15 = 1 ∧ (108 - 48) % 4 < gLanes s 15 ∧ (getG s 15).pack.length ≤ 254 ∧ (getG s 15).dropped = 0)
    ∧ (let s := groupAs 2 1 { pack := [rw] }
       gState s 15 = 2 ∧ (getG s 15).pack = [rw] ∧ (getG s 15).readSide.any Option.isSome = false) := by
  unfold groupHears; decide +kernel

/-- Tile of group 15 drives its wires at the edge. -/
def edgeDriving (t : Tag) : State :=
  let s := groupAs 1 1 {}
  let s := setFS (wr s (A.PWR_STATUS (tileField (edgeTile 15))) F.PWR_STATUS_STATE 0) (tileField (edgeTile 15)) { engaged := false }
  setT s (edgeTile 15) { Tile.factory (edgeTile 15) with latches := [⟨.out0, ⟨5, t⟩, [6 * edgeSide 15 + 3], 0⟩] }

theorem test_unpackHyp :
    ([Tag.data, .wave].all fun t => let s := edgeDriving t
      gState s 15 == 1 && smGet none (getG s 15).slots 3 == none && tileRuns s (edgeTile 15) && !engaged s (tileField (edgeTile 15))
        && driverWord (getT s (edgeTile 15)) (6 * edgeSide 15 + 3) == some (⟨5, t⟩, none)) = true
    ∧ ([0, 255, 256].all fun n => let s := groupAs 1 1 { slots := [(0, some ⟨5, .data⟩), (1, some ⟨5, .data⟩), (2, some ⟨5, .data⟩), (3, some ⟨5, .data⟩)]
                                                         unpack := List.replicate n rw }
        gState s 15 == 1 && [0, 1, 2, 3].filterMap (fun w => smGet none (getG s 15).slots w) == rw && (getG s 15).unpack.length == n) = true := by
  decide +kernel

theorem test_txHyp :
    (let s := groupAs 1 1 { unpack := [rwEnd] }
     groupTalks s 15 ∧ gState s 15 = 1 ∧ (getG s 15).sending = false ∧ gNoRec s 15 = false ∧ (unpackHeld (getG s 15)).any hasEnd = true)
    ∧ (let s := groupAs 1 1 { sending := true, txBytes := [1, 2, 3, 4] }
       gBytes s 15 ≤ (getG s 15).txBytes.length ∧ (getG s 15).txEnd = false ∧ groupSends s 15 ∧ notCut s 15 ∧ gNoRec s 15 = false)
    ∧ (let s := groupAs 1 1 { sending := true, unpack := [rw] }
       (getG s 15).unpack = [rw] ∧ rw.all (fun w => w.tag == .data) = true ∧ rw.length = 4 ∧ gBytes s 15 ≤ 16 ∧ (getG s 15).txBytes = []
         ∧ groupSends s 15 ∧ noRest s 15 ∧ (getG s 15).txErr = false ∧ gNoRec s 15 = false)
    ∧ ([SWord.mk 5 .data, ⟨5, .poison⟩].all fun w => let ws := [w, ⟨0, .tail1⟩, ⟨1, .data⟩, ⟨2, .data⟩]
       let s := wr (groupAs 2 1 { sending := true, unpack := [ws] }) (gCtl 15) F.GRP_CTL_WIDTH 3
       hasEnd ws && decide (((recWords ws).flatMap wordBytes).length ≤ gBytes s 15) && (getG s 15).unpack == [ws] && !gRaw s 15) = true
    ∧ (let s := groupAs 2 1 {}
       groupSends s 15 ∧ noRest s 15)
    ∧ awake (groupAs 1 1 {}) = true := by
  unfold groupSends groupTalks notCut noRest; decide +kernel

theorem test_txEndHyp :
    (let s := groupAs 1 1 { sending := true, txEnd := true, txErr := true, txBytes := [1, 2] }
     (getG s 15).txBytes.length ≤ gBytes s 15 ∧ (getG s 15).txEnd = true ∧ groupSends s 15 ∧ notCut s 15)
    ∧ (let s := wr (groupAs 1 0 { sending := true, txErr := true, txSent := 4 }) (gCtl 15) F.GRP_CTL_RAW_REC 1
       groupSends s 15 ∧ gNoRec s 15 = false ∧ gRaw s 15 = true ∧ (getG s 15).sending = true ∧ (getG s 15).txErr = true)
    ∧ (let s := groupAs 1 1 { sending := true, txBytes := [1] }
       groupSends s 15 ∧ notCut s 15 ∧ unpackHeld (getG s 15) = [] ∧ (getG s 15).txBytes.length < gBytes s 15 ∧ (getG s 15).txEnd = false)
    ∧ (let s := groupAs 1 1 { sending := true, txBytes := [1], txErr := true }
       unpackHeld (getG s 15) = [] ∧ (getG s 15).txBytes.length < gBytes s 15)
    ∧ getFld (setFld 0 F.GRP_CTL_EN 1) F.GRP_CTL_EN = 1 ∧ getFld 0 F.GRP_CTL_EN = 0 ∧ gState (groupAs 2 1 {}) 15 = 2
    ∧ gState (groupAs 3 1 { restart := true }) 15 = 3
    ∧ ([rw, rwEnd].all fun ws => ws.length == 4 && hasEnd ws == (ws == rwEnd)) = true := by
  unfold groupSends groupTalks notCut; decide +kernel

/-! ### Rings and descriptors -/

/-- Ring 4095 in state `st` with this content; the link is up, field 0's table grants everything. -/
def ringAt (st : Nat) (x : RingSt) : State :=
  let s := wr run A.HIF_STATUS F.HIF_STATUS_LINK_UP 1
  let s := wr (wr s (A.ACC_W1 0 31) F.ACC_W1_EN 1) (A.ACC_W1 0 31) F.ACC_W1_PERM 0xFF
  setRing (setRingState s 4095 st) 4095 x

/-- A doorbell record: SQ_PROD, CQ_CONS, GEN. -/
def doorbell (p c g : Nat) : List Byte := bytesLE 4 p ++ bytesLE 4 c ++ bytesLE 2 g

theorem test_ringLifeHyp : ringState (ringAt 0 {}) 4095 = 0 ∧ linkReady (ringAt 0 {}) ∧ awake (ringAt 0 {}) = true
    ∧ ([1, 2, 3].all fun st => awake (ringAt st {})) = true
    ∧ ([4, 2047].all fun v => let w := setFld (setFld 0 F.RING_CTL_EN 1) F.RING_CTL_VECTOR v
        getFld w F.RING_CTL_EN == 1 && vectorOk (ringAt 0 {}) 4095 (getFld w F.RING_CTL_VECTOR)) = true
    ∧ vectorOk (ringAt 0 {}) 4095 (getFld (setFld 0 F.RING_CTL_VECTOR 3) F.RING_CTL_VECTOR) = false
    ∧ ([1, 2, 3].all fun st => ringState (ringAt st {}) 4095 == st) = true ∧ getFld 0 F.RING_CTL_EN = 0
    ∧ ([0, 3].all fun k => (regFields (A.RING_SQ_BASE 4095 + 8 * k)).isSome) = true
    ∧ wouldChange (getR (ringAt 1 {}) (A.RING_SQ_BASE 4095)) (~~~0) ((regFields (A.RING_SQ_BASE 4095)).getD []) = true
    ∧ (getRing (ringAt 2 {}) 4095).descs.all (fun d => !d.started) = true := by
  unfold linkReady; decide +kernel

theorem test_ringOffHyp : let s := ringAt 3 { descs := [{ id := 5, bytes := [], started := true }] }
    ringState s 4095 = 3 ∧ linkReady s ∧ goodRecord s 4095 (doorbell 0 0 0) ∧ (getRing s 4095).restart = false
      ∧ (getRing s 4095).out = []
      ∧ ((getRing s 4095).descs.filter (fun d => !d.finished)).length = 1
      ∧ ((getRing s 4095).cqProd - BitVec.ofNat 32 (leAt (doorbell 0 0 0) 4 4)).toNat + 1 ≤ 2 ^ cqLog s 4095
      ∧ (getRing (ringAt 3 { restart := true }) 4095).restart = true := by
  unfold linkReady goodRecord; decide +kernel

theorem test_pollHyp : (let s := ringAt 1 { poll := 0 }
      ringState s 4095 = 1 ∧ (getRing s 4095).poll = 0 ∧ goodRecord s 4095 (doorbell 16 0 0) ∧ findsWork s 4095 (doorbell 16 0 0)
        ∧ goodRecord s 4095 (doorbell 0 0 0) ∧ ¬findsWork s 4095 (doorbell 0 0 0)
        ∧ leAt (doorbell 0 0 1) 8 2 ≠ rd s (A.RING_CTL 4095) F.RING_CTL_GEN)
    ∧ (let s := wr (ringAt 1 { poll := 0 }) A.HIF_TUG_CTL F.HIF_TUG_CTL_SLEEP_EN 1
       rd s A.HIF_TUG_CTL F.HIF_TUG_CTL_SLEEP_EN = 1 ∧ linkReady s ∧ goodRecord s 4095 (doorbell 0 0 0) ∧ ringState s 4095 = 1 ∧ (getRing s 4095).descs.any (fun d => d.started) = false
         ∧ (getRing s 4095).out = [])
    ∧ (ringState (ringAt 1 { poll := 1 }) 4095 = 1 ∧ (getRing (ringAt 1 { poll := 1 }) 4095).poll = 1)
    ∧ (let s := ringAt 1 { poll := 0, sqProd := 16 }
       min (List.length (List.replicate 64 (0 : Byte)) / 64)
         ((getRing s 4095).sqProd - BitVec.ofNat 32 (rd s (A.RING_STATUS 4095) F.RING_STATUS_SQ_CONS)).toNat = 1) := by
  unfold goodRecord findsWork linkReady; decide +kernel

theorem test_completionHyp : let c : Comp := ⟨some 5, 0, .ok, 0, 0, [], true⟩
    (let s := ringAt 1 { out := [c], cqProd := 15 }
     ringState s 4095 = 1 ∧ linkReady s ∧ (getRing s 4095).out = [c] ∧ c.words.length ≤ 3 ∧ cqRoom s 4095 (getRing s 4095) = true)
    ∧ (let s := ringAt 1 { out := [c], cqProd := 16 }
       cqRoom s 4095 (getRing s 4095) = false) := by
  unfold linkReady; decide +kernel

theorem test_msixHyp : hasVector 64 31 = true ∧ hasVector 0 2047 = true
    ∧ (let s := { run with msix := { pend := [(2048 * 64 + 31, 1)] } }
       max 1 (rd s (modReg 64 31) F.HIF_MSIX_MOD_COUNT) ≤ smGet 0 s.msix.pend (2048 * 64 + 31)) := by decide +kernel

/-- Descriptor 5 of ring 4095, started: opcode, flags, length, target, and the bytes from 24 on. -/
def descOf (op fl len tgt : Nat) (more : List Byte) (stage : Nat := 0) : Desc :=
  let bs := bytesLE 1 op ++ bytesLE 1 fl ++ bytesLE 2 0 ++ bytesLE 4 len ++ bytesLE 8 0 ++ bytesLE 8 tgt ++ more
  { id := 5, bytes := bs ++ List.replicate (64 - bs.length) 0, started := true, stage := stage }
/-- The ring that works on it. -/
def working (d : Desc) : State := ringAt 1 { descs := [d] }

/-- `maySend` as a test. -/
def sendB (s : State) (r : Nat) (dev : BitVec 16) (a n : Nat) : Bool :=
  decide (1 ≤ n ∧ n ≤ 64) && (match targetOf s dev a with | .fail _ => false | _ => true) && (freeTag s (ringPort r) 0 256).isSome

theorem maySend_of_sendB {s : State} {r : Nat} {dev : BitVec 16} {a n : Nat} (h : sendB s r dev a n = true) : maySend s r dev a n := by
  unfold sendB at h
  simp only [Bool.and_eq_true, decide_eq_true_eq] at h
  refine ⟨h.1.1.1, h.1.1.2, fun st e => ?_, fun e => ?_⟩
  · simp [e] at h
  · simp [e] at h

theorem test_startHyp : ([(descOf 0 0 0 0 []), (descOf 0x0E 0 0 0 [])].all fun d => let s := ringAt 1 { descs := [{ d with started := false }] }
    (nextStart s 9 s.host.sched).map Prod.fst == some 4095 && nextDesc (getRing s 4095) == some { d with started := false }
      && !tripped s) = true
    ∧ descCheck (working (descOf 0 0 0 0 [])) 4095 (descOf 0 0 0 0 []) = .ok
    ∧ descCheck (working (descOf 0x0E 0 0 0 [])) 4095 (descOf 0x0E 0 0 0 []) = .badDescriptor := by decide +kernel

theorem test_descHyp : ([0x00, 0x0D].all fun op => runDesc (working (descOf op 0 0 0 [])) 4095 5 op == some (descOf op 0 0 0 [])
        && !bit (dFlags (descOf op 0 0 0 [])) 1) = true
    ∧ ((getRing (working (descOf 0x0D 0 0 0 [])) 4095).descs.head?.map (fun e => e.id) = some 5)
    ∧ (let s := ringAt 1 { descs := [{ descOf 0 0 0 0 [] with id := 4 }, descOf 0x0D 0 0 0 []] }
       runDesc s 4095 5 0x0D = some (descOf 0x0D 0 0 0 []) ∧ (getRing s 4095).descs.head?.map (fun e => e.id) ≠ some 5)
    ∧ ([0x03, 0x04].all fun op => let d := descOf op 0 65 (65536 * 3 + 63) []
        runDesc (working d) 4095 5 op == some d && decide (pieceOff d d.next < dLen d) && d.fail == none
          && sendB (working d) 4095 (dDev d) (dAddr d + pieceOff d d.next) (pieceLen d d.next)) = true
    ∧ ([0x03, 0x04].all fun op => let d := { descOf op 0 65 (65536 * 3 + 63) [] with next := 2 }
        runDesc (working d) 4095 5 op == some d && decide (¬ pieceOff d d.next < dLen d) && d.fail == none && d.busy == 0) = true
    ∧ (let d := { descOf 0x03 0 65 (65536 * 3 + 63) [] with fail := some (1, .denied) }
       runDesc (working d) 4095 5 0x03 = some d) := by decide +kernel

/-- A stream in with `g` words of grant. -/
def streaming (d : Desc) (g : Nat) : State := setGrant (working d) (dTarget d) g

theorem test_streamInHyp :
    (let d := descOf 0x01 0 8 (portAddr 0) []
     runDesc (streaming d 0) 4095 5 0x01 = some d ∧ d.next < dLen d ∧ getGrant (streaming d 0) (dTarget d) = 0
       ∧ sendB (streaming d 0) 4095 (dDev d) (dAddr d + 0x40) 8 = true)
    ∧ ([1, 2].all fun g => let d := descOf 0x01 8 7 (portAddr 0) []
        let last := decide (2 ≤ g)
        let n := if last then 7 else min (min 64 (4 * g)) (7 / 4 * 4)
        runDesc (streaming d g) 4095 5 0x01 == some d && getGrant (streaming d g) (dTarget d) == g && dRecEnd d && dLen d == 7
          && sendB (streaming d g) 4095 (dDev d) (dAddr d + (if last then 0x80 else 0)) n) = true
    ∧ (let d := descOf 0x02 0 68 (portAddr 0) []
       runDesc (working d) 4095 5 0x02 = some d ∧ d.busy = 0 ∧ popOut (working d) (dDev d) (dAddr d) = false
         ∧ sendB (working d) 4095 (dDev d) (dAddr d) (min 64 ((dLen d - d.done) / 4 * 4)) = true)
    ∧ ([Owner.desc 0 9 0, .notify 3].all fun o => let d := descOf 0x02 0 68 (portAddr 0) []
       let s := setLand (working d) (ringPort 0) 7 (some { req := { reqFlit 0 (portAddr 0) 16 with dev := dDev d }, wdata := [], owner := o })
       runDesc s 4095 5 0x02 == some d && popOut s (dDev d) (dAddr d)) = true := by decide +kernel

theorem test_loadContextHyp :
    (let d := descOf 0x05 0 0 (30 * 2 ^ 32) [0, 2]
     runDesc (working d) 4095 5 0x05 = some d ∧ dField d 25 1 = 2 ∧ d.stage = 0)
    ∧ (let d := descOf 0x05 0 32 (30 * 2 ^ 32) [15, 0]
       let s := wr (working d) (A.ACC_W1 0 31) F.ACC_W1_PERM 0
       runDesc s 4095 5 0x05 = some d ∧ (loadRefusal s 4095 d).isSome = true)
    ∧ (let d := descOf 0x05 0 32 (30 * 2 ^ 32) [15, 0]
       runDesc (working d) 4095 5 0x05 = some d ∧ dField d 25 1 = 0 ∧ dPl d = 30 ∧ cmdDev (dCmd (working d) 4095 d) = devId (working d)
         ∧ loadRefusal (working d) 4095 d = none ∧ linkUp (working d) = true
         ∧ d.next = 0 ∧ d.done = 0 ∧ d.busy = 0 ∧ d.fail = none ∧ lentTile (working d) (loadMember (working d) 4095 d 0).2 = false
         ∧ (let s := wr (working d) (A.PWR_STATUS 0) F.PWR_STATUS_STATE 1
            tileField (loadMember s 4095 d 0).2 = 0 ∧ pwrState s 0 = 1 ∧ loadRefusal s 4095 d = none
              ∧ frameWriteStatus s (loadMember s 4095 d 0).2 (dField d 24 1) (frameOf (List.replicate 32 0)) = .ok)
         ∧ frameWriteStatus (working d) (loadMember (working d) 4095 d 0).2 (dField d 24 1) (frameOf (List.replicate 32 0)) = .ok
         ∧ frameWriteStatus (working d) (loadMember (working d) 4095 d 0).2 (dField d 24 1) (frameOf (List.replicate 32 0x33)) ≠ .ok) := by
  decide +kernel

theorem test_treeDescHyp : ([0x06, 0x07].all fun op => let d := descOf op 0 0 (22 * 2 ^ 32) []
      runDesc (working d) 4095 5 op == some d && d.stage == 0) = true
    ∧ ([mirrorWord 0 0, setFld (mirrorWord 0 0) F.MIRROR_CFG_HOLD_PL 15].all fun v =>
        let d := descOf 0x08 0 0 0 ([255] ++ List.replicate 7 0 ++ bytesLE 8 v.toNat)
        runDesc (working d) 4095 5 0x08 == some d && dField d 24 1 == 255 && BitVec.ofNat 64 (dField d 32 8) == v
          && dDev d == devId (working d) && getFld v F.MIRROR_CFG_EN == 1) = true
    ∧ (let d := descOf 0x08 0 0 0 ([255] ++ List.replicate 7 0 ++ bytesLE 8 (mirrorWord 0 0).toNat)
       decideAccess (working d) (ringKey (working d) 4095 false) false (mirrorNeeds (working d) 255 (mirrorWord 0 0)) = .grant)
    ∧ (let d := descOf 0x08 0 0 0 ([255] ++ List.replicate 7 0 ++ bytesLE 8 (mirrorWord 0 0).toNat)
       let s := wr (working d) (A.ACC_W1 0 31) F.ACC_W1_PERM 0
       runDesc s 4095 5 0x08 = some d ∧ decideAccess s (ringKey s 4095 false) false (mirrorNeeds s 255 (mirrorWord 0 0)) ≠ .grant)
    ∧ ([(0x09, 8), (0x0A, 16)].all fun x => let d := descOf x.1 0 0 0x80000000 []
        runDesc (working d) 4095 5 x.1 == some d && d.busy == 0 && sendB (working d) 4095 (dDev d) (dAddr d) x.2) = true := by
  decide +kernel

theorem test_eventHyp : ([0, 1, 3, 5].all fun k => let d := descOf 0x0B 0 0 (portAddr 0) [1, 0, 0, 0] k
      runDesc (working d) 4095 5 0x0B == some d && decide (waitCount (working d) < 256) && dField d 24 4 == 1
        && sendB (working d) 4095 (dDev d) (qStateAddr (dAddr d) + 8) 8) = true
    ∧ (let d := descOf 0x0B 0 0 (portAddr 0) [1, 0, 0, 0] 7
       let s := { working d with levelEvents := [(3, 0, 9)] }
       s.levelEvents.find? (fun e => e.1 == 3 && e.2.1 == 0) = some (3, 0, 9) ∧ d ∈ (getRing s 4095).descs
         ∧ (∀ x ∈ (getRing s 4095).descs, x.id = d.id → x = d) ∧ isWait d = true ∧ d.started = true ∧ d.finished = false
         ∧ dTarget d = (devId s).toNat * 2 ^ 48 + 0x40000000 + 4096 * 3 + 0xC00 + 0x100 * 0) := by decide +kernel

theorem test_notifyHyp : let d := descOf 0x0C 0 0 (portAddr 0) [0]
    let u := descOf 0x0C 0 0 (portAddr 0) [1]
    let b : Bind := { dev := 0, addr := portAddr 0, ring := 4095 }
    runDesc (working d) 4095 5 0x0C = some d ∧ dField d 24 1 ≠ 1 ∧ findBind (working d) d = none
      ∧ (List.range 256).find? (fun b => (smGet none (working d).host.binds b).isNone) = some 0
      ∧ findBind (setBind (working d) 255 (some b)) d = some 255 ∧ dField u 24 1 = 1
      ∧ findBind (setBind (working u) 255 (some b)) u = some 255
      ∧ (let s := setBind (working d) 255 (some b)
         smGet none s.host.binds 255 = some b ∧ queuePending s b.dev b.addr = false ∧ popOut s b.dev b.addr = false ∧ b.busy = false ∧ b.words = [] ∧ ringState s b.ring = 1
           ∧ ((getRing s b.ring).cqProd - (getRing s b.ring).cqCons).toNat + (getRing s b.ring).out.length < 2 ^ cqLog s b.ring
           ∧ sendB s b.ring b.dev b.addr 16 = true) := by decide +kernel

/-! ### Host interface and set-up space -/

/-- Map `v` with this base and count, enabled. -/
def mapWord (base count : Nat) : Reg :=
  [(F.HIF_FUNC_MAP_EN, 1), (F.HIF_FUNC_MAP_RING_BASE, base), (F.HIF_FUNC_MAP_COUNT, count)].foldl (fun v x => setFld v x.1 x.2) 0

theorem test_mapHyp : awake run = true ∧ mapsOverlap (setR run (A.HIF_FUNC_MAP 63) (mapWord 0 64)) 63 = false ∧ (ringsOn run).all (fun _ => false) = true
    ∧ mapsOverlap (setR (setR (wr run A.HIF_STATUS F.HIF_STATUS_VFS 64) (A.HIF_FUNC_MAP 0) (mapWord 63 1)) (A.HIF_FUNC_MAP 63) (mapWord 0 64)) 63 = true := by
  decide +kernel

/-- Window 15 of 2^12 bytes at host address 0, enabled, with the PCIe link as given. -/
def windowAt (link : Nat) : State :=
  wr (wr (wr run A.HIF_STATUS F.HIF_STATUS_LINK_UP link) (A.WIN_CTL 15) F.WIN_CTL_SIZE_LOG2 12) (A.WIN_CTL 15) F.WIN_CTL_EN 1
/-- A value of WIN_CTL. -/
def winWord (en n fn : Nat) : Reg := [(F.WIN_CTL_EN, en), (F.WIN_CTL_SIZE_LOG2, n), (F.WIN_CTL_FUNC, fn)].foldl (fun v x => setFld v x.1 x.2) 0
/-- The device-local address of offset `o` of window 15. -/
def windowBase (o : Nat) : Nat := 0x800000000000 + 15 * 2 ^ 43 + o

theorem test_windowHyp : ([12, 43].all fun n => getFld (winWord 1 n 0) F.WIN_CTL_EN == 1 && getFld (winWord 1 n 0) F.WIN_CTL_SIZE_LOG2 == n
      && decide (rd run (A.WIN_BASE 15) F.WIN_BASE_ADDR * 4096 % 2 ^ n = 0) && decide (getFld (winWord 1 n 0) F.WIN_CTL_FUNC ≤ vfCount run)) = true
    ∧ getFld (winWord 1 11 0) F.WIN_CTL_SIZE_LOG2 < 12 ∧ 43 < getFld (winWord 1 44 0) F.WIN_CTL_SIZE_LOG2
    ∧ vfCount run < getFld (winWord 1 12 1) F.WIN_CTL_FUNC
    ∧ ([(4088, none), (4088, some (List.replicate 8 (1 : Byte))), (4096, none)].all fun x => [0, 1].all fun l =>
        let s := asking (windowAt l) (windowBase x.1) 8 x.2
        getIn s 0 31 == some (entry s) && windowOf (entry s).req.addr.toNat == some (15, x.1)
          && (entry s).checked && !(entry s).held && linkUp s == (l == 1) && awake s
          && (!reqWrite (entry s).req || ((entry s).wdata == some (List.replicate 8 (1 : Byte)) && reqLen (entry s).req == 8))
          && !olderWrite s 15 (entry s) && decide (64 ≤ s.host.pcie.mps ∧ 64 ≤ s.host.pcie.mrrs)
          && decide ((s.host.reads.filter (fun x => x.2.isSome)).length < 1024)) = true
    ∧ windowAdmits (windowAt 1) 15 4088 8 ∧ ¬ windowAdmits (windowAt 1) 15 4096 8 := by
  unfold windowAdmits windowAddr; decide +kernel

theorem test_hostReadHyp : let s := asking (windowAt 1) (windowBase 0) 8 none
    let t := { s with host := { s.host with reads := [(9, some ⟨0, 31, 15, 0⟩)], nextRead := 10 } }
    smGet none t.host.reads 9 = some ⟨0, 31, 15, 0⟩ ∧ getIn t 0 31 = some (entry t) := by decide +kernel

theorem test_functionHyp : (63 : Nat) < vfCount (wr run A.HIF_STATUS F.HIF_STATUS_VFS 64) ∧ linkUp (windowAt 1) = true
    ∧ [1, 2, 4, 8, 16].contains 16 = true ∧ run.host.perst = false ∧ run.defaultsDue = false
    ∧ run.asleep = false
    ∧ (let s := ringAt 1 { poll := 0 }
       s.asleep = false ∧ linkUp s = true)
    ∧ (let s := ringAt 1 { poll := 0 }
       4095 ∈ ringsOn s ∧ ringFn s 4095 = 0) ∧ (run.defaults.hostRegs.map Prod.fst).Nodup := by decide +kernel

/-- The warden's key on this device while the link is up. -/
def warden : Key := ⟨0, 0x203F⟩
/-- A checked request of master 5 that its queue holds. -/
def heldAsk : State :=
  setIn (windowAt 1) 0 31 (some { req := { reqFlit 0 (65536 * 3) 8 with mst := 5, tabled := true }, wdata := none, checked := true, held := true })

theorem test_sealHyp : isWarden (windowAt 1) warden = true ∧ isWarden run warden = false
    ∧ getFld 0 F.ACC_SEAL_ABORT_HELD = 0 ∧ getFld (setFld 0 F.ACC_SEAL_ABORT_HELD 1) F.ACC_SEAL_ABORT_HELD = 1
    ∧ awake heldAsk = true ∧ isWarden heldAsk warden = true
    ∧ (getIn heldAsk 0 31).isSome = true ∧ ((getIn heldAsk 0 31).any fun g => g.req.tabled && requestHeld heldAsk g) = true
    ∧ outstanding run = 0
    ∧ (let s := setIn (wr run A.ACC_CTL F.ACC_CTL_SEAL_WAIT 1) 0 31 (some { req := { reqFlit 0 (65536 * 3) 8 with sealed := true }, wdata := none, checked := true })
       outstanding s ≠ 0 ∧ rd s A.ACC_CTL F.ACC_CTL_SEAL_WAIT ≠ 0 ∧ sealReaders s = [])
    ∧ (let s := asking (wr run A.ACC_CTL F.ACC_CTL_SEAL_WAIT 1) (0x80000000 + A.ACC_SEAL) 8 none
       let s := setIn s 0 30 (some { req := { reqFlit 0 (65536 * 3) 8 with sealed := true }, wdata := none, checked := true })
       getIn s 0 31 = some (entry s) ∧ placeOf s (entry s).req.addr.toNat = .setup A.ACC_SEAL ∧ A.ACC_SEAL / 8 * 8 = A.ACC_SEAL
         ∧ reqWrite (entry s).req = false ∧ outstanding s ≠ 0 ∧ sealReaders s = [(0, 31, A.ACC_SEAL, 8)]
         ∧ getIn (opAccSealRead true s) 0 31 = none ∧ getIn (opAccSealRead false s) 0 31 = getIn s 0 31) := by decide +kernel

theorem test_setUpHyp : (regFields 0x72FFF8) = none ∧ 0x72FFF8 % 8 = 0
    ∧ (let s := asking run (0x80000000 + A.HIF_CTL) 8 none
       getIn s 0 31 = some (entry s) ∧ placeOf s (entry s).req.addr.toNat = .setup A.HIF_CTL ∧ (entry s).checked = true
         ∧ reqWrite (entry s).req = false ∧ reqLen (entry s).req = 8)
    ∧ (let s := windowAt 1
       let a := ((getR s A.PEEK_BASE).toNat + 0xFFFFF8) % 2 ^ 64
       0xFFFFF8 % 8 = 0 ∧ 0xFFFFF8 < 0x1000000 ∧ linkUp s = true ∧ sendB s 0 (BitVec.ofNat 16 (a / 2 ^ 48)) (a % 2 ^ 48) 8 = true ∧ s.host.peekWait = [])
    ∧ (let s := setR (windowAt 1) A.PEEK_BASE (BitVec.ofNat 64 (2 ^ 48))
       let a := ((getR s A.PEEK_BASE).toNat + 4) % 2 ^ 64
       (match targetOf s (BitVec.ofNat 16 (a / 2 ^ 48)) (a % 2 ^ 48) with | .fail _ => true | _ => false) = true)
    ∧ ([(0, 4), (4, 8), (0, 2)].all fun x => (match regAccess (A.HIF_CTL + x.1) x.2 with | .ok _ => true | .error _ => false) == (x.2 == 4)) = true
    ∧ A.HIF_CTL % 8 = 0 ∧ A.HIF_CTL < 0x730000
    ∧ awake (windowAt 1) = true ∧ isWarden (windowAt 1) warden = true ∧ State.reset.defaultsDue = true ∧ (0xFFFFF9 % 4 ≠ 0)
    ∧ regFields A.LOG_STATUS = some L.LOG_STATUS
    ∧ smbusReads 0x20000 = false ∧ (∀ k : Fin 4, A.REC_RESPONSE k < 2 ^ 32) ∧ A.REC_CTL ≠ 0 ∧ A.REC_CLEAR ≠ 0
    ∧ getFld (setFld 0 F.NVI_SLOT_SEL_SELECT 2) F.NVI_SLOT_SEL_SELECT ≠ 3 ∧ getFld (setFld 0 F.NVI_SLOT_SEL_SELECT 3) F.NVI_SLOT_SEL_SELECT = 3 := by
  decide +kernel

/-- All 256 landing slots of port 0 are taken. -/
def fullPort : State :=
  setEp (windowAt 1) (ringPort 0) { getEp (windowAt 1) (ringPort 0) with
    landing := (List.range 256).map fun k => (k, some { req := reqFlit 0 0 8, wdata := [], owner := .peek }) }
theorem test_peekWaitHyp : let a := ((getR fullPort A.PEEK_BASE).toNat + 0xFFFFF8) % 2 ^ 64
    freeTag fullPort (ringPort 0) 0 256 = none ∧ linkUp fullPort = true ∧ awake fullPort = true ∧ fullPort.host.peekWait = []
      ∧ (match targetOf fullPort (BitVec.ofNat 16 (a / 2 ^ 48)) (a % 2 ^ 48) with | .fail _ => false | _ => true) = true := by decide +kernel

/-- TablesGuarded: a request of master 5 waits in an ingress and asks to write an entry of table 89. -/
theorem test_guardHyp : let s := setIn run 0 31 (some { req := { reqFlit 1 (0x80000000 + A.ACC_W0 89 31) 8 with mst := 5 }, wdata := some [1, 2, 3, 4, 5, 6, 7, 8], checked := true })
    (getIn s 0 31).any (fun g => !isWarden s (reqKey g.req)) = true := by decide +kernel

/-! ### Log, recorder, NV store, resets -/

/-- A latch of source 255's neighbour with this repeat count. -/
def latched (n : Nat) : State := { run with log := { run.log with latches := [(204, some ⟨5, 0, 0x911, [1], n⟩)] } }
/-- The log with this WR_INDEX, RD_INDEX 0 and MODE. -/
def logWith (w m : Nat) : State := wr (wr (latched 0) A.LOG_STATUS F.LOG_STATUS_WR_INDEX w) A.LOG_CTL F.LOG_CTL_MODE m

theorem test_logHyp : reportExists ⟨204, 0, 0x911, List.replicate 14 1⟩ = true ∧ latchOf run 204 = none
    ∧ ([0, 0xFFFE, 0xFFFF].all fun n => latchOf (latched n) 204 == some ⟨5, 0, 0x911, [1], n⟩) = true
    ∧ ([(0, 0), (1023, 1), (1024, 0), (1024, 1)].all fun x => logNext (logWith x.1 x.2) == some (204, ⟨5, 0, 0x911, [1], 0⟩)
        && logUnread (logWith x.1 x.2) == x.1 && rd (logWith x.1 x.2) A.LOG_CTL F.LOG_CTL_MODE == x.2) = true
    ∧ logNext run = none := by decide +kernel

/-- No latch of the running device holds anything. -/
theorem test_logEmptyHyp : ∀ src : Nat, src < 256 → latchOf run src = none := fun _ _ => rfl

/-- A value with this field set to 1. -/
def bitSet (f : Fld) : Reg := setFld 0 f 1

theorem test_recordHyp : (let w := setFld 0 F.LOG_CTL_RD_INDEX 1
      getFld w F.LOG_CTL_CLEAR = 0 ∧ (logWr run + 2048 - getFld w F.LOG_CTL_RD_INDEX) % 2048 > 1024)
    ∧ getFld (bitSet F.LOG_CTL_CLEAR) F.LOG_CTL_CLEAR = 1 ∧ rd run A.REC_CTL F.REC_CTL_EN = 1
    ∧ rd (wr run A.REC_CTL F.REC_CTL_EN 0) A.REC_CTL F.REC_CTL_EN = 0
    ∧ hottestOf (quarterTemps run 3) = some 0
    ∧ getFld (bitSet F.REC_CTL_COMMIT) F.REC_CTL_COMMIT = 1 ∧ getFld (bitSet F.REC_CTL_NEW_CHALLENGE) F.REC_CTL_NEW_CHALLENGE = 1
    ∧ rd run A.REC_STATUS F.REC_STATUS_LOCKOUT = 0
    ∧ rd (wr run A.REC_STATUS F.REC_STATUS_LOCKOUT 1) A.REC_STATUS F.REC_STATUS_LOCKOUT = 1
    ∧ getFld 0 F.REC_CLEAR_GO = 0 ∧ getFld (bitSet F.REC_CLEAR_GO) F.REC_CLEAR_GO = 1
    ∧ run.recorder.last < 2 ∧ awake run = true := by decide +kernel

theorem test_powerHyp : (∀ f : Nat, f < 64 → pwrState run f ≤ 8) := by decide +kernel

/-- A sensor of field 63 that works and one that has failed, and rail 8 above, at and below its limit. -/
theorem test_sampleHyp : sensorFailed run 63 3 = false ∧ sensorFailed (setR run (A.PWR_TEMP 63) 0x8000000000000000) 63 3 = true
    ∧ ([0, 2000].all fun mv => decide (10000 * (BitVec.ofNat 16 mv).toNat < 95 * railMin run 8) == (mv == 0)) = true
    ∧ run.railLow = [] ∧ { run with railLow := [8] }.railLow ≠ [] := by
  decide +kernel

/-- A nonce is out, key slot 0 of kind 2 is provisioned, and the clearer wrote `r`. -/
def clearing (r : List Byte) : State :=
  { run with nv := { run.nv with provisioned := [8] }
             recorder := { run.recorder with nonce := true, response := [0, 1, 2, 3].map fun k => (k, BitVec.ofNat 64 (leAt r (8 * k) 8)) } }

/-- A right answer and a wrong one to a challenge of the recorder. -/
theorem test_clearHyp : clearResult run = 2 ∧ clearResult { run with recorder := { run.recorder with nonce := true } } = 4
    ∧ clearResult (clearing []) = 3 ∧ clearResult (clearing (ownResponse (clearing []))) = 1 := by decide +kernel

/-- The NV window shows this section. -/
def nvAt (k : Nat) : State := wr run A.NVI_CTL F.NVI_CTL_WINDOW k

theorem test_nvHyp : run.nv.writing = none ∧ run.nv.waiting = [] ∧ run.railLow = []
    ∧ (opNvWindowWrite 8 8 7 true (nvAt 1)).nv.writing = some (nvOffset (nvAt 1) 8) ∧ nvOffset (nvAt 1) 8 < 0x020000
    ∧ rd run A.NVI_STATUS F.NVI_STATUS_BUSY = 0 ∧ rd (wr run A.NVI_STATUS F.NVI_STATUS_BUSY 1) A.NVI_STATUS F.NVI_STATUS_BUSY = 1
    ∧ awake (nvAt 2) = true ∧ 65528 < 65536 ∧ 65528 % 8 = 0 ∧ nvHidden (nvOffset (nvAt 2) 65528) = true ∧ nvHidden (nvOffset (nvAt 1) 65528) = false
    ∧ nvHidden (nvOffset (nvAt 6) 4088) = true ∧ nvHidden (nvOffset (nvAt 6) 4096) = false := by decide +kernel

/-- A write that waits, and the store after NV_WRITE_DONE has begun it (R539). -/
theorem test_nvWaits :
    let s := opNvWindowWrite 8 8 7 true (wr (nvAt 1) A.NVI_STATUS F.NVI_STATUS_BUSY 1)
    s.nv.waiting = [(65544, 8, 7, true)] ∧ nvRead s 65544 1 = [0xFF]
      ∧ nvHidden 65544 = false ∧ nvRead (opNvWriteDone s) 65544 8 = bytesLE 8 7 ∧ rd (opNvWriteDone s) A.NVI_STATUS F.NVI_STATUS_BUSY = 1
      ∧ rd (opNvWriteDone (opNvWriteDone s)) A.NVI_STATUS F.NVI_STATUS_BUSY = 0 := by decide +kernel

/-- A value of NVI_KEY_CTL. -/
def keyWord (kind slot read : Nat) : Reg :=
  [(F.NVI_KEY_CTL_GO, 1), (F.NVI_KEY_CTL_KIND, kind), (F.NVI_KEY_CTL_SLOT, slot), (F.NVI_KEY_CTL_READ, read)].foldl (fun v x => setFld v x.1 x.2) 0

theorem test_keyHyp : getFld (keyWord 2 1 0) F.NVI_KEY_CTL_GO = 1
    ∧ keySlotOk (keyKind (keyWord 2 1 0)) (keySlot (keyWord 2 1 0)) = false
    ∧ ([(1, 3, 1), (0, 3, 1), (2, 0, 0)].all fun x => let w := keyWord x.1 x.2.1 x.2.2
        getFld w F.NVI_KEY_CTL_GO == 1 && keyKind w == x.1 && keySlot w == x.2.1 && getFld w F.NVI_KEY_CTL_READ == x.2.2
          && keySlotOk x.1 x.2.1 && !keyThere run x.1 x.2.1
          && keyThere { run with nv := { run.nv with provisioned := [4 * x.1 + x.2.1] } } x.1 x.2.1) = true := by decide +kernel

/-- A good image of a defaults slot: one section of a type that R542 does not list, and END. -/
def goodSlot : List Byte :=
  bytesLE 8 (0x445A4C43 + 2 ^ 32 + 0x200 * 2 ^ 48) ++ bytesLE 8 0 ++ bytesLE 8 16 ++ bytesLE 2 0x1640 ++ bytesLE 6 0
    ++ bytesLE 4 (crc32c (bytesLE 16 5)) ++ bytesLE 476 0 ++ bytesLE 16 5
/-- Slot `k` holds a good image, the other nothing; the selector is `sel`, and the defaults are due. -/
def slots (k sel : Nat) : State :=
  nvWrite (nvWrite { run with defaultsDue := true } 0x020FF8 (bytesLE 8 sel)) (65536 * k) goodSlot

theorem test_defaultsHyp : { run with defaultsDue := false }.defaultsDue = false ∧ nvSelector (nvWrite run 0x020FF8 (bytesLE 8 2)) = 2
    ∧ ([0, 1].all fun k => let s := nvWrite { run with defaultsDue := true } 0x020FF8 (bytesLE 8 k)
      s.defaultsDue && nvSelector s == k && slotCheck s 0 != 0 && slotCheck s 1 != 0) = true := by decide +kernel

theorem goodSlot_length : goodSlot.length = 528 := by decide +kernel

theorem test_slotsHyp (k sel : Nat) (hk : k < 2) (hs : sel < 2) : (slots k sel).defaultsDue = true ∧ nvSelector (slots k sel) = sel
    ∧ slotCheck (slots k sel) (1 - k) ≠ 0 := by
  have len := goodSlot_length
  have b : ∀ sel < 2, nvSelector (nvWrite { run with defaultsDue := true } 0x020FF8 (bytesLE 8 sel)) = sel := by decide +kernel
  have c : ∀ sel < 2, ∀ j < 2, leAt (slotBytes (nvWrite { run with defaultsDue := true } 0x020FF8 (bytesLE 8 sel)) j 0 512) 0 4 = 0xFFFFFFFF := by
    decide +kernel
  have o : slotBytes (slots k sel) (1 - k) 0 512 = slotBytes (nvWrite { run with defaultsDue := true } 0x020FF8 (bytesLE 8 sel)) (1 - k) 0 512 :=
    nvRead_nvWrite_out _ _ _ _ _ (by omega)
  refine ⟨rfl, ?_, ?_⟩
  · have := b sel hs
    unfold nvSelector at this ⊢
    rwa [slots, nvRead_nvWrite_out _ _ _ _ _ (by omega)]
  · unfold slotCheck
    rw [o]
    simp [c sel hs (1 - k) (by omega)]

/-- The image of a defaults slot passes its checks in either slot (spec 14 R541, R542). -/
theorem test_goodSlot (k sel : Nat) : slotCheck (slots k sel) k = 0 := by
  have len := goodSlot_length
  have h : slotBytes (slots k sel) k 0 512 = goodSlot.take 512 := by
    have := nvRead_nvWrite (nvWrite { run with defaultsDue := true } 0x020FF8 (bytesLE 8 sel)) (65536 * k) 0 512 goodSlot (by omega)
    simpa [slotBytes, slots, Nat.mul_comm] using this
  have b : slotBytes (slots k sel) k 512 16 = goodSlot.drop 512 := by
    have := nvRead_nvWrite (nvWrite { run with defaultsDue := true } 0x020FF8 (bytesLE 8 sel)) (65536 * k) 512 16 goodSlot (by omega)
    rw [List.take_of_length_le (by simp [len])] at this
    simpa [slotBytes, slots, Nat.mul_comm] using this
  have e : hLen (goodSlot.take 512) = 16 := by decide +kernel
  have r : rd (slots k sel) A.ID_REVISION F.ID_REVISION_REV = rd run A.ID_REVISION F.ID_REVISION_REV := rfl
  have f : hSigned (goodSlot.take 512) = false := by decide +kernel
  have q : ∀ j : Nat, keyThere (slots k sel) 1 j = false := fun _ => rfl
  have z : (leAt (goodSlot.take 512) 0 4 == 0x445A4C43 && leAt (goodSlot.take 512) 4 2 == 1 && leAt (goodSlot.take 512) 6 2 == 0x200
      && leAt (goodSlot.take 512) 24 2 == 0x1640) = true := by decide +kernel
  have z2 : ((leAt (goodSlot.take 512) 8 4 == 0 || leAt (goodSlot.take 512) 8 4 == 2) && zeroAt (goodSlot.take 512) 12 4
      && zeroAt (goodSlot.take 512) 36 12 && zeroAt (goodSlot.take 512) 192 224
      && (false || (zeroAt (goodSlot.take 512) 48 144 && zeroAt (goodSlot.take 512) 416 96))) = true := by decide +kernel
  have z3 : ¬ rd run A.ID_REVISION F.ID_REVISION_REV < leAt (goodSlot.take 512) 26 2
      ∧ crc32c (goodSlot.drop 512) = leAt (goodSlot.take 512) 32 4 ∧ (sections 8128 (goodSlot.drop 512)).isNone = false := by decide +kernel
  unfold slotCheck
  simp only [h, e, b, f, z, z2, r, q, signCause]
  simp [z3]

theorem test_resetHyp : run.resetDue = false
    ∧ (let s := { wr (ringAt 1 { poll := 0 }) A.HIF_STATUS F.HIF_STATUS_ANCHOR 1 with resetDue := true }
       s.resetDue = true ∧ isAnchor s = true ∧ 4095 ∈ ringsOn s) := by
  decide +kernel

/-! ### Images and loads -/

/-- An image header with these flags, region and body length. -/
def hdrWith (flags region len : Nat) : List Byte :=
  bytesLE 8 0 ++ bytesLE 4 flags ++ bytesLE 4 (region * 256) ++ bytesLE 8 len ++ List.replicate 488 0
/-- A load that runs its body. -/
def loading (h : List Byte) : State := { run with load := { active := true, source := 1, hdr := h, body := true } }
def loadWith (h : List Byte) (f : LoadSt → LoadSt) : State := setLoad (loading h) f
/-- The running body, not encrypted, takes `raw` next; its source is no tile space. -/
def takes (s : State) (raw : List Byte) : Bool :=
  bodyRuns s && !hEnc s.load.hdr && decide (raw.length ≤ bodyLeft s) && srcRoom s raw.length
    && (tileSource s (512 + s.load.stored.length)).isNone

theorem gives_of_takes {s : State} {raw : List Byte} (h : takes s raw = true) : givesNext s raw raw := by
  simp only [takes, Bool.and_eq_true, decide_eq_true_eq, Bool.not_eq_eq_eq_not, Bool.not_true] at h
  obtain ⟨⟨⟨⟨a, b⟩, c⟩, d⟩, e⟩ := h
  simp [givesNext, sourceGives, a, b, c, d, Option.isNone_iff_eq_none.mp e]

/-- Full and partial, not encrypted, a body of 80 bytes. -/
def fullHdr : List Byte := hdrWith 0 0xFF 80
def partHdr : List Byte := hdrWith 4 0 80

theorem test_bodyHyp : bodyRuns run = false
    ∧ (let s := loadWith (hdrWith 0 0xFF 24) fun l => { l with stored := List.replicate 16 0 }
       bodyRuns s = true ∧ hEnc s.load.hdr = false ∧ bodyLeft s < 16 ∧ (List.replicate 8 (0 : Byte)).length = bodyLeft s
         ∧ srcRoom s 8 = true ∧ tileSource s (512 + s.load.stored.length) = none ∧ tileSource s 0 = none)
    ∧ (takes (loading fullHdr) (cmdBytes 7 0 0 0) = true ∧ imageOps.contains (leAt (cmdBytes 7 0 0 0) 0 1) = false)
    ∧ takes (loading fullHdr) (cmdBytes 0 0 0 0) = true
    ∧ ([63, 0x7F].all fun f => takes (loading fullHdr) (cmdBytes 2 0 (BitVec.ofNat 32 f) 0)) = true
    ∧ (takes (loading partHdr) (cmdBytes 2 0 0 0) && hPartial partHdr && hRegion partHdr == 0 && takes (loading partHdr) (cmdBytes 2 0 1 0)) = true
    ∧ takes (loading fullHdr) (cmdBytes 3 0 0 0) = true
    ∧ (let s := wr (loading fullHdr) A.CFG_CHAIN_CTL F.CFG_CHAIN_CTL_MODE 1
       takes s (cmdBytes 4 0 1 0 ++ [9]) = true ∧ hPartial s.load.hdr = false ∧ rd s A.CFG_CHAIN_CTL F.CFG_CHAIN_CTL_MODE = 1)
    ∧ (takes (loading fullHdr) (cmdBytes 4 0 1 0 ++ [9]) = true ∧ rd (loading fullHdr) A.CFG_CHAIN_CTL F.CFG_CHAIN_CTL_MODE ≠ 1)
    ∧ ([0xE4, 0xFF, 0x100].all fun w => takes (loading fullHdr) (cmdBytes 5 0 (BitVec.ofNat 32 w) 0)) = true
    ∧ orderOk 0xE4 = true ∧ orderOk 0xFF = false ∧ (loading fullHdr).load.order = none
    ∧ ([0, 1].all fun x => takes (loading fullHdr) (cmdBytes 6 0 (BitVec.ofNat 32 x) 0)) = true ∧ crc32c [] = 0 := by decide +kernel

/-- Two frames for slot `slot` of tiles 0 and 1; a frame whose FMT is 0 is one that invalidates. -/
def twoFrames (slot : Nat) (p : List Byte) : List Byte := cmdBytes 1 0 2 slot ++ p
/-- An invalid frame, and a static frame with the CRC of tile 0's factory one. -/
def noFrames : List Byte := List.replicate 64 0
def factoryBytes : List Byte := frameBytes (factoryStatic .a) ++ frameBytes (factoryStatic .a)

theorem test_framesHyp : takes (loading fullHdr) (twoFrames 5 noFrames) = true ∧ takes (loading fullHdr) (cmdBytes 1 1 2 5 ++ List.replicate 32 0) = true
    ∧ ([0, 1].all fun i => frameCheck i 5 (frameAt false noFrames i) == .ok && frameCheck i 5 (frameAt true noFrames i) == .ok
        && frameCheck i 16 (frameAt false factoryBytes i) == .ok) = true
    ∧ takes (loading partHdr) (twoFrames 16 factoryBytes) = true ∧ takes (loading partHdr) (twoFrames 5 noFrames) = true
    ∧ pwrState (loading partHdr) (hRegion partHdr) ≠ 6 ∧ (getT (loading partHdr) 0).cur.val ≠ 5 ∧ (getT (loading partHdr) 1).cur.val ≠ 5
    ∧ tileField 0 = 0 ∧ tileField 1 = 0 ∧ takes (loadWith fullHdr fun l => { l with region := some 1 }) (twoFrames 5 noFrames) = true
    ∧ takes (loading fullHdr) (twoFrames 16 noFrames) = true ∧ frameCheck 0 16 (frameAt false noFrames 0) ≠ .ok
    ∧ takes (loading partHdr) (twoFrames 0 noFrames) = true ∧ frameCheck 0 0 (frameAt false noFrames 0) = .ok
    ∧ (getT (loading partHdr) 0).cur.val = 0
    ∧ lentTile (loading fullHdr) 0 = false ∧ lentTile (loading partHdr) 1 = false ∧ (userTile (loading partHdr) 0).cur.val = 0 := by decide +kernel

theorem test_regionHyp : inRegion (loading fullHdr) 0 ∧ ¬ inRegion (loadWith fullHdr fun l => { l with region := some 1 }) 0 := by
  refine ⟨by simp [inRegion, loading], fun h => absurd (h 1 rfl) (by decide)⟩

/-- ROLL at the end of a decrypted segment. -/
theorem test_rollHyp : let s := loadWith (hdrWith 1 0xFF 80) fun l => { l with plain := cmdBytes 3 0 0 0 }
    givesNext s [] (cmdBytes 3 0 0 0) ∧ hEnc s.load.hdr = true ∧ s.load.plain = cmdBytes 3 0 0 0 := by
  have h : let s := loadWith (hdrWith 1 0xFF 80) fun l => { l with plain := cmdBytes 3 0 0 0 }
      bodyRuns s = true ∧ hEnc s.load.hdr = true := by decide +kernel
  refine ⟨⟨h.1, ?_⟩, h.2, rfl⟩
  rw [if_pos h.2]
  exact ⟨[], rfl⟩

/-- CHAIN_PASS of 32 bytes, of which 16 are in the segments held, in an encrypted image of a device that passes bytes on. -/
theorem test_chainLongHyp :
    let s := wr (loadWith (hdrWith 1 0xFF 80) fun l => { l with plain := cmdBytes 4 0 32 0 ++ List.replicate 16 9 }) A.CFG_CHAIN_CTL F.CFG_CHAIN_CTL_MODE 1
    bodyRuns s = true ∧ hEnc s.load.hdr = true ∧ (32 : BitVec 32).toNat > 16 ∧ bodyLeft s ≠ 0 ∧ hPartial s.load.hdr = false
      ∧ rd s A.CFG_CHAIN_CTL F.CFG_CHAIN_CTL_MODE = 1 := by decide +kernel

/-- An END of 16 bytes with this CRC, at the end of the body. -/
def endCmd (x : Nat) : List Byte := cmdBytes 15 0 (BitVec.ofNat 32 x) 0
/-- A signed header with the digest of that END. -/
def signedHdr (good : Bool) : List Byte :=
  bytesLE 8 0 ++ bytesLE 4 2 ++ bytesLE 4 0xFF00 ++ bytesLE 8 16 ++ List.replicate 24 0
    ++ (if good then sha384 (endCmd 0) else List.replicate 48 0) ++ List.replicate 416 0

theorem test_endHyp : ([hdrWith 0 0xFF 16, hdrWith 4 0 16, hdrWith 4 0 16, signedHdr false].all fun h =>
      takes (loading h) (endCmd 0) && takes (loading h) (endCmd 1) && bodyLeft (loading h) == 16 && hEnc h == false) = true
    ∧ hSigned (signedHdr false) = true ∧ sha384 (endCmd 0) ≠ hDigest (signedHdr false)
    ∧ (loading (hdrWith 4 0 16)).load.staged = [] ∧ hIsolate (hdrWith 4 0 16) = false
    ∧ isolated (loadWith (hdrWith 4 0 16) fun l => { l with staged := [(0, 1)] }) 0 = false := by decide +kernel

/-- The good digest of a signed image. -/
theorem test_signedHyp : hSigned (signedHdr true) = true ∧ hDigest (signedHdr true) = sha384 (endCmd 0) := by decide +kernel

/-- Segments at their smallest length, one that is too short, one that does not fit. -/
theorem test_imageSegmentHyp : ([(16, 40), (15, 64), (16, 39)].all fun x =>
      let s := loading (hdrWith 1 0xFF x.2)
      let seg := bytesLE 4 x.1 ++ List.replicate (x.1 + 20) 0
      bodyRuns s && hEnc s.load.hdr && decide (8 ≤ bodyLeft s) && zeroAt seg 4 4 && leAt seg 0 4 == x.1 && seg.length == x.1 + 24
        && srcRoom s (x.1 + 24) && !commandHeld s && (tileSource s (512 + s.load.stored.length)).isNone) = true
    ∧ commandHeld (loadWith (hdrWith 1 0xFF 80) fun l => { l with plain := cmdBytes 3 0 0 0 }) = true
    ∧ bodyLeft (loading (hdrWith 1 0xFF 40)) = 16 + 24 ∧ bodyLeft (loading (hdrWith 1 0xFF 39)) < 16 + 24
    ∧ bodyRuns run = false ∧ hEnc (loading fullHdr).load.hdr = false := by decide +kernel

/-- No load runs; what is due. -/
def idle (p g : Bool) : State := { run with load := { primaryDue := p, goldenDue := g } }

theorem test_loadStartHyp : (List.replicate 512 (0 : Byte)).length = 512 ∧ (loading fullHdr).load.active = true
    ∧ ([(idle false false, true), (loading fullHdr, false), (loadWith fullHdr fun l => { l with source := 3, ended := true }, true)].all fun x =>
        chainFree { x.1 with straps := { x.1.straps with bootSel := 2 } } == x.2) = true ∧ (loading fullHdr).load.source ≠ 3
    ∧ (let s := setLoad { run with straps := { run.straps with bootSel := 2 } } fun l => { l with active := true, source := 3, head := List.replicate 1 0 }
       chainFree s = false ∧ s.load.took = false ∧ s.load.fail = none ∧ s.load.hdr = [] ∧ s.load.body = false ∧ s.load.stored = []
         ∧ s.load.head.length + 511 = 512)
    ∧ run.chain.due = none
    ∧ ([(true, fullHdr), (false, fullHdr), (true, partHdr)].all fun x =>
        let s := { loadWith x.2 fun l => { l with ended := x.1 } with chain := { due := some 7 } }
        s.chain.due == some 7 && s.load.active && s.load.ended == x.1 && hPartial s.load.hdr == (x.2 == partHdr) && s.load.fail == none) = true
    ∧ (idle true true).load.active = false ∧ run.straps.bootSel ≠ 2 ∧ { run with straps := { run.straps with bootSel := 2 } }.load.active = false
    ∧ (let s := loadWith fullHdr fun l => { l with resetDue := true }
       s.load.active = true ∧ s.load.resetDue = true ∧ s.load.fail = none) ∧ run.load.active = false
    ∧ (let s := loadWith fullHdr fun l => { l with source := 3 }
       s.load.ended = false ∧ s.load.source = 3)
    ∧ (let s := loadWith partHdr fun l => { l with isoAsked := true }
       s.load.isoAsked = true ∧ isolated s (hRegion s.load.hdr) = false)
    ∧ (let s := wr (loadWith fullHdr fun l => { l with ended := true }) A.CFG_CHAIN_CTL F.CFG_CHAIN_CTL_MODE 2
       s.load.ended = true ∧ hPartial s.load.hdr = false ∧ s.load.starting = false ∧ s.straps.bootSel = 0
         ∧ rd s A.CFG_CHAIN_CTL F.CFG_CHAIN_CTL_MODE = 2)
    ∧ (let s := { loadWith fullHdr fun l => { l with ended := true } with chain := { released := true, out := [] } }
       s.load.active = true ∧ s.load.ended = true ∧ hPartial s.load.hdr = false ∧ s.chain.released = true ∧ s.load.starting = false
         ∧ s.load.fail = none) ∧ run.chain.released = false := by decide +kernel

/-- A failed load of each source, full or partial. -/
theorem test_failureHyp : ([1, 2, 3, 4].all fun src => [fullHdr, partHdr, []].all fun h =>
      let s := loadWith h fun l => { l with source := src, fail := some (255, .aborted), written := [5] }
      s.load.fail == some (255, .aborted) && s.load.source == src && s.load.hdr == h
        && s.load.written.all (fun x => decide (x % 32 < 16) && !lentTile s (x / 32))) = true
    ∧ ([true, false].all fun e => let s := loadWith [] fun l => { l with source := 4, ended := e, fail := some (255, .aborted) }
        s.load.source == 4 && s.load.hdr == [] && s.load.ended == e) = true
    ∧ isFailure .badAddress = true ∧ isFailure .busyRetry = false ∧ tileSource (loading fullHdr) 0 = none ∧ (loading fullHdr).load.ended = false
    ∧ hRegion partHdr < 64 ∧ (loading fullHdr).load.fail = none := by decide +kernel

/-- The start-up waits for step `c`. -/
def stepping (c : Nat) : State := loadWith fullHdr fun l => { l with ended := true, starting := true, steps := [c] }

theorem test_stepHyp : ([0, 1, 2, 3].all fun c => stepDue (stepping c) c) = true ∧ openBurners (stepping 0) ≠ [] ∧ openPlls (stepping 0) ≠ []
    ∧ (let s := (List.range 64).foldl (fun s f => setFS s f { getFS s f with calibrated := true }) (stepping 0)
       stepDue s 0 = true ∧ openBurners s = [] ∧ openPlls (setR s A.CLK_REF_STATUS 0x3F) = []
         ∧ stepDue (setR s A.CLK_REF_STATUS 0x3F) 0 = true ∧ openBurners (setR s A.CLK_REF_STATUS 0x3F) = []) := by decide +kernel

/-- Region 0 is isolated and static frames are staged. -/
theorem test_commitHyp : let s0 := setFS (loadWith partHdr fun l => { l with ended := true, staged := [(0, 1)] }) 0 { engaged := true }
    let s := wr s0 (A.PWR_STATUS 0) F.PWR_STATUS_STATE 4
    s.load.active = true ∧ s.load.ended = true ∧ hPartial s.load.hdr = true ∧ s.load.fail = none
      ∧ isolated s (hRegion s.load.hdr) = true ∧ smWf (fun _ => (0 : Frame)) s.load.staged = true
      ∧ s.load.staged.all (fun x => !lentTile s x.1) = true := by decide +kernel

/-- A value of CFG_CTL with this bit, and a source of this length. -/
theorem test_hostLoadHyp : (let v := setFld 0 F.CFG_CTL_START 1
      getFld v F.CFG_CTL_START = 1 ∧ getFld v F.CFG_CTL_ABORT = 0 ∧ getFld v F.CFG_CTL_RELOAD_FLASH = 0 ∧ getFld v F.CFG_CTL_FORCE_FULL = 0)
    ∧ (let v := setFld 0 F.CFG_CTL_ABORT 1
       getFld v F.CFG_CTL_ABORT = 1 ∧ getFld v F.CFG_CTL_START = 0 ∧ getFld v F.CFG_CTL_RELOAD_FLASH = 0)
    ∧ (let v := setFld 0 F.CFG_CTL_RELOAD_FLASH 1
       getFld v F.CFG_CTL_RELOAD_FLASH = 1 ∧ getFld v F.CFG_CTL_START = 0 ∧ getFld v F.CFG_CTL_ABORT = 0)
    ∧ awaitsHeader (loading fullHdr) = false ∧ loaderBusy (loading fullHdr) = true ∧ loaderBusy (idle false false) = false
    ∧ ((idle true false).load.active = false ∧ (idle true false).load.primaryDue = true ∧ loaderBusy (idle true false) = true)
    ∧ ([511, 512].all fun n => let s := wr (idle false false) A.CFG_SRC_LEN F.CFG_SRC_LEN_LEN n
        srcOk s && rd s A.CFG_SRC_LEN F.CFG_SRC_LEN_LEN == n) = true
    ∧ srcOk (setR run A.CFG_SRC 1) = false ∧ srcAddr run % 2 ^ 48 = 0
    ∧ imageOpen run 0 = true ∧ srcOk (setR { anchor 1 with load := {} } A.CFG_SRC (BitVec.ofNat 64 (windowBase 0))) = true
    ∧ imageOpen (setR { anchor 1 with load := {} } A.CFG_SRC (BitVec.ofNat 64 (windowBase 0))) 0 = false
    ∧ (let s := wr (idle false false) A.CFG_STATUS F.CFG_STATUS_STATE 3
       cfgState s = 3 ∧ hPartial fullHdr = false) := by decide +kernel

/-- The engine clock runs, and the defaults are applied, in the states that the tests build (hypotheses of most statements). -/
theorem test_awakeHyp : ([run, strIn 1, aluImm 2, ringAt 0 {}, ringAt 1 {}, ringAt 2 {}, ringAt 3 {}, working (descOf 0 0 0 0 []), windowAt 1, heldAsk,
      lanesAt 5 3, upAs 0 0, edgeAt 9 0 125, groupAs 1 1 {}, fabric 0, anchor 1, mirrored 0 0 {}, loading fullHdr, loading partHdr, idle true true,
      stepping 3, nvAt 1].all awake) = true := by decide +kernel

/-- The source is the own tile space: the last 512 bytes of the X memory of M-tile `i`, all zero, or those of an A-tile, which has none. -/
def sourceAt (i : Nat) : State := setR (idle false false) A.CFG_SRC (BitVec.ofNat 64 (65536 * i + 0xE00))
theorem test_sourceHyp : ([0, 1, 2, 3].all fun i => let s := sourceAt i
      let a := srcAddr s % 2 ^ 48
      srcOk s && imageOpen s 0 && decide (a < 0x40000000) && spanTiles a 512 == [i] && memRead s a 512 == List.replicate 512 0
        && !([1, 5, 6, 7, 8].contains (pwrState s (tileField i)))
        && (tileReadFault s i (tilePart a 512 i).1 (tilePart a 512 i).2).isSome == (tileKind i == .a)) = true := by
  decide +kernel

/-- The auditor stands before slot `k` of tile `i`, which holds `c`. -/
def auditing (i k : Nat) (c : Frame) (act : Nat) : State :=
  wr { (setT run i { Tile.factory i with slots := if k < 16 ∧ c ≠ 0 then [(k, c)] else [], static := c }) with auditPos := 17 * i + k }
    A.CFG_AUDIT_CTL F.CFG_AUDIT_CTL_ACTION act

theorem test_auditHyp : ([(0, 0), (16383, 15), (16383, 16)].all fun x => [0, 1].all fun a => [frame 1 1 0 0 0 0, withCrc (frame 1 1 0 0 0 0), 0].all fun c =>
      let s := auditing x.1 x.2 c a
      s.auditPos == 17 * x.1 + x.2 && slotFrame (getT s x.1) x.2 == c && rd s A.CFG_AUDIT_CTL F.CFG_AUDIT_CTL_ACTION == a) = true
    ∧ cFmt (frame 1 1 0 0 0 0) ≠ 0 ∧ fb (frame 1 1 0 0 0 0) 15 0 ≠ frameCrc (frame 1 1 0 0 0 0)
    ∧ fb (withCrc (frame 1 1 0 0 0 0)) 15 0 = frameCrc (withCrc (frame 1 1 0 0 0 0)) ∧ cFmt 0 = 0 ∧ run.auditPos = 0 := by decide +kernel

/-! ### The machine as a whole -/

/-- The state after reset satisfies the invariant: the hypothesis of InvKept, with a step that answers. -/
theorem reset_inv : State.reset.Inv := by unfold State.Inv; decide
theorem test_emptyQueueHyp : State.reset.pending = [] ∧ ∃ t, step { State.reset with pending := [.imageNop []] } = .next t := ⟨rfl, _, rfl⟩

/-! ### Commands that are not well-formed -/

theorem test_illFormed : Instr.wellFormed (.flashLoad false true []) = false ∧ Instr.wellFormed (.chainStart []) = false
    ∧ Instr.wellFormed (.chainStart (List.replicate 513 0)) = false ∧ Instr.wellFormed (.chainStart [1]) = true
    ∧ Instr.wellFormed (.logReport ⟨0, 0, 0x100, List.replicate 15 0⟩) = false
    ∧ Instr.wellFormed (.logReport ⟨0, 0, 0x100, List.replicate 14 0⟩) = true := by decide +kernel
theorem test_illFormedStops (s : State) : exec (.flashLoad false true []) s = .fault .illFormed
    ∧ exec (.chainStart []) s = .fault .illFormed ∧ exec (.logReport ⟨0, 0, 0x100, List.replicate 15 0⟩) s = .fault .illFormed :=
  ⟨rfl, rfl, rfl⟩

/-! ### The functions that the spec names by their standards -/

/-- CRC-32C of "123456789" (spec 00 R8). -/
theorem test_crc32c : crc32c [0x31, 0x32, 0x33, 0x34, 0x35, 0x36, 0x37, 0x38, 0x39] = 0xE3069283 := by decide +kernel

/-- SHA-384 of no bytes (FIPS 180-4; spec 12 R452 names it). -/
theorem test_sha384 : beNat (sha384 []) = 0x38b060a751ac96384cd9327eb1b1e36a21fdb71114be07434c0cc7bf63f6e1da274edebfe76f65fbd51ad2f14898b95b := by
  decide +kernel
/-- HMAC-SHA-256, case 2 of RFC 4231 (spec 12 R451 names the function). -/
theorem test_hmac : beNat (hmacSha256 (beBytes 4 0x4a656665) (beBytes 28 0x7768617420646f2079612077616e7420666f72206e6f7468696e673f))
    = 0x5bdcc146bf60754e6a042426089575c75a003f089d2739839dec58b964ec3843 := by decide +kernel
/-- AES-256-GCM of a block of zeros under a key of zeros (the published cases of the mode; spec 12 R453 names it). -/
theorem test_gcm : aesGcmOpen (List.replicate 32 0) (List.replicate 12 0) [] (beBytes 16 0xcea7403d4d606b6e074ec5d3baf39d18)
    (beBytes 16 0xd0d1c8a799996bf0265b98b5d48ab919) = some (List.replicate 16 0) := by decide +kernel

/-! ### Single steps, their values worked out from the rules -/

/-- A tile whose operands are all the immediate `imm`, with opcode `op` and its result to L0. -/
def aluOf (op imm : Nat) : State := tileWith 0 (frame 1 op 0xE00 0 0x110 1 + BitVec.ofNat 256 (imm * 2 ^ 160))
/-- L0 of tile 0 after a step. -/
def l0After (o : Host.Outcome State Fault Refusal) : Nat := match o with | .next t => (smGet ⟨0, .data⟩ (getT t 0).lreg 0).data.toNat | _ => 0

/-- spec 02 R59: sums wrap; the lanes of the logic are the word. -/
theorem test_add : l0After (exec (.add 0) (aluOf 0x02 0x80000001)) = 2 := by decide +kernel
theorem test_neg : l0After (exec (.neg 0) (aluOf 0x04 1)) = 0xFFFFFFFF := by decide +kernel
theorem test_abs : l0After (exec (.abs 0) (aluOf 0x05 0x80000001)) = 0x7FFFFFFF := by decide +kernel
theorem test_clz : l0After (exec (.clz 0) (aluOf 0x30 1)) = 31 := by decide +kernel
theorem test_ctz : l0After (exec (.ctz 0) (aluOf 0x31 8)) = 3 := by decide +kernel
theorem test_popc : l0After (exec (.popc 0) (aluOf 0x32 0xF0F00001)) = 9 := by decide +kernel
theorem test_brev : l0After (exec (.brev 0) (aluOf 0x33 1)) = 0x80000000 := by decide +kernel
theorem test_xor : l0After (exec (.xor 0) (aluOf 0x12 5)) = 0 := by decide +kernel

/-! ### Package and line codes, with the spec's worked values -/

/-- The worked lookups of spec 15 R556. -/
theorem test_balls : ([(22, 4), (2, 45), (4, 31), (30, 69), (44, 65), (8, 50), (39, 40), (68, 5)].map fun x => ballSignal x.1 x.2)
    = [.lane 52 ⟨true, true⟩, .lane 44 ⟨false, false⟩, .pcie 9 ⟨true, false⟩, .lane 72 ⟨true, true⟩, .lane 111 ⟨false, true⟩, .gnd,
       .vddArr 3, .vddNv] := by decide +kernel
/-- The row names that spec 15 R552 lists. -/
theorem test_rows : [1, 11, 12, 22, 30, 36, 37, 39, 44, 60, 61, 62, 68, 72].map rowName
    = ["A", "L", "M", "AC", "AL", "AV", "AW", "BA", "BF", "CC", "CD", "CE", "CL", "CT"] := by decide +kernel
/-- The record of 1,000 bytes of spec 11 R430: START, 125 data blocks, TERM_0. -/
theorem test_record : ef66Shape 1000 = (125, 0) ∧ (ef66Record (List.replicate 11 1)).map isControl = [true, false, true]
    ∧ ((ef66Record (List.replicate 11 1)).getLast?.map (controlOf true)) = some (.term 3) := by decide +kernel
/-- A codeword of spec 11 R406 has no syndrome, and one wrong symbol gives one. -/
theorem test_rs : rsSyndromes (rsEncode (List.range 128)) = List.replicate 8 0
    ∧ rsSyndromes (1 :: (rsEncode (List.range 128)).drop 1) ≠ List.replicate 8 0 := by decide +kernel

end Sys2Proof.Tests
end

section
/-! PROOFS. Register fields: what a field reads after a write of it, of another field, or of the bits of a mask. -/

namespace Sys2Proof.Proofs

open Machine Laws

theorem testBit_getFld (v : Reg) (f : Fld) (i : Nat) :
    (getFld v f).testBit i = (decide (i < f.width) && v.getLsbD (f.lo + i)) := by
  rw [getFld, bitsOf, ← Fld.width, Nat.testBit_mod_two_pow, Nat.testBit_div_two_pow, Nat.add_comm, BitVec.getLsbD]

theorem getLsbD_mask (f : Fld) (i : Nat) (hi : i < 64) : f.mask.getLsbD i = decide (f.lo ≤ i ∧ i < f.lo + f.width) := by
  rw [Fld.mask, BitVec.getLsbD_ofNat, Nat.testBit_mul_two_pow, Nat.testBit_two_pow_sub_one, Bool.eq_iff_iff]
  simp only [Bool.and_eq_true, decide_eq_true_eq]
  omega

/-- A field reads only the bits of its mask. -/
theorem getFld_congr {v w : Reg} {f : Fld} (h : v &&& f.mask = w &&& f.mask) : getFld v f = getFld w f := by
  refine Nat.eq_of_testBit_eq fun i => ?_
  rw [testBit_getFld, testBit_getFld]
  by_cases hi : i < f.width ∧ f.lo + i < 64
  · have hb := congrArg (·.getLsbD (f.lo + i)) h
    simp only [BitVec.getLsbD_and, getLsbD_mask f _ hi.2] at hb
    simpa [hi.1] using hb
  · by_cases hw : i < f.width
    · rw [BitVec.getLsbD_of_ge v _ (by omega), BitVec.getLsbD_of_ge w _ (by omega)]
    · simp [hw]

theorem getFld_lt (v : Reg) (f : Fld) : getFld v f < 2 ^ f.width := Nat.mod_lt _ (Nat.two_pow_pos _)

/-- A field inside the mask of a masked update reads what the update brings. -/
theorem getFld_mergeMask_in {f : Fld} {m : Reg} (h : f.mask &&& m = f.mask) (old v : Reg) :
    getFld (mergeMask old v m) f = getFld v f := by
  refine getFld_congr (BitVec.eq_of_getLsbD_eq fun i _ => ?_)
  have hb := congrArg (·.getLsbD i) h
  simp only [mergeMask, BitVec.getLsbD_and, BitVec.getLsbD_or, BitVec.getLsbD_not] at hb ⊢
  cases hf : f.mask.getLsbD i with
  | false => simp
  | true =>
    have hm : m.getLsbD i = true := by simpa [hf] using hb
    simp [hm]

/-- A field outside the mask of a masked update reads what it read before. -/
theorem getFld_mergeMask_out {f : Fld} {m : Reg} (h : f.mask &&& m = 0) (old v : Reg) :
    getFld (mergeMask old v m) f = getFld old f := by
  refine getFld_congr (BitVec.eq_of_getLsbD_eq fun i hi => ?_)
  have hb := congrArg (·.getLsbD i) h
  simp only [mergeMask, BitVec.getLsbD_and, BitVec.getLsbD_or, BitVec.getLsbD_not] at hb ⊢
  cases hf : f.mask.getLsbD i with
  | false => simp
  | true =>
    have hm : m.getLsbD i = false := by simpa [hf] using hb
    rw [hm]
    simp [hi]

@[simp] theorem mergeMask_allOnes (old v : Reg) : mergeMask old v (BitVec.allOnes 64) = v := by
  rw [mergeMask, BitVec.not_allOnes, BitVec.and_zero, BitVec.zero_or, BitVec.and_allOnes]

/-- A written field reads the value written, cut to its width. -/
theorem getFld_setFld_same {f : Fld} (h : f.lo + f.width ≤ 64) (v : Reg) (x : Nat) :
    getFld (setFld v f x) f = x % 2 ^ f.width := by
  have hm : getFld (setFld v f x) f = getFld (BitVec.ofNat 64 (x * 2 ^ f.lo)) f := getFld_mergeMask_in (BitVec.and_self) v _
  have hp : 2 ^ 64 = 2 ^ (64 - f.lo) * 2 ^ f.lo := by rw [← Nat.pow_add]; congr 1; omega
  rw [hm, getFld, bitsOf, ← Fld.width, BitVec.toNat_ofNat, hp, Nat.mul_mod_mul_right, Nat.mul_div_cancel _ (Nat.two_pow_pos _)]
  exact Nat.mod_mod_of_dvd _ (Nat.pow_dvd_pow 2 (by omega))

/-- A write of one field leaves every field apart from it as it was. -/
theorem getFld_setFld_ne {f g : Fld} (h : g.mask &&& f.mask = 0) (v : Reg) (x : Nat) :
    getFld (setFld v f x) g = getFld v g := getFld_mergeMask_out h v _

theorem rd_lt (s : State) (o : Nat) (f : Fld) : rd s o f < 2 ^ f.width := getFld_lt _ f

theorem rd_wr_same {f : Fld} (h : f.lo + f.width ≤ 64) (s : State) (o x : Nat) :
    rd (wr s o f x) o f = x % 2 ^ f.width := by
  rw [rd, wr, getR_setR_same, getFld_setFld_same h]

theorem rd_wr_reg_ne {o p : Nat} (h : p ≠ o) (s : State) (f g : Fld) (x : Nat) : rd (wr s o f x) p g = rd s p g := by
  rw [rd, wr, getR_setR_ne _ _ _ _ h, rd]

/-- The bits of some fields. -/
def maskOf (fs : List Fld) : Reg := fs.foldr (fun f m => f.mask ||| m) 0

/-- A whole write by the warden to a register of RW fields takes the bits of the fields and no other. -/
theorem writeFlds_rw {fs : List Fld} (h : ∀ f ∈ fs, f.ty = .rw) (old v : Reg) :
    writeFlds true fs old v = mergeMask old v (maskOf fs) := by
  induction fs generalizing old with
  | nil =>
    show old = mergeMask old v 0#64
    rw [mergeMask, BitVec.not_zero, BitVec.and_allOnes, BitVec.and_zero, BitVec.or_zero]
  | cons f fs ih =>
    have hf : writeFld true v old f = mergeMask old v f.mask := by simp [writeFld, h f (by simp), mergeMask]
    rw [writeFlds, List.foldl_cons, hf, ← writeFlds, ih fun g hg => h g (by simp [hg])]
    refine BitVec.eq_of_getLsbD_eq fun i hi => ?_
    simp only [mergeMask, maskOf, List.foldr_cons, BitVec.getLsbD_and, BitVec.getLsbD_or, BitVec.getLsbD_not, hi, decide_true,
      Bool.true_and]
    cases f.mask.getLsbD i <;> cases v.getLsbD i <;> simp

end Sys2Proof.Proofs
end

section
/-! PROOFS. Endpoints: what an answer, a seal point and a sent request leave at an endpoint, and what a report leaves alone. -/

namespace Sys2Proof.Proofs

open Machine Laws Claims

/-! ### Maps and folds -/

/-- A map whose values all pass through `f`, read at a key. -/
theorem smGet_map {V W : Type} (f : V → W) (d : V) (m : SMap V) (k : Nat) :
    smGet (f d) (m.map fun x => (x.1, f x.2)) k = f (smGet d m k) := by
  induction m with
  | nil => rfl
  | cons x xs ih =>
    simp only [List.map_cons, smGet, ih]
    split <;> rfl

/-- A key that does not read as the default has its entry in the map. -/
theorem mem_of_smGet_ne {V : Type} {d : V} {m : SMap V} {k : Nat} (h : smGet d m k ≠ d) : (k, smGet d m k) ∈ m := by
  induction m with
  | nil => exact absurd rfl h
  | cons x xs ih =>
    obtain ⟨a, v⟩ := x
    simp only [smGet] at h ⊢
    split
    · rename_i hk; simp [hk]
    · rename_i hk; exact List.mem_cons_of_mem _ (ih (by simpa [hk] using h))

/-- What every step of a fold keeps, the fold keeps. -/
theorem foldl_keeps {α σ β : Type} (p : σ → β) {f : σ → α → σ} (h : ∀ s x, p (f s x) = p s) (l : List α) (s : σ) :
    p (l.foldl f s) = p s := by
  induction l generalizing s with
  | nil => rfl
  | cons x xs ih => rw [List.foldl_cons, ih, h]

/-! ### Ingress entries and outgoing flits -/

@[simp] theorem getIn_setIn_same (s : State) (ep n : Nat) (x : Option Ingress) : getIn (setIn s ep n x) ep n = x := by
  simp [getIn, setIn]

theorem getIn_setIn_ne (s : State) {ep n ep' n' : Nat} (x : Option Ingress) (h : (ep', n') ≠ (ep, n)) :
    getIn (setIn s ep n x) ep' n' = getIn s ep' n' := by
  by_cases he : ep' = ep
  · subst he
    have hn : n' ≠ n := fun e => h (by rw [e])
    simp [getIn, setIn, smGet_smSet_ne _ _ _ _ _ _ hn]
  · simp [getIn, setIn, getEp_setEp_ne _ _ _ _ he]

@[simp] theorem epOut_getEp_setIn (s : State) (ep n ep' : Nat) (x : Option Ingress) (net : Net) :
    epOut (getEp (setIn s ep n x) ep') net = epOut (getEp s ep') net := by
  by_cases he : ep' = ep
  · subst he; cases net <;> simp [setIn, epOut]
  · rw [setIn, getEp_setEp_ne _ _ _ _ he]

@[simp] theorem epOut_epSetOut_same (e : Endpoint) (net : Net) (l : List Flit) : epOut (epSetOut e net l) net = l := by
  cases net <;> rfl

theorem epOut_epSetOut_ne (e : Endpoint) {net net' : Net} (l : List Flit) (h : net' ≠ net) :
    epOut (epSetOut e net l) net' = epOut e net' := by
  cases net <;> cases net' <;> simp [epOut, epSetOut] <;> exact absurd rfl h

@[simp] theorem ingress_epSetOut (e : Endpoint) (net : Net) (l : List Flit) : (epSetOut e net l).ingress = e.ingress := by
  cases net <;> rfl

@[simp] theorem getIn_pushOut (s : State) (ep : Nat) (f : Flit) (ep' n : Nat) : getIn (pushOut s ep f) ep' n = getIn s ep' n := by
  by_cases he : ep' = ep
  · subst he; simp [getIn, pushOut]
  · simp [getIn, pushOut, getEp_setEp_ne _ _ _ _ he]

/-- A pushed flit stands behind the others of its network. -/
@[simp] theorem epOut_pushOut_same (s : State) (ep : Nat) (f : Flit) :
    epOut (getEp (pushOut s ep f) ep) f.net = epOut (getEp s ep) f.net ++ [f] := by simp [pushOut]

/-- A pushed flit takes none of the waiting ones away. -/
theorem mem_epOut_pushOut {s : State} {ep' : Nat} {net : Net} {g : Flit} (h : g ∈ epOut (getEp s ep') net) (ep : Nat) (f : Flit) :
    g ∈ epOut (getEp (pushOut s ep f) ep') net := by
  by_cases he : ep' = ep
  · subst he
    by_cases hn : net = f.net
    · subst hn; simp [h]
    · simpa [pushOut, epOut_epSetOut_ne _ _ hn] using h
  · simpa [pushOut, getEp_setEp_ne _ _ _ _ he] using h

/-! ### Answers -/

/-- The net on which a response leaves. -/
theorem respond_eq (s : State) (ep : Nat) (req : Flit) (st : Status) (data : List Byte) (count endTag : Nat) (c : Bool) :
    ∃ f : Flit, respond s ep req st data count endTag c = pushOut s ep f
      ∧ f.net = (if st = .ok ∧ 8 < data.length then .dat else .rsp) ∧ f.dst = req.src ∧ f.tag = req.tag
      ∧ f.data = BitVec.ofNat 512 (leBytes data)
      ∧ f.status.toNat = (if st = .ok ∧ 8 < data.length then 0 else statusCode st) := by
  unfold respond
  by_cases h : st = .ok ∧ 8 < data.length
  · simp only [h, and_self, if_true]
    exact ⟨_, rfl, rfl, rfl, rfl, rfl, rfl⟩
  · simp only [h, if_false]
    refine ⟨_, rfl, rfl, rfl, rfl, rfl, ?_⟩
    cases st <;> rfl

/-- An answer either finds no request, or frees the entry and pushes the response. -/
theorem answer_cases (s : State) (ep n : Nat) (st : Status) (data : List Byte) :
    (getIn s ep n = none ∧ answer s ep n st data = s)
    ∨ ∃ (g : Ingress) (f : Flit), getIn s ep n = some g ∧ answer s ep n st data = pushOut (setIn s ep n none) ep f
      ∧ f.net = (if st = .ok ∧ 8 < data.length then .dat else .rsp) ∧ f.dst = g.req.src ∧ f.tag = g.req.tag
      ∧ f.data = BitVec.ofNat 512 (leBytes data)
      ∧ f.status.toNat = (if st = .ok ∧ 8 < data.length then 0 else statusCode st) := by
  unfold answer answerC
  cases h : getIn s ep n with
  | none => exact .inl ⟨rfl, rfl⟩
  | some g =>
    obtain ⟨f, hf, hprops⟩ := respond_eq (setIn s ep n none) ep g.req st data data.length 0 (false || wasConflict g st)
    exact .inr ⟨g, f, rfl, hf, hprops⟩

/-- An answer changes nothing but endpoints. -/
theorem answer_frame (s : State) (ep n : Nat) (st : Status) (data : List Byte) :
    answer s ep n st data = { s with eps := (answer s ep n st data).eps } := by
  rcases answer_cases s ep n st data with ⟨-, h⟩ | ⟨g, f, -, h, -⟩
  · rw [h]
  · rw [h]; rfl

@[simp] theorem answer_readData (s : State) (ep n : Nat) (st : Status) (data : List Byte) :
    (answer s ep n st data).readData = s.readData := by rw [answer_frame]

theorem getIn_answer_ne (s : State) {ep n ep' n' : Nat} (st : Status) (data : List Byte) (h : (ep', n') ≠ (ep, n)) :
    getIn (answer s ep n st data) ep' n' = getIn s ep' n' := by
  rcases answer_cases s ep n st data with ⟨-, e⟩ | ⟨g, f, -, e, -⟩ <;> rw [e]
  rw [getIn_pushOut, getIn_setIn_ne _ _ h]

/-- An answered request's entry is free, and its response waits to be injected. -/
theorem answered_answer {s : State} {ep : Fin 2048} {n : Fin 32} {g : Ingress} (h : getIn s ep n = some g) (st : Status)
    (data : List Byte) : answered (answer s ep n st data) ep n g.req st data := by
  rcases answer_cases s ep n st data with ⟨h0, -⟩ | ⟨g', f, hg, e, hnet, hdst, htag, hdata, hst⟩
  · rw [h] at h0; exact absurd h0 (by simp)
  · obtain rfl : g = g' := by rw [h] at hg; exact Option.some.inj hg
    refine ⟨by rw [e]; simp, f, ?_, hdst, htag, hdata, hst⟩
    rw [e, ← hnet, epOut_pushOut_same]
    simp

/-- A further answer leaves an answered request answered. -/
theorem answered_of_answered {s : State} {ep : Fin 2048} {n : Fin 32} {req : Flit} {st : Status} {data : List Byte}
    (h : answered s ep n req st data) (ep' n' : Nat) (st' : Status) (data' : List Byte) :
    answered (answer s ep' n' st' data') ep n req st data := by
  obtain ⟨hin, f, hf, hprops⟩ := h
  rcases answer_cases s ep' n' st' data' with ⟨-, e⟩ | ⟨g, f', -, e, -⟩ <;> rw [e]
  · exact ⟨hin, f, hf, hprops⟩
  · refine ⟨?_, f, mem_epOut_pushOut (by simpa using hf) _ _, hprops⟩
    rw [getIn_pushOut]
    by_cases hk : ((ep : Nat), (n : Nat)) = (ep', n')
    · obtain ⟨rfl, rfl⟩ := Prod.mk.inj hk; simp
    · rw [getIn_setIn_ne _ _ hk, hin]

theorem answered_foldl_of_answered {ep : Fin 2048} {n : Fin 32} {req : Flit} {st : Status} {data : List Byte} (st' : Status)
    (data' : List Byte) (l : List (Nat × Nat)) {s : State} (h : answered s ep n req st data) :
    answered (l.foldl (fun s h => answer s h.1 h.2 st' data') s) ep n req st data := by
  induction l generalizing s with
  | nil => exact h
  | cons x xs ih => exact ih (answered_of_answered h _ _ _ _)

/-- Of a list of entries that are answered alike, each that holds a request is answered. -/
theorem answered_foldl {s : State} {ep : Fin 2048} {n : Fin 32} {g : Ingress} {l : List (Nat × Nat)} (hl : (ep.val, n.val) ∈ l)
    (hg : getIn s ep n = some g) (st : Status) (data : List Byte) :
    answered (l.foldl (fun s h => answer s h.1 h.2 st data) s) ep n g.req st data := by
  induction l generalizing s with
  | nil => simp at hl
  | cons x xs ih =>
    rw [List.foldl_cons]
    by_cases hx : (ep.val, n.val) = x
    · subst hx; exact answered_foldl_of_answered st data xs (answered_answer hg st data)
    · exact ih ((List.mem_cons.mp hl).resolve_left hx) (by rw [getIn_answer_ne _ _ _ hx, hg])

/-! ### Reports -/

/-- `t` is `s` but for what reports write: registers, the log, the recorder and pending interrupts. -/
def OnlyReported (s t : State) : Prop :=
  t = { s with regs := t.regs, log := t.log, recorder := t.recorder, msix := t.msix }

theorem OnlyReported.refl (s : State) : OnlyReported s s := rfl

theorem OnlyReported.trans {s t u : State} (h : OnlyReported s t) (k : OnlyReported t u) : OnlyReported s u := by
  unfold OnlyReported at *
  rw [k, h]

theorem onlyReported_recClass (s : State) (c n : Nat) : OnlyReported s (recClass s c n) := by
  unfold recClass; split <;> rfl

theorem onlyReported_logLatch (s : State) (r : Report) : OnlyReported s (logLatch s r) := by
  unfold logLatch
  split
  · rfl
  · split
    · rfl
    · exact OnlyReported.trans (t := bump s A.LOG_STATUS F.LOG_STATUS_LOST 1) rfl (onlyReported_recClass _ _ _)

theorem onlyReported_raiseIf (s : State) (ie : Bool) (k : Nat) : OnlyReported s (raiseIf s ie k) := by
  cases ie <;> rfl

theorem onlyReported_eventVec (s : State) (code : Nat) : OnlyReported s (eventVec s code) := by
  unfold eventVec
  dsimp only
  split_ifs
  exacts [onlyReported_raiseIf _ _ _, onlyReported_raiseIf _ _ _, onlyReported_raiseIf _ _ _, onlyReported_raiseIf _ _ _, rfl]

theorem onlyReported_report (s : State) (source : Nat) (unit : BitVec 32) (code : Nat) (det : List Byte) :
    OnlyReported s (report s source unit code det) :=
  ((onlyReported_logLatch _ _).trans (onlyReported_recClass _ _ _)).trans (onlyReported_eventVec _ _)

@[simp] theorem report_eps (s : State) (source : Nat) (unit : BitVec 32) (code : Nat) (det : List Byte) :
    (report s source unit code det).eps = s.eps := by rw [onlyReported_report s source unit code det]

@[simp] theorem report_host (s : State) (source : Nat) (unit : BitVec 32) (code : Nat) (det : List Byte) :
    (report s source unit code det).host = s.host := by rw [onlyReported_report s source unit code det]

/-! ### The host's accesses -/

theorem hostAccess_awake {s : State} (ha : s.asleep = false) (hd : s.defaultsDue = false) (f : State → State) :
    hostAccess f s = f s := by simp [hostAccess, ha, hd]

theorem hostAccess_barred {s : State} (h : s.asleep = true ∨ s.defaultsDue = true) (f : State → State) : hostAccess f s = s := by
  rcases h with h | h <;> simp [hostAccess, h]

/-- An answer to the host is recorded; the error log of the link may grow. -/
theorem hostAnswer_eq (s : State) (a : HostAnswer) :
    ∃ aer, hostAnswer s a = { s with host := { s.host with aer := aer, peeks := s.host.peeks ++ [a] } } := by
  have hnote : ∀ e, ∃ aer, aerNote s e = { s with host := { s.host with aer := aer } } := by
    intro e
    unfold aerNote
    split
    · exact ⟨_, rfl⟩
    · exact ⟨s.host.aer, rfl⟩
  unfold hostAnswer
  cases a with
  | done v => exact ⟨s.host.aer, rfl⟩
  | unsupported => obtain ⟨aer, h⟩ := hnote .unsupported; exact ⟨aer, by simp only [h]⟩
  | failed st => obtain ⟨aer, h⟩ := hnote .abort; exact ⟨aer, by simp only [h]⟩

@[simp] theorem hostAnswer_peeks (s : State) (a : HostAnswer) : (hostAnswer s a).host.peeks = s.host.peeks ++ [a] := by
  obtain ⟨aer, h⟩ := hostAnswer_eq s a; rw [h]
@[simp] theorem hostAnswer_regs (s : State) (a : HostAnswer) : (hostAnswer s a).regs = s.regs := by
  obtain ⟨aer, h⟩ := hostAnswer_eq s a; rw [h]
@[simp] theorem hostAnswer_eps (s : State) (a : HostAnswer) : (hostAnswer s a).eps = s.eps := by
  obtain ⟨aer, h⟩ := hostAnswer_eq s a; rw [h]

end Sys2Proof.Proofs
end

section
/-! PROOFS. Seal points (spec 09 R344 to R346): the clauses of `Obligations.SetUpAccess` on ACC_SEAL_WRITE and ACC_SEAL_READ. -/

namespace Sys2Proof.Proofs

open Machine Laws Claims

theorem exec_accSealWrite (s : State) (v : Reg) (k : Key) :
    exec (.accSealWrite v k) s = .next (hostAccess (opAccSealWrite v k) s) := rfl

theorem exec_accSealRead (s : State) (expired : Bool) :
    exec (.accSealRead expired) s = .next (hostAccess (opAccSealRead expired) s) := rfl

/-! ### What a seal point does to requests -/

/-- An ingress entry as a seal point leaves it. -/
def sealIn (g : Ingress) : Ingress := { g with req := sealFlit g.req }

theorem getEp_sealAll (s : State) (ep : Nat) : getEp (sealAll s) ep = sealEp (getEp s ep) := smGet_map sealEp {} s.eps ep

theorem getIn_sealAll (s : State) (ep n : Nat) : getIn (sealAll s) ep n = (getIn s ep n).map sealIn := by
  rw [getIn, getEp_sealAll]
  exact smGet_map (Option.map sealIn) none (getEp s ep).ingress n

/-- The state with a new seal point: what ACC_SEAL_WRITE does before it releases what is held. -/
def sealPoint (s : State) : State := wr (sealAll s) A.ACC_SEAL F.ACC_SEAL_SEQ (rd (sealAll s) A.ACC_SEAL F.ACC_SEAL_SEQ + 1)

theorem writeSeal_eq (s : State) (v : Reg) :
    writeSeal s v = if getFld v F.ACC_SEAL_ABORT_HELD = 1 then abortHeld (sealPoint s) else sealPoint s := rfl

theorem rd_seq_sealPoint (s : State) :
    rd (sealPoint s) A.ACC_SEAL F.ACC_SEAL_SEQ = (rd s A.ACC_SEAL F.ACC_SEAL_SEQ + 1) % 2 ^ 16 := rd_wr_same (by decide) _ _ _

theorem getIn_sealPoint {s : State} {ep n : Nat} {g : Ingress} (h : getIn s ep n = some g) :
    getIn (sealPoint s) ep n = some (sealIn g) := by
  have hs : getIn (sealPoint s) ep n = getIn (sealAll s) ep n := rfl
  rw [hs, getIn_sealAll, h, Option.map_some]

theorem rd_sealPoint_ne {o : Nat} (h : o ≠ A.ACC_SEAL) (s : State) (f : Fld) : rd (sealPoint s) o f = rd s o f :=
  rd_wr_reg_ne h (sealAll s) _ f _

/-- Places are told by the straps alone. -/
theorem placeOf_congr {s t : State} (h : t.straps = s.straps) (a : Nat) : placeOf t a = placeOf s a := by
  unfold placeOf; rw [h]

/-- A seal point releases nothing: what was held is held. -/
theorem requestHeld_sealPoint (s : State) (g : Ingress) : requestHeld (sealPoint s) (sealIn g) = requestHeld s g := by
  have hplace : ∀ a, placeOf (sealPoint s) a = placeOf s a := placeOf_congr rfl
  have hpwr : ∀ f, pwrState (sealPoint s) f = pwrState s f := fun f =>
    rd_sealPoint_ne (by simp only [A.PWR_STATUS, A.ACC_SEAL]; omega) s _
  simp only [requestHeld, heldByField, hplace, hpwr, sealIn, sealFlit]

/-! ### The release of held requests -/

/-- The entries of the sealed requests that are held. -/
def heldEntries (s : State) : List (Nat × Nat) :=
  s.eps.flatMap fun x => x.2.ingress.filterMap fun y => match y.2 with
    | some g => if g.req.sealed && requestHeld s g then some (x.1, y.1) else none
    | none => none

theorem mem_heldEntries {s : State} {ep n : Nat} {g : Ingress} (hg : getIn s ep n = some g) (hs : g.req.sealed = true)
    (hh : requestHeld s g = true) : (ep, n) ∈ heldEntries s := by
  have hin : (n, some g) ∈ (getEp s ep).ingress := hg ▸ mem_of_smGet_ne (d := none) (by rw [← getIn, hg]; simp)
  have hep : (ep, getEp s ep) ∈ s.eps := mem_of_smGet_ne fun h : getEp s ep = {} => by rw [h] at hin; simp at hin
  exact List.mem_flatMap.mpr ⟨_, hep, List.mem_filterMap.mpr ⟨_, hin, by simp [hs, hh]⟩⟩

/-- The tiles' queues forget the pops and pushes of the entries `hs`. -/
def dropHeld (hs : List (Nat × Nat)) (s : State) : State :=
  (s.tiles.map Prod.fst).foldl (fun s i => [0, 1, 2, 3].foldl (fun s n =>
    let q := getQ (getT s i) n
    if q.held = [] then s else setQ s i n { q with held := q.held.filter (fun h => !hs.contains (h.ep, h.entry)) }) s) s

theorem dropHeld_eps (hs : List (Nat × Nat)) (s : State) : (dropHeld hs s).eps = s.eps := by
  refine foldl_keeps State.eps (fun s i => foldl_keeps State.eps (fun s n => ?_) _ s) _ s
  dsimp only
  split <;> rfl

theorem abortHeld_eq (s : State) :
    abortHeld s = (heldEntries s).foldl (fun s h => answer s h.1 h.2 .aborted []) (dropHeld (heldEntries s) s) := rfl

/-- A sealed request that is held is answered with ABORTED. -/
theorem answered_abortHeld {s : State} {ep : Fin 2048} {n : Fin 32} {g : Ingress} (hg : getIn s ep n = some g)
    (hs : g.req.sealed = true) (hh : requestHeld s g = true) : answered (abortHeld s) ep n g.req .aborted [] := by
  rw [abortHeld_eq]
  refine answered_foldl (mem_heldEntries hg hs hh) ?_ _ _
  rw [getIn, getEp, dropHeld_eps, ← getEp, ← getIn, hg]

/-! ### ACC_SEAL_WRITE -/

theorem accSealWrite_other (s : State) (v : Reg) (k : Key) (hk : isWarden s k = false) :
    exec (.accSealWrite v k) s = .next s := by
  simp [exec_accSealWrite, hostAccess, opAccSealWrite, hk]

theorem exec_accSealWrite_warden {s : State} {k : Key} (ha : s.asleep = false) (hd : s.defaultsDue = false)
    (hk : isWarden s k = true) (v : Reg) : exec (.accSealWrite v k) s = .next (writeSeal s v) := by
  rw [exec_accSealWrite, hostAccess_awake ha hd, opAccSealWrite, if_pos hk]

theorem accSealWrite_seals (s : State) (v : Reg) (k : Key) (ha : s.asleep = false) (hd : s.defaultsDue = false)
    (hk : isWarden s k = true) (hv : getFld v F.ACC_SEAL_ABORT_HELD = 0) :
    ∃ t : State, exec (.accSealWrite v k) s = .next t
      ∧ rd t A.ACC_SEAL F.ACC_SEAL_SEQ = (rd s A.ACC_SEAL F.ACC_SEAL_SEQ + 1) % 2 ^ 16
      ∧ (∀ (ep n : Nat) (g : Ingress), getIn s ep n = some g →
          getIn t ep n = some { g with req := { g.req with sealed := g.req.tabled } })
      ∧ t.tiles = s.tiles ∧ t.mem = s.mem := by
  refine ⟨sealPoint s, ?_, rd_seq_sealPoint s, fun ep n g hg => getIn_sealPoint hg, rfl, rfl⟩
  rw [exec_accSealWrite_warden ha hd hk, writeSeal_eq, if_neg (by omega)]

theorem accSealWrite_aborts (s : State) (v : Reg) (k : Key) (ep : Fin 2048) (n : Fin 32) (g : Ingress) (ha : s.asleep = false)
    (hd : s.defaultsDue = false) (hk : isWarden s k = true) (hv : getFld v F.ACC_SEAL_ABORT_HELD = 1) (hg : getIn s ep n = some g)
    (ht : g.req.tabled = true) (hh : requestHeld s g = true) :
    ∃ t : State, exec (.accSealWrite v k) s = .next t ∧ answered t ep n g.req .aborted [] := by
  have hans : answered (abortHeld (sealPoint s)) ep n (sealIn g).req .aborted [] :=
    answered_abortHeld (getIn_sealPoint hg) ht (by rw [requestHeld_sealPoint, hh])
  refine ⟨abortHeld (sealPoint s), ?_, hans⟩
  rw [exec_accSealWrite_warden ha hd hk, writeSeal_eq, if_pos hv]

/-! ### ACC_SEAL_READ -/

theorem sealValue_done (s : State) : getFld (sealValue s) F.ACC_SEAL_DONE = if outstanding s = 0 then 1 else 0 := by
  rw [sealValue, getFld_setFld_ne (by decide), getFld_setFld_same (by decide)]
  by_cases h : outstanding s = 0 <;> simp [h, b2n, Fld.width, F.ACC_SEAL_DONE]

theorem sealValue_outstanding (s : State) :
    getFld (sealValue s) F.ACC_SEAL_OUTSTANDING = min (outstanding s) (2 ^ 31 - 1) := by
  rw [sealValue, getFld_setFld_same (by decide)]
  exact Nat.mod_eq_of_lt (show _ < 2 ^ 31 by omega)

theorem sealValue_seq (s : State) : getFld (sealValue s) F.ACC_SEAL_SEQ = rd s A.ACC_SEAL F.ACC_SEAL_SEQ := by
  rw [sealValue, getFld_setFld_ne (by decide), getFld_setFld_ne (by decide), getFld_setFld_same (by decide)]
  exact Nat.mod_eq_of_lt (rd_lt _ _ _)

/-- A read whose wait is over brings the value, and nothing else unless its time was up and other readers wait. -/
theorem opAccSealRead_ends {s : State} {expired : Bool} (h : outstanding s = 0 ∨ expired = true) :
    (opAccSealRead expired s).readData = sealValue s
    ∧ (expired = false ∨ sealReaders s = [] → opAccSealRead expired s = { s with readData := sealValue s }) := by
  have hwait : (sealWaits s && !expired) = false := by
    rcases h with h | h <;> simp [sealWaits, h]
  unfold opAccSealRead
  rw [hwait]
  cases expired with
  | false => exact ⟨rfl, fun _ => rfl⟩
  | true =>
    refine ⟨?_, fun hr => ?_⟩
    · exact foldl_keeps State.readData (fun s r => answer_readData s _ _ _ _) (sealReaders s) _
    · simp [hr.resolve_left (by decide)]

theorem accSealRead_returns (s : State) (expired : Bool) (ha : s.asleep = false) (hd : s.defaultsDue = false)
    (h : outstanding s = 0 ∨ expired = true) :
    ∃ t : State, exec (.accSealRead expired) s = .next t
      ∧ getFld t.readData F.ACC_SEAL_DONE = (if outstanding s = 0 then 1 else 0)
      ∧ getFld t.readData F.ACC_SEAL_OUTSTANDING = min (outstanding s) (2 ^ 31 - 1)
      ∧ getFld t.readData F.ACC_SEAL_SEQ = rd s A.ACC_SEAL F.ACC_SEAL_SEQ
      ∧ ((expired = false ∨ sealReaders s = []) → t = { s with readData := t.readData }) := by
  obtain ⟨hdata, hframe⟩ := opAccSealRead_ends h
  refine ⟨opAccSealRead expired s, by rw [exec_accSealRead, hostAccess_awake ha hd], ?_⟩
  rw [hdata]
  exact ⟨sealValue_done s, sealValue_outstanding s, sealValue_seq s, hframe⟩

theorem sealWaits_of {s : State} (ho : outstanding s ≠ 0) (hw : rd s A.ACC_CTL F.ACC_CTL_SEAL_WAIT ≠ 0) : sealWaits s = true := by
  simp [sealWaits, ho, hw]

theorem accSealRead_waits (s : State) (ha : s.asleep = false) (hd : s.defaultsDue = false) (ho : outstanding s ≠ 0)
    (hw : rd s A.ACC_CTL F.ACC_CTL_SEAL_WAIT ≠ 0) : exec (.accSealRead false) s = .next s := by
  simp [exec_accSealRead, hostAccess_awake ha hd, opAccSealRead, sealWaits_of ho hw]

end Sys2Proof.Proofs
end

section
/-! PROOFS. REGISTER_WRITE (spec 00 R8, R9; spec 16 R575): the clauses of `Obligations.SetUpAccess` on reads and writes of set-up
registers by BAR0 and by a request that waits in an ingress. -/

namespace Sys2Proof.Proofs

open Machine Laws Claims

theorem exec_registerWrite (s : State) (d : RegDst) (size : Nat) (v : Reg) (k : Key) :
    exec (.registerWrite d size v k) s = .next (hostAccess (opRegisterWrite d size v k) s) := rfl

theorem exec_registerWrite_awake {s : State} (ha : s.asleep = false) (hd : s.defaultsDue = false) (d : RegDst) (size : Nat)
    (v : Reg) (k : Key) : exec (.registerWrite d size v k) s = .next (opRegisterWrite d size v k s) := by
  rw [exec_registerWrite, hostAccess_awake ha hd]

/-! ### Access sizes -/

theorem regAccess_eight {off : Nat} (h : off % 8 = 0) : regAccess off 8 = .ok (off, BitVec.allOnes 64) := by
  simp [regAccess, h]

theorem placeValue_eight (off : Nat) (v : Reg) : placeValue off 8 v = v := rfl

theorem cutValue_eight (off : Nat) (v : Reg) : cutValue off 8 v = v := rfl

/-- A write of 8 aligned bytes by BAR0 below the NV window writes the whole register. -/
theorem opRegisterWrite_bar0_eight {off : Nat} (hm : off % 8 = 0) (hoff : off < 0x730000) (s : State) (v : Reg) (k : Key) :
    opRegisterWrite (.bar0 off) 8 v k s = setupWrite s k off v (BitVec.allOnes 64) := by
  simp only [opRegisterWrite, setupStore, regAccess_eight hm, placeValue_eight]
  rw [if_neg (by omega), if_neg (by omega)]

/-- A write of the lower 4 bytes by BAR0 below the NV window writes that half of the register. -/
theorem opRegisterWrite_bar0_low {off : Nat} (hm : off % 8 = 0) (hoff : off < 0x730000) (s : State) (v : Reg) (k : Key) :
    opRegisterWrite (.bar0 off) 4 v k s = setupWrite s k off v (halfMask false) := by
  have hacc : regAccess off 4 = .ok (off, halfMask false) := by
    have h4 : off % 4 = 0 := by omega
    have h8 : off / 8 * 8 = off := by omega
    simp [regAccess, h4, h8, hm]
  have hval : placeValue off 4 v = v := by simp [placeValue, hm]
  simp only [opRegisterWrite, setupStore, hacc, hval]
  rw [if_neg (by omega), if_neg (by omega)]

theorem setupWrite_hole {off : Nat} (h : regFields off = none) (s : State) (k : Key) (v mask : Reg) :
    setupWrite s k off v mask = s := by simp [setupWrite, h]

theorem setupWrite_warden {s : State} {k : Key} {off : Nat} {mask : Reg} {fs : List Fld} (hk : isWarden s k = true)
    (hf : regFields off = some fs) (hm : mask ≠ 0) (v : Reg) :
    setupWrite s k off v mask = wardenWrite s k off (mergeMask (quietValue s off) v mask) mask := by
  have hgo : ¬(mask = 0 ∨ (regFields off).isNone = true) := by rw [hf]; simpa using hm
  rw [setupWrite, if_neg hgo, if_pos hk]

/-- The host interface's first registers and the access tables only store what the warden writes. -/
theorem wardenWrite_stores {off : Nat} (h : off = A.HIF_CTL ∨ (0x200000 ≤ off ∧ off < 0x2F0000)) {fs : List Fld}
    (hf : regFields off = some fs) (s : State) (k : Key) (v mask : Reg) :
    wardenWrite s k off v mask = setR s off (stored off (writeFlds true fs (getR s off) v)) := by
  have hgrp : (List.range 16).find? (fun n => gCtl n == off) = none := by
    rw [List.find?_eq_none]
    intro n _
    simp only [gCtl, A.GRP_CTL, A.HIF_CTL, beq_iff_eq] at h ⊢
    omega
  simp only [A.HIF_CTL] at h
  simp (disch := omega) only [wardenWrite, inRow, decide_eq_true_eq, if_neg, hgrp, hf, Option.getD_some,
    A.ID_TIME_SET, A.ACC_SEAL, A.PWR_THERM_CTL, A.PWR_RESET, A.PWR_AVS_CTL, A.CLK_AON_CTL, A.FAB_DIMS, A.FAB_COORD, A.FAB_ANCHOR,
    A.CFG_CTL, A.CFG_STARTUP_ORDER, A.CFG_KEY_CTL, A.CFG_CHAIN_CTL, A.LOG_CTL, A.REC_CTL, A.REC_CLEAR, A.NVI_CTL, A.NVI_SLOT_SEL,
    A.NVI_KEY_CTL, A.NOC_CTL]

/-! ### Access table entries -/

theorem accW0_range (tb : Fin 90) (e : Fin 32) :
    A.ACC_W0 tb e % 8 = 0 ∧ 0x200000 ≤ A.ACC_W0 tb e ∧ A.ACC_W0 tb e < 0x2F0000 := by
  simp only [A.ACC_W0]; omega

theorem accW1_range (tb : Fin 90) (e : Fin 32) :
    A.ACC_W1 tb e % 8 = 0 ∧ 0x200000 ≤ A.ACC_W1 tb e ∧ A.ACC_W1 tb e < 0x2F0000 := by
  simp only [A.ACC_W1]; omega

theorem inGrid_accW0 (tb : Fin 90) (e : Fin 32) : inGrid (A.ACC_W0 tb e) 0x200000 90 0x200 32 0x10 = true :=
  decide_eq_true (by simp only [A.ACC_W0]; omega)

theorem inGrid_accW1 (tb : Fin 90) (e : Fin 32) : inGrid (A.ACC_W1 tb e) 0x200008 90 0x200 32 0x10 = true :=
  decide_eq_true (by simp only [A.ACC_W1]; omega)

theorem not_inGrid_accW0 (tb : Fin 90) (e : Fin 32) : inGrid (A.ACC_W0 tb e) 0x200008 90 0x200 32 0x10 = false :=
  decide_eq_false (by simp only [A.ACC_W0]; omega)

theorem not_inGrid_accW1 (tb : Fin 90) (e : Fin 32) : inGrid (A.ACC_W1 tb e) 0x200000 90 0x200 32 0x10 = false :=
  decide_eq_false (by simp only [A.ACC_W1]; omega)

/-- The registers of the access control block. -/
theorem regFields_atAcc {off : Nat} (h : 0x200000 ≤ off) (h' : off < 0x300000) : regFields off = L.atAcc off := by
  simp (disch := omega) only [regFields, if_neg, if_pos]

theorem regFields_accW0 (tb : Fin 90) (e : Fin 32) : regFields (A.ACC_W0 tb e) = some L.ACC_W0 := by
  obtain ⟨-, hlo, hhi⟩ := accW0_range tb e
  rw [regFields_atAcc hlo (by omega), L.atAcc, if_pos (inGrid_accW0 tb e)]

theorem regFields_accW1 (tb : Fin 90) (e : Fin 32) : regFields (A.ACC_W1 tb e) = some L.ACC_W1 := by
  obtain ⟨-, hlo, hhi⟩ := accW1_range tb e
  rw [regFields_atAcc hlo (by omega), L.atAcc, if_neg (by simp [not_inGrid_accW1]), if_pos (inGrid_accW1 tb e)]

/-- A whole write by the warden of a register that only stores. -/
theorem registerWrite_bar0_stores {s : State} {k : Key} {off : Nat} {fs : List Fld} (ha : s.asleep = false)
    (hd : s.defaultsDue = false) (hk : isWarden s k = true) (hm : off % 8 = 0) (hlo : 0x200000 ≤ off) (hhi : off < 0x2F0000)
    (hf : regFields off = some fs) (v : Reg) :
    exec (.registerWrite (.bar0 off) 8 v k) s = .next (setR s off (stored off (writeFlds true fs (getR s off) v))) := by
  rw [exec_registerWrite_awake ha hd, opRegisterWrite_bar0_eight hm (by omega), setupWrite_warden hk hf (by decide),
    mergeMask_allOnes, wardenWrite_stores (.inr ⟨hlo, hhi⟩) hf]

/-- Bit 7 of PERM takes no 1 (spec 09 R339). -/
theorem perm_without_bit7 (w : Reg) : getFld (w &&& ~~~(0x80 : Reg)) F.ACC_W1_PERM = getFld w F.ACC_W1_PERM % 128 := by
  refine Nat.eq_of_testBit_eq fun i => ?_
  rw [show (128 : Nat) = 2 ^ 7 from rfl, Nat.testBit_mod_two_pow, testBit_getFld, testBit_getFld]
  by_cases hi : i < 8
  · interval_cases i <;> simp [F.ACC_W1_PERM, Fld.width]
  · simp [F.ACC_W1_PERM, Fld.width, hi]

theorem registerWrite_accW0 {s : State} {k : Key} (ha : s.asleep = false) (hd : s.defaultsDue = false) (hk : isWarden s k = true)
    (tb : Fin 90) (e : Fin 32) (v : Reg) :
    ∃ t : State, exec (.registerWrite (.bar0 (A.ACC_W0 tb e)) 8 v k) s = .next t ∧ getR t (A.ACC_W0 tb e) = v := by
  obtain ⟨hm, hlo, hhi⟩ := accW0_range tb e
  refine ⟨_, registerWrite_bar0_stores ha hd hk hm hlo hhi (regFields_accW0 tb e) v, ?_⟩
  have hall : maskOf L.ACC_W0 = BitVec.allOnes 64 := by decide
  rw [getR_setR_same, stored, not_inGrid_accW0, writeFlds_rw (by decide), hall, mergeMask_allOnes]
  rfl

theorem registerWrite_accW1 {s : State} {k : Key} (ha : s.asleep = false) (hd : s.defaultsDue = false) (hk : isWarden s k = true)
    (tb : Fin 90) (e : Fin 32) (v : Reg) :
    ∃ t : State, exec (.registerWrite (.bar0 (A.ACC_W1 tb e)) 8 v k) s = .next t
      ∧ rd t (A.ACC_W1 tb e) F.ACC_W1_EN = getFld v F.ACC_W1_EN
      ∧ rd t (A.ACC_W1 tb e) F.ACC_W1_PERM = getFld v F.ACC_W1_PERM % 128 := by
  obtain ⟨hm, hlo, hhi⟩ := accW1_range tb e
  refine ⟨_, registerWrite_bar0_stores ha hd hk hm hlo hhi (regFields_accW1 tb e) v, ?_⟩
  have hbit7 : ∀ w : Reg, getFld (w &&& ~~~(0x80 : Reg)) F.ACC_W1_EN = getFld w F.ACC_W1_EN := fun w =>
    getFld_congr (by rw [BitVec.and_assoc]; congr 1)
  rw [rd, rd, getR_setR_same, stored, if_pos (inGrid_accW1 tb e), writeFlds_rw (by decide), hbit7, perm_without_bit7,
    getFld_mergeMask_in (by decide), getFld_mergeMask_in (by decide)]
  exact ⟨rfl, rfl⟩

/-! ### HIF_CTL -/

/-- A 4-byte write takes its half of HIF_CTL and leaves the other half as it was (spec 00 R8). -/
theorem registerWrite_hifCtl_low (s : State) (v : Reg) (k : Key) (ha : s.asleep = false) (hd : s.defaultsDue = false)
    (hk : isWarden s k = true) :
    ∃ t : State, exec (.registerWrite (.bar0 A.HIF_CTL) 4 v k) s = .next t
      ∧ rd t A.HIF_CTL F.HIF_CTL_W0 = getFld v F.HIF_CTL_W0 ∧ rd t A.HIF_CTL F.HIF_CTL_W3 = getFld v F.HIF_CTL_W3
      ∧ rd t A.HIF_CTL F.HIF_CTL_DRAIN_LIMIT = rd s A.HIF_CTL F.HIF_CTL_DRAIN_LIMIT := by
  have hf : regFields A.HIF_CTL = some L.HIF_CTL := rfl
  have hquiet : quietValue s A.HIF_CTL = getR s A.HIF_CTL := rfl
  have hstored : ∀ w : Reg, stored A.HIF_CTL w = w := fun w => rfl
  refine ⟨_, by rw [exec_registerWrite_awake ha hd, opRegisterWrite_bar0_low (by decide) (by decide),
    setupWrite_warden hk hf (by decide), wardenWrite_stores (.inl rfl) hf], ?_⟩
  rw [rd, rd, rd, rd, getR_setR_same, hstored, hquiet, writeFlds_rw (by decide), getFld_mergeMask_in (by decide),
    getFld_mergeMask_in (by decide), getFld_mergeMask_in (by decide), getFld_mergeMask_in (by decide),
    getFld_mergeMask_in (by decide), getFld_mergeMask_out (by decide)]
  exact ⟨rfl, rfl, rfl⟩

/-- Registers that a read gives as they stand, but for the fields that read as zero: no chapter's own rule, and no LANE register. -/
theorem setupRead_plain {off : Nat} {fs : List Fld} (hf : regFields off = some fs)
    (h : off ∈ [A.HIF_CTL, A.PWR_THERM_STATUS, A.LOG_STATUS, A.LOG_SUMMARY]) (s : State) :
    setupRead s off 8 = (s, readFlds fs (getR s off)) := by
  simp only [List.mem_cons, List.not_mem_nil, or_false] at h
  rcases h with rfl | rfl | rfl | rfl <;> obtain rfl := Option.some.inj hf.symm <;> rfl

theorem registerWrite_hole (s : State) (off : Nat) (v : Reg) (k : Key) (ha : s.asleep = false) (hd : s.defaultsDue = false)
    (hm : off % 8 = 0) (hoff : off < 0x730000) (hf : regFields off = none) :
    exec (.registerWrite (.bar0 off) 8 v k) s = .next s := by
  rw [exec_registerWrite_awake ha hd, opRegisterWrite_bar0_eight hm hoff, setupWrite_hole hf]

theorem opRegisterWrite_bar0Read {off : Nat} (hoff : off < 0x730000) (s : State) (size : Nat) (v : Reg) (k : Key) :
    opRegisterWrite (.bar0Read off) size v k s = bar0Read s off size := by
  rw [opRegisterWrite, if_neg (by omega)]

/-- A read by BAR0 of a size or alignment that R8 does not allow is an Unsupported Request. -/
theorem registerRead_bad (s : State) (off size : Nat) (v : Reg) (k : Key) (ha : s.asleep = false) (hd : s.defaultsDue = false)
    (hoff : off < 0x730000) (hbad : ∀ x, regAccess off size ≠ .ok x) :
    ∃ t : State, exec (.registerWrite (.bar0Read off) size v k) s = .next t ∧ t.host.peeks = s.host.peeks ++ [HostAnswer.unsupported]
      ∧ t.regs = s.regs := by
  have hread : bar0Read s off size = hostAnswer s .unsupported := by
    unfold bar0Read
    cases h : regAccess off size with
    | ok x => exact absurd h (hbad x)
    | error st => rfl
  refine ⟨hostAnswer s .unsupported, ?_, by simp, by simp⟩
  rw [exec_registerWrite_awake ha hd, opRegisterWrite_bar0Read hoff, hread]

theorem registerRead_hifCtl (s : State) (v : Reg) (k : Key) (ha : s.asleep = false) (hd : s.defaultsDue = false) :
    exec (.registerWrite (.bar0Read A.HIF_CTL) 8 v k) s
      = .next { s with readData := readFlds L.HIF_CTL (getR s A.HIF_CTL) } := by
  have hseal : ¬(A.HIF_CTL / 8 * 8 = A.ACC_SEAL ∧ sealWaits s = true) := fun h => absurd h.1 (by decide)
  rw [exec_registerWrite_awake ha hd, opRegisterWrite_bar0Read (by decide), bar0Read, regAccess_eight (by decide)]
  simp only [if_neg hseal, setupRead_plain (off := A.HIF_CTL) rfl (by simp)]

/-! ### Requests that wait in an ingress -/

theorem serveRegister_setup {s : State} {ep n off : Nat} {g : Ingress} (hg : getIn s ep n = some g)
    (hp : placeOf s g.req.addr.toNat = .setup off) : serveRegister s ep n = serveSetup s ep n g off := by
  simp only [serveRegister, hg, hp]

/-- A read of ACC_SEAL in an ingress waits as long as the seal point has requests to wait for (spec 09 R344). -/
theorem registerRead_seal_waits (s : State) (ep : Fin 2048) (n : Fin 32) (g : Ingress) (v : Reg) (k : Key) (size off : Nat)
    (ha : s.asleep = false) (hd : s.defaultsDue = false) (hg : getIn s ep n = some g)
    (hp : placeOf s g.req.addr.toNat = .setup off) (hoff : off / 8 * 8 = A.ACC_SEAL) (hr : reqWrite g.req = false)
    (ho : outstanding s ≠ 0) (hw : rd s A.ACC_CTL F.ACC_CTL_SEAL_WAIT ≠ 0) :
    exec (.registerWrite (.ingress ep n) size v k) s = .next s := by
  rw [exec_registerWrite_awake ha hd, opRegisterWrite, serveRegister_setup hg hp]
  simp [serveSetup, hr, hoff, sealWaits_of ho hw]

theorem serveSetup_read {s : State} {ep n off : Nat} {g : Ingress} (hc : g.checked = true) (hr : reqWrite g.req = false)
    (hoff : off / 8 * 8 ≠ A.ACC_SEAL) :
    serveSetup s ep n g off = answer (setupRead s off (reqLen g.req)).1 ep n .ok
      (bytesLE (reqLen g.req) (setupRead s off (reqLen g.req)).2.toNat) := by
  simp [serveSetup, hc, hr, hoff]

theorem registerRead_ingress_hifCtl (s : State) (ep : Fin 2048) (n : Fin 32) (g : Ingress) (v : Reg) (k : Key) (size : Nat)
    (ha : s.asleep = false) (hd : s.defaultsDue = false) (hg : getIn s ep n = some g)
    (hp : placeOf s g.req.addr.toNat = .setup A.HIF_CTL) (hc : g.checked = true) (hr : reqWrite g.req = false)
    (hl : reqLen g.req = 8) :
    ∃ t : State, exec (.registerWrite (.ingress ep n) size v k) s = .next t
      ∧ answered t ep n g.req .ok (bytesLE 8 (readFlds L.HIF_CTL (getR s A.HIF_CTL)).toNat) := by
  refine ⟨_, ?_, answered_answer hg .ok (bytesLE 8 (readFlds L.HIF_CTL (getR s A.HIF_CTL)).toNat)⟩
  rw [exec_registerWrite_awake ha hd, opRegisterWrite, serveRegister_setup hg hp, serveSetup_read hc hr (by decide), hl,
    setupRead_plain rfl (by simp)]

end Sys2Proof.Proofs
end

section
/-! PROOFS. The PEEK window (spec 16 R578), the board controller (spec 14 R546), the slot selector (spec 14 R551), and
`Obligations.SetUpAccess` from the clauses. -/

namespace Sys2Proof.Proofs

open Machine Laws Claims

/-! ### Requests sent -/

/-- With a path and a landing slot the request leaves, and its slot is taken. -/
theorem sendReq_sent {s : State} {ep lo n a len tag : Nat} {dev : BitVec 16} (owner : Owner) (key : Key) (w : Bool)
    (wdata : List Byte) (hlen : 1 ≤ len ∧ len ≤ 64) (htgt : ∀ st, targetOf s dev a ≠ .fail st)
    (htag : freeTag s ep lo n = some tag) :
    ∃ (f : Flit) (l : Landing), sendReq s ep lo n owner key dev a w len wdata = .sent (pushOut (setLand s ep tag (some l)) ep f)
      ∧ f.net = .req ∧ f.op = (if w then 1 else 0) ∧ f.addr = BitVec.ofNat 48 a ∧ f.len.toNat + 1 = len
      ∧ f.src = BitVec.ofNat 11 ep ∧ f.mst = key.mst := by
  have h0 : ¬(len = 0 ∨ 64 < len) := by omega
  have hl : (BitVec.ofNat 6 (len - 1)).toNat + 1 = len := by rw [BitVec.toNat_ofNat]; omega
  unfold sendReq
  rw [if_neg h0, htag]
  cases ht : targetOf s dev a with
  | fail st => exact absurd ht (htgt st)
  | local_ d => exact ⟨_, _, rfl, rfl, rfl, rfl, hl, rfl, rfl⟩
  | gateway p => exact ⟨_, _, rfl, rfl, rfl, rfl, hl, rfl, rfl⟩

/-- Without a path the request completes at the requester's interface. -/
theorem sendReq_done {s : State} {a len : Nat} {dev : BitVec 16} {st : Status} (hlen : 1 ≤ len ∧ len ≤ 64)
    (htgt : targetOf s dev a = .fail st) (ep lo n : Nat) (owner : Owner) (key : Key) (w : Bool) (wdata : List Byte) :
    sendReq s ep lo n owner key dev a w len wdata = .done st := by
  have h0 : ¬(len = 0 ∨ 64 < len) := by omega
  unfold sendReq
  rw [if_neg h0, htgt]

/-- With a path and no landing slot the request waits. -/
theorem sendReq_wait {s : State} {ep lo n a len : Nat} {dev : BitVec 16} (hlen : 1 ≤ len ∧ len ≤ 64)
    (htgt : ∀ st, targetOf s dev a ≠ .fail st) (htag : freeTag s ep lo n = none) (owner : Owner) (key : Key) (w : Bool)
    (wdata : List Byte) : sendReq s ep lo n owner key dev a w len wdata = .wait := by
  have h0 : ¬(len = 0 ∨ 64 < len) := by omega
  unfold sendReq
  rw [if_neg h0, htag]
  cases ht : targetOf s dev a with
  | fail st => exact absurd ht (htgt st)
  | local_ d => rfl
  | gateway p => rfl

@[simp] theorem outReq_setLand (s : State) (ep tag : Nat) (x : Option Landing) (ep' : Nat) :
    (getEp (setLand s ep tag x) ep').outReq = (getEp s ep').outReq := by
  by_cases he : ep' = ep
  · subst he; simp [setLand]
  · rw [setLand, getEp_setEp_ne _ _ _ _ he]

theorem outReq_pushOut {f : Flit} (h : f.net = .req) (s : State) (ep : Nat) :
    (getEp (pushOut s ep f) ep).outReq = (getEp s ep).outReq ++ [f] := by
  simp [pushOut, h, epOut, epSetOut]

/-! ### The PEEK window -/

theorem exec_peekAccess (s : State) (w : Bool) (off size : Nat) (v : Reg) :
    exec (.peekAccess w off size v) s = .next (hostAccess (opPeekAccess w off size v) s) := rfl

theorem exec_peekAccess_awake {s : State} (ha : s.asleep = false) (hd : s.defaultsDue = false) (w : Bool) (off size : Nat)
    (v : Reg) : exec (.peekAccess w off size v) s = .next (opPeekAccess w off size v s) := by
  rw [exec_peekAccess, hostAccess_awake ha hd]

/-- A set-up access of the host, a register access or a PEEK, does nothing while the host is shut out (spec 01 R25; spec 14 R544). -/
theorem setUp_barred (s : State) (d : RegDst) (w : Bool) (off size : Nat) (v : Reg) (k : Key)
    (h : s.asleep = true ∨ s.defaultsDue = true) :
    exec (.registerWrite d size v k) s = .next s ∧ exec (.peekAccess w off size v) s = .next s := by
  rw [exec_registerWrite, exec_peekAccess, hostAccess_barred h, hostAccess_barred h]
  exact ⟨rfl, rfl⟩

/-- The PEEK window of BAR0 takes an access inside it while the link is up (spec 16 R578). -/
theorem peekWindow_open {s : State} {off : Nat} (hoff : off < 0x1000000) (hup : linkUp s = true) :
    ¬(0x1000000 ≤ off ∨ (!linkUp s) = true) := by rw [hup]; simpa using hoff

theorem peekAccess_bad (s : State) (w : Bool) (off size : Nat) (v : Reg) (ha : s.asleep = false) (hd : s.defaultsDue = false)
    (hoff : off < 0x1000000) (hup : linkUp s = true) (hbad : (size ≠ 4 ∧ size ≠ 8) ∨ off % size ≠ 0) :
    ∃ t : State, exec (.peekAccess w off size v) s = .next t ∧ t.host.peeks = s.host.peeks ++ [HostAnswer.unsupported]
      ∧ t.eps = s.eps ∧ t.regs = s.regs := by
  refine ⟨hostAnswer s .unsupported, ?_, by simp, by simp, by simp⟩
  rw [exec_peekAccess_awake ha hd, opPeekAccess, if_neg (peekWindow_open hoff hup), if_pos hbad]

/-- The state with one PEEK access waiting. -/
def withPeek (s : State) (x : PeekWait) : State := { s with host := { s.host with peekWait := [x] } }

/-- The outcome of sending the request of the PEEK access `x`. -/
def sendPeek (s : State) (x : PeekWait) : SendRes :=
  sendReq s (ringPort 0) 0 256 .peek ⟨devId s, 0x203F⟩ (BitVec.ofNat 16 (x.addr.toNat / 2 ^ 48)) (x.addr.toNat % 2 ^ 48) x.write
    x.size (if x.write then bytesLE x.size x.value.toNat else [])

/-- What the outcome of its request makes of the waiting PEEK access `x`. -/
def afterPeek (s : State) (x : PeekWait) : SendRes → State
  | .sent t => { t with host := { t.host with peekWait := [] } }
  | .done st => peekFail { s with host := { s.host with peekWait := [] } } st x.addr.toNat
  | .wait => withPeek s x

theorem getEp_withPeek (s : State) (x : PeekWait) (ep : Nat) : getEp (withPeek s x) ep = getEp s ep := rfl

theorem getEp_afterPeek_sent (s : State) (x : PeekWait) (t : State) (ep : Nat) : getEp (afterPeek s x (.sent t)) ep = getEp t ep := rfl

/-- One waiting PEEK access becomes a request, fails, or goes on waiting. -/
theorem peeksGo_one (s : State) (x : PeekWait) : peeksGo (withPeek s x) = afterPeek s x (sendPeek (withPeek s x) x) := by
  have h : peeksGo (withPeek s x) = sendPeeks 1 (withPeek s x) := rfl
  rw [h]
  rfl

/-- With a path and a landing slot it is a request of the warden, the last to leave the port. -/
theorem peeksGo_sent {s : State} {x : PeekWait}
    (h : maySend s 0 (BitVec.ofNat 16 (x.addr.toNat / 2 ^ 48)) (x.addr.toNat % 2 ^ 48) x.size) :
    asked s (peeksGo (withPeek s x)) 0 (x.addr.toNat % 2 ^ 48) x.write x.size
      ∧ ∃ f ∈ (getEp (peeksGo (withPeek s x)) (ringPort 0)).outReq,
          f.mst = 0x203F ∧ f.addr = BitVec.ofNat 48 (x.addr.toNat % 2 ^ 48) := by
  obtain ⟨hlo, hhi, htgt, htag⟩ := h
  obtain ⟨tag, htag⟩ := Option.ne_none_iff_exists'.mp htag
  obtain ⟨f, l, hsent, hnet, hop, haddr, hlen, hsrc, hmst⟩ : ∃ (f : Flit) (l : Landing), sendPeek (withPeek s x) x = _ ∧ _ :=
    sendReq_sent (s := withPeek s x) .peek ⟨devId s, 0x203F⟩ x.write _ ⟨hlo, hhi⟩ htgt htag
  have hout : (getEp (peeksGo (withPeek s x)) (ringPort 0)).outReq = (getEp s (ringPort 0)).outReq ++ [f] := by
    rw [peeksGo_one, hsent, getEp_afterPeek_sent, outReq_pushOut hnet, outReq_setLand, getEp_withPeek]
  refine ⟨⟨f, hout, hnet, hop, haddr, hlen, by rw [hsrc]; decide⟩, f, ?_, hmst, haddr⟩
  exact hout ▸ List.mem_append_right _ (List.mem_singleton.mpr rfl)

theorem peekFail_eps (s : State) (st : Status) (a : Nat) : (peekFail s st a).eps = s.eps := by simp [peekFail]

theorem peekFail_peeks (s : State) (st : Status) (a : Nat) : (peekFail s st a).host.peeks = s.host.peeks ++ [HostAnswer.failed st] := by
  simp [peekFail]

/-- Without a path its failure is recorded. -/
theorem peeksGo_failed {s : State} {x : PeekWait} {st : Status} (hlen : 1 ≤ x.size ∧ x.size ≤ 64)
    (htgt : targetOf s (BitVec.ofNat 16 (x.addr.toNat / 2 ^ 48)) (x.addr.toNat % 2 ^ 48) = .fail st) :
    (peeksGo (withPeek s x)).host.peeks = s.host.peeks ++ [HostAnswer.failed st] ∧ (peeksGo (withPeek s x)).eps = s.eps := by
  have hdone : sendPeek (withPeek s x) x = .done st := sendReq_done (s := withPeek s x) hlen htgt _ _ _ _ _ _ _
  rw [peeksGo_one, hdone]
  exact ⟨peekFail_peeks _ _ _, peekFail_eps _ _ _⟩

/-- With a path and no landing slot it goes on waiting. -/
theorem peeksGo_waits {s : State} {x : PeekWait} (hlen : 1 ≤ x.size ∧ x.size ≤ 64)
    (htgt : ∀ st, targetOf s (BitVec.ofNat 16 (x.addr.toNat / 2 ^ 48)) (x.addr.toNat % 2 ^ 48) ≠ .fail st)
    (htag : freeTag s (ringPort 0) 0 256 = none) : peeksGo (withPeek s x) = withPeek s x := by
  have hwait : sendPeek (withPeek s x) x = .wait := sendReq_wait (s := withPeek s x) hlen htgt htag _ _ _ _
  rw [peeksGo_one, hwait, afterPeek]

theorem peekAddr_eq (b : Reg) (off : Nat) : b + BitVec.ofNat 64 off = BitVec.ofNat 64 ((b.toNat + off) % 2 ^ 64) := by
  refine BitVec.eq_of_toNat_eq ?_
  simp [BitVec.toNat_add]

/-- A good PEEK access, with none before it, tries to send its request. -/
theorem opPeekAccess_good {s : State} {off size a : Nat} (hsize : size = 4 ∨ size = 8) (hal : off % size = 0)
    (hoff : off < 0x1000000) (hup : linkUp s = true) (ha : a = ((getR s A.PEEK_BASE).toNat + off) % 2 ^ 64)
    (hw : s.host.peekWait = []) (w : Bool) (v : Reg) :
    opPeekAccess w off size v s = peeksGo (withPeek s ⟨w, BitVec.ofNat 64 a, size, v⟩) := by
  have hgood : ¬((size ≠ 4 ∧ size ≠ 8) ∨ off % size ≠ 0) := by omega
  rw [opPeekAccess, if_neg (peekWindow_open hoff hup), if_neg hgood, peekAddr_eq, ← ha, hw]
  rfl

/-- PEEK_ACCESS of a good size and alignment: sent, failed, or waiting for a landing slot. -/
theorem peekAccess_good (s : State) (w : Bool) (off size a : Nat) (v : Reg) (hs : s.asleep = false) (hd : s.defaultsDue = false)
    (hsize : size = 4 ∨ size = 8) (hal : off % size = 0) (hoff : off < 0x1000000) (hup : linkUp s = true)
    (ha : a = ((getR s A.PEEK_BASE).toNat + off) % 2 ^ 64) (hw : s.host.peekWait = []) :
    (maySend s 0 (BitVec.ofNat 16 (a / 2 ^ 48)) (a % 2 ^ 48) size →
        ∃ t : State, exec (.peekAccess w off size v) s = .next t ∧ asked s t 0 (a % 2 ^ 48) w size
          ∧ ∃ f ∈ (getEp t (ringPort 0)).outReq, f.mst = 0x203F ∧ f.addr = BitVec.ofNat 48 (a % 2 ^ 48))
      ∧ (∀ st : Status, targetOf s (BitVec.ofNat 16 (a / 2 ^ 48)) (a % 2 ^ 48) = .fail st →
        ∃ t : State, exec (.peekAccess w off size v) s = .next t ∧ t.host.peeks = s.host.peeks ++ [HostAnswer.failed st] ∧ t.eps = s.eps)
      ∧ ((∀ st : Status, targetOf s (BitVec.ofNat 16 (a / 2 ^ 48)) (a % 2 ^ 48) ≠ .fail st) → freeTag s (ringPort 0) 0 256 = none →
        ∃ t : State, exec (.peekAccess w off size v) s = .next t ∧ t.host.peekWait = [⟨w, BitVec.ofNat 64 a, size, v⟩]
          ∧ t.host.peeks = s.host.peeks) := by
  have hlen : 1 ≤ size ∧ size ≤ 64 := by omega
  have ha64 : (BitVec.ofNat 64 a).toNat = a := by rw [BitVec.toNat_ofNat, ha, Nat.mod_mod]
  obtain ⟨x, hx⟩ : ∃ x : PeekWait, x = ⟨w, BitVec.ofNat 64 a, size, v⟩ := ⟨_, rfl⟩
  have hxa : x.addr.toNat = a := by rw [hx, ha64]
  have hexec : exec (.peekAccess w off size v) s = .next (peeksGo (withPeek s x)) := by
    rw [exec_peekAccess_awake hs hd, opPeekAccess_good hsize hal hoff hup ha hw, hx]
  obtain rfl : w = x.write := by rw [hx]
  obtain rfl : size = x.size := by rw [hx]
  rw [hexec, ← hx, ← hxa]
  refine ⟨fun h => ⟨_, rfl, peeksGo_sent h⟩, fun st htgt => ⟨_, rfl, peeksGo_failed hlen htgt⟩, fun htgt htag => ⟨_, rfl, ?_⟩⟩
  rw [peeksGo_waits hlen htgt htag]
  exact ⟨rfl, rfl⟩

/-! ### The board controller -/

theorem smbusOffsetWrite_sets (s : State) (off : BitVec 32) :
    exec (.smbusOffsetWrite off true) s = .next { s with asleep := false, smbusOff := off }
      ∧ exec (.smbusOffsetWrite off false) s = .next { s with asleep := false } := ⟨rfl, rfl⟩

theorem opSmbusRead_hidden {s : State} (h : smbusReads s.smbusOff.toNat = false) :
    opSmbusRead true s = { s with asleep := false, readData := 0 } := by simp [opSmbusRead, h]

/-- A block read of a register that the board controller may read as it stands. -/
theorem opSmbusRead_plain {s : State} {fs : List Fld} (hf : regFields s.smbusOff.toNat = some fs)
    (h : s.smbusOff.toNat = A.PWR_THERM_STATUS ∨ s.smbusOff.toNat = A.LOG_STATUS ∨ s.smbusOff.toNat = A.LOG_SUMMARY) :
    opSmbusRead true s = { s with asleep := false, readData := readFlds fs (getR s s.smbusOff.toNat) } := by
  have hreads : smbusReads s.smbusOff.toNat = true ∧ s.smbusOff.toNat % 8 = 0 := by
    rcases h with h | h | h <;> rw [h] <;> decide
  have hread := setupRead_plain hf (by simp [h]) { s with asleep := false }
  simp only [opSmbusRead, Bool.not_true, Bool.false_eq_true, if_false, hreads, and_self, if_true, hread]
  rfl

theorem smbusBlockRead_reads (s : State) : exec (.smbusBlockRead false) s = .next { s with asleep := false }
    ∧ (∃ t : State, exec (.smbusBlockRead true) s = .next t
      ∧ (smbusReads s.smbusOff.toNat = false → t = { s with asleep := false, readData := 0 })
      ∧ (∀ fs : List Fld, regFields s.smbusOff.toNat = some fs →
          (s.smbusOff.toNat = A.PWR_THERM_STATUS ∨ s.smbusOff.toNat = A.LOG_STATUS ∨ s.smbusOff.toNat = A.LOG_SUMMARY) →
          t = { s with asleep := false, readData := readFlds fs (getR s s.smbusOff.toNat) })) :=
  ⟨rfl, opSmbusRead true s, rfl, opSmbusRead_hidden, fun _ hf h => opSmbusRead_plain hf h⟩

theorem inRow_recResponse_iff (o : Nat) : inRow o 0x710020 4 8 = true ↔ ∃ k : Fin 4, o = A.REC_RESPONSE k := by
  simp only [inRow, decide_eq_true_eq, A.REC_RESPONSE]
  refine ⟨fun h => ⟨⟨(o - 0x710020) / 8, h.2.2⟩, by dsimp only; omega⟩, ?_⟩
  rintro ⟨k, rfl⟩
  omega

theorem opSmbusWrite_response {off : BitVec 32} {k : Fin 4} (h : off.toNat = A.REC_RESPONSE k) (s : State) (v : Reg) :
    opSmbusWrite off v true s = writeResponse { s with asleep := false } k v := by
  have hctl : A.REC_RESPONSE k ≠ A.REC_CTL := by simp only [A.REC_RESPONSE, A.REC_CTL]; omega
  have hix : (A.REC_RESPONSE k - 0x710020) / 8 = k := by simp only [A.REC_RESPONSE]; omega
  simp only [opSmbusWrite, h, Bool.not_true, Bool.false_eq_true, if_false, hctl, (inRow_recResponse_iff _).mpr ⟨k, rfl⟩, if_true, hix]

theorem opSmbusWrite_other {off : BitVec 32} (hctl : off.toNat ≠ A.REC_CTL) (hclear : off.toNat ≠ A.REC_CLEAR)
    (hresp : ∀ k : Fin 4, off.toNat ≠ A.REC_RESPONSE k) (s : State) (v : Reg) :
    opSmbusWrite off v true s = { s with asleep := false } := by
  have hrow : ¬inRow off.toNat 0x710020 4 8 = true := fun h => by
    obtain ⟨k, hk⟩ := (inRow_recResponse_iff _).mp h
    exact hresp k hk
  simp only [opSmbusWrite, Bool.not_true, Bool.false_eq_true, if_false, hctl, hclear, hrow]

theorem smbusWrite_writes (s : State) (off : BitVec 32) (v : Reg) :
    exec (.smbusWrite off v false) s = .next { s with asleep := false }
      ∧ (∀ k : Fin 4, off.toNat = A.REC_RESPONSE k →
        ∃ t : State, exec (.smbusWrite off v true) s = .next t ∧ smGet 0 t.recorder.response k = v ∧ t.regs = s.regs)
      ∧ (off.toNat ≠ A.REC_CTL → off.toNat ≠ A.REC_CLEAR → (∀ k : Fin 4, off.toNat ≠ A.REC_RESPONSE k) →
        exec (.smbusWrite off v true) s = .next { s with asleep := false }) := by
  have hexec : exec (.smbusWrite off v true) s = .next (opSmbusWrite off v true s) := rfl
  refine ⟨rfl, fun k hk => ?_, fun hctl hclear hresp => ?_⟩
  · rw [hexec, opSmbusWrite_response hk]
    exact ⟨_, rfl, smGet_smSet_same _ _ _ _, rfl⟩
  · rw [hexec, opSmbusWrite_other hctl hclear hresp]

/-! ### The slot selector -/

theorem leBytes_bytesLE (n v : Nat) : leBytes (bytesLE n v) = v % 256 ^ n := by
  induction n generalizing v with
  | zero => simp [bytesLE, leBytes, Nat.mod_one]
  | succ n ih =>
    rw [bytesLE, leBytes, ih, BitVec.toNat_ofNat, Nat.pow_succ' (n := n)]
    exact Nat.mod_mul.symm

theorem length_bytesLE (n v : Nat) : (bytesLE n v).length = n := by
  induction n generalizing v with
  | zero => rfl
  | succ n ih => rw [bytesLE, List.length_cons, ih]

/-- A number that has been written to the NV store reads back. -/
theorem leBytes_nvRead_nvWrite (s : State) (a n v : Nat) : leBytes (nvRead (nvWrite s a (bytesLE n v)) a n) = v % 256 ^ n := by
  have h := nvRead_nvWrite s a 0 n (bytesLE n v) (by rw [length_bytesLE, Nat.zero_add])
  rw [Nat.add_zero, List.drop_zero, List.take_of_length_le (by rw [length_bytesLE])] at h
  rw [h, leBytes_bytesLE]

theorem exec_nviSlotSelWrite (s : State) (v : Reg) :
    exec (.nviSlotSelWrite v) s = .next (hostAccess (opNviSlotSelWrite v) s) := rfl

theorem nviSlotSelWrite_stores (s : State) (v : Reg) (ha : s.asleep = false) (hd : s.defaultsDue = false) :
    (getFld v F.NVI_SLOT_SEL_SELECT ≠ 3 → ∃ t : State, exec (.nviSlotSelWrite v) s = .next t
        ∧ nvSelector t = getFld v F.NVI_SLOT_SEL_SELECT ∧ rd t A.NVI_SLOT_SEL F.NVI_SLOT_SEL_SELECT = getFld v F.NVI_SLOT_SEL_SELECT
        ∧ rd t A.NVI_STATUS F.NVI_STATUS_BUSY = 1)
      ∧ (getFld v F.NVI_SLOT_SEL_SELECT = 3 → exec (.nviSlotSelWrite v) s = .next s) := by
  have hexec : exec (.nviSlotSelWrite v) s = .next (writeSlotSel s v) := by
    rw [exec_nviSlotSelWrite, hostAccess_awake ha hd, opNviSlotSelWrite]
  have hlt : getFld v F.NVI_SLOT_SEL_SELECT < 4 := getFld_lt v _
  rw [hexec]
  refine ⟨fun h3 => ?_, fun h3 => by rw [writeSlotSel, if_pos h3]⟩
  rw [writeSlotSel, if_neg h3]
  refine ⟨_, rfl, ?_, ?_, ?_⟩
  · have hword := leBytes_nvRead_nvWrite s 0x020FF8 8 (getFld v F.NVI_SLOT_SEL_SELECT)
    rw [Nat.mod_eq_of_lt (by omega)] at hword
    show (let w := leBytes (nvRead (nvWrite s 0x020FF8 (bytesLE 8 (getFld v F.NVI_SLOT_SEL_SELECT))) 0x020FF8 8)
      if w ≤ 2 then w else 0) = _
    rw [hword]
    exact if_pos (by omega)
  · rw [rd_wr_same (by decide)]
    exact Nat.mod_eq_of_lt hlt
  · rw [rd_wr_reg_ne (by decide), nvBusy, rd_wr_same (by decide)]
    rfl

/-! ### The obligation -/

/-- Settles O51, clause by clause: ACC_SEAL, set-up registers by BAR0 and in an ingress, the PEEK window, the board controller and
the slot selector. -/
theorem setUpAccess : Obligations.SetUpAccess :=
  ⟨accSealWrite_other, accSealWrite_seals, accSealWrite_aborts, accSealRead_returns, accSealRead_waits, registerRead_seal_waits,
    fun _ tb e v _ ha hd hk => ⟨registerWrite_accW0 ha hd hk tb e v, registerWrite_accW1 ha hd hk tb e v⟩,
    registerWrite_hifCtl_low, registerWrite_hole,
    fun s off size v k ha hd hoff => ⟨registerRead_bad s off size v k ha hd hoff,
      fun _ hsize hctl => by rw [hsize, hctl]; exact registerRead_hifCtl s v k ha hd⟩,
    registerRead_ingress_hifCtl, peekAccess_good, peekAccess_bad, setUp_barred, smbusOffsetWrite_sets, smbusBlockRead_reads,
    smbusWrite_writes, nviSlotSelWrite_stores⟩

end Sys2Proof.Proofs
end

section
/-! PROOFS. Which commands reach the command queue and tile memory: none writes the queue, and all but a few write no memory. -/

namespace Sys2Proof.Proofs

open Machine Laws Claims

/-- The command queue and tile space: what a command leaves alone unless it is one of the few that write memory. -/
def queueMem (s : State) : List Instr × List Host.Cell := (s.pending, s.mem)

@[simp] theorem queueMem_mk (p r t m ee xb ts tb fi bo br sv ep li th mi ag le tr gr po ex ft ho la tn lo ch fl au df dd so cf as tl
    rs sp rl rdd lg rc nv mx tm fr) :
    queueMem ⟨p, r, t, m, ee, xb, ts, tb, fi, bo, br, sv, ep, li, th, mi, ag, le, tr, gr, po, ex, ft, ho, la, tn, lo, ch, fl, au, df,
      dd, so, cf, as, tl, rs, sp, rl, rdd, lg, rc, nv, mx, tm, fr⟩ = (p, m) := (rfl)

@[simp] theorem queueMem_fold (s : State) : (s.pending, s.mem) = queueMem s := (rfl)

@[simp] theorem queueMem_ite (p : Prop) [Decidable p] (s t : State) :
    queueMem (if p then s else t) = if p then queueMem s else queueMem t := apply_ite queueMem p s t

@[simp] theorem queueMem_foldl {α : Type} {f : State → α → State} (h : ∀ s x, queueMem (f s x) = queueMem s) (l : List α) (s : State) :
    queueMem (l.foldl f s) = queueMem s := foldl_keeps queueMem h l s

/-! ### The named operations over the state that every chapter shares -/

@[simp] theorem queueMem_setR (s : State) (off : Nat) (v : Reg) : queueMem (setR s off v) = queueMem s := by simp [setR]

@[simp] theorem queueMem_wr (s : State) (off : Nat) (f : Fld) (x : Nat) : queueMem (wr s off f x) = queueMem s := by
  simp [wr]

@[simp] theorem queueMem_bump (s : State) (off : Nat) (f : Fld) (n : Nat) : queueMem (bump s off f n) = queueMem s := by
  simp [bump]

@[simp] theorem queueMem_setT (s : State) (i : Nat) (t : Tile) : queueMem (setT s i t) = queueMem s := by simp [setT]

@[simp] theorem queueMem_setFS (s : State) (f : Nat) (x : FieldSt) : queueMem (setFS s f x) = queueMem s := by
  simp [setFS]

@[simp] theorem queueMem_useFree (s : State) : queueMem (useFree s) = queueMem s := by simp [useFree]

@[simp] theorem queueMem_wakeReq (s : State) (f : Nat) : queueMem (wakeReq s f) = queueMem s := by simp [wakeReq]

@[simp] theorem queueMem_raiseVec (s : State) (fn k : Nat) : queueMem (raiseVec s fn k) = queueMem s := by
  simp [raiseVec]

@[simp] theorem queueMem_raiseIf (s : State) (ie : Bool) (k : Nat) : queueMem (raiseIf s ie k) = queueMem s := by
  simp [raiseIf]

@[simp] theorem queueMem_recCount (s : State) (off n : Nat) : queueMem (recCount s off n) = queueMem s := by
  simp [recCount]

@[simp] theorem queueMem_recClass (s : State) (c n : Nat) : queueMem (recClass s c n) = queueMem s := by simp [recClass]

@[simp] theorem queueMem_setLatch (s : State) (source : Nat) (l : Option LogLatch) :
    queueMem (setLatch s source l) = queueMem s := by
  simp [setLatch]

@[simp] theorem queueMem_logLatch (s : State) (r : Report) : queueMem (logLatch s r) = queueMem s := by
  unfold logLatch
  split <;> simp

@[simp] theorem queueMem_eventVec (s : State) (code : Nat) : queueMem (eventVec s code) = queueMem s := by
  simp [eventVec]

@[simp] theorem queueMem_report (s : State) (source : Nat) (unit : BitVec 32) (code : Nat) (det : List Byte) :
    queueMem (report s source unit code det) = queueMem s := by
  simp [report]

@[simp] theorem queueMem_reportTile (s : State) (i code : Nat) (det : List Byte) :
    queueMem (reportTile s i code det) = queueMem s := by
  simp [reportTile]

@[simp] theorem queueMem_setEp (s : State) (ep : Nat) (x : Endpoint) : queueMem (setEp s ep x) = queueMem s := by
  simp [setEp]

@[simp] theorem queueMem_setIn (s : State) (ep n : Nat) (x : Option Ingress) :
    queueMem (setIn s ep n x) = queueMem s := by
  simp [setIn]

@[simp] theorem queueMem_mapPort (s : State) (i op lo hi : Nat) (g : Ingress → Ingress) (k : Nat → Nat) :
    queueMem (mapPort s i op lo hi g k) = queueMem s := by
  simp [mapPort]

@[simp] theorem queueMem_portServed (s : State) (i op lo hi : Nat) :
    queueMem (portServed s i op lo hi) = queueMem s := by
  simp [portServed]

@[simp] theorem queueMem_portUsed (s : State) (i op lo hi : Nat) (same : Nat → Bool) :
    queueMem (portUsed s i op lo hi same) = queueMem s := by
  simp [portUsed]

@[simp] theorem queueMem_aerNote (s : State) (e : HostFail) : queueMem (aerNote s e) = queueMem s := by simp [aerNote]

@[simp] theorem queueMem_hostFails (s : State) (e : HostFail) : queueMem (hostFails s e) = queueMem s := by
  simp [hostFails]

@[simp] theorem queueMem_hostAnswer (s : State) (a : HostAnswer) : queueMem (hostAnswer s a) = queueMem s := by
  unfold hostAnswer
  split <;> simp

@[simp] theorem queueMem_engine {f : State → State} (h : ∀ s, queueMem (f s) = queueMem s) (s : State) :
    queueMem (engine f s) = queueMem s := by
  simp [engine, h]

@[simp] theorem queueMem_hostAccess {f : State → State} (h : ∀ s, queueMem (f s) = queueMem s) (s : State) :
    queueMem (hostAccess f s) = queueMem s := by
  simp [hostAccess, h]

/-! ### The A-tile opcodes -/

@[simp] theorem queueMem_fireAlu (op : Nat) (f : AIn → ARes) (i : TileIx) (s : State) :
    queueMem (fireAlu op f i s) = queueMem s := by
  simp [fireAlu]

/-! ### The common stream operations, the dropping of a PAD word, TCMD and the chained opcodes of A-tiles -/

@[simp] theorem queueMem_fireStr (op : Nat) (f : Tile → Frame → Option SRes) (i : TileIx) (s : State) :
    queueMem (fireStr op f i s) = queueMem s := by
  unfold fireStr
  dsimp only
  repeat' split
  all_goals simp

@[simp] theorem queueMem_opDropPad (i : TileIx) (s : State) : queueMem (opDropPad i s) = queueMem s := by
  simp [opDropPad]

@[simp] theorem queueMem_fireChain (op : Nat) (i : TileIx) (s : State) : queueMem (fireChain op i s) = queueMem s := by
  unfold fireChain
  dsimp only
  repeat' split
  all_goals simp

/-! ### Multiply-accumulate tiles -/

@[simp] theorem queueMem_xyFail (s : State) (i : Nat) (y : Bool) (a : Nat) :
    queueMem (xyFail s i y a) = queueMem s := by
  simp [xyFail]

/-! ### Masters, access tables, the checks that precede them, and the record of a denial -/

@[simp] theorem queueMem_denyWith (s : State) (k : Key) (remote train : Bool) (unit : BitVec 32) (addr perm table code : Nat) :
    queueMem (denyWith s k remote train unit addr perm table code) = queueMem s := by
  simp [denyWith]

/-! ### Requests and responses as the endpoints make them -/

@[simp] theorem queueMem_netCount (s : State) (n k : Nat) : queueMem (netCount s n k) = queueMem s := by simp [netCount]

@[simp] theorem queueMem_devCount (s : State) (k : Nat) : queueMem (devCount s k) = queueMem s := by simp [devCount]

@[simp] theorem queueMem_atEndpoint {f : State → State} (h : ∀ s, queueMem (f s) = queueMem s) (ep : Nat) (s : State) :
    queueMem (atEndpoint ep f s) = queueMem s := by
  simp [atEndpoint, h]

@[simp] theorem queueMem_pushOut (s : State) (ep : Nat) (f : Flit) : queueMem (pushOut s ep f) = queueMem s := by
  simp [pushOut]

@[simp] theorem queueMem_popIn (s : State) (ep : Nat) (n : Net) : queueMem (popIn s ep n) = queueMem s := by
  simp [popIn]

@[simp] theorem queueMem_pushIn (s : State) (ep : Nat) (f : Flit) : queueMem (pushIn s ep f) = queueMem s := by
  simp [pushIn]

@[simp] theorem queueMem_setLand (s : State) (ep tag : Nat) (x : Option Landing) :
    queueMem (setLand s ep tag x) = queueMem s := by
  simp [setLand]

/-- A request that has been sent stands at an endpoint. -/
theorem queueMem_sendReq {s t : State} {ep lo n : Nat} {owner : Owner} {key : Key} {dev : BitVec 16} {a : Nat} {write : Bool} {len : Nat}
    {wdata : List Byte} (h : sendReq s ep lo n owner key dev a write len wdata = .sent t) : queueMem t = queueMem s := by
  unfold sendReq at h
  split at h
  · cases h
  · split at h
    · cases h
    · split at h
      · cases h
      · cases h; simp

@[simp] theorem queueMem_respond (s : State) (ep : Nat) (req : Flit) (st : Status) (data : List Byte) (count endTag : Nat)
    (conflict : Bool) :
    queueMem (respond s ep req st data count endTag conflict) = queueMem s := by
  simp [respond]

@[simp] theorem queueMem_answerC (s : State) (ep n : Nat) (st : Status) (data : List Byte) (endTag : Nat) (conflict : Bool) :
    queueMem (answerC s ep n st data endTag conflict) = queueMem s := by
  unfold answerC
  split <;> simp

@[simp] theorem queueMem_answer (s : State) (ep n : Nat) (st : Status) (data : List Byte) :
    queueMem (answer s ep n st data) = queueMem s := by
  simp [answer]

@[simp] theorem queueMem_answerDown (s : State) (ep n : Nat) : queueMem (answerDown s ep n) = queueMem s := by
  simp [answerDown]

/-! ### Banks with their ECC, the queue controller's rows and delay regions -/

@[simp] theorem queueMem_setB (s : State) (i : Nat) (f : BPart → BPart) : queueMem (setB s i f) = queueMem s := by
  simp [setB]

@[simp] theorem queueMem_noteB (s : State) (i : Nat) (f : BPart → BPart) : queueMem (noteB s i f) = queueMem s := by
  simp [noteB]

@[simp] theorem queueMem_bStat (s : State) (i k : Nat) : queueMem (bStat s i k) = queueMem s := by simp [bStat]

@[simp] theorem queueMem_bumpConflicts (s : State) (i : Nat) : queueMem (bumpConflicts s i) = queueMem s := by
  simp [bumpConflicts]

@[simp] theorem queueMem_setMi (s : State) (m : Nat) (x : MirrorSt) : queueMem (setMi s m x) = queueMem s := by
  simp [setMi]

@[simp] theorem queueMem_markDirty (s : State) (i off n : Nat) : queueMem (markDirty s i off n) = queueMem s := by
  simp [markDirty]

@[simp] theorem queueMem_eccUnc (s : State) (i r : Nat) : queueMem (eccUnc s i r) = queueMem s := by simp [eccUnc]

@[simp] theorem queueMem_eccCorr (s : State) (i h : Nat) : queueMem (eccCorr s i h) = queueMem s := by simp [eccCorr]

@[simp] theorem queueMem_readHalf (s : State) (i off : Nat) : queueMem (readHalf s i off).1 = queueMem s := by
  unfold readHalf
  split
  · simp
  · split <;> simp

@[simp] theorem queueMem_readHalves (s : State) (i : Nat) (hs : List Nat) :
    queueMem (readHalves s i hs).1 = queueMem s := by
  unfold readHalves
  exact foldl_keeps (fun r : State × Bool => queueMem r.1) (fun r h => by simp) hs (s, false)

@[simp] theorem queueMem_bankServed (s : State) (i : Nat) : queueMem (bankServed s i) = queueMem s := by
  simp [bankServed]

@[simp] theorem queueMem_bankUsed (s : State) (i off n : Nat) : queueMem (bankUsed s i off n) = queueMem s := by
  simp [bankUsed]

@[simp] theorem queueMem_setQ (s : State) (i n : Nat) (q : BQueue) : queueMem (setQ s i n q) = queueMem s := by
  simp [setQ]

@[simp] theorem queueMem_takeRow (s : State) (i r : Nat) : queueMem (takeRow s i r).1 = queueMem s := by simp [takeRow]

@[simp] theorem queueMem_moveIn (s : State) (i n : Nat) : queueMem (moveIn s i n) = queueMem s := by simp [moveIn]

@[simp] theorem queueMem_takeWord (s : State) (i n : Nat) : queueMem (takeWord s i n).1 = queueMem s := by
  unfold takeWord
  dsimp only
  repeat' split
  all_goals simp

@[simp] theorem queueMem_levelCross (s : State) (i n before after : Nat) :
    queueMem (levelCross s i n before after) = queueMem s := by
  simp [levelCross]

@[simp] theorem queueMem_reshape (s : State) (i n k : Nat) : queueMem (reshape s i n k) = queueMem s := by
  induction k generalizing s with
  | zero => rfl
  | succ k ih => rw [reshape, ih]; simp

@[simp] theorem queueMem_pushWords (s : State) (i n : Nat) (ws : List SWord) :
    queueMem (pushWords s i n ws) = queueMem s := by
  simp [pushWords]

@[simp] theorem queueMem_misuse (s : State) (i : Nat) : queueMem (misuse s i) = queueMem s := by simp [misuse]

@[simp] theorem queueMem_releaseHeld (s : State) (i n : Nat) (st : Status) :
    queueMem (releaseHeld s i n st) = queueMem s := by
  simp [releaseHeld]

@[simp] theorem queueMem_flushQ (s : State) (i n : Nat) : queueMem (flushQ s i n) = queueMem s := by simp [flushQ]

/-! ### B-tile opcodes, row moves, gateway answers, and the last stage of the pipelines -/

@[simp] theorem queueMem_gwIssue (s : State) (i k q : Nat) (load : Bool) (a data : Word) :
    queueMem (gwIssue s i k q load a data) = queueMem s := by
  unfold gwIssue
  dsimp only
  split
  · simp
  · split
    · next h => simp [queueMem_sendReq h]
    · simp
    · simp

@[simp] theorem queueMem_opGatewayResponse (i : TileIx) (k : Fin 32) (s : State) :
    queueMem (opGatewayResponse i k s) = queueMem s := by
  unfold opGatewayResponse
  split
  · split <;> simp
  · simp

@[simp] theorem queueMem_opEccWriteback (i : TileIx) (h : Fin 8192) (s : State) :
    queueMem (opEccWriteback i h s) = queueMem s := by
  simp [opEccWriteback]

@[simp] theorem queueMem_opPipelineLatch (i : TileIx) (s : State) : queueMem (opPipelineLatch i s) = queueMem s := by
  simp [opPipelineLatch]

/-! ### Segments, skid buffers, seam buffers and bridle cells, and WAVE firings -/

@[simp] theorem queueMem_opSegmentAccept (i : TileIx) (j : Fin 24) (s : State) :
    queueMem (opSegmentAccept i j s) = queueMem s := by
  unfold opSegmentAccept
  repeat' split
  all_goals simp

@[simp] theorem queueMem_opSeamWrite (i : TileIx) (j : Fin 24) (s : State) :
    queueMem (opSeamWrite i j s) = queueMem s := by
  unfold opSeamWrite
  split
  · simp
  · split <;> simp

@[simp] theorem queueMem_sinkAdd (s : State) (own sd n : Nat) : queueMem (sinkAdd s own sd n) = queueMem s := by
  simp [sinkAdd]

@[simp] theorem queueMem_opSinkDiscard (i : TileIx) (j : Fin 24) (s : State) :
    queueMem (opSinkDiscard i j s) = queueMem s := by
  unfold opSinkDiscard
  split
  · simp
  · split <;> simp

@[simp] theorem queueMem_dumpSide (s : State) (own sd : Nat) : queueMem (dumpSide s own sd) = queueMem s := by
  simp [dumpSide]

@[simp] theorem queueMem_opSeamDeliver (i : TileIx) (e : Fin 24) (s : State) :
    queueMem (opSeamDeliver i e s) = queueMem s := by
  unfold opSeamDeliver
  dsimp only
  repeat' split
  all_goals simp

@[simp] theorem queueMem_opBridleRelease (f : Fin 64) (s : State) : queueMem (opBridleRelease f s) = queueMem s := by
  simp [opBridleRelease]

@[simp] theorem queueMem_opWaveFiring (i : TileIx) (s : State) : queueMem (opWaveFiring i s) = queueMem s := by
  unfold opWaveFiring
  dsimp only
  repeat' split
  all_goals simp

@[simp] theorem queueMem_opWaveNonLead (i : TileIx) (o : Fin 3) (s : State) :
    queueMem (opWaveNonLead i o s) = queueMem s := by
  unfold opWaveNonLead
  dsimp only
  split <;> simp

@[simp] theorem queueMem_markActive (s : State) (i : Nat) : queueMem (markActive s i) = queueMem s := by
  simp [markActive]

/-! ### The end of a borrow -/

@[simp] theorem queueMem_endBorrow (s : State) (p : Nat) : queueMem (endBorrow s p) = queueMem s := by
  unfold endBorrow
  simp only [queueMem_mk, queueMem_fold]
  refine foldl_keeps queueMem (fun s i => ?_) _ s
  split <;> simp

@[simp] theorem queueMem_reportPatch (s : State) (p code : Nat) (det : List Byte) :
    queueMem (reportPatch s p code det) = queueMem s := by
  simp [reportPatch]

@[simp] theorem queueMem_yieldPatch (s : State) (p trigger : Nat) : queueMem (yieldPatch s p trigger) = queueMem s := by
  simp [yieldPatch]

@[simp] theorem queueMem_ownerDefault (s : State) (i : Nat) : queueMem (ownerDefault s i) = queueMem s := by
  simp [ownerDefault]

@[simp] theorem queueMem_loadNetWait (s : State) (i : Nat) : queueMem (loadNetWait s i) = queueMem s := by
  simp [loadNetWait]

@[simp] theorem queueMem_emptyQueues (s : State) (i : Nat) : queueMem (emptyQueues s i) = queueMem s := by
  simp [emptyQueues]

@[simp] theorem queueMem_staticQueues (s : State) (i : Nat) : queueMem (staticQueues s i) = queueMem s := by
  simp [staticQueues]

@[simp] theorem queueMem_storeStatic (s : State) (i : Nat) (c : Frame) : queueMem (storeStatic s i c) = queueMem s := by
  unfold storeStatic
  split <;> simp

@[simp] theorem queueMem_storeFrame (s : State) (i slot : Nat) (c : Frame) :
    queueMem (storeFrame s i slot c) = queueMem s := by
  simp [storeFrame]

@[simp] theorem queueMem_opFrameWrite (ep : Fin 2048) (n : Fin 32) (s : State) :
    queueMem (opFrameWrite ep n s) = queueMem s := by
  unfold opFrameWrite
  dsimp only
  repeat' split
  all_goals simp

@[simp] theorem queueMem_opFrameRead (ep : Fin 2048) (n : Fin 32) (s : State) :
    queueMem (opFrameRead ep n s) = queueMem s := by
  unfold opFrameRead
  split
  · simp
  · split <;> simp

/-! ### The registers of the tile control block -/

@[simp] theorem queueMem_tileRegTouch (s : State) (i off : Nat) : queueMem (tileRegTouch s i off) = queueMem s := by
  simp [tileRegTouch]

theorem queueMem_commonWrite {s t : State} {i off : Nat} {old v mask : Reg} (h : commonWrite s i off old v mask = some t) :
    queueMem t = queueMem s := by
  unfold commonWrite at h
  dsimp only at h
  split_ifs at h <;> cases h <;> simp

@[simp] theorem queueMem_queueRegWrite (s : State) (i off : Nat) (old v mask : Reg) :
    queueMem (queueRegWrite s i off old v mask) = queueMem s := by
  simp [queueRegWrite]

theorem queueMem_bankRegWrite {s : State} {i off : Nat} {k : Key} {remote : Bool} {old v mask : Reg} {r : State × Status}
    (h : bankRegWrite s i off k remote old v mask = some r) : queueMem r.1 = queueMem s := by
  unfold bankRegWrite at h
  dsimp only at h
  split_ifs at h <;> simp only [Option.some.injEq] at h <;> subst h <;> simp

theorem queueMem_tileRegWrite {s : State} {i off : Nat} {k : Key} {remote : Bool} {v mask : Reg} {r : State × Status}
    (h : tileRegWrite s i off k remote v mask = some r) : queueMem r.1 = queueMem s := by
  unfold tileRegWrite at h
  split at h
  · cases h
  · split at h
    · cases h; rfl
    · split at h
      · next hc => cases h; exact queueMem_commonWrite hc
      · split at h
        · cases h
        · obtain ⟨t, -, rfl⟩ := Option.map_eq_some_iff.mp h
          simp
        · exact queueMem_bankRegWrite h

@[simp] theorem queueMem_tileRegCmd (s : State) (i off : Nat) (k : Key) (v : Reg) :
    queueMem (tileRegCmd s i off k v) = queueMem s := by
  unfold tileRegCmd
  split
  · next h => exact queueMem_tileRegWrite h
  · rfl

@[simp] theorem queueMem_opAccLoRead (i : TileIx) (n : Fin 2) (s : State) :
    queueMem (opAccLoRead i n s) = queueMem s := by
  simp [opAccLoRead]

@[simp] theorem queueMem_opAccWrite (i : TileIx) (n : Fin 2) (high : Bool) (v : Reg) (s : State) :
    queueMem (opAccWrite i n high v s) = queueMem s := by
  simp [opAccWrite]

@[simp] theorem queueMem_opAgWrite (i : TileIx) (set : Fin 4) (g : Fin 3) (v : Reg) (s : State) :
    queueMem (opAgWrite i set g v s) = queueMem s := by
  simp [opAgWrite]

@[simp] theorem queueMem_opBankOwnerWrite (i : TileIx) (k : Key) (v : Reg) (s : State) :
    queueMem (opBankOwnerWrite i k v s) = queueMem s := by
  simp [opBankOwnerWrite]

@[simp] theorem queueMem_opFlush (i : TileIx) (q : Fin 4) (v : Reg) (s : State) :
    queueMem (opFlush i q v s) = queueMem s := by
  simp [opFlush]

/-! ### Network requests to a tile -/

@[simp] theorem queueMem_opBankRead (ep : Fin 2048) (n : Fin 32) (s : State) :
    queueMem (opBankRead ep n s) = queueMem s := by
  unfold opBankRead
  split
  · split
    · rfl
    · dsimp only; rw [queueMem_bankServed]; split <;> simp
  · rfl

@[simp] theorem queueMem_pushRefused (s : State) (ep n i q : Nat) (k : Key) :
    queueMem (pushRefused s ep n i q k) = queueMem s := by
  simp [pushRefused]

@[simp] theorem queueMem_netPush (credited : Bool) (ep : Fin 2048) (n : Fin 32) (s : State) :
    queueMem (netPush credited ep n s) = queueMem s := by
  unfold netPush
  split <;> simp

@[simp] theorem queueMem_opCreditedPush (ep : Fin 2048) (n : Fin 32) (s : State) :
    queueMem (opCreditedPush ep n s) = queueMem s := by
  simp [opCreditedPush]

@[simp] theorem queueMem_opUncreditedPush (ep : Fin 2048) (n : Fin 32) (s : State) :
    queueMem (opUncreditedPush ep n s) = queueMem s := by
  simp [opUncreditedPush]

@[simp] theorem queueMem_popTake (i q k : Nat) (first : Bool) (s : State) (acc : List Byte) :
    queueMem (popTake i q k first s acc).st = queueMem s := by
  induction k generalizing first s acc with
  | zero => rfl
  | succ k ih =>
    unfold popTake
    dsimp only
    split
    · rfl
    · split_ifs <;> simp [ih]

@[simp] theorem queueMem_servePop (s : State) (ep n i q k : Nat) (g : Ingress) :
    queueMem (servePop s ep n i q k g) = queueMem s := by
  simp [servePop]

@[simp] theorem queueMem_holdReq (s : State) (ep n i q : Nat) (g : Ingress) (pop : Bool) :
    queueMem (holdReq s ep n i q g pop) = queueMem s := by
  simp [holdReq]

@[simp] theorem queueMem_opQueuePop (ep : Fin 2048) (n : Fin 32) (s : State) :
    queueMem (opQueuePop ep n s) = queueMem s := by
  unfold opQueuePop
  split <;> simp

@[simp] theorem queueMem_opPopServe (i : TileIx) (q : Fin 4) (waited : Bool) (s : State) :
    queueMem (opPopServe i q waited s) = queueMem s := by
  unfold opPopServe
  split
  · simp
  · split <;> simp

@[simp] theorem queueMem_giveGrant (s : State) (ep n i q g : Nat) : queueMem (giveGrant s ep n i q g) = queueMem s := by
  simp [giveGrant]

@[simp] theorem queueMem_opCreditRequest (ep : Fin 2048) (n : Fin 32) (s : State) :
    queueMem (opCreditRequest ep n s) = queueMem s := by
  unfold opCreditRequest
  repeat' split
  all_goals simp

@[simp] theorem queueMem_opCreditGrantHeld (i : TileIx) (q : Fin 4) (s : State) :
    queueMem (opCreditGrantHeld i q s) = queueMem s := by
  unfold opCreditGrantHeld
  split <;> simp

/-! ### A router's cycle, bridges and injection -/

@[simp] theorem queueMem_setLink (s : State) (n : Net) (r sd : Nat) (x : Link) :
    queueMem (setLink s n r sd x) = queueMem s := by
  simp [setLink]

@[simp] theorem queueMem_takeInput (s : State) (n : Net) (r inp : Nat) :
    queueMem (takeInput s n r inp) = queueMem s := by
  simp [takeInput]

@[simp] theorem queueMem_ejectFlit (s : State) (n : Net) (r : Nat) (f : Flit) :
    queueMem (ejectFlit s n r f) = queueMem s := by
  simp [ejectFlit]

@[simp] theorem queueMem_putFlit (n : Net) (r : Nat) (s : State) (x : InFlit × Placing) :
    queueMem (putFlit n r s x) = queueMem s := by
  unfold putFlit
  split <;> simp

@[simp] theorem queueMem_ageBridge (n : Net) (r : Nat) (s : State) (sd : Nat) :
    queueMem (ageBridge n r s sd) = queueMem s := by
  simp [ageBridge]

@[simp] theorem queueMem_opRouterCycle (n : Net) (r : Fin 1024) (s : State) :
    queueMem (opRouterCycle n r s) = queueMem s := by
  simp [opRouterCycle]

@[simp] theorem queueMem_drainNack (s : State) (ep : Nat) : queueMem (drainNack s ep) = queueMem s := by
  unfold drainNack
  dsimp only
  split <;> simp

@[simp] theorem queueMem_opFlitInjection (n : Net) (ep : Fin 2048) (s : State) :
    queueMem (opFlitInjection n ep s) = queueMem s := by
  unfold opFlitInjection
  dsimp only
  split <;> simp

@[simp] theorem queueMem_opStarvation (n : Net) (ep : Fin 2048) (s : State) :
    queueMem (opStarvation n ep s) = queueMem s := by
  simp [opStarvation]

@[simp] theorem queueMem_opThrottleEnd (n : Net) (f : Fin 64) (s : State) :
    queueMem (opThrottleEnd n f s) = queueMem s := by
  simp [opThrottleEnd]

@[simp] theorem queueMem_opBridgeCrossing (n : Net) (r : Fin 1024) (side : Fin 6) (s : State) :
    queueMem (opBridgeCrossing n r side s) = queueMem s := by
  unfold opBridgeCrossing
  dsimp only
  repeat' split
  all_goals simp

@[simp] theorem queueMem_reportNet (s : State) (code : Nat) (det : List Byte) :
    queueMem (reportNet s code det) = queueMem s := by
  simp [reportNet]

@[simp] theorem queueMem_malformed (s : State) : queueMem (malformed s) = queueMem s := by simp [malformed]

@[simp] theorem queueMem_strayResponse (s : State) : queueMem (strayResponse s) = queueMem s := by simp [strayResponse]

@[simp] theorem queueMem_refuseReq (s : State) (ep n : Nat) (g : Ingress) (p : Place) (code table : Nat) (st : Status) :
    queueMem (refuseReq s ep n g p code table st) = queueMem s := by
  simp [refuseReq]

@[simp] theorem queueMem_sendGo (s : State) (ep n : Nat) (f : Flit) : queueMem (sendGo s ep n f) = queueMem s := by
  simp [sendGo]

@[simp] theorem queueMem_receiveWindow (s : State) (p : Place) (g : Ingress) :
    queueMem (receiveWindow s p g).1 = queueMem s := by
  unfold receiveWindow
  split <;> simp

@[simp] theorem queueMem_admitCheck (s : State) (ep n : Nat) : queueMem (admitCheck s ep n) = queueMem s := by
  unfold admitCheck
  dsimp only
  repeat' split
  all_goals simp

@[simp] theorem queueMem_nackReq (s : State) (ep : Nat) (f : Flit) : queueMem (nackReq s ep f) = queueMem s := by
  simp [nackReq]

@[simp] theorem queueMem_opReqAdmit (ep : Fin 2048) (s : State) : queueMem (opReqAdmit ep s) = queueMem s := by
  unfold opReqAdmit
  dsimp only
  repeat' split
  all_goals simp

theorem queueMem_takeFirst {s t : State} {ep : Nat} {n : Net} {p : Flit → Bool} {x : Flit} (h : takeFirst s ep n p = some (x, t)) :
    queueMem t = queueMem s := by
  unfold takeFirst at h
  dsimp only at h
  split at h
  · cases h; simp
  · cases h

@[simp] theorem queueMem_opWdataArrival (ep : Fin 2048) (s : State) : queueMem (opWdataArrival ep s) = queueMem s := by
  unfold opWdataArrival
  split
  · rfl
  · split
    · rfl
    · next h =>
      rw [← queueMem_takeFirst h]
      split
      · split <;> simp
      · rfl

/-! ### Tether packets -/

@[simp] theorem queueMem_setP (s : State) (p : Nat) (x : PortSt) : queueMem (setP s p x) = queueMem s := by simp [setP]

@[simp] theorem queueMem_queueOut (s : State) (p : Nat) (k : Packet) : queueMem (queueOut s p k) = queueMem s := by
  simp [queueOut]

@[simp] theorem queueMem_unreachable (s : State) : queueMem (unreachable s) = queueMem s := by simp [unreachable]

@[simp] theorem queueMem_sendFabric (s : State) (dev : BitVec 16) (f : Flit) :
    queueMem (sendFabric s dev f) = queueMem s := by
  unfold sendFabric
  split
  · simp
  · split <;> simp

@[simp] theorem queueMem_sendCtl (s : State) (dev : BitVec 16) (cls : Net) (ty : Nat) (payload : List (BitVec 64)) :
    queueMem (sendCtl s dev cls ty payload).1 = queueMem s := by
  unfold sendCtl
  split <;> simp

@[simp] theorem queueMem_answerTrain (s : State) (dst : BitVec 11) (tag : BitVec 8) (dev : BitVec 16) (port : Nat) (st : Status)
    (bits count : Nat) :
    queueMem (answerTrain s dst tag dev port st bits count) = queueMem s := by
  simp [answerTrain]

/-! ### What the ring engine's commands share -/

@[simp] theorem queueMem_setRing (s : State) (r : Nat) (x : RingSt) : queueMem (setRing s r x) = queueMem s := by
  simp [setRing]

@[simp] theorem queueMem_setRingState (s : State) (r st : Nat) : queueMem (setRingState s r st) = queueMem s := by
  simp [setRingState]

@[simp] theorem queueMem_hostWrite (s : State) (fn addr : Nat) (bytes : List Byte) (ns ro : Bool) :
    queueMem (hostWrite s fn addr bytes ns ro).1 = queueMem s := by
  unfold hostWrite
  split <;> simp

@[simp] theorem queueMem_hostAsk (s : State) (fn addr len : Nat) (ns : Bool) :
    queueMem (hostAsk s fn addr len ns) = queueMem s := by
  simp [hostAsk]

@[simp] theorem queueMem_dataWrite (s : State) (r addr : Nat) (bytes : List Byte) :
    queueMem (dataWrite s r addr bytes).1 = queueMem s := by
  simp [dataWrite]

@[simp] theorem queueMem_dataAsk (s : State) (r addr len : Nat) : queueMem (dataAsk s r addr len) = queueMem s := by
  simp [dataAsk]

@[simp] theorem queueMem_askDoorbell (s : State) (r : Nat) : queueMem (askDoorbell s r) = queueMem s := by
  simp [askDoorbell]

@[simp] theorem queueMem_shadowWrite (s : State) (r : Nat) : queueMem (shadowWrite s r).1 = queueMem s := by
  simp [shadowWrite]

@[simp] theorem queueMem_modDesc (s : State) (r id : Nat) (f : Desc → Desc) :
    queueMem (modDesc s r id f) = queueMem s := by
  simp [modDesc]

@[simp] theorem queueMem_descDone (s : State) (r id : Nat) (st : Status) (bytes aux : Nat) :
    queueMem (descDone s r id st bytes aux) = queueMem s := by
  unfold descDone
  split <;> simp

@[simp] theorem queueMem_orphan (s : State) (r : Nat) (sel : Owner → Bool) (pop : Bool) :
    queueMem (orphan s r sel pop) = queueMem s := by
  simp [orphan]

@[simp] theorem queueMem_endHeld (s : State) (r : Nat) : queueMem (endHeld s r) = queueMem s := by simp [endHeld]

@[simp] theorem queueMem_faultRing (s : State) (r : Nat) (st : Status) : queueMem (faultRing s r st) = queueMem s := by
  simp [faultRing]

@[simp] theorem queueMem_writeShadow (s : State) (r : Nat) : queueMem (writeShadow s r) = queueMem s := by
  have hs := queueMem_shadowWrite s r
  unfold writeShadow
  split
  · next h => rwa [h] at hs
  · next h => rw [h] at hs; simpa using hs

@[simp] theorem queueMem_ringFault (s : State) (r : Nat) (st : Status) : queueMem (ringFault s r st) = queueMem s := by
  simp [ringFault]

@[simp] theorem queueMem_expAnswer (s : State) (x dev : Nat) (st : Status) (bits : Nat) :
    queueMem (expAnswer s x dev st bits) = queueMem s := by
  unfold expAnswer
  split <;> simp

@[simp] theorem queueMem_treeDone (s : State) (c : TreeCmd) (st : Status) (aux : Nat) :
    queueMem (treeDone s c st aux) = queueMem s := by
  unfold treeDone
  split <;> simp

@[simp] theorem queueMem_tellRefused (s : State) (c : TreeCmd) (st : Status) (table : Bool) :
    queueMem (tellRefused s c st table) = queueMem s := by
  unfold tellRefused
  split
  · simp
  · split <;> simp

@[simp] theorem queueMem_treeRefuse (s : State) (c : TreeCmd) (st : Status) (table : Bool) :
    queueMem (treeRefuse s c st table) = queueMem s := by
  simp [treeRefuse]

@[simp] theorem queueMem_peekFail (s : State) (st : Status) (a : Nat) : queueMem (peekFail s st a) = queueMem s := by
  simp [peekFail]

@[simp] theorem queueMem_sendPeeks (n : Nat) (s : State) : queueMem (sendPeeks n s) = queueMem s := by
  induction n generalizing s with
  | zero => rfl
  | succ n ih =>
    unfold sendPeeks
    split
    · rfl
    · dsimp only
      split
      · next h => rw [ih]; simp [queueMem_sendReq h]
      · rw [ih]; simp
      · rfl

@[simp] theorem queueMem_peeksGo (s : State) : queueMem (peeksGo s) = queueMem s := by simp [peeksGo]

/-! ### The command tree -/

@[simp] theorem queueMem_setRun (s : State) (id : Nat) (r : Option TreeRun) :
    queueMem (setRun s id r) = queueMem s := by
  simp [setRun]

@[simp] theorem queueMem_denyTrain (s : State) (c : TreeCmd) (code table : Nat) :
    queueMem (denyTrain s c code table) = queueMem s := by
  simp [denyTrain]

@[simp] theorem queueMem_refuseCmd (s : State) (c : TreeCmd) (st : Status) (code table : Nat) :
    queueMem (refuseCmd s c st code table) = queueMem s := by
  simp [refuseCmd]

@[simp] theorem queueMem_rootStart (s : State) (id : Nat) (r : TreeRun) : queueMem (rootStart s id r) = queueMem s := by
  unfold rootStart
  split <;> simp

@[simp] theorem queueMem_rootScan (s : State) : queueMem (rootScan s) = queueMem s := by
  refine foldl_keeps queueMem (fun s id => ?_) _ s
  split
  · split <;> simp
  · rfl

@[simp] theorem queueMem_endRun (s : State) (id : Nat) (st : Status) (aux : Nat) :
    queueMem (endRun s id st aux) = queueMem s := by
  unfold endRun
  split <;> simp

@[simp] theorem queueMem_checkRun (s : State) (id : Nat) : queueMem (checkRun s id) = queueMem s := by
  unfold checkRun
  split <;> simp

@[simp] theorem queueMem_clearBars (s : State) (c : TreeCmd) : queueMem (clearBars s c) = queueMem s := by
  simp [clearBars]

@[simp] theorem queueMem_cancelBar (s : State) (id : Nat) (st : Status) :
    queueMem (cancelBar s id st) = queueMem s := by
  unfold cancelBar
  split <;> simp

@[simp] theorem queueMem_cancelExp (s : State) (id : Nat) (st : Status) :
    queueMem (cancelExp s id st) = queueMem s := by
  unfold cancelExp
  split <;> simp

@[simp] theorem queueMem_disarmCancels (s : State) (c : TreeCmd) : queueMem (disarmCancels s c) = queueMem s := by
  simp [disarmCancels]

@[simp] theorem queueMem_switchTile (s : State) (n : Fin 16) (i : Nat) : queueMem (switchTile s n i) = queueMem s := by
  simp [switchTile]

@[simp] theorem queueMem_tileAct {g : State → Nat → State} (h : ∀ s i, queueMem (g s i) = queueMem s) (s : State) (i : Nat) :
    queueMem (tileAct g s i) = queueMem s := by
  simp [tileAct, h]

@[simp] theorem queueMem_handlerCall (s : State) (c : TreeCmd) : queueMem (handlerCall s c) = queueMem s := by
  simp [handlerCall]

@[simp] theorem queueMem_endTests (s : State) (c : TreeCmd) (fs : List Nat) :
    queueMem (endTests s c fs) = queueMem s := by
  simp [endTests]

@[simp] theorem queueMem_goAll (s : State) (c : TreeCmd) : queueMem (goAll s c) = queueMem s := by
  unfold goAll
  refine (foldl_keeps queueMem (fun s f => ?_) _ _).trans (queueMem_endTests s c _)
  exact foldl_keeps queueMem (queueMem_tileAct fun s i => queueMem_switchTile s (cmdCtx c) i) _ s

@[simp] theorem queueMem_opBarrierGo (id : Nat) (s : State) : queueMem (opBarrierGo id s) = queueMem s := by
  unfold opBarrierGo
  split <;> simp

@[simp] theorem queueMem_opBarrierTimeout (id : Nat) (s : State) : queueMem (opBarrierTimeout id s) = queueMem s := by
  unfold opBarrierTimeout
  split <;> simp

theorem queueMem_postTrain {s t : State} {c k : TreeCmd} {p : Nat} {dev : BitVec 16} (h : postTrain s c k p dev = some t) :
    queueMem t = queueMem s := by
  obtain ⟨tag, -, rfl⟩ := Option.map_eq_some_iff.mp h
  simp

theorem queueMem_forwardTcmd {s t : State} {c : TreeCmd} {dev : BitVec 16} (h : forwardTcmd s c dev = some t) : queueMem t = queueMem s := by
  unfold forwardTcmd at h
  split at h
  · exact queueMem_postTrain h
  · cases h; simp

theorem queueMem_takeSrc {s t : State} {src : Nat} {c : TreeCmd} (h : takeSrc s src = some (c, t)) : queueMem t = queueMem s := by
  unfold takeSrc at h
  dsimp only at h
  split_ifs at h <;> split at h <;> cases h <;> simp

@[simp] theorem queueMem_admitCmd (s : State) (c : TreeCmd) : queueMem (admitCmd s c) = queueMem s := by simp [admitCmd]

theorem queueMem_ringTrain {s t : State} {c : TreeCmd} {r id : Nat} (h : ringTrain s c r id = some t) : queueMem t = queueMem s := by
  unfold ringTrain at h
  split at h
  · cases h; simp
  · obtain ⟨tag, -, rfl⟩ := Option.map_eq_some_iff.mp h
    simp

/-- An outcome or, without one, the state before. -/
theorem queueMem_getD {s : State} {o : Option State} (h : ∀ t, o = some t → queueMem t = queueMem s) : queueMem (o.getD s) = queueMem s := by
  cases o with
  | none => rfl
  | some t => exact h t rfl

@[simp] theorem queueMem_opRootAdmit (src : Nat) (s : State) : queueMem (opRootAdmit src s) = queueMem s := by
  unfold opRootAdmit
  dsimp only
  split
  · rfl
  · split
    · rfl
    · next c t h =>
      have ht := queueMem_takeSrc h
      have hf : ∀ dev, queueMem ((forwardTcmd t c dev).getD s) = queueMem s :=
        fun dev => queueMem_getD fun u hu => (queueMem_forwardTcmd hu).trans ht
      have hr : ∀ r id, queueMem ((ringTrain t c r id).getD s) = queueMem s :=
        fun r id => queueMem_getD fun u hu => (queueMem_ringTrain hu).trans ht
      split
      · simp [ht]
      · split
        · simp [ht, hf]
        · split
          · split
            · exact hf _
            · exact hr _ _
            · simp [ht]
          · simp [ht]

@[simp] theorem queueMem_refuseOnWay (s : State) (id : Nat) (r : TreeRun) :
    queueMem (refuseOnWay s id r) = queueMem s := by
  simp [refuseOnWay]

@[simp] theorem queueMem_opCommandDelivery (id : Nat) (f : Fin 64) (s : State) :
    queueMem (opCommandDelivery id f s) = queueMem s := by
  unfold opCommandDelivery
  split <;> simp

@[simp] theorem queueMem_actHere {act : TreeCmd → State → Nat → State} (h : ∀ c s i, queueMem (act c s i) = queueMem s) (id f : Nat)
    (code : BitVec 4) (s : State) : queueMem (actHere id f code act s) = queueMem s := by
  unfold actHere
  split
  · rfl
  · simp [h]

@[simp] theorem queueMem_opSwitchImm (id : Nat) (f : Fin 64) (s : State) :
    queueMem (opSwitchImm id f s) = queueMem s := by
  simp [opSwitchImm]

@[simp] theorem queueMem_opSwitchBar (id : Nat) (f : Fin 64) (s : State) :
    queueMem (opSwitchBar id f s) = queueMem s := by
  simp [opSwitchBar]

@[simp] theorem queueMem_opArm (id : Nat) (f : Fin 64) (s : State) : queueMem (opArm id f s) = queueMem s := by
  simp [opArm]

@[simp] theorem queueMem_opDisarm (id : Nat) (f : Fin 64) (s : State) : queueMem (opDisarm id f s) = queueMem s := by
  simp [opDisarm]

@[simp] theorem queueMem_opInvalidate (id : Nat) (f : Fin 64) (s : State) :
    queueMem (opInvalidate id f s) = queueMem s := by
  simp [opInvalidate]

@[simp] theorem queueMem_opInject (id : Nat) (i : TileIx) (s : State) : queueMem (opInject id i s) = queueMem s := by
  unfold opInject
  dsimp only
  repeat' split
  all_goals simp

@[simp] theorem queueMem_opQuery (id : Nat) (s : State) : queueMem (opQuery id s) = queueMem s := by
  unfold opQuery
  split <;> simp

@[simp] theorem queueMem_sendMember (s : State) (x : Nat) (c : TreeCmd) (e : Expansion) (dev : Nat) :
    queueMem (sendMember s x c e dev).1 = queueMem s := by
  unfold sendMember
  split
  · simp
  · split
    · split
      · next h => exact queueMem_postTrain h
      · rfl
    · split <;> simp

@[simp] theorem queueMem_sendMembers (s : State) (x : Nat) (c : TreeCmd) (ds : List Nat) (e : Expansion) :
    queueMem (sendMembers s x c ds e).1 = queueMem s := by
  induction ds generalizing s e with
  | nil => rfl
  | cons d ds ih => unfold sendMembers; dsimp only; split <;> simp [ih]

@[simp] theorem queueMem_putExp (x : Nat) (y : State × Expansion) : queueMem (putExp x y) = queueMem y.1 := by
  simp [putExp]

@[simp] theorem queueMem_ownCopy (s : State) (x : Nat) (c : TreeCmd) (e : Expansion) :
    queueMem (ownCopy s x c e).1 = queueMem s := by
  unfold ownCopy
  dsimp only
  split <;> simp

@[simp] theorem queueMem_ownStep (s : State) (x step : Nat) : queueMem (ownStep s x step) = queueMem s := by
  unfold ownStep
  dsimp only
  split <;> simp

@[simp] theorem queueMem_reportFails (s : State) (l : List (Nat × Status × Nat)) :
    queueMem (reportFails s l) = queueMem s := by
  simp [reportFails]

@[simp] theorem queueMem_advanceExp (s : State) (x : Nat) (c : TreeCmd) (e : Expansion) :
    queueMem (advanceExp s x c e) = queueMem s := by
  simp [advanceExp]

@[simp] theorem queueMem_opAnchorExpansion (id : Nat) (s : State) : queueMem (opAnchorExpansion id s) = queueMem s := by
  unfold opAnchorExpansion
  repeat' split
  all_goals simp

@[simp] theorem queueMem_opExpandedCompletion (x : Nat) (s : State) :
    queueMem (opExpandedCompletion x s) = queueMem s := by
  unfold opExpandedCompletion
  repeat' split
  all_goals simp

@[simp] theorem queueMem_answerArm (s : State) (c : TreeCmd) (st : Status) :
    queueMem (answerArm s c st) = queueMem s := by
  simp [answerArm]

@[simp] theorem queueMem_opBarrierArm (id : Nat) (s : State) : queueMem (opBarrierArm id s) = queueMem s := by
  unfold opBarrierArm
  split <;> simp

@[simp] theorem queueMem_refusePosted (s : State) (p : Nat) (f : Flit) (o : Owner) (st : Status) :
    queueMem (refusePosted s p f o st) = queueMem s := by
  simp [refusePosted]

@[simp] theorem queueMem_takeArr (s : State) (p : Nat) (k : Packet) : queueMem (takeArr s p k) = queueMem s := by
  simp [takeArr]

@[simp] theorem queueMem_opTrainFlit (p : Fin 6) (s : State) : queueMem (opTrainFlit p s) = queueMem s := by
  unfold opTrainFlit
  split <;> simp

@[simp] theorem queueMem_opBarrierGoPhase (p : Fin 6) (s : State) : queueMem (opBarrierGoPhase p s) = queueMem s := by
  unfold opBarrierGoPhase
  dsimp only
  split
  · rfl
  · split_ifs
    · rfl
    · split <;> simp

@[simp] theorem queueMem_opBarrierCancel (p : Fin 6) (s : State) : queueMem (opBarrierCancel p s) = queueMem s := by
  unfold opBarrierCancel
  split <;> simp

/-! ### Mirrors -/

@[simp] theorem queueMem_yMark (s : State) (i y : Nat) (stale : Bool) : queueMem (yMark s i y stale) = queueMem s := by
  simp [yMark]

@[simp] theorem queueMem_setAgent (s : State) (f : Nat) (a : Agent) : queueMem (setAgent s f a) = queueMem s := by
  simp [setAgent]

@[simp] theorem queueMem_recordLine (s : State) (f m l : Nat) : queueMem (recordLine s f m l) = queueMem s := by
  simp [recordLine]

@[simp] theorem queueMem_recordEpoch (s : State) (f m : Nat) : queueMem (recordEpoch s f m) = queueMem s := by
  simp [recordEpoch]

@[simp] theorem queueMem_staleIn (s : State) (f m l : Nat) : queueMem (staleIn s f m l) = queueMem s := by
  simp [staleIn]

@[simp] theorem queueMem_onUser (s : State) (i : Nat) (g : Tile → Tile) : queueMem (onUser s i g) = queueMem s := by
  unfold onUser
  split
  · split <;> simp
  · simp

@[simp] theorem queueMem_epochIn (s : State) (f m : Nat) : queueMem (epochIn s f m) = queueMem s := by simp [epochIn]

@[simp] theorem queueMem_startFill (s : State) (i y : Nat) (data : List Byte) (o : FillOwner) (bad : Bool) :
    queueMem (startFill s i y data o bad) = queueMem s := by
  simp [startFill]

@[simp] theorem queueMem_freeLine (s : State) : queueMem (freeLine s).1 = queueMem s := by simp [freeLine]

@[simp] theorem queueMem_dropFills (s : State) (f : Nat) (p : FillOwner → Bool) :
    queueMem (dropFills s f p) = queueMem s := by
  simp [dropFills]

@[simp] theorem queueMem_applyRecorded (s : State) (f : Nat) : queueMem (applyRecorded s f) = queueMem s := by
  simp [applyRecorded]

@[simp] theorem queueMem_opMirrorRecordedApply (f : Fin 64) (s : State) :
    queueMem (opMirrorRecordedApply f s) = queueMem s := by
  simp [opMirrorRecordedApply]

@[simp] theorem queueMem_opMirrorUpdate (m : Fin 256) (line : Fin 128) (s : State) :
    queueMem (opMirrorUpdate m line s) = queueMem s := by
  unfold opMirrorUpdate
  dsimp only
  repeat' split
  all_goals simp

@[simp] theorem queueMem_ackUpdate (s : State) (ep tag m line : Nat) :
    queueMem (ackUpdate s ep tag m line) = queueMem s := by
  simp [ackUpdate]

@[simp] theorem queueMem_mirrorDone (s : State) (ep : Nat) (f : Flit) : queueMem (mirrorDone s ep f) = queueMem s := by
  simp [mirrorDone]

@[simp] theorem queueMem_endFills (s : State) (f : Nat) : queueMem (endFills s f) = queueMem s := by
  refine (foldl_keeps queueMem (fun s y => ?_) _ _).trans (queueMem_dropFills s f _)
  split <;> simp

@[simp] theorem queueMem_opInval (f : Fin 64) (s : State) : queueMem (opInval f s) = queueMem s := by
  unfold opInval
  split
  · rfl
  · next h =>
    rw [← queueMem_takeFirst h]
    dsimp only
    split
    · simp
    · rw [queueMem_mirrorDone]
      split
      · split_ifs <;> simp
      · split_ifs <;> simp

@[simp] theorem queueMem_opEpochSnp (f : Fin 64) (s : State) : queueMem (opEpochSnp f s) = queueMem s := by
  unfold opEpochSnp
  split
  · rfl
  · next h => simp [queueMem_takeFirst h]

@[simp] theorem queueMem_refetchRead (s : State) (f m l : Nat) (w : Refetch) :
    queueMem (refetchRead s f m l w) = queueMem s := by
  unfold refetchRead
  dsimp only
  split
  · next h => simp [queueMem_sendReq h]
  · rfl

@[simp] theorem queueMem_fillStale (s : State) (f m l : Nat) (data : List Byte) (bad : Bool) :
    queueMem (fillStale s f m l data bad) = queueMem s := by
  simp [fillStale]

@[simp] theorem queueMem_refetchDone (s : State) (f m l : Nat) (st : Status) (data : List Byte) :
    queueMem (refetchDone s f m l st data) = queueMem s := by
  unfold refetchDone
  dsimp only
  split <;> simp

@[simp] theorem queueMem_opEpochSend (m : Fin 256) (s : State) : queueMem (opEpochSend m s) = queueMem s := by
  simp [opEpochSend]

@[simp] theorem queueMem_markHolders (s : State) (m : Nat) (stale : Bool) :
    queueMem (markHolders s m stale) = queueMem s := by
  simp [markHolders]

@[simp] theorem queueMem_stopFills (s : State) (m : Nat) : queueMem (stopFills s m) = queueMem s := by
  unfold stopFills
  dsimp only
  rw [queueMem_foldl (by simp), foldl_keeps queueMem (fun s x => by split <;> simp), queueMem_foldl (by simp)]

@[simp] theorem queueMem_mirrorOff (s : State) (m : Nat) : queueMem (mirrorOff s m) = queueMem s := by simp [mirrorOff]

@[simp] theorem queueMem_mirrorCfg (s : State) (m : Nat) (v : Reg) : queueMem (mirrorCfg s m v).1 = queueMem s := by
  unfold mirrorCfg
  dsimp only
  repeat' split
  all_goals simp

@[simp] theorem queueMem_opMirrorCfgWrite (m : Fin 256) (v : Reg) (s : State) :
    queueMem (opMirrorCfgWrite m v s) = queueMem s := by
  simp [opMirrorCfgWrite]

@[simp] theorem queueMem_mirrorsCleared (s : State) (f : Nat) : queueMem (mirrorsCleared s f) = queueMem s := by
  simp [mirrorsCleared]

@[simp] theorem queueMem_opCntClear (v : Reg) (s : State) : queueMem (opCntClear v s) = queueMem s := by
  simp [opCntClear]

/-! ### Clocks and field power -/

@[simp] theorem queueMem_recode (s : State) (f : Nat) : queueMem (recode s f) = queueMem s := by simp [recode]

@[simp] theorem queueMem_clampFreq (s : State) (f : Nat) : queueMem (clampFreq s f) = queueMem s := by simp [clampFreq]

@[simp] theorem queueMem_writeClk (s : State) (f : Nat) (v : Reg) : queueMem (writeClk s f v) = queueMem s := by
  simp [writeClk]

@[simp] theorem queueMem_opFrequencyChange (f : Fin 64) (v : Reg) (s : State) :
    queueMem (opFrequencyChange f v s) = queueMem s := by
  simp [opFrequencyChange]

@[simp] theorem queueMem_opAvsUpdate (q : Fin 4) (mv : BitVec 16) (s : State) :
    queueMem (opAvsUpdate q mv s) = queueMem s := by
  simp [opAvsUpdate]

@[simp] theorem queueMem_opAvsSettle (q : Fin 4) (s : State) : queueMem (opAvsSettle q s) = queueMem s := by
  simp [opAvsSettle]

@[simp] theorem queueMem_opAvsError (q : Fin 4) (mv : BitVec 16) (s : State) :
    queueMem (opAvsError q mv s) = queueMem s := by
  simp [opAvsError]

@[simp] theorem queueMem_opPowerEstimate (est : BitVec 16) (s : State) :
    queueMem (opPowerEstimate est s) = queueMem s := by
  simp [opPowerEstimate]

@[simp] theorem queueMem_setPwr (s : State) (f st : Nat) : queueMem (setPwr s f st) = queueMem s := by simp [setPwr]

@[simp] theorem queueMem_powerReached (s : State) (f : Nat) : queueMem (powerReached s f) = queueMem s := by
  refine foldl_keeps queueMem (fun s x => ?_) _ s
  split <;> simp

@[simp] theorem queueMem_powerFail (s : State) (f : Nat) (st : Status) (p : TreeCmd → Bool) :
    queueMem (powerFail s f st p) = queueMem s := by
  refine foldl_keeps queueMem (fun s x => ?_) _ s
  split <;> simp

@[simp] theorem queueMem_releaseField (s : State) (f : Nat) (st : Status) :
    queueMem (releaseField s f st) = queueMem s := by
  simp [releaseField]

@[simp] theorem queueMem_beginDrain (s : State) (f : Nat) : queueMem (beginDrain s f) = queueMem s := by
  simp [beginDrain]

@[simp] theorem queueMem_sweepDown (s : State) (f : Nat) : queueMem (sweepDown s f) = queueMem s := by simp [sweepDown]

@[simp] theorem queueMem_engageField (s : State) (f : Nat) : queueMem (engageField s f) = queueMem s := by
  simp [engageField]

@[simp] theorem queueMem_wakeHeld (s : State) (f : Nat) : queueMem (wakeHeld s f) = queueMem s := by simp [wakeHeld]

@[simp] theorem queueMem_beginIso (s : State) (f : Nat) : queueMem (beginIso s f) = queueMem s := by simp [beginIso]

@[simp] theorem queueMem_mapField (s : State) (f : Nat) (g : Nat → Tile → Tile) :
    queueMem (mapField s f g) = queueMem s := by
  simp [mapField]

@[simp] theorem queueMem_resetOwners (s : State) (f : Nat) : queueMem (resetOwners s f) = queueMem s := by
  simp [resetOwners]

@[simp] theorem queueMem_dropInjects (s : State) (f : Nat) : queueMem (dropInjects s f) = queueMem s := by
  refine foldl_keeps queueMem (fun s x => ?_) _ s
  split <;> simp

@[simp] theorem queueMem_enterOff (s : State) (f : Nat) : queueMem (enterOff s f) = queueMem s := by simp [enterOff]

@[simp] theorem queueMem_enterOn (s : State) (f : Nat) : queueMem (enterOn s f) = queueMem s := by simp [enterOn]

@[simp] theorem queueMem_beginWake (s : State) (f from_ : Nat) : queueMem (beginWake s f from_) = queueMem s := by
  simp [beginWake]

@[simp] theorem queueMem_seekTarget (s : State) (f : Nat) : queueMem (seekTarget s f) = queueMem s := by
  simp [seekTarget]

@[simp] theorem queueMem_setTarget (s : State) (f code : Nat) : queueMem (setTarget s f code) = queueMem s := by
  simp [setTarget]

@[simp] theorem queueMem_restMerged (s : State) (f : Nat) : queueMem (restMerged s f) = queueMem s := by
  simp [restMerged]

@[simp] theorem queueMem_opDrainEnd (f : Fin 64) (s : State) : queueMem (opDrainEnd f s) = queueMem s := by
  simp [opDrainEnd]

@[simp] theorem queueMem_opDrainLimit (f : Fin 64) (s : State) : queueMem (opDrainLimit f s) = queueMem s := by
  simp [opDrainLimit]

@[simp] theorem queueMem_opIsolating (f : Fin 64) (s : State) : queueMem (opIsolating f s) = queueMem s := by
  simp [opIsolating]

@[simp] theorem queueMem_opRetainEntry (f : Fin 64) (s : State) : queueMem (opRetainEntry f s) = queueMem s := by
  simp [opRetainEntry]

@[simp] theorem queueMem_opOffEntry (f : Fin 64) (s : State) : queueMem (opOffEntry f s) = queueMem s := by
  simp [opOffEntry]

@[simp] theorem queueMem_wakeEnd (s : State) (f : Nat) : queueMem (wakeEnd s f) = queueMem s := by simp [wakeEnd]

@[simp] theorem queueMem_opWaking (f : Fin 64) (s : State) : queueMem (opWaking f s) = queueMem s := by simp [opWaking]

@[simp] theorem queueMem_opComputeWake (f : Fin 64) (s : State) : queueMem (opComputeWake f s) = queueMem s := by
  simp [opComputeWake]

@[simp] theorem queueMem_opIdleEntry (f : Fin 64) (s : State) : queueMem (opIdleEntry f s) = queueMem s := by
  simp [opIdleEntry]

@[simp] theorem queueMem_opFieldPowerUp (q : Fin 4) (s : State) : queueMem (opFieldPowerUp q s) = queueMem s := by
  unfold opFieldPowerUp
  split
  · simp
  · split <;> simp

@[simp] theorem queueMem_fieldReset (s : State) (f : Nat) : queueMem (fieldReset s f) = queueMem s := by
  simp [fieldReset]

@[simp] theorem queueMem_writePwrCtl (s : State) (f : Nat) (v : Reg) : queueMem (writePwrCtl s f v) = queueMem s := by
  simp [writePwrCtl]

@[simp] theorem queueMem_opTargetWrite (f : Fin 64) (v : Reg) (s : State) :
    queueMem (opTargetWrite f v s) = queueMem s := by
  simp [opTargetWrite]

@[simp] theorem queueMem_opFieldReset (f : Fin 64) (v : Reg) (s : State) :
    queueMem (opFieldReset f v s) = queueMem s := by
  simp [opFieldReset]

@[simp] theorem queueMem_powerAct (id f : Nat) (code : BitVec 4) (s : State) :
    queueMem (powerAct id f code s) = queueMem s := by
  unfold powerAct
  split <;> simp

@[simp] theorem queueMem_opWakeCmd (id : Nat) (f : Fin 64) (s : State) : queueMem (opWakeCmd id f s) = queueMem s := by
  simp [opWakeCmd]

@[simp] theorem queueMem_opPowerCmd (id : Nat) (f : Fin 64) (s : State) :
    queueMem (opPowerCmd id f s) = queueMem s := by
  simp [opPowerCmd]

@[simp] theorem queueMem_opBurnerStart (f : Fin 64) (compute : Bool) (s : State) :
    queueMem (opBurnerStart f compute s) = queueMem s := by
  simp [opBurnerStart]

@[simp] theorem queueMem_opBurnerStop (f : Fin 64) (s : State) : queueMem (opBurnerStop f s) = queueMem s := by
  simp [opBurnerStop]

@[simp] theorem queueMem_opTransitClockStop (f : Fin 64) (s : State) :
    queueMem (opTransitClockStop f s) = queueMem s := by
  simp [opTransitClockStop]

@[simp] theorem queueMem_opBurnerCalibration (f : Fin 64) (err : BitVec 16) (s : State) :
    queueMem (opBurnerCalibration f err s) = queueMem s := by
  simp [opBurnerCalibration]

@[simp] theorem queueMem_aonSource (s : State) : queueMem (aonSource s) = queueMem s := by simp [aonSource]

@[simp] theorem queueMem_opAonClockSwitch (present : Bool) (s : State) :
    queueMem (opAonClockSwitch present s) = queueMem s := by
  simp [opAonClockSwitch]

@[simp] theorem queueMem_opReferenceClock (i : Fin 6) (present : Bool) (s : State) :
    queueMem (opReferenceClock i present s) = queueMem s := by
  simp [opReferenceClock]

@[simp] theorem queueMem_opDeepSleepEntry (l12 : Bool) (s : State) :
    queueMem (opDeepSleepEntry l12 s) = queueMem s := by
  simp [opDeepSleepEntry]

@[simp] theorem queueMem_opDeepSleepExit (ev : Restart) (s : State) : queueMem (opDeepSleepExit ev s) = queueMem s := by
  simp [opDeepSleepExit]

@[simp] theorem queueMem_opIdTimeRead (size : Nat) (high : Bool) (s : State) :
    queueMem (opIdTimeRead size high s) = queueMem s := by
  simp [opIdTimeRead]

@[simp] theorem queueMem_opIdTimeSet (v : Reg) (s : State) : queueMem (opIdTimeSet v s) = queueMem s := by
  simp [opIdTimeSet]

@[simp] theorem queueMem_tickFields (s : State) (dt : Nat) : queueMem (tickFields s dt) = queueMem s := by
  simp [tickFields]

@[simp] theorem queueMem_tickTime (s : State) : queueMem (tickTime s) = queueMem s := by simp [tickTime]

/-! ### The background test's borrows of patches -/

@[simp] theorem queueMem_opBorrowStart (p : Fin 1024) (s : State) : queueMem (opBorrowStart p s) = queueMem s := by
  simp [opBorrowStart]

@[simp] theorem queueMem_borrowOver (s : State) (f : Nat) : queueMem (borrowOver s f) = queueMem s := by
  simp [borrowOver]

@[simp] theorem queueMem_opBorrowEnd (p : Fin 1024) (wrong : List TileIx) (s : State) :
    queueMem (opBorrowEnd p wrong s) = queueMem s := by
  simp [opBorrowEnd]

@[simp] theorem queueMem_opBorrowYield (p : Fin 1024) (trigger : Fin 6) (s : State) :
    queueMem (opBorrowYield p trigger s) = queueMem s := by
  simp [opBorrowYield]

@[simp] theorem queueMem_withYield {f : State → State} (h : ∀ s, queueMem (f s) = queueMem s) (i : Nat) (s : State) :
    queueMem (withYield i f s) = queueMem s := by
  simp [withYield, h]

@[simp] theorem queueMem_engineStore (s : State) (i slot : Nat) (c : Frame) :
    queueMem (engineStore s i slot c) = queueMem s := by
  simp [engineStore]

/-! ### What the edge groups and the bring-up of lanes share -/

@[simp] theorem queueMem_setG (s : State) (n : Nat) (x : GroupSt) : queueMem (setG s n x) = queueMem s := by simp [setG]

@[simp] theorem queueMem_setLn (s : State) (l : Nat) (x : LaneSt) : queueMem (setLn s l x) = queueMem s := by
  simp [setLn]

@[simp] theorem queueMem_setTr (s : State) (p : Nat) (x : TrainSt) : queueMem (setTr s p x) = queueMem s := by
  simp [setTr]

@[simp] theorem queueMem_setLane (s : State) (l st : Nat) : queueMem (setLane s l st) = queueMem s := by simp [setLane]

@[simp] theorem queueMem_setDir (s : State) (l : Nat) (tx : Bool) (st : Nat) :
    queueMem (setDir s l tx st) = queueMem s := by
  simp [setDir]

@[simp] theorem queueMem_copyTaps (s : State) (l : Nat) : queueMem (copyTaps s l) = queueMem s := by simp [copyTaps]

@[simp] theorem queueMem_loadSettings (s : State) (l c : Nat) : queueMem (loadSettings s l c) = queueMem s := by
  simp [loadSettings]

@[simp] theorem queueMem_noteHeader (fec : Bool) (l : Nat) (s : State) (b : Block) :
    queueMem (noteHeader fec l s b) = queueMem s := by
  simp [noteHeader]

@[simp] theorem queueMem_reportLane (s : State) (l code : Nat) (det : List Byte) :
    queueMem (reportLane s l code det) = queueMem s := by
  simp [reportLane]

/-! ### The line side of an edge lane -/

@[simp] theorem queueMem_onLanes (s : State) (n : Nat) (f : Nat → LaneSt → LaneSt) :
    queueMem (onLanes s n f) = queueMem s := by
  simp [onLanes]

@[simp] theorem queueMem_sendRecord (s : State) (n fin : Nat) (bs : List Byte) :
    queueMem (sendRecord s n fin bs) = queueMem s := by
  simp [sendRecord]

@[simp] theorem queueMem_sendGroupIdle (s : State) (n k : Nat) : queueMem (sendGroupIdle s n k) = queueMem s := by
  simp [sendGroupIdle]

@[simp] theorem queueMem_hearBlock (l : Nat) (s : State) (b : Block) : queueMem (hearBlock l s b) = queueMem s := by
  simp [hearBlock]

@[simp] theorem queueMem_hearCode (l : Nat) (s : State) (v : BitVec 10) : queueMem (hearCode l s v) = queueMem s := by
  simp [hearCode]

/-! ### The edge groups -/

@[simp] theorem queueMem_gSync (s : State) (n : Nat) : queueMem (gSync s n) = queueMem s := by simp [gSync]

@[simp] theorem queueMem_gError (s : State) (n : Nat) (f : Fld) : queueMem (gError s n f) = queueMem s := by
  simp [gError]

@[simp] theorem queueMem_gThresh (s : State) (n : Nat) (lvl st : Fld) (before after : Nat) :
    queueMem (gThresh s n lvl st before after) = queueMem s := by
  simp [gThresh]

@[simp] theorem queueMem_storePack (s : State) (n : Nat) (w : List SWord) (atEnd : Bool) :
    queueMem (storePack s n w atEnd) = queueMem s := by
  simp [storePack]

@[simp] theorem queueMem_packBytes (s : State) (n : Nat) (bytes : List Byte) (ends : Bool) :
    queueMem (packBytes s n bytes ends) = queueMem s := by
  simp [packBytes]

@[simp] theorem queueMem_recordError (s : State) (n code : Nat) : queueMem (recordError s n code) = queueMem s := by
  simp [recordError]

@[simp] theorem queueMem_endInError (s : State) (n l code : Nat) : queueMem (endInError s n l code) = queueMem s := by
  simp [endInError]

@[simp] theorem queueMem_packRows (fuel n : Nat) (s : State) : queueMem (packRows fuel n s) = queueMem s := by
  induction fuel generalizing s with
  | zero => rfl
  | succ fuel ih => unfold packRows; dsimp only; split <;> simp [ih]

@[simp] theorem queueMem_deskewShares (s : State) (n : Nat) : queueMem (deskewShares s n).1 = queueMem s := by
  unfold deskewShares
  dsimp only
  repeat' split
  all_goals simp

@[simp] theorem queueMem_deskewAll (fuel n : Nat) (s : State) : queueMem (deskewAll fuel n s) = queueMem s := by
  induction fuel generalizing s with
  | zero => rfl
  | succ fuel ih => unfold deskewAll; dsimp only; split <;> simp [ih]

@[simp] theorem queueMem_laneLoss (s : State) (l : Nat) (signal : Bool) :
    queueMem (laneLoss s l signal) = queueMem s := by
  simp [laneLoss]

@[simp] theorem queueMem_hearLanes (s : State) (n : Nat) (lanes : List (List Block)) :
    queueMem (hearLanes s n lanes) = queueMem s := by
  simp [hearLanes]

@[simp] theorem queueMem_hearCodes (s : State) (n : Nat) (lanes : List (List (BitVec 10))) :
    queueMem (hearCodes s n lanes) = queueMem s := by
  simp [hearCodes]

@[simp] theorem queueMem_opPackLaneWord (n : Fin 16) (words : LaneWords) (ends : Bool) (s : State) :
    queueMem (opPackLaneWord n words ends s) = queueMem s := by
  unfold opPackLaneWord
  split
  · simp
  · split <;> simp

@[simp] theorem queueMem_opDroppingExit (n : Fin 16) (s : State) : queueMem (opDroppingExit n s) = queueMem s := by
  simp [opDroppingExit]

@[simp] theorem queueMem_opPackReadSidePop (n : Fin 16) (s : State) :
    queueMem (opPackReadSidePop n s) = queueMem s := by
  unfold opPackReadSidePop
  dsimp only
  split <;> simp

@[simp] theorem queueMem_opUnpackWordAccept (n : Fin 16) (w : Fin 4) (s : State) :
    queueMem (opUnpackWordAccept n w s) = queueMem s := by
  unfold opUnpackWordAccept
  dsimp only
  repeat' split
  all_goals simp

@[simp] theorem queueMem_opUnpackPush (n : Fin 16) (s : State) : queueMem (opUnpackPush n s) = queueMem s := by
  simp [opUnpackPush]

@[simp] theorem queueMem_opUnpackRecordStart (n : Fin 16) (s : State) :
    queueMem (opUnpackRecordStart n s) = queueMem s := by
  simp [opUnpackRecordStart]

@[simp] theorem queueMem_opUnpackLaneWord (n : Fin 16) (s : State) : queueMem (opUnpackLaneWord n s) = queueMem s := by
  simp [opUnpackLaneWord]

@[simp] theorem queueMem_opUnpackUnderrun (n : Fin 16) (s : State) : queueMem (opUnpackUnderrun n s) = queueMem s := by
  simp [opUnpackUnderrun]

@[simp] theorem queueMem_gSetState (s : State) (n st : Nat) : queueMem (gSetState s n st) = queueMem s := by
  simp [gSetState]

@[simp] theorem queueMem_checkWordRate (s : State) (l : Nat) : queueMem (checkWordRate s l) = queueMem s := by
  simp [checkWordRate]

@[simp] theorem queueMem_bondLanes (s : State) (n : Nat) : queueMem (bondLanes s n) = queueMem s := by simp [bondLanes]

@[simp] theorem queueMem_writeGrpCtl (s : State) (n : Nat) (v : Reg) : queueMem (writeGrpCtl s n v) = queueMem s := by
  simp [writeGrpCtl]

@[simp] theorem queueMem_opGroupEnable (n : Fin 16) (v : Reg) (s : State) :
    queueMem (opGroupEnable n v s) = queueMem s := by
  simp [opGroupEnable]

@[simp] theorem queueMem_opGroupDisable (n : Fin 16) (v : Reg) (s : State) :
    queueMem (opGroupDisable n v s) = queueMem s := by
  simp [opGroupDisable]

@[simp] theorem queueMem_opGroupDrainEnd (n : Fin 16) (limit : Bool) (s : State) :
    queueMem (opGroupDrainEnd n limit s) = queueMem s := by
  simp [opGroupDrainEnd]

@[simp] theorem queueMem_opGroupOff (n : Fin 16) (s : State) : queueMem (opGroupOff n s) = queueMem s := by
  simp [opGroupOff]

@[simp] theorem queueMem_opEdgeRecordError (l : Fin 112) (code : Fin 5) (s : State) :
    queueMem (opEdgeRecordError l code s) = queueMem s := by
  simp [opEdgeRecordError]

/-! ### Serial lanes -/

@[simp] theorem queueMem_reportPort (s : State) (p code : Nat) (items : List (Nat × Nat)) :
    queueMem (reportPort s p code items) = queueMem s := by
  simp [reportPort]

@[simp] theorem queueMem_resetLane (st : Nat) (s : State) (l : Nat) : queueMem (resetLane st s l) = queueMem s := by
  simp [resetLane]

@[simp] theorem queueMem_startLane (st : Nat) (s : State) (l : Nat) : queueMem (startLane st s l) = queueMem s := by
  simp [startLane]

@[simp] theorem queueMem_parkLane (st : Nat) (s : State) (l : Nat) : queueMem (parkLane st s l) = queueMem s := by
  simp [parkLane]

@[simp] theorem queueMem_forceDir (s : State) (l : Nat) (tx : Bool) (st : Nat) :
    queueMem (forceDir s l tx st) = queueMem s := by
  simp [forceDir]

@[simp] theorem queueMem_powerDir (s : State) (l : Nat) (tx : Bool) : queueMem (powerDir s l tx) = queueMem s := by
  simp [powerDir]

@[simp] theorem queueMem_startPort (s : State) (p st : Nat) (again : Bool) :
    queueMem (startPort s p st again) = queueMem s := by
  simp [startPort]

@[simp] theorem queueMem_restartPort (s : State) (p : Nat) : queueMem (restartPort s p) = queueMem s := by
  simp [restartPort]

@[simp] theorem queueMem_retryPort (s : State) (p : Nat) : queueMem (retryPort s p) = queueMem s := by simp [retryPort]

@[simp] theorem queueMem_portLost (s : State) (p : Nat) : queueMem (portLost s p) = queueMem s := by simp [portLost]

@[simp] theorem queueMem_leaveUp (s : State) (p cause : Nat) : queueMem (leaveUp s p cause) = queueMem s := by
  simp [leaveUp]

@[simp] theorem queueMem_writePortCtl (s : State) (p : Nat) (v : Reg) : queueMem (writePortCtl s p v) = queueMem s := by
  simp [writePortCtl]

@[simp] theorem queueMem_opPortEnable (p : Fin 6) (v : Reg) (s : State) :
    queueMem (opPortEnable p v s) = queueMem s := by
  simp [opPortEnable]

@[simp] theorem queueMem_opLaneSignal (l : Fin 112) (s : State) : queueMem (opLaneSignal l s) = queueMem s := by
  simp [opLaneSignal]

@[simp] theorem queueMem_throughLane (s : State) (l : Nat) (bs : List Block) :
    queueMem (throughLane s l bs) = queueMem s := by
  simp [throughLane]

@[simp] theorem queueMem_noteLock (s : State) (l : Nat) : queueMem (noteLock s l) = queueMem s := by simp [noteLock]

@[simp] theorem queueMem_opLaneLock (l : Fin 112) (blocks : List Block) (s : State) :
    queueMem (opLaneLock l blocks s) = queueMem s := by
  simp [opLaneLock]

@[simp] theorem queueMem_opLockTimeout (l : Fin 112) (s : State) : queueMem (opLockTimeout l s) = queueMem s := by
  simp [opLockTimeout]

@[simp] theorem queueMem_opPolarityInvert (l : Fin 112) (s : State) : queueMem (opPolarityInvert l s) = queueMem s := by
  simp [opPolarityInvert]

@[simp] theorem queueMem_opLaneFailed (l : Fin 112) (s : State) : queueMem (opLaneFailed l s) = queueMem s := by
  simp [opLaneFailed]

@[simp] theorem queueMem_updateGood (s : State) (p : Nat) : queueMem (updateGood s p) = queueMem s := by
  simp [updateGood]

@[simp] theorem queueMem_sendFrame (s : State) (l : Nat) : queueMem (sendFrame s l) = queueMem s := by simp [sendFrame]

@[simp] theorem queueMem_tapRequest (l sh : Nat) (f fe : Fld) (lo hi req : Nat) (s : State) :
    queueMem (tapRequest l sh f fe lo hi req s) = queueMem s := by
  simp [tapRequest]

@[simp] theorem queueMem_applyAsk (l : Nat) (req : BitVec 6) (s : State) :
    queueMem (applyAsk l req s) = queueMem s := by
  simp [applyAsk]

@[simp] theorem queueMem_takeFrame (s : State) (l : Nat) (b : BitVec 248) :
    queueMem (takeFrame s l b) = queueMem s := by
  simp [takeFrame]

@[simp] theorem queueMem_opTrainingFrame (l : Fin 112) (blocks : List Block) (s : State) :
    queueMem (opTrainingFrame l blocks s) = queueMem s := by
  unfold opTrainingFrame
  dsimp only
  repeat' split
  all_goals simp

@[simp] theorem queueMem_opHello (p : Fin 6) (late : Bool) (s : State) : queueMem (opHello p late s) = queueMem s := by
  simp [opHello]

@[simp] theorem queueMem_opAgree (p : Fin 6) (s : State) : queueMem (opAgree p s) = queueMem s := by
  unfold opAgree
  split
  · simp
  · split <;> simp

@[simp] theorem queueMem_groupTo (s : State) (p st : Nat) : queueMem (groupTo s p st) = queueMem s := by simp [groupTo]

@[simp] theorem queueMem_changeRate (r : Nat) (s : State) (l : Nat) : queueMem (changeRate r s l) = queueMem s := by
  simp [changeRate]

@[simp] theorem queueMem_opStepRate (p : Fin 6) (s : State) : queueMem (opStepRate p s) = queueMem s := by
  unfold opStepRate
  split <;> simp

@[simp] theorem queueMem_opStepFailed (p : Fin 6) (s : State) : queueMem (opStepFailed p s) = queueMem s := by
  unfold opStepFailed
  split <;> simp

@[simp] theorem queueMem_opAdaptRequest (l : Fin 112) (req : BitVec 6) (s : State) :
    queueMem (opAdaptRequest l req s) = queueMem s := by
  simp [opAdaptRequest]

@[simp] theorem queueMem_opAdapt (p : Fin 6) (s : State) : queueMem (opAdapt p s) = queueMem s := by simp [opAdapt]

@[simp] theorem queueMem_opAdaptTimeout (p : Fin 6) (s : State) : queueMem (opAdaptTimeout p s) = queueMem s := by
  simp [opAdaptTimeout]

@[simp] theorem queueMem_opDeskew (p : Fin 6) (s : State) : queueMem (opDeskew p s) = queueMem s := by simp [opDeskew]

@[simp] theorem queueMem_opFecState (p : Fin 6) (s : State) : queueMem (opFecState p s) = queueMem s := by
  simp [opFecState]

@[simp] theorem queueMem_opBringUpTimeout (p : Fin 6) (s : State) : queueMem (opBringUpTimeout p s) = queueMem s := by
  simp [opBringUpTimeout]

@[simp] theorem queueMem_opPortLeaveUp (p : Fin 6) (cause : Fin 10) (s : State) :
    queueMem (opPortLeaveUp p cause s) = queueMem s := by
  simp [opPortLeaveUp]

@[simp] theorem queueMem_writeTetherCtl (s : State) (l : Nat) (v : Reg) :
    queueMem (writeTetherCtl s l v) = queueMem s := by
  simp [writeTetherCtl]

@[simp] theorem queueMem_opRetrain (p : Fin 6) (v : Reg) (s : State) : queueMem (opRetrain p v s) = queueMem s := by
  simp [opRetrain]

@[simp] theorem queueMem_stepDownNow (s : State) (p : Nat) : queueMem (stepDownNow s p) = queueMem s := by
  simp [stepDownNow]

@[simp] theorem queueMem_stepDownEnd (s : State) (p : Nat) : queueMem (stepDownEnd s p) = queueMem s := by
  simp [stepDownEnd]

@[simp] theorem queueMem_countWindow (s : State) (p : Nat) (errs : List Nat) (bad : Nat) :
    queueMem (countWindow s p errs bad) = queueMem s := by
  simp [countWindow]

@[simp] theorem queueMem_opStepDown (p : Fin 6) (errs : List Nat) (bad : Nat) (s : State) :
    queueMem (opStepDown p errs bad s) = queueMem s := by
  simp [opStepDown]

@[simp] theorem queueMem_beginPage (s : State) (p : Nat) : queueMem (beginPage s p).1 = queueMem s := by
  simp [beginPage]

@[simp] theorem queueMem_inPages (p : Nat) (s : State) (bs : List Block) :
    queueMem (inPages p s bs).1 = queueMem s := by
  induction bs generalizing s with
  | nil => rfl
  | cons b bs ih => unfold inPages; dsimp only; rw [ih]; split <;> simp

@[simp] theorem queueMem_sendStream (s : State) (p : Nat) (bs : List Block) :
    queueMem (sendStream s p bs) = queueMem s := by
  simp [sendStream]

@[simp] theorem queueMem_nextPage (s : State) (p : Nat) : queueMem (nextPage s p) = queueMem s := by simp [nextPage]

@[simp] theorem queueMem_pageOut (s : State) (p : Nat) : queueMem (pageOut s p) = queueMem s := by simp [pageOut]

@[simp] theorem queueMem_groupIn (s : State) (p : Nat) (g : BallastGroup) : queueMem (groupIn s p g) = queueMem s := by
  simp [groupIn]

@[simp] theorem queueMem_opBallast (p : Fin 6) (level : Fin 65) (g : BallastGroup) (s : State) :
    queueMem (opBallast p level g s) = queueMem s := by
  simp [opBallast]

@[simp] theorem queueMem_opElasticError (p : Fin 6) (s : State) : queueMem (opElasticError p s) = queueMem s := by
  simp [opElasticError]

@[simp] theorem queueMem_beginDir (s : State) (l : Nat) (tx : Bool) (to_ : Nat) :
    queueMem (beginDir s l tx to_) = queueMem s := by
  simp [beginDir]

@[simp] theorem queueMem_cancelQuiet (s : State) (l : Nat) (tx : Bool) :
    queueMem (cancelQuiet s l tx) = queueMem s := by
  simp [cancelQuiet]

@[simp] theorem queueMem_opPortQuietEntry (p : Fin 6) (auto : Bool) (s : State) :
    queueMem (opPortQuietEntry p auto s) = queueMem s := by
  simp [opPortQuietEntry]

@[simp] theorem queueMem_opPortQuietWake (p : Fin 6) (s : State) : queueMem (opPortQuietWake p s) = queueMem s := by
  simp [opPortQuietWake]

@[simp] theorem queueMem_opRxQuietEntry (p : Fin 6) (s : State) : queueMem (opRxQuietEntry p s) = queueMem s := by
  simp [opRxQuietEntry]

@[simp] theorem queueMem_opRxQuietWake (p : Fin 6) (ok : Bool) (s : State) :
    queueMem (opRxQuietWake p ok s) = queueMem s := by
  simp [opRxQuietWake]

@[simp] theorem queueMem_requestDir (s : State) (l : Nat) (tx : Bool) (req : Nat) :
    queueMem (requestDir s l tx req) = queueMem s := by
  simp [requestDir]

@[simp] theorem queueMem_writeLanePwr (s : State) (l : Nat) (v : Reg) : queueMem (writeLanePwr s l v) = queueMem s := by
  simp [writeLanePwr]

@[simp] theorem queueMem_opDirectionPowerRequest (l : Fin 112) (v : Reg) (s : State) :
    queueMem (opDirectionPowerRequest l v s) = queueMem s := by
  simp [opDirectionPowerRequest]

@[simp] theorem queueMem_opDirectionPowerDone (l : Fin 112) (tx : Bool) (s : State) :
    queueMem (opDirectionPowerDone l tx s) = queueMem s := by
  unfold opDirectionPowerDone
  dsimp only
  split <;> simp

@[simp] theorem queueMem_opRxAutoWake (p : Fin 6) (s : State) : queueMem (opRxAutoWake p s) = queueMem s := by
  simp [opRxAutoWake]

@[simp] theorem queueMem_startEdge (s : State) (l : Nat) : queueMem (startEdge s l) = queueMem s := by simp [startEdge]

@[simp] theorem queueMem_stopEdge (s : State) (l : Nat) : queueMem (stopEdge s l) = queueMem s := by simp [stopEdge]

@[simp] theorem queueMem_realignNow (s : State) (l : Nat) : queueMem (realignNow s l) = queueMem s := by
  simp [realignNow]

@[simp] theorem queueMem_writeEdgeCtl (s : State) (l : Nat) (v : Reg) : queueMem (writeEdgeCtl s l v) = queueMem s := by
  simp [writeEdgeCtl]

@[simp] theorem queueMem_opEdgeLaneEnable (l : Fin 112) (v : Reg) (s : State) :
    queueMem (opEdgeLaneEnable l v s) = queueMem s := by
  simp [opEdgeLaneEnable]

@[simp] theorem queueMem_opRealign (l : Fin 112) (v : Reg) (s : State) : queueMem (opRealign l v s) = queueMem s := by
  simp [opRealign]

@[simp] theorem queueMem_opAlign (l : Fin 112) (slots : List Word) (s : State) :
    queueMem (opAlign l slots s) = queueMem s := by
  simp [opAlign]

@[simp] theorem queueMem_opEdgeSignalLoss (h : LaneLoss) (s : State) :
    queueMem (opEdgeSignalLoss h s) = queueMem s := by
  simp [opEdgeSignalLoss]

@[simp] theorem queueMem_opEdgeTxQuiet (l : Fin 112) (s : State) : queueMem (opEdgeTxQuiet l s) = queueMem s := by
  simp [opEdgeTxQuiet]

@[simp] theorem queueMem_opEdgeTxWake (l : Fin 112) (s : State) : queueMem (opEdgeTxWake l s) = queueMem s := by
  simp [opEdgeTxWake]

@[simp] theorem queueMem_writeTaps (s : State) (l : Nat) (v : Reg) : queueMem (writeTaps s l v) = queueMem s := by
  simp [writeTaps]

@[simp] theorem queueMem_opTapsWrite (l : Fin 112) (v : Reg) (s : State) :
    queueMem (opTapsWrite l v s) = queueMem s := by
  simp [opTapsWrite]

@[simp] theorem queueMem_writeEq (s : State) (l : Nat) (v : Reg) : queueMem (writeEq s l v) = queueMem s := by
  simp [writeEq]

@[simp] theorem queueMem_startAllLanes (s : State) : queueMem (startAllLanes s) = queueMem s := by simp [startAllLanes]

@[simp] theorem queueMem_stopAllLanes (s : State) : queueMem (stopAllLanes s) = queueMem s := by simp [stopAllLanes]

/-! ### The tether fabric -/

@[simp] theorem queueMem_reportGw (s : State) (p code : Nat) (det : List Byte) :
    queueMem (reportGw s p code det) = queueMem s := by
  simp [reportGw]

@[simp] theorem queueMem_portErr (s : State) (p : Nat) (f : Fld) : queueMem (portErr s p f) = queueMem s := by
  simp [portErr]

@[simp] theorem queueMem_portDiscard (s : State) (p : Nat) : queueMem (portDiscard s p) = queueMem s := by
  simp [portDiscard]

@[simp] theorem queueMem_oweCredit (s : State) (p key : Nat) : queueMem (oweCredit s p key) = queueMem s := by
  simp [oweCredit]

@[simp] theorem queueMem_stampTime (s : State) (p : Nat) (k : Packet) : queueMem (stampTime s p k).1 = queueMem s := by
  unfold stampTime
  split
  · simp
  · split <;> simp

@[simp] theorem queueMem_nextTurn (s : State) (q : Nat) (c : Net) (i : Nat) :
    queueMem (nextTurn s q c i) = queueMem s := by
  simp [nextTurn]

@[simp] theorem queueMem_transmit (s : State) (p : Nat) (k : Packet) (bad : Bool) :
    queueMem (transmit s p k bad) = queueMem s := by
  simp [transmit]

@[simp] theorem queueMem_sendOut (s : State) (p : Nat) (c : Net) (vc : Bool) :
    queueMem (sendOut s p c vc) = queueMem s := by
  unfold sendOut
  dsimp only
  split <;> simp

@[simp] theorem queueMem_trySendClass (s : State) (p : Nat) (c : Net) : queueMem (trySendClass s p c) = queueMem s := by
  simp [trySendClass]

@[simp] theorem queueMem_emitCtl (s : State) (dev : BitVec 16) (cls : Net) (ty : Nat) (payload : List (BitVec 64)) :
    queueMem (emitCtl s dev cls ty payload).1 = queueMem s := by
  unfold emitCtl
  dsimp only
  repeat' split
  all_goals simp

@[simp] theorem queueMem_emitLocal (s : State) (p : Nat) (cls : Net) (ty : Nat) (payload : List (BitVec 64)) :
    queueMem (emitLocal s p cls ty payload) = queueMem s := by
  simp [emitLocal]

@[simp] theorem queueMem_takeCredits (s : State) (p : Nat) (k : Packet) :
    queueMem (takeCredits s p k) = queueMem s := by
  simp [takeCredits]

@[simp] theorem queueMem_unreachablePacket (s : State) (k : Packet) :
    queueMem (unreachablePacket s k) = queueMem s := by
  simp [unreachablePacket]

@[simp] theorem queueMem_deliver (s : State) (p : Nat) (k : Packet) : queueMem (deliver s p k) = queueMem s := by
  unfold deliver
  split
  · simp
  · split <;> simp

@[simp] theorem queueMem_checkTest (s : State) (p : Nat) (k : Packet) : queueMem (checkTest s p k) = queueMem s := by
  simp [checkTest]

@[simp] theorem queueMem_acceptPacket (s : State) (p : Nat) (k : Packet) :
    queueMem (acceptPacket s p k) = queueMem s := by
  unfold acceptPacket
  dsimp only
  repeat' split
  all_goals simp

@[simp] theorem queueMem_takePacket (s : State) (p : Nat) (k : Packet) : queueMem (takePacket s p k) = queueMem s := by
  simp [takePacket]

@[simp] theorem queueMem_brokenPacket (s : State) (bs : List (BitVec 64)) :
    queueMem (brokenPacket s bs).1 = queueMem s := by
  simp [brokenPacket]

@[simp] theorem queueMem_takeBlock (s : State) (p : Nat) (b : Block) : queueMem (takeBlock s p b) = queueMem s := by
  simp [takeBlock]

@[simp] theorem queueMem_recvBlock (p : Nat) (s : State) (b : Block) : queueMem (recvBlock p s b) = queueMem s := by
  unfold recvBlock
  dsimp only
  repeat' split
  all_goals simp

@[simp] theorem queueMem_recvWord (p : Nat) (s : State) (w : List (BitVec 10)) :
    queueMem (recvWord p s w) = queueMem s := by
  unfold recvWord
  dsimp only
  rw [queueMem_foldl (by simp), queueMem_setTr, queueMem_bump, foldl_keeps queueMem (fun s i => by split <;> simp)]

@[simp] theorem queueMem_opPacketReceive (p : Fin 6) (stream : PortStream) (s : State) :
    queueMem (opPacketReceive p stream s) = queueMem s := by
  unfold opPacketReceive
  split
  · rfl
  · split <;> simp

@[simp] theorem queueMem_loopBack (s : State) (p : Nat) : queueMem (loopBack s p) = queueMem s := by simp [loopBack]

@[simp] theorem queueMem_opCredit (p : Fin 6) (buf : Fin 8) (count : Fin 32) (s : State) :
    queueMem (opCredit p buf count s) = queueMem s := by
  simp [opCredit]

@[simp] theorem queueMem_opPacketForward (p : Fin 6) (c : Net) (vc : Bool) (s : State) :
    queueMem (opPacketForward p c vc s) = queueMem s := by
  unfold opPacketForward
  dsimp only
  repeat' split
  all_goals simp

@[simp] theorem queueMem_packFlit (s : State) (p : Nat) (dev : BitVec 16) (f : Flit) :
    queueMem (packFlit s p dev f) = queueMem s := by
  simp [packFlit]

@[simp] theorem queueMem_markTabled (s : State) (f : Flit) : queueMem (markTabled s f) = queueMem s := by
  unfold markTabled
  split <;> simp

@[simp] theorem queueMem_gatewayReq (s : State) (p : Nat) (f : Flit) : queueMem (gatewayReq s p f) = queueMem s := by
  unfold gatewayReq
  dsimp only
  repeat' split
  all_goals simp

@[simp] theorem queueMem_opGatewaySend (p : Fin 6) (n : Net) (s : State) :
    queueMem (opGatewaySend p n s) = queueMem s := by
  unfold opGatewaySend
  dsimp only
  split
  · simp
  · split
    · rfl
    · split
      · split
        · next h => simp [queueMem_takeFirst h]
        · rfl
      · split
        · next h => simp [queueMem_takeFirst h]
        · rfl
      · rfl
      · rfl

@[simp] theorem queueMem_opProxyInject (p : Fin 6) (s : State) : queueMem (opProxyInject p s) = queueMem s := by
  unfold opProxyInject
  dsimp only
  repeat' split
  all_goals simp

@[simp] theorem queueMem_opProxyResponse (p : Fin 6) (dat : Bool) (s : State) :
    queueMem (opProxyResponse p dat s) = queueMem s := by
  unfold opProxyResponse
  dsimp only
  split
  · rfl
  · next h =>
    rw [← queueMem_takeFirst h]
    split
    · simp
    · split <;> simp

@[simp] theorem queueMem_opProxyWdata (p : Fin 6) (s : State) : queueMem (opProxyWdata p s) = queueMem s := by
  unfold opProxyWdata
  dsimp only
  repeat' split
  all_goals simp

@[simp] theorem queueMem_opProxyEntryTimeout (p : Fin 6) (e : Fin 256) (s : State) :
    queueMem (opProxyEntryTimeout p e s) = queueMem s := by
  unfold opProxyEntryTimeout
  dsimp only
  split <;> simp

theorem queueMem_takeCtl {s t : State} {p ty : Nat} {k : Packet} {n : Nat} (h : takeCtl s p ty = some (k, n, t)) : queueMem t = queueMem s := by
  unfold takeCtl at h
  dsimp only at h
  split at h
  · split at h
    · cases h; simp
    · cases h
  · cases h

@[simp] theorem queueMem_opClaimSend (i : Fin 64) (s : State) : queueMem (opClaimSend i s) = queueMem s := by
  simp [opClaimSend]

@[simp] theorem queueMem_opClaim (p : Fin 6) (s : State) : queueMem (opClaim p s) = queueMem s := by
  unfold opClaim
  split
  · rfl
  · next h => simp [queueMem_takeCtl h]

@[simp] theorem queueMem_opClaimAck (p : Fin 6) (s : State) : queueMem (opClaimAck p s) = queueMem s := by
  unfold opClaimAck
  split
  · rfl
  · next h => simp [queueMem_takeCtl h]

@[simp] theorem queueMem_opClaimAckTimeout (i : Fin 64) (s : State) :
    queueMem (opClaimAckTimeout i s) = queueMem s := by
  simp [opClaimAckTimeout]

@[simp] theorem queueMem_opLeaseExpire (s : State) : queueMem (opLeaseExpire s) = queueMem s := by simp [opLeaseExpire]

@[simp] theorem queueMem_opRelease (p : Fin 6) (s : State) : queueMem (opRelease p s) = queueMem s := by
  unfold opRelease
  split
  · rfl
  · next h => simp [queueMem_takeCtl h]

@[simp] theorem queueMem_writeString (s : State) (i : Nat) (v : Reg) : queueMem (writeString s i v) = queueMem s := by
  simp [writeString]

@[simp] theorem queueMem_opStringEntryClear (i : Fin 64) (v : Reg) (s : State) :
    queueMem (opStringEntryClear i v s) = queueMem s := by
  simp [opStringEntryClear]

@[simp] theorem queueMem_writeAnchor (s : State) (v : Reg) : queueMem (writeAnchor s v) = queueMem s := by
  simp [writeAnchor]

@[simp] theorem queueMem_setPort (s : State) (p st : Nat) : queueMem (setPort s p st) = queueMem s := by simp [setPort]

@[simp] theorem queueMem_holdPort (s : State) (p : Nat) (f : Fld) (code : Nat) :
    queueMem (holdPort s p f code) = queueMem s := by
  simp [holdPort]

@[simp] theorem queueMem_opNeighbourCheck (p : Fin 6) (s : State) : queueMem (opNeighbourCheck p s) = queueMem s := by
  simp [opNeighbourCheck]

@[simp] theorem queueMem_opEnumeration (p : Fin 6) (s : State) : queueMem (opEnumeration p s) = queueMem s := by
  simp [opEnumeration]

@[simp] theorem queueMem_writeDims (s : State) (v : Reg) : queueMem (writeDims s v) = queueMem s := by simp [writeDims]

@[simp] theorem queueMem_writeCoord (s : State) (v : Reg) (id : Bool) : queueMem (writeCoord s v id) = queueMem s := by
  simp [writeCoord]

@[simp] theorem queueMem_opFabIdWrite (dims : Bool) (v : Reg) (s : State) :
    queueMem (opFabIdWrite dims v s) = queueMem s := by
  simp [opFabIdWrite]

@[simp] theorem queueMem_opPortDown (p : Fin 6) (s : State) : queueMem (opPortDown p s) = queueMem s := by
  simp [opPortDown]

@[simp] theorem queueMem_opTest (p : Fin 6) (vc : Bool) (s : State) : queueMem (opTest p vc s) = queueMem s := by
  simp [opTest]

/-! ### Fabric time -/

@[simp] theorem queueMem_opTimeReq (s : State) : queueMem (opTimeReq s) = queueMem s := by
  unfold opTimeReq
  split <;> simp

@[simp] theorem queueMem_opTimeRsp (p : Fin 6) (s : State) : queueMem (opTimeRsp p s) = queueMem s := by
  unfold opTimeRsp
  split
  · rfl
  · next h => simp [queueMem_takeCtl h]

@[simp] theorem queueMem_applyOffset (s : State) (off : ℤ) : queueMem (applyOffset s off) = queueMem s := by
  simp [applyOffset]

@[simp] theorem queueMem_opTimeAdjust (p : Fin 6) (s : State) : queueMem (opTimeAdjust p s) = queueMem s := by
  unfold opTimeAdjust
  split
  · rfl
  · next h =>
    rw [← queueMem_takeCtl h]
    split
    · rfl
    · split <;> simp

@[simp] theorem queueMem_opHoldover (s : State) : queueMem (opHoldover s) = queueMem s := by
  unfold opHoldover
  split <;> simp

@[simp] theorem queueMem_opSyncInEdge (s : State) : queueMem (opSyncInEdge s) = queueMem s := by simp [opSyncInEdge]

@[simp] theorem queueMem_opSyncLost (s : State) : queueMem (opSyncLost s) = queueMem s := by simp [opSyncLost]

/-! ### Temperature sensors and the thermal conditions -/

@[simp] theorem queueMem_applyCond (s : State) (fld : Fld) (hi lo : ℤ) (code : Nat) (det : List Byte) :
    queueMem (applyCond s fld hi lo code det) = queueMem s := by
  simp [applyCond]

@[simp] theorem queueMem_opTemperatureSample (f : Fin 64) (k : Fin 4) (reading : BitVec 16) (s : State) :
    queueMem (opTemperatureSample f k reading s) = queueMem s := by
  unfold opTemperatureSample
  dsimp only
  split <;> simp

@[simp] theorem queueMem_opTrip (f : Fin 64) (k : Fin 4) (s : State) : queueMem (opTrip f k s) = queueMem s := by
  simp [opTrip]

@[simp] theorem queueMem_writeThermCtl (s : State) (v : Reg) : queueMem (writeThermCtl s v) = queueMem s := by
  simp [writeThermCtl]

@[simp] theorem queueMem_opTripClr (v : Reg) (s : State) : queueMem (opTripClr v s) = queueMem s := by simp [opTripClr]

/-! ### Ring lifetime, doorbells, sleep, tugs, completions and interrupts -/

@[simp] theorem queueMem_setPoll (s : State) (r p : Nat) : queueMem (setPoll s r p) = queueMem s := by simp [setPoll]

@[simp] theorem queueMem_ringOn (s : State) (r : Nat) : queueMem (ringOn s r) = queueMem s := by simp [ringOn]

@[simp] theorem queueMem_writeRingCtl (s : State) (r : Nat) (v : Reg) : queueMem (writeRingCtl s r v) = queueMem s := by
  simp [writeRingCtl]

@[simp] theorem queueMem_writeRing (s : State) (r k : Nat) (v : Reg) : queueMem (writeRing s r k v) = queueMem s := by
  simp [writeRing]

@[simp] theorem queueMem_opRingEnable (r : Fin 4096) (v : Reg) (s : State) :
    queueMem (opRingEnable r v s) = queueMem s := by
  simp [opRingEnable]

@[simp] theorem queueMem_opRingDisable (r : Fin 4096) (v : Reg) (s : State) :
    queueMem (opRingDisable r v s) = queueMem s := by
  simp [opRingDisable]

@[simp] theorem queueMem_opRingSlotWrite (r : Fin 4096) (k : Fin 8) (v : Reg) (s : State) :
    queueMem (opRingSlotWrite r k v s) = queueMem s := by
  simp [opRingSlotWrite]

@[simp] theorem queueMem_takeDoorbell (s : State) (r : Nat) (res : HostRead) :
    queueMem (takeDoorbell s r res).1 = queueMem s := by
  unfold takeDoorbell
  dsimp only
  repeat' split
  all_goals simp

@[simp] theorem queueMem_opDoorbellPoll (r : Fin 4096) (res : HostRead) (s : State) :
    queueMem (opDoorbellPoll r res s) = queueMem s := by
  simp [opDoorbellPoll]

@[simp] theorem queueMem_opRingSleep (r : Fin 4096) (res : HostRead) (s : State) :
    queueMem (opRingSleep r res s) = queueMem s := by
  simp [opRingSleep]

@[simp] theorem queueMem_opTug (fn : Fin 65) (page : Fin 4096) (off size : Nat) (s : State) :
    queueMem (opTug fn page off size s) = queueMem s := by
  unfold opTug
  split
  · simp
  · split <;> simp

@[simp] theorem queueMem_askDescs (s : State) (r n : Nat) : queueMem (askDescs s r n) = queueMem s := by simp [askDescs]

@[simp] theorem queueMem_opDescriptorFetch (r : Fin 4096) (res : HostRead) (s : State) :
    queueMem (opDescriptorFetch r res s) = queueMem s := by
  unfold opDescriptorFetch
  split
  · simp
  · split <;> simp

@[simp] theorem queueMem_putComp (s : State) (r : Nat) (c : Comp) : queueMem (putComp s r c) = queueMem s := by
  simp [putComp]

@[simp] theorem queueMem_opCompletionWrite (r : Fin 4096) (failed : Option HostFail) (s : State) :
    queueMem (opCompletionWrite r failed s) = queueMem s := by
  unfold opCompletionWrite
  dsimp only
  repeat' split
  all_goals simp

@[simp] theorem queueMem_orphanCmds (s : State) (r : Nat) : queueMem (orphanCmds s r) = queueMem s := by
  simp [orphanCmds]

@[simp] theorem queueMem_giveUp (s : State) (r : Nat) : queueMem (giveUp s r) = queueMem s := by simp [giveUp]

@[simp] theorem queueMem_dropAll (s : State) (r : Nat) : queueMem (dropAll s r) = queueMem s := by simp [dropAll]

@[simp] theorem queueMem_opRingDrainEnd (r : Fin 4096) (limit : Bool) (s : State) :
    queueMem (opRingDrainEnd r limit s) = queueMem s := by
  simp [opRingDrainEnd]

@[simp] theorem queueMem_putAborted (r : Nat) (cs : List Comp) (s : State) :
    queueMem (putAborted r cs s) = queueMem s := by
  induction cs generalizing s with
  | nil => rfl
  | cons c cs ih => unfold putAborted; dsimp only; split <;> simp [ih]

@[simp] theorem queueMem_lastDoorbell (s : State) (r : Nat) (res : HostRead) :
    queueMem (lastDoorbell s r res) = queueMem s := by
  unfold lastDoorbell
  split <;> simp

@[simp] theorem queueMem_opRingOff (r : Fin 4096) (res : HostRead) (s : State) :
    queueMem (opRingOff r res s) = queueMem s := by
  simp [opRingOff]

@[simp] theorem queueMem_sendMessage (s : State) (fn key : Nat) : queueMem (sendMessage s fn key) = queueMem s := by
  simp [sendMessage]

@[simp] theorem queueMem_opMsixMessage (fn : Fin 65) (k : Fin 2048) (holdoff : Bool) (s : State) :
    queueMem (opMsixMessage fn k holdoff s) = queueMem s := by
  simp [opMsixMessage]

@[simp] theorem queueMem_opMsixUnmask (fn : Fin 65) (k : Fin 2048) (addr : BitVec 64) (data : BitVec 32) (mask : Bool) (s : State) :
    queueMem (opMsixUnmask fn k addr data mask s) = queueMem s := by
  simp [opMsixUnmask]

/-! ### Descriptors -/

@[simp] theorem queueMem_opDescriptorStart (s : State) : queueMem (opDescriptorStart s) = queueMem s := by
  unfold opDescriptorStart
  repeat' split
  all_goals simp

theorem queueMem_descSend {s t : State} {r : Nat} {d : Desc} {k : Nat} {warden : Bool} {addr : Nat} {write : Bool} {len : Nat}
    {data : List Byte} (h : descSend s r d k warden addr write len data = .sent t) : queueMem t = queueMem s := queueMem_sendReq h

@[simp] theorem queueMem_moveFinish (s : State) (r id : Nat) : queueMem (moveFinish s r id) = queueMem s := by
  unfold moveFinish
  repeat' split
  all_goals simp

@[simp] theorem queueMem_movePiece (s : State) (r : Nat) (d : Desc) (write : Bool) (data : List Byte) :
    queueMem (movePiece s r d write data) = queueMem s := by
  unfold movePiece
  dsimp only
  split
  · split
    · next h => simp [queueMem_descSend h]
    · simp
    · rfl
  · simp

@[simp] theorem queueMem_opMemRead (r : Fin 4096) (id : Nat) (s : State) :
    queueMem (opMemRead r id s) = queueMem s := by
  unfold opMemRead
  split <;> simp

@[simp] theorem queueMem_askSource (s : State) (r : Nat) (d : Desc) (off n : Nat) (res : HostRead) :
    queueMem (askSource s r d off n res) = queueMem s := by
  unfold askSource
  dsimp only
  repeat' split
  all_goals simp

@[simp] theorem queueMem_opMemWrite (r : Fin 4096) (id : Nat) (res : HostRead) (s : State) :
    queueMem (opMemWrite r id res s) = queueMem s := by
  unfold opMemWrite
  dsimp only
  repeat' split
  all_goals simp

@[simp] theorem queueMem_streamInFinish (s : State) (r id : Nat) : queueMem (streamInFinish s r id) = queueMem s := by
  unfold streamInFinish
  repeat' split
  all_goals simp

@[simp] theorem queueMem_setGrant (s : State) (page n : Nat) : queueMem (setGrant s page n) = queueMem s := by
  simp [setGrant]

@[simp] theorem queueMem_opStreamIn (r : Fin 4096) (id : Nat) (res : HostRead) (s : State) :
    queueMem (opStreamIn r id res s) = queueMem s := by
  unfold opStreamIn
  split
  · rfl
  · dsimp only
    split
    · simp
    · split
      · split
        · simp
        · split
          · next h => simp [queueMem_descSend h]
          · simp
          · simp
      · split
        · split
          · next h => simp [queueMem_descSend h]
          · simp
          · rfl
        · rfl

@[simp] theorem queueMem_opStreamOut (r : Fin 4096) (id : Nat) (s : State) :
    queueMem (opStreamOut r id s) = queueMem s := by
  unfold opStreamOut
  split
  · rfl
  · split
    · rfl
    · split
      · next h => simp [queueMem_descSend h]
      · simp
      · rfl

@[simp] theorem queueMem_pushCmd (s : State) (c : TreeCmd) : queueMem (pushCmd s c) = queueMem s := by simp [pushCmd]

@[simp] theorem queueMem_issueCmd (s : State) (r : Nat) (d : Desc) : queueMem (issueCmd s r d) = queueMem s := by
  simp [issueCmd]

@[simp] theorem queueMem_opSwitchDescriptor (r : Fin 4096) (id : Nat) (s : State) :
    queueMem (opSwitchDescriptor r id s) = queueMem s := by
  unfold opSwitchDescriptor
  split <;> simp

@[simp] theorem queueMem_opPowerDescriptor (r : Fin 4096) (id : Nat) (s : State) :
    queueMem (opPowerDescriptor r id s) = queueMem s := by
  unfold opPowerDescriptor
  split <;> simp

@[simp] theorem queueMem_loadFinish (s : State) (r id : Nat) : queueMem (loadFinish s r id) = queueMem s := by
  unfold loadFinish
  repeat' split
  all_goals simp

@[simp] theorem queueMem_loadOne (s : State) (r id k : Nat) (c : Frame) :
    queueMem (loadOne s r id k c).1 = queueMem s := by
  unfold loadOne
  split
  · rfl
  · dsimp only
    split
    · split <;> simp
    · split
      · next h => simp [queueMem_sendReq h]
      · simp
      · rfl

@[simp] theorem queueMem_loadMany (r id : Nat) (l : List (Nat × Frame)) (s : State) :
    queueMem (loadMany r id l s) = queueMem s := by
  induction l generalizing s with
  | nil => rfl
  | cons x l ih => unfold loadMany; dsimp only; split <;> simp [ih]

@[simp] theorem queueMem_opLoadContext (r : Fin 4096) (id : Nat) (res : HostRead) (s : State) :
    queueMem (opLoadContext r id res s) = queueMem s := by
  unfold opLoadContext
  dsimp only
  repeat' split
  all_goals simp

@[simp] theorem queueMem_opMirrorSet (r : Fin 4096) (id : Nat) (s : State) :
    queueMem (opMirrorSet r id s) = queueMem s := by
  unfold opMirrorSet
  split
  · rfl
  · dsimp only
    split
    · split <;> simp
    · split
      · rfl
      · split
        · next h => simp [queueMem_descSend h]
        · simp
        · rfl

@[simp] theorem queueMem_regAsk (s : State) (r : Nat) (d : Desc) (write : Bool) :
    queueMem (regAsk s r d write) = queueMem s := by
  unfold regAsk
  split
  · rfl
  · split
    · next h => simp [queueMem_descSend h]
    · simp
    · rfl

@[simp] theorem queueMem_opRegRead (r : Fin 4096) (id : Nat) (s : State) :
    queueMem (opRegRead r id s) = queueMem s := by
  unfold opRegRead
  split <;> simp

@[simp] theorem queueMem_opRegWrite (r : Fin 4096) (id : Nat) (s : State) :
    queueMem (opRegWrite r id s) = queueMem s := by
  unfold opRegWrite
  split <;> simp

@[simp] theorem queueMem_opEventWait (r : Fin 4096) (id : Nat) (s : State) :
    queueMem (opEventWait r id s) = queueMem s := by
  unfold opEventWait
  split
  · rfl
  · next d _ =>
    have hgo : ∀ k off write data, queueMem (match descSend s r d k false (qStateAddr (dAddr d) + off) write 8 data with
        | .sent s => modDesc s r id (fun d => { d with stage := d.stage + 1 })
        | .done st => descDone s r id st 0 0
        | .wait => s) = queueMem s := by
      intro k off write data
      split
      · next h => simp [queueMem_descSend h]
      · simp
      · rfl
    dsimp only
    split_ifs
    · simp
    · rfl
    · exact hgo ..
    · exact hgo ..
    · exact hgo ..
    · rfl

@[simp] theorem queueMem_sendClear (s : State) (r : Nat) (dev : BitVec 16) (addr : Nat) :
    queueMem (sendClear s r dev addr) = queueMem s := by
  unfold sendClear
  split
  · next h => exact queueMem_sendReq h
  · rfl
  · simp

@[simp] theorem queueMem_clearHit (s : State) (r : Nat) (d : Desc) : queueMem (clearHit s r d) = queueMem s := by
  simp [clearHit]

@[simp] theorem queueMem_payHits (s : State) : queueMem (payHits s) = queueMem s := by simp [payHits]

@[simp] theorem queueMem_waitHit (s : State) (r : Nat) (d : Desc) (depth : Nat) :
    queueMem (waitHit s r d depth) = queueMem s := by
  simp [waitHit]

@[simp] theorem queueMem_opEventWaitMatch (t : TileIx) (q : Fin 4) (s : State) :
    queueMem (opEventWaitMatch t q s) = queueMem s := by
  unfold opEventWaitMatch
  split <;> simp

@[simp] theorem queueMem_opEventWaitTimeout (r : Fin 4096) (id : Nat) (s : State) :
    queueMem (opEventWaitTimeout r id s) = queueMem s := by
  unfold opEventWaitTimeout
  split <;> simp

@[simp] theorem queueMem_setBind (s : State) (b : Nat) (x : Option Bind) : queueMem (setBind s b x) = queueMem s := by
  simp [setBind]

@[simp] theorem queueMem_unbind (s : State) (b : Nat) : queueMem (unbind s b) = queueMem s := by
  unfold unbind
  split <;> simp

@[simp] theorem queueMem_opNotifyDesc (r : Fin 4096) (id : Nat) (s : State) :
    queueMem (opNotifyDesc r id s) = queueMem s := by
  unfold opNotifyDesc
  repeat' split
  all_goals simp

@[simp] theorem queueMem_opNotifyRecord (b : Fin 256) (s : State) : queueMem (opNotifyRecord b s) = queueMem s := by
  unfold opNotifyRecord
  split
  · rfl
  · dsimp only
    split
    · rfl
    · split
      · next h => simp [queueMem_sendReq h]
      · rfl
      · rfl

@[simp] theorem queueMem_notifyResp (s : State) (b : Nat) (st : Status) (data : List Byte) :
    queueMem (notifyResp s b st data) = queueMem s := by
  unfold notifyResp
  split <;> simp

@[simp] theorem queueMem_opNopDesc (r : Fin 4096) (id : Nat) (s : State) :
    queueMem (opNopDesc r id s) = queueMem s := by
  unfold opNopDesc
  split <;> simp

@[simp] theorem queueMem_opFenceDesc (r : Fin 4096) (id : Nat) (s : State) :
    queueMem (opFenceDesc r id s) = queueMem s := by
  unfold opFenceDesc
  split <;> simp

@[simp] theorem queueMem_descResp (s : State) (r id k : Nat) (st : Status) (data : List Byte) (len endTag : Nat) :
    queueMem (descResp s r id k st data len endTag) = queueMem s := by
  unfold descResp
  split
  · split <;> simp
  · simp [apply_ite Prod.fst]

/-! ### The host interface -/

@[simp] theorem queueMem_writeFuncMap (s : State) (v : Nat) (val : Reg) :
    queueMem (writeFuncMap s v val) = queueMem s := by
  simp [writeFuncMap]

@[simp] theorem queueMem_opHifFuncMapWrite (v : Fin 64) (val : Reg) (s : State) :
    queueMem (opHifFuncMapWrite v val s) = queueMem s := by
  simp [opHifFuncMapWrite]

@[simp] theorem queueMem_writeWinCtl (s : State) (w : Nat) (v : Reg) : queueMem (writeWinCtl s w v) = queueMem s := by
  simp [writeWinCtl]

@[simp] theorem queueMem_opWindowEnableWrite (w : Fin 16) (v : Reg) (s : State) :
    queueMem (opWindowEnableWrite w v s) = queueMem s := by
  simp [opWindowEnableWrite]

@[simp] theorem queueMem_winFail (s : State) (w o : Nat) : queueMem (winFail s w o) = queueMem s := by simp [winFail]

@[simp] theorem queueMem_opHostWindowAccess (ep : Fin 2048) (n : Fin 32) (s : State) :
    queueMem (opHostWindowAccess ep n s) = queueMem s := by
  unfold opHostWindowAccess
  split
  · simp
  · split <;> simp

@[simp] theorem queueMem_endRead (s : State) (id : Nat) (st : Status) (bs : List Byte) :
    queueMem (endRead s id st bs) = queueMem s := by
  unfold endRead
  dsimp only
  repeat' split
  all_goals simp

@[simp] theorem queueMem_opHostCompletion (id : Nat) (res : HostRead) (s : State) :
    queueMem (opHostCompletion id res s) = queueMem s := by
  unfold opHostCompletion
  split <;> simp

@[simp] theorem queueMem_killRing (s : State) (r : Nat) (st : Status) : queueMem (killRing s r st) = queueMem s := by
  simp [killRing]

@[simp] theorem queueMem_killRings (s : State) (fns : Nat → Bool) (st : Status) :
    queueMem (killRings s fns st) = queueMem s := by
  simp [killRings]

@[simp] theorem queueMem_resetFns (s : State) (fns : Nat → Bool) : queueMem (resetFns s fns) = queueMem s := by
  simp [resetFns]

@[simp] theorem queueMem_opFlrVf (v : Fin 64) (s : State) : queueMem (opFlrVf v s) = queueMem s := by simp [opFlrVf]

@[simp] theorem queueMem_opFlrPf (s : State) : queueMem (opFlrPf s) = queueMem s := by simp [opFlrPf]

@[simp] theorem queueMem_endReads (s : State) (st : Status) : queueMem (endReads s st) = queueMem s := by
  simp [endReads]

@[simp] theorem queueMem_linkFields (s : State) : queueMem (linkFields s) = queueMem s := by simp [linkFields]

@[simp] theorem queueMem_opLinkDown (s : State) : queueMem (opLinkDown s) = queueMem s := by simp [opLinkDown]

@[simp] theorem queueMem_opPcieLinkUp (rate : Fin 7) (width : Fin 32) (terms : LinkTerms) (s : State) :
    queueMem (opPcieLinkUp rate width terms s) = queueMem s := by
  simp [opPcieLinkUp]

@[simp] theorem queueMem_opVfEnable (n : Fin 65) (s : State) : queueMem (opVfEnable n s) = queueMem s := by
  simp [opVfEnable]

/-! ### The trouble log, the event recorder, and the NV store with its key store -/

@[simp] theorem queueMem_logMoved (s : State) (before : Nat) : queueMem (logMoved s before) = queueMem s := by
  simp [logMoved]

@[simp] theorem queueMem_putSlot (s : State) (slot : Nat) (ws : List Reg) :
    queueMem (putSlot s slot ws) = queueMem s := by
  simp [putSlot]

@[simp] theorem queueMem_opLogWrite (s : State) : queueMem (opLogWrite s) = queueMem s := by
  unfold opLogWrite
  split <;> simp

@[simp] theorem queueMem_opLogReport (r : Report) (s : State) : queueMem (opLogReport r s) = queueMem s := by
  simp [opLogReport]

@[simp] theorem queueMem_writeLogCtl (s : State) (v : Reg) : queueMem (writeLogCtl s v) = queueMem s := by
  simp [writeLogCtl]

@[simp] theorem queueMem_opRdIndexWrite (v : Reg) (s : State) : queueMem (opRdIndexWrite v s) = queueMem s := by
  simp [opRdIndexWrite]

@[simp] theorem queueMem_opLogClear (v : Reg) (s : State) : queueMem (opLogClear v s) = queueMem s := by
  simp [opLogClear]

@[simp] theorem queueMem_readLogEntry (s : State) (i k : Nat) : queueMem (readLogEntry s i k).1 = queueMem s := by
  unfold readLogEntry
  split
  · simp
  · split <;> simp

@[simp] theorem queueMem_opLogEntryRead (i : Fin 1024) (s : State) : queueMem (opLogEntryRead i s) = queueMem s := by
  simp [opLogEntryRead]

@[simp] theorem queueMem_nvWrite (s : State) (a : Nat) (bs : List Byte) : queueMem (nvWrite s a bs) = queueMem s := by
  simp [nvWrite]

@[simp] theorem queueMem_nvBusy (s : State) (a : Nat) : queueMem (nvBusy s a) = queueMem s := by simp [nvBusy]

@[simp] theorem queueMem_writeNvAt (s : State) (a size : Nat) (v : Reg) (ok : Bool) :
    queueMem (writeNvAt s a size v ok) = queueMem s := by
  simp [writeNvAt]

@[simp] theorem queueMem_nvDrain (ws : List (Nat × Nat × Reg × Bool)) (s : State) :
    queueMem (nvDrain ws s) = queueMem s := by
  induction ws generalizing s with
  | nil => simp [nvDrain]
  | cons w ws ih => unfold nvDrain; dsimp only; split <;> simp [ih]

@[simp] theorem queueMem_opNvWindowWrite (off size : Nat) (v : Reg) (ok : Bool) (s : State) :
    queueMem (opNvWindowWrite off size v ok s) = queueMem s := by
  simp [opNvWindowWrite]

@[simp] theorem queueMem_opNvWriteDone (s : State) : queueMem (opNvWriteDone s) = queueMem s := by simp [opNvWriteDone]

@[simp] theorem queueMem_showKeys (s : State) : queueMem (showKeys s) = queueMem s := by simp [showKeys]

@[simp] theorem queueMem_setStaging (s : State) (bs : List Byte) : queueMem (setStaging s bs) = queueMem s := by
  simp [setStaging]

@[simp] theorem queueMem_keyGo (s : State) (ok : Bool) : queueMem (keyGo s ok) = queueMem s := by simp [keyGo]

@[simp] theorem queueMem_writeKeyCtl (s : State) (v : Reg) (ok : Bool) :
    queueMem (writeKeyCtl s v ok) = queueMem s := by
  simp [writeKeyCtl]

@[simp] theorem queueMem_opKeyProvision (v : Reg) (ok : Bool) (s : State) :
    queueMem (opKeyProvision v ok s) = queueMem s := by
  simp [opKeyProvision]

@[simp] theorem queueMem_writeKeyData (s : State) (k : Nat) (v : Reg) : queueMem (writeKeyData s k v) = queueMem s := by
  simp [writeKeyData]

@[simp] theorem queueMem_writeSlotSel (s : State) (v : Reg) : queueMem (writeSlotSel s v) = queueMem s := by
  simp [writeSlotSel]

@[simp] theorem queueMem_opNviSlotSelWrite (v : Reg) (s : State) : queueMem (opNviSlotSelWrite v s) = queueMem s := by
  simp [opNviSlotSelWrite]

@[simp] theorem queueMem_setAcc (s : State) (off n v : Nat) : queueMem (setAcc s off n v) = queueMem s := by
  simp [setAcc]

@[simp] theorem queueMem_setMir (s : State) (off n v : Nat) : queueMem (setMir s off n v) = queueMem s := by
  simp [setMir]

@[simp] theorem queueMem_tempExtreme (s : State) (q : Nat) (t : ℤ) : queueMem (tempExtreme s q t) = queueMem s := by
  simp [tempExtreme]

@[simp] theorem queueMem_railExtreme (s : State) (r mv : Nat) : queueMem (railExtreme s r mv) = queueMem s := by
  simp [railExtreme]

@[simp] theorem queueMem_opRecorderSample (smp : Sample) (s : State) :
    queueMem (opRecorderSample smp s) = queueMem s := by
  cases smp with
  | temps =>
    unfold opRecorderSample
    dsimp only
    split
    · rfl
    · refine foldl_keeps queueMem (fun s q => ?_) _ s
      split <;> simp
  | _ => simp [opRecorderSample]

@[simp] theorem queueMem_opMirrorCopy (s : State) : queueMem (opMirrorCopy s) = queueMem s := by simp [opMirrorCopy]

@[simp] theorem queueMem_commit (s : State) (ok : Bool) : queueMem (commit s ok) = queueMem s := by simp [commit]

@[simp] theorem queueMem_opRecorderCommit (ok : Bool) (s : State) : queueMem (opRecorderCommit ok s) = queueMem s := by
  simp [opRecorderCommit]

@[simp] theorem queueMem_newChallenge (s : State) : queueMem (newChallenge s) = queueMem s := by simp [newChallenge]

@[simp] theorem queueMem_writeRecCtl (s : State) (warden : Bool) (v : Reg) (recent ok : Bool) :
    queueMem (writeRecCtl s warden v recent ok) = queueMem s := by
  simp [writeRecCtl]

@[simp] theorem queueMem_regRecCtl (s : State) (warden : Bool) (v : Reg) :
    queueMem (regRecCtl s warden v) = queueMem s := by
  simp [regRecCtl]

@[simp] theorem queueMem_opRecCommit (v : Reg) (recent ok : Bool) (s : State) :
    queueMem (opRecCommit v recent ok s) = queueMem s := by
  simp [opRecCommit]

@[simp] theorem queueMem_opNewChallenge (v : Reg) (s : State) : queueMem (opNewChallenge v s) = queueMem s := by
  simp [opNewChallenge]

@[simp] theorem queueMem_endNonce (s : State) : queueMem (endNonce s) = queueMem s := by simp [endNonce]

@[simp] theorem queueMem_opNonceExpiry (s : State) : queueMem (opNonceExpiry s) = queueMem s := by simp [opNonceExpiry]

@[simp] theorem queueMem_opLockoutEnd (s : State) : queueMem (opLockoutEnd s) = queueMem s := by simp [opLockoutEnd]

@[simp] theorem queueMem_writeResponse (s : State) (k : Nat) (v : Reg) :
    queueMem (writeResponse s k v) = queueMem s := by
  simp [writeResponse]

@[simp] theorem queueMem_clearRecorder (s : State) : queueMem (clearRecorder s) = queueMem s := by simp [clearRecorder]

@[simp] theorem queueMem_ledgerClear (s : State) (who : Key) : queueMem (ledgerClear s who) = queueMem s := by
  simp [ledgerClear]

@[simp] theorem queueMem_clearGo (s : State) (who : Key) : queueMem (clearGo s who) = queueMem s := by simp [clearGo]

@[simp] theorem queueMem_opRecClearGo (v : Reg) (who : Key) (s : State) :
    queueMem (opRecClearGo v who s) = queueMem s := by
  simp [opRecClearGo]

@[simp] theorem queueMem_powerOnRecorder (s : State) : queueMem (powerOnRecorder s) = queueMem s := by
  unfold powerOnRecorder
  dsimp only
  split <;> simp

/-! ### Configuration images -/

@[simp] theorem queueMem_reportLoad (s : State) (code : Nat) (det : List Byte) :
    queueMem (reportLoad s code det) = queueMem s := by
  simp [reportLoad]

@[simp] theorem queueMem_setLoad (s : State) (f : LoadSt → LoadSt) : queueMem (setLoad s f) = queueMem s := by
  simp [setLoad]

@[simp] theorem queueMem_wrStatus (s : State) (f : Fld) (x : Nat) : queueMem (wrStatus s f x) = queueMem s := by
  simp [wrStatus]

@[simp] theorem queueMem_wrRegion (s : State) (f : Nat) (fld : Fld) (x : Nat) :
    queueMem (wrRegion s f fld x) = queueMem s := by
  simp [wrRegion]

@[simp] theorem queueMem_failWith (s : State) (c : Nat) (st : Status) : queueMem (failWith s c st) = queueMem s := by
  simp [failWith]

@[simp] theorem queueMem_failLoad (s : State) (c : Nat) : queueMem (failLoad s c) = queueMem s := by simp [failLoad]

@[simp] theorem queueMem_sweepWen (s : State) : queueMem (sweepWen s) = queueMem s := by simp [sweepWen]

@[simp] theorem queueMem_configReset (s : State) : queueMem (configReset s) = queueMem s := by simp [configReset]

@[simp] theorem queueMem_chainSend (s : State) (bs : List Byte) : queueMem (chainSend s bs) = queueMem s := by
  simp [chainSend]

@[simp] theorem queueMem_replicate (s : State) (bs : List Byte) : queueMem (replicate s bs) = queueMem s := by
  simp [replicate]

@[simp] theorem queueMem_progress (s : State) : queueMem (progress s) = queueMem s := by simp [progress]

@[simp] theorem queueMem_claimLoader (s : State) (src : Nat) : queueMem (claimLoader s src) = queueMem s := by
  simp [claimLoader]

@[simp] theorem queueMem_takeHeader (s : State) (h : List Byte) : queueMem (takeHeader s h) = queueMem s := by
  simp [takeHeader]

@[simp] theorem queueMem_opConfigurationReset (s : State) : queueMem (opConfigurationReset s) = queueMem s := by
  simp [opConfigurationReset]

@[simp] theorem queueMem_openFlash (s : State) (golden ddr : Bool) :
    queueMem (openFlash s golden ddr) = queueMem s := by
  simp [openFlash]

@[simp] theorem queueMem_opFlashLoad (golden sfdpOct : Bool) (h : List Byte) (s : State) :
    queueMem (opFlashLoad golden sfdpOct h s) = queueMem s := by
  simp [opFlashLoad]

@[simp] theorem queueMem_takeHead (s : State) (h : List Byte) : queueMem (takeHead s h) = queueMem s := by
  simp [takeHead]

@[simp] theorem queueMem_opChainStart (h : List Byte) (s : State) : queueMem (opChainStart h s) = queueMem s := by
  simp [opChainStart]

@[simp] theorem queueMem_touchSource (s : State) (a n : Nat) : queueMem (touchSource s a n) = queueMem s := by
  unfold touchSource
  refine foldl_keeps queueMem (fun s t => ?_) _ s
  dsimp only
  split
  · rfl
  · split
    · rfl
    · refine foldl_keeps queueMem (fun s k => ?_) _ s
      split <;> simp
    · simp

@[simp] theorem queueMem_withSource {act : State → State} (h : ∀ s, queueMem (act s) = queueMem s) (s : State) (off : Nat) (bs : List Byte) :
    queueMem (withSource s off bs act) = queueMem s := by
  unfold withSource
  split
  · exact h s
  · dsimp only
    split
    · simp
    · split <;> simp [h]

@[simp] theorem queueMem_askImage (s : State) (off n : Nat) : queueMem (askImage s off n) = queueMem s := by
  unfold askImage
  repeat' split
  all_goals simp

@[simp] theorem queueMem_hostHeader (s : State) (hdr : HostRead) : queueMem (hostHeader s hdr) = queueMem s := by
  unfold hostHeader
  repeat' split
  all_goals simp

@[simp] theorem queueMem_startHost (s : State) : queueMem (startHost s) = queueMem s := by simp [startHost]

@[simp] theorem queueMem_abortLoad (s : State) : queueMem (abortLoad s) = queueMem s := by simp [abortLoad]

@[simp] theorem queueMem_writeCfgCtl (s : State) (v : Reg) : queueMem (writeCfgCtl s v) = queueMem s := by
  simp [writeCfgCtl]

@[simp] theorem queueMem_opCfgStart (v : Reg) (hdr : HostRead) (s : State) :
    queueMem (opCfgStart v hdr s) = queueMem s := by
  simp [opCfgStart]

@[simp] theorem queueMem_opCfgAbort (v : Reg) (s : State) : queueMem (opCfgAbort v s) = queueMem s := by
  simp [opCfgAbort]

@[simp] theorem queueMem_opReloadFlash (v : Reg) (s : State) : queueMem (opReloadFlash v s) = queueMem s := by
  simp [opReloadFlash]

@[simp] theorem queueMem_takeStored (s : State) (bs : List Byte) : queueMem (takeStored s bs) = queueMem s := by
  simp [takeStored]

theorem queueMem_takeBody {s t : State} {raw bs : List Byte} {n : Nat} {whole : Bool} (h : takeBody s raw n = .got t bs whole) :
    queueMem t = queueMem s := by
  unfold takeBody at h
  dsimp only at h
  split_ifs at h <;> cases h <;> simp

@[simp] theorem queueMem_bodyStep {act : State → List Byte → Bool → State} (h : ∀ s bs whole, queueMem (act s bs whole) = queueMem s)
    (op : Nat) (raw : List Byte) (need : List Byte → Nat) (ok : State → List Byte → Bool) (s : State) :
    queueMem (bodyStep op raw need ok act s) = queueMem s := by
  unfold bodyStep
  dsimp only
  split
  · split
    · next hb => simp [queueMem_takeBody hb]
    · rfl
  · split
    · simp
    · split
      · rfl
      · split
        · simp
        · split
          · rfl
          · next hb => simp [h, queueMem_takeBody hb]

@[simp] theorem queueMem_bodyCmd {act : State → List Byte → Bool → State} (h : ∀ s bs whole, queueMem (act s bs whole) = queueMem s)
    (op : Nat) (raw : List Byte) (need : List Byte → Nat) (ok : State → List Byte → Bool) (s : State) :
    queueMem (bodyCmd op raw need ok act s) = queueMem s := by
  simp [bodyCmd, h]

@[simp] theorem queueMem_opImageNop (raw : List Byte) (s : State) : queueMem (opImageNop raw s) = queueMem s := by
  simp [opImageNop]

@[simp] theorem queueMem_putFrame (s : State) (i slot : Nat) (c : Frame) :
    queueMem (putFrame s i slot c) = queueMem s := by
  simp [putFrame]

@[simp] theorem queueMem_opWriteFrames (raw : List Byte) (s : State) : queueMem (opWriteFrames raw s) = queueMem s := by
  simp [opWriteFrames]

@[simp] theorem queueMem_opSelectRegion (raw : List Byte) (s : State) :
    queueMem (opSelectRegion raw s) = queueMem s := by
  simp [opSelectRegion]

@[simp] theorem queueMem_opRoll (raw : List Byte) (s : State) : queueMem (opRoll raw s) = queueMem s := by simp [opRoll]

@[simp] theorem queueMem_passOn (s : State) (bs : List Byte) : queueMem (passOn s bs) = queueMem s := by simp [passOn]

@[simp] theorem queueMem_opChainPass (raw : List Byte) (s : State) : queueMem (opChainPass raw s) = queueMem s := by
  simp [opChainPass]

@[simp] theorem queueMem_takePlain (s : State) (pt : List Byte) : queueMem (takePlain s pt) = queueMem s := by
  simp [takePlain]

@[simp] theorem queueMem_opStartup (raw : List Byte) (s : State) : queueMem (opStartup raw s) = queueMem s := by
  simp [opStartup]

@[simp] theorem queueMem_opCrc (raw : List Byte) (s : State) : queueMem (opCrc raw s) = queueMem s := by simp [opCrc]

@[simp] theorem queueMem_partialDone (s : State) : queueMem (partialDone s) = queueMem s := by simp [partialDone]

@[simp] theorem queueMem_bodyEnded (s : State) : queueMem (bodyEnded s) = queueMem s := by simp [bodyEnded]

@[simp] theorem queueMem_opEndImage (raw : List Byte) (s : State) : queueMem (opEndImage raw s) = queueMem s := by
  simp [opEndImage]

@[simp] theorem queueMem_opSegmentDecrypt (seg : List Byte) (s : State) :
    queueMem (opSegmentDecrypt seg s) = queueMem s := by
  unfold opSegmentDecrypt
  split
  · rfl
  · refine queueMem_withSource (fun s => ?_) _ _ _
    dsimp only
    split_ifs
    · rfl
    · simp
    · rfl
    · simp
    · simp
    · rfl
    · split <;> simp
    · split <;> simp

@[simp] theorem queueMem_opLoadTimeout (s : State) : queueMem (opLoadTimeout s) = queueMem s := by simp [opLoadTimeout]

@[simp] theorem queueMem_opChainAbandon (s : State) : queueMem (opChainAbandon s) = queueMem s := by
  simp [opChainAbandon]

@[simp] theorem queueMem_opStaticFrameCommit (s : State) : queueMem (opStaticFrameCommit s) = queueMem s := by
  simp [opStaticFrameCommit]

@[simp] theorem queueMem_opIsolateTimeout (s : State) : queueMem (opIsolateTimeout s) = queueMem s := by
  simp [opIsolateTimeout]

@[simp] theorem queueMem_opChainError (s : State) : queueMem (opChainError s) = queueMem s := by
  unfold opChainError
  split <;> simp

@[simp] theorem queueMem_undoPartial (s : State) (c : Nat) (st : Status) :
    queueMem (undoPartial s c st) = queueMem s := by
  simp [undoPartial]

@[simp] theorem queueMem_dropConfig (s : State) (state : Nat) (golden : Bool) :
    queueMem (dropConfig s state golden) = queueMem s := by
  simp [dropConfig]

@[simp] theorem queueMem_opLoadFailure (rdst : Option Status) (s : State) :
    queueMem (opLoadFailure rdst s) = queueMem s := by
  unfold opLoadFailure
  dsimp only
  repeat' split
  all_goals simp

@[simp] theorem queueMem_opChnDoneStart (s : State) : queueMem (opChnDoneStart s) = queueMem s := by
  simp [opChnDoneStart]

@[simp] theorem queueMem_stepDone (s : State) (c : Nat) : queueMem (stepDone s c) = queueMem s := by simp [stepDone]

@[simp] theorem queueMem_opWaitLock (late : Bool) (s : State) : queueMem (opWaitLock late s) = queueMem s := by
  simp [opWaitLock]

@[simp] theorem queueMem_opOutStep (s : State) : queueMem (opOutStep s) = queueMem s := by simp [opOutStep]

@[simp] theorem queueMem_opWen (s : State) : queueMem (opWen s) = queueMem s := by simp [opWen]

@[simp] theorem queueMem_opSrst (s : State) : queueMem (opSrst s) = queueMem s := by simp [opSrst]

@[simp] theorem queueMem_reportAudit (s : State) (code : Nat) (det : List Byte) :
    queueMem (reportAudit s code det) = queueMem s := by
  simp [reportAudit]

@[simp] theorem queueMem_opAuditorCheck (s : State) : queueMem (opAuditorCheck s) = queueMem s := by
  simp [opAuditorCheck]

@[simp] theorem queueMem_opAuditorSelfCheck (ok : Bool) (s : State) :
    queueMem (opAuditorSelfCheck ok s) = queueMem s := by
  simp [opAuditorSelfCheck]

@[simp] theorem queueMem_opAuditorVote (reg : BitVec 8) (s : State) : queueMem (opAuditorVote reg s) = queueMem s := by
  simp [opAuditorVote]

@[simp] theorem queueMem_writeOrder (s : State) (v : Reg) : queueMem (writeOrder s v) = queueMem s := by
  simp [writeOrder]

@[simp] theorem queueMem_writeCfgKeys (s : State) (v : Reg) : queueMem (writeCfgKeys s v) = queueMem s := by
  simp [writeCfgKeys]

@[simp] theorem queueMem_writeChainCtl (s : State) (v : Reg) : queueMem (writeChainCtl s v) = queueMem s := by
  simp [writeChainCtl]

/-! ### The defaults image and the resets of the device -/

@[simp] theorem queueMem_overlayEffect (s : State) (off : Nat) (mask : Reg) :
    queueMem (overlayEffect s off mask) = queueMem s := by
  unfold overlayEffect
  repeat' split
  all_goals simp

@[simp] theorem queueMem_skipped (s : State) : queueMem (skipped s) = queueMem s := by simp [skipped]

@[simp] theorem queueMem_overlay (keep : Nat → Bool) (loud : Bool) (s : State) (e : List Byte) :
    queueMem (overlay keep loud s e) = queueMem s := by
  unfold overlay
  dsimp only
  split <;> simp

@[simp] theorem queueMem_applySection (keep : Nat → Bool) (pci : Bool) (s : State) (x : Nat × List Byte) :
    queueMem (applySection keep pci s x) = queueMem s := by
  simp [applySection]

@[simp] theorem queueMem_factoryGrade (s : State) : queueMem (factoryGrade s) = queueMem s := by simp [factoryGrade]

@[simp] theorem queueMem_opDefaultsApply (s : State) : queueMem (opDefaultsApply s) = queueMem s := by
  unfold opDefaultsApply
  dsimp only
  repeat' split
  all_goals simp

@[simp] theorem queueMem_writeNviCtl (s : State) (v : Reg) : queueMem (writeNviCtl s v) = queueMem s := by
  simp [writeNviCtl]

@[simp] theorem queueMem_opNviCheck (v : Reg) (s : State) : queueMem (opNviCheck v s) = queueMem s := by
  simp [opNviCheck]

@[simp] theorem queueMem_tornNv (s : State) : queueMem (tornNv s) = queueMem s := by
  unfold tornNv
  split <;> simp

@[simp] theorem queueMem_reportBoot (s : State) : queueMem (reportBoot s) = queueMem s := by simp [reportBoot]

@[simp] theorem queueMem_keepRecords (s n : State) : queueMem (keepRecords s n) = queueMem n := by simp [keepRecords]

@[simp] theorem queueMem_keptRegs (s n : State) : queueMem (keptRegs s n) = queueMem n := by simp [keptRegs]

@[simp] theorem queueMem_writeReset (s : State) (v : Reg) : queueMem (writeReset s v) = queueMem s := by
  simp [writeReset]

@[simp] theorem queueMem_opPerstN (level : Bool) (s : State) : queueMem (opPerstN level s) = queueMem s := by
  simp [opPerstN]

/-! ### Seal points -/

@[simp] theorem queueMem_sealAll (s : State) : queueMem (sealAll s) = queueMem s := by simp [sealAll]

@[simp] theorem queueMem_abortHeld (s : State) : queueMem (abortHeld s) = queueMem s := by simp [abortHeld]

@[simp] theorem queueMem_writeSeal (s : State) (v : Reg) : queueMem (writeSeal s v) = queueMem s := by simp [writeSeal]

@[simp] theorem queueMem_opAccSealWrite (v : Reg) (k : Key) (s : State) :
    queueMem (opAccSealWrite v k s) = queueMem s := by
  simp [opAccSealWrite]

@[simp] theorem queueMem_opAccSealRead (expired : Bool) (s : State) :
    queueMem (opAccSealRead expired s) = queueMem s := by
  simp [opAccSealRead]

/-! ### Accesses to set-up registers by every path -/

@[simp] theorem queueMem_readReg (s : State) (off : Nat) : queueMem (readReg s off).1 = queueMem s := by
  cases h : regFields off <;>
    simp only [readReg, h, apply_ite Prod.fst, queueMem_ite, queueMem_readLogEntry, queueMem_useFree, ite_self]

@[simp] theorem queueMem_setupRead (s : State) (off len : Nat) : queueMem (setupRead s off len).1 = queueMem s := by
  unfold setupRead
  split <;> simp

@[simp] theorem queueMem_wardenWrite (s : State) (k : Key) (off : Nat) (v mask : Reg) :
    queueMem (wardenWrite s k off v mask) = queueMem s := by
  cases h : (List.range 16).find? (fun n => gCtl n == off) <;> simp [wardenWrite, h]

@[simp] theorem queueMem_otherWrite (s : State) (k : Key) (off : Nat) (v : Reg) :
    queueMem (otherWrite s k off v) = queueMem s := by
  simp [otherWrite]

@[simp] theorem queueMem_setupWrite (s : State) (k : Key) (off : Nat) (v mask : Reg) :
    queueMem (setupWrite s k off v mask) = queueMem s := by
  simp [setupWrite]

@[simp] theorem queueMem_setupStore (s : State) (k : Key) (off len : Nat) (v : Reg) :
    queueMem (setupStore s k off len v) = queueMem s := by
  unfold setupStore
  split
  · simp
  · split <;> simp

@[simp] theorem queueMem_maskedWrite (s : State) (k : Key) (off : Nat) (v mask : Reg) :
    queueMem (maskedWrite s k off v mask) = queueMem s := by
  simp [maskedWrite]

@[simp] theorem queueMem_serveTileReg (s : State) (ep n : Nat) (g : Ingress) (i off : Nat) :
    queueMem (serveTileReg s ep n g i off) = queueMem s := by
  unfold serveTileReg
  dsimp only
  split
  · rfl
  · split
    · simp
    · split
      · split
        · next h => simp [queueMem_tileRegWrite h]
        · simp
      · split <;> simp

@[simp] theorem queueMem_serveSetup (s : State) (ep n : Nat) (g : Ingress) (off : Nat) :
    queueMem (serveSetup s ep n g off) = queueMem s := by
  simp [serveSetup]

@[simp] theorem queueMem_serveRegister (s : State) (ep n : Nat) : queueMem (serveRegister s ep n) = queueMem s := by
  unfold serveRegister
  split
  · simp
  · split <;> simp

@[simp] theorem queueMem_bar0Read (s : State) (off size : Nat) : queueMem (bar0Read s off size) = queueMem s := by
  unfold bar0Read
  split <;> simp

@[simp] theorem queueMem_opRegisterWrite (dst : RegDst) (size : Nat) (v : Reg) (k : Key) (s : State) :
    queueMem (opRegisterWrite dst size v k s) = queueMem s := by
  cases dst with
  | tile i off =>
    simp only [opRegisterWrite]
    split
    · rfl
    · split
      · refine queueMem_withYield (fun s => ?_) _ s
        split
        · next h => exact queueMem_tileRegWrite h
        · rfl
      · rfl
  | _ => simp [opRegisterWrite]

@[simp] theorem queueMem_opPeekAccess (write : Bool) (off size : Nat) (v : Reg) (s : State) :
    queueMem (opPeekAccess write off size v s) = queueMem s := by
  simp [opPeekAccess]

@[simp] theorem queueMem_opSmbusOffset (off : BitVec 32) (pecOk : Bool) (s : State) :
    queueMem (opSmbusOffset off pecOk s) = queueMem s := by
  simp [opSmbusOffset]

@[simp] theorem queueMem_opSmbusRead (pecOk : Bool) (s : State) : queueMem (opSmbusRead pecOk s) = queueMem s := by
  simp [opSmbusRead]

@[simp] theorem queueMem_opSmbusWrite (off : BitVec 32) (v : Reg) (pecOk : Bool) (s : State) :
    queueMem (opSmbusWrite off v pecOk s) = queueMem s := by
  simp [opSmbusWrite]

/-! ### What a requester does with a response, and with the waits for one -/

@[simp] theorem queueMem_trainResp (s : State) (x dev : Nat) (st : Status) (bits : Nat) :
    queueMem (trainResp s x dev st bits) = queueMem s := by
  unfold trainResp
  split <;> simp

@[simp] theorem queueMem_countConflict (s : State) (o : Owner) : queueMem (countConflict s o) = queueMem s := by
  unfold countConflict
  repeat' split
  all_goals simp

@[simp] theorem queueMem_complete (s : State) (ep tag : Nat) (l : Landing) (st : Status) (data : List Byte) (endTag : Nat) :
    queueMem (complete s ep tag l st data endTag) = queueMem s := by
  unfold complete
  split <;> simp

@[simp] theorem queueMem_wakeAnswer (s : State) (ep : Nat) : queueMem (wakeAnswer s ep) = queueMem s := by
  simp [wakeAnswer]

@[simp] theorem queueMem_sendWdata (s : State) (ep : Nat) (l : Landing) (f : Flit) :
    queueMem (sendWdata s ep l f) = queueMem s := by
  simp [sendWdata]

@[simp] theorem queueMem_opResponseEject (ep : Fin 2048) (dat : Bool) (s : State) :
    queueMem (opResponseEject ep dat s) = queueMem s := by
  unfold opResponseEject
  dsimp only
  split
  · rfl
  · split
    · rfl
    · next h =>
      rw [← queueMem_takeFirst h]
      split
      · simp
      · split <;> simp

@[simp] theorem queueMem_opRequestRetry (ep : Fin 2048) (tag : Fin 256) (s : State) :
    queueMem (opRequestRetry ep tag s) = queueMem s := by
  unfold opRequestRetry
  split <;> simp

@[simp] theorem queueMem_opRetryTimeout (ep : Fin 2048) (tag : Fin 256) (s : State) :
    queueMem (opRetryTimeout ep tag s) = queueMem s := by
  unfold opRetryTimeout
  split <;> simp

@[simp] theorem queueMem_opRspTimeout (ep : Fin 2048) (tag : Fin 256) (s : State) :
    queueMem (opRspTimeout ep tag s) = queueMem s := by
  unfold opRspTimeout
  split <;> simp

end Sys2Proof.Proofs
end

section
/-! PROOFS. The commands that write memory keep its canonical form; so does every step (spec 03 R103; spec 06 R195, R227). -/

namespace Sys2Proof.Proofs

open Machine Laws Claims

/-- What every command keeps, of the queue and memory before it and after it: the queue, and the canonical form of memory. -/
def Kept (x y : List Instr × List Host.Cell) : Prop := y.1 = x.1 ∧ (Memory.wf x.2 = true → Memory.wf y.2 = true)

@[simp] theorem Kept.refl (x : List Instr × List Host.Cell) : Kept x x := ⟨rfl, id⟩

theorem Kept.trans {x y z : List Instr × List Host.Cell} (h : Kept x y) (k : Kept y z) : Kept x z :=
  ⟨k.1.trans h.1, k.2 ∘ h.2⟩

theorem kept_foldl {α : Type} {x : List Instr × List Host.Cell} {f : State → α → State}
    (hf : ∀ s a, Kept x (queueMem s) → Kept x (queueMem (f s a))) (l : List α) {s : State} (h : Kept x (queueMem s)) :
    Kept x (queueMem (l.foldl f s)) := by
  induction l generalizing s with
  | nil => exact h
  | cons a l ih => exact ih (hf s a h)

section
variable {x : List Instr × List Host.Cell} {s : State} (h : Kept x (queueMem s))
include h

theorem kept_memWrite (a : Nat) (bs : List Byte) : Kept x (queueMem (memWrite s a bs)) := by
  induction bs generalizing s a with
  | nil => exact h
  | cons b bs ih => exact ih (s := memSet s a b) (h.trans ⟨rfl, fun hm => memSet_wf hm a b⟩) (a + 1)

theorem kept_memZero (a n : Nat) : Kept x (queueMem (memZero s a n)) := h.trans ⟨rfl, fun hm => memZero_wf hm a n⟩

/-! ### X and Y memory -/

theorem kept_xyWrite (i : Nat) (y : Bool) (a : Nat) (w : Word) : Kept x (queueMem (xyWrite s i y a w)) := by
  simpa [xyWrite] using kept_memWrite h _ _

theorem kept_macFetch (i : Nat) (c : Frame) : Kept x (queueMem (macFetch s i c).1) := by
  have hw : Kept x (queueMem (if mAgw c then
      let u := agStep (getT s i) c 0
      let w := ((operand (getT s i) c 2).getD ⟨0, .data⟩).data
      portUsed (xyWrite (setT s i u.1) i (mAgwMem c) u.2 w) i 1 (xyAddr i (mAgwMem c) 0) (xyAddr i (mAgwMem c) 1024) (fun _ => false)
    else s)) := by
    split
    · simpa using kept_xyWrite (by simpa using h) _ _ _ _
    · exact h
  simpa [macFetch, apply_ite Prod.fst] using hw

theorem kept_fireMac (op : Nat) (i : TileIx) : Kept x (queueMem (fireMac op i s)) := by
  unfold fireMac
  dsimp only
  split
  · simpa using kept_macFetch h _ _
  · exact h

theorem kept_opXyAccess (ep : Fin 2048) (n : Fin 32) : Kept x (queueMem (opXyAccess ep n s)) := by
  unfold opXyAccess
  split
  · simp [apply_ite (Kept x), h, kept_xyWrite]
  · exact h

/-! ### Banks -/

theorem kept_putBank (i off : Nat) (bs : List Byte) : Kept x (queueMem (putBank s i off bs)) := by
  simpa [putBank] using kept_memWrite h _ _

theorem kept_writeBank (i off : Nat) (bs : List Byte) : Kept x (queueMem (writeBank s i off bs).1) := by
  unfold writeBank
  dsimp only
  split
  · simpa using h
  · exact kept_putBank (by simpa using h) _ _ _

theorem kept_putRow (i r : Nat) (ws : List SWord) : Kept x (queueMem (putRow s i r ws)) := by
  simpa [putRow] using kept_putBank h _ _ _

theorem kept_moveOut (i n : Nat) : Kept x (queueMem (moveOut s i n)) := by
  simpa [moveOut] using kept_putRow (by simpa using h) _ _ _

theorem kept_dlyMove (i n : Nat) : Kept x (queueMem (dlyMove s i n)) := by
  unfold dlyMove
  dsimp only
  split
  · simpa using kept_putRow (by simpa using h) _ _ _
  · simpa using h

theorem kept_opRowMove (i : TileIx) (n : Fin 4) : Kept x (queueMem (opRowMove i n s)) := by
  simp [opRowMove, apply_ite (Kept x), h, kept_dlyMove, kept_moveOut]

theorem kept_opBankWrite (ep : Fin 2048) (n : Fin 32) (same : Bool) : Kept x (queueMem (opBankWrite ep n same s)) := by
  unfold opBankWrite
  split
  · simp [apply_ite (Kept x), h, kept_writeBank]
  · exact h

/-! ### B-tiles -/

/-- Where a bank operation leaves a state, the queue and memory are as `Kept` says. -/
def ResKept (x : List Instr × List Host.Cell) (r : BRes) : Prop :=
  match r with
  | .fire t _ _ _ => Kept x (queueMem t)
  | .load t _ => Kept x (queueMem t)
  | .hold | .stall | .conflict => True

end

theorem ResKept.fire {x : List Instr × List Host.Cell} {r : BRes} {t : State} {w : Word} {g : Option Tag} {fl : Option Bool}
    (hk : ResKept x r) (hr : r = .fire t w g fl) : Kept x (queueMem t) := by subst hr; exact hk

theorem ResKept.load {x : List Instr × List Host.Cell} {r : BRes} {t : State} {g : Nat}
    (hk : ResKept x r) (hr : r = .load t g) : Kept x (queueMem t) := by subst hr; exact hk

theorem kept_fireB {x : List Instr × List Host.Cell} {f : Nat → Frame → SWord → SWord → Tag → State → BRes}
    (hf : ∀ i c a b tag s, Kept x (queueMem s) → ResKept x (f i c a b tag s)) (op : Nat) (i : TileIx) {s : State}
    (h : Kept x (queueMem s)) : Kept x (queueMem (fireB op f i s)) := by
  unfold fireB
  dsimp only
  split
  · split
    · exact h
    · simpa using h
    · simpa using h
    · next hr => simpa using (hf _ _ _ _ _ s h).fire hr
    · next hr => simpa using (hf _ _ _ _ _ s h).load hr
  · exact h

section
variable {x : List Instr × List Host.Cell} (i : Nat) (c : Frame) (a b : SWord) (tag : Tag) (s : State) (h : Kept x (queueMem s))
include h

theorem kept_bopBrd : ResKept x (bopBrd i c a b tag s) := by
  unfold bopBrd
  split
  · trivial
  · simpa [ResKept] using h

theorem kept_bopBwr : ResKept x (bopBwr i c a b tag s) := by
  unfold bopBwr
  split
  · trivial
  · split
    · trivial
    · dsimp only
      split <;> simpa [ResKept] using kept_writeBank (by simpa using h) _ _ _

theorem kept_bopQpush : ResKept x (bopQpush i c a b tag s) := by
  unfold bopQpush
  dsimp only
  split
  · trivial
  · split
    · trivial
    · simpa [ResKept] using h

theorem kept_bopQpop : ResKept x (bopQpop i c a b tag s) := by
  unfold bopQpop
  dsimp only
  split
  · trivial
  · split
    · trivial
    · split
      · trivial
      · simpa [ResKept] using h

theorem kept_bopQlvl : ResKept x (bopQlvl i c a b tag s) := by
  unfold bopQlvl
  dsimp only
  split
  · trivial
  · exact h

theorem kept_bopDlyb : ResKept x (bopDlyb i c a b tag s) := by
  unfold bopDlyb
  dsimp only
  split
  · trivial
  · split
    · trivial
    · split
      · trivial
      · simpa [ResKept] using h

theorem kept_bopGwld : ResKept x (bopGwld i c a b tag s) := by
  unfold bopGwld
  split
  · trivial
  · simpa [ResKept] using h

theorem kept_bopGwst : ResKept x (bopGwst i c a b tag s) := by
  unfold bopGwst
  split
  · trivial
  · simpa [ResKept] using h

theorem kept_bopGwfence : ResKept x (bopGwfence i c a b tag s) := by
  unfold bopGwfence
  split
  · trivial
  · split
    · trivial
    · exact h

end

section
variable {x : List Instr × List Host.Cell} {s : State} (h : Kept x (queueMem s))
include h

/-! ### Mirrors -/

theorem kept_fillStep (i : Nat) (p : FillOwner → Bool) : Kept x (queueMem (fillStep s i p).1) := by
  unfold fillStep
  dsimp only
  split
  · exact h
  · next y _ =>
    have hw : Kept x (queueMem (xyWrite (portServed s i 1 (xyAddr i true 0) (xyAddr i true 1024)) i true (16 * y.line + y.moved)
      (BitVec.ofNat 32 (leAt y.data (4 * y.moved) 4)))) := kept_xyWrite (by simpa using h) _ _ _ _
    split <;> simpa using hw

theorem kept_pushStep (ep i : Nat) : Kept x (queueMem (pushStep s ep i)) := by
  have hf := kept_fillStep h i (ofPush ep)
  unfold pushStep
  split
  · next hs => rw [hs] at hf; split <;> simpa using hf
  · next hs => rwa [hs] at hf

theorem kept_opMpush (ep : Fin 2048) : Kept x (queueMem (opMpush ep s)) := by
  unfold opMpush
  split
  · exact h
  · split
    · simp [apply_ite (Kept x), h, kept_pushStep]
    · split
      · exact h
      · next ht =>
        have ht := queueMem_takeFirst ht
        simp [apply_ite (Kept x), h, ht, kept_pushStep]

theorem kept_refetchFill (f m l : Nat) (w : Refetch) : Kept x (queueMem (refetchFill s f m l w)) := by
  simpa [refetchFill] using kept_foldl (fun s i hs => kept_fillStep hs i (ofRefetch f m l)) _ h

theorem kept_opMirrorRefetch (f : Fin 64) (m : Fin 256) (line : Fin 128) : Kept x (queueMem (opMirrorRefetch f m line s)) := by
  simp [opMirrorRefetch, apply_ite (Kept x), h, kept_refetchFill]

theorem kept_opRefetchRetry (f : Fin 64) (m : Fin 256) (line : Fin 128) : Kept x (queueMem (opRefetchRetry f m line s)) := by
  unfold opRefetchRetry
  split
  · exact h
  · simp [apply_ite (Kept x), h, kept_refetchFill]

/-! ### Clearing and resets -/

theorem kept_opClearing (f : Fin 64) : Kept x (queueMem (opClearing f s)) := by
  have hz : Kept x (s.pending, (memZero s (tileBase (256 * f)) (256 * 65536)).mem) := kept_memZero h _ _
  unfold opClearing
  split
  · exact h
  · simpa [clearField] using hz

/-- After a reset of the device its memory is empty. -/
theorem kept_coldState (st : Straps) (last : Nat) : Kept x (queueMem (coldState s st last)) := by
  have hc : queueMem (coldState s st last) = (s.pending, []) := by simp [coldState, State.reset]
  rw [hc]
  exact h.trans ⟨rfl, fun _ => rfl⟩

theorem kept_opPowerOnReset (st : Straps) : Kept x (queueMem (opPowerOnReset st s)) := by
  simpa [opPowerOnReset] using kept_coldState (by simpa using h) _ _

theorem kept_opColdReset (st : Straps) : Kept x (queueMem (opColdReset st s)) := by
  simpa [opColdReset] using kept_coldState h st 1

theorem kept_opSample (smp : Sample) : Kept x (queueMem (opSample smp s)) := by
  cases smp with
  | rail r mv => simp [opSample, railMonitor, apply_ite (Kept x), h, kept_opColdReset]
  | _ => simpa [opSample] using h

theorem kept_opDeviceReset : Kept x (queueMem (opDeviceReset s)) := by
  unfold opDeviceReset
  split
  · exact h
  · simpa using kept_coldState (by simpa using h) _ _

end

/-! ### Every command, and the step -/

theorem exec_kept (c : Instr) {x : List Instr × List Host.Cell} {s t : State} (h : Kept x (queueMem s)) (he : exec c s = .next t) :
    Kept x (queueMem t) := by
  cases c with
  | mac32 | cmac16 | dmac16 | dot8 | mul32 | cmul16 | dmul16 | mdot8 | dump | dumpt | accinit => cases he; exact kept_fireMac h _ _
  | xyNetworkAccess => cases he; exact kept_opXyAccess h _ _
  | brd => cases he; exact kept_fireB kept_bopBrd _ _ h
  | bwr => cases he; exact kept_fireB kept_bopBwr _ _ h
  | qpush => cases he; exact kept_fireB kept_bopQpush _ _ h
  | qpop => cases he; exact kept_fireB kept_bopQpop _ _ h
  | qlvl => cases he; exact kept_fireB kept_bopQlvl _ _ h
  | dlyb => cases he; exact kept_fireB kept_bopDlyb _ _ h
  | gwld => cases he; exact kept_fireB kept_bopGwld _ _ h
  | gwst => cases he; exact kept_fireB kept_bopGwst _ _ h
  | gwfence => cases he; exact kept_fireB kept_bopGwfence _ _ h
  | rowMove => cases he; exact kept_opRowMove h _ _
  | bankWrite => cases he; exact kept_opBankWrite h _ _ _
  | mpush => cases he; exact kept_opMpush h _
  | mirrorRefetch => cases he; exact kept_opMirrorRefetch h _ _ _
  | refetchRetry => cases he; exact kept_opRefetchRetry h _ _ _
  | clearing => cases he; exact kept_opClearing h _
  | powerOnReset st =>
    have ht : opPowerOnReset st s = t := Host.Outcome.next.inj he
    exact ht ▸ kept_opPowerOnReset h st
  | coldReset => cases he; exact kept_opColdReset h _
  | deviceReset => cases he; exact kept_opDeviceReset h
  | recorderSample => cases he; exact kept_opSample h _
  | chainStart | flashLoad | logReport =>
    simp only [exec, execChainStart, execFlashLoad, execLogReport] at he
    split at he
    · cases he; simpa using h
    · cases he
  | _ => cases he; simpa using h

/-- A step runs the command at the front of the queue, or lets time pass. -/
theorem step_kept {s t : State} (h : step s = .next t) : Kept (s.rest, s.mem) (queueMem t) := by
  unfold step at h
  split at h
  · next hp =>
    cases h
    have hq : queueMem s = (s.rest, s.mem) := by simp [← queueMem_fold, State.rest, hp]
    simp [hq]
  · next c rest hp =>
    have hr : s.rest = rest := by simp [State.rest, hp]
    rw [hr]
    exact exec_kept c (s := { s with pending := rest }) (Kept.refl _) h

/-- Settles O59: no command touches the queue, and every write of memory keeps its canonical form. -/
theorem invKept : Obligations.InvKept :=
  ⟨fun _ _ hs h => (step_kept h).2 hs, fun _ _ h => (step_kept h).1⟩

end Sys2Proof.Proofs
end

section
/-! PROOFS. The last stage of an M-tile's pipeline: accumulators and dumps (spec 03 R93 to R97, R110). -/

namespace Sys2Proof.Proofs

open Machine Laws Claims

/-! ### Accumulators -/

/-- The model's reading of a `w`-bit number as a signed one is Lean's. -/
theorem sintOf_toNat {w : Nat} (v : BitVec w) : sintOf w v.toNat = v.toInt := by
  rw [sintOf, Nat.mod_eq_of_lt v.isLt, BitVec.toInt_eq_toNat_cond]
  cases w with
  | zero => simp [BitVec.of_length_zero (x := v)]
  | succ n => congr 1; simp only [Nat.add_sub_cancel, pow_succ]; exact propext ⟨fun h => by omega, fun h => by omega⟩

theorem accInt_eq (v : BitVec 80) : accInt v = v.toInt := sintOf_toNat v

theorem accApply_fst (c : Frame) (v : BitVec 80) (x : Int) : (accApply (mAccOp c) v x).1 = accAfter c v x := by
  simp only [accApply, accAfter, accInt_eq]

section
variable (c : Frame) (fac : Bool) (x : Int) (t : Tile)

theorem accUpdate_zero : (accUpdate c fac 0 x t).m.acc0 = accAfter c t.m.acc0 x ∧ (accUpdate c fac 0 x t).m.acc1 = t.m.acc1 := by
  simp only [accUpdate, if_true, ← accApply_fst, mStat]
  split <;> exact ⟨trivial, rfl⟩

theorem accUpdate_one : (accUpdate c fac 1 x t).m.acc1 = accAfter c t.m.acc1 x ∧ (accUpdate c fac 1 x t).m.acc0 = t.m.acc0 := by
  simp only [accUpdate, one_ne_zero, if_false, ← accApply_fst, mStat]
  split <;> exact ⟨trivial, rfl⟩

end

section
variable {c : Frame} (s0 s1 : Int) (fac : Bool) (t : Tile)

/-- MAC32 and DOT8 update the accumulator that ACC_SEL names. -/
theorem macAccumulate_one (h : cOp c = 0x60 ∨ cOp c = 0x63) :
    macAccumulate c s0 s1 fac t = accUpdate c fac (b2n (mAccSel c)) s0 t := by
  rw [macAccumulate, if_pos h]

/-- CMAC16 and DMAC16 update both. -/
theorem macAccumulate_both (h : cOp c = 0x61 ∨ cOp c = 0x62) :
    macAccumulate c s0 s1 fac t = accUpdate c fac 1 s1 (accUpdate c fac 0 s0 t) := by
  rw [macAccumulate, if_neg (by omega), if_pos h]

theorem macAccumulate_init (h : cOp c = 0x74) :
    (macAccumulate c s0 s1 fac t).m.acc0 = t.m.init0 ∧ (macAccumulate c s0 s1 fac t).m.acc1 = t.m.init1 := by
  rw [macAccumulate, if_neg (by omega), if_neg (by omega), if_pos h]
  exact ⟨rfl, rfl⟩

/-- The other M-opcodes leave the accumulators alone. -/
theorem macAccumulate_other (h : cOp c = 0x68 ∨ cOp c = 0x70 ∨ cOp c = 0x71) : macAccumulate c s0 s1 fac t = t := by
  rw [macAccumulate, if_neg (by omega), if_neg (by omega), if_neg (by omega)]

end

/-! ### The last stage -/

theorem latchReady_iff {s : State} {i : TileIx} {fl : Flight} : latchReady s i fl = true ↔
    tileRuns s i = true ∧ (getT s i).pipe.head? = some fl
      ∧ latchFree (getT s i) .out0 = true ∧ latchFree (getT s i) .out1 = true := by
  simp [latchReady, and_assoc]

/-- With a firing in flight and the tile running, PIPELINE_LATCH does the firing's last two stages in its tile. -/
theorem opPipelineLatch_of_ready {s : State} {i : TileIx} {fl : Flight} (h : latchReady s i fl = true) :
    opPipelineLatch i s = setT s i (touch s i (lastStage (stage3 (getT s i)))) := by
  obtain ⟨hr, hp, -, -⟩ := latchReady_iff.mp h
  refine if_neg (not_or.mpr ⟨by simp [hr], fun hn => ?_⟩)
  rw [hn] at hp
  cases hp

theorem touch_latchFlight (s : State) (i : Nat) (t : Tile) (fl : Flight) (o0 o1 : Option SWord) :
    (touch s i (latchFlight t fl o0 o1)).m = t.m ∧ (touch s i (latchFlight t fl o0 o1)).pipe = t.pipe.drop 1 := ⟨rfl, rfl⟩

section
variable {c : Frame} {s0 s1 : Int} {tag : Tag} {fac psn : Bool} {a : Option SWord} {t : Tile} {rest : List Flight}

/-- A firing that does not dump leaves the pipeline as it updates the accumulators. -/
theorem lastStage_noDump (h : t.pipe = ⟨c, .mac s0 s1 tag fac psn a false⟩ :: rest) :
    lastStage (stage3 t) = latchFlight { macAccumulate c s0 s1 fac t with pipe := ⟨c, .words none none none⟩ :: rest }
      ⟨c, .words none none none⟩ none none := by
  simp [stage3, h, macStage3, lastStage, latchWork, flightOk, flightMakes, writeRegs]

end

/-- Settles O12: the accumulators after the last stage are those of `macAccumulate`. -/
theorem macAccumulates : Obligations.MacAccumulates := by
  intro s i c s0 s1 tag fac psn a h
  obtain ⟨rest, hp⟩ := List.head?_eq_some_iff.mp (latchReady_iff.mp h).2.1
  have ht := opPipelineLatch_of_ready h
  rw [lastStage_noDump hp] at ht
  refine ⟨_, congrArg Host.Outcome.next ht, ?_⟩
  rw [getT_setT_same, (touch_latchFlight ..).1, (touch_latchFlight ..).2, hp]
  refine ⟨rfl, rfl, fun ho hsel => ?_, fun ho hsel => ?_, fun ho => ?_, fun ho => macAccumulate_init s0 s1 fac _ ho⟩
  · simpa [macAccumulate_one s0 s1 fac _ ho, hsel, b2n] using accUpdate_zero c fac s0 (getT s i)
  · simpa [macAccumulate_one s0 s1 fac _ ho, hsel, b2n] using accUpdate_one c fac s0 (getT s i)
  · obtain ⟨h0, h0'⟩ := accUpdate_zero c fac s0 (getT s i)
    obtain ⟨h1, h1'⟩ := accUpdate_one c fac s1 (accUpdate c fac 0 s0 (getT s i))
    simp only [macAccumulate_both s0 s1 fac _ ho]
    exact ⟨h1'.trans h0, h1.trans (by rw [h0'])⟩

/-! ### Dumps -/

theorem wrapInt_lt (w : Nat) (x : Int) : wrapInt w x < 2 ^ w := by
  have hp : (0 : Int) < (2 ^ w : Nat) := by positivity
  have := Int.emod_lt_of_pos x hp
  unfold wrapInt
  omega

/-- What the model fits a value to is what R96 says. -/
theorem fitTo_fst (c : Frame) (w : Nat) (v : Int) : (fitTo c w (v / (2 ^ kShift c : Nat))).1 = dumpFit c w v := by
  unfold fitTo dumpFit
  by_cases hs : kOsat c = true <;> by_cases hg : kOsgn c = true <;> simp [hs, hg, wrapInt, clampS]

theorem dumpFit_lt (c : Frame) (w : Nat) (v : Int) : dumpFit c w v < 2 ^ w := wrapInt_lt w _

/-- The data of RES0: one value of 32 bits, or two of 16. -/
theorem dumpWords_data (c : Frame) (v0 v1 : Int) (tag : Tag) (m0 m1 : Bool) :
    (dumpWords c v0 v1 tag m0 m1).1.data.toNat
      = if kOfmt c = 0 then dumpFit c 32 v0 else dumpFit c 16 v0 + 65536 * dumpFit c 16 v1 := by
  have h32 := dumpFit_lt c 32 v0
  have h0 := dumpFit_lt c 16 v0
  have h1 := dumpFit_lt c 16 v1
  unfold dumpWords
  dsimp only
  split <;> simp only [fitTo_fst, BitVec.toNat_ofNat] <;> exact Nat.mod_eq_of_lt (by omega)

section
variable {c : Frame} {v0 v1 : Int} {tag : Tag} {m0 m1 psn : Bool} {a : Option SWord} {t : Tile} {rest : List Flight}

/-- S4 of a dump whose latches are free. -/
theorem lastStage_dump (hp : t.pipe = ⟨c, .dump v0 v1 tag m0 m1 psn a⟩ :: rest) (h0 : latchFree t .out0 = true)
    (h1 : latchFree t .out1 = true) :
    lastStage t = latchFlight (macStage4 c v0 v1 tag m0 m1 psn a t).1 ⟨c, .dump v0 v1 tag m0 m1 psn a⟩
      (macStage4 c v0 v1 tag m0 m1 psn a t).2.1 (macStage4 c v0 v1 tag m0 m1 psn a t).2.2 := by
  simp [lastStage, hp, flightOk, latchOk, h0, h1]

/-- A dump's status, predicate and register writes leave the accumulators alone. -/
theorem macStage4_accs : (macStage4 c v0 v1 tag m0 m1 psn a t).1.m.acc0 = t.m.acc0
    ∧ (macStage4 c v0 v1 tag m0 m1 psn a t).1.m.acc1 = t.m.acc1 := by
  simp only [macStage4, writeRegs, writePred, mStat]
  split_ifs <;> exact ⟨rfl, rfl⟩

theorem macStage4_out0 (h : out0En c = true) :
    (macStage4 c v0 v1 tag m0 m1 psn a t).2.1 = some (dumpWords c v0 v1 tag m0 m1).1 := by simp [macStage4, h]

end

theorem mem_latchFlight_out0 (t : Tile) (fl : Flight) (w : SWord) (o1 : Option SWord) (h : drvSet fl.frame 1 ≠ []) :
    ⟨.out0, w, drvSet fl.frame 1, 0⟩ ∈ (latchFlight t fl (some w) o1).latches := by
  simp [latchFlight, h]

/-- What a dump of `v0` and `v1` leaves: its word on OUT0, and the accumulators of the tile that S3 left. -/
def Dumped (c : Frame) (v0 v1 : Int) (t t' : Tile) : Prop :=
  (∃ l ∈ t'.latches, l.src = .out0 ∧ l.set = drvSet c 1 ∧ l.word.data.toNat
      = if kOfmt c = 0 then dumpFit c 32 v0 else dumpFit c 16 v0 + 65536 * dumpFit c 16 v1)
    ∧ t'.m.acc0 = t.m.acc0 ∧ t'.m.acc1 = t.m.acc1

theorem dumped_touch {c : Frame} {v0 v1 : Int} {tag : Tag} {m0 m1 psn : Bool} {a : Option SWord} {t : Tile} {rest : List Flight}
    (s : State) (i : Nat) (hp : t.pipe = ⟨c, .dump v0 v1 tag m0 m1 psn a⟩ :: rest) (h0 : latchFree t .out0 = true)
    (h1 : latchFree t .out1 = true) (ho : out0En c = true) (hd : drvSet c 1 ≠ []) :
    Dumped c v0 v1 t (touch s i (lastStage t)) := by
  rw [lastStage_dump hp h0 h1, macStage4_out0 ho]
  exact ⟨⟨_, mem_latchFlight_out0 _ _ _ _ hd, rfl, rfl, dumpWords_data ..⟩, macStage4_accs (a := a)⟩

section
variable {c : Frame} {s0 s1 : Int} {tag : Tag} {fac psn : Bool} {a : Option SWord} {t : Tile} {rest : List Flight}
  (h : t.pipe = ⟨c, .mac s0 s1 tag fac psn a true⟩ :: rest)
include h

/-- S3 of DUMP and DUMPT: the accumulators are read for the dump, then reloaded. -/
theorem stage3_dump (ho : cOp c = 0x70 ∨ cOp c = 0x71) :
    stage3 t = { macReload c t with
      pipe := ⟨c, .dump t.m.acc0.toInt t.m.acc1.toInt tag t.m.psn0 t.m.psn1 psn a⟩ :: rest } := by
  have hm : isMul (cOp c) = false := by simp [isMul]; omega
  simp [stage3, h, macStage3, macAccumulate_other s0 s1 fac t (.inr ho), hm, accInt_eq]

/-- S3 of MUL32 with ACC_SEL 0: the dump is of S0. -/
theorem stage3_mul32 (ho : cOp c = 0x68) (hsel : mAccSel c = false) :
    stage3 t = { t with pipe := ⟨c, .dump s0 0 tag false false psn a⟩ :: rest } := by
  have hm : isMul 0x68 = true := rfl
  simp [stage3, h, macStage3, macAccumulate_other s0 s1 fac t (.inl ho), hm, ho, hsel]

end

theorem macReload_accs {c : Frame} (t : Tile) (h : isMul (cOp c) = false) :
    (macReload c t).m.acc0 = (if kReload c = true then t.m.init0 else t.m.acc0)
      ∧ (macReload c t).m.acc1 = (if kReload c = true then t.m.init1 else t.m.acc1) := by
  by_cases hk : kReload c = true <;> simp [macReload, h, hk]

theorem macReload_latches (c : Frame) (t : Tile) : (macReload c t).latches = t.latches := by
  unfold macReload
  split <;> rfl

/-- Settles O13: S3 reads the values and reloads, S4 fits, packs and latches them. -/
theorem macDumps : Obligations.MacDumps := by
  intro s i c s0 s1 tag fac psn a h ho hd
  obtain ⟨-, hp, h0, h1⟩ := latchReady_iff.mp h
  obtain ⟨rest, hp⟩ := List.head?_eq_some_iff.mp hp
  have ht := opPipelineLatch_of_ready h
  refine ⟨fun hop => ?_, fun hop hsel hfmt => ?_⟩
  · rw [stage3_dump hp hop] at ht
    have hl : latchFree (macReload c (getT s i)) = latchFree (getT s i) := by
      funext src; simp only [latchFree, macReload_latches]
    obtain ⟨hw, ha0, ha1⟩ := dumped_touch (t := { macReload c (getT s i) with pipe := _ :: rest }) s i rfl
      ((congrFun hl .out0).trans h0) ((congrFun hl .out1).trans h1) ho hd
    obtain ⟨hr0, hr1⟩ := macReload_accs (c := c) (getT s i) (by simp [isMul]; omega)
    refine ⟨_, congrArg Host.Outcome.next ht, ?_⟩
    rw [getT_setT_same]
    exact ⟨rfl, hw, ha0.trans hr0, ha1.trans hr1⟩
  · rw [stage3_mul32 hp hop hsel] at ht
    obtain ⟨hw, ha⟩ := dumped_touch (t := { getT s i with pipe := _ :: rest }) s i rfl h0 h1 ho hd
    rw [if_pos hfmt] at hw
    refine ⟨_, congrArg Host.Outcome.next ht, ?_⟩
    rw [getT_setT_same]
    exact ⟨hw, ha⟩

end Sys2Proof.Proofs
end

section
/-! PROOFS. The issue of M-opcodes (spec 03 R84 to R90, R95, R106, R110). -/

namespace Sys2Proof.Proofs

open Machine Laws Claims

/-! ### What the issue of a firing leaves alone in a tile -/

/-- The firings in flight and the accumulators: what the fetches and the steps at issue do not touch. -/
def pipeAccs (t : Tile) : List Flight × BitVec 80 × BitVec 80 := (t.pipe, t.m.acc0, t.m.acc1)

@[simp] theorem pipeAccs_agStep (t : Tile) (c : Frame) (g : Nat) : pipeAccs (agStep t c g).1 = pipeAccs t := by
  simp only [agStep, agSet, mStat]
  split <;> rfl

@[simp] theorem pipeAccs_setE (t : Tile) (e : Nat) (x : TEnd) : pipeAccs (setE t e x) = pipeAccs t := rfl

@[simp] theorem pipeAccs_settleEnd (t : Tile) (e : Nat) : pipeAccs (settleEnd t e) = pipeAccs t := by
  unfold settleEnd
  dsimp only
  split
  · exact pipeAccs_setE ..
  · rfl

@[simp] theorem pipeAccs_consume (t : Tile) (es : List Nat) : pipeAccs (consume t es) = pipeAccs t :=
  foldl_keeps pipeAccs (fun t e => by simp [takeAt]) es t

@[simp] theorem pipeAccs_settleAll (t : Tile) : pipeAccs (settleAll t) = pipeAccs t :=
  foldl_keeps pipeAccs pipeAccs_settleEnd (List.range 24) t

@[simp] theorem pipeAccs_enterCtx (t : Tile) (n : Fin 16) : pipeAccs (enterCtx t n) = pipeAccs t := pipeAccs_settleAll _

@[simp] theorem pipeAccs_stepCnt (t : Tile) : pipeAccs (stepCnt t) = pipeAccs t := rfl

@[simp] theorem pipeAccs_localStep (t : Tile) (c : Frame) (e w : Bool) : pipeAccs (localStep t c e w) = pipeAccs t := by
  unfold localStep
  split <;> simp

@[simp] theorem pipeAccs_latch (t : Tile) (src : LatchSrc) (w : Option SWord) (set : List Nat) (n : Nat) :
    pipeAccs (latch t src w set n) = pipeAccs t := by
  unfold latch
  split
  · split <;> rfl
  · rfl

/-! ### The fetches -/

@[simp] theorem report_tiles (s : State) (source : Nat) (unit : BitVec 32) (code : Nat) (det : List Byte) :
    (report s source unit code det).tiles = s.tiles := by rw [onlyReported_report s source unit code det]

theorem getT_congr {s s' : State} (h : s'.tiles = s.tiles) (i : Nat) : getT s' i = getT s i := by rw [getT, getT, h]

@[simp] theorem pipeAccs_portUsed (s : State) (i op lo hi : Nat) (same : Nat → Bool) :
    pipeAccs (getT (portUsed s i op lo hi same) i) = pipeAccs (getT s i) := by
  unfold portUsed mapPort
  dsimp only
  split
  · rfl
  · rw [getT_setT_same]; rfl

@[simp] theorem memWrite_tiles (s : State) (a : Nat) (bs : List Byte) : (memWrite s a bs).tiles = s.tiles := by
  induction bs generalizing s a with
  | nil => rfl
  | cons b bs ih => exact ih (memSet s a b) (a + 1)

@[simp] theorem pipeAccs_xyWrite (s : State) (i j : Nat) (y : Bool) (a : Nat) (w : Word) :
    pipeAccs (getT (xyWrite s i y a w) j) = pipeAccs (getT s j) :=
  congrArg pipeAccs (getT_congr (memWrite_tiles s _ _) j)

@[simp] theorem pipeAccs_xyFail (s : State) (i : Nat) (y : Bool) (a : Nat) :
    pipeAccs (getT (xyFail s i y a) i) = pipeAccs (getT s i) := by
  rw [xyFail, reportTile, getT_congr (report_tiles ..)]
  split
  · rw [getT_setT_same]; rfl
  · rfl

theorem pipeAccs_macFetch (s : State) (i : Nat) (c : Frame) : pipeAccs (getT (macFetch s i c).1 i) = pipeAccs (getT s i) := by
  simp [macFetch, apply_ite Prod.fst, apply_ite (fun s => pipeAccs (getT s i))]

theorem pipeAccs_push (s : State) (i : Nat) (t : Tile) (fl : Flight) :
    pipeAccs (touch s i { t with pipe := t.pipe ++ [fl] }) = ((pipeAccs t).1 ++ [fl], (pipeAccs t).2) := rfl

theorem pipeAccs_poisoned (t : Tile) (b : Bool) : pipeAccs { t with poisoned := b } = pipeAccs t := rfl

/-! ### The sums -/

/-- A lane read as the spec reads it: its bits, less 2^w where it is signed and its top bit stands. -/
theorem facLane_eq (sgn : Bool) (w : Nat) (v : SWord) (k : Nat) : facLane sgn w v k =
    if sgn = true ∧ 2 ^ (w - 1) ≤ v.data.toNat / 2 ^ (w * k) % 2 ^ w
      then (v.data.toNat / 2 ^ (w * k) % 2 ^ w : Nat) - ((2 ^ w : Nat) : Int)
      else (v.data.toNat / 2 ^ (w * k) % 2 ^ w : Nat) := by
  cases sgn with
  | false => simp [facLane, laneOf]
  | true =>
    simp only [facLane, laneOf, sintOf, Nat.mod_mod, true_and, if_true]
    by_cases hn : v.data.toNat / 2 ^ (w * k) % 2 ^ w < 2 ^ (w - 1)
    · rw [if_pos hn, if_neg (Nat.not_le.mpr hn)]; rfl
    · rw [if_neg hn, if_pos (Nat.not_lt.mp hn)]; rfl

theorem facLane_P (c : Frame) (w : Nat) (v : SWord) (k : Nat) : facLane (mSgnP c) w v k = facP c w v.data k := facLane_eq _ w v k
theorem facLane_Q (c : Frame) (w : Nat) (v : SWord) (k : Nat) : facLane (mSgnQ c) w v k = facQ c w v.data k := facLane_eq _ w v k

section
variable {c : Frame} (p q g h : SWord)

theorem macSums_32 (ho : cOp c % 8 = 0) : macSums c p q g h = sum32 c p.data q.data g.data h.data := by
  simp only [macSums, ho, if_true, facLane_P, facLane_Q, sum32]

theorem macSums_C16 (ho : cOp c % 8 = 1) : macSums c p q g h = sumC16 c p.data q.data g.data h.data := by
  simp [macSums, ho, facLane_P, facLane_Q, sumC16]

theorem macSums_D16 (ho : cOp c % 8 = 2) : macSums c p q g h = sumD16 c p.data q.data g.data h.data := by
  by_cases hq : mQuad c = true <;> simp [macSums, ho, facLane_P, facLane_Q, sumD16, hq]

theorem macSums_Dot (ho : cOp c % 8 = 3) : macSums c p q g h = sumDot c p.data q.data g.data h.data := by
  simp [macSums, ho, facLane_P, facLane_Q, sumDot, List.range_succ, add_assoc]

end

/-! ### The issue -/

/-- Whether a firing of opcode `op` will produce results (spec 03 R95). -/
def macProduces (op : Nat) (t : Tile) (c : Frame) : Bool :=
  isMul op || op = 0x70 || op = 0x71 || (isMac op && kDumpWrap c && (wouldWrap t && mCntEn c))

theorem macProduces_mac {op : Nat} (hm : isMac op = true) (hn : isMul op = false ∧ op ≠ 0x70 ∧ op ≠ 0x71) (t : Tile)
    (c : Frame) : macProduces op t c = wrapDump t c := by
  simp [macProduces, wrapDump, wouldWrap, hm, hn, Bool.and_assoc]

/-- The factors F1 and F2 of a firing, with their tags. -/
def macF1 (s : State) (i : TileIx) : SWord := if mSrcX (ctx s i) then (macFetch s i (ctx s i)).2.1 else opnd s i 0
def macF2 (s : State) (i : TileIx) : SWord := if mSrcY (ctx s i) then (macFetch s i (ctx s i)).2.2 else opnd s i 1

theorem macF1_data (s : State) (i : TileIx) : (macF1 s i).data = factorP s i := apply_ite SWord.data _ _ _
theorem macF2_data (s : State) (i : TileIx) : (macF2 s i).data = factorQ s i := apply_ite SWord.data _ _ _

/-- The sums of the current context's firing. -/
def issueSums (s : State) (i : TileIx) : Int × Int := macSums (ctx s i) (macF1 s i) (macF2 s i) (opnd s i 0) (opnd s i 1)

theorem cOp_of_macReady {op : Nat} {s : State} {i : TileIx} (h : macReadyFor op s i = true) : cOp (ctx s i) = op := by
  simp only [macReadyFor, mayFire, Bool.and_eq_true, beq_iff_eq] at h
  tauto

/-- A firing that may issue enters the pipeline with its sums; beside the pipeline the fetch alone reaches accumulators,
registers and memory. -/
theorem fireMac_issues {op : Nat} {s : State} {i : TileIx} (h : macReadyFor op s i = true) : ∃ tag fac psn a,
    pipeAccs (getT (fireMac op i s) i) = ((getT s i).pipe ++ [⟨ctx s i, .mac (issueSums s i).1 (issueSums s i).2 tag fac psn a
        (macProduces op (getT s i) (ctx s i))⟩], (getT s i).m.acc0, (getT s i).m.acc1)
      ∧ (fireMac op i s).regs = (macFetch s i (ctx s i)).1.regs ∧ (fireMac op i s).mem = (macFetch s i (ctx s i)).1.mem := by
  have hf : fireMac op i s = _ := if_pos h
  simp only [hf, getT_setT_same, pipeAccs_push, pipeAccs_latch, pipeAccs_localStep, pipeAccs_poisoned, apply_ite pipeAccs,
    pipeAccs_stepCnt, ite_self, pipeAccs_consume, pipeAccs_macFetch]
  exact ⟨_, _, _, _, rfl, rfl, rfl⟩

/-- An M-opcode's clause from its meaning, its sums and its dump rule. -/
theorem macIssue_of {op : Nat} {mk : TileIx → Instr} {dump : Tile → Frame → Bool}
    {f : Frame → Word → Word → Word → Word → Int × Int} (hx : ∀ i s, exec (mk i) s = .next (fireMac op i s))
    (hd : ∀ t c, macProduces op t c = dump t c)
    (hf : ∀ {c : Frame} (p q g h : SWord), cOp c = op → macSums c p q g h = f c p.data q.data g.data h.data) :
    macIssue op mk dump f := by
  intro s i h
  obtain ⟨tag, fac, psn, a, hp, hr, hm⟩ := fireMac_issues h
  simp only [pipeAccs, Prod.mk.injEq] at hp
  obtain ⟨hpipe, h0, h1⟩ := hp
  rw [issueSums, hf _ _ _ _ (cOp_of_macReady h), macF1_data, macF2_data, hd] at hpipe
  exact ⟨_, tag, fac, psn, a, hx i s, hpipe, h0, h1, hr, hm⟩

/-- The M-opcodes without factors: what they issue carries no sums that anything reads. -/
theorem macIssue_plain {op : Nat} {mk : TileIx → Instr} {d : Bool} (hx : ∀ i s, exec (mk i) s = .next (fireMac op i s))
    (hd : ∀ t c, macProduces op t c = d) (s : State) (i : TileIx) (h : macReadyFor op s i = true) :
    ∃ (t : State) (s0 s1 : Int) (tag : Tag) (fac psn : Bool) (a : Option SWord), exec (mk i) s = .next t
      ∧ (getT t i).pipe = (getT s i).pipe ++ [⟨ctx s i, .mac s0 s1 tag fac psn a d⟩]
      ∧ (getT t i).m.acc0 = (getT s i).m.acc0 ∧ (getT t i).m.acc1 = (getT s i).m.acc1 := by
  obtain ⟨tag, fac, psn, a, hp, -⟩ := fireMac_issues h
  simp only [pipeAccs, Prod.mk.injEq, hd] at hp
  exact ⟨_, _, _, tag, fac, psn, a, hx i s, hp⟩

/-- Settles O11: each form by its sums and its dump rule. -/
theorem macIssues : Obligations.MacIssues := by
  refine ⟨
    macIssue_of (fun _ _ => rfl) (macProduces_mac rfl (by decide)) fun _ _ _ _ h => macSums_32 _ _ _ _ (by rw [h]),
    macIssue_of (fun _ _ => rfl) (macProduces_mac rfl (by decide)) fun _ _ _ _ h => macSums_C16 _ _ _ _ (by rw [h]),
    macIssue_of (fun _ _ => rfl) (macProduces_mac rfl (by decide)) fun _ _ _ _ h => macSums_D16 _ _ _ _ (by rw [h]),
    macIssue_of (fun _ _ => rfl) (macProduces_mac rfl (by decide)) fun _ _ _ _ h => macSums_Dot _ _ _ _ (by rw [h]),
    macIssue_of (fun _ _ => rfl) (fun _ _ => rfl) fun _ _ _ _ h => macSums_32 _ _ _ _ (by rw [h]),
    macIssue_of (fun _ _ => rfl) (fun _ _ => rfl) fun _ _ _ _ h => macSums_C16 _ _ _ _ (by rw [h]),
    macIssue_of (fun _ _ => rfl) (fun _ _ => rfl) fun _ _ _ _ h => macSums_D16 _ _ _ _ (by rw [h]),
    macIssue_of (fun _ _ => rfl) (fun _ _ => rfl) fun _ _ _ _ h => macSums_Dot _ _ _ _ (by rw [h]), ?_⟩
  simp only [List.forall_mem_cons, List.not_mem_nil, false_imp_iff, implies_true, and_true]
  exact ⟨macIssue_plain (fun _ _ => rfl) fun _ _ => rfl, macIssue_plain (fun _ _ => rfl) fun _ _ => rfl,
    macIssue_plain (fun _ _ => rfl) fun _ _ => rfl⟩

end Sys2Proof.Proofs
end

section
/-! PROOFS. Registers of M-tiles and B-tiles: accumulators, generators, owners and queues (spec 03 R107, R116, R120; spec 06 R204,
R222, R234). -/

namespace Sys2Proof.Proofs

open Machine Laws Claims

/-! ### A write of a whole register -/

/-- The common registers end at 0x620 and leave room for those of a tile kind between 0x460 and 0x5F8. -/
theorem common_none {off : Nat} (h : 0x460 ≤ off ∧ off < 0x5F8 ∨ 0x620 < off) (s : State) (i : Nat) :
    commonRead s i off = none ∧ ∀ old v mask, commonWrite s i off old v mask = none := by
  have hoff : ¬(0x400 ≤ off ∧ off < 0x440) ∧ off ≠ 0x440 ∧ off ≠ 0x448 ∧ off ≠ 0x450 ∧ off ≠ 0x458
      ∧ off ≠ 0x5F8 ∧ off ≠ 0x600 ∧ ¬(0x608 ≤ off ∧ off ≤ 0x620) := by omega
  simp [commonRead, commonWrite, hoff, ← and_assoc]

/-- Before SRST a register that holds its reset value keeps it. -/
theorem tileRegCmd_held {s : State} {i off : Nat} (hs : s.boot.srst = false) (hh : heldReset (tileKind i) off = true)
    (k : Key) (v : Reg) : tileRegCmd s i off k v = s := by
  unfold tileRegCmd tileRegWrite
  cases tileRegRead s i off <;> simp [hs, hh]

/-- After SRST a command that writes an M-tile's own register does what the table of these registers says. -/
theorem tileRegCmd_mac {s : State} {i off : Nat} {old v : Reg} {t : Tile} (hk : tileKind i = .m) (hs : s.boot.srst = true)
    (ho : 0x460 ≤ off ∧ off < 0x5F8) (hr : macRead (getT s i) off = some old)
    (hw : macWrite (getT s i) off old v (BitVec.allOnes 64) = some t) (k : Key) : tileRegCmd s i off k v = setT s i t := by
  obtain ⟨hcr, hcw⟩ := common_none (.inl ho) s i
  simp [tileRegCmd, tileRegWrite, tileRegRead, -BitVec.reduceAllOnes, hcr, hcw, hk, hs, hr, hw]

/-- The same of a B-tile's. -/
theorem tileRegCmd_bank {s : State} {i off : Nat} {k : Key} {old v : Reg} {r : State × Status} (hk : tileKind i = .b)
    (hh : s.boot.srst = true ∨ heldReset .b off = false) (ho : 0x620 < off) (hr : bankRegRead (getT s i) off = some old)
    (hw : bankRegWrite s i off k false old v (BitVec.allOnes 64) = some r) : tileRegCmd s i off k v = r.1 := by
  obtain ⟨hcr, hcw⟩ := common_none (.inr ho) s i
  have hn : (!s.boot.srst && heldReset .b off) = false := by rcases hh with h | h <;> simp [h]
  simp [tileRegCmd, tileRegWrite, tileRegRead, -BitVec.reduceAllOnes, hcr, hcw, hk, hn, hr, hw]

theorem withYield_notLent {s : State} {i : TileIx} (h : lentTile s i = false) (f : State → State) : withYield i f s = f s := by
  simp [withYield, h]

/-! ### Accumulators and generators -/

theorem accLoRead_snapshots {s : State} {i : TileIx} (hk : tileKind i = .m) (hl : lentTile s i = false) :
    (∃ t : State, exec (.accLoRead i 0) s = .next t ∧ t = setT s i (getT t i)
      ∧ (getT t i).m = { (getT s i).m with snap0 := BitVec.ofNat 16 ((getT s i).m.acc0.toNat / 2 ^ 64) })
    ∧ (∃ t : State, exec (.accLoRead i 1) s = .next t ∧ t = setT s i (getT t i)
      ∧ (getT t i).m = { (getT s i).m with snap1 := BitVec.ofNat 16 ((getT s i).m.acc1.toNat / 2 ^ 64) }) := by
  have hx (n : Fin 2) : exec (.accLoRead i n) s = .next (opAccLoRead i n s) := congrArg _ (withYield_notLent hl _)
  refine ⟨⟨_, hx 0, ?_⟩, ⟨_, hx 1, ?_⟩⟩ <;> simp [opAccLoRead, tileRegTouch, hk]

theorem accPut_low (a : BitVec 80) (v : Reg) : (accPut a false v.toNat).toNat = a.toNat / 2 ^ 64 * 2 ^ 64 + v.toNat := by
  have ha := a.isLt
  have hv := v.isLt
  simp only [accPut, Bool.false_eq_true, if_false, BitVec.toNat_ofNat]
  omega

theorem accPut_high (a : BitVec 80) (v : Reg) :
    (accPut a true v.toNat).toNat = a.toNat % 2 ^ 64 + v.toNat % 2 ^ 16 * 2 ^ 64 := by
  simp only [accPut, if_true, BitVec.toNat_ofNat]
  omega

section
variable (t : Tile) (old v : Reg)

/-- A write of ACC0_LO. -/
theorem macWrite_acc0Lo : macWrite t 0x460 old v (BitVec.allOnes 64)
    = some { t with m := { t.m with acc0 := accPut t.m.acc0 false v.toNat, psn0 := false } } := by
  simp only [macWrite, if_true, mergeMask_allOnes]

/-- A write of ACC1_HI. -/
theorem macWrite_acc1Hi : macWrite t 0x478 old v (BitVec.allOnes 64) = some { t with m := { t.m with
    acc1 := accPut t.m.acc1 true v.toNat, snap1 := BitVec.ofNat 16 v.toNat, psn1 := false } } := by
  have hh : hitsHigh (BitVec.allOnes 64) = true := by decide
  simp [macWrite, mergeMask_allOnes, hh, -BitVec.reduceAllOnes]

/-- A write of the register of generator `g` of set `set`. -/
theorem macWrite_ag (set : Fin 4) (g : Fin 3) : macWrite t (0x4C0 + 0x20 * set.val + 8 * g.val) old v (BitVec.allOnes 64)
    = some (agSet t (3 * set.val + g.val) (regN (v.toNat % 2 ^ 42))) := by
  have hs := set.isLt
  have hg := g.isLt
  have hd : (0x4C0 + 0x20 * set.val + 8 * g.val - 0x4C0) / 0x20 = set.val := by omega
  have hm : (0x4C0 + 0x20 * set.val + 8 * g.val - 0x4C0) % 0x20 = 8 * g.val := by omega
  have hr : 8 * g.val / 8 = g.val := by omega
  unfold macWrite
  dsimp only
  rw [if_neg (by omega), if_neg (by omega), if_neg (by omega), if_neg (by omega), if_neg (by omega), if_neg (by omega),
    if_neg (by omega), if_neg (by omega), if_neg (by omega), if_neg (by omega), if_pos (by omega), hd, hm, hr, mergeMask_allOnes]

end

section
variable {s : State} {i : TileIx} (v : Reg) (hk : tileKind i = .m) (hl : lentTile s i = false)
include hk hl

theorem exec_accRegisterWrite (n : Fin 2) (h : Bool) : exec (.accRegisterWrite i n h v) s
    = .next (tileRegCmd s i (0x460 + 16 * n.val + 8 * b2n h) ⟨0, 0⟩ v) := by
  rw [← show opAccWrite i n h v s = _ from if_pos hk, ← withYield_notLent hl (opAccWrite i n h v)]
  rfl

omit hk hl in
/-- What a load of ACC0 changes, for any value: so the value itself is never compared. -/
theorem load_acc0 (t : Tile) (a : BitVec 80) (u : Tile) (h : u = { t with m := { t.m with acc0 := a, psn0 := false } }) :
    u.m.acc0 = a ∧ u.m.psn0 = false ∧ u.m.acc1 = t.m.acc1 := by subst h; exact ⟨rfl, rfl, rfl⟩

omit hk hl in
/-- What a load of the high bits of ACC1 changes. -/
theorem load_acc1 (t : Tile) (a : BitVec 80) (x : BitVec 16) (u : Tile)
    (h : u = { t with m := { t.m with acc1 := a, snap1 := x, psn1 := false } }) :
    u.m.acc1 = a ∧ u.m.psn1 = false ∧ u.m.acc0 = t.m.acc0 := by subst h; exact ⟨rfl, rfl, rfl⟩

theorem acc0Lo_loads (hs : s.boot.srst = true) : ∃ t : State, exec (.accRegisterWrite i 0 false v) s = .next t
    ∧ t = setT s i (getT t i) ∧ (getT t i).m.acc0.toNat = (getT s i).m.acc0.toNat / 2 ^ 64 * 2 ^ 64 + v.toNat
    ∧ (getT t i).m.psn0 = false ∧ (getT t i).m.acc1 = (getT s i).m.acc1 := by
  refine ⟨_, (exec_accRegisterWrite v hk hl 0 false).trans
    (congrArg Host.Outcome.next (tileRegCmd_mac hk hs (off := 0x460) (by decide) rfl (macWrite_acc0Lo ..) ⟨0, 0⟩)), ?_⟩
  obtain ⟨ha, hp, hn⟩ := load_acc0 (getT s i) (accPut (getT s i).m.acc0 false v.toNat) _ rfl
  rw [getT_setT_same]
  exact ⟨rfl, (congrArg BitVec.toNat ha).trans (accPut_low _ v), hp, hn⟩

theorem acc1Hi_loads (hs : s.boot.srst = true) : ∃ t : State, exec (.accRegisterWrite i 1 true v) s = .next t
    ∧ t = setT s i (getT t i)
    ∧ (getT t i).m.acc1.toNat = (getT s i).m.acc1.toNat % 2 ^ 64 + v.toNat % 2 ^ 16 * 2 ^ 64 ∧ (getT t i).m.psn1 = false
    ∧ (getT t i).m.acc0 = (getT s i).m.acc0 := by
  refine ⟨_, (exec_accRegisterWrite v hk hl 1 true).trans
    (congrArg Host.Outcome.next (tileRegCmd_mac hk hs (off := 0x478) (by decide) rfl (macWrite_acc1Hi ..) ⟨0, 0⟩)), ?_⟩
  obtain ⟨ha, hp, hn⟩ := load_acc1 (getT s i) (accPut (getT s i).m.acc1 true v.toNat) (BitVec.ofNat 16 v.toNat) _ rfl
  rw [getT_setT_same]
  exact ⟨rfl, (congrArg BitVec.toNat ha).trans (accPut_high _ v), hp, hn⟩

end

/-- Each generator has its register. -/
theorem macRead_ag (t : Tile) (set : Fin 4) (g : Fin 3) : ∃ old, macRead t (0x4C0 + 0x20 * set.val + 8 * g.val) = some old := by
  have hs := set.isLt
  have hg := g.isLt
  unfold macRead
  dsimp only
  rw [if_neg (by omega), if_neg (by omega), if_neg (by omega), if_neg (by omega), if_neg (by omega), if_neg (by omega),
    if_neg (by omega), if_neg (by omega), if_neg (by omega), if_neg (by omega), if_pos (by omega)]
  exact ⟨_, rfl⟩

theorem agWrite_loads {s : State} {i : TileIx} (set : Fin 4) (g : Fin 3) (v : Reg) (hk : tileKind i = .m)
    (hl : lentTile s i = false) (hs : s.boot.srst = true) : ∃ t : State, exec (.agRegisterWrite i set g v) s = .next t
      ∧ t = setT s i (getT t i) ∧ (agGet (getT t i) (3 * set.val + g.val)).toNat = v.toNat % 2 ^ 42
      ∧ ∀ k : Nat, k ≠ 3 * set.val + g.val → agGet (getT t i) k = agGet (getT s i) k := by
  have hx : exec (.agRegisterWrite i set g v) s = .next (tileRegCmd s i (0x4C0 + 0x20 * set.val + 8 * g.val) ⟨0, 0⟩ v) := by
    rw [← show opAgWrite i set g v s = _ from if_pos hk, ← withYield_notLent hl (opAgWrite i set g v)]
    rfl
  obtain ⟨old, hr⟩ := macRead_ag (getT s i) set g
  refine ⟨_, hx, ?_⟩
  rw [tileRegCmd_mac hk hs (by omega) hr (macWrite_ag ..), getT_setT_same]
  refine ⟨rfl, ?_, fun k hne => smGet_smSet_ne _ _ _ _ _ _ hne⟩
  rw [agGet, agSet, smGet_smSet_same, regN, BitVec.toNat_ofNat]
  omega

/-! ### Queues -/

theorem bit_toNat (v : Reg) (k : Nat) : bit v.toNat k = v.getLsbD k := by
  simp [bit, BitVec.getLsbD, Nat.testBit_eq_decide_div_mod_eq, beq_eq_decide]

@[simp] theorem getQ_setQ_same (s : State) (i n : Nat) (q : BQueue) : getQ (getT (setQ s i n q) i) n = q := by
  simp [getQ, setQ, setB]

/-- The release of held requests answers them and takes them out of the queue. -/
theorem getQ_releaseHeld (s : State) (i n : Nat) :
    getQ (getT (releaseHeld s i n .aborted) i) n = { getQ (getT s i) n with held := [] } := by
  have ht : ((getQ (getT s i) n).held.foldl (fun s h => answer s h.ep h.entry .aborted []) s).tiles = s.tiles :=
    foldl_keeps State.tiles (fun s h => by rw [answer_frame]) _ s
  simp only [releaseHeld, reduceCtorEq, if_false, getQ_setQ_same, getT_congr ht]

theorem flushQ_empties (s : State) (i n : Nat) :
    qDepth (getQ (getT (flushQ s i n) i) n) = 0 ∧ (getQ (getT (flushQ s i n) i) n).credited = 0
      ∧ (getQ (getT (flushQ s i n) i) n).held = [] := by
  simp [flushQ, getQ_releaseHeld, qDepth]

theorem flushQ_settings (s : State) (i n : Nat) :
    (getQ (getT (flushQ s i n) i) n).eventEn = (getQ (getT s i) n).eventEn
      ∧ (getQ (getT (flushQ s i n) i) n).popWait = (getQ (getT s i) n).popWait := by
  simp [flushQ, getQ_releaseHeld]

/-- Queue `q` with EVENT_EN and POP_WAIT loaded. -/
def qctlLoaded (s : State) (i : Nat) (q : Fin 4) (v : Reg) : State :=
  setQ s i q { getQ (getT s i) q with eventEn := v.getLsbD 8, popWait := BitVec.ofNat 8 v.toNat }

/-- A write of QCTL loads the settings, and with bit 9 flushes the queue. -/
theorem queueRegWrite_qctl (s : State) (i : Nat) (q : Fin 4) (old v : Reg) :
    queueRegWrite s i (0x848 + 16 * q.val) old v (BitVec.allOnes 64) =
      if v.getLsbD 9 then flushQ (qctlLoaded s i q v) i q else qctlLoaded s i q v := by
  have hn : (0x848 + 16 * q.val - 0x840) / 16 = q.val := by omega
  have hm : (0x848 + 16 * q.val - 0x840) % 16 ≠ 0 := by omega
  simp only [queueRegWrite, hn, if_neg hm, mergeMask_allOnes, BitVec.and_allOnes, bit_toNat, qctlLoaded]

theorem bankRegRead_qctl (t : Tile) (q : Fin 4) : bankRegRead t (0x848 + 16 * q.val) = some (regN (qCtl t q)) := by
  have hn : (0x848 + 16 * q.val - 0x840) / 16 = q.val := by omega
  have hm : (0x848 + 16 * q.val - 0x840) % 16 ≠ 0 := by omega
  have hq := q.isLt
  unfold bankRegRead
  dsimp only
  rw [if_neg (by omega), if_neg (by omega), if_neg (by omega), if_neg (by omega), if_neg (by omega), if_neg (by omega),
    if_pos (by omega), if_neg hm, hn]

theorem bankRegWrite_qctl (s : State) (i : Nat) (q : Fin 4) (k : Key) (old v : Reg) :
    bankRegWrite s i (0x848 + 16 * q.val) k false old v (BitVec.allOnes 64)
      = some (queueRegWrite s i (0x848 + 16 * q.val) old v (BitVec.allOnes 64), .ok) := by
  have hq := q.isLt
  unfold bankRegWrite
  dsimp only
  rw [if_neg (by omega), if_neg (by omega), if_neg (by omega), if_neg (by omega), if_neg (by omega), if_neg (by omega),
    if_pos (by omega)]

theorem flush_loads {s : State} {i : TileIx} (q : Fin 4) (v : Reg) (hk : tileKind i = .b) (hl : lentTile s i = false)
    (hs : s.boot.srst = true) : ∃ t : State, exec (.flush i q v) s = .next t
      ∧ (getQ (getT t i) q).eventEn = v.getLsbD 8 ∧ (getQ (getT t i) q).popWait.toNat = v.toNat % 256
      ∧ (v.getLsbD 9 = true → qDepth (getQ (getT t i) q) = 0 ∧ (getQ (getT t i) q).credited = 0
          ∧ (getQ (getT t i) q).held = []) := by
  have hx : exec (.flush i q v) s = .next (tileRegCmd s i (0x848 + 16 * q.val) ⟨0, 0⟩ v) := by
    rw [← show opFlush i q v s = _ from if_pos hk, ← withYield_notLent hl (opFlush i q v)]
    rfl
  refine ⟨_, hx, ?_⟩
  rw [tileRegCmd_bank hk (.inl hs) (by omega) (bankRegRead_qctl ..) (bankRegWrite_qctl ..), queueRegWrite_qctl]
  by_cases h9 : v.getLsbD 9 = true
  · obtain ⟨he, hp⟩ := flushQ_settings (qctlLoaded s i q v) i q
    rw [if_pos h9, he, hp, qctlLoaded, getQ_setQ_same]
    exact ⟨rfl, BitVec.toNat_ofNat .., fun _ => flushQ_empties _ _ _⟩
  · rw [if_neg h9, qctlLoaded, getQ_setQ_same]
    exact ⟨rfl, BitVec.toNat_ofNat .., fun h => absurd h h9⟩

/-! ### Owners -/

@[simp] theorem raiseIf_regs (s : State) (ie : Bool) (k : Nat) : (raiseIf s ie k).regs = s.regs := by
  unfold raiseIf
  split <;> simp

@[simp] theorem raiseIf_tiles (s : State) (ie : Bool) (k : Nat) : (raiseIf s ie k).tiles = s.tiles := by
  unfold raiseIf
  split <;> simp

@[simp] theorem eventVec_regs (s : State) (code : Nat) : (eventVec s code).regs = s.regs := by
  unfold eventVec
  dsimp only
  split_ifs <;> simp

@[simp] theorem recClass_regs (s : State) (c n : Nat) : (recClass s c n).regs = s.regs := by
  unfold recClass
  split <;> simp

/-- Of the registers a report writes LOG_STATUS alone. -/
theorem getR_report {o : Nat} (h : o ≠ A.LOG_STATUS) (s : State) (source : Nat) (unit : BitVec 32) (code : Nat)
    (det : List Byte) : getR (report s source unit code det) o = getR s o := by
  have hr : (report s source unit code det).regs = (logLatch s ⟨source, unit, BitVec.ofNat 12 code, det⟩).regs := by
    simp [report]
  rw [getR, hr, logLatch]
  split
  · simp [getR]
  · split
    · simp [getR]
    · rw [recClass_regs]; exact getR_setR_ne _ _ _ _ h

/-- What the record of a denial holds. -/
def denialValue (old : Reg) (k : Key) (remote : Bool) (perm table : Nat) (st : Status) : Reg :=
  setFld (setFld (setFld (setFld (setFld (setFld old F.ACC_FAULT_VALID 1) F.ACC_FAULT_REMOTE (b2n remote)) F.ACC_FAULT_PERM perm)
    F.ACC_FAULT_STATUS (statusCode st)) F.ACC_FAULT_TARGET table) F.ACC_FAULT_KEY (keyNat k)

/-- A denial reported and counted. -/
def denialCounted (s : State) (unit : BitVec 32) (code : Nat) (det : List Byte) : State :=
  bump (report s 202 unit code det) A.ACC_FAULT_CNT (if code = 0x611 then F.ACC_FAULT_CNT_NOT_OWNER else F.ACC_FAULT_CNT_DENIED) 1

theorem denialCounted_tiles (s : State) (unit : BitVec 32) (code : Nat) (det : List Byte) :
    (denialCounted s unit code det).tiles = s.tiles := by rw [denialCounted, bump_tiles, report_tiles]

theorem getR_denialCounted (s : State) (unit : BitVec 32) (code : Nat) (det : List Byte) :
    getR (denialCounted s unit code det) A.ACC_FAULT = getR s A.ACC_FAULT := by
  rw [denialCounted, bump, getR_setR_ne _ _ _ _ (by decide), getR_report (by decide)]

theorem rdB_denialCounted (s : State) (unit : BitVec 32) (code : Nat) (det : List Byte) (f : Fld) :
    rdB (denialCounted s unit code det) A.ACC_FAULT f = rdB s A.ACC_FAULT f := by
  rw [rdB, rd, getR_denialCounted, ← rd, ← rdB]

/-- A denial recorded at `a`, the value of ACC_FAULT_ADDR. -/
def denialRecorded (u : State) (v a : Reg) : State := setR (setR u A.ACC_FAULT v) A.ACC_FAULT_ADDR a

theorem denialRecorded_tiles (u : State) (v a : Reg) : (denialRecorded u v a).tiles = u.tiles := by
  rw [denialRecorded, setR_tiles, setR_tiles]

theorem getR_denialRecorded (u : State) (v a : Reg) : getR (denialRecorded u v a) A.ACC_FAULT = v := by
  rw [denialRecorded, getR_setR_ne _ _ _ _ (by decide), getR_setR_same]

/-- A denial: reported and counted, then recorded unless an earlier record stands. -/
theorem denyWith_eq (s : State) (k : Key) (remote train : Bool) (unit : BitVec 32) (addr perm table code : Nat) :
    ∃ det a, denyWith s k remote train unit addr perm table code =
      let u := denialCounted s unit code det
      if rdB u A.ACC_FAULT F.ACC_FAULT_VALID then wr u A.ACC_FAULT F.ACC_FAULT_OVERRUN 1
      else
        let st := if code = 0x611 then Status.notOwner else .denied
        let w := denialRecorded u (denialValue (getR u A.ACC_FAULT) k remote perm table st) a
        raiseIf w (rdB w A.ACC_CTL F.ACC_CTL_FAULT_IE) 0 := ⟨_, _, rfl⟩

theorem denyWith_tiles (s : State) (k : Key) (remote train : Bool) (unit : BitVec 32) (addr perm table code : Nat) :
    (denyWith s k remote train unit addr perm table code).tiles = s.tiles := by
  obtain ⟨det, a, h⟩ := denyWith_eq s k remote train unit addr perm table code
  rw [h]
  dsimp only
  split
  · rw [wr_tiles, denialCounted_tiles]
  · rw [raiseIf_tiles, denialRecorded_tiles, denialCounted_tiles]

/-- A denial that finds no record leaves its own. -/
theorem getR_denyWith {s : State} (h : rdB s A.ACC_FAULT F.ACC_FAULT_VALID = false) (k : Key) (remote train : Bool)
    (unit : BitVec 32) (addr perm table code : Nat) : getR (denyWith s k remote train unit addr perm table code) A.ACC_FAULT
      = denialValue (getR s A.ACC_FAULT) k remote perm table (if code = 0x611 then .notOwner else .denied) := by
  obtain ⟨det, a, hd⟩ := denyWith_eq s k remote train unit addr perm table code
  rw [hd]
  dsimp only
  rw [rdB_denialCounted, h, if_neg Bool.false_ne_true, getR, raiseIf_regs, ← getR, getR_denialRecorded, getR_denialCounted]

/-- The record names the denial, its status and its key. -/
theorem getFld_denialValue (old : Reg) (k : Key) (remote : Bool) (perm table : Nat) (st : Status) :
    getFld (denialValue old k remote perm table st) F.ACC_FAULT_VALID = 1
      ∧ getFld (denialValue old k remote perm table st) F.ACC_FAULT_STATUS = statusCode st
      ∧ getFld (denialValue old k remote perm table st) F.ACC_FAULT_KEY = keyNat k := by
  have hst : statusCode st < 2 ^ 8 := by cases st <;> decide
  have hk : keyNat k < 2 ^ 32 := by
    have h1 := k.dev.isLt
    have h2 := k.mst.isLt
    unfold keyNat
    omega
  refine ⟨?_, ?_, ?_⟩ <;> rw [denialValue]
  · rw [getFld_setFld_ne (by decide), getFld_setFld_ne (by decide), getFld_setFld_ne (by decide), getFld_setFld_ne (by decide),
      getFld_setFld_ne (by decide), getFld_setFld_same (by decide)]
    rfl
  · rw [getFld_setFld_ne (by decide), getFld_setFld_ne (by decide), getFld_setFld_same (by decide)]
    exact Nat.mod_eq_of_lt hst
  · rw [getFld_setFld_same (by decide)]
    exact Nat.mod_eq_of_lt hk

/-- A write of BANK_OWNER by a key that may write it. -/
theorem bankRegWrite_owner {s : State} {i : Nat} {k : Key} (h : ownerMayWrite s i k = true) (old v : Reg) :
    bankRegWrite s i 0x800 k false old v (BitVec.allOnes 64) = some (setB s i (fun b => { b with
      ownDev := BitVec.ofNat 16 (v.toNat / 65536), ownMst := BitVec.ofNat 16 v.toNat }), .ok) := by
  rw [bankRegWrite, mergeMask_allOnes]
  exact if_pos h

/-- By another key it is denied. -/
theorem bankRegWrite_notOwner {s : State} {i : Nat} {k : Key} (h : ownerMayWrite s i k = false) (old v : Reg) :
    ∃ addr, bankRegWrite s i 0x800 k false old v (BitVec.allOnes 64)
      = some (denyWith s k false false (unitTile s i) addr pWRITE (tileField i) 0x611, .notOwner) := by
  rw [bankRegWrite, mergeMask_allOnes]
  have hn : ¬ownerMayWrite s i k = true := by simp [h]
  exact ⟨_, if_neg hn⟩

section
variable {s : State} {i : TileIx} (k : Key) (v : Reg)

theorem exec_bankOwnerWrite (hk : tileKind i = .b) (hl : lentTile s i = false) (hw : wenLets s k = true) :
    exec (.bankOwnerWrite i k v) s = .next (tileRegCmd s i 0x800 k v) := by
  have hx : opBankOwnerWrite i k v s = tileRegCmd s i 0x800 k v := if_pos hk
  rw [← hx, ← withYield_notLent hl (opBankOwnerWrite i k v)]
  exact congrArg Host.Outcome.next (if_pos hw)

theorem bankOwnerWrite_notLet (hw : wenLets s k = false) : exec (.bankOwnerWrite i k v) s = .next s :=
  congrArg Host.Outcome.next (if_neg (by simp [hw]))

theorem bankOwnerWrite_loads (hk : tileKind i = .b) (hl : lentTile s i = false) (hw : wenLets s k = true)
    (ho : ownerMayWrite s i k = true) : ∃ t : State, exec (.bankOwnerWrite i k v) s = .next t ∧ t = setT s i (getT t i)
      ∧ (getT t i).b.ownDev.toNat = v.toNat / 65536 % 65536 ∧ (getT t i).b.ownMst.toNat = v.toNat % 65536 := by
  refine ⟨_, (exec_bankOwnerWrite k v hk hl hw).trans
    (congrArg Host.Outcome.next (tileRegCmd_bank hk (.inr rfl) (by decide) rfl (bankRegWrite_owner ho _ v))), ?_⟩
  rw [setB, getT_setT_same]
  exact ⟨rfl, BitVec.toNat_ofNat .., BitVec.toNat_ofNat ..⟩

theorem bankOwnerWrite_denied (hk : tileKind i = .b) (hl : lentTile s i = false) (hw : wenLets s k = true)
    (ho : ownerMayWrite s i k = false) : ∃ t : State, exec (.bankOwnerWrite i k v) s = .next t ∧ t.tiles = s.tiles
      ∧ (rdB s A.ACC_FAULT F.ACC_FAULT_VALID = false → rd t A.ACC_FAULT F.ACC_FAULT_VALID = 1
          ∧ rd t A.ACC_FAULT F.ACC_FAULT_STATUS = statusCode .notOwner ∧ rd t A.ACC_FAULT F.ACC_FAULT_KEY = keyNat k) := by
  obtain ⟨addr, hd⟩ := bankRegWrite_notOwner ho (regN ((getT s i).b.ownDev.toNat * 65536 + (getT s i).b.ownMst.toNat)) v
  refine ⟨_, (exec_bankOwnerWrite k v hk hl hw).trans
    (congrArg Host.Outcome.next (tileRegCmd_bank hk (.inr rfl) (by decide) rfl hd)), denyWith_tiles .., fun hv => ?_⟩
  rw [rd, rd, rd, getR_denyWith hv]
  exact getFld_denialValue ..

end

/-! ### Before SRST -/

theorem heldReset_mac {off : Nat} (h : 0x460 ≤ off ∧ off < 0x5F8) : heldReset .m off = true := by simp [heldReset, h]

theorem heldReset_queue {off : Nat} (h : 0x840 ≤ off ∧ off < 0x880) : heldReset .b off = true := by simp [heldReset, h]

section
variable {s : State} {i : TileIx} (v : Reg) (hl : lentTile s i = false) (hs : s.boot.srst = false)
include hs

theorem opAccWrite_held (n : Fin 2) (h : Bool) : opAccWrite i n h v s = s := by
  unfold opAccWrite
  split
  · next hk =>
    have hb : b2n h ≤ 1 := by cases h <;> decide
    exact tileRegCmd_held hs (by rw [hk]; exact heldReset_mac (by omega)) _ v
  · rfl

theorem opAgWrite_held (set : Fin 4) (g : Fin 3) : opAgWrite i set g v s = s := by
  unfold opAgWrite
  split
  · next hk => exact tileRegCmd_held hs (by rw [hk]; exact heldReset_mac (by omega)) _ v
  · rfl

theorem opFlush_held (q : Fin 4) : opFlush i q v s = s := by
  unfold opFlush
  split
  · next hk => exact tileRegCmd_held hs (by rw [hk]; exact heldReset_queue (by omega)) _ v
  · rfl

include hl

theorem registers_held : (∀ (n : Fin 2) (h : Bool), exec (.accRegisterWrite i n h v) s = .next s)
    ∧ (∀ (set : Fin 4) (g : Fin 3), exec (.agRegisterWrite i set g v) s = .next s)
    ∧ (∀ q : Fin 4, exec (.flush i q v) s = .next s) :=
  ⟨fun n h => congrArg Host.Outcome.next ((withYield_notLent hl _).trans (opAccWrite_held v hs n h)),
    fun set g => congrArg Host.Outcome.next ((withYield_notLent hl _).trans (opAgWrite_held v hs set g)),
    fun q => congrArg Host.Outcome.next ((withYield_notLent hl _).trans (opFlush_held v hs q))⟩

end

/-! ### The obligation -/

/-- Settles O23, clause by clause: accumulators, generators, owners, queues, and the registers before SRST. -/
theorem tileRegisters : Obligations.TileRegisters :=
  ⟨fun _ _ hk hl => accLoRead_snapshots hk hl,
    fun _ _ v hk hl hs => ⟨acc0Lo_loads v hk hl hs, acc1Hi_loads v hk hl hs⟩,
    fun _ _ set g v hk hl hs => agWrite_loads set g v hk hl hs,
    fun _ _ k v hk hl hw ho => bankOwnerWrite_loads k v hk hl hw ho,
    fun _ _ k v hk hl hw ho => bankOwnerWrite_denied k v hk hl hw ho,
    fun _ _ k v hw => bankOwnerWrite_notLet k v hw,
    fun _ _ q v hk hl hs => flush_loads q v hk hl hs,
    fun _ _ v hl hs => registers_held v hl hs⟩

end Sys2Proof.Proofs
end

section
/-! PROOFS. Segments, seam buffers and SINK sides: what each hands on and what it leaves alone (spec 04 R130 to R148). -/

namespace Sys2Proof.Proofs

open Machine Laws Claims

/-! ### Arriving ends and the giving tile -/

@[simp] theorem getE_setE_same (t : Tile) (e : Nat) (x : TEnd) : getE (setE t e x) e = x := smGet_smSet_same _ _ _ _

theorem settleEnd_sinkCnt (t : Tile) (e : Nat) : (settleEnd t e).sinkCnt = t.sinkCnt := by
  dsimp only [settleEnd]
  split <;> rfl

theorem takeAt_sinkCnt (t : Tile) (r e : Nat) : (takeAt t r e).sinkCnt = t.sinkCnt := settleEnd_sinkCnt _ e

/-- A word given away leaves a latch or an arriving end; what the tile has counted on its sides stays. -/
theorem driverGive_sinkCnt (t : Tile) (j : Nat) (src : Option Nat) : (driverGive t j src).sinkCnt = t.sinkCnt := by
  cases src with
  | some e => exact takeAt_sinkCnt t j e
  | none =>
    dsimp only [driverGive]
    split
    · split <;> rfl
    · rfl

/-- The state in which start `j` of tile `i` has given its word away. -/
def wordGiven (s : State) (i j : Nat) (src : Option Nat) : State := setT s i (touch s i (driverGive (getT s i) j src))

theorem getT_wordGiven_same (s : State) (i j : Nat) (src : Option Nat) :
    getT (wordGiven s i j src) i = touch s i (driverGive (getT s i) j src) := getT_setT_same ..

theorem getT_wordGiven_ne (s : State) {i d : Nat} (hne : d ≠ i) (j : Nat) (src : Option Nat) :
    getT (wordGiven s i j src) d = getT s d := getT_setT_ne _ _ _ _ hne

theorem wordGiven_sinkCnt (s : State) (i j k : Nat) (src : Option Nat) :
    (getT (wordGiven s i j src) k).sinkCnt = (getT s k).sinkCnt := by
  by_cases hk : k = i
  · subst hk
    rw [getT_wordGiven_same]
    exact driverGive_sinkCnt _ j src
  · rw [getT_wordGiven_ne s hk]

/-- The state in which start `j` of tile `i` has given its word away and end `e` of tile `d` has become `x`. -/
def handedOn (s : State) (i j : Nat) (src : Option Nat) (d e : Nat) (x : TEnd) : State :=
  setT (wordGiven s i j src) d (setE (getT s d) e x)

theorem getT_handedOn_giver (s : State) {i d : Nat} (hne : d ≠ i) (j : Nat) (src : Option Nat) (e : Nat) (x : TEnd) :
    getT (handedOn s i j src d e x) i = touch s i (driverGive (getT s i) j src) := by
  rw [handedOn, getT_setT_ne _ _ _ _ hne.symm, getT_wordGiven_same]

theorem getE_handedOn_taker (s : State) (i j : Nat) (src : Option Nat) (d e : Nat) (x : TEnd) :
    getE (getT (handedOn s i j src d e x) d) e = x := by
  rw [handedOn, getT_setT_same, getE_setE_same]

/-! ### Wake requests and SINK sides -/

@[simp] theorem wakeReq_tiles (s : State) (f : Nat) : (wakeReq s f).tiles = s.tiles := by
  unfold wakeReq
  split <;> rfl

@[simp] theorem wakeReq_mem (s : State) (f : Nat) : (wakeReq s f).mem = s.mem := by
  unfold wakeReq
  split <;> rfl

/-- A wake request of a compute domain that neither runs nor is rising is pending. -/
theorem wakePending_wakeReq {s : State} {f : Nat} (h : [1, 2, 3, 4, 5, 6].contains (pwrState s f) = true) :
    rd (wakeReq s f) (A.PWR_STATUS f) F.PWR_STATUS_WAKE_PENDING = 1 := by
  rw [wakeReq, if_pos h, rd_wr_same (by decide)]
  rfl

/-- Discarded words are counted up to the counter's maximum (spec 00 R12). -/
theorem sinkCnt_sinkAdd (s : State) (own sd n : Nat) :
    (smGet 0 (getT (sinkAdd s own sd n) own).sinkCnt sd).toNat
      = min ((smGet 0 (getT s own).sinkCnt sd).toNat + n) (2 ^ 32 - 1) := by
  simp only [sinkAdd, getT_setT_same, smGet_smSet_same, satAdd, BitVec.toNat_ofNat]
  omega

theorem getE_sinkAdd (s : State) (own sd n d e : Nat) :
    getE (getT (sinkAdd s own sd n) d) e = getE (getT s d) e := by
  by_cases hd : d = own
  · subst hd
    rw [sinkAdd, getT_setT_same]
    rfl
  · rw [sinkAdd, getT_setT_ne _ _ _ _ hd]

/-! ### The word that a driver presents, handed on -/

section
variable {s : State} {i : TileIx} {j : Fin 24} {d e : Nat} {w : SWord} {src : Option Nat}
  (hseg : segDest i j = some (d, e)) (hne : d ≠ i.val) (hrun : tileRuns s i = true)
  (hw : driverWord (getT s i) j = some (w, src))
include hseg hne hrun hw

theorem opSegmentAccept_handsOn (hseam : seamAt d e = false) (hroom : (getE (getT s d) e).skid.length < 2) :
    opSegmentAccept i j s
      = handedOn s i j src d e { getE (getT s d) e with skid := (getE (getT s d) e).skid ++ [w] } := by
  simp [opSegmentAccept, hseg, hseam, hrun, hw, Nat.not_le.mpr hroom, getT_setT_ne _ _ _ _ hne, handedOn, wordGiven]

theorem opSeamWrite_handsOn (hseam : seamAt d e = true) (hfree : engaged s (tileField i) = false)
    (hopen : (engaged s (tileField d) && bridleSink s (seamOwner d e) (e / 6)) = false)
    (hroom : (getE (getT s d) e).seam.length < 4) :
    opSeamWrite i j s = wakeReq
      (handedOn s i j src d e { getE (getT s d) e with seam := (getE (getT s d) e).seam ++ [w] }) (tileField d) := by
  simp [opSeamWrite, hseg, hseam, hrun, hfree, hopen, hw, Nat.not_le.mpr hroom, getT_setT_ne _ _ _ _ hne, handedOn, wordGiven]

omit hne in
theorem opSinkDiscard_counts (hseam : seamAt d e = true) (hfree : engaged s (tileField i) = false)
    (hheld : engaged s (tileField d) = true) (hsink : bridleSink s (seamOwner d e) (e / 6) = true) :
    opSinkDiscard i j s = sinkAdd (wordGiven s i j src) (seamOwner d e) (e / 6) 1 := by
  simp [opSinkDiscard, hseg, hseam, hrun, hfree, hheld, hsink, hw, wordGiven]

theorem segmentAccept_moves (hseam : seamAt d e = false) (hroom : (getE (getT s d) e).skid.length < 2) :
    ∃ t : State, exec (.segmentAccept i j) s = .next t ∧ getT t i = touch s i (driverGive (getT s i) j src)
      ∧ (getE (getT t d) e).skid = (getE (getT s d) e).skid ++ [w] ∧ t.mem = s.mem ∧ t.regs = s.regs := by
  refine ⟨_, congrArg Host.Outcome.next (opSegmentAccept_handsOn hseg hne hrun hw hseam hroom),
    getT_handedOn_giver s hne .., ?_, rfl, rfl⟩
  rw [getE_handedOn_taker]

theorem seamWrite_moves (hseam : seamAt d e = true) (hfree : engaged s (tileField i) = false)
    (hopen : (engaged s (tileField d) && bridleSink s (seamOwner d e) (e / 6)) = false)
    (hroom : (getE (getT s d) e).seam.length < 4) :
    ∃ t : State, exec (.seamWrite i j) s = .next t ∧ getT t i = touch s i (driverGive (getT s i) j src)
      ∧ (getE (getT t d) e).seam = (getE (getT s d) e).seam ++ [w] ∧ t.mem = s.mem
      ∧ ([1, 2, 3, 4, 5, 6].contains (pwrState s (tileField d)) = true →
          rd t (A.PWR_STATUS (tileField d)) F.PWR_STATUS_WAKE_PENDING = 1) := by
  refine ⟨_, congrArg Host.Outcome.next (opSeamWrite_handsOn hseg hne hrun hw hseam hfree hopen hroom), ?_, ?_, ?_, ?_⟩
  · rw [getT_congr (wakeReq_tiles ..), getT_handedOn_giver s hne]
  · rw [getT_congr (wakeReq_tiles ..), getE_handedOn_taker]
  · exact wakeReq_mem ..
  · exact fun h => wakePending_wakeReq h

theorem sinkDiscard_counts (hseam : seamAt d e = true) (hfree : engaged s (tileField i) = false)
    (hheld : engaged s (tileField d) = true) (hsink : bridleSink s (seamOwner d e) (e / 6) = true) :
    ∃ t : State, exec (.sinkDiscard i j) s = .next t
      ∧ (smGet 0 (getT t (seamOwner d e)).sinkCnt (e / 6)).toNat
          = min ((smGet 0 (getT s (seamOwner d e)).sinkCnt (e / 6)).toNat + 1) (2 ^ 32 - 1)
      ∧ getE (getT t d) e = getE (getT s d) e ∧ t.mem = s.mem ∧ t.regs = s.regs := by
  refine ⟨_, congrArg Host.Outcome.next (opSinkDiscard_counts hseg hrun hw hseam hfree hheld hsink), ?_, ?_, rfl, rfl⟩
  · rw [sinkCnt_sinkAdd, wordGiven_sinkCnt]
  · rw [getE_sinkAdd, getT_wordGiven_ne s hne]

end

/-! ### The word of a seam buffer or a read side, delivered -/

/-- The state with word `w` behind the words of the skid buffer at end `e` of tile `i`. -/
def skidPut (s : State) (i e : Nat) (w : SWord) : State :=
  setT s i (setE (getT s i) e { getE (getT s i) e with skid := (getE (getT s i) e).skid ++ [w] })

/-- The state in which track `k` of the read side of edge group `g` has given its word away. -/
def readSideTaken (s : State) (g k : Nat) : State :=
  { s with groups := smSet {} s.groups g { smGet {} s.groups g with readSide := (smGet {} s.groups g).readSide.set k none } }

theorem getT_readSideTaken (s : State) (g k i : Nat) : getT (readSideTaken s g k) i = getT s i := rfl

section
variable {s : State} {i : TileIx} {e : Fin 24} {w : SWord} (hrun : fieldRuns s (tileField i) = true)
  (hfree : engaged s (tileField i) = false) (hroom : (getE (getT s i) e).skid.length < 2)
include hrun hfree hroom

theorem seamDeliver_seam {rest : List SWord} (hin : edgeTrack i e = none) (hdrain : pwrState s (tileField i) ≠ 2)
    (hseam : (getE (getT s i) e).seam = w :: rest) :
    exec (.seamDeliver i e) s = .next (setT s i (setE (getT s i) e
      { getE (getT s i) e with skid := (getE (getT s i) e).skid ++ [w], seam := rest })) := by
  refine congrArg Host.Outcome.next ?_
  simp [opSeamDeliver, hrun, hfree, Nat.not_le.mpr hroom, hin, hdrain, hseam]

theorem seamDeliver_readSide {g : Nat} (hedge : edgeTrack i e = some g)
    (hword : (smGet {} s.groups g).readSide[e.val % 6]? = some (some w))
    (hiso : rd s (A.FIFO_STATUS (g / 4) (g % 4)) F.FIFO_STATUS_STATE ≠ 3) :
    ∃ t : State, exec (.seamDeliver i e) s = .next t ∧ (getE (getT t i) e).skid = (getE (getT s i) e).skid ++ [w]
      ∧ (smGet {} t.groups g).readSide = (smGet {} s.groups g).readSide.set (e.val % 6) none ∧ t.mem = s.mem := by
  have hop : opSeamDeliver i e s = readSideTaken (skidPut s i e w) g (e.val % 6) := by
    simp [opSeamDeliver, hrun, hfree, Nat.not_le.mpr hroom, hedge, hiso, hword, readSideTaken, skidPut]
  refine ⟨_, congrArg Host.Outcome.next hop, ?_, ?_, rfl⟩
  · rw [getT_readSideTaken, skidPut, getT_setT_same, getE_setE_same]
  · rw [readSideTaken, smGet_smSet_same]
    rfl

end

/-! ### The obligation -/

/-- Settles O18, clause by clause: a segment, a seam buffer, a SINK side, and the delivery from a seam buffer or a read side. -/
theorem segmentsMove : Obligations.SegmentsMove :=
  ⟨fun _ _ _ _ _ _ _ hseg hne hseam hrun hw hroom => segmentAccept_moves hseg hne hrun hw hseam hroom,
    fun _ _ _ _ _ _ _ hseg hne hseam hrun hfree hopen hw hroom => seamWrite_moves hseg hne hrun hw hseam hfree hopen hroom,
    fun _ _ _ _ _ _ _ hseg hne hseam hrun hfree hheld hsink hw =>
      sinkDiscard_counts hseg hne hrun hw hseam hfree hheld hsink,
    fun _ _ _ _ _ hrun hfree hroom hin hdrain hseam => seamDeliver_seam hrun hfree hroom hin hdrain hseam,
    fun _ _ _ _ _ hrun hfree hroom hedge hword hiso => seamDeliver_readSide hrun hfree hroom hedge hword hiso⟩

end Sys2Proof.Proofs
end

section
/-! PROOFS. Bridle cells, row moves of a queue and the write-back of a corrected half (spec 04 R141, R144; spec 06 R196, R581). -/

namespace Sys2Proof.Proofs

open Machine Laws Claims

/-! ### Bridle cells -/

theorem bridleRelease_disengages {s : State} {f : Fin 64} (he : engaged s f = true) (hon : pwrState s f ≤ 1) :
    exec (.bridleRelease f) s = .next (setFS s f { getFS s f with engaged := false }) := by
  refine congrArg Host.Outcome.next ?_
  rw [opBridleRelease, he, decide_eq_true hon]
  rfl

/-! ### What moves in a queue without a bank access -/

/-- The words that the assembly row takes from the accepted pushes are the ones that those lose. -/
theorem qDepth_qFill (q : BQueue) : qDepth (qFill q) = qDepth q := by
  simp only [qDepth, qFill, List.length_append, List.length_take, List.length_drop]
  omega

theorem qPass_of_pre {q : BQueue} (h : q.pre ≠ []) : qPass q = q := if_neg fun hp => h hp.1

theorem qFill_qFill (q : BQueue) : qFill (qFill q) = qFill q := by
  by_cases h : q.incoming.length ≤ 4 - q.asm.length
  · simp [qFill, List.drop_eq_nil_of_le h]
  · have hfull : 4 - (qFill q).asm.length = 0 := by
      simp only [qFill, List.length_append, List.length_take]
      omega
    rw [qFill, hfull]
    simp

/-- While the prefetch row holds a word, the assembly row takes in pushed words and nothing else moves. -/
theorem qFeed_of_pre {q : BQueue} (h : q.pre ≠ []) : qFeed q = qFill q := by
  rw [qFeed, qPass_of_pre (q := qFill q) h, qFill_qFill]

/-! ### Row moves -/

theorem takeRow_length (s : State) (i r : Nat) : (takeRow s i r).2.length = 4 := by simp [takeRow]

/-- The queue once the next row of the bank, the words `ws`, has come in. -/
def rowIn (t : Tile) (n : Nat) (ws : List SWord) : BQueue :=
  qFill { getQ t n with pre := ws, rd := ((getQ t n).rd + 1) % qRows t n, rows := (getQ t n).rows - 1 }

theorem getQ_moveIn (s : State) (i n : Nat) :
    ∃ ws : List SWord, ws.length = 4 ∧ getQ (getT (moveIn s i n) i) n = rowIn (getT s i) n ws := by
  rw [moveIn, getQ_setQ_same]
  exact ⟨_, takeRow_length .., qFeed_of_pre (List.ne_nil_of_length_pos (by simp [takeRow_length]))⟩

theorem getQ_moveOut {s : State} {i n : Nat} (h : (getQ (getT s i) n).pre ≠ []) :
    getQ (getT (moveOut s i n) i) n
      = qFill { getQ (getT s i) n with asm := [], rows := (getQ (getT s i) n).rows + 1 } := by
  rw [moveOut, getQ_setQ_same]
  exact qFeed_of_pre h

section
variable {s : State} {i : TileIx} {q : Fin 4} (hrun : fieldRuns s (tileField i) = true) (hk : tileKind i = .b)
  (hen : qEn (getT s i) q = true) (hty : qType (getT s i) q ≠ 2) (hport : bankForced s i = false)
include hrun hk hen hty hport

theorem opRowMove_served : opRowMove i q s
    = if (getQ (getT s i) q).pre = [] ∧ 0 < (getQ (getT s i) q).rows then moveIn s i q
      else if (getQ (getT s i) q).asm.length = 4 then moveOut s i q else s := by
  simp [opRowMove, hrun, hk, hen, hty, hport]

theorem rowMove_in (hpre : (getQ (getT s i) q).pre = []) (hrows : 0 < (getQ (getT s i) q).rows) :
    ∃ t : State, exec (.rowMove i q) s = .next t ∧ (getQ (getT t i) q).rows + 1 = (getQ (getT s i) q).rows
      ∧ (getQ (getT t i) q).pre.length = 4 ∧ qDepth (getQ (getT t i) q) = qDepth (getQ (getT s i) q) := by
  have hop : opRowMove i q s = moveIn s i q := by
    rw [opRowMove_served hrun hk hen hty hport, if_pos ⟨hpre, hrows⟩]
  obtain ⟨ws, hws, hq⟩ := getQ_moveIn s i q
  refine ⟨_, congrArg Host.Outcome.next hop, ?_⟩
  rw [hq]
  refine ⟨Nat.sub_add_cancel hrows, hws, ?_⟩
  rw [rowIn, qDepth_qFill]
  simp only [qDepth, hpre, hws, List.length_nil]
  omega

theorem rowMove_out (hpre : (getQ (getT s i) q).pre ≠ []) (hasm : (getQ (getT s i) q).asm.length = 4) :
    ∃ t : State, exec (.rowMove i q) s = .next t ∧ (getQ (getT t i) q).rows = (getQ (getT s i) q).rows + 1
      ∧ (getQ (getT t i) q).asm = (getQ (getT s i) q).incoming.take 4
      ∧ qDepth (getQ (getT t i) q) = qDepth (getQ (getT s i) q) := by
  have hop : opRowMove i q s = moveOut s i q := by
    rw [opRowMove_served hrun hk hen hty hport, if_neg fun h => hpre h.1, if_pos hasm]
  refine ⟨_, congrArg Host.Outcome.next hop, ?_⟩
  rw [getQ_moveOut hpre]
  refine ⟨rfl, rfl, ?_⟩
  rw [qDepth_qFill]
  simp only [qDepth, hasm, List.length_nil]
  omega

end

/-! ### The write-back of a corrected half -/

theorem eccWriteback_clears {s : State} {i : TileIx} {h : Fin 8192} (hdue : (getT s i).b.writeBack.contains h.val = true)
    (hrun : fieldRuns s (tileField i) = true) (hport : bankForced s i = false) :
    ∃ t : State, exec (.eccWriteback i h) s = .next t ∧ halfErr t i (8 * h.val) = 0
      ∧ (getT t i).b.writeBack.contains h.val = false ∧ t.mem = s.mem ∧ t.regs = s.regs := by
  have hop : opEccWriteback i h s = setB { s with eccErr := smSet 0 s.eccErr (halfKey i (8 * h.val)) 0 } i
      (fun b => { b with writeBack := b.writeBack.filter (· != h.val) }) := by
    rw [opEccWriteback, hdue, hrun, hport]
    rfl
  refine ⟨_, congrArg Host.Outcome.next hop, ?_, ?_, rfl, rfl⟩
  · rw [halfErr, setB, setT_eccErr, smGet_smSet_same]
  · rw [setB, getT_setT_same]
    simp

/-! ### The obligation -/

/-- Settles O19, clause by clause: BRIDLE_RELEASE, ROW_MOVE in and out, ECC_WRITEBACK. -/
theorem bridlesAndRows : Obligations.BridlesAndRows :=
  ⟨fun _ _ he hon => bridleRelease_disengages he hon,
    fun _ _ _ hrun hk hen hty hport hpre hrows => rowMove_in hrun hk hen hty hport hpre hrows,
    fun _ _ _ hrun hk hen hty hport hpre hasm => rowMove_out hrun hk hen hty hport hpre hasm,
    fun _ _ _ hdue hrun hport => eccWriteback_clears hdue hrun hport⟩

end Sys2Proof.Proofs
end

section
/-! PROOFS. Trains of tiles: which tiles are members, and in which fields the tree finds them (spec 01 R17, R21, R31; spec 05
R161). -/

namespace Sys2Proof.Proofs

open Machine Laws Claims

/-! ### Leading bits of numbers, and the bits of a coordinate -/

theorem div_two_pow_eq_iff (a b k : Nat) : a / 2 ^ k = b / 2 ^ k ↔ ∀ n, k ≤ n → a.testBit n = b.testBit n := by
  constructor
  · intro h n hn
    have hbit := congrArg (fun v => v.testBit (n - k)) h
    simpa [Nat.testBit_div_two_pow, Nat.sub_add_cancel hn] using hbit
  · intro h
    refine Nat.eq_of_testBit_eq fun n => ?_
    rw [Nat.testBit_div_two_pow, Nat.testBit_div_two_pow, h _ (Nat.le_add_left k n)]

theorem b2n_bit (v n : Nat) : b2n (bit v n) = (v.testBit n).toNat := by
  rw [Nat.testBit_eq_decide_div_mod_eq, bit, b2n]
  cases hb : decide (v / 2 ^ n % 2 = 1) <;> simp_all

theorem tileX_eq_bits (i : Nat) : tileX i = Nat.bit (i.testBit 0) (Nat.bit (i.testBit 2) (Nat.bit (i.testBit 4)
    (Nat.bit (i.testBit 6) (Nat.bit (i.testBit 8) (Nat.bit (i.testBit 10) (Nat.bit (i.testBit 12) 0)))))) := by
  simp only [tileX, b2n_bit, Nat.bit_val]
  omega

/-- The column of a tile is spelt by the even bits of its index. -/
theorem testBit_tileX (i m : Nat) : (tileX i).testBit m = (decide (m < 7) && i.testBit (2 * m)) := by
  rw [tileX_eq_bits]
  rcases m with _ | _ | _ | _ | _ | _ | _ | m <;> simp [Nat.testBit_bit_succ]

/-- The row of a tile is spelt by the odd bits of its index. -/
theorem testBit_tileY (i m : Nat) : (tileY i).testBit m = (decide (m < 7) && i.testBit (2 * m + 1)) := by
  rw [tileY, testBit_tileX, ← Nat.testBit_succ]

/-- Two tile indices agree above their low `k` bits when their columns agree above the low ceil(k/2) bits and their rows above the low
floor(k/2) bits. -/
theorem index_prefix_iff {i j : Nat} (hi : i < 2 ^ 14) (hj : j < 2 ^ 14) (k : Nat) :
    i / 2 ^ k = j / 2 ^ k ↔ tileX i / 2 ^ ((k + 1) / 2) = tileX j / 2 ^ ((k + 1) / 2)
      ∧ tileY i / 2 ^ (k / 2) = tileY j / 2 ^ (k / 2) := by
  simp only [div_two_pow_eq_iff, testBit_tileX, testBit_tileY]
  constructor
  · intro h
    exact ⟨fun m hm => by rw [h (2 * m) (by omega)], fun m hm => by rw [h (2 * m + 1) (by omega)]⟩
  · intro ⟨hx, hy⟩ n hn
    by_cases hbig : 14 ≤ n
    · have hle := Nat.pow_le_pow_right (show 0 < 2 by decide) hbig
      rw [Nat.testBit_lt_two_pow (hi.trans_le hle), Nat.testBit_lt_two_pow (hj.trans_le hle)]
    · have h7 : n / 2 < 7 := by omega
      rcases Nat.mod_two_eq_zero_or_one n with he | ho
      · have hb := hx (n / 2) (by omega)
        simpa [h7, Nat.mul_div_cancel' (Nat.dvd_of_mod_eq_zero he)] using hb
      · have hb := hy (n / 2) (by omega)
        simpa [h7, show 2 * (n / 2) + 1 = n by omega] using hb

/-! ### Members and fields -/

theorem cmdIx_lt (c : TreeCmd) : cmdIx c < 2 ^ 14 := Nat.mod_lt _ (by decide)

theorem isMember_iff (c : TreeCmd) (i : Nat) : isMember c i = true ↔ i / 2 ^ cmdK c = cmdIx c / 2 ^ cmdK c := beq_iff_eq

/-- Membership of the block of `n` numbers from `n * q` up. -/
theorem mem_range_map_add {n : Nat} (hn : 0 < n) (q x : Nat) : x ∈ (List.range n).map (· + q * n) ↔ x / n = q := by
  simp only [List.mem_map, List.mem_range]
  constructor
  · rintro ⟨r, hr, rfl⟩
    rw [Nat.add_mul_div_right _ _ hn, Nat.div_eq_of_lt hr, Nat.zero_add]
  · rintro rfl
    exact ⟨x % n, Nat.mod_lt _ hn, by rw [Nat.mul_comm]; exact Nat.mod_add_div x n⟩

theorem mem_blockTiles (ix k i : Nat) : i ∈ blockTiles ix k ↔ i / 2 ^ k = ix / 2 ^ k :=
  mem_range_map_add (Nat.two_pow_pos k) _ i

theorem mem_fieldTiles (f i : Nat) : i ∈ fieldTiles f ↔ tileField i = f := by
  rw [fieldTiles, Nat.mul_comm]
  exact mem_range_map_add (by decide) f i

/-- The fields of a train with k at least 8 agree with its word above their low k - 8 bits. -/
theorem mem_cmdFields_wide {c : TreeCmd} (h : 8 ≤ cmdK c) (f : Nat) :
    f ∈ cmdFields c ↔ f / 2 ^ (cmdK c - 8) = cmdIx c / 2 ^ cmdK c := by
  rw [cmdFields, trainFields]
  split
  · next hle =>
    rw [show cmdK c = 8 by omega]
    simp
  · exact mem_range_map_add (Nat.two_pow_pos _) _ f

theorem mem_cmdFields_narrow {c : TreeCmd} (h : cmdK c ≤ 8) (f : Nat) : f ∈ cmdFields c ↔ f = cmdIx c / 256 := by
  rw [cmdFields, trainFields, if_pos h, List.mem_singleton]

/-- The bits of the index above its low k, for k at least 8, are leading bits of the field's number. -/
theorem field_prefix {k : Nat} (h : 8 ≤ k) (i : Nat) : tileField i / 2 ^ (k - 8) = i / 2 ^ k := by
  rw [tileField, Nat.div_div_eq_div_mul, show (256 : Nat) = 2 ^ 8 from rfl, ← Nat.pow_add, Nat.add_sub_cancel' h]

/-- An index's field follows from its bits above at most 8. -/
theorem field_of_prefix {k i j : Nat} (h : k ≤ 8) (he : i / 2 ^ k = j / 2 ^ k) : tileField i = tileField j := by
  have hf : ∀ v, tileField v = v / 2 ^ k / 2 ^ (8 - k) := fun v => by
    rw [Nat.div_div_eq_div_mul, ← Nat.pow_add, Nat.add_sub_cancel' h, tileField]
  rw [hf i, hf j, he]

/-- The tree finds in a covered field exactly the members that lie there. -/
theorem mem_membersIn {c : TreeCmd} {f : Nat} (hf : f ∈ cmdFields c) (i : Nat) :
    i ∈ membersIn c f ↔ isMember c i = true ∧ tileField i = f := by
  rw [isMember_iff, membersIn]
  split
  · next h =>
    rw [mem_fieldTiles]
    refine ⟨fun hi => ⟨?_, hi⟩, fun hi => hi.2⟩
    rw [← field_prefix h, hi]
    exact (mem_cmdFields_wide h f).mp hf
  · simp [mem_blockTiles]

/-- Every member lies in a covered field. -/
theorem tileField_mem_cmdFields {c : TreeCmd} {i : Nat} (hi : isMember c i = true) : tileField i ∈ cmdFields c := by
  rw [isMember_iff] at hi
  by_cases h : 8 ≤ cmdK c
  · rw [mem_cmdFields_wide h, field_prefix h, hi]
  · rw [mem_cmdFields_narrow (by omega)]
    exact field_of_prefix (by omega) hi

/-- Settles O24: the bits of the index above the low k are those of the column and of the row, and the fields of a train share
the leading bits of its word. -/
theorem trainMembers : Obligations.TrainMembers :=
  ⟨fun c i _ _ => (isMember_iff c i).trans (index_prefix_iff i.isLt (cmdIx_lt c) (cmdK c)),
    fun _ i _ _ _ hf => mem_membersIn hf i,
    fun _ _ _ _ hi => tileField_mem_cmdFields hi⟩

end Sys2Proof.Proofs
end

section
/-! PROOFS. Contexts and waves: what the entry to a context and the taking of a word leave of a tile, and the WAVE firings (spec 02
R41, R42; spec 05 R160, R181 to R185). -/

namespace Sys2Proof.Proofs

open Machine Laws Claims

/-! ### Arriving ends -/

/-- `u` is `t` but for the arriving ends. -/
def OnlyEnds (t u : Tile) : Prop := u = { t with ends := u.ends }

theorem OnlyEnds.trans {t u v : Tile} (h : OnlyEnds t u) (k : OnlyEnds u v) : OnlyEnds t v := by
  unfold OnlyEnds at *
  rw [k, h]

theorem onlyEnds_foldl {f : Tile → Nat → Tile} (h : ∀ t e, OnlyEnds t (f t e)) (l : List Nat) (t : Tile) :
    OnlyEnds t (l.foldl f t) := by
  induction l generalizing t with
  | nil => rfl
  | cons e l ih => exact (h t e).trans (ih (f t e))

theorem onlyEnds_settleEnd (t : Tile) (e : Nat) : OnlyEnds t (settleEnd t e) := by
  dsimp only [settleEnd]
  split <;> rfl

theorem onlyEnds_settleAll (t : Tile) : OnlyEnds t (settleAll t) := onlyEnds_foldl onlyEnds_settleEnd _ t

theorem onlyEnds_takeAt (t : Tile) (r e : Nat) : OnlyEnds t (takeAt t r e) :=
  OnlyEnds.trans (u := setE t e _) rfl (onlyEnds_settleEnd _ e)

theorem onlyEnds_consume (t : Tile) (es : List Nat) : OnlyEnds t (consume t es) := onlyEnds_foldl (fun t => onlyEnds_takeAt t 24) es t

theorem settleEnd_ends (t : Tile) (e : Nat) : (settleEnd t e).ends =
    if (getE t e).taken ≠ [] ∧ (readersOf (ctxFrame t) e).all (fun r => (getE t e).taken.contains r) then
      smSet {} t.ends e { getE t e with skid := (getE t e).skid.drop 1, taken := [] } else t.ends := by
  dsimp only [settleEnd]
  split <;> rfl

/-- What a reader takes from an arriving end does not depend on latches and pipeline. -/
theorem takeAt_ends_outputs (t : Tile) (L : List Latch) (P : List Flight) (r e : Nat) :
    (takeAt { t with latches := L, pipe := P } r e).ends = (takeAt t r e).ends := by
  rw [takeAt, takeAt, settleEnd_ends, settleEnd_ends]
  rfl

/-- The entry to a context changes the bits that R39, R65, R190 and R221 name, and the arriving ends. -/
theorem enterCtx_eq (t : Tile) (n : Fin 16) : enterCtx t n = { t with
    cur := n, turn := false, lastTaken := false, stalled := false, handled := t.handled || handlerSlot t n
    ends := (enterCtx t n).ends } := onlyEnds_settleAll _

/-! ### Output latches -/

/-- The entries that latching a word adds. -/
def latched (src : LatchSrc) (w : Option SWord) (set : List Nat) (after : Nat) : List Latch :=
  match w with
  | some x => if set = [] then [] else [⟨src, x, set, after⟩]
  | none => []

theorem latch_eq (t : Tile) (src : LatchSrc) (w : Option SWord) (set : List Nat) (after : Nat) :
    latch t src w set after = { t with latches := t.latches ++ latched src w set after } := by
  unfold latch latched
  split
  · split <;> simp
  · simp

theorem latchOk_of_empty {t : Tile} (h : t.latches = []) (src : LatchSrc) (set : List Nat) : latchOk t src set = true := by
  simp [latchOk, latchFree, h]

/-- The word of a wave that goes somewhere stands in the fork latch, on the starts that the fork drives. -/
theorem mem_latched_fork {c : Frame} (hstop : waveStop c = false) (hset : drvSet c 3 ≠ []) (w : SWord) (after : Nat) :
    ∃ l ∈ latched .fork (if waveStop c then none else some w) (drvSet c 3) after,
      l.src = .fork ∧ l.word = w ∧ l.set = drvSet c 3 := by
  simp [latched, hstop, hset]

/-- With empty latches and room in the pipeline a wave is sent: its words are in the latches or in the pipeline, that of the fork in the
fork latch. -/
theorem waveSend_sends {i : Nat} {t : Tile} (hl : t.latches = []) (hr : tileKind i = .a ∨ pipeRoom i t = true) (c : Frame) (w : SWord) :
    ∃ (L : List Latch) (P : List Flight), waveSend i t c w = some { t with latches := L, pipe := P }
      ∧ (waveStop c = false → drvSet c 3 ≠ [] → ∃ l ∈ L, l.src = .fork ∧ l.word = w ∧ l.set = drvSet c 3) := by
  simp only [waveSend, latchOk_of_empty hl, latch_eq, Bool.and_self, Bool.not_true, Bool.false_eq_true, if_false]
  by_cases ha : tileKind i = .a
  · rw [if_pos ha]
    refine ⟨_, _, rfl, fun hstop hset => ?_⟩
    obtain ⟨l, hmem, hprops⟩ := mem_latched_fork hstop hset w 0
    exact ⟨l, List.mem_append_right _ hmem, hprops⟩
  · rw [if_neg ha, if_pos (hr.resolve_left ha)]
    refine ⟨_, _, rfl, fun hstop hset => ?_⟩
    obtain ⟨l, hmem, hprops⟩ := mem_latched_fork hstop hset w t.pipe.length
    exact ⟨l, List.mem_append_right _ hmem, hprops⟩

/-! ### Wave firings -/

/-- The operands that a wave firing waits on (spec 05 R181). -/
def waveNeed (c : Frame) (o : Nat) : List Nat := if waveWaitAll c then streamOps c else [o]

/-- The tile behind a wave firing that has sent its word: the tokens consumed, and the switch where one is due. -/
def waveFired (s : State) (i : TileIx) (t1 : Tile) (o : Nat) (w : SWord) : Tile :=
  let t2 := consume t1 (((waveNeed (ctx s i) o).filterMap (streamSel (ctx s i))).eraseDups)
  if waveArmed (getT s i) && !lentTile s i then waveSwitch t2 (Fin.ofNat 16 (bitsOf w.data.toNat 3 0)) else t2

section
variable {s : State} {i : TileIx} {o e : Nat} {w : SWord}

/-- What a wave firing leaves of the tile that has sent its word: all but the arriving ends and the bits of a switch. -/
theorem waveFired_keeps (t1 : Tile) : (waveFired s i t1 o w).latches = t1.latches ∧ (waveFired s i t1 o w).lreg = t1.lreg
    ∧ (waveFired s i t1 o w).p0 = t1.p0 ∧ (waveFired s i t1 o w).p1 = t1.p1 ∧ (waveFired s i t1 o w).cnt = t1.cnt := by
  unfold waveFired
  dsimp only
  split
  · rw [waveSwitch, enterCtx_eq, onlyEnds_consume]
    exact ⟨rfl, rfl, rfl, rfl, rfl⟩
  · rw [onlyEnds_consume]
    exact ⟨rfl, rfl, rfl, rfl, rfl⟩

theorem waveFired_switches (ha : waveArmed (getT s i) = true) (hl : lentTile s i = false) (t1 : Tile) :
    (waveFired s i t1 o w).cur.val = w.data.toNat % 16 ∧ (waveFired s i t1 o w).arm = false := by
  simp only [waveFired, ha, hl, Bool.not_false, Bool.and_self, if_true, waveSwitch]
  rw [enterCtx_eq]
  exact ⟨by simp [bitsOf], trivial⟩

theorem waveFired_stays (h : waveArmed (getT s i) = false ∨ lentTile s i = true) (t1 : Tile) :
    waveFired s i t1 o w = consume t1 (((waveNeed (ctx s i) o).filterMap (streamSel (ctx s i))).eraseDups) := by
  rcases h with h | h <;> simp [waveFired, h]

theorem opWaveFiring_fires {t1 : Tile} (hrun : tileRuns s i = true) (hfmt : cFmt (ctx s i) ≠ 0) (hinj : (getT s i).inject = none)
    (hlead : leadOp (ctx s i) = some o) (hsel : streamSel (ctx s i) o = some e) (hhead : headAt (getT s i) e = some w)
    (hwave : isWave w = true)
    (hall : waveWaitAll (ctx s i) = true → (streamOps (ctx s i)).all (waveHead (getT s i) (ctx s i)) = true)
    (hsend : waveSend i (getT s i) (ctx s i) w = some t1) :
    opWaveFiring i s = setT s i (touch s i (waveFired s i t1 o w)) := by
  have hlone : waveHead (getT s i) (ctx s i) o = true := by simp [waveHead, hsel, hhead, hwave]
  unfold opWaveFiring waveFired waveNeed
  simp only [ctx] at *
  by_cases hw : waveWaitAll (ctxFrame (getT s i)) = true
  · simp [hrun, hfmt, hinj, hlead, hw, hall hw, hsel, hhead, hsend]
  · simp [hrun, hfmt, hinj, hlead, hw, hlone, hsel, hhead, hsend]

theorem waveFiring_fires (hrun : tileRuns s i = true) (hfmt : cFmt (ctx s i) ≠ 0) (hinj : (getT s i).inject = none)
    (hlead : leadOp (ctx s i) = some o) (hsel : streamSel (ctx s i) o = some e) (hhead : headAt (getT s i) e = some w)
    (hwave : isWave w = true)
    (hall : waveWaitAll (ctx s i) = true → (streamOps (ctx s i)).all (waveHead (getT s i) (ctx s i)) = true)
    (hl : (getT s i).latches = []) (hr : tileKind i = .a ∨ pipeRoom i (getT s i) = true) :
    ∃ t : State, exec (.waveFiring i) s = .next t ∧ t = setT s i (getT t i)
      ∧ (waveStop (ctx s i) = false → drvSet (ctx s i) 3 ≠ [] →
          ∃ l ∈ (getT t i).latches, l.src = .fork ∧ l.word = w ∧ l.set = drvSet (ctx s i) 3)
      ∧ (waveArmed (getT s i) = true → lentTile s i = false → (getT t i).cur.val = w.data.toNat % 16 ∧ (getT t i).arm = false)
      ∧ (waveArmed (getT s i) = false ∨ lentTile s i = true → (getT t i).cur = (getT s i).cur ∧ (getT t i).arm = (getT s i).arm
          ∧ (waveWaitAll (ctx s i) = false → (getT t i).ends = (consume (getT s i) [e]).ends))
      ∧ (getT t i).lreg = (getT s i).lreg ∧ (getT t i).p0 = (getT s i).p0 ∧ (getT t i).p1 = (getT s i).p1
      ∧ (getT t i).cnt = (getT s i).cnt := by
  obtain ⟨L, P, hsend, hfork⟩ := waveSend_sends hl hr (ctx s i) w
  obtain ⟨hlat, hlreg, hp0, hp1, hcnt⟩ := waveFired_keeps (s := s) (i := i) (o := o) (w := w) { getT s i with latches := L, pipe := P }
  refine ⟨_, congrArg Host.Outcome.next (opWaveFiring_fires hrun hfmt hinj hlead hsel hhead hwave hall hsend), ?_⟩
  rw [getT_setT_same]
  refine ⟨rfl, fun hstop hset => ?_, fun ha hn => waveFired_switches ha hn _, fun h => ?_, hlreg, hp0, hp1, hcnt⟩
  · obtain ⟨l, hmem, hprops⟩ := hfork hstop hset
    exact ⟨l, hlat.symm ▸ hmem, hprops⟩
  · rw [waveFired_stays h]
    refine ⟨?_, ?_, fun hone => ?_⟩
    · rw [onlyEnds_consume]; rfl
    · rw [onlyEnds_consume]; rfl
    · rw [show ((waveNeed (ctx s i) o).filterMap (streamSel (ctx s i))).eraseDups = [e] by
        simp [waveNeed, hone, hsel, List.eraseDups_cons]]
      exact takeAt_ends_outputs (getT s i) L P 24 e

end

theorem waveNonLeadConsume_takes {s : State} {i : TileIx} {o : Fin 3} {l e k : Nat} (hrun : tileRuns s i = true)
    (hfmt : cFmt (ctx s i) ≠ 0) (hone : waveWaitAll (ctx s i) = false) (hlead : leadOp (ctx s i) = some l) (hlo : l ≠ o.val)
    (hl : streamSel (ctx s i) l = some k) (hsel : streamSel (ctx s i) o = some e) (hke : k ≠ e)
    (hhead : waveHead (getT s i) (ctx s i) o = true) :
    exec (.waveNonLeadConsume i o) s = .next (setT s i (touch s i (takeAt (getT s i) 24 e))) := by
  refine congrArg Host.Outcome.next ?_
  unfold opWaveNonLead
  simp only [ctx] at *
  simp [hrun, hfmt, hone, hlead, hlo, hl, hsel, hke, hhead]

/-- Settles O17: the wave is sent, the tokens are consumed, and an armed tile enters the token's context. -/
theorem waveFirings : Obligations.WaveFirings :=
  ⟨fun _ _ _ _ _ hrun hfmt hinj hlead hsel hhead hwave hall hl hr =>
      waveFiring_fires hrun hfmt hinj hlead hsel hhead hwave hall hl hr,
    fun _ _ _ _ _ _ hrun hfmt hone hlead hlo hl hsel hke hhead =>
      waveNonLeadConsume_takes hrun hfmt hone hlead hlo hl hsel hke hhead⟩

end Sys2Proof.Proofs
end

section
/-! PROOFS. Frames (spec 05 R150, R158, R159): what a store leaves in each slot and of the requests that wait, and the requests
FRAME_WRITE and FRAME_READ. -/

namespace Sys2Proof.Proofs

open Machine Laws Claims

/-! ### What a static load leaves alone -/

/-- The frames of a tile. -/
def frames (t : Tile) : SMap Frame × Frame := (t.slots, t.static)

theorem slotFrame_congr {t u : Tile} (h : frames t = frames u) (j : Nat) : slotFrame t j = slotFrame u j := by
  obtain ⟨hs, hst⟩ := Prod.mk.inj h
  rw [slotFrame, slotFrame, hs, hst]

/-- Endpoints, and of tile `i` the queues and the frames. -/
def queuesFrames (s : State) (i : Nat) : SMap Endpoint × SMap BQueue × SMap Frame × Frame :=
  (s.eps, (getT s i).b.queues, frames (getT s i))

theorem queuesFrames_setT {s : State} {j : Nat} {u : Tile} (hq : u.b.queues = (getT s j).b.queues)
    (hf : frames u = frames (getT s j)) (i : Nat) : queuesFrames (setT s j u) i = queuesFrames s i := by
  by_cases h : i = j
  · subst h
    simp [queuesFrames, hq, hf]
  · simp [queuesFrames, getT_setT_ne _ _ _ _ h]

theorem queuesFrames_sinkAdd (s : State) (own sd n i : Nat) : queuesFrames (sinkAdd s own sd n) i = queuesFrames s i := by
  unfold sinkAdd
  exact queuesFrames_setT (by rfl) (by rfl) i

theorem queuesFrames_dumpSide (s : State) (own sd i : Nat) : queuesFrames (dumpSide s own sd) i = queuesFrames s i := by
  refine foldl_keeps (queuesFrames · i) (fun s k => ?_) _ s
  dsimp only
  split
  · rw [queuesFrames_sinkAdd]
    exact queuesFrames_setT (u := touch s k.1 (setE (getT s k.1) k.2 _)) rfl rfl i
  · rfl

theorem queuesFrames_setB {s : State} {j : Nat} {f : BPart → BPart} (h : (f (getT s j).b).queues = (getT s j).b.queues) (i : Nat) :
    queuesFrames (setB s j f) i = queuesFrames s i := queuesFrames_setT (u := { getT s j with b := f (getT s j).b }) h rfl i

theorem agSet_b (t : Tile) (k : Nat) (v : Reg) : (agSet t k v).b = t.b := rfl

theorem frames_agSet (t : Tile) (k : Nat) (v : Reg) : frames (agSet t k v) = frames t := rfl

theorem loadGens_b (t : Tile) : (loadGens t).b = t.b := by
  unfold loadGens
  exact foldl_keeps Tile.b (fun t k => agSet_b t k _) _ t

theorem frames_loadGens (t : Tile) : frames (loadGens t) = frames t := by
  unfold loadGens
  exact foldl_keeps frames (fun t k => frames_agSet t k _) _ t

/-! ### A flushed queue -/

theorem getT_answer (s : State) (ep n : Nat) (st : Status) (data : List Byte) (i : Nat) :
    getT (answer s ep n st data) i = getT s i := getT_congr (by rw [answer_frame]) i

theorem getT_foldl_answer (s : State) (l : List Held) (st : Status) (i : Nat) :
    getT (l.foldl (fun s h => answer s h.ep h.entry st []) s) i = getT s i :=
  foldl_keeps (getT · i) (fun s h => getT_answer s h.ep h.entry st [] i) l s

/-- A flush changes one queue of the tile, which then holds no request. -/
theorem getT_flushQ (s : State) (i n : Nat) : ∃ Q : SMap BQueue,
    getT (flushQ s i n) i = { getT s i with b := { (getT s i).b with queues := Q } }
      ∧ ∀ m, (smGet {} Q m).held = if m = n then [] else (getQ (getT s i) m).held := by
  simp only [flushQ, releaseHeld, setQ, setB, getT_setT_same, getT_foldl_answer, reduceCtorEq, if_false]
  refine ⟨_, rfl, fun m => ?_⟩
  by_cases h : m = n
  · subst h
    simp [getQ]
  · simp [getQ, h, smGet_smSet_ne]

/-- The endpoints after a flush: each request that the queue held is answered. -/
theorem eps_flushQ (s : State) (i n : Nat) :
    (flushQ s i n).eps = ((getQ (getT s i) n).held.foldl (fun s h => answer s h.ep h.entry .aborted []) s).eps := rfl

/-- Entry `n` of endpoint `ep` holds `g`, and no queue of tile `i` holds it. -/
def unheldIn (s : State) (i ep n : Nat) (g : Ingress) : Prop :=
  getIn s ep n = some g ∧ ∀ q, ∀ h ∈ (getQ (getT s i) q).held, (h.ep, h.entry) ≠ (ep, n)

section
variable {s t : State} {i ep n : Nat} {g : Ingress}

theorem unheldIn_congr (he : t.eps = s.eps) (hq : (getT t i).b.queues = (getT s i).b.queues) (hu : unheldIn s i ep n g) :
    unheldIn t i ep n g := by
  simpa only [unheldIn, getIn, getEp, getQ, he, hq] using hu

theorem unheldIn_of_kept (h : queuesFrames t i = queuesFrames s i) (hu : unheldIn s i ep n g) : unheldIn t i ep n g :=
  unheldIn_congr (congrArg (·.1) h) (congrArg (·.2.1) h) hu

theorem unheldIn_flushQ (hu : unheldIn s i ep n g) (m : Nat) : unheldIn (flushQ s i m) i ep n g := by
  obtain ⟨hin, hheld⟩ := hu
  obtain ⟨Q, hQ, hQheld⟩ := getT_flushQ s i m
  constructor
  · have hkeep : ∀ (l : List Held) (u : State), (∀ h ∈ l, (h.ep, h.entry) ≠ (ep, n)) →
        getIn (l.foldl (fun s h => answer s h.ep h.entry .aborted []) u) ep n = getIn u ep n := by
      intro l
      induction l with
      | nil => exact fun _ _ => rfl
      | cons h l ih =>
        intro u hl
        rw [List.foldl_cons, ih _ fun x hx => hl x (List.mem_cons_of_mem _ hx)]
        exact getIn_answer_ne u _ _ (hl h List.mem_cons_self).symm
    rw [getIn, getEp, eps_flushQ, ← hin, ← hkeep _ s (hheld m)]
    rfl
  · intro q h hh
    rw [getQ, hQ, hQheld] at hh
    split at hh
    · exact absurd hh List.not_mem_nil
    · exact hheld q h hh

/-! ### Stores -/

theorem frames_of_kept (h : queuesFrames t i = queuesFrames s i) : frames (getT t i) = frames (getT s i) := congrArg (·.2.2) h

/-- The state in which the static frame of tile `i` is `c` and the words held across the sides that turn to SINK are discarded
(spec 04 R143). -/
def staticPut (s : State) (i : Nat) (c : Frame) : State :=
  [0, 1, 2, 3].foldl (fun u sd =>
    if engaged u (tileField i) && !bit (getT s i).static.toNat (229 - sd) && bit c.toNat (229 - sd) then dumpSide u i sd else u)
    (setT s i { getT s i with static := c })

theorem queuesFrames_staticPut (c : Frame) :
    queuesFrames (staticPut s i c) i = queuesFrames (setT s i { getT s i with static := c }) i := by
  refine foldl_keeps (queuesFrames · i) (fun u sd => ?_) _ _
  split
  · exact queuesFrames_dumpSide u i sd i
  · rfl

theorem frames_staticPut (c : Frame) : frames (getT (staticPut s i c) i) = ((getT s i).slots, c) := by
  rw [frames_of_kept (queuesFrames_staticPut c), getT_setT_same]
  rfl

theorem unheldIn_staticPut (hu : unheldIn s i ep n g) (c : Frame) : unheldIn (staticPut s i c) i ep n g :=
  unheldIn_of_kept (queuesFrames_staticPut c)
    (unheldIn_congr (s := s) (t := setT s i { getT s i with static := c }) rfl (by rw [getT_setT_same]) hu)

theorem storeStatic_a (hk : tileKind i = .a) (c : Frame) : storeStatic s i c = staticPut s i c := by
  rw [storeStatic, hk]
  rfl

theorem storeStatic_m (hk : tileKind i = .m) (c : Frame) :
    storeStatic s i c = setT (staticPut s i c) i (loadGens (getT (staticPut s i c) i)) := by
  rw [storeStatic, hk]
  rfl

theorem storeStatic_b (hk : tileKind i = .b) (c : Frame) :
    storeStatic s i c = loadNetWait (staticQueues (staticPut s i c) i) i := by
  rw [storeStatic, hk]
  rfl

theorem frames_flushQ (m : Nat) : frames (getT (flushQ s i m) i) = frames (getT s i) := by
  obtain ⟨Q, hQ, -⟩ := getT_flushQ s i m
  rw [hQ]
  rfl

theorem queuesFrames_ownerDefault : queuesFrames (ownerDefault s i) i = queuesFrames s i := queuesFrames_setB rfl i

theorem queuesFrames_loadNetWait : queuesFrames (loadNetWait s i) i = queuesFrames s i := queuesFrames_setB rfl i

theorem frames_staticQueues : frames (getT (staticQueues s i) i) = frames (getT s i) :=
  (frames_of_kept queuesFrames_ownerDefault).trans
    (foldl_keeps (fun s => frames (getT s i)) (fun _ m => frames_flushQ m) _ s)

theorem unheldIn_staticQueues (hu : unheldIn s i ep n g) : unheldIn (staticQueues s i) i ep n g := by
  refine unheldIn_of_kept queuesFrames_ownerDefault ?_
  simp only [List.foldl_cons, List.foldl_nil]
  exact unheldIn_flushQ (unheldIn_flushQ (unheldIn_flushQ (unheldIn_flushQ hu 0) 1) 2) 3

/-- A static load puts the frame in its place and leaves the context frames. -/
theorem frames_storeStatic (c : Frame) : frames (getT (storeStatic s i c) i) = ((getT s i).slots, c) := by
  cases hk : tileKind i with
  | a => rw [storeStatic_a hk, frames_staticPut]
  | m => rw [storeStatic_m hk, getT_setT_same, frames_loadGens, frames_staticPut]
  | b => rw [storeStatic_b hk, frames_of_kept queuesFrames_loadNetWait, frames_staticQueues, frames_staticPut]

/-- A static load answers no request but those that a queue of the tile holds. -/
theorem unheldIn_storeStatic (hu : unheldIn s i ep n g) (c : Frame) : unheldIn (storeStatic s i c) i ep n g := by
  have hput := unheldIn_staticPut hu c
  cases hk : tileKind i with
  | a => rwa [storeStatic_a hk]
  | m =>
    rw [storeStatic_m hk]
    exact unheldIn_congr (s := staticPut s i c) rfl (by rw [getT_setT_same, loadGens_b]) hput
  | b =>
    rw [storeStatic_b hk]
    exact unheldIn_of_kept queuesFrames_loadNetWait (unheldIn_staticQueues hput)

/-- A stored context frame changes the slot, and where the slot is the current one the context is entered. -/
theorem getT_storeFrame_ctx {slot : Nat} (h : slot < 16) (c : Frame) :
    getT (storeFrame s i slot c) i =
      if (getT s i).cur.val = slot then
        touch s i (enterCtx { getT s i with slots := smSet 0 (getT s i).slots slot c } (getT s i).cur)
      else { getT s i with slots := smSet 0 (getT s i).slots slot c } := by
  rw [storeFrame, if_pos h, getT_setT_same]

theorem frames_storeFrame_ctx {slot : Nat} (h : slot < 16) (c : Frame) :
    frames (getT (storeFrame s i slot c) i) = (smSet 0 (getT s i).slots slot c, (getT s i).static) := by
  rw [getT_storeFrame_ctx h]
  split
  · rw [enterCtx_eq]; rfl
  · rfl

/-- A store puts the frame in its slot and leaves the other slots. -/
theorem slotFrame_storeFrame {slot j : Nat} (hs : slot ≤ 16) (hj : j ≤ 16) (c : Frame) :
    slotFrame (getT (storeFrame s i slot c) i) j = if j = slot then c else slotFrame (getT s i) j := by
  by_cases h : slot < 16
  · obtain ⟨hsl, hst⟩ := Prod.mk.inj (frames_storeFrame_ctx (s := s) (i := i) h c)
    by_cases hjs : j = slot
    · rw [slotFrame, hsl, if_pos (hjs ▸ h), if_pos hjs, hjs, smGet_smSet_same]
    · rw [slotFrame, hsl, hst, smGet_smSet_ne _ _ _ _ _ _ hjs, if_neg hjs, slotFrame]
  · obtain ⟨hsl, hst⟩ := Prod.mk.inj (frames_storeStatic (s := s) (i := i) c)
    rw [storeFrame, if_neg h, slotFrame, hsl, hst, slotFrame]
    obtain rfl : slot = 16 := by omega
    split
    · rw [if_neg (by omega)]
    · rw [if_pos (by omega)]

theorem unheldIn_storeFrame (hu : unheldIn s i ep n g) (slot : Nat) (c : Frame) : unheldIn (storeFrame s i slot c) i ep n g := by
  by_cases h : slot < 16
  · refine unheldIn_congr ?_ ?_ hu
    · rw [storeFrame, if_pos h]; rfl
    · rw [getT_storeFrame_ctx h]
      split
      · rw [enterCtx_eq]; rfl
      · rfl
  · rw [storeFrame, if_neg h]
    exact unheldIn_storeStatic hu c

/-- The stores of the frames `F 0` to `F (m - 1)` in the slots from `a` up. -/
def storeRun (s : State) (i a : Nat) (F : Nat → Frame) (m : Nat) : State :=
  ((List.range m).map (fun k => (a + k, F k))).foldl (fun s x => storeFrame s i x.1 x.2) s

theorem storeRun_succ (a : Nat) (F : Nat → Frame) (m : Nat) :
    storeRun s i a F (m + 1) = storeFrame (storeRun s i a F m) i (a + m) (F m) := by
  simp [storeRun, List.range_succ]

theorem slotFrame_storeRun {a m j : Nat} (ha : a + m ≤ 17) (hj : j ≤ 16) (F : Nat → Frame) :
    slotFrame (getT (storeRun s i a F m) i) j = if a ≤ j ∧ j < a + m then F (j - a) else slotFrame (getT s i) j := by
  induction m with
  | zero => rw [if_neg (by omega)]; rfl
  | succ m ih =>
    rw [storeRun_succ, slotFrame_storeFrame (by omega) hj, ih (by omega)]
    by_cases hm : j = a + m
    · rw [if_pos hm, if_pos (by omega), hm, Nat.add_sub_cancel_left]
    · rw [if_neg hm]
      exact if_congr (by omega) rfl rfl

theorem unheldIn_storeRun (hu : unheldIn s i ep n g) (a : Nat) (F : Nat → Frame) (m : Nat) :
    unheldIn (storeRun s i a F m) i ep n g := by
  induction m with
  | zero => exact hu
  | succ m ih => rw [storeRun_succ]; exact unheldIn_storeFrame ih _ _

end

/-! ### FRAME_WRITE -/

/-- Frame `k` of the data of a write. -/
def writtenFrame (g : Ingress) (k : Nat) : Frame := frameOf (sliceBytes (g.wdata.getD []) (32 * k) 32)

section
variable {s : State} {ep : Fin 2048} {n : Fin 32} {g : Ingress} {i off : Nat}

/-- The frames of a write with the slots that they name. -/
def writtenSlots (g : Ingress) (off : Nat) : List (Nat × Frame) :=
  (List.range (reqLen g.req / 32)).map (fun k => (off / 32 + k, writtenFrame g k))

/-- The frames of a write that fail their check. -/
def frameFails (s : State) (i : Nat) (x : Nat × Frame) : Bool := decide (frameWriteStatus s i x.1 x.2 ≠ .ok)

section
variable (hin : getIn s ep n = some g) (hplace : placeOf s g.req.addr.toNat = .frame i off)
  (hserve : mayServe s i g = true) (hwrite : reqWrite g.req = true) (hoff : off % 32 = 0) (hlen : reqLen g.req % 32 = 0)
  (hend : off + reqLen g.req ≤ 0x220)
include hin hplace hserve hwrite hoff hlen hend

theorem opFrameWrite_stores (hok : (writtenSlots g off).find? (frameFails s i) = none) :
    opFrameWrite ep n s = answer (storeRun s i (off / 32) (writtenFrame g) (reqLen g.req / 32)) ep n .ok [] := by
  have hwhole : ¬(off % 32 ≠ 0 ∨ reqLen g.req % 32 ≠ 0 ∨ 0x220 < off + reqLen g.req) := by omega
  unfold writtenSlots writtenFrame frameFails at hok
  simp only [opFrameWrite, hin, hplace, hserve, hwrite, Bool.not_true, Bool.or_self, Bool.false_eq_true, if_false, if_neg hwhole, hok]
  rfl

theorem opFrameWrite_refuses {x : Nat × Frame} (hbad : (writtenSlots g off).find? (frameFails s i) = some x) :
    opFrameWrite ep n s = answer s ep n (frameWriteStatus s i x.1 x.2) [] := by
  have hwhole : ¬(off % 32 ≠ 0 ∨ reqLen g.req % 32 ≠ 0 ∨ 0x220 < off + reqLen g.req) := by omega
  unfold writtenSlots writtenFrame frameFails at hbad
  simp only [opFrameWrite, hin, hplace, hserve, hwrite, Bool.not_true, Bool.or_self, Bool.false_eq_true, if_false, if_neg hwhole, hbad]

theorem frameWrite_stores
    (hok : ∀ k < reqLen g.req / 32, frameWriteStatus s i (off / 32 + k) (writtenFrame g k) = .ok)
    (hheld : ∀ q : Nat, ∀ h ∈ (getQ (getT s i) q).held, (h.ep, h.entry) ≠ (ep.val, n.val)) :
    ∃ t : State, exec (.frameWrite ep n) s = .next t ∧ answered t ep n g.req .ok []
      ∧ ∀ k < reqLen g.req / 32, slotFrame (getT t i) (off / 32 + k) = writtenFrame g k := by
  have hfind : (writtenSlots g off).find? (frameFails s i) = none := by
    simpa [List.find?_eq_none, writtenSlots, frameFails] using hok
  have hwaits := unheldIn_storeRun (ep := ep) (n := n) ⟨hin, hheld⟩ (off / 32) (writtenFrame g) (reqLen g.req / 32)
  refine ⟨_, congrArg Host.Outcome.next (opFrameWrite_stores hin hplace hserve hwrite hoff hlen hend hfind),
    answered_answer hwaits.1 .ok [], fun k hk => ?_⟩
  rw [getT_answer, slotFrame_storeRun (by omega) (by omega), if_pos (by omega), Nat.add_sub_cancel_left]

theorem frameWrite_refuses {k : Nat} (hk : k < reqLen g.req / 32)
    (hok : ∀ m < k, frameWriteStatus s i (off / 32 + m) (writtenFrame g m) = .ok)
    (hbad : frameWriteStatus s i (off / 32 + k) (writtenFrame g k) ≠ .ok) :
    ∃ t : State, exec (.frameWrite ep n) s = .next t ∧ t.tiles = s.tiles
      ∧ answered t ep n g.req (frameWriteStatus s i (off / 32 + k) (writtenFrame g k)) [] := by
  have hfind : (writtenSlots g off).find? (frameFails s i) = some (off / 32 + k, writtenFrame g k) := by
    rw [writtenSlots, List.find?_map, Option.map_eq_some_iff]
    refine ⟨k, List.find?_range_eq_some.mpr ⟨by simpa [frameFails] using hbad, List.mem_range.mpr hk, fun m hm => ?_⟩, rfl⟩
    simp [frameFails, hok m hm]
  exact ⟨_, congrArg Host.Outcome.next (opFrameWrite_refuses hin hplace hserve hwrite hoff hlen hend hfind),
    by rw [answer_frame], answered_answer hin _ []⟩

end

/-! ### FRAME_READ -/

theorem getElem?_bytesLE {m k : Nat} (h : k < m) (v : Nat) : (bytesLE m v)[k]? = some (BitVec.ofNat 8 (v / 256 ^ k)) := by
  induction m generalizing k v with
  | zero => omega
  | succ m ih =>
    cases k with
    | zero => simp [bytesLE]
    | succ k => rw [bytesLE, List.getElem?_cons_succ, ih (by omega), Nat.div_div_eq_div_mul, Nat.pow_succ']

theorem length_frameBytes (c : Frame) : (frameBytes c).length = 32 := length_bytesLE 32 _

/-- The bytes of the first `m` slots, one frame behind the other (spec 05 R158). -/
def slotBytesUpTo (t : Tile) (m : Nat) : List Byte := (List.range m).flatMap (fun k => frameBytes (slotFrame t k))

theorem slotBytesUpTo_succ (t : Tile) (m : Nat) :
    slotBytesUpTo t (m + 1) = slotBytesUpTo t m ++ frameBytes (slotFrame t m) := by
  simp [slotBytesUpTo, List.range_succ]

theorem length_slotBytesUpTo (t : Tile) (m : Nat) : (slotBytesUpTo t m).length = 32 * m := by
  induction m with
  | zero => rfl
  | succ m ih => rw [slotBytesUpTo_succ, List.length_append, ih, length_frameBytes, Nat.mul_succ]

theorem getElem?_slotBytesUpTo (t : Tile) {m a : Nat} (h : a < 32 * m) :
    (slotBytesUpTo t m)[a]? = some (BitVec.ofNat 8 ((slotFrame t (a / 32)).toNat / 256 ^ (a % 32))) := by
  induction m with
  | zero => omega
  | succ m ih =>
    rw [slotBytesUpTo_succ]
    by_cases ha : a < 32 * m
    · rw [List.getElem?_append_left (by rwa [length_slotBytesUpTo]), ih ha]
    · rw [List.getElem?_append_right (by rw [length_slotBytesUpTo]; omega), length_slotBytesUpTo, frameBytes,
        getElem?_bytesLE (by omega), show a / 32 = m by omega, show a - 32 * m = a % 32 by omega]

/-- A slice that ends within a list holds that list's elements. -/
theorem getElem?_sliceBytes {bs : List Byte} {a m k : Nat} (h : a + m ≤ bs.length) (hk : k < m) :
    (sliceBytes bs a m)[k]? = bs[a + k]? := by
  rw [sliceBytes, List.getElem?_append_left (by rw [List.length_take, List.length_drop]; omega), List.getElem?_take_of_lt hk,
    List.getElem?_drop]

theorem length_sliceBytes (bs : List Byte) (a m : Nat) : (sliceBytes bs a m).length = m := by
  simp only [sliceBytes, List.length_append, List.length_take, List.length_drop, List.length_replicate]
  omega

theorem frameRead_reads (hin : getIn s ep n = some g) (hplace : placeOf s g.req.addr.toNat = .frame i off)
    (hserve : mayServe s i g = true) (hread : reqWrite g.req = false) (hend : off + reqLen g.req ≤ 0x220) :
    ∃ (t : State) (bs : List Byte), exec (.frameRead ep n) s = .next t ∧ answered t ep n g.req .ok bs
      ∧ bs.length = reqLen g.req ∧ t.tiles = s.tiles ∧ t.mem = s.mem
      ∧ ∀ k < reqLen g.req, bs[k]? = some (BitVec.ofNat 8
          ((slotFrame (getT s i) ((off + k) / 32)).toNat / 256 ^ ((off + k) % 32))) := by
  have hop : opFrameRead ep n s = answer s ep n .ok (sliceBytes (slotBytesUpTo (getT s i) 17) off (reqLen g.req)) := by
    simp only [opFrameRead, hin, hplace, hserve, hread, Bool.not_true, Bool.or_self, Bool.false_eq_true, if_false,
      if_neg (Nat.not_lt.mpr hend)]
    rfl
  refine ⟨_, _, congrArg Host.Outcome.next hop, answered_answer hin .ok _, length_sliceBytes _ _ _, by rw [answer_frame],
    by rw [answer_frame], fun k hk => ?_⟩
  rw [getElem?_sliceBytes (by rw [length_slotBytesUpTo]; omega) hk, getElem?_slotBytesUpTo _ (by omega)]

end

/-- Settles O22: stores put each frame in its slot and leave the request waiting; the read slices the bytes of the slots. -/
theorem frameRequests : Obligations.FrameRequests :=
  ⟨fun _ _ _ _ _ _ hin hplace hserve hwrite hoff hlen hend hok hheld =>
      frameWrite_stores hin hplace hserve hwrite hoff hlen hend hok hheld,
    fun _ _ _ _ _ _ _ hin hplace hserve hwrite hoff hlen hend hk hok hbad =>
      frameWrite_refuses hin hplace hserve hwrite hoff hlen hend hk hok hbad,
    fun _ _ _ _ _ _ hin hplace hserve hread hend => frameRead_reads hin hplace hserve hread hend⟩

end Sys2Proof.Proofs
end

section
/-! PROOFS. The command tree's bookkeeping: what answers, refusals and starts of train commands leave alone, and what ends a run (spec
05 R170 to R174; spec 08 R321; spec 10 R377). -/

namespace Sys2Proof.Proofs

open Machine Laws Claims

theorem mem_of_queueMem {s t : State} (h : queueMem t = queueMem s) : t.mem = s.mem := congrArg Prod.snd h

/-! ### Tiles, the tree and the host interface -/

/-- The tiles, the tree and the host interface. -/
def tilesTreeHost (s : State) : SMap Tile × TreeSt × HostSt := (s.tiles, s.tree, s.host)

theorem tilesTreeHost_of_onlyReported {s t : State} (h : OnlyReported s t) : tilesTreeHost t = tilesTreeHost s := by
  rw [h]; rfl

theorem tilesTreeHost_report (s : State) (source : Nat) (unit : BitVec 32) (code : Nat) (det : List Byte) :
    tilesTreeHost (report s source unit code det) = tilesTreeHost s := tilesTreeHost_of_onlyReported (onlyReported_report ..)

theorem tilesTreeHost_wakeReq (s : State) (f : Nat) : tilesTreeHost (wakeReq s f) = tilesTreeHost s := by
  unfold wakeReq
  split <;> rfl

theorem onlyReported_denialRecorded (u : State) (v a : Reg) : OnlyReported u (denialRecorded u v a) := rfl

theorem onlyReported_denyWith (s : State) (k : Key) (remote train : Bool) (unit : BitVec 32) (addr perm table code : Nat) :
    OnlyReported s (denyWith s k remote train unit addr perm table code) := by
  obtain ⟨det, a, h⟩ := denyWith_eq s k remote train unit addr perm table code
  have hcount : OnlyReported s (denialCounted s unit code det) := (onlyReported_report s 202 unit code det).trans (u := bump _ _ _ _) rfl
  rw [h]
  dsimp only
  split
  · exact hcount.trans (u := wr _ _ _ _) rfl
  · exact (hcount.trans (onlyReported_denialRecorded _ _ _)).trans (onlyReported_raiseIf _ _ _)

theorem tilesTreeHost_sendFabric (s : State) (dev : BitVec 16) (f : Flit) : tilesTreeHost (sendFabric s dev f) = tilesTreeHost s := by
  unfold sendFabric
  split
  · rfl
  · split
    · rfl
    · exact tilesTreeHost_report _ _ _ _ _

theorem tilesTreeHost_expAnswer (s : State) (x dev : Nat) (st : Status) (bits : Nat) :
    tilesTreeHost (expAnswer s x dev st bits) = tilesTreeHost s := by
  unfold expAnswer
  split <;> rfl

theorem tilesTreeHost_tellRefused (s : State) (c : TreeCmd) (st : Status) (table : Bool) :
    tilesTreeHost (tellRefused s c st table) = tilesTreeHost s := by
  unfold tellRefused
  dsimp only
  split
  · rfl
  · split
    · exact tilesTreeHost_report _ _ _ _ _
    · exact tilesTreeHost_report _ _ _ _ _

/-! ### Completions that wait in a ring -/

theorem getRing_setRing_same (s : State) (r : Nat) (x : RingSt) : getRing (setRing s r x) r = x := smGet_smSet_same _ _ _ _

theorem getRing_setRing_ne (s : State) {r r' : Nat} (h : r' ≠ r) (x : RingSt) : getRing (setRing s r x) r' = getRing s r' :=
  smGet_smSet_ne _ _ _ _ _ _ h

/-- `t` is `s` after answers: tiles and tree are as they were, and no completion that waited is lost. -/
structure AnswersOnly (s t : State) : Prop where
  tiles : t.tiles = s.tiles
  tree : t.tree = s.tree
  out : ∀ r, (getRing s r).out ⊆ (getRing t r).out

theorem AnswersOnly.trans {s t u : State} (h : AnswersOnly s t) (k : AnswersOnly t u) : AnswersOnly s u :=
  ⟨k.tiles.trans h.tiles, k.tree.trans h.tree, fun r => List.Subset.trans (h.out r) (k.out r)⟩

theorem answersOnly_of_eq {s t : State} (h : tilesTreeHost t = tilesTreeHost s) : AnswersOnly s t where
  tiles := congrArg (·.1) h
  tree := congrArg (·.2.1) h
  out r := by
    rw [getRing, getRing, show t.host = s.host from congrArg (·.2.2) h]
    exact List.Subset.refl _

theorem answersOnly_setRing {s : State} {r : Nat} {x : RingSt} (h : (getRing s r).out ⊆ x.out) : AnswersOnly s (setRing s r x) where
  tiles := rfl
  tree := rfl
  out r' := by
    by_cases hr : r' = r
    · subst hr
      rwa [getRing_setRing_same]
    · rw [getRing_setRing_ne s hr]
      exact List.Subset.refl _

theorem answersOnly_descDone (s : State) (r id : Nat) (st : Status) (bytes aux : Nat) :
    AnswersOnly s (descDone s r id st bytes aux) := by
  unfold descDone
  split
  · exact answersOnly_of_eq rfl
  · dsimp only
    split
    · exact answersOnly_setRing (List.Subset.refl _)
    · exact answersOnly_setRing (List.subset_append_left _ _)

theorem answersOnly_treeDone (s : State) (c : TreeCmd) (st : Status) (aux : Nat) : AnswersOnly s (treeDone s c st aux) := by
  unfold treeDone
  split
  · exact answersOnly_descDone _ _ _ _ _ _
  · exact answersOnly_of_eq rfl
  · split
    · exact answersOnly_of_eq rfl
    · exact answersOnly_of_eq (tilesTreeHost_sendFabric _ _ _)
  · exact answersOnly_of_eq (tilesTreeHost_expAnswer _ _ _ _ _)
  · exact answersOnly_of_eq rfl

theorem answersOnly_treeRefuse (s : State) (c : TreeCmd) (st : Status) (table : Bool) : AnswersOnly s (treeRefuse s c st table) :=
  (answersOnly_of_eq (tilesTreeHost_tellRefused s c st table)).trans (answersOnly_treeDone _ _ _ _)

theorem answersOnly_refuseCmd (s : State) (c : TreeCmd) (st : Status) (code table : Nat) :
    AnswersOnly s (refuseCmd s c st code table) := by
  unfold refuseCmd
  split
  · exact (answersOnly_of_eq (tilesTreeHost_of_onlyReported (onlyReported_denyWith ..))).trans (answersOnly_treeRefuse _ _ _ _)
  · exact answersOnly_treeRefuse _ _ _ _

/-! ### Completions of train commands -/

theorem completed_mono {s t : State} (h : ∀ r, (getRing s r).out ⊆ (getRing t r).out) {r id aux : Nat} {st : Status}
    (hc : completed s r id st aux) : completed t r id st aux := by
  obtain ⟨c, hmem, hprops⟩ := hc
  exact ⟨c, h r hmem, hprops⟩

theorem fromRing_congr {s t : State} (h : t.host = s.host) {c : TreeCmd} {rr d : Nat} (hf : fromRing s c rr d) : fromRing t c rr d := by
  simpa only [fromRing, liveDesc, getRing, h] using hf

/-- The answer to a command of a ring that asks for a completion is that completion (spec 08 R308, R321). -/
theorem completed_treeDone {s : State} {c : TreeCmd} {rr d : Nat} (h : fromRing s c rr d) (st : Status) (aux : Nat) :
    completed (treeDone s c st aux) rr d st aux := by
  obtain ⟨hissuer, x, hlive, hcomp⟩ := h
  have hdone : treeDone s c st aux = descDone s rr d st 0 aux := by rw [treeDone, hissuer]
  rw [hdone, completed]
  simp only [descDone, hlive, hcomp, Bool.false_and, Bool.false_eq_true, if_false, getRing_setRing_same]
  exact ⟨_, List.mem_append_right _ (List.mem_singleton_self _), rfl, rfl, rfl⟩

theorem completed_treeRefuse {s : State} {c : TreeCmd} {rr d : Nat} (h : fromRing s c rr d) (st : Status) (table : Bool) :
    completed (treeRefuse s c st table) rr d st 0 :=
  completed_treeDone (fromRing_congr (congrArg (·.2.2) (tilesTreeHost_tellRefused s c st table)) h) st 0

/-! ### Runs -/

theorem getRun_setRun_same (s : State) (id : Nat) (r : Option TreeRun) : getRun (setRun s id r) id = r := smGet_smSet_same _ _ _ _

theorem getRun_setRun_ne (s : State) {id j : Nat} (h : j ≠ id) (r : Option TreeRun) : getRun (setRun s id r) j = getRun s j :=
  smGet_smSet_ne _ _ _ _ _ _ h

theorem getRun_congr {s t : State} (h : t.tree = s.tree) (id : Nat) : getRun t id = getRun s id := by rw [getRun, getRun, h]

/-- `t` is `s` after answers and starts of commands that wait: tiles are as they were, no completion that waited is lost, and no
run has been added. -/
structure StartsOnly (s t : State) : Prop where
  tiles : t.tiles = s.tiles
  out : ∀ r, (getRing s r).out ⊆ (getRing t r).out
  gone : ∀ id, getRun s id = none → getRun t id = none

theorem StartsOnly.refl (s : State) : StartsOnly s s := ⟨rfl, fun _ => List.Subset.refl _, fun _ => id⟩

theorem StartsOnly.trans {s t u : State} (h : StartsOnly s t) (k : StartsOnly t u) : StartsOnly s u :=
  ⟨k.tiles.trans h.tiles, fun r => List.Subset.trans (h.out r) (k.out r), fun id hid => k.gone id (h.gone id hid)⟩

theorem AnswersOnly.startsOnly {s t : State} (h : AnswersOnly s t) : StartsOnly s t :=
  ⟨h.tiles, h.out, fun id hid => (getRun_congr h.tree id).trans hid⟩

theorem startsOnly_setRun {s : State} {id : Nat} {r : Option TreeRun} (h : getRun s id = none → r = none) :
    StartsOnly s (setRun s id r) := by
  refine ⟨rfl, fun _ => List.Subset.refl _, fun j hj => ?_⟩
  by_cases hji : j = id
  · subst hji
    rw [getRun_setRun_same, h hj]
  · rw [getRun_setRun_ne s hji, hj]

theorem startsOnly_rootStart {s : State} {id : Nat} {r : TreeRun} (h : getRun s id ≠ none) : StartsOnly s (rootStart s id r) := by
  unfold rootStart
  split
  · exact (startsOnly_setRun fun _ => rfl).trans (answersOnly_refuseCmd _ _ _ _ _).startsOnly
  · dsimp only
    have hrun : StartsOnly s (setRun s id (some { r with waiting := false, todo := cmdFields r.cmd })) :=
      startsOnly_setRun fun hn => absurd hn h
    split
    · exact hrun
    · exact hrun.trans (answersOnly_of_eq (foldl_keeps tilesTreeHost tilesTreeHost_wakeReq _ _)).startsOnly

theorem startsOnly_foldl {α : Type} {f : State → α → State} (h : ∀ s x, StartsOnly s (f s x)) (l : List α) (s : State) :
    StartsOnly s (l.foldl f s) := by
  induction l generalizing s with
  | nil => exact StartsOnly.refl s
  | cons x l ih => exact (h s x).trans (ih (f s x))

theorem startsOnly_rootScan (s : State) : StartsOnly s (rootScan s) := by
  refine startsOnly_foldl (fun s id => ?_) _ s
  split
  · next r hr =>
    split
    · exact startsOnly_rootStart (by rw [hr]; exact Option.some_ne_none r)
    · exact StartsOnly.refl s
  · exact StartsOnly.refl s

/-! ### The end of a run -/

theorem startsOnly_endRun (s : State) (id : Nat) (st : Status) (aux : Nat) : StartsOnly s (endRun s id st aux) := by
  unfold endRun
  split
  · exact StartsOnly.refl s
  · exact ((startsOnly_setRun fun _ => rfl).trans (answersOnly_treeDone _ _ _ _).startsOnly).trans (startsOnly_rootScan _)

theorem endRun_eq {s : State} {id : Nat} {r : TreeRun} (h : getRun s id = some r) (st : Status) (aux : Nat) :
    endRun s id st aux = rootScan (treeDone (setRun s id none) r.cmd st aux) := by rw [endRun, h]

/-- A command that has ended is no longer held. -/
theorem getRun_endRun (s : State) (id : Nat) (st : Status) (aux : Nat) : getRun (endRun s id st aux) id = none := by
  cases h : getRun s id with
  | none => rw [endRun, h, h]
  | some r =>
    rw [endRun_eq h]
    refine (startsOnly_rootScan _).gone id ?_
    rw [getRun_congr (answersOnly_treeDone _ _ _ _).tree, getRun_setRun_same]

theorem completed_endRun {s : State} {id rr d : Nat} {r : TreeRun} (h : getRun s id = some r) (hf : fromRing s r.cmd rr d)
    (st : Status) (aux : Nat) : completed (endRun s id st aux) rr d st aux := by
  have hring : fromRing (setRun s id none) r.cmd rr d := fromRing_congr (s := s) rfl hf
  rw [endRun_eq h]
  exact completed_mono (startsOnly_rootScan _).out (completed_treeDone hring st aux)

theorem startsOnly_checkRun (s : State) (id : Nat) : StartsOnly s (checkRun s id) := by
  unfold checkRun
  split
  · exact StartsOnly.refl s
  · split
    · exact startsOnly_endRun s id _ _
    · exact StartsOnly.refl s

theorem engine_awake {s : State} (h : s.asleep = false) (f : State → State) : engine f s = f s := by rw [engine, h]; rfl

end Sys2Proof.Proofs
end

section
/-! PROOFS. The commands that act on every member of a train in a field (spec 05 R160, R170, R176, R177, R180). -/

namespace Sys2Proof.Proofs

open Machine Laws Claims

/-! ### One act on each of some tiles -/

/-- What decides how an act on a tile comes out beside the tile: whether tile state is released, and the cycles of the fields. -/
def clocks (s : State) : Boot × (Nat → Nat) := (s.boot, fun f => (getFS s f).cycles)

theorem touch_congr {s u : State} (h : clocks u = clocks s) (i : Nat) (t : Tile) : touch u i t = touch s i t := by
  have hc : (getFS u (tileField i)).cycles = (getFS s (tileField i)).cycles := congrFun (congrArg (·.2) h) (tileField i)
  rw [touch, touch, hc]

/-- `g` makes of tile `i` what `R` says, in every state with the clocks of `s`, and changes neither these nor another tile. -/
def ActsOn (s : State) (g : State → Nat → State) (R : Nat → Tile → Tile → Prop) : Prop :=
  ∀ u i, clocks u = clocks s → clocks (g u i) = clocks s ∧ R i (getT u i) (getT (g u i) i)
    ∧ ∀ j, j ≠ i → getT (g u i) j = getT u j

/-- An act on each of some distinct tiles, in turn, is done on each of them and on no other tile. -/
theorem foldl_actsOn {s : State} {g : State → Nat → State} {R : Nat → Tile → Tile → Prop} (h : ActsOn s g R) {l : List Nat}
    (hl : l.Nodup) {u : State} (hu : clocks u = clocks s) :
    (∀ j ∈ l, R j (getT u j) (getT (l.foldl g u) j)) ∧ ∀ j, j ∉ l → getT (l.foldl g u) j = getT u j := by
  induction l generalizing u with
  | nil => exact ⟨fun j hj => absurd hj List.not_mem_nil, fun _ _ => rfl⟩
  | cons i l ih =>
    obtain ⟨hi, hl⟩ := List.nodup_cons.mp hl
    obtain ⟨hclock, hact, hother⟩ := h u i hu
    obtain ⟨hin, hout⟩ := ih hl hclock
    rw [List.foldl_cons]
    refine ⟨fun j hj => ?_, fun j hj => ?_⟩
    · rcases List.mem_cons.mp hj with rfl | hj
      · rwa [hout j hi]
      · rw [← hother j fun he => hi (he ▸ hj)]
        exact hin j hj
    · rw [hout j fun hjl => hj (List.mem_cons_of_mem _ hjl), hother j fun he => hj (he ▸ List.mem_cons_self)]

/-- The same of an act that waits for the release of tile state, as a function of the tile. -/
theorem foldl_tileAct {s : State} {g : State → Nat → State} {f : Nat → Tile → Tile} (h : ActsOn s g fun i x y => y = f i x)
    {l : List Nat} (hl : l.Nodup) {u : State} (hu : clocks u = clocks s) :
    (∀ j, s.boot.srst = true ∧ j ∈ l → getT (l.foldl (tileAct g) u) j = f j (getT u j))
      ∧ ∀ j, ¬(s.boot.srst = true ∧ j ∈ l) → getT (l.foldl (tileAct g) u) j = getT u j := by
  have hboot : ∀ v, clocks v = clocks s → v.boot = s.boot := fun v hv => congrArg (·.1) hv
  by_cases hs : s.boot.srst = true
  · have hact : ActsOn s (tileAct g) fun i x y => y = f i x := fun v i hv => by
      rw [tileAct, hboot v hv, if_pos hs]
      exact h v i hv
    obtain ⟨hin, hout⟩ := foldl_actsOn hact hl hu
    exact ⟨fun j hj => hin j hj.2, fun j hj => hout j fun hjl => hj ⟨hs, hjl⟩⟩
  · have hact : ActsOn s (tileAct g) fun _ x y => y = x := fun v i hv => by
      rw [tileAct, hboot v hv, if_neg hs]
      exact ⟨hv, rfl, fun _ _ => rfl⟩
    obtain ⟨hin, hout⟩ := foldl_actsOn hact hl hu
    refine ⟨fun j hj => absurd hj.1 hs, fun j _ => ?_⟩
    by_cases hjl : j ∈ l
    · exact hin j hjl
    · exact hout j hjl

theorem actsOn_setT {s : State} {F : State → Nat → Tile} {f : Nat → Tile → Tile}
    (h : ∀ u i, clocks u = clocks s → F u i = f i (getT u i)) : ActsOn s (fun u i => setT u i (F u i)) fun i x y => y = f i x :=
  fun u i hu => ⟨hu, by rw [getT_setT_same, h u i hu], fun _ hj => getT_setT_ne _ _ _ _ hj⟩

/-! ### The members of a train, each once -/

theorem nodup_range_map_add (n a : Nat) : ((List.range n).map (· + a)).Nodup :=
  List.nodup_range.map fun _ _ h => Nat.add_right_cancel h

theorem nodup_membersIn (c : TreeCmd) (f : Nat) : (membersIn c f).Nodup := by
  unfold membersIn
  split
  · exact nodup_range_map_add _ _
  · exact (nodup_range_map_add _ _).filter _

theorem nodup_cmdFields (c : TreeCmd) : (cmdFields c).Nodup := by
  unfold cmdFields trainFields
  split
  · exact List.nodup_singleton _
  · exact nodup_range_map_add _ _

/-- The members of a train, field by field. -/
def allMembers (c : TreeCmd) : List Nat := (cmdFields c).flatMap (membersIn c)

theorem nodup_allMembers (c : TreeCmd) : (allMembers c).Nodup := by
  refine List.nodup_flatMap.mpr ⟨fun f _ => nodup_membersIn c f, (nodup_cmdFields c).imp_of_mem ?_⟩
  intro f g hf hg hne i hif hig
  exact hne (((mem_membersIn hf i).mp hif).2.symm.trans ((mem_membersIn hg i).mp hig).2)

/-! ### The acts -/

theorem clocks_setFS {s : State} {f : Nat} {x : FieldSt} (h : x.cycles = (getFS s f).cycles) : clocks (setFS s f x) = clocks s := by
  refine Prod.ext rfl (funext fun j => ?_)
  show (smGet {} (smSet {} s.fields f x) j).cycles = (getFS s j).cycles
  by_cases hj : j = f
  · rw [hj, smGet_smSet_same, h]
  · rw [smGet_smSet_ne _ _ _ _ _ _ hj, getFS]

theorem handlerCall_keeps (s : State) (c : TreeCmd) : clocks (handlerCall s c) = clocks s ∧ (handlerCall s c).tiles = s.tiles :=
  ⟨foldl_keeps clocks (f := fun u f => setFS u f { getFS u f with handlerDue := true }) (fun _ _ => clocks_setFS rfl) _ s,
    foldl_keeps State.tiles (f := fun u f => setFS u f { getFS u f with handlerDue := true }) (fun _ _ => rfl) _ s⟩

theorem endTests_keeps (s : State) (c : TreeCmd) (fs : List Nat) :
    clocks (endTests s c fs) = clocks s ∧ (endTests s c fs).tiles = s.tiles := by
  unfold endTests
  split
  · exact handlerCall_keeps s c
  · exact ⟨rfl, rfl⟩

theorem switched_congr {s u : State} (h : clocks u = clocks s) (n : Fin 16) (i : Nat) (x : Tile) :
    switched u n i x = switched s n i x := touch_congr h i _

theorem actsOn_switchTile (s : State) (n : Fin 16) : ActsOn s (fun u i => switchTile u n i) fun i x y => y = switched s n i x :=
  actsOn_setT (F := fun u i => switched u n i (getT u i)) fun _ i hu => switched_congr hu n i _

theorem actsOn_switchTile_endTests (s : State) (c : TreeCmd) (n : Fin 16) (fs : Nat → List Nat) :
    ActsOn s (fun u i => switchTile (endTests u c (fs i)) n i) fun i x y => y = switched s n i x := fun u i hu => by
  obtain ⟨hclock, htiles⟩ := endTests_keeps u c (fs i)
  have h := actsOn_switchTile s n (endTests u c (fs i)) i (hclock.trans hu)
  simpa only [getT_congr htiles] using h

/-! ### The commands -/

section
variable {s : State} {id : Nat} {f : Fin 64} {r : TreeRun}

/-- A command that is presented acts on every member in the field, and leaves the field. -/
theorem actHere_acts {code : BitVec 4} (h : presented s id f code r) (act : TreeCmd → State → Nat → State) :
    actHere id f code act s = checkRun (setRun ((membersIn r.cmd f).foldl (act r.cmd) s) id
      (some { r with here := r.here.erase f, acted := true })) id := by
  obtain ⟨hrun, hcmd, htodo, hhere, hearlier, hdown, hlent⟩ := h
  have hno : ¬(r.cmd.cmd ≠ code ∨ (!r.here.contains f.val) = true ∨ r.todo ≠ [] ∨ earlierHere s id f = true) := by
    simp [hcmd, htodo, List.contains_iff_mem.mp hhere, hearlier]
  have hup : (!r.acted && (cmdFields r.cmd).any (fieldDown s r.cmd)) = false := by
    rcases hdown with h | h <;> simp [h]
  simp only [actHere, hrun, if_neg hno, hup, hlent, Bool.false_eq_true, if_false]

theorem getT_checkRun (s : State) (id i : Nat) : getT (checkRun s id) i = getT s i := getT_congr (startsOnly_checkRun s id).tiles i

/-- A command that acts by `g` where tile state is released does `f` to every member in the field, and to no other tile. -/
theorem tilesBy_actHere {code : BitVec 4} (h : presented s id f code r) {act : TreeCmd → State → Nat → State}
    {g : State → Nat → State} (hact : act r.cmd = tileAct g) {F : Nat → Tile → Tile} (hg : ActsOn s g fun i x y => y = F i x)
    (hmem : ∀ c u i, queueMem (act c u i) = queueMem u) :
    tilesBy s (actHere id f code act s) (acting s r.cmd f) F := by
  obtain ⟨hin, hout⟩ := foldl_tileAct hg (nodup_membersIn r.cmd f) (rfl : clocks s = clocks s)
  refine ⟨fun i hi => ?_, fun i hi => ?_, mem_of_queueMem (queueMem_actHere hmem id f code s)⟩
  · rw [actHere_acts h, getT_checkRun, hact]
    exact hin i hi
  · rw [actHere_acts h, getT_checkRun, hact]
    exact hout i hi

theorem switchImm_switches (h : presented s id f 1 r) :
    ∃ t : State, exec (.switchImm id f) s = .next t ∧ tilesBy s t (acting s r.cmd f) (switched s r.cmd.ctx.toFin) :=
  ⟨_, rfl, tilesBy_actHere h rfl (actsOn_switchTile_endTests s r.cmd _ fun i => if i = (membersIn r.cmd f).headD i then [f.val] else [])
    fun c => queueMem_tileAct fun u i => by simp⟩

theorem switchBar_arms (h : presented s id f 2 r) :
    ∃ t : State, exec (.switchBar id f) s = .next t
      ∧ tilesBy s t (acting s r.cmd f) (fun i x => touch s i { x with barArm := some r.cmd.ctx.toFin }) :=
  ⟨_, rfl, tilesBy_actHere h rfl (actsOn_setT fun _ i hu => touch_congr hu i _) fun c => queueMem_tileAct fun u i => by simp⟩

theorem armCmd_arms (h : presented s id f 3 r) :
    ∃ t : State, exec (.armCmd id f) s = .next t ∧ tilesBy s t (acting s r.cmd f) (fun _ x => { x with arm := true }) :=
  ⟨_, rfl, tilesBy_actHere h rfl (actsOn_setT fun _ _ _ => rfl) fun c => queueMem_tileAct fun u i => by simp⟩

theorem disarmCmd_disarms (h : presented s id f 4 r) :
    ∃ t : State, exec (.disarmCmd id f) s = .next t ∧ tilesBy s t (acting s r.cmd f) (fun _ x => { x with arm := false }) :=
  ⟨_, rfl, tilesBy_actHere h rfl (actsOn_setT fun _ _ _ => rfl) fun c => queueMem_tileAct fun u i => by simp⟩

end

/-! ### INVALIDATE -/

/-- FMT 0 in slot `k` of tile `i`. -/
def blankSlot (i : Nat) (u : State) (k : Nat) : State := storeFrame u i k (clearFmt (slotFrame (getT u i) k))

/-- `y` is `x` with FMT 0 in the slots of `l`, as far as its slots, its context, its static frame and its registers go. -/
structure Blanked (l : List Nat) (x y : Tile) : Prop where
  slots : ∀ k, smGet 0 y.slots k = if k ∈ l then clearFmt (smGet 0 x.slots k) else smGet 0 x.slots k
  cur : y.cur = x.cur
  static : y.static = x.static
  lreg : y.lreg = x.lreg

theorem clearFmt_eq_and (c : Frame) : clearFmt c = c &&& BitVec.ofNat 256 (2 ^ 252 - 1) := by
  apply BitVec.eq_of_toNat_eq
  rw [clearFmt, BitVec.toNat_ofNat, BitVec.toNat_and, BitVec.toNat_ofNat,
    Nat.mod_eq_of_lt (show 2 ^ 252 - 1 < 2 ^ 256 by decide), Nat.and_two_pow_sub_one_eq_mod]
  exact Nat.mod_eq_of_lt ((Nat.mod_lt _ (by decide)).trans (by decide))

theorem clocks_storeFrame {i k : Nat} (hk : k < 16) (u : State) (c : Frame) : clocks (storeFrame u i k c) = clocks u := by
  rw [storeFrame, if_pos hk]
  rfl

theorem getT_storeFrame_other {i j k : Nat} (hk : k < 16) (hj : j ≠ i) (u : State) (c : Frame) :
    getT (storeFrame u i k c) j = getT u j := by
  rw [storeFrame, if_pos hk]
  exact getT_setT_ne _ _ _ _ hj

theorem blanked_blankSlot {i k : Nat} (hk : k < 16) (u : State) : Blanked [k] (getT u i) (getT (blankSlot i u k) i) := by
  have hslot : ∀ j, smGet 0 (smSet 0 (getT u i).slots k (clearFmt (slotFrame (getT u i) k))) j
      = if j ∈ [k] then clearFmt (smGet 0 (getT u i).slots j) else smGet 0 (getT u i).slots j := fun j => by
    by_cases hj : j = k
    · rw [hj, smGet_smSet_same, if_pos (List.mem_singleton_self k), slotFrame, if_pos hk]
    · rw [smGet_smSet_ne _ _ _ _ _ _ hj, if_neg (by simpa using hj)]
  rw [blankSlot, getT_storeFrame_ctx hk]
  split
  · rw [enterCtx_eq]
    exact ⟨hslot, rfl, rfl, rfl⟩
  · exact ⟨hslot, rfl, rfl, rfl⟩

/-- FMT 0 in each of some slots of tile `i`. -/
theorem foldl_blankSlot (i : Nat) {l : List Nat} (hl : l.Nodup) (h16 : ∀ k ∈ l, k < 16) (u : State) :
    clocks (l.foldl (blankSlot i) u) = clocks u ∧ Blanked l (getT u i) (getT (l.foldl (blankSlot i) u) i)
      ∧ ∀ j, j ≠ i → getT (l.foldl (blankSlot i) u) j = getT u j := by
  induction l generalizing u with
  | nil => exact ⟨rfl, ⟨fun _ => by simp, rfl, rfl, rfl⟩, fun _ _ => rfl⟩
  | cons k l ih =>
    obtain ⟨hkl, hl⟩ := List.nodup_cons.mp hl
    have hk : k < 16 := h16 k List.mem_cons_self
    obtain ⟨hclock, hblank, hother⟩ := ih hl (fun j hj => h16 j (List.mem_cons_of_mem _ hj)) (blankSlot i u k)
    have hfirst := blanked_blankSlot (i := i) hk u
    refine ⟨hclock.trans (clocks_storeFrame hk u _), ⟨fun j => ?_, hblank.cur.trans hfirst.cur, hblank.static.trans hfirst.static,
      hblank.lreg.trans hfirst.lreg⟩, fun j hj => (hother j hj).trans (getT_storeFrame_other hk hj u _)⟩
    rw [List.foldl_cons, hblank.slots, hfirst.slots]
    by_cases hj : j = k
    · simp [hj, hkl]
    · simp [hj]

/-- The slots that an INVALIDATE names. -/
def namedSlots (c : TreeCmd) : List Nat := (List.range 16).filter (bit c.param.toNat)

theorem mem_namedSlots (c : TreeCmd) (k : Fin 16) : k.val ∈ namedSlots c ↔ c.param.getLsbD k = true := by
  simp [namedSlots, bit, k.isLt, BitVec.getLsbD, Nat.testBit_eq_decide_div_mod_eq]

theorem actsOn_blank (s : State) (c : TreeCmd) :
    ActsOn s (fun u i => (namedSlots c).foldl (blankSlot i) u) fun _ => Blanked (namedSlots c) := fun u i hu => by
  have h16 : ∀ k ∈ namedSlots c, k < 16 := fun k hk => List.mem_range.mp (List.mem_filter.mp hk).1
  obtain ⟨hclock, hblank, hother⟩ := foldl_blankSlot i (List.nodup_range.filter _) h16 u
  exact ⟨hclock.trans hu, hblank, hother⟩

theorem invalidate_blanks {s : State} {id : Nat} {f : Fin 64} {r : TreeRun} (h : presented s id f 6 r) :
    ∃ t : State, exec (.invalidate id f) s = .next t
      ∧ (∀ i ∈ membersIn r.cmd f, Blanked (namedSlots r.cmd) (getT s i) (getT t i))
      ∧ (∀ i, i ∉ membersIn r.cmd f → getT t i = getT s i) ∧ t.mem = s.mem := by
  refine ⟨opInvalidate id f s, rfl, ?_⟩
  obtain ⟨hin, hout⟩ := foldl_actsOn (actsOn_blank s r.cmd) (nodup_membersIn r.cmd f) (rfl : clocks s = clocks s)
  have ht : ∀ i, getT (opInvalidate id f s) i
      = getT ((membersIn r.cmd f).foldl (fun u i => (namedSlots r.cmd).foldl (blankSlot i) u) s) i := fun i => by
    rw [opInvalidate, actHere_acts h, getT_checkRun]
    rfl
  exact ⟨fun i hi => ht i ▸ hin i hi, fun i hi => ht i ▸ hout i hi, mem_of_queueMem (queueMem_opInvalidate id f s)⟩

/-! ### BARRIER_GO -/

/-- The go switches every member of the train, whichever its field, and no other tile. -/
theorem getT_goAll (s : State) (c : TreeCmd) (i : Nat) :
    (s.boot.srst = true ∧ i ∈ allMembers c → getT (goAll s c) i = switched s c.ctx.toFin i (getT s i))
      ∧ (¬(s.boot.srst = true ∧ i ∈ allMembers c) → getT (goAll s c) i = getT s i) := by
  obtain ⟨hclock, htiles⟩ := endTests_keeps s c (cmdFields c)
  obtain ⟨hin, hout⟩ := foldl_tileAct (actsOn_switchTile s c.ctx.toFin) (nodup_allMembers c) hclock
  have hgo : goAll s c = (allMembers c).foldl (tileAct fun u i => switchTile u c.ctx.toFin i) (endTests s c (cmdFields c)) :=
    (List.foldl_flatMap ..).symm
  rw [hgo, ← getT_congr htiles i]
  exact ⟨hin i, hout i⟩

theorem exists_acting_iff (s : State) (c : TreeCmd) (i : Nat) :
    (∃ f ∈ cmdFields c, acting s c f i) ↔ s.boot.srst = true ∧ i ∈ allMembers c := by
  simp only [acting, allMembers, List.mem_flatMap]
  exact ⟨fun ⟨f, hf, hs, hi⟩ => ⟨hs, f, hf, hi⟩, fun ⟨hs, f, hf, hi⟩ => ⟨f, hf, hs, hi⟩⟩

theorem barrierGo_switches {s : State} {id : Nat} {r : TreeRun} (hawake : s.asleep = false) (hrun : getRun s id = some r)
    (hphase : r.cmd.phase = 0) (hready : barReady s r = true) (hlent : trainLent s r.cmd = false) :
    ∃ t : State, exec (.barrierGo id) s = .next t ∧ getRun t id = none
      ∧ tilesBy s t (fun i => ∃ f ∈ cmdFields r.cmd, acting s r.cmd f i) (switched s r.cmd.ctx.toFin) := by
  have hgo : opBarrierGo id s = endRun (goAll s r.cmd) id .ok 0 := by simp [opBarrierGo, hrun, hphase, hready, hlent]
  have ht : ∀ i, getT (opBarrierGo id s) i = getT (goAll s r.cmd) i := fun i => by
    rw [hgo]
    exact getT_congr (startsOnly_endRun ..).tiles i
  refine ⟨opBarrierGo id s, congrArg Host.Outcome.next (engine_awake hawake _), by rw [hgo, getRun_endRun],
    fun i hi => ?_, fun i hi => ?_, mem_of_queueMem (queueMem_opBarrierGo id s)⟩
  · rw [ht]
    exact (getT_goAll s r.cmd i).1 ((exists_acting_iff s r.cmd i).mp hi)
  · rw [ht]
    exact (getT_goAll s r.cmd i).2 fun h => hi ((exists_acting_iff s r.cmd i).mpr h)

/-- Settles O26: each command acts by one change on each member in the field, which are distinct tiles, and what follows it in the
model (the handler call before, the end of the command after) touches no tile. -/
theorem trainSwitches : Obligations.TrainSwitches := by
  refine ⟨fun _ _ _ _ => switchImm_switches, fun _ _ _ _ => switchBar_arms, fun _ _ _ _ => armCmd_arms,
    fun _ _ _ _ => disarmCmd_disarms, fun s id f r h => ?_, fun _ _ _ => barrierGo_switches⟩
  obtain ⟨t, hexec, hin, hout, hmem⟩ := invalidate_blanks h
  refine ⟨t, hexec, fun i k => ?_, fun i => ?_, fun i => hout i, hmem⟩
  · by_cases hi : i.val ∈ membersIn r.cmd f
    · simp only [(hin i hi).slots, mem_namedSlots, clearFmt_eq_and, hi, true_and]
    · rw [hout i hi, if_neg fun h => hi h.1]
  · by_cases hi : i.val ∈ membersIn r.cmd f
    · exact ⟨(hin i hi).cur, (hin i hi).static, (hin i hi).lreg⟩
    · rw [hout i hi]
      exact ⟨rfl, rfl, rfl⟩

end Sys2Proof.Proofs
end

section
/-! PROOFS. The root of the command tree admits and refuses commands, and the tree delivers them (spec 05 R163 to R174). -/

namespace Sys2Proof.Proofs

open Machine Laws Claims

/-! ### What the root's tests depend on -/

theorem any_smIns {V : Type} {p : Nat × V → Bool} {k : Nat} (hp : ∀ v, p (k, v) = false) (m : SMap V) (v : V) :
    (smIns m k v).any p = m.any p := by
  induction m with
  | nil => simp [smIns, hp]
  | cons x m ih =>
    obtain ⟨a, w⟩ := x
    rw [smIns]
    split
    · next h => simp [← h, hp]
    · split
      · simp [hp]
      · simp [ih]

/-- A command's own place at the root does not hold it up (spec 05 R172). -/
theorem rootBlocked_setRun (s : State) (id : Nat) (r : TreeRun) (c : TreeCmd) :
    rootBlocked (setRun s id (some r)) id c = rootBlocked s id c := by
  have hruns : (setRun s id (some r)).tree.runs = smIns s.tree.runs id (some r) := by
    rw [setRun, smSet, if_neg (Option.some_ne_none r)]
  unfold rootBlocked runList
  rw [hruns, List.any_filterMap, List.any_filterMap, any_smIns]
  intro v
  cases v <;> simp

theorem rootBlocked_congr {s t : State} (h : t.tree.runs = s.tree.runs) (id : Nat) (c : TreeCmd) :
    rootBlocked t id c = rootBlocked s id c := by rw [rootBlocked, rootBlocked, runList, runList, h]

theorem rd_congr {s t : State} (h : t.regs = s.regs) (o : Nat) (f : Fld) : rd t o f = rd s o f := by rw [rd, rd, getR, getR, h]

theorem devId_congr {s t : State} (h : t.regs = s.regs) : devId t = devId s := by rw [devId, devId, rd_congr h]

theorem decideAccess_congr {s t : State} (h : t.regs = s.regs) (k : Key) (remote : Bool) (ns : List (Nat × Nat)) :
    decideAccess t k remote ns = decideAccess s k remote ns := by
  have ht : decideAccess t k remote ns = decideAccess { s with regs := t.regs } k remote ns := rfl
  rw [ht, h]

theorem fieldDown_congr {s t : State} (h : t.regs = s.regs) (c : TreeCmd) (f : Nat) : fieldDown t c f = fieldDown s c f := by
  simp only [fieldDown, pwrState, rdB, rd_congr h]

theorem firstRefusal_congr {s t : State} {c : TreeCmd} (h : t.regs = s.regs) (hremote : cmdRemote t c = cmdRemote s c) :
    firstRefusal t c = firstRefusal s c := by
  simp only [firstRefusal, hremote, decideAccess_congr h, fieldDown_congr h]

/-- What a key may do from afar, it may do from the device itself (spec 09 R337). -/
theorem decideAccess_local {s : State} {k : Key} {ns : List (Nat × Nat)} (h : decideAccess s k true ns = .grant) :
    decideAccess s k false ns = .grant := by
  unfold decideAccess preCheck at *
  split_ifs at * <;> simp_all

theorem firstRefusal_eq_none_iff (s : State) (c : TreeCmd) : firstRefusal s c = none
    ↔ ∀ f ∈ cmdFields c, decideAccess s c.key (cmdRemote s c) [(f, cmdPerm c)] = .grant ∧ fieldDown s c f = false := by
  rw [firstRefusal, List.findSome?_eq_none_iff]
  refine forall₂_congr fun f _ => ?_
  cases decideAccess s c.key (cmdRemote s c) [(f, cmdPerm c)] <;> simp

/-- A command whose place at the root is its own copy's issuer's was no less remote before. -/
theorem cmdRemote_of_setRun {s t : State} {c : TreeCmd} {id : Nat} {r : TreeRun} (hruns : t.tree.runs = s.tree.runs) (hc : r.cmd = c)
    (h : cmdRemote (setRun t id (some r)) c = true) : cmdRemote s c = true := by
  cases hi : c.issuer with
  | expansion x =>
    have hget : getRun t x = getRun s x := by rw [getRun, getRun, hruns]
    by_cases hx : x = id
    · subst hx
      simp [cmdRemote, hi, getRun_setRun_same, hc] at h
    · simpa [cmdRemote, hi, getRun_setRun_ne t hx, hget] using h
  | fabric => simp [cmdRemote, hi]
  | ring | tcmd | engine => simp [cmdRemote, hi] at h

theorem cmdRemote_of_fromRing {s t : State} {c : TreeCmd} {rr d : Nat} (h : fromRing s c rr d) : cmdRemote t c = false := by
  simp [cmdRemote, h.1]

/-- A command that every covered field accepts is accepted once it has its place. -/
theorem firstRefusal_setRun {s t : State} {c : TreeCmd} {id : Nat} {r : TreeRun} (hregs : t.regs = s.regs)
    (hruns : t.tree.runs = s.tree.runs) (hc : r.cmd = c) (h : firstRefusal s c = none) :
    firstRefusal (setRun t id (some r)) c = none := by
  rw [firstRefusal_eq_none_iff] at *
  intro f hf
  obtain ⟨hgrant, hdown⟩ := h f hf
  have hset : (setRun t id (some r)).regs = s.regs := hregs
  rw [decideAccess_congr hset, fieldDown_congr hset]
  refine ⟨?_, hdown⟩
  cases ht : cmdRemote (setRun t id (some r)) c with
  | true => rwa [cmdRemote_of_setRun hruns hc ht] at hgrant
  | false =>
    cases hs : cmdRemote s c with
    | true => exact decideAccess_local (hs ▸ hgrant)
    | false => rwa [hs] at hgrant

/-! ### Wake requests -/

theorem pwrStatus_ne {f g : Nat} (h : f ≠ g) : A.PWR_STATUS f ≠ A.PWR_STATUS g := by
  unfold A.PWR_STATUS
  omega

theorem pwrState_wakeReq (s : State) (f g : Nat) : pwrState (wakeReq s g) f = pwrState s f := by
  unfold wakeReq
  split
  · by_cases h : f = g
    · rw [pwrState, pwrState, h, rd, wr, getR_setR_same, getFld_setFld_ne (by decide), rd]
    · exact rd_wr_reg_ne (pwrStatus_ne h) _ _ _ _
  · rfl

theorem wakePending_wakeReq_ne (s : State) {f g : Nat} (h : f ≠ g) :
    rd (wakeReq s g) (A.PWR_STATUS f) F.PWR_STATUS_WAKE_PENDING = rd s (A.PWR_STATUS f) F.PWR_STATUS_WAKE_PENDING := by
  unfold wakeReq
  split
  · exact rd_wr_reg_ne (pwrStatus_ne h) _ _ _ _
  · rfl

/-- A wake request of each of some fields is noted in every one that does not run, and stays noted. -/
theorem wakePending_foldl {f : Nat} (l : List Nat) {s : State} (hoff : [1, 2, 3, 4, 5, 6].contains (pwrState s f) = true)
    (h : f ∈ l ∨ rd s (A.PWR_STATUS f) F.PWR_STATUS_WAKE_PENDING = 1) :
    rd (l.foldl wakeReq s) (A.PWR_STATUS f) F.PWR_STATUS_WAKE_PENDING = 1 := by
  induction l generalizing s with
  | nil => exact h.resolve_left List.not_mem_nil
  | cons g l ih =>
    refine ih (s := wakeReq s g) (by rwa [pwrState_wakeReq]) ?_
    by_cases hfg : f = g
    · subst hfg
      exact .inr (wakePending_wakeReq hoff)
    · rw [wakePending_wakeReq_ne s hfg]
      exact h.imp_left fun hf => (List.mem_cons.mp hf).resolve_left hfg

/-! ### ROOT_ADMIT -/

/-- The state that takes command `c` in: its place at the root is the next. -/
def placed (s : State) (c : TreeCmd) : State :=
  setRun { s with tree := { s.tree with next := s.tree.next + 1 } } s.tree.next (some { cmd := c })

section
variable {s s1 : State} {src : Nat} {c : TreeCmd}

/-- The source gives up its head, and nothing that decides on the command changes. -/
theorem takeSrc_keeps (h : takeSrc s src = some (c, s1)) :
    s1.host = s.host ∧ s1.regs = s.regs ∧ s1.tree.runs = s.tree.runs ∧ s1.tree.next = s.tree.next := by
  unfold takeSrc at h
  dsimp only at h
  split_ifs at h <;> split at h <;> cases h <;> exact ⟨rfl, rfl, rfl, rfl⟩

theorem rootBlocked_placed (h : takeSrc s src = some (c, s1)) : rootBlocked (placed s1 c) s1.tree.next c = rootBlocked s s.tree.next c := by
  obtain ⟨-, -, hruns, hnext⟩ := takeSrc_keeps h
  rw [placed, rootBlocked_setRun, hnext]
  exact rootBlocked_congr hruns _ _

/-- A well-formed command for this device is taken in (spec 05 R171, R172). -/
theorem opRootAdmit_admits (hturn : rootTurn s (srcGroup src) = true) (htake : takeSrc s src = some (c, s1)) (hok : cmdOk c = true)
    (hpl : 16 ≤ c.pl.toNat) (hdev : cmdDev c = devId s) : opRootAdmit src s = admitCmd s1 c := by
  obtain ⟨-, hregs, -, -⟩ := takeSrc_keeps htake
  have hdev1 : cmdDev c = devId s1 := hdev.trans (devId_congr hregs).symm
  simp [opRootAdmit, hturn, htake, hok, Nat.not_lt.mpr hpl, hdev1]

theorem opRootAdmit_malformed (hturn : rootTurn s (srcGroup src) = true) (htake : takeSrc s src = some (c, s1))
    (hok : cmdOk c = false) : opRootAdmit src s = treeRefuse s1 c .badDescriptor false := by
  simp [opRootAdmit, hturn, htake, hok, refuseCmd]

theorem admitCmd_eq (hpl : 16 ≤ c.pl.toNat) (s : State) : admitCmd s c
    = if rootBlocked (placed s c) s.tree.next c then placed s c
      else if c.cmd = 4 ∧ (firstRefusal (placed s c) c).isNone then disarmCancels (rootStart (placed s c) s.tree.next { cmd := c }) c
      else rootStart (placed s c) s.tree.next { cmd := c } := if_neg (Nat.not_lt.mpr hpl)

theorem getRun_placed (s : State) (c : TreeCmd) : getRun (placed s c) s.tree.next = some { cmd := c } := getRun_setRun_same _ _ _

/-- An accepted command goes on its way to every field that it covers, and wakes those that do not run (spec 05 R163, R165). -/
theorem rootStart_starts {u : State} {id : Nat} {r : TreeRun} (h : firstRefusal u r.cmd = none) :
    getRun (rootStart u id r) id = some { r with waiting := false, todo := cmdFields r.cmd }
      ∧ (rootStart u id r).tree.next = u.tree.next
      ∧ (r.cmd.cmd ≠ 8 → r.cmd.cmd ≠ 9 → ∀ f ∈ cmdFields r.cmd, [1, 2, 3, 4, 5, 6].contains (pwrState u f) = true →
          rd (rootStart u id r) (A.PWR_STATUS f) F.PWR_STATUS_WAKE_PENDING = 1) := by
  simp only [rootStart, h]
  split
  · next hwake => exact ⟨getRun_setRun_same _ _ _, rfl, fun h8 h9 => absurd hwake (not_or.mpr ⟨h8, h9⟩)⟩
  · have htree : (((cmdFields r.cmd).foldl wakeReq (setRun u id (some { r with waiting := false, todo := cmdFields r.cmd }))).tree)
        = (setRun u id (some { r with waiting := false, todo := cmdFields r.cmd })).tree :=
      congrArg (·.2.1) (foldl_keeps tilesTreeHost tilesTreeHost_wakeReq _ _)
    exact ⟨(getRun_congr htree id).trans (getRun_setRun_same _ _ _), (congrArg TreeSt.next htree).trans rfl,
      fun _ _ f hf hoff => wakePending_foldl _ hoff (.inl hf)⟩

theorem rootAdmit_starts (hawake : s.asleep = false) (hturn : rootTurn s (srcGroup src) = true)
    (htake : takeSrc s src = some (c, s1)) (hok : cmdOk c = true) (hpl : 16 ≤ c.pl.toNat) (hdev : cmdDev c = devId s)
    (hcmd : c.cmd ≠ 4) (hfree : rootBlocked s s.tree.next c = false) (hyes : firstRefusal s c = none) :
    ∃ t : State, exec (.rootAdmit src) s = .next t ∧ t.tree.next = s.tree.next + 1
      ∧ getRun t s.tree.next = some { cmd := c, waiting := false, todo := cmdFields c }
      ∧ (c.cmd ≠ 8 → c.cmd ≠ 9 → ∀ f ∈ cmdFields c, [1, 2, 3, 4, 5, 6].contains (pwrState s f) = true →
          rd t (A.PWR_STATUS f) F.PWR_STATUS_WAKE_PENDING = 1) ∧ t.mem = s.mem := by
  obtain ⟨-, hregs, hruns, hnext⟩ := takeSrc_keeps htake
  have hstart : opRootAdmit src s = rootStart (placed s1 c) s1.tree.next { cmd := c } := by
    rw [opRootAdmit_admits hturn htake hok hpl hdev, admitCmd_eq hpl, rootBlocked_placed htake, hfree, if_neg Bool.false_ne_true,
      if_neg fun h => hcmd h.1]
  have hyes1 : firstRefusal (placed s1 c) c = none := firstRefusal_setRun (t := { s1 with tree := _ }) hregs hruns rfl hyes
  obtain ⟨hrun, hnext1, hwake⟩ := rootStart_starts (id := s1.tree.next) (r := { cmd := c }) hyes1
  refine ⟨opRootAdmit src s, congrArg Host.Outcome.next (engine_awake hawake _), ?_, ?_, fun h8 h9 f hf hoff => ?_,
    mem_of_queueMem (queueMem_opRootAdmit src s)⟩
  · rw [hstart, hnext1, ← hnext]
    rfl
  · rw [hstart, ← hnext, hrun]
  · rw [hstart]
    refine hwake h8 h9 f hf ?_
    rwa [pwrState, rd_congr (t := placed s1 c) hregs]

theorem rootAdmit_waits (hawake : s.asleep = false) (hturn : rootTurn s (srcGroup src) = true)
    (htake : takeSrc s src = some (c, s1)) (hok : cmdOk c = true) (hpl : 16 ≤ c.pl.toNat) (hdev : cmdDev c = devId s)
    (hheld : rootBlocked s s.tree.next c = true) :
    exec (.rootAdmit src) s = .next (setRun { s1 with tree := { s1.tree with next := s1.tree.next + 1 } } s.tree.next
      (some { cmd := c })) := by
  obtain ⟨-, -, -, hnext⟩ := takeSrc_keeps htake
  refine congrArg Host.Outcome.next ((engine_awake hawake _).trans ?_)
  rw [opRootAdmit_admits hturn htake hok hpl hdev, admitCmd_eq hpl, rootBlocked_placed htake, if_pos hheld, placed, hnext]

theorem rootAdmit_malformed {rr d : Nat} (hawake : s.asleep = false) (hturn : rootTurn s (srcGroup src) = true)
    (htake : takeSrc s src = some (c, s1)) (hok : cmdOk c = false) (hring : fromRing s c rr d) :
    ∃ t : State, exec (.rootAdmit src) s = .next t ∧ completed t rr d .badDescriptor 0 ∧ t.tree.runs = s.tree.runs := by
  obtain ⟨hhost, -, hruns, -⟩ := takeSrc_keeps htake
  refine ⟨opRootAdmit src s, congrArg Host.Outcome.next (engine_awake hawake _), ?_, ?_⟩ <;>
    rw [opRootAdmit_malformed hturn htake hok]
  · exact completed_treeRefuse (fromRing_congr hhost hring) _ _
  · rw [(answersOnly_treeRefuse s1 c .badDescriptor false).tree, hruns]

theorem rootAdmit_down {rr d : Nat} (hawake : s.asleep = false) (hturn : rootTurn s (srcGroup src) = true)
    (htake : takeSrc s src = some (c, s1)) (hok : cmdOk c = true) (hpl : 16 ≤ c.pl.toNat) (hdev : cmdDev c = devId s)
    (hfree : rootBlocked s s.tree.next c = false) (hdown : firstRefusal s c = some (.domainDown, 0, 0))
    (hring : fromRing s c rr d) :
    ∃ t : State, exec (.rootAdmit src) s = .next t ∧ completed t rr d .domainDown 0 ∧ getRun t s.tree.next = none := by
  obtain ⟨hhost, hregs, -, hnext⟩ := takeSrc_keeps htake
  have hdown1 : firstRefusal (placed s1 c) c = some (.domainDown, 0, 0) :=
    (firstRefusal_congr (s := s) (t := placed s1 c) hregs
      ((cmdRemote_of_fromRing hring).trans (cmdRemote_of_fromRing hring).symm)).trans hdown
  have hrefuse : opRootAdmit src s = treeRefuse (setRun (placed s1 c) s1.tree.next none) c .domainDown false := by
    rw [opRootAdmit_admits hturn htake hok hpl hdev, admitCmd_eq hpl, rootBlocked_placed htake, hfree, if_neg Bool.false_ne_true,
      if_neg fun h => by simp [hdown1] at h]
    simp only [rootStart, hdown1, refuseCmd]
    exact if_neg (by decide)
  have hring1 : fromRing (setRun (placed s1 c) s1.tree.next none) c rr d := fromRing_congr (s := s) hhost hring
  refine ⟨opRootAdmit src s, congrArg Host.Outcome.next (engine_awake hawake _), ?_, ?_⟩ <;> rw [hrefuse]
  · exact completed_treeRefuse hring1 _ _
  · rw [getRun_congr (answersOnly_treeRefuse _ _ _ _).tree, ← hnext, getRun_setRun_same]

end

/-! ### COMMAND_DELIVERY -/

section
variable {s : State} {id : Nat} {f : Fin 64} {r : TreeRun}

/-- A command that may go on to field `f`: it has been admitted, is to reach the field, and none is before it. -/
structure OnWay (s : State) (id : Nat) (f : Fin 64) (r : TreeRun) : Prop where
  run : getRun s id = some r
  waiting : r.waiting = false
  todo : r.todo.contains f.val = true
  noWake : [8, 9].contains r.cmd.cmd.toNat = false
  first : earlierTo s id f = false

theorem opCommandDelivery_eq (h : OnWay s id f r) : opCommandDelivery id f s
    = if fieldDown s r.cmd f then refuseOnWay s id r
      else if r.cmd.cmd = 0 then (if queryable s f then s else wakeReq s f)
      else if !fieldRuns s f then wakeReq s f
      else if (membersIn r.cmd f).any (lentTile s) then s
      else if r.cmd.cmd = 5 then
        (if r.todo.erase f.val ≠ [] then setRun s id (some { r with todo := r.todo.erase f.val, here := r.here ++ [f.val] })
        else if (allMembers r.cmd).any (fun i => lentTile s i || (getT s i).inject.isSome) || (cmdFields r.cmd).any (earlierHere s id)
        then s
        else setRun ((allMembers r.cmd).foldl (fun s i => setT s i { getT s i with inject := some (cmdCtx r.cmd, id) }) s) id
          (some { r with todo := [], here := [], left := allMembers r.cmd }))
      else setRun s id (some { r with todo := r.todo.erase f.val, here := r.here ++ [f.val] }) := by
  obtain ⟨hrun, hwaiting, htodo, hcmd, hfirst⟩ := h
  have hgo : ¬((r.waiting || !r.todo.contains f.val || [8, 9].contains r.cmd.cmd.toNat || earlierTo s id f) = true) := by
    rw [hwaiting, htodo, hcmd, hfirst]
    decide
  simp only [opCommandDelivery, hrun, if_neg hgo]
  rfl

theorem commandDelivery_presents (hawake : s.asleep = false) (h : OnWay s id f r) (hquery : r.cmd.cmd ≠ 0)
    (hinject : r.cmd.cmd = 5 → r.todo.erase f.val ≠ []) (hup : fieldDown s r.cmd f = false) (hruns : fieldRuns s f = true)
    (hlent : (membersIn r.cmd f).any (lentTile s) = false) :
    exec (.commandDelivery id f) s
      = .next (setRun s id (some { r with todo := r.todo.erase f.val, here := r.here ++ [f.val] })) := by
  refine congrArg Host.Outcome.next ((engine_awake hawake _).trans ?_)
  rw [opCommandDelivery_eq h, hup, hruns, hlent, if_neg Bool.false_ne_true, if_neg hquery]
  simp only [Bool.not_true, Bool.false_eq_true, if_false]
  by_cases h5 : r.cmd.cmd = 5
  · rw [if_pos h5, if_pos (hinject h5)]
  · rw [if_neg h5]

/-- The last field's delivery of an INJECT gives every member of the train its injection (spec 05 R186). -/
theorem commandDelivery_injects (hawake : s.asleep = false) (h : OnWay s id f r) (hlast : r.todo = [f.val]) (hcmd : r.cmd.cmd = 5)
    (hup : fieldDown s r.cmd f = false) (hruns : fieldRuns s f = true) (hlent : (membersIn r.cmd f).any (lentTile s) = false)
    (hnone : (allMembers r.cmd).any (fun i => lentTile s i || (getT s i).inject.isSome) = false)
    (hfirst : (cmdFields r.cmd).any (earlierHere s id) = false) :
    ∃ t : State, exec (.commandDelivery id f) s = .next t
      ∧ getRun t id = some { r with todo := [], here := [], left := allMembers r.cmd }
      ∧ tilesBy s t (fun i => i ∈ allMembers r.cmd) (fun _ x => { x with inject := some (r.cmd.ctx.toFin, id) }) := by
  have hgive : ActsOn s (fun u i => setT u i { getT u i with inject := some (r.cmd.ctx.toFin, id) })
      fun _ x y => y = { x with inject := some (r.cmd.ctx.toFin, id) } := actsOn_setT fun _ _ _ => rfl
  have hop : opCommandDelivery id f s
      = setRun ((allMembers r.cmd).foldl (fun s i => setT s i { getT s i with inject := some (r.cmd.ctx.toFin, id) }) s) id
        (some { r with todo := [], here := [], left := allMembers r.cmd }) := by
    rw [opCommandDelivery_eq h, hup, hruns, hlent, hnone, hfirst, hcmd, hlast]
    simp
    rfl
  obtain ⟨hin, hout⟩ := foldl_actsOn hgive (nodup_allMembers r.cmd) (rfl : clocks s = clocks s)
  refine ⟨opCommandDelivery id f s, congrArg Host.Outcome.next (engine_awake hawake _), by rw [hop, getRun_setRun_same],
    fun i hi => ?_, fun i hi => ?_, mem_of_queueMem (queueMem_opCommandDelivery id f s)⟩ <;> rw [hop]
  · exact hin i hi
  · exact hout i hi

theorem commandDelivery_refuses (hawake : s.asleep = false) (h : OnWay s id f r) (hdown : fieldDown s r.cmd f = true) :
    ∃ t : State, exec (.commandDelivery id f) s = .next t ∧ getRun t id = none ∧ t.tiles = s.tiles ∧ t.mem = s.mem := by
  have hop : opCommandDelivery id f s = refuseOnWay s id r := by rw [opCommandDelivery_eq h, if_pos hdown]
  have hanswer := answersOnly_treeRefuse (setRun s id none) r.cmd .domainDown false
  have hscan := startsOnly_rootScan (treeRefuse (setRun s id none) r.cmd .domainDown false)
  refine ⟨opCommandDelivery id f s, congrArg Host.Outcome.next (engine_awake hawake _), ?_, ?_,
    mem_of_queueMem (queueMem_opCommandDelivery id f s)⟩ <;> rw [hop, refuseOnWay]
  · exact hscan.gone id (by rw [getRun_congr hanswer.tree, getRun_setRun_same])
  · rw [hscan.tiles, hanswer.tiles]
    rfl

end

/-- Settles O25: the tests of the root read nothing that taking the command in changes, and a refused command leaves answers only. -/
theorem rootAdmits : Obligations.RootAdmits := by
  refine ⟨fun _ _ _ _ => rootAdmit_starts, fun _ _ _ _ => rootAdmit_waits, fun _ _ _ _ _ _ => rootAdmit_malformed,
    fun _ _ _ _ _ _ => rootAdmit_down, fun s id f r hawake hrun hwaiting htodo hcmd hinject hfirst hup hruns hlent => ?_,
    fun s id f r hawake hrun hwaiting htodo hcmd hfirst hup hruns hlent hnone hhere => ?_,
    fun s id f r hawake hrun hwaiting htodo hcmd hfirst hdown => ?_⟩
  · obtain ⟨hzero, hnoWake⟩ : (r.cmd.cmd.toNat == 0) = false ∧ [8, 9].contains r.cmd.cmd.toNat = false := by
      rwa [List.contains_cons, Bool.or_eq_false_iff] at hcmd
    have hquery : r.cmd.cmd ≠ 0 := fun h => by simp [h] at hzero
    exact commandDelivery_presents hawake ⟨hrun, hwaiting, htodo, hnoWake, hfirst⟩ hquery hinject hup hruns hlent
  · exact commandDelivery_injects hawake ⟨hrun, hwaiting, by simp [htodo], by simp [hcmd], hfirst⟩ htodo hcmd hup hruns
      hlent hnone hhere
  · exact commandDelivery_refuses hawake ⟨hrun, hwaiting, htodo, hcmd, hfirst⟩ hdown

end Sys2Proof.Proofs
end

section
/-! PROOFS. QUERY, INJECT and BARRIER_TIMEOUT (spec 05 R166, R170, R175, R179, R186). -/

namespace Sys2Proof.Proofs

open Machine Laws Claims

/-! ### QUERY -/

theorem queryBits_lt (s : State) (c : TreeCmd) : queryBits s c < 16 := by
  have hbits : ∀ a b c d : Bool, b2n a + 2 * b2n b + 4 * b2n c + 8 * b2n d < 16 := by decide
  exact hbits _ _ _ _

theorem query_completes {s : State} {id rr d : Nat} {r : TreeRun} (hawake : s.asleep = false) (hrun : getRun s id = some r)
    (hcmd : r.cmd.cmd = 0) (hwaiting : r.waiting = false) (hall : ∀ f ∈ r.todo, queryable s f = true) (hring : fromRing s r.cmd rr d) :
    ∃ t : State, exec (.query id) s = .next t ∧ getRun t id = none ∧ completed t rr d .ok (queryBits s r.cmd)
      ∧ queryBits s r.cmd < 16 ∧ t.tiles = s.tiles ∧ t.mem = s.mem := by
  have hop : opQuery id s = endRun s id .ok (queryBits s r.cmd) := by
    have hgo : r.cmd.cmd = 0 ∧ (!r.waiting) = true ∧ r.todo.all (queryable s) = true :=
      ⟨hcmd, by rw [hwaiting]; rfl, List.all_eq_true.mpr hall⟩
    rw [opQuery, hrun]
    exact if_pos hgo
  refine ⟨opQuery id s, congrArg Host.Outcome.next (engine_awake hawake _), ?_, ?_, queryBits_lt _ _, ?_,
    mem_of_queueMem (queueMem_opQuery id s)⟩ <;> rw [hop]
  · exact getRun_endRun _ _ _ _
  · exact completed_endRun hrun hring _ _
  · exact (startsOnly_endRun _ _ _ _).tiles

/-! ### INJECT -/

/-- What a member's injected firing makes of it, where its output latches and its pipeline become `L` and `P` (spec 05 R186). -/
def injected (s : State) (i : Nat) (n : Fin 16) (L : List Latch) (P : List Flight) : Tile :=
  let t1 := { getT s i with latches := L, pipe := P }
  touch s i { (if waveArmed (getT s i) then waveSwitch t1 n else t1) with inject := none }

theorem injectWord_data (n : Fin 16) : (injectWord n).data.toNat = n.val :=
  (BitVec.toNat_ofNat ..).trans (Nat.mod_eq_of_lt (n.isLt.trans (by decide)))

section
variable {s : State} {id : Nat} {i : TileIx} {n : Fin 16}

/-- The injected firing sends its token where its context has a format, and changes no more than latches and pipeline. -/
theorem exists_injectSend
    (hroom : cFmt (ctx s i) = 0 ∨ ((getT s i).latches = [] ∧ (tileKind i = .a ∨ pipeRoom i (getT s i) = true))) :
    ∃ L P, (if cFmt (ctx s i) = 0 then some (getT s i) else waveSend i (getT s i) (ctx s i) (injectWord n))
        = some { getT s i with latches := L, pipe := P }
      ∧ (cFmt (ctx s i) ≠ 0 → waveStop (ctx s i) = false → drvSet (ctx s i) 3 ≠ [] →
          ∃ l ∈ L, l.src = .fork ∧ l.word.tag = .wave ∧ l.word.data.toNat = n.val) := by
  by_cases hfmt : cFmt (ctx s i) = 0
  · exact ⟨_, _, if_pos hfmt, fun h => absurd hfmt h⟩
  · obtain ⟨hlatches, hpipe⟩ := hroom.resolve_left hfmt
    obtain ⟨L, P, hsend, hfork⟩ := waveSend_sends hlatches hpipe (ctx s i) (injectWord n)
    refine ⟨L, P, (if_neg hfmt).trans hsend, fun _ hstop hset => ?_⟩
    obtain ⟨l, hl, hsrc, hword, -⟩ := hfork hstop hset
    exact ⟨l, hl, hsrc, by rw [hword]; rfl, by rw [hword, injectWord_data]⟩

/-- The member alone changes: the call of the handlers and the end of the command touch no tile. -/
theorem tiles_opInject {L : List Latch} {P : List Flight} (hinj : (getT s i).inject = some (n, id)) (hruns : tileRuns s i = true)
    (hlent : lentTile s i = false)
    (hsend : (if cFmt (ctx s i) = 0 then some (getT s i) else waveSend i (getT s i) (ctx s i) (injectWord n))
      = some { getT s i with latches := L, pipe := P }) :
    (opInject id i s).tiles = (setT s i (injected s i n L P)).tiles := by
  have hgo : ¬(id ≠ id ∨ (!tileRuns s i) = true ∨ lentTile s i = true) := by simp [hruns, hlent]
  simp only [opInject, hinj, if_neg hgo]
  rw [show ctxFrame (getT s i) = ctx s i from rfl, hsend]
  dsimp only
  split
  · next r _ =>
    refine (startsOnly_checkRun _ id).tiles.trans ?_
    split
    · exact (handlerCall_keeps _ r.cmd).2
    · rfl
  · rfl

theorem inject_fires (hinj : (getT s i).inject = some (n, id)) (hruns : tileRuns s i = true) (hlent : lentTile s i = false)
    (hroom : cFmt (ctx s i) = 0 ∨ ((getT s i).latches = [] ∧ (tileKind i = .a ∨ pipeRoom i (getT s i) = true))) :
    ∃ t : State, exec (.injectCmd id i) s = .next t ∧ (getT t i).inject = none
      ∧ (waveArmed (getT s i) = true → (getT t i).cur = n ∧ (getT t i).arm = false)
      ∧ (waveArmed (getT s i) = false → (getT t i).cur = (getT s i).cur ∧ (getT t i).arm = (getT s i).arm
          ∧ (getT t i).ends = (getT s i).ends)
      ∧ (cFmt (ctx s i) ≠ 0 → waveStop (ctx s i) = false → drvSet (ctx s i) 3 ≠ [] →
          ∃ l ∈ (getT t i).latches, l.src = .fork ∧ l.word.tag = .wave ∧ l.word.data.toNat = n.val)
      ∧ (∀ j : TileIx, j ≠ i → getT t j = getT s j) ∧ t.mem = s.mem := by
  obtain ⟨L, P, hsend, hfork⟩ := exists_injectSend (n := n) hroom
  have htiles := tiles_opInject hinj hruns hlent hsend
  have ht : getT (opInject id i s) i = injected s i n L P := (getT_congr htiles i).trans (getT_setT_same _ _ _)
  refine ⟨opInject id i s, rfl, ?_, fun harm => ?_, fun harm => ?_, fun hfmt hstop hset => ?_, fun j hj => ?_,
    mem_of_queueMem (queueMem_opInject id i s)⟩
  · rw [ht]
    rfl
  · rw [ht, injected, harm, if_pos rfl, waveSwitch, enterCtx_eq]
    exact ⟨rfl, rfl⟩
  · rw [ht, injected, harm]
    exact ⟨rfl, rfl, rfl⟩
  · have hlatches : (injected s i n L P).latches = L := by
      rw [injected, waveSwitch, enterCtx_eq]
      cases waveArmed (getT s i) <;> rfl
    rw [ht, hlatches]
    exact hfork hfmt hstop hset
  · exact (getT_congr htiles j).trans (getT_setT_ne _ _ _ _ fun h => hj (Fin.ext h))

end

/-! ### BARRIER_TIMEOUT -/

/-- The barrier arm of tile `i` cleared. -/
def unarm (s : State) (i : Nat) : State := setT s i { getT s i with barArm := none }

theorem getT_foldl_unarm (l : List Nat) (s : State) (j : Nat) :
    getT (l.foldl unarm s) j = if j ∈ l then { getT s j with barArm := none } else getT s j := by
  induction l generalizing s with
  | nil => rfl
  | cons i l ih =>
    rw [List.foldl_cons, ih]
    by_cases hj : j = i
    · subst hj
      simp [unarm, getT_setT_same]
    · simp [unarm, getT_setT_ne _ _ _ _ hj, hj]

/-- A tile that no map lists holds no arm, so the listed ones are all. -/
theorem mem_barMembers (s : State) (c : TreeCmd) (i : Nat) :
    i ∈ barMembers s c ↔ isMember c i = true ∧ (getT s i).barArm.isSome = true := by
  rw [barMembers, listedTiles, List.mem_filter, Bool.and_eq_true]
  refine ⟨And.right, fun h => ⟨?_, h⟩⟩
  have hlisted : getT s i ≠ Tile.factory i := fun hfac => Option.isSome_iff_ne_none.mp h.2 (congrArg Tile.barArm hfac)
  exact List.mem_map_of_mem (f := Prod.fst) (mem_of_smGet_ne hlisted)

theorem getT_clearBars (s : State) (c : TreeCmd) (i : Nat) :
    getT (clearBars s c) i = if isMember c i then { getT s i with barArm := none } else getT s i := by
  have hfold : clearBars s c = (barMembers s c).foldl unarm s := rfl
  rw [hfold, getT_foldl_unarm]
  simp only [mem_barMembers]
  cases hm : isMember c i
  · simp
  · cases ha : (getT s i).barArm with
    | none => simp [← ha]
    | some x => simp

theorem clearBars_keeps (s : State) (c : TreeCmd) : (clearBars s c).tree = s.tree ∧ (clearBars s c).host = s.host :=
  ⟨foldl_keeps State.tree (f := unarm) (fun _ _ => rfl) _ s, foldl_keeps State.host (f := unarm) (fun _ _ => rfl) _ s⟩

section
variable {s : State} {id : Nat} {r : TreeRun}

theorem opBarrierTimeout_eq (hrun : getRun s id = some r) (hcmd : r.cmd.cmd = 2) (hparam : r.cmd.param ≠ 0) (hphase : r.cmd.phase = 0) :
    opBarrierTimeout id s = if (smGet none s.expansions id).isSome then cancelExp s id .timeout else cancelBar s id .timeout := by
  have hgo : (!isBar r.cmd || r.cmd.param == 0 || r.cmd.phase != 0) = false := by
    rw [isBar, hcmd, beq_eq_false_iff_ne.mpr hparam, hphase]
    rfl
  simp only [opBarrierTimeout, hrun, hgo, Bool.false_eq_true, if_false]

theorem barrierTimeout_cancels {rr d : Nat} (hawake : s.asleep = false) (hrun : getRun s id = some r) (hcmd : r.cmd.cmd = 2)
    (hparam : r.cmd.param ≠ 0) (hphase : r.cmd.phase = 0) (hexp : smGet none s.expansions id = none) (hring : fromRing s r.cmd rr d) :
    ∃ t : State, exec (.barrierTimeout id) s = .next t ∧ getRun t id = none ∧ completed t rr d .timeout 0
      ∧ tilesBy s t (fun i => isMember r.cmd i = true) (fun _ x => { x with barArm := none }) := by
  obtain ⟨u, hu, hcancel⟩ : ∃ u, tilesTreeHost u = tilesTreeHost (clearBars s r.cmd)
      ∧ opBarrierTimeout id s = endRun u id .timeout 0 := by
    rw [opBarrierTimeout_eq hrun hcmd hparam hphase, hexp, cancelBar, hrun]
    exact ⟨_, tilesTreeHost_report _ 200 _ 0x2C8 _, rfl⟩
  obtain ⟨htree, hhost⟩ := clearBars_keeps s r.cmd
  have hrunu : getRun u id = some r := (getRun_congr ((congrArg (·.2.1) hu).trans htree) id).trans hrun
  have htile : ∀ i, getT (endRun u id .timeout 0) i = getT (clearBars s r.cmd) i := fun i =>
    getT_congr ((startsOnly_endRun u id _ _).tiles.trans (congrArg (·.1) hu)) i
  refine ⟨opBarrierTimeout id s, congrArg Host.Outcome.next (engine_awake hawake _), ?_, ?_, fun i hi => ?_, fun i hi => ?_,
    mem_of_queueMem (queueMem_opBarrierTimeout id s)⟩
  · rw [hcancel, getRun_endRun]
  · rw [hcancel]
    exact completed_endRun hrunu (fromRing_congr ((congrArg (·.2.2) hu).trans hhost) hring) _ _
  · rw [hcancel, htile, getT_clearBars, if_pos hi]
  · rw [hcancel, htile, getT_clearBars, if_neg hi]

/-- The timeout of a SWITCH_BAR that goes to other devices marks the expansion (spec 10 R379). -/
theorem barrierTimeout_marks {e : Expansion} (hawake : s.asleep = false) (hrun : getRun s id = some r) (hcmd : r.cmd.cmd = 2)
    (hparam : r.cmd.param ≠ 0) (hphase : r.cmd.phase = 0) (hexp : smGet none s.expansions id = some e) (hstep : e.step = 1)
    (hcancelled : e.cancelled = none) :
    exec (.barrierTimeout id) s
      = .next { s with expansions := smSet none s.expansions id (some { e with cancelled := some .timeout }) } := by
  refine congrArg Host.Outcome.next ((engine_awake hawake _).trans ?_)
  rw [opBarrierTimeout_eq hrun hcmd hparam hphase, hexp]
  simp [cancelExp, hexp, hstep, hcancelled]

end

/-- Settles O27: the answers and starts that follow the end of a command touch no tile, so the tiles are those of its own act. -/
theorem trainEnds : Obligations.TrainEnds :=
  ⟨fun _ _ _ _ _ => query_completes, fun _ _ _ _ => inject_fires, fun _ _ _ _ _ => barrierTimeout_cancels,
    fun _ _ _ _ => barrierTimeout_marks⟩

end Sys2Proof.Proofs
end

section
/-! PROOFS. Banks: bytes read back as written, and what port cycles, check bits and mirrors leave alone (spec 06 R195 to R200;
spec 07 R274). -/

namespace Sys2Proof.Proofs

open Machine Laws Claims

/-! ### Bytes and words -/

theorem bytesLE_leBytes (bs : List Byte) : bytesLE bs.length (leBytes bs) = bs := by
  induction bs with
  | nil => rfl
  | cons b bs ih =>
    have hb : b.toNat < 256 := b.isLt
    have hhead : BitVec.ofNat 8 (b.toNat + 256 * leBytes bs) = b :=
      BitVec.eq_of_toNat_eq (by rw [BitVec.toNat_ofNat]; omega)
    have htail : (b.toNat + 256 * leBytes bs) / 256 = leBytes bs := by omega
    rw [List.length_cons, leBytes, bytesLE, hhead, htail, ih]

theorem leBytes_lt (bs : List Byte) : leBytes bs < 256 ^ bs.length := by
  induction bs with
  | nil => decide
  | cons b bs ih =>
    have hb : b.toNat < 256 := b.isLt
    rw [leBytes, List.length_cons, Nat.pow_succ]
    omega

/-- Four bytes make a word and the word gives them back. -/
theorem bytesLE_word {bs : List Byte} (h : bs.length = 4) : bytesLE 4 (BitVec.ofNat 32 (leBytes bs)).toNat = bs := by
  have hlt := leBytes_lt bs
  rw [h] at hlt
  have hword : (BitVec.ofNat 32 (leBytes bs)).toNat = leBytes bs := (BitVec.toNat_ofNat ..).trans (Nat.mod_eq_of_lt hlt)
  rw [hword, ← h, bytesLE_leBytes]

@[simp] theorem length_memRead (s : State) (a n : Nat) : (memRead s a n).length = n := by simp [memRead]

theorem memGet_congr {s t : State} (h : t.mem = s.mem) (a : Nat) : memGet t a = memGet s a := by rw [memGet, memGet, h]

theorem memRead_congr {s t : State} (h : t.mem = s.mem) (a n : Nat) : memRead t a n = memRead s a n := by
  simp only [memRead, memGet, h]

/-- What has been written is read back. -/
theorem memRead_memWrite (s : State) (a : Nat) (bs : List Byte) : memRead (memWrite s a bs) a bs.length = bs :=
  List.ext_getElem (length_memRead ..) fun k _ hk => by simp [memRead, memGet_memWrite_in _ _ _ _ hk]

/-- `t` holds the bytes `bs` at address `a`, and elsewhere what `s` holds. -/
def Stored (s t : State) (a : Nat) (bs : List Byte) : Prop := t.mem = (memWrite s a bs).mem

theorem Stored.read {s t : State} {a : Nat} {bs : List Byte} (h : Stored s t a bs) : memRead t a bs.length = bs :=
  (memRead_congr h a _).trans (memRead_memWrite s a bs)

theorem Stored.outside {s t : State} {a b : Nat} {bs : List Byte} (h : Stored s t a bs) (hb : b < a ∨ a + bs.length ≤ b) :
    memGet t b = memGet s b := (memGet_congr h b).trans (memGet_memWrite_out s a b bs hb)

theorem Stored.congr {s s' t t' : State} {a : Nat} {bs : List Byte} (hs : s'.mem = s.mem) (h : Stored s' t a bs)
    (ht : t'.mem = t.mem) : Stored s t' a bs := by
  have hmem : ∀ (bs : List Byte) (u v : State) (a : Nat), u.mem = v.mem → (memWrite u a bs).mem = (memWrite v a bs).mem := by
    intro bs
    induction bs with
    | nil => exact fun _ _ _ e => e
    | cons b bs ih => exact fun u v a e => ih _ _ _ (by rw [memSet, memSet, e])
  exact ht.trans (h.trans (hmem bs s' s a hs))

/-! ### Firings in flight, endpoints and check bits -/

@[simp] theorem pipeAccs_setB (s : State) (i : Nat) (f : BPart → BPart) : pipeAccs (getT (setB s i f) i) = pipeAccs (getT s i) := by
  rw [setB, getT_setT_same]; rfl

@[simp] theorem pipeAccs_noteB (s : State) (i : Nat) (f : BPart → BPart) : pipeAccs (getT (noteB s i f) i) = pipeAccs (getT s i) := by
  unfold noteB
  split
  · exact pipeAccs_setB s i f
  · rfl

@[simp] theorem pipeAccs_setQ (s : State) (i n : Nat) (q : BQueue) : pipeAccs (getT (setQ s i n q) i) = pipeAccs (getT s i) :=
  pipeAccs_setB s i _

@[simp] theorem reportTile_tiles (s : State) (i code : Nat) (det : List Byte) : (reportTile s i code det).tiles = s.tiles :=
  report_tiles ..

@[simp] theorem setMi_tiles (s : State) (m : Nat) (x : MirrorSt) : (setMi s m x).tiles = s.tiles := rfl

/-- The work that an error of a half brings: none touches a firing in flight. -/
theorem pipeAccs_readHalf (s : State) (i off : Nat) : pipeAccs (getT (readHalf s i off).1 i) = pipeAccs (getT s i) := by
  unfold readHalf
  split
  · simp [eccCorr]
  · split
    · rw [eccUnc, getT_congr (reportTile_tiles ..), bStat]
      simp
    · rfl

/-- Endpoints and the errors of halves: what a port cycle's check of the bank leaves alone. -/
def epsErrs (s : State) : SMap Endpoint × SMap Nat := (s.eps, s.eccErr)

@[simp] theorem epsErrs_setT (s : State) (i : Nat) (t : Tile) : epsErrs (setT s i t) = epsErrs s := rfl

theorem epsErrs_noteB (s : State) (i : Nat) (f : BPart → BPart) : epsErrs (noteB s i f) = epsErrs s := by
  unfold noteB
  split <;> rfl

theorem epsErrs_of_onlyReported {s t : State} (h : OnlyReported s t) : epsErrs t = epsErrs s := by
  rw [h]; rfl

theorem epsErrs_reportTile (s : State) (i code : Nat) (det : List Byte) : epsErrs (reportTile s i code det) = epsErrs s :=
  epsErrs_of_onlyReported (onlyReported_report ..)

theorem epsErrs_readHalf (s : State) (i off : Nat) : epsErrs (readHalf s i off).1 = epsErrs s := by
  unfold readHalf
  split
  · exact (epsErrs_setT ..).trans (epsErrs_noteB ..)
  · split
    · rw [eccUnc, epsErrs_reportTile, bStat, epsErrs_noteB, epsErrs_noteB]
    · rfl

theorem halfErr_congr {s t : State} (h : t.eccErr = s.eccErr) (i off : Nat) : halfErr t i off = halfErr s i off := by
  rw [halfErr, halfErr, h]

theorem halfErr_readHalf (s : State) (i off i' off' : Nat) : halfErr (readHalf s i off).1 i' off' = halfErr s i' off' :=
  halfErr_congr (congrArg Prod.snd (epsErrs_readHalf s i off)) i' off'

theorem readHalf_snd (s : State) (i off : Nat) : (readHalf s i off).2 = decide (halfErr s i off = 2) := by
  unfold readHalf
  split
  · rename_i h; simp [h]
  · split
    · rename_i h; simp [h]
    · rename_i h; simp [h]

/-- One half more of a read. -/
def halfRead (i : Nat) (r : State × Bool) (h : Nat) : State × Bool :=
  ((readHalf r.1 i (8 * h)).1, r.2 || (readHalf r.1 i (8 * h)).2)

theorem readHalves_eq (s : State) (i : Nat) (hs : List Nat) : readHalves s i hs = hs.foldl (halfRead i) (s, false) := rfl

theorem readHalves_keeps {β : Type} (p : State → β) {i : Nat} (h : ∀ s off, p (readHalf s i off).1 = p s) (hs : List Nat)
    (s : State) : p (readHalves s i hs).1 = p s := by
  rw [readHalves_eq]
  exact foldl_keeps (f := halfRead i) (fun r => p r.1) (fun r k => h r.1 (8 * k)) hs (s, false)

theorem readHalves_snd (s : State) (i : Nat) (hs : List Nat) :
    (readHalves s i hs).2 = hs.any (fun h => decide (halfErr s i (8 * h) = 2)) := by
  have key : ∀ (hs : List Nat) (r : State × Bool), (∀ off, halfErr r.1 i off = halfErr s i off) →
      (hs.foldl (halfRead i) r).2 = (r.2 || hs.any (fun h => decide (halfErr s i (8 * h) = 2))) := by
    intro hs
    induction hs with
    | nil => intro r _; simp
    | cons h hs ih =>
      intro r hr
      rw [List.foldl_cons, ih (halfRead i r h) fun off => (halfErr_readHalf r.1 i (8 * h) i off).trans (hr off), halfRead,
        readHalf_snd, hr, List.any_cons, Bool.or_assoc]
  exact (key hs (s, false) fun _ => rfl).trans (Bool.false_or _)

/-- The check bits find a half by any of its bytes. -/
theorem halfErr_half (s : State) (i off : Nat) : halfErr s i (8 * (off / 8)) = halfErr s i off := by
  have hkey : halfKey i (8 * (off / 8)) = halfKey i off := by
    rw [halfKey, halfKey, tileBase]
    omega
  rw [halfErr, halfErr, hkey]

/-! ### Writes of a bank -/

theorem markDirty_keeps {β : Type} (p : State → β) (h : ∀ s m x, p (setMi s m x) = p s) (s : State) (i off n : Nat) :
    p (markDirty s i off n) = p s := by
  refine foldl_keeps p (fun s m => ?_) _ s
  dsimp only
  split
  · rfl
  · exact h ..

theorem mem_putBank (s : State) (i off : Nat) (bs : List Byte) : Stored s (putBank s i off bs) (tileBase i + off) bs := by
  unfold putBank
  exact markDirty_keeps State.mem (fun _ _ _ => rfl) _ i off bs.length

theorem memWrite_eps (s : State) (a : Nat) (bs : List Byte) : (memWrite s a bs).eps = s.eps := by
  induction bs generalizing s a with
  | nil => rfl
  | cons b bs ih => exact ih (memSet s a b) (a + 1)

theorem putBank_eps (s : State) (i off : Nat) (bs : List Byte) : (putBank s i off bs).eps = s.eps := by
  unfold putBank
  exact (markDirty_keeps State.eps (fun _ _ _ => rfl) _ i off bs.length).trans (memWrite_eps s _ bs)

theorem pipeAccs_putBank (s : State) (i off : Nat) (bs : List Byte) :
    pipeAccs (getT (putBank s i off bs) i) = pipeAccs (getT s i) := by
  unfold putBank
  rw [markDirty_keeps (fun s => pipeAccs (getT s i)) (fun _ _ _ => rfl), pipeAccs_setB]
  exact congrArg pipeAccs (getT_congr (memWrite_tiles s _ bs) i)

/-- The halves that a write covers in part. -/
def partHalves (off n : Nat) : List Nat := (halves off n).filter (fun h => !coversHalf off n h)

/-- A write none of whose partly covered halves is uncorrectable is done. -/
theorem writeBank_done {s : State} {i off : Nat} {bs : List Byte}
    (h : ∀ k ∈ halves off bs.length, coversHalf off bs.length k = false → halfErr s i (8 * k) ≠ 2) :
    writeBank s i off bs = (putBank (readHalves s i (partHalves off bs.length)).1 i off bs, false) := by
  have hgood : (readHalves s i (partHalves off bs.length)).2 = false := by
    rw [readHalves_snd, List.any_eq_false]
    intro k hk
    obtain ⟨hmem, hpart⟩ := List.mem_filter.mp hk
    simpa using h k hmem (by simpa using hpart)
  unfold writeBank
  dsimp only
  rw [← partHalves, hgood]
  rfl

/-- The one half that an aligned word lies in. -/
theorem halves_word {off : Nat} (h : off % 4 = 0) : halves off 4 = [off / 8] := by
  have hone : (off + 4 - 1) / 8 + 1 - off / 8 = 1 := by omega
  rw [halves, if_neg (by decide), hone]
  simp

/-! ### Port cycles of the array side -/

theorem bankUsed_keeps {β : Type} (p : State → β) (i off n : Nat) (hport : ∀ s op lo hi same, p (portUsed s i op lo hi same) = p s)
    (hmi : ∀ s m x, p (setMi s m x) = p s) (hb : ∀ s f, p (setB s i f) = p s) (s : State) : p (bankUsed s i off n) = p s := by
  unfold bankUsed
  dsimp only
  rw [hb]
  exact (foldl_keeps p (fun _ _ => hmi ..) _ _).trans ((hport ..).trans (hport ..))

theorem pipeAccs_bankUsed (s : State) (i off n : Nat) : pipeAccs (getT (bankUsed s i off n) i) = pipeAccs (getT s i) :=
  bankUsed_keeps (fun s => pipeAccs (getT s i)) i off n (fun s => pipeAccs_portUsed s i) (fun _ _ _ => rfl)
    (fun s => pipeAccs_setB s i) s

theorem mapPort_eccErr (s : State) (i op lo hi : Nat) (g : Ingress → Ingress) (k : Nat → Nat) :
    (mapPort s i op lo hi g k).eccErr = s.eccErr := by
  unfold mapPort
  dsimp only
  split <;> rfl

theorem bankUsed_eccErr (s : State) (i off n : Nat) : (bankUsed s i off n).eccErr = s.eccErr :=
  bankUsed_keeps State.eccErr i off n (fun _ _ _ _ _ => mapPort_eccErr ..) (fun _ _ _ => rfl) (fun _ _ => rfl) s

theorem bankUsed_mem (s : State) (i off n : Nat) : (bankUsed s i off n).mem = s.mem := mem_of_queueMem (queueMem_bankUsed s i off n)

end Sys2Proof.Proofs
end

section
/-! PROOFS. Firings of B-opcodes (spec 06 R207, R209, R210): what a firing leaves, and BRD and BWR (R196, R197). -/

namespace Sys2Proof.Proofs

open Machine Laws Claims

/-! ### The issue of a B-opcode -/

theorem consume_b (t : Tile) (es : List Nat) : (consume t es).b = t.b := by rw [onlyEnds_consume t es]

theorem localStep_b (t : Tile) (c : Frame) (e w : Bool) : (localStep t c e w).b = t.b := by
  unfold localStep
  split
  · rw [enterCtx_eq]
  · rfl

theorem latch_b (t : Tile) (src : LatchSrc) (w : Option SWord) (set : List Nat) (n : Nat) : (latch t src w set n).b = t.b := by
  rw [latch_eq]

theorem stepCnt_b (t : Tile) : (stepCnt t).b = t.b := rfl

/-- Tile `i` of `u` once a firing with work `w` has entered its pipeline: nothing of its bank part has changed on the way. -/
def Entered (u t : State) (i : TileIx) (c : Frame) (w : Work) : Prop :=
  t = setT u i (getT t i) ∧ (getT t i).pipe = (getT u i).pipe ++ [⟨c, w⟩] ∧ (getT t i).b = (getT u i).b

/-- The result tag that R51 to R54 give the current context's firing. -/
def firingTag (s : State) (i : TileIx) : Tag :=
  resultTag (ctx s i) (operandIf (getT s i) (ctx s i) 0) (operandIf (getT s i) (ctx s i) 1) none (consumedOps (ctx s i) [0, 1])

/-- What consumption, counter and local step leave of a tile that a firing enters. -/
theorem entered_of {s u : State} {i : TileIx} (es : List Nat) (b endSeen wraps psn : Bool) (a : Option SWord) (n : Nat) (c : Frame) (w : Work) (t4 : Tile)
    (h4 : t4 = latch (localStep { (if b then stepCnt (consume (getT u i) es) else consume (getT u i) es) with
      poisoned := psn } c endSeen wraps) .fork a (drvSet c 3) n) :
    Entered u (setT u i (touch s i { t4 with pipe := t4.pipe ++ [⟨c, w⟩] })) i c w := by
  have hpipe : t4.pipe = (getT u i).pipe := by
    have hp : pipeAccs t4 = pipeAccs (getT u i) := by
      rw [h4, pipeAccs_latch, pipeAccs_localStep, pipeAccs_poisoned, apply_ite pipeAccs, pipeAccs_stepCnt, ite_self,
        pipeAccs_consume]
    exact congrArg Prod.fst hp
  have hb : t4.b = (getT u i).b := by
    rw [h4, latch_b, localStep_b]
    cases b <;> exact consume_b ..
  refine ⟨by rw [getT_setT_same], ?_, ?_⟩ <;> rw [getT_setT_same]
  · exact congrArg (· ++ _) hpipe
  · exact hb

section
variable {op : Nat} {f : Nat → Frame → SWord → SWord → Tag → State → BRes} {s u : State} {i : TileIx}
  (h : bankReadyFor op s i = true)
include h

theorem fireB_fires {r : Word} {fetched : Option Tag} {flag : Option Bool}
    (hf : f i (ctx s i) (opnd s i 0) (opnd s i 1) (firingTag s i) s = .fire u r fetched flag) :
    ∃ (tag : Tag) (a : Option SWord) (p : Bool), Entered u (fireB op f i s) i (ctx s i) (.bank ⟨r, tag⟩ flag a p) := by
  have hfire : fireB op f i s = _ := if_pos h
  unfold opnd firingTag ctx at hf
  rw [hfire]
  simp only [hf]
  exact ⟨_, _, _, entered_of _ _ _ _ _ _ _ _ _ _ rfl⟩

theorem fireB_loads {k : Nat} (hf : f i (ctx s i) (opnd s i 0) (opnd s i 1) (firingTag s i) s = .load u k) :
    ∃ (a : Option SWord) (p : Bool), Entered u (fireB op f i s) i (ctx s i) (.load k a p) := by
  have hfire : fireB op f i s = _ := if_pos h
  unfold opnd firingTag ctx at hf
  rw [hfire]
  simp only [hf]
  exact ⟨_, _, entered_of _ _ _ _ _ _ _ _ _ _ rfl⟩

end

section
variable {s t u : State} {i : TileIx} {c : Frame}

theorem Entered.mem {w : Work} (h : Entered u t i c w) : t.mem = u.mem := by
  obtain ⟨ht, -⟩ := h
  rw [ht, setT_mem]

/-- A firing that has entered the pipeline of a tile whose firings in flight its effect has left alone. -/
theorem bankIssued_of_entered {r : Word} {tag : Tag} {flag : Option Bool} {a : Option SWord} {p : Bool}
    (h : Entered u t i (ctx s i) (.bank ⟨r, tag⟩ flag a p)) (hp : pipeAccs (getT u i) = pipeAccs (getT s i)) :
    bankIssued s t i r := by
  obtain ⟨-, hpipe, -⟩ := h
  exact ⟨tag, flag, a, p, hpipe.trans (congrArg (· ++ _) (congrArg Prod.fst hp))⟩

end

/-! ### BRD and BWR -/

section
variable {s : State} {i : TileIx}

theorem brdOff_eq : 4 * bitsOf (opnd s i 0).data.toNat 15 2 = brdOff s i := by
  rw [brdOff, bitsOf]
  omega

theorem brdOff_aligned : brdOff s i % 4 = 0 := by rw [brdOff]; omega

theorem brd_reads (h : bankReadyFor 0xA0 s i = true) (hport : bankForced s i = false) :
    ∃ t : State, exec (.brd i) s = .next t
      ∧ bankIssued s t i (BitVec.ofNat 32 (leBytes (memRead s (tileBase i + brdOff s i) 4)))
      ∧ ∀ a : Nat, memGet t a = memGet s a := by
  obtain ⟨fetched, flag, hf⟩ : ∃ fetched flag, bopBrd i (ctx s i) (opnd s i 0) (opnd s i 1) (firingTag s i) s
      = .fire (readHalf (bankUsed s i (brdOff s i) 0) i (brdOff s i)).1
          (BitVec.ofNat 32 (leBytes (memRead s (tileBase i + brdOff s i) 4))) fetched flag := by
    rw [bopBrd, portTaken, hport, if_neg Bool.false_ne_true, brdOff_eq]
    exact ⟨_, _, rfl⟩
  obtain ⟨tag, a, p, he⟩ := fireB_fires h hf
  refine ⟨_, rfl, bankIssued_of_entered he ((pipeAccs_readHalf ..).trans (pipeAccs_bankUsed ..)), memGet_congr ?_⟩
  rw [he.mem, mem_of_queueMem (queueMem_readHalf ..), bankUsed_mem]

/-- The bank behind the read-modify-write of a BWR. -/
def bwrPut (s : State) (i : TileIx) : State :=
  putBank (readHalves (bankUsed s i (brdOff s i) 0) i (partHalves (brdOff s i) 4)).1 i (brdOff s i)
    (bytesLE 4 (opnd s i 1).data.toNat)

theorem writeBank_bwr (hgood : halfErr s i (brdOff s i) ≠ 2) :
    writeBank (bankUsed s i (brdOff s i) 0) i (brdOff s i) (bytesLE 4 (opnd s i 1).data.toNat) = (bwrPut s i, false) := by
  have hlen : (bytesLE 4 (opnd s i 1).data.toNat).length = 4 := length_bytesLE ..
  rw [writeBank_done, hlen, bwrPut]
  intro k hk _
  rw [hlen, halves_word brdOff_aligned, List.mem_singleton] at hk
  rwa [hk, halfErr_congr (bankUsed_eccErr ..), halfErr_half]

theorem stored_bwrPut : Stored s (bwrPut s i) (tileBase i + brdOff s i) (bytesLE 4 (opnd s i 1).data.toNat) :=
  Stored.congr ((readHalves_keeps State.mem (fun s off => mem_of_queueMem (queueMem_readHalf s i off)) _ _).trans (bankUsed_mem ..))
    (mem_putBank ..) rfl

theorem pipeAccs_bwrPut : pipeAccs (getT (bwrPut s i) i) = pipeAccs (getT s i) := by
  rw [bwrPut, pipeAccs_putBank, readHalves_keeps (fun s => pipeAccs (getT s i)) (fun s off => pipeAccs_readHalf s i off),
    pipeAccs_bankUsed]

theorem bwr_writes (h : bankReadyFor 0xA1 s i = true) (hport : bankForced s i = false) (hwen : s.boot.wen = true)
    (hgood : halfErr s i (brdOff s i) ≠ 2) :
    ∃ t : State, exec (.bwr i) s = .next t ∧ bankIssued s t i (opnd s i 1).data
      ∧ memRead t (tileBase i + brdOff s i) 4 = bytesLE 4 (opnd s i 1).data.toNat
      ∧ ∀ a : Nat, (a < tileBase i + brdOff s i ∨ tileBase i + brdOff s i + 4 ≤ a) → memGet t a = memGet s a := by
  have hlen : (bytesLE 4 (opnd s i 1).data.toNat).length = 4 := length_bytesLE ..
  have hf : bopBwr i (ctx s i) (opnd s i 0) (opnd s i 1) (firingTag s i) s
      = .fire (bankUsed (bwrPut s i) i (brdOff s i) 4) (opnd s i 1).data none none := by
    simp only [bopBwr, hwen, portTaken, hport, Bool.not_true, Bool.false_eq_true, if_false, brdOff_eq, writeBank_bwr hgood]
  obtain ⟨tag, a, p, he⟩ := fireB_fires h hf
  have hstored : Stored s (fireB 0xA1 bopBwr i s) (tileBase i + brdOff s i) (bytesLE 4 (opnd s i 1).data.toNat) :=
    Stored.congr rfl stored_bwrPut (he.mem.trans (bankUsed_mem ..))
  exact ⟨_, rfl, bankIssued_of_entered he ((pipeAccs_bankUsed ..).trans pipeAccs_bwrPut), hlen ▸ hstored.read,
    fun a ha => hstored.outside (hlen.symm ▸ ha)⟩

end

/-- Settles O14: the firing enters the pipeline with the word read or written, and the effect stores no other byte. -/
theorem bankAccess : Obligations.BankAccess :=
  ⟨fun _ _ h hport => brd_reads h hport, fun _ _ h hport hwen hgood => bwr_writes h hport hwen hgood⟩

end Sys2Proof.Proofs
end

section
/-! PROOFS. Queues: what their words and counts are after pushes, pops and level crossings (spec 06 R213 to R216, R581), and
QPUSH, QPOP and QLVL (R207, R221). -/

namespace Sys2Proof.Proofs

open Machine Laws Claims

/-! ### Words that move without a bank access -/

theorem qDepth_qPass (q : BQueue) : qDepth (qPass q) = qDepth q := by
  unfold qPass
  split
  · rename_i h
    obtain ⟨hpre, hrows, -⟩ := h
    simp only [qDepth, hpre, hrows, List.length_nil]
    omega
  · rfl

theorem qDepth_qFeed (q : BQueue) : qDepth (qFeed q) = qDepth q := by
  rw [qFeed, qDepth_qFill, qDepth_qPass, qDepth_qFill]

theorem qPass_credited (q : BQueue) : (qPass q).credited = q.credited := by
  unfold qPass
  split <;> rfl

theorem qFeed_credited (q : BQueue) : (qFeed q).credited = q.credited := qPass_credited (qFill q)

theorem qPass_incoming (q : BQueue) : (qPass q).incoming = q.incoming := by
  unfold qPass
  split <;> rfl

/-- Pushed words that fit into the assembly row do not wait for it. -/
theorem qFeed_incoming {q : BQueue} (h : q.asm.length + q.incoming.length ≤ 4) : (qFeed q).incoming = [] := by
  have hfill : (qFill q).incoming = [] := List.drop_eq_nil_of_le (by omega)
  have hpass : (qPass (qFill q)).incoming = [] := (qPass_incoming _).trans hfill
  rw [qFeed, qFill]
  simp [hpass]

/-! ### Updates of one queue -/

theorem setB_eps (s : State) (i : Nat) (f : BPart → BPart) : (setB s i f).eps = s.eps := rfl

/-- A level crossing marks the queue; endpoints and firings in flight stay as they are. -/
theorem levelCross_queue (s : State) (i n before after : Nat) :
    (∃ b, getQ (getT (levelCross s i n before after) i) n = { getQ (getT s i) n with levelHit := b })
      ∧ (levelCross s i n before after).eps = s.eps
      ∧ pipeAccs (getT (levelCross s i n before after) i) = pipeAccs (getT s i) := by
  have hset : ∀ q : BQueue, getQ (getT (setQ s i n q) i) n = q ∧ (setQ s i n q).eps = s.eps
      ∧ pipeAccs (getT (setQ s i n q) i) = pipeAccs (getT s i) :=
    fun q => ⟨getQ_setQ_same s i n q, rfl, pipeAccs_setQ s i n q⟩
  unfold levelCross
  dsimp only
  split
  · obtain ⟨hq, he, hp⟩ := hset { getQ (getT s i) n with levelHit := true }
    split
    · exact ⟨⟨true, hq⟩, he, hp⟩
    · exact ⟨⟨true, hq⟩, he, hp⟩
  · exact ⟨⟨_, rfl⟩, rfl, rfl⟩

/-- The same right behind the write of the queue that may cross its level. -/
theorem levelCross_setQ (s : State) (i n : Nat) (q : BQueue) (before after : Nat) :
    (∃ b, getQ (getT (levelCross (setQ s i n q) i n before after) i) n = { q with levelHit := b })
      ∧ (levelCross (setQ s i n q) i n before after).eps = s.eps
      ∧ pipeAccs (getT (levelCross (setQ s i n q) i n before after) i) = pipeAccs (getT s i) := by
  obtain ⟨⟨b, hq⟩, he, hp⟩ := levelCross_queue (setQ s i n q) i n before after
  exact ⟨⟨b, hq.trans (by rw [getQ_setQ_same])⟩, he, hp.trans (pipeAccs_setQ ..)⟩

/-- A push to a STREAM queue puts its words behind every earlier one. -/
theorem pushWords_queue {s : State} {i n : Nat} (hty : qType (getT s i) n = 0) (ws : List SWord) :
    (∃ b, getQ (getT (pushWords s i n ws) i) n
        = { qFeed { getQ (getT s i) n with incoming := (getQ (getT s i) n).incoming ++ ws } with levelHit := b })
      ∧ (pushWords s i n ws).eps = s.eps ∧ pipeAccs (getT (pushWords s i n ws) i) = pipeAccs (getT s i) := by
  have hshape : pushShape (getT s i) n ws = (ws, (getQ (getT s i) n).notifyPos, (getQ (getT s i) n).notifyDrop, 0) := by
    rw [pushShape, hty]
    rfl
  simp only [pushWords, hshape, reshape]
  exact levelCross_setQ s i n _ _ _

theorem qDepth_pushWords {s : State} {i n : Nat} (hty : qType (getT s i) n = 0) (ws : List SWord) :
    qDepth (getQ (getT (pushWords s i n ws) i) n) = qDepth (getQ (getT s i) n) + ws.length := by
  obtain ⟨⟨b, hq⟩, -⟩ := pushWords_queue hty ws
  have hfeed := qDepth_qFeed { getQ (getT s i) n with incoming := (getQ (getT s i) n).incoming ++ ws }
  rw [hq]
  simp only [qDepth, List.length_append] at hfeed ⊢
  omega

/-- The oldest word, in the prefetch row, is taken. -/
theorem takeWord_pre {s : State} {i n : Nat} {w : SWord} {rest : List SWord} (h : (getQ (getT s i) n).pre = w :: rest) :
    takeWord s i n = (setQ s i n (qFeed { getQ (getT s i) n with pre := rest }), some w) := by
  simp only [takeWord, h]

theorem qDepth_pre {q : BQueue} {w : SWord} {rest : List SWord} (h : q.pre = w :: rest) :
    qDepth { q with pre := rest } + 1 = qDepth q := by
  simp only [qDepth, h, List.length_cons]
  omega

/-! ### QPUSH, QPOP and QLVL -/

section
variable {s : State} {i : TileIx} (hen : qEn (getT s i) (bQsel (ctx s i)) = true)
include hen

theorem qpush_pushes (h : bankReadyFor 0xA8 s i = true) (hwen : s.boot.wen = true) (hty : qType (getT s i) (bQsel (ctx s i)) = 0)
    (hroom : qDepth (getQ (getT s i) (bQsel (ctx s i))) + (getQ (getT s i) (bQsel (ctx s i))).credited + 1
      ≤ qCap (getT s i) (bQsel (ctx s i)))
    (hasm : (getQ (getT s i) (bQsel (ctx s i))).asm.length < 4) (hinc : (getQ (getT s i) (bQsel (ctx s i))).incoming = []) :
    ∃ t : State, exec (.qpush i) s = .next t ∧ bankIssued s t i (opnd s i 0).data
      ∧ qDepth (getQ (getT t i) (bQsel (ctx s i))) = qDepth (getQ (getT s i) (bQsel (ctx s i))) + 1 := by
  have hpush : pushRoom (getT s i) (bQsel (ctx s i)) ⟨(opnd s i 0).data, firingTag s i⟩ = true := by
    simp [pushRoom, pushShape, hty, hroom, hasm, hinc]
  obtain ⟨flag, hf⟩ : ∃ flag, bopQpush i (ctx s i) (opnd s i 0) (opnd s i 1) (firingTag s i) s
      = .fire (pushWords s i (bQsel (ctx s i)) [⟨(opnd s i 0).data, firingTag s i⟩]) (opnd s i 0).data none flag := by
    simp only [bopQpush, hen, hty, hwen, hpush, Bool.not_true, Bool.false_or, Bool.or_self, Bool.false_eq_true, if_false]
    exact ⟨_, rfl⟩
  obtain ⟨tag, a, p, he⟩ := fireB_fires h hf
  obtain ⟨-, -, hp⟩ := pushWords_queue hty [⟨(opnd s i 0).data, firingTag s i⟩]
  refine ⟨_, rfl, bankIssued_of_entered he hp, ?_⟩
  obtain ⟨-, -, hb⟩ := he
  rw [getQ, hb]
  exact qDepth_pushWords hty _

theorem qpop_pops (h : bankReadyFor 0xA9 s i = true) {w : SWord} (hty : qType (getT s i) (bQsel (ctx s i)) = 0)
    (hhead : (getQ (getT s i) (bQsel (ctx s i))).pre.head? = some w) (hfree : popLocked s i (bQsel (ctx s i)) = false) :
    ∃ t : State, exec (.qpop i) s = .next t ∧ bankIssued s t i w.data
      ∧ qDepth (getQ (getT t i) (bQsel (ctx s i))) + 1 = qDepth (getQ (getT s i) (bQsel (ctx s i)))
      ∧ ∀ a : Nat, memGet t a = memGet s a := by
  obtain ⟨rest, hpre⟩ := List.head?_eq_some_iff.mp hhead
  obtain ⟨flag, hf⟩ : ∃ flag, bopQpop i (ctx s i) (opnd s i 0) (opnd s i 1) (firingTag s i) s
      = .fire (setQ s i (bQsel (ctx s i)) (qFeed { getQ (getT s i) (bQsel (ctx s i)) with pre := rest })) w.data (some w.tag) flag := by
    simp only [bopQpop, hen, hty, hfree, takeWord_pre hpre, Bool.not_true, ne_eq, not_true_eq_false, Bool.false_eq_true,
      if_false]
    exact ⟨_, rfl⟩
  obtain ⟨tag, a, p, he⟩ := fireB_fires h hf
  refine ⟨_, rfl, bankIssued_of_entered he (pipeAccs_setQ ..), ?_, memGet_congr he.mem⟩
  obtain ⟨-, -, hb⟩ := he
  rw [getQ, hb, ← getQ, getQ_setQ_same, qDepth_qFeed]
  exact qDepth_pre hpre

theorem qlvl_reads (h : bankReadyFor 0xAA s i = true) (hty : qType (getT s i) (bQsel (ctx s i)) < 2) :
    ∃ t : State, exec (.qlvl i) s = .next t
      ∧ bankIssued s t i (BitVec.ofNat 32 (qDepth (getQ (getT s i) (bQsel (ctx s i)))))
      ∧ t = setT s i (getT t i) ∧ (getT t i).b = (getT s i).b := by
  obtain ⟨flag, hf⟩ : ∃ flag, bopQlvl i (ctx s i) (opnd s i 0) (opnd s i 1) (firingTag s i) s
      = .fire s (BitVec.ofNat 32 (qDepth (getQ (getT s i) (bQsel (ctx s i))))) none flag := by
    simp only [bopQlvl, hen, Bool.not_true, Bool.false_or, decide_eq_true_eq, if_neg (Nat.not_le.mpr hty)]
    exact ⟨_, rfl⟩
  obtain ⟨tag, a, p, he⟩ := fireB_fires h hf
  refine ⟨_, rfl, bankIssued_of_entered he rfl, ?_⟩
  obtain ⟨ht, -, hb⟩ := he
  exact ⟨ht, hb⟩

end

/-- Settles O15: a push and a pop move one word, QLVL none. -/
theorem queueOps : Obligations.QueueOps :=
  ⟨fun _ _ h hwen hen hty hroom hasm hinc => qpush_pushes hen h hwen hty hroom hasm hinc,
    fun _ _ _ h hen hty hhead hfree => qpop_pops hen h hty hhead hfree, fun _ _ h hen hty => qlvl_reads hen h hty⟩

end Sys2Proof.Proofs
end

section
/-! PROOFS. DLYB and the gateway: O16 fails at GATEWAY_RESPONSE. The command writes its tile twice, and the two writes are one
write of the tile only where the tile map lists each tile once: the first write of the tile as it stands at reset removes every
entry of its key. -/

namespace Sys2Proof.Proofs

open Machine Laws Claims

/-- An answered store of a gateway. -/
def answeredStore : GwSlot := { load := false, addr := 0, data := 0, answer := some (.ok, 0), seen := false }

/-- Tile 0 as at reset but for that store in slot 0 of its reorder buffer. -/
def storeTile : Tile := { Tile.factory 0 with b := { gw := [(0, some answeredStore)] } }

/-- A state whose tile map lists tile 0 twice, in a field that has run for one cycle. -/
def tileTwice : State := { State.reset with tiles := [(0, storeTile), (0, storeTile)], fields := [(0, { cycles := 1 })] }

/-- The tile that GATEWAY_RESPONSE leaves there. -/
def answeredTile : Tile := { Tile.factory 0 with activeAt := 1 }

theorem answeredTile_ne : answeredTile ≠ Tile.factory 0 := fun h => absurd (congrArg Tile.activeAt h) Nat.one_ne_zero

/-- The first write removes both entries, the second one adds the tile again. -/
theorem gatewayResponse_tileTwice : (opGatewayResponse 0 0 tileTwice).tiles = [(0, answeredTile)] := by
  have hfirst : (setT tileTwice 0 (Tile.factory 0)).tiles = [] := by
    rw [setT, smSet, if_pos rfl]
    rfl
  have hop : opGatewayResponse 0 0 tileTwice
      = setT (setT tileTwice 0 (Tile.factory 0)) 0 (touch (setT tileTwice 0 (Tile.factory 0)) 0 (getT (setT tileTwice 0 (Tile.factory 0)) 0)) := rfl
  have htile : touch (setT tileTwice 0 (Tile.factory 0)) 0 (getT (setT tileTwice 0 (Tile.factory 0)) 0) = answeredTile := by
    rw [getT, hfirst]
    rfl
  rw [hop, htile, setT, smSet, if_neg answeredTile_ne, hfirst]
  rfl

theorem setT_tileTwice : (setT tileTwice 0 answeredTile).tiles = [(0, answeredTile), (0, storeTile)] := by
  rw [setT, smSet, if_neg answeredTile_ne]
  rfl

/-- Refutes O16: where the tile map lists tile 0 twice, GATEWAY_RESPONSE removes the second entry and a write of the tile
keeps it. -/
theorem not_delayAndGateway : ¬ Obligations.DelayAndGateway := by
  rintro ⟨-, -, -, -, hanswer⟩
  obtain ⟨t, hexec, ht, -⟩ := hanswer tileTwice 0 0 answeredStore 0 rfl rfl rfl
  obtain rfl : opGatewayResponse 0 0 tileTwice = t := by injection hexec
  have hget : getT (opGatewayResponse 0 0 tileTwice) 0 = answeredTile := by
    rw [getT, gatewayResponse_tileTwice]
    rfl
  have htiles : [(0, answeredTile)] = [(0, answeredTile), (0, storeTile)] :=
    calc [(0, answeredTile)] = (opGatewayResponse 0 0 tileTwice).tiles := gatewayResponse_tileTwice.symm
      _ = (setT tileTwice 0 (getT (opGatewayResponse 0 0 tileTwice) 0)).tiles := congrArg State.tiles ht
      _ = [(0, answeredTile), (0, storeTile)] := by rw [hget, setT_tileTwice]
  exact absurd (congrArg List.length htiles) (by decide)

end Sys2Proof.Proofs
end

section
/-! PROOFS. Requests to a bank and to X and Y memory (spec 03 R99 to R102; spec 06 R196 to R201): what a served port cycle leaves
of the answers, and O20. -/

namespace Sys2Proof.Proofs

open Machine Laws Claims

/-! ### Port cycles of the network side -/

/-- An ingress entry after a port cycle. -/
def portPassed (op lo hi : Nat) (g : Ingress → Ingress) (x : Option Ingress) : Option Ingress :=
  x.map (fun y => if atPort op lo hi y then g y else y)

theorem portPassed_some {op lo hi : Nat} {g : Ingress → Ingress} {y : Ingress} (h : g y = y) : portPassed op lo hi g (some y) = some y := by
  rw [portPassed, Option.map_some, h, ite_self]

section
variable (s : State) (i op lo hi : Nat) (g : Ingress → Ingress) (k : Nat → Nat)

/-- A port cycle passes over the entries of one endpoint. -/
theorem mapPort_eps : (mapPort s i op lo hi g k).eps = (setEp s (patchPort i)
    { getEp s (patchPort i) with ingress := (getEp s (patchPort i)).ingress.map (fun x => (x.1, portPassed op lo hi g x.2)) }).eps := by
  unfold mapPort
  dsimp only
  rw [apply_ite State.eps, setT_eps, ite_self]
  refine congrArg (fun l => (setEp s (patchPort i) { getEp s (patchPort i) with ingress := l }).eps)
    (List.map_congr_left fun x _ => congrArg (Prod.mk x.1) ?_)
  obtain ⟨a, y⟩ := x
  cases y with
  | none => rfl
  | some y => exact (apply_ite some ..).symm

theorem getIn_mapPort (ep n : Nat) :
    getIn (mapPort s i op lo hi g k) ep n = if ep = patchPort i then portPassed op lo hi g (getIn s ep n) else getIn s ep n := by
  rw [getIn, getEp, mapPort_eps, ← getEp]
  split
  · rename_i he
    rw [he, getEp_setEp_same]
    exact smGet_map (portPassed op lo hi g) none _ n
  · rename_i he
    rw [getEp_setEp_ne _ _ _ _ he, getIn]

theorem epOut_mapPort (ep : Nat) (net : Net) : epOut (getEp (mapPort s i op lo hi g k) ep) net = epOut (getEp s ep) net := by
  rw [getEp, mapPort_eps, ← getEp]
  by_cases he : ep = patchPort i
  · rw [he, getEp_setEp_same]
    cases net <;> rfl
  · rw [getEp_setEp_ne _ _ _ _ he]

end

section
variable {s t : State} {ep : Fin 2048} {n : Fin 32} {req : Flit} {st : Status} {data : List Byte}

theorem answered_congr (h : t.eps = s.eps) (ha : answered s ep n req st data) : answered t ep n req st data := by
  simp only [answered, getIn, getEp, h] at ha ⊢
  exact ha

theorem answered_portServed (i op lo hi : Nat) (ha : answered s ep n req st data) :
    answered (portServed s i op lo hi) ep n req st data := by
  obtain ⟨hin, hout⟩ := ha
  refine ⟨?_, ?_⟩
  · rw [portServed, getIn_mapPort, hin]
    exact ite_self _
  · rwa [portServed, epOut_mapPort]

/-- The entry that the port has just served waits anew already. -/
theorem getIn_portServed {g : Ingress} (i op lo hi : Nat) (h : getIn s ep n = some g) (hw : g.wait = 0) :
    getIn (portServed s i op lo hi) ep n = some g := by
  have hpass : portPassed op lo hi (fun y => { y with wait := 0 }) (some g) = some g := portPassed_some (by rw [← hw])
  rw [portServed, getIn_mapPort, h, hpass]
  exact ite_self _

theorem answered_bankServed (i : Nat) (ha : answered s ep n req st data) : answered (bankServed s i) ep n req st data := by
  unfold bankServed
  dsimp only
  refine answered_congr (foldl_keeps State.eps (fun s m => (rfl : (setMi s m _).eps = s.eps)) _ _) ?_
  exact answered_portServed _ _ _ _ (answered_portServed _ _ _ _ ha)

/-- An answer with any mark of a conflict frees the entry and leaves the response to be injected. -/
theorem answered_answerC {g : Ingress} (h : getIn s ep n = some g) (st : Status) (data : List Byte) (endTag : Nat) (c : Bool) :
    answered (answerC s ep n st data endTag c) ep n g.req st data := by
  obtain ⟨f, hf, hnet, hprops⟩ := respond_eq (setIn s ep n none) ep g.req st data data.length endTag (c || wasConflict g st)
  have hans : answerC s ep n st data endTag c = pushOut (setIn s ep n none) ep f := by
    rw [answerC, h]
    exact hf
  refine ⟨by rw [hans, getIn_pushOut, getIn_setIn_same], f, ?_, hprops⟩
  rw [hans, ← hnet, epOut_pushOut_same]
  exact List.mem_append_right _ (List.mem_singleton_self f)

theorem getIn_congr (h : t.eps = s.eps) (ep n : Nat) : getIn t ep n = getIn s ep n := by rw [getIn, getIn, getEp, getEp, h]

end

theorem getIn_of_served {s : State} {ep n : Nat} {g : Ingress} {p : Place} {j : Nat} (h : served s ep n = some (g, p, j)) :
    getIn s ep n = some g := by
  unfold served at h
  cases hin : getIn s ep n with
  | none => simp [hin] at h
  | some g' =>
    simp only [hin] at h
    split at h
    · split at h
      · obtain ⟨rfl, -⟩ := Prod.mk.inj (Option.some.inj h)
        rfl
      · cases h
    · cases h

/-! ### BANK_READ -/

section
variable {s : State} {ep : Fin 2048} {n : Fin 32} {g : Ingress} {i off j : Nat}

theorem readHalves_mem (s : State) (i : Nat) (hs : List Nat) : (readHalves s i hs).1.mem = s.mem :=
  readHalves_keeps State.mem (fun s off => mem_of_queueMem (queueMem_readHalf s i off)) hs s

theorem readHalves_eps (s : State) (i : Nat) (hs : List Nat) : (readHalves s i hs).1.eps = s.eps :=
  readHalves_keeps State.eps (fun s off => congrArg Prod.fst (epsErrs_readHalf s i off)) hs s

theorem answer_mem (s : State) (ep n : Nat) (st : Status) (data : List Byte) : (answer s ep n st data).mem = s.mem := by
  rw [answer_frame]

theorem bankServed_mem (s : State) (i : Nat) : (bankServed s i).mem = s.mem := mem_of_queueMem (queueMem_bankServed s i)

/-- What BANK_READ answers, by what the check bits say. -/
theorem opBankRead_answers (hs : served s ep n = some (g, .bank i off, j)) (hop : reqWrite g.req = false) {b : Bool}
    (hb : (halves off (reqLen g.req)).any (fun h => decide (halfErr s i (8 * h) = 2)) = b) :
    answered (opBankRead ep n s) ep n g.req (if b then .eccUncorrected else .ok)
        (if b then [] else memRead s (tileBase i + off) (reqLen g.req))
      ∧ (opBankRead ep n s).mem = s.mem := by
  have hin : getIn (readHalves s i (halves off (reqLen g.req))).1 ep n = some g :=
    (getIn_congr (readHalves_eps ..) ep n).trans (getIn_of_served hs)
  have hmem := readHalves_mem s i (halves off (reqLen g.req))
  simp only [opBankRead, hs, hop, Bool.false_eq_true, if_false, readHalves_snd, hb, memRead_congr hmem]
  cases b with
  | true => exact ⟨answered_bankServed i (answered_answer hin _ _), (bankServed_mem ..).trans ((answer_mem ..).trans hmem)⟩
  | false => exact ⟨answered_bankServed i (answered_answer hin _ _), (bankServed_mem ..).trans ((answer_mem ..).trans hmem)⟩

theorem bankRead_ok (hs : served s ep n = some (g, .bank i off, j)) (hop : reqWrite g.req = false)
    (hgood : ∀ h ∈ halves off (reqLen g.req), halfErr s i (8 * h) ≠ 2) :
    ∃ t : State, exec (.bankRead ep n) s = .next t
      ∧ answered t ep n g.req .ok (memRead s (tileBase i + off) (reqLen g.req)) ∧ t.mem = s.mem :=
  ⟨_, rfl, opBankRead_answers hs hop (b := false) (by simpa using hgood)⟩

theorem bankRead_uncorrectable (hs : served s ep n = some (g, .bank i off, j)) (hop : reqWrite g.req = false)
    (hbad : ∃ h ∈ halves off (reqLen g.req), halfErr s i (8 * h) = 2) :
    ∃ t : State, exec (.bankRead ep n) s = .next t ∧ answered t ep n g.req .eccUncorrected [] ∧ t.mem = s.mem :=
  ⟨_, rfl, opBankRead_answers hs hop (b := true) (by simpa using hbad)⟩

/-! ### BANK_WRITE -/

theorem bumpConflicts_eps (s : State) (i : Nat) : (bumpConflicts s i).eps = s.eps := by
  unfold bumpConflicts
  split <;> rfl

/-- The counters of a collision (spec 06 R201). -/
def collided (s : State) (i : Nat) : State :=
  bumpConflicts (setB (noteB s i (fun b => { b with bankColl := BitVec.ofNat 32 (satAdd 32 b.bankColl.toNat 1) })) i
    (fun b => { b with lastWrite := none })) i

theorem collided_eps (s : State) (i : Nat) : (collided s i).eps = s.eps := by
  rw [collided, bumpConflicts_eps, setB_eps]
  exact congrArg Prod.fst (epsErrs_noteB ..)

theorem collided_mem (s : State) (i : Nat) : (collided s i).mem = s.mem := by
  rw [collided, mem_of_queueMem (queueMem_bumpConflicts ..), mem_of_queueMem (queueMem_setB ..),
    mem_of_queueMem (queueMem_noteB ..)]

/-- The bank behind a write of bytes, the halves read that it covers in part. -/
def bankWritten (s : State) (i off : Nat) (bs : List Byte) : State :=
  putBank (readHalves s i (partHalves off bs.length)).1 i off bs

theorem bankWritten_eps (s : State) (i off : Nat) (bs : List Byte) : (bankWritten s i off bs).eps = s.eps := by
  rw [bankWritten, putBank_eps, readHalves_eps]

theorem stored_bankWritten (s : State) (i off : Nat) (bs : List Byte) :
    Stored s (bankWritten s i off bs) (tileBase i + off) bs := Stored.congr (readHalves_mem ..) (mem_putBank ..) rfl

theorem bankWrite_done {bs : List Byte} (hs : served s ep n = some (g, .bank i off, j)) (hop : reqWrite g.req = true)
    (hdata : g.wdata = some bs) (hlen : bs.length = reqLen g.req)
    (hgood : ∀ h ∈ halves off (reqLen g.req), coversHalf off (reqLen g.req) h = false → halfErr s i (8 * h) ≠ 2) (same : Bool) :
    ∃ t : State, exec (.bankWrite ep n same) s = .next t ∧ answered t ep n g.req .ok []
      ∧ memRead t (tileBase i + off) (reqLen g.req) = bs
      ∧ ∀ a : Nat, (a < tileBase i + off ∨ tileBase i + off + reqLen g.req ≤ a) → memGet t a = memGet s a := by
  have hwrite : writeBank s i off bs = (bankWritten s i off bs, false) := writeBank_done (by rwa [hlen])
  have htake : ((some bs).getD []).take (reqLen g.req) = bs := by
    rw [← hlen]
    exact List.take_length
  obtain ⟨c, hexec⟩ : ∃ c : Bool, opBankWrite ep n same s
      = bankServed (answerC (if c then collided (bankWritten s i off bs) i else bankWritten s i off bs) ep n .ok [] 0 c) i := by
    simp only [opBankWrite, hs, hop, Bool.not_true, Bool.false_eq_true, if_false, hdata, htake, hwrite]
    exact ⟨_, rfl⟩
  have hstored : Stored s (opBankWrite ep n same s) (tileBase i + off) bs := by
    refine Stored.congr rfl (stored_bankWritten s i off bs) ?_
    rw [hexec, bankServed_mem, mem_of_queueMem (queueMem_answerC ..), apply_ite State.mem, collided_mem, ite_self]
  refine ⟨_, rfl, ?_, hlen ▸ hstored.read, fun a ha => hstored.outside (hlen.symm ▸ ha)⟩
  show answered (opBankWrite ep n same s) ep n g.req .ok []
  rw [hexec]
  refine answered_bankServed i (answered_answerC ((getIn_congr ?_ ep n).trans (getIn_of_served hs)) _ _ _ _)
  rw [apply_ite State.eps, collided_eps, ite_self, bankWritten_eps]

/-! ### XY_NETWORK_ACCESS -/

theorem xyWrite_eps (s : State) (i : Nat) (y : Bool) (a : Nat) (w : Word) : (xyWrite s i y a w).eps = s.eps :=
  memWrite_eps ..

theorem stored_xyWrite (s : State) (i : Nat) (y : Bool) (a : Nat) (w : Word) :
    Stored s (xyWrite s i y a w) (xyAddr i y a) (bytesLE 4 w.toNat) := rfl

/-- The memory, Y or X, and the word there that an access reaches after `moved` bytes. -/
def xyHalf (off moved : Nat) : Bool := decide (1024 ≤ off / 4 + moved / 4)
def xyIdx (off moved : Nat) : Nat := (off / 4 + moved / 4) % 1024

theorem xyAddr_moved {off moved : Nat} (i : Nat) (hoff : off % 4 = 0) (hm : moved % 4 = 0) (hend : off + moved + 4 ≤ 0x2000) :
    xyAddr i (xyHalf off moved) (xyIdx off moved) = tileBase i + off + moved := by
  rw [xyAddr, xyHalf, xyIdx]
  by_cases h : 1024 ≤ off / 4 + moved / 4
  · rw [decide_eq_true h, if_pos rfl]
    omega
  · rw [decide_eq_false h, if_neg Bool.false_ne_true]
    omega

theorem bytesLE_leAt_slice (bs : List Byte) (k : Nat) : bytesLE 4 (BitVec.ofNat 32 (leAt bs k 4)).toNat = sliceBytes bs k 4 := by
  rw [leAt, bytesLE_word (length_sliceBytes ..)]

theorem bytesLE_leAt (bs : List Byte) (k : Nat) : bytesLE 4 (BitVec.ofNat 32 (leAt bs k 4)).toNat = bytesLE 4 (leAt bs k 4) := by
  have hback := bytesLE_leBytes (sliceBytes bs k 4)
  rw [length_sliceBytes] at hback
  rw [bytesLE_leAt_slice, leAt, hback]

/-- The entry of an access after one more word. -/
def xyMoved (g : Ingress) (bad : Bool) (w : SWord) : Ingress :=
  { g with busy := true, moved := g.moved + 4, wait := 0, bad := g.bad || bad, part := g.part ++ bytesLE 4 w.data.toNat }

/-- An access after one word: it stays for the next one or, behind the last one, is answered OK. -/
def xyNext (s : State) (ep n : Nat) (g : Ingress) (w : SWord) (data : List Byte) : State :=
  if g.moved + 4 < reqLen g.req then setIn s ep n (some (xyMoved g false w)) else answer s ep n .ok data

theorem xyNext_mem (s : State) (ep n : Nat) (g : Ingress) (w : SWord) (data : List Byte) : (xyNext s ep n g w data).mem = s.mem := by
  rw [xyNext, apply_ite State.mem, mem_of_queueMem (queueMem_setIn ..), answer_mem, ite_self]

theorem opXyAccess_write {bs : List Byte} (hs : served s ep n = some (g, .xy i off, j)) (hop : reqWrite g.req = true)
    (hdata : g.wdata = some bs) :
    opXyAccess ep n s = portServed (xyNext (xyWrite s i (xyHalf off g.moved) (xyIdx off g.moved) (BitVec.ofNat 32 (leAt bs g.moved 4)))
      ep n g (xyWord s i (xyHalf off g.moved) (xyIdx off g.moved)) []) i g.req.op.toNat (xyAddr i (xyHalf off g.moved) 0)
      (xyAddr i (xyHalf off g.moved) 1024) := by
  have hbytes : g.wdata.getD [] = bs := by rw [hdata]; rfl
  simp only [opXyAccess, hs, hop, hbytes, Bool.not_true, Bool.false_and, if_true]
  rfl

theorem opXyAccess_read (hs : served s ep n = some (g, .xy i off, j)) (hop : reqWrite g.req = false) (hgood : s.xyBad = [])
    (hbad : g.bad = false) :
    opXyAccess ep n s = portServed (xyNext s ep n g (xyWord s i (xyHalf off g.moved) (xyIdx off g.moved))
      (g.part ++ bytesLE 4 (xyWord s i (xyHalf off g.moved) (xyIdx off g.moved)).data.toNat)) i g.req.op.toNat
      (xyAddr i (xyHalf off g.moved) 0) (xyAddr i (xyHalf off g.moved) 1024) := by
  have htag : ∀ y a, (xyWord s i y a).tag = .data := by
    intro y a
    rw [xyWord, hgood]
    rfl
  simp only [opXyAccess, hs, hop, hbad, htag, Bool.false_eq_true, if_false, reduceCtorEq, decide_false, Bool.and_false,
    Bool.or_false, xyNext, xyMoved]
  rfl

/-- What an access leaves after its word: the entry that waits anew, or the answer. -/
theorem xyNext_served {u : State} (hin : getIn u ep n = some g) (w : SWord) (data : List Byte) (op lo hi : Nat) :
    (g.moved + 4 < reqLen g.req → getIn (portServed (xyNext u ep n g w data) i op lo hi) ep n = some (xyMoved g false w))
      ∧ (reqLen g.req ≤ g.moved + 4 → answered (portServed (xyNext u ep n g w data) i op lo hi) ep n g.req .ok data) := by
  refine ⟨fun hmore => ?_, fun hlast => ?_⟩
  · rw [xyNext, if_pos hmore]
    exact getIn_portServed _ _ _ _ (getIn_setIn_same ..) rfl
  · rw [xyNext, if_neg (Nat.not_lt.mpr hlast)]
    exact answered_portServed _ _ _ _ (answered_answer hin _ _)

theorem xyAccess_write {bs : List Byte} (hs : served s ep n = some (g, .xy i off, j)) (hop : reqWrite g.req = true)
    (hdata : g.wdata = some bs) (hoff : off % 4 = 0) (hm : g.moved % 4 = 0) (hend : off + g.moved + 4 ≤ 0x2000) :
    ∃ t : State, exec (.xyNetworkAccess ep n) s = .next t
      ∧ (g.moved + 4 < reqLen g.req → ∃ h : Ingress, getIn t ep n = some h ∧ h.moved = g.moved + 4 ∧ h.req = g.req ∧ h.wait = 0)
      ∧ (reqLen g.req ≤ g.moved + 4 → answered t ep n g.req .ok [])
      ∧ memRead t (tileBase i + off + g.moved) 4 = bytesLE 4 (leAt bs g.moved 4)
      ∧ ∀ a : Nat, (a < tileBase i + off + g.moved ∨ tileBase i + off + g.moved + 4 ≤ a) → memGet t a = memGet s a := by
  have hlen : (bytesLE 4 (leAt bs g.moved 4)).length = 4 := length_bytesLE ..
  have hstored : Stored s (opXyAccess ep n s) (tileBase i + off + g.moved) (bytesLE 4 (leAt bs g.moved 4)) := by
    have hst := stored_xyWrite s i (xyHalf off g.moved) (xyIdx off g.moved) (BitVec.ofNat 32 (leAt bs g.moved 4))
    rw [xyAddr_moved i hoff hm hend, bytesLE_leAt] at hst
    refine Stored.congr rfl hst ?_
    rw [opXyAccess_write hs hop hdata, mem_of_queueMem (queueMem_portServed ..), xyNext_mem]
  obtain ⟨hnext, hlast⟩ := opXyAccess_write hs hop hdata ▸ xyNext_served (i := i)
    ((getIn_congr (xyWrite_eps s i (xyHalf off g.moved) (xyIdx off g.moved) (BitVec.ofNat 32 (leAt bs g.moved 4))) ep n).trans
      (getIn_of_served hs)) (xyWord s i (xyHalf off g.moved) (xyIdx off g.moved)) [] g.req.op.toNat
    (xyAddr i (xyHalf off g.moved) 0) (xyAddr i (xyHalf off g.moved) 1024)
  exact ⟨_, rfl, fun hmore => ⟨_, hnext hmore, rfl, rfl, rfl⟩, hlast, hlen ▸ hstored.read,
    fun a ha => hstored.outside (hlen.symm ▸ ha)⟩

theorem xyAccess_read (hs : served s ep n = some (g, .xy i off, j)) (hop : reqWrite g.req = false) (hgood : s.xyBad = [])
    (hbad : g.bad = false) (hoff : off % 4 = 0) (hm : g.moved % 4 = 0) (hend : off + g.moved + 4 ≤ 0x2000) :
    ∃ t : State, exec (.xyNetworkAccess ep n) s = .next t ∧ t.mem = s.mem
      ∧ (g.moved + 4 < reqLen g.req → ∃ h : Ingress, getIn t ep n = some h ∧ h.moved = g.moved + 4 ∧ h.req = g.req ∧ h.wait = 0
          ∧ h.part = g.part ++ memRead s (tileBase i + off + g.moved) 4)
      ∧ (reqLen g.req ≤ g.moved + 4 →
          answered t ep n g.req .ok (g.part ++ memRead s (tileBase i + off + g.moved) 4)) := by
  have hword : bytesLE 4 (xyWord s i (xyHalf off g.moved) (xyIdx off g.moved)).data.toNat
      = memRead s (tileBase i + off + g.moved) 4 := by
    rw [xyWord, bytesLE_word (length_memRead ..), xyAddr_moved i hoff hm hend]
  obtain ⟨hnext, hlast⟩ := opXyAccess_read hs hop hgood hbad ▸ xyNext_served (i := i) (getIn_of_served hs)
    (xyWord s i (xyHalf off g.moved) (xyIdx off g.moved))
    (g.part ++ bytesLE 4 (xyWord s i (xyHalf off g.moved) (xyIdx off g.moved)).data.toNat) g.req.op.toNat
    (xyAddr i (xyHalf off g.moved) 0) (xyAddr i (xyHalf off g.moved) 1024)
  rw [hword] at hlast
  refine ⟨_, rfl, ?_, fun hmore => ⟨_, hnext hmore, rfl, rfl, rfl, congrArg (g.part ++ ·) hword⟩, hlast⟩
  show (opXyAccess ep n s).mem = s.mem
  rw [opXyAccess_read hs hop hgood hbad, mem_of_queueMem (queueMem_portServed ..), xyNext_mem]

end

/-- Settles O20: what a request reads or writes lies at the address it names, and its answer survives the port cycle. -/
theorem bankRequests : Obligations.BankRequests :=
  ⟨fun _ _ _ _ _ _ _ hs hop hgood => bankRead_ok hs hop hgood,
    fun _ _ _ _ _ _ _ hs hop hbad => bankRead_uncorrectable hs hop hbad,
    fun _ _ _ _ _ _ _ _ same hs hop hdata hlen hgood => bankWrite_done hs hop hdata hlen hgood same,
    fun _ _ _ _ _ _ _ _ hs hop hdata hoff hm hend => xyAccess_write hs hop hdata hoff hm hend,
    fun _ _ _ _ _ _ _ hs hop hgood hbad hoff hm hend => xyAccess_read hs hop hgood hbad hoff hm hend⟩

end Sys2Proof.Proofs
end

section
/-! PROOFS. Requests at a queue's port page (spec 06 R214 to R220): pushes, pops and credits, O21. -/

namespace Sys2Proof.Proofs

open Machine Laws Claims

/-! ### Pushes -/

theorem qDepth_credited (q : BQueue) (k : Nat) : qDepth { q with credited := k } = qDepth q := rfl

theorem setQ_eps (s : State) (i n : Nat) (q : BQueue) : (setQ s i n q).eps = s.eps := rfl

theorem reportTile_eps (s : State) (i code : Nat) (det : List Byte) : (reportTile s i code det).eps = s.eps := report_eps ..

theorem static_setB (s : State) (i : Nat) (f : BPart → BPart) : (getT (setB s i f) i).static = (getT s i).static := by
  rw [setB, getT_setT_same]

theorem qType_setQ (s : State) (i n m : Nat) (q : BQueue) : qType (getT (setQ s i n q) i) m = qType (getT s i) m := by
  rw [qType, qCfg, setQ, static_setB, ← qCfg, ← qType]

section
variable {s : State} {ep : Fin 2048} {n : Fin 32} {g : Ingress} {i q off j : Nat}

/-- A push whose words stand in their queue: answered at once, or waiting for row moves in its entry (spec 06 R581). -/
def pushHeld (s : State) (ep n i q : Nat) (g : Ingress) : State :=
  if (getQ (getT s i) q).incoming = [] then answer s ep n .ok [] else setIn s ep n (some { g with busy := true })

theorem getT_pushHeld (s : State) (ep n i q : Nat) (g : Ingress) : getT (pushHeld s ep n i q g) i = getT s i := by
  unfold pushHeld
  split
  · rw [getT_answer]
  · rfl

/-- A push to a STREAM queue in state `u`, whose queue differs from that of `s` in its credits alone. -/
theorem pushWords_taken {u : State} {k : Nat} (hin : getIn s ep n = some g) (hu : u.eps = s.eps) (hty : qType (getT u i) q = 0)
    (hq : getQ (getT u i) q = { getQ (getT s i) q with credited := k }) (hplace : pushPlace s i q) (ws : List SWord) :
    pushTaken s (pushHeld (pushWords u i q ws) ep n i q g) ep n g i q ws.length
      ∧ (getQ (getT (pushHeld (pushWords u i q ws) ep n i q g) i) q).credited = k := by
  obtain ⟨⟨b, hqueue⟩, heps, -⟩ := pushWords_queue hty ws
  obtain ⟨hinc, -⟩ := hplace
  have hans : answered (answer (pushWords u i q ws) ep n .ok []) ep n g.req .ok [] :=
    answered_answer ((getIn_congr (heps.trans hu) ep n).trans hin) _ _
  rw [pushTaken, getT_pushHeld, qDepth_pushWords hty, hq]
  refine ⟨⟨rfl, fun hfits => ?_, ?_⟩, ?_⟩
  · have hnone : (getQ (getT (pushWords u i q ws) i) q).incoming = [] := by
      rw [hqueue, hq]
      exact qFeed_incoming (by simpa [hinc] using hfits)
    rwa [pushHeld, if_pos hnone]
  · unfold pushHeld
    split
    · exact .inl hans
    · exact .inr (getIn_setIn_same ..)
  · rw [hqueue, hq]
    exact qFeed_credited _

theorem netPush_fresh (credited : Bool) (hs : served s ep n = some (g, .port i q off, j)) (hop : reqWrite g.req = true)
    (hbusy : g.busy = false) (hside : (off / 64 % 2 == 0) = credited) (hplace : pushPlace s i q)
    (hroom : netRoom (getT s i) q credited (pushWordsOf g off) = true) :
    netPush credited ep n s = pushHeld (pushWords (if credited then setQ s i q { getQ (getT s i) q with
      credited := (getQ (getT s i) q).credited - (pushWordsOf g off).length } else s) i q (pushWordsOf g off)) ep n i q g := by
  obtain ⟨hinc, hasm⟩ := hplace
  have hfree : ¬((getQ (getT s i) q).incoming ≠ [] ∨ 4 ≤ (getQ (getT s i) q).asm.length) := by
    rw [hinc]
    simpa using hasm
  unfold pushWordsOf at hroom ⊢
  simp only [netPush, hs, hop, hside, bne_self_eq_false, hbusy, hroom, hfree, Bool.not_true, Bool.or_self, Bool.false_eq_true,
    and_false, if_false]
  rfl

theorem creditedPush_taken (hs : served s ep n = some (g, .port i q off, j)) (hop : reqWrite g.req = true)
    (hbusy : g.busy = false) (hty : qType (getT s i) q = 0) (hside : off / 64 % 2 = 0) (hplace : pushPlace s i q)
    (hroom : netRoom (getT s i) q true (pushWordsOf g off) = true) :
    ∃ t : State, exec (.creditedPush ep n) s = .next t ∧ pushTaken s t ep n g i q (pushWordsOf g off).length
      ∧ (getQ (getT t i) q).credited + (pushWordsOf g off).length = (getQ (getT s i) q).credited := by
  have hcredits : (pushWordsOf g off).length ≤ (getQ (getT s i) q).credited := by
    simp only [netRoom, if_true, decide_eq_true_eq] at hroom
    exact hroom.1
  refine ⟨netPush true ep n s, rfl, ?_⟩
  rw [netPush_fresh true hs hop hbusy (by rw [hside]; rfl) hplace hroom, if_pos rfl]
  obtain ⟨htaken, hleft⟩ := pushWords_taken (getIn_of_served hs) (setQ_eps ..) ((qType_setQ ..).trans hty) (getQ_setQ_same ..)
    hplace (pushWordsOf g off)
  exact ⟨htaken, by rw [hleft, Nat.sub_add_cancel hcredits]⟩

theorem uncreditedPush_taken (hs : served s ep n = some (g, .port i q off, j)) (hop : reqWrite g.req = true)
    (hbusy : g.busy = false) (hty : qType (getT s i) q = 0) (hside : off / 64 % 2 = 1) (hplace : pushPlace s i q)
    (hroom : netRoom (getT s i) q false (pushWordsOf g off) = true) :
    ∃ t : State, exec (.uncreditedPush ep n) s = .next t ∧ pushTaken s t ep n g i q (pushWordsOf g off).length
      ∧ (getQ (getT t i) q).credited = (getQ (getT s i) q).credited := by
  refine ⟨netPush false ep n s, rfl, ?_⟩
  rw [netPush_fresh false hs hop hbusy (by rw [hside]; rfl) hplace hroom, if_neg Bool.false_ne_true]
  exact pushWords_taken (getIn_of_served hs) rfl hty rfl hplace (pushWordsOf g off)

/-- An accepted push all of whose words have found their rows is answered. -/
theorem netPush_busy (credited : Bool) (hs : served s ep n = some (g, .port i q off, j)) (hop : reqWrite g.req = true)
    (hbusy : g.busy = true) (hinc : (getQ (getT s i) q).incoming = []) (hside : (off / 64 % 2 == 0) = credited) :
    netPush credited ep n s = answer s ep n .ok [] := by
  simp only [netPush, hs, hop, hside, bne_self_eq_false, hbusy, hinc, Bool.not_true, Bool.or_self, Bool.false_eq_true, if_true, if_false]

theorem busyPush_answered {c : Instr} (hs : served s ep n = some (g, .port i q off, j)) (hop : reqWrite g.req = true)
    (hbusy : g.busy = true) (hinc : (getQ (getT s i) q).incoming = [])
    (hc : (off / 64 % 2 = 0 ∧ c = .creditedPush ep n) ∨ (off / 64 % 2 = 1 ∧ c = .uncreditedPush ep n)) :
    ∃ t : State, exec c s = .next t ∧ answered t ep n g.req .ok [] ∧ t.tiles = s.tiles ∧ t.mem = s.mem := by
  refine ⟨answer s ep n .ok [], ?_, answered_answer (getIn_of_served hs) _ _, by rw [answer_frame], answer_mem ..⟩
  obtain ⟨hside, rfl⟩ | ⟨hside, rfl⟩ := hc
  · exact congrArg _ (netPush_busy true hs hop hbusy hinc (by rw [hside]; rfl))
  · exact congrArg _ (netPush_busy false hs hop hbusy hinc (by rw [hside]; rfl))

theorem uncreditedPush_refused (hs : served s ep n = some (g, .port i q off, j)) (hop : reqWrite g.req = true)
    (hbusy : g.busy = false) (hside : off / 64 % 2 = 1) (hroom : netRoom (getT s i) q false (pushWordsOf g off) = false) :
    ∃ t : State, exec (.uncreditedPush ep n) s = .next t ∧ answered t ep n g.req .length []
      ∧ (getQ (getT t i) q).refused.toNat = min ((getQ (getT s i) q).refused.toNat + 1) 65535
      ∧ qDepth (getQ (getT t i) q) = qDepth (getQ (getT s i) q) ∧ t.mem = s.mem := by
  have hpush : netPush false ep n s = pushRefused s ep n i q (reqKey g.req) := by
    have hodd : (off / 64 % 2 == 0) = false := by rw [hside]; rfl
    unfold pushWordsOf at hroom
    simp only [netPush, hs, hop, hodd, bne_self_eq_false, hbusy, hroom, Bool.not_true, Bool.not_false, Bool.or_self, Bool.false_eq_true,
      if_true, if_false]
  have hqueue : getQ (getT (pushRefused s ep n i q (reqKey g.req)) i) q = { getQ (getT s i) q with
      refused := BitVec.ofNat 16 (satAdd 16 (getQ (getT s i) q).refused.toNat 1) } := by
    rw [pushRefused, getT_answer, getT_congr (reportTile_tiles ..), getQ_setQ_same]
  refine ⟨netPush false ep n s, rfl, ?_⟩
  rw [hpush, hqueue]
  refine ⟨answered_answer ((getIn_congr ((reportTile_eps ..).trans (setQ_eps ..)) ep n).trans (getIn_of_served hs)) _ _, ?_, rfl, ?_⟩
  · simp only [satAdd, BitVec.toNat_ofNat]
    omega
  · rw [pushRefused, answer_mem, mem_of_queueMem (queueMem_reportTile ..), mem_of_queueMem (queueMem_setQ ..)]

/-! ### Pops -/

theorem headWord_pre {q : BQueue} {w : SWord} {rest : List SWord} (h : q.pre = w :: rest) : headWord q = some w := by
  simp only [headWord, h]

/-- A pop of one word takes the DATA word that stands first in the read-prefetch row. -/
theorem servePop_word {w : SWord} (hin : getIn s ep n = some g) (hhead : (getQ (getT s i) q).pre.head? = some w)
    (htag : w.tag = .data) (hmoved : g.moved = 0) (hpart : g.part = []) :
    answered (servePop s ep n i q 1 g) ep n g.req .ok (bytesLE 4 w.data.toNat)
      ∧ qDepth (getQ (getT (servePop s ep n i q 1 g) i) q) + 1 = qDepth (getQ (getT s i) q) := by
  obtain ⟨rest, hpre⟩ := List.head?_eq_some_iff.mp hhead
  have hserve : servePop s ep n i q 1 g
      = answer (setQ s i q (qFeed { getQ (getT s i) q with pre := rest })) ep n .ok (bytesLE 4 w.data.toNat) := by
    simp only [servePop, hmoved, hpart, popTake, headWord_pre hpre, takeWord_pre hpre, htag, reduceCtorEq, isEnd, if_false,
      List.nil_append, Bool.false_eq_true]
    rfl
  rw [hserve]
  refine ⟨answered_answer ((getIn_congr (setQ_eps ..) ep n).trans hin) _ _, ?_⟩
  rw [getT_answer, getQ_setQ_same, qDepth_qFeed]
  exact qDepth_pre hpre

/-- A queue with a word in its read-prefetch row has one to pop. -/
theorem popReady_word {w : SWord} (hhead : (getQ (getT s i) q).pre.head? = some w) (waited : Bool) : popReady s i q 1 waited = true := by
  obtain ⟨rest, hpre⟩ := List.head?_eq_some_iff.mp hhead
  have hdepth : 1 ≤ qDepth (getQ (getT s i) q) := qDepth_pre hpre ▸ Nat.le_add_left ..
  simp [popReady, hdepth]

theorem queuePop_word {w : SWord} (hs : served s ep n = some (g, .port i q off, j)) (hop : reqWrite g.req = false) (hoff : off < 64)
    (hlen : reqLen g.req = 4) (hheld : (getQ (getT s i) q).held = []) (hhead : (getQ (getT s i) q).pre.head? = some w)
    (htag : w.tag = .data) (hbusy : g.busy = false) (hmoved : g.moved = 0) (hpart : g.part = []) (hlock : popLocked s i q = false) :
    ∃ t : State, exec (.queuePop ep n) s = .next t ∧ answered t ep n g.req .ok (bytesLE 4 w.data.toNat)
      ∧ qDepth (getQ (getT t i) q) + 1 = qDepth (getQ (getT s i) q) := by
  have hpop : opQueuePop ep n s = servePop s ep n i q 1 g := by
    simp only [opQueuePop, hs, hop, decide_eq_false (Nat.not_le.mpr hoff), hlen, hbusy, hlock, hheld, popReady_word hhead, Nat.div_self,
      Nat.zero_lt_succ, List.any_nil, Bool.not_false, Bool.and_self, Bool.or_self, Bool.false_eq_true, if_true, if_false]
  refine ⟨opQueuePop ep n s, rfl, ?_⟩
  rw [hpop]
  exact servePop_word (getIn_of_served hs) hhead htag hmoved hpart

/-- A queue and an ingress entry written together. -/
theorem getIn_getQ_set (s : State) (ep n i q : Nat) (c : BQueue) (x : Option Ingress) :
    getIn (setIn (setQ s i q c) ep n x) ep n = x ∧ getQ (getT (setIn (setQ s i q c) ep n x) i) q = c :=
  ⟨getIn_setIn_same .., getQ_setQ_same ..⟩

theorem queuePop_held (hs : served s ep n = some (g, .port i q off, j)) (hop : reqWrite g.req = false) (hoff : off < 64)
    (hready : popReady s i q (reqLen g.req / 4) false = false) (hfew : (getQ (getT s i) q).held.length < 4) (hbusy : g.busy = false)
    (hlock : popLocked s i q = false) :
    ∃ t : State, exec (.queuePop ep n) s = .next t ∧ getIn t ep n = some { g with held := true }
      ∧ (getQ (getT t i) q).held = (getQ (getT s i) q).held ++ [⟨true, ep, n⟩] := by
  have hpop : opQueuePop ep n s = setIn (setQ s i q { getQ (getT s i) q with held := (getQ (getT s i) q).held ++ [⟨true, ep, n⟩] })
      ep n (some { g with held := true }) := by
    simp only [opQueuePop, hs, hop, decide_eq_false (Nat.not_le.mpr hoff), hbusy, hlock, hready, Bool.false_and, Bool.or_self,
      Bool.false_eq_true, if_false, holdReq, Nat.not_le.mpr hfew]
  refine ⟨opQueuePop ep n s, rfl, ?_⟩
  obtain ⟨hentry, hqueue⟩ := getIn_getQ_set s ep n i q { getQ (getT s i) q with held := (getQ (getT s i) q).held ++ [⟨true, ep, n⟩] }
    (some { g with held := true })
  rw [hpop, hqueue]
  exact ⟨hentry, rfl⟩

/-- A held request taken out leaves the words of its queue. -/
theorem takeHeld_pre {q c : BQueue} {pop : Bool} {h : Held} (ht : takeHeld q pop = some (h, c)) : c.pre = q.pre ∧ qDepth c = qDepth q := by
  unfold takeHeld at ht
  split at ht
  · obtain ⟨-, rfl⟩ := Prod.mk.inj (Option.some.inj ht)
    exact ⟨rfl, rfl⟩
  · cases ht

end

theorem popServe_word {s : State} {i : TileIx} {q : Fin 4} {h : Held} {c : BQueue} {g : Ingress} {w : SWord} {ep : Fin 2048} {n : Fin 32}
    (ht : takeHeld (getQ (getT s i) q) true = some (h, c)) (hep : h.ep = ep.val) (hn : h.entry = n.val) (hin : getIn s ep n = some g)
    (hruns : fieldRuns s (tileField i) = true) (hlen : reqLen g.req = 4) (hhead : c.pre.head? = some w) (htag : w.tag = .data)
    (hmoved : g.moved = 0) (hpart : g.part = []) (hlock : popLocked s i q = false) (waited : Bool) :
    ∃ t : State, exec (.popServe i q waited) s = .next t ∧ answered t ep n g.req .ok (bytesLE 4 w.data.toNat)
      ∧ qDepth (getQ (getT t i) q) + 1 = qDepth (getQ (getT s i) q) := by
  obtain ⟨hpre, hdepth⟩ := takeHeld_pre ht
  have hserve : opPopServe i q waited s = servePop (setIn (setQ s i q c) ep n (some { g with held := false })) ep n i q 1
      { g with held := false } := by
    simp only [opPopServe, ht, hep, hn, hin, hruns, hlen, popReady_word (hpre ▸ hhead), hlock, Nat.div_self, Nat.zero_lt_succ,
      Bool.not_false, Bool.and_self, if_true]
  refine ⟨opPopServe i q waited s, rfl, ?_⟩
  obtain ⟨hentry, hqueue⟩ := getIn_getQ_set s ep n i q c (some { g with held := false })
  have hword := servePop_word (q := q) (i := i) hentry (w := w) (by rw [hqueue, hhead]) htag hmoved hpart
  rw [hserve, ← hdepth]
  rwa [hqueue] at hword

/-! ### Credits -/

theorem giveGrant_grants {s : State} {ep : Fin 2048} {n : Fin 32} {g : Ingress} (hin : getIn s ep n = some g) (i q k : Nat) :
    answered (giveGrant s ep n i q k) ep n g.req .ok (bytesLE 8 k)
      ∧ getQ (getT (giveGrant s ep n i q k) i) q = { getQ (getT s i) q with credited := (getQ (getT s i) q).credited + k } := by
  refine ⟨answered_answer ((getIn_congr (setQ_eps ..) ep n).trans hin) _ _, ?_⟩
  rw [giveGrant, getT_answer, getQ_setQ_same]

theorem creditRequest_granted {s : State} {ep : Fin 2048} {n : Fin 32} {g : Ingress} {i q off j : Nat}
    (hs : served s ep n = some (g, .port i q off, j)) (hop : reqWrite g.req = false) (hoff : off = 0x40)
    (hheld : (getQ (getT s i) q).held = []) {k : Nat} (hgrant : grantOf (getT s i) q = some k) :
    ∃ t : State, exec (.creditRequest ep n) s = .next t ∧ answered t ep n g.req .ok (bytesLE 8 k)
      ∧ (getQ (getT t i) q).credited = (getQ (getT s i) q).credited + k := by
  have hgive : opCreditRequest ep n s = giveGrant s ep n i q k := by
    simp only [opCreditRequest, hs, hop, hoff, bne_self_eq_false, hgrant, hheld, List.any_nil, Bool.or_self, Bool.false_eq_true, if_false]
  obtain ⟨hans, hqueue⟩ := giveGrant_grants (getIn_of_served hs) i q k
  refine ⟨opCreditRequest ep n s, rfl, ?_⟩
  rw [hgive, hqueue]
  exact ⟨hans, rfl⟩

theorem grantOf_free {t : Tile} {q : Nat} (h : 0 < qCap t q - qDepth (getQ t q) - (getQ t q).credited) :
    grantOf t q = some (min 16 (qCap t q - qDepth (getQ t q) - (getQ t q).credited)) := by
  have hne : min 16 (qCap t q - qDepth (getQ t q) - (getQ t q).credited) ≠ 0 := by omega
  rw [grantOf]
  exact if_neg hne

theorem creditGrantHeld_granted {s : State} {i : TileIx} {q : Fin 4} {h : Held} {c : BQueue} {g : Ingress} {k : Nat} {ep : Fin 2048}
    {n : Fin 32} (ht : takeHeld (getQ (getT s i) q) false = some (h, c)) (hep : h.ep = ep.val) (hn : h.entry = n.val)
    (hin : getIn s ep n = some g) (hruns : fieldRuns s (tileField i) = true) (hgrant : grantOf (getT s i) q = some k) :
    ∃ t : State, exec (.creditGrantHeld i q) s = .next t ∧ answered t ep n g.req .ok (bytesLE 8 k)
      ∧ (getQ (getT t i) q).credited = c.credited + k ∧ (getQ (getT t i) q).held = c.held := by
  have hgive : opCreditGrantHeld i q s = giveGrant (setQ s i q c) ep n i q k := by
    simp only [opCreditGrantHeld, ht, hgrant, hep, hn, hruns, if_true]
  obtain ⟨hans, hqueue⟩ := giveGrant_grants ((getIn_congr (setQ_eps s i q c) ep n).trans hin) i q k
  rw [getQ_setQ_same] at hqueue
  refine ⟨opCreditGrantHeld i q s, rfl, ?_⟩
  rw [hgive, hqueue]
  exact ⟨hans, rfl, rfl⟩

/-- Settles O21: pushes go through the queue's words behind every earlier one, pops through the first word of its prefetch row, and
credits through the grant. -/
theorem queueRequests : Obligations.QueueRequests :=
  ⟨fun _ _ _ _ _ _ _ _ hs hop hbusy hty hside hplace hroom => creditedPush_taken hs hop hbusy hty hside hplace hroom,
    fun _ _ _ _ _ _ _ _ hs hop hbusy hty hside hplace hroom => uncreditedPush_taken hs hop hbusy hty hside hplace hroom,
    fun _ _ _ _ _ _ _ _ _ hs hop hbusy hinc hc => busyPush_answered hs hop hbusy hinc hc,
    fun _ _ _ _ _ _ _ _ hs hop hbusy hside hroom => uncreditedPush_refused hs hop hbusy hside hroom,
    fun _ _ _ _ _ _ _ _ _ hs hop hoff hlen hheld hhead htag hbusy hmoved hpart hlock =>
      queuePop_word hs hop hoff hlen hheld hhead htag hbusy hmoved hpart hlock,
    fun _ _ _ _ _ _ _ _ hs hop hoff hready hfew hbusy hlock => queuePop_held hs hop hoff hready hfew hbusy hlock,
    fun _ _ _ _ _ _ _ _ hs hop hoff hheld hfree => creditRequest_granted hs hop hoff hheld (grantOf_free hfree),
    fun _ _ _ _ _ _ _ waited _ _ ht hep hn hin hruns hlen hhead htag hmoved hpart hlock =>
      popServe_word ht hep hn hin hruns hlen hhead htag hmoved hpart hlock waited,
    fun _ _ _ _ _ _ _ _ _ ht hep hn hin hruns hgrant => creditGrantHeld_granted ht hep hn hin hruns hgrant⟩

end Sys2Proof.Proofs
end

section
/-! PROOFS. Edge groups: the words that end a record and the bytes they give (spec 02 R32, R34; spec 06 R237, R240). -/

namespace Sys2Proof.Proofs

open Machine Laws Claims

/-! ### Bytes of words -/

theorem bytesLE_take (m k v : Nat) (h : m ≤ k) : bytesLE m v = (bytesLE k v).take m := by
  induction m generalizing k v with
  | zero => rfl
  | succ m ih =>
    obtain ⟨k, rfl⟩ : ∃ j, k = j + 1 := ⟨k - 1, by omega⟩
    rw [bytesLE, bytesLE, List.take_succ_cons, ih k (v / 256) (by omega)]

theorem sliceBytes_take (bs : List Byte) (k n m : Nat) (hm : m ≤ n) (h : k + m ≤ bs.length) :
    (sliceBytes bs k n).take m = (bs.drop k).take m := by
  rw [sliceBytes, List.take_append_of_le_length (by rw [List.length_take, List.length_drop]; omega), List.take_take,
    Nat.min_eq_left hm]

/-- A DATA word gives its four bytes. -/
theorem wordBytes_data (bs : List Byte) (k : Nat) (h : k + 4 ≤ bs.length) :
    wordBytes ⟨BitVec.ofNat 32 (leAt bs k 4), .data⟩ = (bs.drop k).take 4 := by
  have hslice := sliceBytes_take bs k 4 4 le_rfl h
  rw [List.take_of_length_le (length_sliceBytes ..).le] at hslice
  rw [← hslice]
  exact bytesLE_leAt_slice bs k

theorem recWords_end {w : SWord} (h : isEnd w.tag = true) (ws : List SWord) : recWords (w :: ws) = [w] := if_pos h

theorem recWords_more {w : SWord} (h : isEnd w.tag = false) (ws : List SWord) : recWords (w :: ws) = w :: recWords ws :=
  if_neg (by rw [h]; exact Bool.false_ne_true)

theorem isEnd_endTagOf (m : Nat) : isEnd (endTagOf m) = true := by
  unfold endTagOf
  split_ifs <;> rfl

theorem wordBytes_endTagOf {m : Nat} (h1 : 1 ≤ m) (h4 : m ≤ 4) (v : Word) : wordBytes ⟨v, endTagOf m⟩ = bytesLE m v.toNat := by
  obtain rfl | rfl | rfl | rfl : m = 1 ∨ m = 2 ∨ m = 3 ∨ m = 4 := by omega
  all_goals rfl

/-- An end word gives the bytes that its tag counts. -/
theorem wordBytes_end (bs : List Byte) (k : Nat) (h : k < bs.length) (h4 : bs.length ≤ k + 4) :
    wordBytes ⟨BitVec.ofNat 32 (leAt bs k 4), endTagOf (bs.length - k)⟩ = bs.drop k := by
  rw [wordBytes_endTagOf (by omega) (by omega), bytesLE_take _ 4 _ (by omega), bytesLE_leAt_slice,
    sliceBytes_take _ _ _ _ (by omega) (by omega), List.take_of_length_le (by rw [List.length_drop])]

/-! ### The read-word that ends a record -/

/-- Word `w` of the read-word whose word `e` ends the record. -/
def endAt (bs : List Byte) (e w : Nat) : SWord :=
  if w < e then ⟨BitVec.ofNat 32 (leAt bs (4 * w) 4), .data⟩
  else if w = e then ⟨BitVec.ofNat 32 (leAt bs (4 * w) 4), endTagOf (bs.length - 4 * e)⟩
  else ⟨0, .pad⟩

theorem endWord_eq (bs : List Byte) : endWord bs = (List.range' 0 4).map (endAt bs ((bs.length - 1) / 4)) := rfl

theorem endAt_end (bs : List Byte) (e : Nat) :
    endAt bs e e = ⟨BitVec.ofNat 32 (leAt bs (4 * e) 4), endTagOf (bs.length - 4 * e)⟩ := by
  rw [endAt, if_neg (Nat.lt_irrefl e), if_pos rfl]

theorem range'_next {k : Nat} (h : k < 4) : List.range' k (4 - k) = k :: List.range' (k + 1) (4 - (k + 1)) := by
  rw [show 4 - k = 4 - (k + 1) + 1 by omega, List.range'_succ]

/-- From word `k` on the words up to the end give the bytes from there on. -/
theorem recWords_endAt {bs : List Byte} {e : Nat} (he : 4 * e < bs.length) (he4 : bs.length ≤ 4 * e + 4) (h4 : e < 4) (d k : Nat)
    (hk : k + d = e) : (recWords ((List.range' k (4 - k)).map (endAt bs e))).flatMap wordBytes = bs.drop (4 * k) := by
  induction d generalizing k with
  | zero =>
    obtain rfl : k = e := hk
    rw [range'_next h4, List.map_cons, endAt_end, recWords_end (isEnd_endTagOf _), List.flatMap_singleton]
    exact wordBytes_end bs (4 * k) he he4
  | succ d ih =>
    have hdata : endAt bs e k = ⟨BitVec.ofNat 32 (leAt bs (4 * k) 4), .data⟩ := if_pos (by omega)
    rw [range'_next (by omega), List.map_cons, hdata, recWords_more rfl, List.flatMap_cons,
      ih (k + 1) (by omega), wordBytes_data bs (4 * k) (by omega), Nat.mul_succ, ← List.drop_drop, List.take_append_drop]

/-- What the words of a record's end give when they are sent. -/
theorem endWord_sent {bs : List Byte} (h1 : 1 ≤ bs.length) (h16 : bs.length ≤ 16) :
    (recWords (endWord bs)).flatMap wordBytes = bs ∧ hasEnd (endWord bs) = true ∧ (endWord bs).length = 4 := by
  refine ⟨?_, ?_, by rw [endWord_eq, List.length_map, List.length_range']⟩
  · rw [endWord_eq]
    exact recWords_endAt (by omega) (by omega) (by omega) ((bs.length - 1) / 4) 0 (Nat.zero_add _)
  · rw [endWord_eq, hasEnd, List.any_eq_true]
    refine ⟨endAt bs ((bs.length - 1) / 4) ((bs.length - 1) / 4), List.mem_map_of_mem ?_, ?_⟩
    · rw [List.mem_range'_1]
      omega
    · rw [endAt_end]
      exact isEnd_endTagOf _

/-! ### Read-words taken by the unpack side -/

theorem recWords_of_data {ws : List SWord} (h : ws.all (fun w => w.tag == .data) = true) :
    recWords ws = ws ∧ hasEnd ws = false ∧ ws.any (fun w => decide (w.tag = .poison)) = false := by
  induction ws with
  | nil => exact ⟨rfl, rfl, rfl⟩
  | cons w ws ih =>
    rw [List.all_cons, Bool.and_eq_true, beq_iff_eq] at h
    obtain ⟨htag, hws⟩ := h
    obtain ⟨hrec, hend, hpoison⟩ := ih hws
    have hw : isEnd w.tag = false := by rw [htag]; rfl
    refine ⟨by rw [recWords_more hw, hrec], ?_, ?_⟩
    · rw [hasEnd, List.any_cons, hw, Bool.false_or]
      exact hend
    · rw [List.any_cons, hpoison, htag]
      rfl

theorem length_flatMap_of_data {ws : List SWord} (h : ws.all (fun w => w.tag == .data) = true) :
    (ws.flatMap wordBytes).length = 4 * ws.length := by
  induction ws with
  | nil => rfl
  | cons w ws ih =>
    rw [List.all_cons, Bool.and_eq_true, beq_iff_eq] at h
    obtain ⟨htag, hws⟩ := h
    have hw : (wordBytes w).length = 4 := by
      rw [wordBytes, htag]
      rfl
    rw [List.flatMap_cons, List.length_append, hw, ih hws, List.length_cons]
    omega

end Sys2Proof.Proofs
end

section
/-! PROOFS. Edge groups: their registers and what stands beside them (spec 06 R239, R243, R245): one rule per update of a group's
status, and the lanes' effects, which touch no group. -/

namespace Sys2Proof.Proofs

open Machine Laws Claims

/-! ### Fields of one register -/

theorem rd_wr_fld_ne {f g : Fld} (h : g.mask &&& f.mask = 0) (s : State) (o x : Nat) : rd (wr s o f x) o g = rd s o g := by
  rw [rd, wr, getR_setR_same, getFld_setFld_ne h, rd]

/-- A counter raised saturates. -/
theorem rd_bump_same {f : Fld} (h : f.lo + f.width ≤ 64) (s : State) (o n : Nat) :
    rd (bump s o f n) o f = min (rd s o f + n) (2 ^ f.width - 1) := by
  have hpos := Nat.two_pow_pos f.width
  rw [rd, bump, getR_setR_same, bumpFld, getFld_setFld_same h, satAdd, ← rd]
  exact Nat.mod_eq_of_lt (by omega)

theorem rd_bump_reg_ne {o p : Nat} (h : p ≠ o) (s : State) (f g : Fld) (n : Nat) : rd (bump s o f n) p g = rd s p g := by
  rw [rd, bump, getR_setR_ne _ _ _ _ h, rd]

theorem rd_bump_fld_ne {f g : Fld} (h : g.mask &&& f.mask = 0) (s : State) (o n : Nat) : rd (bump s o f n) o g = rd s o g := by
  rw [rd, bump, getR_setR_same, bumpFld, getFld_setFld_ne h, rd]

/-! ### The registers of a group -/

/-- FIFO_LEVEL of group `n`. -/
def gLevel (n : Nat) : Nat := A.FIFO_LEVEL (n / 4) (n % 4)

section
variable (n : Nat)

theorem gLevel_ne_gStatus : gLevel n ≠ gStatus n := by
  rw [gLevel, gStatus, A.FIFO_LEVEL, A.FIFO_STATUS]; omega

theorem gOvf_ne_gStatus : gOvf n ≠ gStatus n := by
  rw [gOvf, gStatus, A.OVF_CNT, A.FIFO_STATUS]; omega

theorem gOvf_ne_gLevel : gOvf n ≠ gLevel n := by
  rw [gOvf, gLevel, A.OVF_CNT, A.FIFO_LEVEL]; omega

theorem gUnf_ne_gStatus : gUnf n ≠ gStatus n := by
  rw [gUnf, gStatus, A.UNF_CNT, A.FIFO_STATUS]; omega

theorem gUnf_ne_gLevel : gUnf n ≠ gLevel n := by
  rw [gUnf, gLevel, A.UNF_CNT, A.FIFO_LEVEL]; omega

theorem gCtl_ne_gStatus : gCtl n ≠ gStatus n := by
  rw [gCtl, gStatus, A.GRP_CTL, A.FIFO_STATUS]; omega

theorem gCtl_ne_gLevel : gCtl n ≠ gLevel n := by
  rw [gCtl, gLevel, A.GRP_CTL, A.FIFO_LEVEL]; omega

/-- Every register of a group stands in the groups' block. -/
theorem groupRegs_ge : 0x800000 ≤ gLevel n ∧ 0x800000 ≤ gStatus n ∧ 0x800000 ≤ gOvf n ∧ 0x800000 ≤ gUnf n ∧ 0x800000 ≤ gCtl n := by
  simp only [gLevel, gStatus, gOvf, gUnf, gCtl, A.FIFO_LEVEL, A.FIFO_STATUS, A.OVF_CNT, A.UNF_CNT, A.GRP_CTL]
  omega

end

/-! ### A group's state -/

section
variable (s : State) (n : Nat)

@[simp] theorem getG_setG_same (x : GroupSt) : getG (setG s n x) n = x := by simp [getG, setG]

theorem rd_setG (x : GroupSt) (o : Nat) (f : Fld) : rd (setG s n x) o f = rd s o f := rfl

theorem getG_wr (o : Nat) (f : Fld) (x : Nat) : getG (wr s o f x) n = getG s n := rfl

theorem getG_bump (o : Nat) (f : Fld) (x : Nat) : getG (bump s o f x) n = getG s n := rfl

end

theorem getG_congr {s t : State} (h : t.groups = s.groups) (n : Nat) : getG t n = getG s n := by rw [getG, getG, h]

/-! ### Depths and the dropping state -/

section
variable (s : State) (n : Nat)

@[simp] theorem getG_gSync : getG (gSync s n) n = getG s n := rfl

theorem rd_gSync_depth : rd (gSync s n) (gLevel n) F.FIFO_LEVEL_IN_DEPTH = (getG s n).pack.length % 2 ^ 9 := by
  show rd (wr (wr (wr s (gLevel n) _ _) (gLevel n) _ _) (gStatus n) _ _) (gLevel n) _ = _
  rw [rd_wr_reg_ne (gLevel_ne_gStatus n), rd_wr_fld_ne (by decide), rd_wr_same (by decide)]
  rfl

theorem rd_gSync_dropping : rd (gSync s n) (gStatus n) F.FIFO_STATUS_DROPPING = b2n (decide (0 < (getG s n).dropped)) := by
  show rd (wr (wr (wr s (gLevel n) _ _) (gLevel n) _ _) (gStatus n) _ _) (gStatus n) _ = _
  rw [rd_wr_same (by decide)]
  cases decide (0 < (getG s n).dropped) <;> rfl

variable {s n}

theorem rd_gSync_status {f : Fld} (h : f.mask &&& F.FIFO_STATUS_DROPPING.mask = 0) : rd (gSync s n) (gStatus n) f = rd s (gStatus n) f := by
  show rd (wr (wr (wr s (gLevel n) _ _) (gLevel n) _ _) (gStatus n) _ _) (gStatus n) _ = _
  rw [rd_wr_fld_ne h, rd_wr_reg_ne (gLevel_ne_gStatus n).symm, rd_wr_reg_ne (gLevel_ne_gStatus n).symm]

theorem rd_gSync_ne {o : Nat} (hs : o ≠ gStatus n) (hl : o ≠ gLevel n) (f : Fld) : rd (gSync s n) o f = rd s o f := by
  show rd (wr (wr (wr s (gLevel n) _ _) (gLevel n) _ _) (gStatus n) _ _) o f = _
  rw [rd_wr_reg_ne hs, rd_wr_reg_ne hl, rd_wr_reg_ne hl]

end

/-! ### Thresholds and errors -/

theorem raiseIf_groups (s : State) (ie : Bool) (k : Nat) : (raiseIf s ie k).groups = s.groups := by
  unfold raiseIf
  split <;> rfl

/-- What a mark of field `f` in the group's status leaves: `t` differs from `s` in that field alone, and in vectors raised. -/
def Marked (s t : State) (n : Nat) (f : Fld) : Prop :=
  t.groups = s.groups ∧ (∀ g : Fld, g.mask &&& f.mask = 0 → rd t (gStatus n) g = rd s (gStatus n) g)
    ∧ ∀ (o : Nat) (g : Fld), o ≠ gStatus n → rd t o g = rd s o g

theorem marked_raiseIf_wr (s : State) (n : Nat) (f : Fld) (x : Nat) (ie : Bool) (k : Nat) :
    Marked s (raiseIf (wr s (gStatus n) f x) ie k) n f := by
  refine ⟨raiseIf_groups .., fun g hg => ?_, fun o g ho => ?_⟩
  · rw [rd_congr (raiseIf_regs ..), rd_wr_fld_ne hg]
  · rw [rd_congr (raiseIf_regs ..), rd_wr_reg_ne ho]

theorem marked_gError (s : State) (n : Nat) (f : Fld) : Marked s (gError s n f) n f := marked_raiseIf_wr ..

theorem marked_gThresh (s : State) (n : Nat) (lvl st : Fld) (before after : Nat) : Marked s (gThresh s n lvl st before after) n st := by
  unfold gThresh
  dsimp only
  split
  · exact marked_raiseIf_wr ..
  · exact ⟨rfl, fun _ _ => rfl, fun _ _ _ => rfl⟩

theorem rd_gError_set {f : Fld} (h : f.lo + f.width ≤ 64) (hw : f.width = 1) (s : State) (n : Nat) : rd (gError s n f) (gStatus n) f = 1 := by
  rw [gError, rd_congr (raiseIf_regs ..), rd_wr_same h, hw, Nat.pow_one]

section
variable {s t : State} {n : Nat} {f : Fld} (h : Marked s t n f)
include h

theorem Marked.getG : getG t n = getG s n := getG_congr h.1 n

theorem Marked.status {g : Fld} (hg : g.mask &&& f.mask = 0) : rd t (gStatus n) g = rd s (gStatus n) g := h.2.1 g hg

theorem Marked.other {o : Nat} (ho : o ≠ gStatus n) (g : Fld) : rd t o g = rd s o g := h.2.2 o g ho

end

/-! ### What touches no group -/

/-- Nothing of a group, and no register of the groups' block, differs between `s` and `t`. -/
def OffGroups (s t : State) : Prop := t.groups = s.groups ∧ ∀ o : Nat, 0x800000 ≤ o → getR t o = getR s o

section
variable {s t u : State}

theorem OffGroups.refl (s : State) : OffGroups s s := ⟨rfl, fun _ _ => rfl⟩

theorem OffGroups.trans (h : OffGroups s t) (k : OffGroups t u) : OffGroups s u := by
  obtain ⟨hg, hr⟩ := h
  obtain ⟨kg, kr⟩ := k
  exact ⟨kg.trans hg, fun o ho => (kr o ho).trans (hr o ho)⟩

theorem OffGroups.getG (h : OffGroups s t) (n : Nat) : getG t n = getG s n := getG_congr h.1 n

theorem OffGroups.rd (h : OffGroups s t) {o : Nat} (ho : 0x800000 ≤ o) (f : Fld) : rd t o f = rd s o f := by
  rw [Machine.rd, Machine.rd, h.2 o ho]

theorem OffGroups.gState (h : OffGroups s t) (n : Nat) : gState t n = gState s n := by
  obtain ⟨-, hstatus, -⟩ := groupRegs_ge n
  exact h.rd hstatus _

theorem offGroups_foldl {α : Type} {f : State → α → State} (l : List α) (h : ∀ a ∈ l, ∀ s, OffGroups s (f s a)) (s : State) :
    OffGroups s (l.foldl f s) := by
  induction l generalizing s with
  | nil => exact .refl s
  | cons a l ih => exact (h a List.mem_cons_self s).trans (ih (fun b hb => h b (List.mem_cons_of_mem a hb)) _)

theorem offGroups_of_regs (hg : t.groups = s.groups) (hr : t.regs = s.regs) : OffGroups s t :=
  ⟨hg, fun o _ => by rw [getR, getR, hr]⟩

theorem offGroups_setR {o : Nat} (ho : o < 0x800000) (s : State) (v : Reg) : OffGroups s (setR s o v) :=
  ⟨rfl, fun p hp => getR_setR_ne _ _ _ _ (by omega)⟩

theorem offGroups_wr {o : Nat} (ho : o < 0x800000) (s : State) (f : Fld) (x : Nat) : OffGroups s (wr s o f x) := offGroups_setR ho s _

theorem offGroups_bump {o : Nat} (ho : o < 0x800000) (s : State) (f : Fld) (x : Nat) : OffGroups s (bump s o f x) :=
  offGroups_setR ho s _

theorem offGroups_setLn (s : State) (l : Nat) (x : LaneSt) : OffGroups s (setLn s l x) := offGroups_of_regs rfl rfl

theorem offGroups_onLanes (s : State) (n : Nat) (f : Nat → LaneSt → LaneSt) : OffGroups s (onLanes s n f) :=
  offGroups_foldl _ (fun _ _ _ => offGroups_setLn ..) s

theorem offGroups_sendRecord (s : State) (n fin : Nat) (bs : List Byte) : OffGroups s (sendRecord s n fin bs) := offGroups_onLanes ..

theorem offGroups_sendGroupIdle (s : State) (n k : Nat) : OffGroups s (sendGroupIdle s n k) := offGroups_onLanes ..

theorem offGroups_report (s : State) (source : Nat) (unit : BitVec 32) (code : Nat) (det : List Byte) :
    OffGroups s (report s source unit code det) := by
  refine ⟨by rw [onlyReported_report s source unit code det], fun o ho => getR_report ?_ ..⟩
  rw [A.LOG_STATUS]
  omega

theorem offGroups_reportLane (s : State) (l code : Nat) (det : List Byte) : OffGroups s (reportLane s l code det) :=
  (offGroups_report ..).trans (offGroups_of_regs (raiseIf_groups ..) (raiseIf_regs ..))

/-! ### The lanes of a group -/

/-- The registers of an edge lane stand below the groups'. -/
theorem laneRegs_lt {l : Nat} (h : l < 112) : A.LANE_STATUS l < 0x800000 ∧ A.LANE_FEC_CNT l < 0x800000 ∧ A.LANE_EQ l < 0x800000
    ∧ A.LANE_TAPS l < 0x800000 := by
  simp only [A.LANE_STATUS, A.LANE_FEC_CNT, A.LANE_EQ, A.LANE_TAPS]
  omega

theorem lt_of_mem_groupLanes {n : Fin 16} {l : Nat} (h : l ∈ groupLanes s n) : l < 112 := by
  obtain ⟨k, hk, rfl⟩ := List.mem_map.mp h
  have hlanes : rd s (gCtl n) F.GRP_CTL_LANES < 4 := rd_lt ..
  have hk' := List.mem_range.mp hk
  rw [gLanes] at hk'
  rw [groupLane]
  omega

theorem offGroups_setLane {l : Nat} (h : l < 112) (s : State) (st : Nat) : OffGroups s (setLane s l st) := by
  obtain ⟨hstatus, -⟩ := laneRegs_lt h
  exact offGroups_wr hstatus ..

theorem offGroups_checkWordRate {l : Nat} (h : l < 112) (s : State) : OffGroups s (checkWordRate s l) := by
  obtain ⟨hstatus, -⟩ := laneRegs_lt h
  unfold checkWordRate
  dsimp only
  split
  · exact ((offGroups_wr hstatus ..).trans (offGroups_wr hstatus ..)).trans (offGroups_setLane h ..)
  · exact .refl s

theorem offGroups_copyTaps {l : Nat} (h : l < 112) (s : State) : OffGroups s (copyTaps s l) := by
  obtain ⟨-, -, -, htaps⟩ := laneRegs_lt h
  exact ((offGroups_wr htaps ..).trans (offGroups_wr htaps ..)).trans (offGroups_wr htaps ..)

theorem offGroups_loadSettings {l : Nat} (h : l < 112) (s : State) (c : Nat) : OffGroups s (loadSettings s l c) := by
  obtain ⟨-, -, heq, -⟩ := laneRegs_lt h
  unfold loadSettings
  dsimp only
  refine (OffGroups.trans ?_ (offGroups_setLn ..)).trans (offGroups_copyTaps h _)
  split
  · exact .refl s
  · exact offGroups_setR heq ..

theorem offGroups_bondLanes (s : State) (n : Fin 16) : OffGroups s (bondLanes s n) := by
  refine offGroups_foldl _ (fun l hl s => ?_) s
  have h := lt_of_mem_groupLanes hl
  obtain ⟨hstatus, -⟩ := laneRegs_lt h
  dsimp only
  split
  · exact .refl s
  · split
    · exact offGroups_setLn ..
    · exact (((offGroups_setLn ..).trans (offGroups_loadSettings h ..)).trans (offGroups_wr hstatus ..)).trans (offGroups_setLane h ..)

end

end Sys2Proof.Proofs
end

section
/-! PROOFS. Edge groups: the pack side (spec 06 R236 to R239; spec 11 R433). -/

namespace Sys2Proof.Proofs

open Machine Laws Claims

/-! ### A read-word into the core -/

/-- `t` is `s` with read-words put behind those of group `n`'s pack core; registers other than the group's status and depths are as they
were. -/
def PackAdded (s t : State) (n : Nat) (ws : List (List SWord)) : Prop :=
  getG t n = { getG s n with pack := (getG s n).pack ++ ws } ∧ ∀ (o : Nat) (f : Fld), o ≠ gStatus n → o ≠ gLevel n → rd t o f = rd s o f

theorem PackAdded.nil (s : State) (n : Nat) : PackAdded s s n [] := ⟨by rw [List.append_nil], fun _ _ _ _ => rfl⟩

theorem PackAdded.trans {s t u : State} {n : Nat} {ws vs : List (List SWord)} (h : PackAdded s t n ws) (k : PackAdded t u n vs) :
    PackAdded s u n (ws ++ vs) := by
  obtain ⟨hg, hr⟩ := h
  obtain ⟨kg, kr⟩ := k
  exact ⟨by rw [kg, hg, List.append_assoc], fun o f ho hl => (kr o f ho hl).trans (hr o f ho hl)⟩

section
variable {s : State} {n : Nat} (w : List SWord) (atEnd : Bool)

theorem storePack_eq (hd : (getG s n).dropped = 0) (hl : (getG s n).pack.length < 256) :
    storePack s n w atEnd = gThresh (gSync (setG s n { getG s n with pack := (getG s n).pack ++ [w] }) n) n F.FIFO_THRESH_IN_LEVEL
      F.FIFO_STATUS_IN_THRESH (getG s n).pack.length ((getG s n).pack.length + 1) := by
  have hroom : ¬(0 < (getG s n).dropped ∨ 256 ≤ (getG s n).pack.length) := by omega
  exact if_neg hroom

section
variable (hd : (getG s n).dropped = 0) (hl : (getG s n).pack.length < 256)
include hd hl

theorem storePack_added : PackAdded s (storePack s n w atEnd) n [w] := by
  rw [storePack_eq w atEnd hd hl]
  have hmark := marked_gThresh (gSync (setG s n { getG s n with pack := (getG s n).pack ++ [w] }) n) n F.FIFO_THRESH_IN_LEVEL
    F.FIFO_STATUS_IN_THRESH (getG s n).pack.length ((getG s n).pack.length + 1)
  refine ⟨?_, fun o f ho hlv => ?_⟩
  · rw [hmark.getG, getG_gSync, getG_setG_same]
  · rw [hmark.other ho, rd_gSync_ne ho hlv, rd_setG]

theorem rd_storePack_depth : rd (storePack s n w atEnd) (gLevel n) F.FIFO_LEVEL_IN_DEPTH = (getG s n).pack.length + 1 := by
  rw [storePack_eq w atEnd hd hl, (marked_gThresh ..).other (gLevel_ne_gStatus n), rd_gSync_depth, getG_setG_same, List.length_append,
    List.length_singleton]
  omega

theorem rd_storePack_dropping : rd (storePack s n w atEnd) (gStatus n) F.FIFO_STATUS_DROPPING = 0 := by
  rw [storePack_eq w atEnd hd hl, (marked_gThresh ..).status (by decide), rd_gSync_dropping, getG_setG_same, hd]
  rfl

end

/-- A read-word that the full core refuses starts the dropping state. -/
theorem storePack_refused (hd : (getG s n).dropped = 0) (hl : 256 ≤ (getG s n).pack.length) :
    getG (storePack s n w atEnd) n = { getG s n with dropped := 1, atEnd := atEnd }
      ∧ rd (storePack s n w atEnd) (gStatus n) F.FIFO_STATUS_DROPPING = 1 := by
  have hstore : storePack s n w atEnd = gSync (setG s n { getG s n with dropped := min ((getG s n).dropped + 1) 0xFFFFFFFF, atEnd := atEnd }) n :=
    if_pos (.inr hl)
  rw [hd] at hstore
  rw [hstore, rd_gSync_dropping, getG_gSync, getG_setG_same]
  exact ⟨rfl, rfl⟩

end

/-! ### Bytes into the assembler -/

/-- The read-words that bytes complete, with the bytes that stay in the assembler (spec 06 R236, R237). -/
def packedWords (s : State) (n : Nat) (bs : List Byte) (e : Bool) : List (List SWord × Bool) × List Byte :=
  if gRaw s n then rawWords ((getG s n).asm ++ bs) (gRawRec s n) ((getG s n).recBytes / 16) else framedWords ((getG s n).asm ++ bs) e

/-- Completed read-words go to the core in order. -/
def storeAll (n : Nat) (s : State) (ws : List (List SWord × Bool)) : State :=
  ws.foldl (fun s w => storePack s n w.1 (w.2 || gNoRec s n)) s

/-- The bytes of the record under way once `bs` have come. -/
def packLeft (s : State) (n : Nat) (bs : List Byte) (e : Bool) : Nat :=
  let total := (getG s n).recBytes + bs.length
  if gRaw s n then (if 16 * gRawRec s n = 0 then total % 16 else total % (16 * gRawRec s n)) else if e then 0 else total

/-- The assembler once `bs` have come. -/
def packAsm (s : State) (n : Nat) (bs : List Byte) (e : Bool) : GroupSt :=
  { getG s n with asm := (packedWords s n bs e).2, recBytes := packLeft s n bs e
                  inRec := if gRaw s n then decide (packLeft s n bs e ≠ 0) else !e, atEnd := false }

theorem packBytes_eq (s : State) (n : Nat) {bs : List Byte} (hne : bs ≠ []) (e : Bool) :
    packBytes s n bs e = storeAll n (setG s n (packAsm s n bs e)) (packedWords s n bs e).1 := by
  have hsome : ¬(!gRaw s n && e && (getG s n).recBytes == 0 && bs.length == 0) = true := by
    simp [hne]
  unfold packBytes
  exact if_neg hsome

theorem storeAll_added {n : Nat} (ws : List (List SWord × Bool)) {s : State} (hd : (getG s n).dropped = 0)
    (hl : (getG s n).pack.length + ws.length ≤ 256) :
    PackAdded s (storeAll n s ws) n (ws.map (·.1))
      ∧ rd (storeAll n s ws) (gLevel n) F.FIFO_LEVEL_IN_DEPTH
        = if ws = [] then rd s (gLevel n) F.FIFO_LEVEL_IN_DEPTH else (getG s n).pack.length + ws.length := by
  induction ws generalizing s with
  | nil => exact ⟨.nil s n, rfl⟩
  | cons w ws ih =>
    rw [List.length_cons] at hl
    have hadd := storePack_added w.1 (w.2 || gNoRec s n) hd (by omega)
    have hg := hadd.1
    have hlen : (getG (storePack s n w.1 (w.2 || gNoRec s n)) n).pack.length = (getG s n).pack.length + 1 := by
      rw [hg, List.length_append, List.length_singleton]
    obtain ⟨hrest, hdepth⟩ := ih (s := storePack s n w.1 (w.2 || gNoRec s n)) (by rw [hg]; exact hd) (by rw [hlen]; omega)
    refine ⟨hadd.trans hrest, ?_⟩
    show rd (storeAll n (storePack s n w.1 (w.2 || gNoRec s n)) ws) (gLevel n) F.FIFO_LEVEL_IN_DEPTH = _
    rw [hdepth, if_neg (List.cons_ne_nil w ws), hlen, List.length_cons]
    split
    · rename_i hnil
      rw [rd_storePack_depth w.1 _ hd (by omega), hnil]
      rfl
    · omega

section
variable {s : State} {n : Fin 16} {bs : List Byte} {e : Bool}

/-- Lane words that the lanes have decoded, whole but at a record's end, go to the assembler (spec 06 R236). -/
theorem opPackLaneWord_bytes (hgoes : groupGoes s n) (hhears : groupHears s n) (hne : bs ≠ [])
    (hlen : bs.length = gBytes s n ∨ (bs.length < gBytes s n ∧ gRaw s n = false ∧ e = true)) :
    opPackLaneWord n (.bytes bs) e s = packBytes s n bs e := by
  obtain ⟨hon, hup⟩ := hgoes
  have hopen : (!packOpen s n || !gUp s n || rd s (A.LANE_PWR (groupLane n)) F.LANE_PWR_RX_STATE != 0) = false := by
    rw [packOpen, hon, hup, hhears]
    rfl
  have hfits : (decide (gBytes s n < bs.length) || (decide (bs.length ≠ gBytes s n) && (gRaw s n || !e))) = false := by
    obtain hlen | ⟨hlt, hraw, he⟩ := hlen
    · simp [hlen]
    · simp [hraw, he]
      omega
  simp only [opPackLaneWord, hopen, hne, hfits, false_and, Bool.false_eq_true, if_false]

theorem packLaneWord_packs (hgoes : groupGoes s n) (hhears : groupHears s n) (hd : (getG s n).dropped = 0) (hne : bs ≠ [])
    (hlen : bs.length = gBytes s n ∨ (bs.length < gBytes s n ∧ gRaw s n = false ∧ e = true))
    (hroom : (getG s n).pack.length + (packedWords s n bs e).1.length ≤ 256) :
    ∃ t : State, exec (.packLaneWord n (.bytes bs) e) s = .next t
      ∧ (getG t n).pack = (getG s n).pack ++ (packedWords s n bs e).1.map (·.1) ∧ (getG t n).asm = (packedWords s n bs e).2
      ∧ rd t (gLevel n) F.FIFO_LEVEL_IN_DEPTH = (if (packedWords s n bs e).1 = [] then rd s (gLevel n) F.FIFO_LEVEL_IN_DEPTH
          else (getG t n).pack.length) := by
  obtain ⟨⟨hg, -⟩, hdepth⟩ := storeAll_added (packedWords s n bs e).1 (s := setG s n (packAsm s n bs e)) (n := n)
    (by rw [getG_setG_same]; exact hd) (by rw [getG_setG_same]; exact hroom)
  refine ⟨packBytes s n bs e, congrArg _ (opPackLaneWord_bytes hgoes hhears hne hlen), ?_⟩
  rw [getG_setG_same] at hg hdepth
  rw [packBytes_eq s n hne, hg, hdepth]
  refine ⟨rfl, rfl, ?_⟩
  rw [List.length_append, List.length_map]
  rfl

/-- At most 16 bytes and a record's end make one read-word. -/
theorem framedWords_short {bs : List Byte} (h1 : 1 ≤ bs.length) (h16 : bs.length ≤ 16) :
    framedWords bs true = ([(endWord bs, true)], []) := by
  have hzero : (bs.length - 1) / 16 = 0 := by omega
  have hne : bs ≠ [] := List.ne_nil_of_length_pos h1
  simp [framedWords, hzero, hne]

theorem packLaneWord_refused (hgoes : groupGoes s n) (hhears : groupHears s n) (hd : (getG s n).dropped = 0)
    (hfull : (getG s n).pack.length = 256) (hlen : bs.length = gBytes s n) (hraw : gRaw s n = false)
    (h1 : 1 ≤ ((getG s n).asm ++ bs).length) (h16 : ((getG s n).asm ++ bs).length ≤ 16) :
    ∃ t : State, exec (.packLaneWord n (.bytes bs) true) s = .next t ∧ (getG t n).pack = (getG s n).pack ∧ (getG t n).dropped = 1
      ∧ (getG t n).atEnd = true ∧ rd t (gStatus n) F.FIFO_STATUS_DROPPING = 1 := by
  have hne : bs ≠ [] := by
    refine List.ne_nil_of_length_pos ?_
    rw [hlen, gBytes, gLanes, gLaneBytes]
    exact Nat.mul_pos (Nat.succ_pos _) (Nat.two_pow_pos _)
  have hwords : packedWords s n bs true = ([(endWord ((getG s n).asm ++ bs), true)], []) := by
    rw [packedWords, hraw, if_neg Bool.false_ne_true, framedWords_short h1 h16]
  obtain ⟨hg, hdropping⟩ := storePack_refused (s := setG s n (packAsm s n bs true)) (n := n) (endWord ((getG s n).asm ++ bs)) true
    (by rw [getG_setG_same]; exact hd) (by rw [getG_setG_same]; exact hfull.ge)
  rw [getG_setG_same] at hg
  have hstore : packBytes s n bs true = storePack (setG s n (packAsm s n bs true)) n (endWord ((getG s n).asm ++ bs)) true := by
    rw [packBytes_eq s n hne, hwords]
    rfl
  refine ⟨packBytes s n bs true, congrArg _ (opPackLaneWord_bytes hgoes hhears hne (.inl hlen)), ?_⟩
  rw [hstore, hg]
  exact ⟨rfl, rfl, rfl, hdropping⟩

theorem packLaneWord_deaf (x : LaneWords) (e : Bool)
    (h : ¬groupHears s n ∨ gUp s n = false ∨ gState s n = 0 ∨ gState s n = 3) : exec (.packLaneWord n x e) s = .next s := by
  have hclosed : (!packOpen s n || !gUp s n || rd s (A.LANE_PWR (groupLane n)) F.LANE_PWR_RX_STATE != 0) = true := by
    rcases h with h | h | h | h
    · have hrx : (rd s (A.LANE_PWR (groupLane n)) F.LANE_PWR_RX_STATE != 0) = true := bne_iff_ne.mpr h
      rw [hrx, Bool.or_true]
    · rw [h, Bool.not_false, Bool.or_true, Bool.true_or]
    · rw [packOpen, h]
      rfl
    · rw [packOpen, h]
      rfl
  exact congrArg _ (if_pos hclosed)

end

/-! ### Markers -/

/-- A group that has left the dropping state. -/
def undropped (g : GroupSt) : GroupSt := { g with dropped := 0, atEnd := false }

theorem droppingExit_marks {s : State} {n : Fin 16} (hd : (getG s n).dropped ≠ 0) (hend : (getG s n).atEnd = true)
    (hroom : (getG s n).pack.length < 256) :
    ∃ t : State, exec (.droppingExit n) s = .next t
      ∧ (getG t n).pack = (getG s n).pack ++ [markerWord (gNoRec s n) (getG s n).dropped] ∧ (getG t n).dropped = 0
      ∧ rd t (gOvf n) F.OVF_CNT_COUNT = min (rd s (gOvf n) F.OVF_CNT_COUNT + (getG s n).dropped) (2 ^ 32 - 1)
      ∧ rd t (gStatus n) F.FIFO_STATUS_OVERFLOW = 1 ∧ rd t (gStatus n) F.FIFO_STATUS_DROPPING = 0 := by
  obtain ⟨-, hstatus, hovf, -⟩ := groupRegs_ge n
  have hexit : ¬((getG s n).dropped = 0 ∨ !(getG s n).atEnd ∨ 256 ≤ (getG s n).pack.length) := by
    simp [hd, hend, hroom]
  obtain ⟨u, hu⟩ : ∃ u, u = setG s n (undropped (getG s n)) := ⟨_, rfl⟩
  have hgu : getG u n = undropped (getG s n) := by rw [hu, getG_setG_same]
  have hdu : (getG u n).dropped = 0 := by rw [hgu]; rfl
  have hlu : (getG u n).pack.length < 256 := by rw [hgu]; exact hroom
  obtain ⟨v, hv⟩ : ∃ v, v = storePack u n (markerWord (gNoRec s n) (getG s n).dropped) true := ⟨_, rfl⟩
  obtain ⟨hgv, hregs⟩ : PackAdded u v n [markerWord (gNoRec s n) (getG s n).dropped] := hv ▸ storePack_added _ _ hdu hlu
  obtain ⟨unit, det, hop⟩ : ∃ unit det, opDroppingExit n s
      = report (gError (bump v (gOvf n) F.OVF_CNT_COUNT (getG s n).dropped) n F.FIFO_STATUS_OVERFLOW) (182 + n.val) unit 0x740 det :=
    ⟨_, _, by rw [hv, hu]; exact if_neg hexit⟩
  have hmark := marked_gError (bump v (gOvf n) F.OVF_CNT_COUNT (getG s n).dropped) n F.FIFO_STATUS_OVERFLOW
  have hoff := offGroups_report (gError (bump v (gOvf n) F.OVF_CNT_COUNT (getG s n).dropped) n F.FIFO_STATUS_OVERFLOW) (182 + n.val)
    unit 0x740 det
  refine ⟨opDroppingExit n s, rfl, ?_⟩
  rw [hop, hoff.getG, hmark.getG, getG_bump, hgv, hgu]
  refine ⟨rfl, rfl, ?_, ?_, ?_⟩
  · rw [hoff.rd hovf, hmark.other (gOvf_ne_gStatus n), rd_bump_same (by decide), hregs _ _ (gOvf_ne_gStatus n) (gOvf_ne_gLevel n), hu,
      rd_setG]
    rfl
  · rw [hoff.rd hstatus, rd_gError_set (by decide) (by decide)]
  · rw [hoff.rd hstatus, hmark.status (by decide), rd_bump_reg_ne (gOvf_ne_gStatus n).symm, hv, rd_storePack_dropping _ _ hdu hlu]

/-- What the record under way leaves of its bytes when it ends in error (spec 11 R433). -/
def errorWords (g : GroupSt) (code : Nat) : List (List SWord) :=
  (if g.asm = [] then [] else [dataWord (sliceBytes g.asm 0 16)]) ++ [markerWord false code]

/-- A group whose record under way is over. -/
def unrecorded (g : GroupSt) : GroupSt := { g with asm := [], recBytes := 0, inRec := false, atEnd := false }

theorem recordError_added {s : State} {n : Nat} (code : Nat) (hd : (getG s n).dropped = 0) (hroom : (getG s n).pack.length ≤ 254) :
    PackAdded (setG s n (unrecorded (getG s n))) (recordError s n code) n (errorWords (getG s n) code) := by
  obtain ⟨u, hu⟩ : ∃ u, u = setG s n (unrecorded (getG s n)) := ⟨_, rfl⟩
  have hgu : getG u n = unrecorded (getG s n) := by rw [hu, getG_setG_same]
  have hdu : (getG u n).dropped = 0 := by rw [hgu]; exact hd
  have hlu : (getG u n).pack.length ≤ 254 := by rw [hgu]; exact hroom
  have hop : recordError s n code = storePack (if (getG s n).asm = [] then u
      else storePack u n (dataWord (sliceBytes (getG s n).asm 0 16)) false) n (markerWord false code) true := by
    rw [hu]
    rfl
  rw [← hu, hop, errorWords]
  by_cases hasm : (getG s n).asm = []
  · rw [if_pos hasm, if_pos hasm]
    exact storePack_added _ _ hdu (by omega)
  · rw [if_neg hasm, if_neg hasm]
    have hpart := storePack_added (dataWord (sliceBytes (getG s n).asm 0 16)) false hdu (by omega)
    have hgv := hpart.1
    refine hpart.trans (storePack_added _ _ (by rw [hgv]; exact hdu) ?_)
    rw [hgv, List.length_append, List.length_singleton]
    omega

theorem onLanes_regs (s : State) (n : Nat) (f : Nat → LaneSt → LaneSt) : (onLanes s n f).regs = s.regs :=
  foldl_keeps State.regs (fun s k => (rfl : (setLn s (groupLane n + k) _).regs = s.regs)) _ s

theorem endInError_marks {s : State} {n l : Nat} (hl : l < 112) (code : Nat) (hd : (getG s n).dropped = 0)
    (hroom : (getG s n).pack.length ≤ 254) :
    getG (endInError s n l code) n = { unrecorded (getG s n) with pack := (getG s n).pack ++ errorWords (getG s n) code }
      ∧ rd (endInError s n l code) (A.LANE_FEC_CNT l) F.LANE_FEC_CNT_UNCORR
        = min (rd s (A.LANE_FEC_CNT l) F.LANE_FEC_CNT_UNCORR + 1) (2 ^ 32 - 1) := by
  obtain ⟨-, hfec, -⟩ := laneRegs_lt hl
  obtain ⟨hlevel, hstatus, -⟩ := groupRegs_ge n
  obtain ⟨hg, hregs⟩ := recordError_added code hd hroom
  rw [getG_setG_same] at hg
  refine ⟨?_, ?_⟩
  · rw [endInError, (offGroups_reportLane ..).getG, getG_bump, (offGroups_onLanes ..).getG, hg]
    rfl
  · rw [endInError, reportLane, rd_congr (raiseIf_regs ..), rd, getR_report (by rw [A.LANE_FEC_CNT, A.LOG_STATUS]; omega), ← rd,
      rd_bump_same (by decide), rd_congr (onLanes_regs ..), hregs _ _ (by omega) (by omega), rd_setG]
    rfl

theorem edgeRecordError_marks {s : State} {l : Fin 112} {c : Fin 5} {n : Nat} (hl : 48 ≤ l.val) (hn : n = (l.val - 48) / 4)
    (hc : c.val ≠ 0) (hrec : (getG s n).inRec = true) (hon : gState s n = 1) (hlane : (l.val - 48) % 4 < gLanes s n)
    (hd : (getG s n).dropped = 0) (hroom : (getG s n).pack.length ≤ 254) :
    ∃ t : State, exec (.edgeRecordError l c) s = .next t
      ∧ (getG t n).pack = (getG s n).pack ++ (if (getG s n).asm = [] then [] else [dataWord (sliceBytes (getG s n).asm 0 16)])
          ++ [markerWord false c]
      ∧ (getG t n).asm = [] ∧ (getG t n).inRec = false
      ∧ rd t (A.LANE_FEC_CNT l) F.LANE_FEC_CNT_UNCORR = min (rd s (A.LANE_FEC_CNT l) F.LANE_FEC_CNT_UNCORR + 1) (2 ^ 32 - 1) := by
  subst hn
  have hopen : packOpen s ((l.val - 48) / 4) = true := by rw [packOpen, hon]; rfl
  have hgo : ¬(l.val < 48 ∨ c.val = 0 ∨ !(getG s ((l.val - 48) / 4)).inRec ∨ !packOpen s ((l.val - 48) / 4)
      ∨ gLanes s ((l.val - 48) / 4) ≤ (l.val - 48) % 4) := by
    simp only [hrec, hopen, hc, Bool.not_true, Bool.false_eq_true, false_or]
    omega
  obtain ⟨u, hgu, hru, hop⟩ : ∃ u : State, getG u ((l.val - 48) / 4) = getG s ((l.val - 48) / 4)
      ∧ rd u (A.LANE_FEC_CNT l) F.LANE_FEC_CNT_UNCORR = rd s (A.LANE_FEC_CNT l) F.LANE_FEC_CNT_UNCORR
      ∧ opEdgeRecordError l c s = endInError u ((l.val - 48) / 4) l c := by
    refine ⟨if c.val = 1 ∧ groupMode s ((l.val - 48) / 4) = 2 then bump s (A.LANE_FEC_CNT l) F.LANE_FEC_CNT_CORR 1 else s, ?_, ?_,
      if_neg hgo⟩
    · split <;> rfl
    · split
      · exact rd_bump_fld_ne (by decide) ..
      · rfl
  obtain ⟨hg, hcount⟩ := endInError_marks (s := u) (n := (l.val - 48) / 4) l.isLt c.val (by rw [hgu, hd]) (by rwa [hgu])
  rw [hgu] at hg
  refine ⟨opEdgeRecordError l c s, rfl, ?_⟩
  rw [hop, hg, hcount, hru]
  exact ⟨(List.append_assoc ..).symm, rfl, rfl, rfl⟩

/-! ### The read side -/

theorem wakeReq_groups (s : State) (f : Nat) : (wakeReq s f).groups = s.groups := by
  unfold wakeReq
  split <;> rfl

theorem packReadSidePop_moves {s : State} {n : Fin 16} {w : List SWord} {rest : List (List SWord)}
    (hst : gState s n = 1 ∨ gState s n = 2) (hpack : (getG s n).pack = w :: rest) (hfree : (getG s n).readSide.any Option.isSome = false) :
    ∃ t : State, exec (.packReadSidePop n) s = .next t ∧ (getG t n).pack = rest ∧ (getG t n).readSide = w.map some := by
  have hgo : (gState s n == 0) = false ∧ (gState s n == 3) = false := by
    obtain h | h := hst <;> rw [h] <;> exact ⟨rfl, rfl⟩
  obtain ⟨h0, h3⟩ := hgo
  have hop : opPackReadSidePop n s
      = wakeReq (gSync (setG s n { getG s n with pack := rest, readSide := w.map some }) n) (tileField (edgeTile n)) := by
    simp only [opPackReadSidePop, hpack, hfree, h0, h3, Bool.or_self, Bool.false_eq_true, if_false]
  have hg : getG (opPackReadSidePop n s) n = { getG s n with pack := rest, readSide := w.map some } := by
    rw [hop, getG_congr (wakeReq_groups ..), getG_gSync, getG_setG_same]
  exact ⟨_, rfl, congrArg GroupSt.pack hg, congrArg GroupSt.readSide hg⟩

end Sys2Proof.Proofs
end

section
/-! PROOFS. Edge groups: the unpack side up to its core (spec 06 R240 to R242). -/

namespace Sys2Proof.Proofs

open Machine Laws Claims

/-! ### Slots -/

theorem unpackWordAccept_takes {s : State} {n : Fin 16} {w : Fin 4} {x : SWord} {src : Option Nat} (hon : gState s n = 1)
    (hslot : smGet none (getG s n).slots w = none) (hruns : tileRuns s (edgeTile n) = true)
    (heng : engaged s (tileField (edgeTile n)) = false)
    (hword : driverWord (getT s (edgeTile n)) (6 * edgeSide n + w.val) = some (x, src)) :
    ∃ t : State, exec (.unpackWordAccept n w) s = .next t
      ∧ smGet none (getG t n).slots w = (if x.tag = .wave then none else some x) ∧ (getG t n).unpack = (getG s n).unpack := by
  obtain ⟨u, hu, hop⟩ : ∃ u : State, u.groups = s.groups ∧ opUnpackWordAccept n w s
      = if x.tag = .wave then u else setG u n { getG s n with slots := smSet none (getG s n).slots w.val (some x) } := by
    simp only [opUnpackWordAccept, hon, hslot, hruns, heng, hword, beq_self_eq_true, Bool.true_or, Bool.not_true, Option.isSome_none,
      Bool.or_self, Bool.false_eq_true, if_false]
    exact ⟨_, setT_groups _ _ _, rfl⟩
  refine ⟨opUnpackWordAccept n w s, rfl, ?_⟩
  rw [hop]
  split
  · rw [getG_congr hu]
    exact ⟨hslot, rfl⟩
  · rw [getG_setG_same]
    exact ⟨smGet_smSet_same none (getG s n).slots w.val (some x), rfl⟩

/-- The group once its slots' read-word has been taken: the end of a discarded record ends the discarding (spec 06 R241, R242). -/
def slotsTaken (s : State) (n : Nat) (e : Bool) : GroupSt :=
  { getG s n with slots := [], closed := (getG s n).closed || (gState s n == 2 && e), discard := (getG s n).discard && !e }

/-- What of a read-word is left where a record is being discarded up to its end tag. -/
def keptWord (discard : Bool) (ws : List SWord) : List SWord :=
  if discard then List.replicate (ws.length - (wordsAbove ws).length) ⟨0, .pad⟩ ++ wordsAbove ws else ws

section
variable {s : State} {n : Fin 16} {ws : List SWord}

theorem opUnpackPush_eq (hst : gState s n = 1 ∨ gState s n = 2) (hws : [0, 1, 2, 3].filterMap (fun w => smGet none (getG s n).slots w) = ws)
    (hlen : ws.length = 4) (hroom : (getG s n).unpack.length < 256) :
    opUnpackPush n s = if (getG s n).discard && (!hasEnd ws || (wordsAbove ws).all (fun w => w.tag == .pad)) then
        setG s n (slotsTaken s n (hasEnd ws))
      else gThresh (gSync (setG s n { slotsTaken s n (hasEnd ws) with
        unpack := (getG s n).unpack ++ [keptWord (getG s n).discard ws] }) n) n F.FIFO_THRESH_OUT_LEVEL F.FIFO_STATUS_OUT_THRESH
        (getG s n).unpack.length ((getG s n).unpack.length + 1) := by
  have hgo : ¬(ws.length ≠ 4 ∨ 256 ≤ (getG s n).unpack.length ∨ ¬(gState s n = 1 ∨ gState s n = 2)) := by
    rintro (h | h | h)
    · exact h hlen
    · omega
    · exact h hst
  subst hws
  exact if_neg hgo

theorem getG_opUnpackPush (hst : gState s n = 1 ∨ gState s n = 2)
    (hws : [0, 1, 2, 3].filterMap (fun w => smGet none (getG s n).slots w) = ws) (hlen : ws.length = 4)
    (hroom : (getG s n).unpack.length < 256) :
    getG (opUnpackPush n s) n = if (getG s n).discard && (!hasEnd ws || (wordsAbove ws).all (fun w => w.tag == .pad)) then
        slotsTaken s n (hasEnd ws)
      else { slotsTaken s n (hasEnd ws) with unpack := (getG s n).unpack ++ [keptWord (getG s n).discard ws] } := by
  rw [opUnpackPush_eq hst hws hlen hroom]
  split
  · rw [getG_setG_same]
  · rw [(marked_gThresh ..).getG, getG_gSync, getG_setG_same]

theorem unpackPush_pushes (hst : gState s n = 1 ∨ gState s n = 2)
    (hws : [0, 1, 2, 3].filterMap (fun w => smGet none (getG s n).slots w) = ws) (hlen : ws.length = 4)
    (hroom : (getG s n).unpack.length < 256) :
    ∃ t : State, exec (.unpackPush n) s = .next t ∧ (∀ w : Nat, smGet none (getG t n).slots w = none)
      ∧ (getG t n).unpack = (if (getG s n).discard = false then (getG s n).unpack ++ [ws]
          else if hasEnd ws = false ∨ (wordsAbove ws).all (fun w => w.tag == .pad) = true then (getG s n).unpack
          else (getG s n).unpack ++ [List.replicate (ws.length - (wordsAbove ws).length) ⟨0, .pad⟩ ++ wordsAbove ws])
      ∧ ((getG t n).discard = true ↔ (getG s n).discard = true ∧ hasEnd ws = false) := by
  have hg := getG_opUnpackPush hst hws hlen hroom
  refine ⟨opUnpackPush n s, rfl, fun w => ?_, ?_, ?_⟩
  · rw [hg]
    split <;> rfl
  · rw [hg]
    cases hdis : (getG s n).discard with
    | false => rfl
    | true =>
      rw [if_neg (show ¬(true = false) by decide)]
      by_cases hskip : hasEnd ws = false ∨ (wordsAbove ws).all (fun w => w.tag == .pad) = true
      · rw [if_pos hskip, if_pos (by simpa using hskip)]
        rfl
      · rw [if_neg hskip, if_neg (by simpa using hskip)]
        rfl
  · have hdiscard : (getG (opUnpackPush n s) n).discard = ((getG s n).discard && !hasEnd ws) := by
      rw [hg]
      split <;> rfl
    rw [hdiscard]
    simp

theorem unpackPush_full (hfull : 256 ≤ (getG s n).unpack.length) : exec (.unpackPush n) s = .next s :=
  congrArg _ (if_pos (.inr (.inl hfull)))

/-! ### The start of a record -/

/-- A group whose next record begins. -/
def recordStarted (g : GroupSt) : GroupSt := { g with sending := true, txBytes := [], txEnd := false, txErr := false, txSent := 0 }

theorem unpackRecordStart_starts (hst : gState s n = 1 ∨ gState s n = 2) (hidle : (getG s n).sending = false)
    (hheld : unpackHeld (getG s n) ≠ []) (hrec : gNoRec s n = false) (htalks : groupTalks s n)
    (hready : (unpackHeld (getG s n)).any hasEnd = true ∨ (1 ≤ rd s (gCtl n) F.GRP_CTL_START_LEVEL
      ∧ rd s (gCtl n) F.GRP_CTL_START_LEVEL ≤ (getG s n).unpack.length)) :
    ∃ t : State, exec (.unpackRecordStart n) s = .next t ∧ (getG t n).sending = true ∧ (getG t n).unpack = (getG s n).unpack := by
  have hstate : (gState s n == 1 || gState s n == 2) = true := by
    obtain h | h := hst <;> rw [h] <;> rfl
  have hlevel : ((unpackHeld (getG s n)).any hasEnd || (decide (1 ≤ rd s (gCtl n) F.GRP_CTL_START_LEVEL)
      && decide (rd s (gCtl n) F.GRP_CTL_START_LEVEL ≤ (getG s n).unpack.length))) = true := by
    simpa using hready
  have hempty : (unpackHeld (getG s n) == []) = false := beq_eq_false_iff_ne.mpr hheld
  have htx : (rd s (A.LANE_PWR (groupLane n)) F.LANE_PWR_TX_STATE != 0) = false := by rw [htalks]; rfl
  have hop : opUnpackRecordStart n s = sendRecord (setG s n (recordStarted (getG s n))) n 0 [] := by
    simp only [opUnpackRecordStart, hidle, hempty, hrec, hstate, htx, hlevel, Bool.not_true, Bool.or_self, Bool.false_eq_true, if_false]
    rfl
  refine ⟨opUnpackRecordStart n s, rfl, ?_⟩
  rw [hop, (offGroups_sendRecord ..).getG, getG_setG_same]
  exact ⟨rfl, rfl⟩

end

end Sys2Proof.Proofs
end

section
/-! PROOFS. Edge groups: the lane words of a record (spec 06 R240, R241; spec 11 R429 to R431). -/

namespace Sys2Proof.Proofs

open Machine Laws Claims

/-! ### Read-words taken from the core -/

/-- What a read-word of a record gives the sender. -/
def wordTaken (g : GroupSt) (ws : List SWord) (rest : List (List SWord)) : GroupSt :=
  { g with unpack := rest, txRest := wordsAbove ws, txBytes := g.txBytes ++ (recWords ws).flatMap wordBytes, txEnd := hasEnd ws
           txErr := g.txErr || (recWords ws).any (fun w => decide (w.tag = .poison)) }

section
variable {g : GroupSt} {k : Nat}

theorem refill_done {noRec : Bool} (h : k ≤ g.txBytes.length ∨ g.txEnd = true) (fuel : Nat) : refill noRec k fuel g = g := by
  cases fuel with
  | zero => rfl
  | succ fuel => exact if_pos h

theorem refill_empty {noRec : Bool} (h : ¬(k ≤ g.txBytes.length ∨ g.txEnd = true)) (hheld : unpackHeld g = []) (fuel : Nat) :
    refill noRec k (fuel + 1) g = { g with txRest := [] } := by
  rw [refill, if_neg h, hheld]

theorem refill_word (h : ¬(k ≤ g.txBytes.length ∨ g.txEnd = true)) {ws : List SWord} {rest : List (List SWord)}
    (hheld : unpackHeld g = ws :: rest) (fuel : Nat) : refill false k (fuel + 1) g = refill false k fuel (wordTaken g ws rest) := by
  rw [refill, if_neg h, hheld]
  simp only [Bool.not_false, Bool.true_and, Bool.false_eq_true, if_false]
  rfl

/-- A record that is to end in error stays so while words are taken. -/
theorem refill_txErr (k : Nat) (fuel : Nat) {g : GroupSt} (h : g.txErr = true) :
    (refill false k fuel g).txErr = true ∧ (refill false k fuel g).txSent = g.txSent := by
  induction fuel generalizing g with
  | zero => exact ⟨h, rfl⟩
  | succ fuel ih =>
    by_cases hdone : k ≤ g.txBytes.length ∨ g.txEnd = true
    · rw [refill_done hdone]
      exact ⟨h, rfl⟩
    · cases hheld : unpackHeld g with
      | nil =>
        rw [refill_empty hdone hheld]
        exact ⟨h, rfl⟩
      | cons ws rest =>
        rw [refill_word hdone hheld]
        exact ih (g := wordTaken g ws rest) (by rw [wordTaken, h, Bool.true_or])

theorem unpackHeld_of_noRest (h : g.txRest.all (fun w => w.tag == .pad) = true) : unpackHeld g = g.unpack := by
  rw [unpackHeld, if_pos h, List.nil_append]

end

/-! ### UNPACK_LANE_WORD by what is at hand -/

theorem gBytes_pos (s : State) (n : Nat) : 0 < gBytes s n := by
  rw [gBytes, gLanes, gLaneBytes]
  exact Nat.mul_pos (Nat.succ_pos _) (Nat.two_pow_pos _)

theorem laneWord_go {s : State} {n : Nat} (h : groupSends s n) :
    (!gClocked s n || !(gState s n == 1 || gState s n == 2) || rd s (A.LANE_PWR (groupLane n)) F.LANE_PWR_TX_STATE != 0) = false := by
  obtain ⟨hst, hclock, htalks⟩ := h
  have hstate : (gState s n == 1 || gState s n == 2) = true := by
    obtain h | h := hst <;> rw [h] <;> rfl
  rw [hclock, hstate, htalks]
  rfl

/-- A group after lane words in mid-record. -/
def midSent (g : GroupSt) (k : Nat) : GroupSt :=
  { g with txBytes := g.txBytes.drop k, lastOut := g.txBytes.take k, outKind := 1, txSent := g.txSent + k }

/-- A group after the last lane words of a record, which end it as `txErr` says. -/
def endSent (g : GroupSt) : GroupSt :=
  { g with txBytes := [], lastOut := g.txBytes, outKind := if g.txErr then 3 else 2, sending := false, txEnd := false, txErr := false }

/-- A group after the error termination of a RAW32 record, whose remaining slots are `out`. -/
def cutSent (g : GroupSt) (out : List Byte) : GroupSt :=
  { g with txBytes := [], lastOut := out, outKind := 3, sending := false, txEnd := false, txErr := false
           discard := g.discard || !g.txEnd }

section
variable {s : State} {n : Fin 16} (hs : groupSends s n)
include hs

theorem unpackLaneWord_idles (hrec : gNoRec s n = false) (hidle : (getG s n).sending = false) :
    ∃ t : State, exec (.unpackLaneWord n) s = .next t ∧ (getG t n).outKind = 0 ∧ (getG t n).lastOut = []
      ∧ (getG t n).unpack = (getG s n).unpack := by
  have hop : opUnpackLaneWord n s = sendGroupIdle (setG s n { getG s n with lastOut := [], outKind := 0 }) n 1 := by
    simp only [opUnpackLaneWord, laneWord_go hs, hidle, hrec, Bool.or_self, Bool.not_false, Bool.false_eq_true, if_false, if_true]
  refine ⟨opUnpackLaneWord n s, rfl, ?_⟩
  rw [hop, (offGroups_sendGroupIdle ..).getG, getG_setG_same]
  exact ⟨rfl, rfl, rfl⟩

variable (hrec : gNoRec s n = false) (hsend : (getG s n).sending = true) {g : GroupSt}
  (hg : refill false (gBytes s n) ((getG s n).unpack.length + 2) (getG s n) = g)
include hrec hsend hg

theorem laneWord_mid (hcut : ¬(g.txErr = true ∧ gRaw s n = true))
    (hmid : gBytes s n ≤ g.txBytes.length ∧ ¬(g.txEnd = true ∧ g.txBytes.length = gBytes s n)) :
    getG (opUnpackLaneWord n s) n = midSent g (gBytes s n) := by
  have hop : opUnpackLaneWord n s
      = gSync (sendRecord (setG s n (midSent g (gBytes s n))) n 0 (g.txBytes.take (gBytes s n))) n := by
    simp only [opUnpackLaneWord, laneWord_go hs, hsend, hrec, hg, hcut, if_pos hmid, Bool.or_false, Bool.not_true, Bool.false_and,
      Bool.false_eq_true, if_false]
    rfl
  rw [hop, getG_gSync, (offGroups_sendRecord ..).getG, getG_setG_same]

theorem laneWord_end (hcut : ¬(g.txErr = true ∧ gRaw s n = true)) (hend : g.txEnd = true) (hle : g.txBytes.length ≤ gBytes s n) :
    getG (opUnpackLaneWord n s) n = endSent g
      ∧ rd (opUnpackLaneWord n s) (gStatus n) F.FIFO_STATUS_POISON_OUT
        = if g.txErr then 1 else rd s (gStatus n) F.FIFO_STATUS_POISON_OUT := by
  obtain ⟨-, hstatus, -⟩ := groupRegs_ge n
  have hlast : ¬(gBytes s n ≤ g.txBytes.length ∧ ¬(g.txEnd = true ∧ g.txBytes.length = gBytes s n)) :=
    fun h => h.2 ⟨hend, Nat.le_antisymm hle h.1⟩
  have hop : opUnpackLaneWord n s
      = gSync (sendRecord (setG (if g.txErr then wr s (gStatus n) F.FIFO_STATUS_POISON_OUT 1 else s) n (endSent g)) n
        (if g.txErr then 2 else 1) g.txBytes) n := by
    simp only [opUnpackLaneWord, laneWord_go hs, hsend, hrec, hg, hcut, if_neg hlast, if_pos hend, Bool.or_false, Bool.not_true, Bool.false_and,
      Bool.false_eq_true, if_false]
    rfl
  rw [hop, rd_gSync_status (by decide), (offGroups_sendRecord ..).rd hstatus, rd_setG, getG_gSync, (offGroups_sendRecord ..).getG,
    getG_setG_same]
  refine ⟨rfl, ?_⟩
  cases g.txErr with
  | false => rfl
  | true => exact rd_wr_same (by decide) ..

theorem laneWord_waits (hcut : ¬(g.txErr = true ∧ gRaw s n = true)) (hend : g.txEnd = false) (hlt : g.txBytes.length < gBytes s n) :
    getG (opUnpackLaneWord n s) n = g := by
  have hmid : ¬(gBytes s n ≤ g.txBytes.length ∧ ¬(g.txEnd = true ∧ g.txBytes.length = gBytes s n)) := by omega
  have hop : opUnpackLaneWord n s = gSync (setG s n g) n := by
    have hmore : ¬g.txEnd = true := by rw [hend]; exact Bool.false_ne_true
    simp only [opUnpackLaneWord, laneWord_go hs, hsend, hrec, hg, hcut, if_neg hmid, if_neg hmore, Bool.or_false, Bool.not_true,
      Bool.false_and, Bool.false_eq_true, if_false]
  rw [hop, getG_gSync, getG_setG_same]

theorem laneWord_cut (herr : g.txErr = true) (hraw : gRaw s n = true) :
    getG (opUnpackLaneWord n s) n
        = cutSent g (patternBytes (raw32Error (lanePat s (groupLane n))) (16 * gRawRec s n - g.txSent))
      ∧ rd (opUnpackLaneWord n s) (gStatus n) F.FIFO_STATUS_POISON_OUT = 1 := by
  obtain ⟨-, hstatus, -⟩ := groupRegs_ge n
  have hbytes : errorBytes (wr s (gStatus n) F.FIFO_STATUS_POISON_OUT 1) n { g with txBytes := [] }
      = patternBytes (raw32Error (lanePat s (groupLane n))) (16 * gRawRec s n - g.txSent) := by
    have hraw' : gRaw (wr s (gStatus n) F.FIFO_STATUS_POISON_OUT 1) n = true := hraw
    have hlen : gRawRec (wr s (gStatus n) F.FIFO_STATUS_POISON_OUT 1) n = gRawRec s n := rd_wr_reg_ne (gCtl_ne_gStatus n) ..
    have hpat : lanePat (wr s (gStatus n) F.FIFO_STATUS_POISON_OUT 1) (groupLane n) = lanePat s (groupLane n) := by
      rw [lanePat, lanePat, rd_wr_reg_ne]
      have hlane : groupLane n < 112 := by rw [groupLane]; omega
      rw [A.LANE_TRAIN]
      omega
    rw [errorBytes, if_pos hraw', hlen, hpat]
    rfl
  have hop : ∃ out, out = patternBytes (raw32Error (lanePat s (groupLane n))) (16 * gRawRec s n - g.txSent) ∧ opUnpackLaneWord n s
      = gSync (sendRecord (setG (wr s (gStatus n) F.FIFO_STATUS_POISON_OUT 1) n (cutSent g out)) n 2 out) n := by
    refine ⟨_, hbytes, ?_⟩
    simp only [opUnpackLaneWord, laneWord_go hs, hsend, hrec, hg, herr, hraw, and_self, Bool.or_false, Bool.not_true, Bool.false_and,
      Bool.false_eq_true, if_false, if_true]
    rfl
  obtain ⟨out, hout, hop⟩ := hop
  rw [← hout, hop, rd_gSync_status (by decide), (offGroups_sendRecord ..).rd hstatus, rd_setG, getG_gSync, (offGroups_sendRecord ..).getG,
    getG_setG_same]
  exact ⟨rfl, rd_wr_same (by decide) ..⟩

end

/-! ### The clauses on UNPACK_LANE_WORD -/

theorem not_cut_of_notCut {s : State} {n : Nat} (h : notCut s n) : ¬((getG s n).txErr = true ∧ gRaw s n = true) := by
  rintro ⟨herr, hraw⟩
  obtain h | h := h
  · rw [herr] at h
    cases h
  · rw [hraw] at h
    cases h

section
variable {s : State} {n : Fin 16} (hs : groupSends s n) (hrec : gNoRec s n = false) (hsend : (getG s n).sending = true)
include hs hrec hsend

theorem unpackLaneWord_mid (hend : (getG s n).txEnd = false) (hcut : notCut s n) (hbytes : gBytes s n ≤ (getG s n).txBytes.length) :
    ∃ t : State, exec (.unpackLaneWord n) s = .next t ∧ (getG t n).lastOut = (getG s n).txBytes.take (gBytes s n)
      ∧ (getG t n).txBytes = (getG s n).txBytes.drop (gBytes s n) ∧ (getG t n).outKind = 1 ∧ (getG t n).sending = true := by
  have hg := laneWord_mid hs hrec hsend (refill_done (.inl hbytes) _) (not_cut_of_notCut hcut)
    ⟨hbytes, by rw [hend]; exact fun h => Bool.false_ne_true h.1⟩
  refine ⟨opUnpackLaneWord n s, rfl, ?_⟩
  rw [hg]
  exact ⟨rfl, rfl, rfl, hsend⟩

theorem unpackLaneWord_ends (hend : (getG s n).txEnd = true) (hcut : notCut s n) (hbytes : (getG s n).txBytes.length ≤ gBytes s n) :
    ∃ t : State, exec (.unpackLaneWord n) s = .next t ∧ (getG t n).lastOut = (getG s n).txBytes ∧ (getG t n).sending = false
      ∧ (getG t n).outKind = (if (getG s n).txErr then 3 else 2)
      ∧ rd t (gStatus n) F.FIFO_STATUS_POISON_OUT
        = (if (getG s n).txErr then 1 else rd s (gStatus n) F.FIFO_STATUS_POISON_OUT) := by
  obtain ⟨hg, hpoison⟩ := laneWord_end hs hrec hsend (refill_done (.inr hend) _) (not_cut_of_notCut hcut) hend hbytes
  refine ⟨opUnpackLaneWord n s, rfl, ?_⟩
  rw [hg]
  exact ⟨rfl, rfl, rfl, hpoison⟩

theorem unpackLaneWord_cuts (herr : (getG s n).txErr = true) (hraw : gRaw s n = true) :
    ∃ t : State, exec (.unpackLaneWord n) s = .next t ∧ (getG t n).sending = false ∧ (getG t n).outKind = 3
      ∧ (getG t n).lastOut = patternBytes (raw32Error (lanePat s (groupLane n))) (16 * gRawRec s n - (getG s n).txSent)
      ∧ rd t (gStatus n) F.FIFO_STATUS_POISON_OUT = 1 := by
  obtain ⟨herr', hsent⟩ := refill_txErr (gBytes s n) ((getG s n).unpack.length + 2) herr
  obtain ⟨hg, hpoison⟩ := laneWord_cut hs hrec hsend rfl herr' hraw
  refine ⟨opUnpackLaneWord n s, rfl, ?_⟩
  rw [hg, ← hsent]
  exact ⟨rfl, rfl, rfl, hpoison⟩

theorem unpackLaneWord_waits (hend : (getG s n).txEnd = false) (hcut : notCut s n) (hheld : unpackHeld (getG s n) = [])
    (hbytes : (getG s n).txBytes.length < gBytes s n) :
    ∃ t : State, exec (.unpackLaneWord n) s = .next t ∧ (getG t n).sending = true ∧ (getG t n).lastOut = (getG s n).lastOut
      ∧ (getG t n).txBytes = (getG s n).txBytes := by
  have hmore : ¬(gBytes s n ≤ (getG s n).txBytes.length ∨ (getG s n).txEnd = true) := by
    rw [hend]
    simpa using hbytes
  have hg := laneWord_waits hs hrec hsend (refill_empty hmore hheld _) (not_cut_of_notCut hcut) hend hbytes
  refine ⟨opUnpackLaneWord n s, rfl, ?_⟩
  rw [hg]
  exact ⟨hsend, rfl, rfl⟩

variable (hnoRest : noRest s n) (hend : (getG s n).txEnd = false) (herr : (getG s n).txErr = false) (hnone : (getG s n).txBytes = [])
  {ws : List SWord} {rest : List (List SWord)} (hcore : (getG s n).unpack = ws :: rest)
include hnoRest hend hnone hcore

omit hs hrec hsend in
/-- With nothing at hand one read-word is taken, where it ends the record or gives a lane word. -/
theorem refill_one (henough : gBytes s n ≤ ((recWords ws).flatMap wordBytes).length ∨ hasEnd ws = true) :
    refill false (gBytes s n) ((getG s n).unpack.length + 2) (getG s n) = wordTaken (getG s n) ws rest := by
  have hmore : ¬(gBytes s n ≤ (getG s n).txBytes.length ∨ (getG s n).txEnd = true) := by
    rw [hnone, hend]
    rintro (h | h)
    · exact absurd h (Nat.not_le.mpr (gBytes_pos s n))
    · cases h
  rw [refill_word hmore ((unpackHeld_of_noRest hnoRest).trans hcore), refill_done]
  rwa [wordTaken, hnone]

include herr

theorem unpackLaneWord_data (hdata : ws.all (fun w => w.tag == .data) = true) (hlen : ws.length = 4) (hk : gBytes s n ≤ 16) :
    ∃ t : State, exec (.unpackLaneWord n) s = .next t ∧ (getG t n).unpack = rest ∧ (getG t n).outKind = 1
      ∧ (getG t n).lastOut ++ (getG t n).txBytes = ws.flatMap wordBytes ∧ (getG t n).lastOut.length = gBytes s n := by
  obtain ⟨hwords, hnoEnd, hnoPoison⟩ := recWords_of_data hdata
  have hsixteen : (ws.flatMap wordBytes).length = 16 := by rw [length_flatMap_of_data hdata, hlen]
  have htaken : wordTaken (getG s n) ws rest = { getG s n with
      unpack := rest, txRest := wordsAbove ws, txBytes := ws.flatMap wordBytes, txEnd := false, txErr := false } := by
    rw [wordTaken, hwords, hnoEnd, hnoPoison, herr, hnone]
    rfl
  have hrefill := refill_one hnoRest hend hnone hcore (.inl (by rw [hwords, hsixteen]; exact hk))
  rw [htaken] at hrefill
  have hg := laneWord_mid hs hrec hsend hrefill (fun h => Bool.false_ne_true h.1)
    ⟨by rw [hsixteen]; exact hk, fun h => Bool.false_ne_true h.1⟩
  refine ⟨opUnpackLaneWord n s, rfl, ?_⟩
  rw [hg]
  refine ⟨rfl, rfl, List.take_append_drop .., ?_⟩
  exact (List.length_take ..).trans (Nat.min_eq_left (by rw [hsixteen]; exact hk))

theorem unpackLaneWord_last (hlast : hasEnd ws = true) (hfits : ((recWords ws).flatMap wordBytes).length ≤ gBytes s n)
    (hwhole : gRaw s n = false ∨ (recWords ws).any (fun w => w.tag == .poison) = false) :
    ∃ t : State, exec (.unpackLaneWord n) s = .next t ∧ (getG t n).unpack = rest ∧ (getG t n).sending = false
      ∧ (getG t n).lastOut = (recWords ws).flatMap wordBytes ∧ (getG t n).txRest = wordsAbove ws
      ∧ (getG t n).outKind = (if (recWords ws).any (fun w => w.tag == .poison) = true then 3 else 2) := by
  have htaken : wordTaken (getG s n) ws rest = { getG s n with
      unpack := rest, txRest := wordsAbove ws, txBytes := (recWords ws).flatMap wordBytes, txEnd := true
      txErr := (recWords ws).any (fun w => w.tag == .poison) } := by
    rw [wordTaken, hlast, herr, hnone]
    rfl
  have hrefill := refill_one hnoRest hend hnone hcore (.inr hlast)
  rw [htaken] at hrefill
  have hcut : ¬((recWords ws).any (fun w => w.tag == .poison) = true ∧ gRaw s n = true) := by
    rintro ⟨hpoison, hraw⟩
    obtain h | h := hwhole
    · rw [hraw] at h
      cases h
    · rw [hpoison] at h
      cases h
  obtain ⟨hg, -⟩ := laneWord_end hs hrec hsend hrefill hcut rfl hfits
  refine ⟨opUnpackLaneWord n s, rfl, ?_⟩
  rw [hg]
  exact ⟨rfl, rfl, rfl, rfl, rfl⟩

end

/-! ### UNPACK_UNDERRUN -/

/-- A group whose record ran empty: the rest of it will be discarded. -/
def ranEmpty (g : GroupSt) (out : List Byte) : GroupSt :=
  { g with sending := false, discard := true, lastOut := out, txBytes := [], outKind := 3, txErr := false }

theorem unpackUnderrun_ends {s : State} {n : Fin 16} (hsend : (getG s n).sending = true) (hend : (getG s n).txEnd = false)
    (hheld : unpackHeld (getG s n) = []) (hbytes : (getG s n).txBytes.length < gBytes s n) :
    ∃ t : State, exec (.unpackUnderrun n) s = .next t ∧ (getG t n).sending = false ∧ (getG t n).discard = true
      ∧ (getG t n).outKind = 3 ∧ rd t (gStatus n) F.FIFO_STATUS_UNDERRUN = 1
      ∧ ((getG s n).txErr = true → rd t (gStatus n) F.FIFO_STATUS_POISON_OUT = 1)
      ∧ rd t (gUnf n) F.UNF_CNT_COUNT = min (rd s (gUnf n) F.UNF_CNT_COUNT + 1) (2 ^ 32 - 1) := by
  obtain ⟨-, hstatus, -, hunf, -⟩ := groupRegs_ge n
  obtain ⟨u, hu⟩ : ∃ u, u = if (getG s n).txErr then wr s (gStatus n) F.FIFO_STATUS_POISON_OUT 1 else s := ⟨_, rfl⟩
  have hcount : rd u (gUnf n) F.UNF_CNT_COUNT = rd s (gUnf n) F.UNF_CNT_COUNT := by
    rw [hu]
    split
    · exact rd_wr_reg_ne (gUnf_ne_gStatus n) ..
    · rfl
  have hpoison : (getG s n).txErr = true → rd u (gStatus n) F.FIFO_STATUS_POISON_OUT = 1 := by
    intro herr
    rw [hu, if_pos herr]
    exact rd_wr_same (by decide) ..
  obtain ⟨out, v, unit, hv, hop⟩ : ∃ (out : List Byte) (v : State) (unit : BitVec 32),
      v = sendRecord (setG u n (ranEmpty (getG s n) out)) n 2 out ∧ opUnpackUnderrun n s
        = report (gError (bump v (gUnf n) F.UNF_CNT_COUNT 1) n F.FIFO_STATUS_UNDERRUN) (182 + n.val) unit 0x741 [] := by
    have hempty : (unpackHeld (getG s n) != []) = false := by rw [hheld]; rfl
    have hgo : (!(getG s n).sending || (getG s n).txEnd || unpackHeld (getG s n) != []
        || decide (gBytes s n ≤ (getG s n).txBytes.length)) = false := by
      rw [hsend, hend, hempty, decide_eq_false (Nat.not_le.mpr hbytes)]
      rfl
    rw [hu]
    exact ⟨_, _, _, rfl, if_neg (by rw [hgo]; exact Bool.false_ne_true)⟩
  have hline : OffGroups (setG u n (ranEmpty (getG s n) out)) v := hv ▸ offGroups_sendRecord ..
  have hmark := marked_gError (bump v (gUnf n) F.UNF_CNT_COUNT 1) n F.FIFO_STATUS_UNDERRUN
  have hoff := offGroups_report (gError (bump v (gUnf n) F.UNF_CNT_COUNT 1) n F.FIFO_STATUS_UNDERRUN) (182 + n.val) unit 0x741 []
  refine ⟨opUnpackUnderrun n s, rfl, ?_⟩
  rw [hop, hoff.getG, hmark.getG, getG_bump, hline.getG, getG_setG_same]
  refine ⟨rfl, rfl, rfl, ?_, fun herr => ?_, ?_⟩
  · rw [hoff.rd hstatus, rd_gError_set (by decide) (by decide)]
  · rw [hoff.rd hstatus, hmark.status (by decide), rd_bump_reg_ne (gUnf_ne_gStatus n).symm, hline.rd hstatus, rd_setG, hpoison herr]
  · rw [hoff.rd hunf, hmark.other (gUnf_ne_gStatus n), rd_bump_same (by decide), hline.rd hunf, rd_setG, hcount]
    rfl

end Sys2Proof.Proofs
end

section
/-! PROOFS. Edge groups: their states (spec 06 R242, R245, R246; spec 11 R427, R428), and O46. -/

namespace Sys2Proof.Proofs

open Machine Laws Claims

section
variable (s : State) (n : Nat)

theorem gState_lt : gState s n < 4 := rd_lt ..

theorem getG_gSetState (st : Nat) : getG (gSetState s n st) n = getG s n := rfl

theorem gState_gSetState {st : Nat} (h : st < 4) : gState (gSetState s n st) n = st :=
  (rd_wr_same (by decide) ..).trans (Nat.mod_eq_of_lt h)

theorem rd_gSetState_gCtl (st : Nat) (f : Fld) : rd (gSetState s n st) (gCtl n) f = rd s (gCtl n) f :=
  rd_wr_reg_ne (gCtl_ne_gStatus n) ..

/-! ### A write of GRP_CTL -/

/-- The fields that give a group its shape, which are written in OFF alone (spec 06 R245). -/
def shapeFields (v : Reg) : List Fld :=
  if gState s n ≠ 0 then [] else if getFld v F.GRP_CTL_WIDTH = 3 then [F.GRP_CTL_LANES, F.GRP_CTL_RAW_REC]
  else [F.GRP_CTL_WIDTH, F.GRP_CTL_LANES, F.GRP_CTL_RAW_REC]

/-- The fields that every write of GRP_CTL sets. -/
def ctlFields : List Fld :=
  [F.GRP_CTL_DRAIN_LIMIT, F.GRP_CTL_START_LEVEL, F.GRP_CTL_THRESH_IE, F.GRP_CTL_ERR_IE, F.GRP_CTL_EN]

/-- The register written. -/
def ctlReg (v : Reg) : State := setR s (gCtl n) (writeFlds true (ctlFields ++ shapeFields s n v) (getR s (gCtl n)) v)

/-- The same with the lanes' clocks checked against their new shape. -/
def ctlWritten (v : Reg) : State :=
  if shapeFields s n v = [] then ctlReg s n v else (groupLanes (ctlReg s n v) n).foldl checkWordRate (ctlReg s n v)

theorem writeGrpCtl_eq (v : Reg) : writeGrpCtl s n v =
    if gState s n = 0 then (if getFld v F.GRP_CTL_EN == 1 then bondLanes (gSetState (ctlWritten s n v) n 1) n else ctlWritten s n v)
    else if gState s n = 1 then (if getFld v F.GRP_CTL_EN == 1 then ctlWritten s n v else gSetState (ctlWritten s n v) n 2)
    else if gState s n = 2 then (if getFld v F.GRP_CTL_EN == 1 then
      gSetState (setG (ctlWritten s n v) n { getG (ctlWritten s n v) n with closed := false }) n 1 else ctlWritten s n v)
    else setG (ctlWritten s n v) n { getG (ctlWritten s n v) n with restart := getFld v F.GRP_CTL_EN == 1 } := rfl

/-- While the group is not OFF its shape stays. -/
theorem rd_ctlWritten_shape {v : Reg} (hst : gState s n ≠ 0) {f : Fld} (hf : f.mask &&& maskOf ctlFields = 0) :
    rd (ctlWritten s n v) (gCtl n) f = rd s (gCtl n) f := by
  have hshape : shapeFields s n v = [] := if_pos hst
  have hrw : ∀ f ∈ ctlFields, f.ty = .rw := by decide
  rw [ctlWritten, if_pos hshape, rd, ctlReg, getR_setR_same, hshape, List.append_nil, writeFlds_rw hrw, getFld_mergeMask_out hf, rd]

end

section
variable (s : State) (n : Fin 16) (v : Reg)

theorem ctlWritten_keeps : getG (ctlWritten s n v) n = getG s n ∧ gState (ctlWritten s n v) n = gState s n := by
  have hreg : gState (ctlReg s n v) n = gState s n := by
    rw [gState, rd, ctlReg, getR_setR_ne _ _ _ _ (gCtl_ne_gStatus n).symm]
    rfl
  unfold ctlWritten
  split
  · exact ⟨rfl, hreg⟩
  · have hoff : OffGroups (ctlReg s n v) ((groupLanes (ctlReg s n v) n).foldl checkWordRate (ctlReg s n v)) :=
      offGroups_foldl _ (fun _ hl u => offGroups_checkWordRate (lt_of_mem_groupLanes hl) u) _
    exact ⟨hoff.getG n, (hoff.gState n).trans hreg⟩

end

/-- What a write of GRP_CTL keeps of the group: its two cores. -/
def CoresKept (s t : State) (n : Nat) : Prop := (getG t n).pack = (getG s n).pack ∧ (getG t n).unpack = (getG s n).unpack

/-- The fields of a group's shape hold in `t` what they held in `s`. -/
def ShapeKept (s t : State) (n : Nat) : Prop := gLanes t n = gLanes s n ∧ gLaneBytes t n = gLaneBytes s n ∧ gRawRec t n = gRawRec s n

theorem shapeKept_of_rd {s t : State} {n : Nat} {v : Reg} (hst : gState s n ≠ 0)
    (h : ∀ f : Fld, rd t (gCtl n) f = rd (ctlWritten s n v) (gCtl n) f) : ShapeKept s t n := by
  have hkeep : ∀ f : Fld, f.mask &&& maskOf ctlFields = 0 → rd t (gCtl n) f = rd s (gCtl n) f :=
    fun f hf => (h f).trans (rd_ctlWritten_shape s n hst hf)
  refine ⟨?_, ?_, hkeep _ (by decide)⟩
  · rw [gLanes, gLanes, hkeep _ (by decide)]
  · rw [gLaneBytes, gLaneBytes, hkeep _ (by decide)]

section
variable {s : State} {n : Fin 16} {v : Reg} (ha : s.asleep = false) (hd : s.defaultsDue = false)
include ha hd

theorem groupEnable_enables (hen : getFld v F.GRP_CTL_EN = 1) :
    ∃ t : State, exec (.groupEnable n v) s = .next t ∧ gState t n = (if gState s n = 3 then 3 else 1)
      ∧ (getG t n).restart = (if gState s n = 3 then true else (getG s n).restart)
      ∧ (getG t n).pack = (getG s n).pack ∧ (getG t n).unpack = (getG s n).unpack
      ∧ (gState s n ≠ 0 → gLanes t n = gLanes s n ∧ gLaneBytes t n = gLaneBytes s n ∧ gRawRec t n = gRawRec s n) := by
  obtain ⟨hg, hstate⟩ := ctlWritten_keeps s n v
  have hone : (getFld v F.GRP_CTL_EN == 1) = true := by rw [hen]; rfl
  have hwrite := writeGrpCtl_eq s n v
  simp only [hone, if_true, hg] at hwrite
  refine ⟨writeGrpCtl s n v, congrArg _ (hostAccess_awake ha hd _), ?_⟩
  have hlt := gState_lt s n
  obtain h0 | h1 | h2 | h3 : gState s n = 0 ∨ gState s n = 1 ∨ gState s n = 2 ∨ gState s n = 3 := by omega
  · have hoff := offGroups_bondLanes (gSetState (ctlWritten s n v) n 1) n
    rw [h0] at hwrite ⊢
    rw [hwrite, if_pos rfl, hoff.gState, hoff.getG, gState_gSetState _ _ (by decide), getG_gSetState, hg]
    exact ⟨rfl, rfl, rfl, rfl, fun h => absurd rfl h⟩
  · have hshape : ShapeKept s (ctlWritten s n v) n := shapeKept_of_rd (v := v) (by omega) fun _ => rfl
    rw [h1] at hwrite hstate ⊢
    have ht : writeGrpCtl s n v = ctlWritten s n v := hwrite
    rw [ht, hstate, hg]
    exact ⟨rfl, rfl, rfl, rfl, fun _ => hshape⟩
  · have hshape : ShapeKept s (gSetState (setG (ctlWritten s n v) n { getG s n with closed := false }) n 1) n :=
      shapeKept_of_rd (v := v) (by omega) fun f => rd_gSetState_gCtl ..
    rw [h2] at hwrite ⊢
    have ht : writeGrpCtl s n v = gSetState (setG (ctlWritten s n v) n { getG s n with closed := false }) n 1 := hwrite
    rw [ht, gState_gSetState _ _ (by decide), getG_gSetState, getG_setG_same]
    exact ⟨rfl, rfl, rfl, rfl, fun _ => hshape⟩
  · have hshape : ShapeKept s (setG (ctlWritten s n v) n { getG s n with restart := true }) n :=
      shapeKept_of_rd (v := v) (by omega) fun _ => rfl
    rw [h3] at hwrite hstate ⊢
    have ht : writeGrpCtl s n v = setG (ctlWritten s n v) n { getG s n with restart := true } := hwrite
    rw [ht, getG_setG_same]
    exact ⟨hstate, rfl, rfl, rfl, fun _ => hshape⟩

theorem groupDisable_drains (hen : getFld v F.GRP_CTL_EN = 0) :
    ∃ t : State, exec (.groupDisable n v) s = .next t ∧ gState t n = (if gState s n = 1 then 2 else gState s n)
      ∧ (getG t n).pack = (getG s n).pack ∧ (getG t n).unpack = (getG s n).unpack := by
  obtain ⟨hg, hstate⟩ := ctlWritten_keeps s n v
  have hzero : (getFld v F.GRP_CTL_EN == 1) = false := by rw [hen]; rfl
  have hwrite := writeGrpCtl_eq s n v
  simp only [hzero, Bool.false_eq_true, if_false, hg] at hwrite
  refine ⟨writeGrpCtl s n v, congrArg _ (hostAccess_awake ha hd _), ?_⟩
  have hlt := gState_lt s n
  obtain h0 | h1 | h2 | h3 : gState s n = 0 ∨ gState s n = 1 ∨ gState s n = 2 ∨ gState s n = 3 := by omega
  · rw [h0] at hwrite hstate ⊢
    have ht : writeGrpCtl s n v = ctlWritten s n v := hwrite
    rw [ht, hstate, hg]
    exact ⟨rfl, rfl, rfl⟩
  · rw [h1] at hwrite ⊢
    have ht : writeGrpCtl s n v = gSetState (ctlWritten s n v) n 2 := hwrite
    rw [ht, gState_gSetState _ _ (by decide), getG_gSetState, hg]
    exact ⟨rfl, rfl, rfl⟩
  · rw [h2] at hwrite hstate ⊢
    have ht : writeGrpCtl s n v = ctlWritten s n v := hwrite
    rw [ht, hstate, hg]
    exact ⟨rfl, rfl, rfl⟩
  · rw [h3] at hwrite hstate ⊢
    have ht : writeGrpCtl s n v = setG (ctlWritten s n v) n { getG s n with restart := false } := hwrite
    rw [ht, getG_setG_same]
    exact ⟨hstate, rfl, rfl⟩

end

/-! ### Draining and ISOLATING -/

theorem groupDrainEnd_isolates {s : State} {n : Fin 16} (hst : gState s n = 2) :
    ∃ t : State, exec (.groupDrainEnd n true) s = .next t ∧ gState t n = 3 ∧ getG t n = getG s n :=
  ⟨gSetState s n 3, congrArg _ (if_pos ⟨hst, .inl rfl⟩), gState_gSetState _ _ (by decide), getG_gSetState ..⟩

/-- The cleared group in OFF: its counts are taken and nothing of its record is left in the lanes. -/
def groupCleared (s : State) (n : Nat) : State :=
  gSync (gSetState (onLanes (setG (bump s (gOvf n) F.OVF_CNT_COUNT
    ((getG s n).pack.length + (unpackHeld (getG s n)).length + (getG s n).dropped)) n {}) n
      (fun _ x => { dropShare x with items := [], txOpen := false, txFill := [] })) n 0) n

theorem opGroupOff_eq {s : State} {n : Fin 16} (hst : gState s n = 3) :
    opGroupOff n s = if (getG s n).restart then gError (bondLanes (gSetState (groupCleared s n) n 1) n) n F.FIFO_STATUS_RESTART_MERGED
      else groupCleared s n := by
  have hgo : ¬gState s n ≠ 3 := fun h => h hst
  exact if_neg hgo

theorem groupCleared_facts (s : State) (n : Nat) : getG (groupCleared s n) n = {} ∧ gState (groupCleared s n) n = 0
    ∧ rd (groupCleared s n) (gOvf n) F.OVF_CNT_COUNT = min (rd s (gOvf n) F.OVF_CNT_COUNT + (getG s n).pack.length
      + (unpackHeld (getG s n)).length + (getG s n).dropped) (2 ^ 32 - 1) := by
  obtain ⟨-, -, hovf, -⟩ := groupRegs_ge n
  refine ⟨?_, ?_, ?_⟩
  · rw [groupCleared, getG_gSync, getG_gSetState, (offGroups_onLanes ..).getG, getG_setG_same]
  · exact (rd_gSync_status (by decide)).trans (gState_gSetState _ _ (by decide))
  · rw [groupCleared, rd_gSync_ne (gOvf_ne_gStatus n) (gOvf_ne_gLevel n), gSetState, rd_wr_reg_ne (gOvf_ne_gStatus n),
      (offGroups_onLanes ..).rd hovf, rd_setG, rd_bump_same (by decide), Nat.add_assoc, Nat.add_assoc, ← Nat.add_assoc]
    rfl

theorem groupOff_clears {s : State} {n : Fin 16} (hst : gState s n = 3) :
    ∃ t : State, exec (.groupOff n) s = .next t ∧ (getG t n).pack = [] ∧ (getG t n).unpack = []
      ∧ gState t n = (if (getG s n).restart then 1 else 0)
      ∧ ((getG s n).restart = true → rd t (gStatus n) F.FIFO_STATUS_RESTART_MERGED = 1)
      ∧ rd t (gOvf n) F.OVF_CNT_COUNT = min (rd s (gOvf n) F.OVF_CNT_COUNT + (getG s n).pack.length + (unpackHeld (getG s n)).length
          + (getG s n).dropped) (2 ^ 32 - 1) := by
  obtain ⟨-, -, hovf, -⟩ := groupRegs_ge n
  obtain ⟨hg, hstate, hcount⟩ := groupCleared_facts s n
  refine ⟨opGroupOff n s, rfl, ?_⟩
  rw [opGroupOff_eq hst]
  cases (getG s n).restart with
  | false =>
    rw [if_neg Bool.false_ne_true, hg, hstate]
    exact ⟨rfl, rfl, rfl, fun h => absurd h Bool.false_ne_true, hcount⟩
  | true =>
    have hoff := offGroups_bondLanes (gSetState (groupCleared s n) n 1) n
    have hmark := marked_gError (bondLanes (gSetState (groupCleared s n) n 1) n) n F.FIFO_STATUS_RESTART_MERGED
    have hon : gState (gError (bondLanes (gSetState (groupCleared s n) n 1) n) n F.FIFO_STATUS_RESTART_MERGED) n = 1 := by
      rw [gState, hmark.status (by decide), ← gState, hoff.gState, gState_gSetState _ _ (by decide)]
    rw [if_pos rfl, hon, hmark.getG, hoff.getG, getG_gSetState, hg, hmark.other (gOvf_ne_gStatus n), hoff.rd hovf, gSetState,
      rd_wr_reg_ne (gOvf_ne_gStatus n), hcount]
    exact ⟨rfl, rfl, rfl, fun _ => rd_gError_set (by decide) (by decide) .., rfl⟩

/-- Settles O46: each command of a group by what it leaves of the group's state and of its registers; lanes, vectors and the event log
touch neither. -/
theorem edgeGroups : Obligations.EdgeGroups :=
  ⟨fun _ h1 h16 => endWord_sent h1 h16,
    fun _ _ _ _ hgoes hhears hd hne hlen hroom => packLaneWord_packs hgoes hhears hd hne hlen hroom,
    fun _ _ _ hgoes hhears hd hfull hlen hraw h1 h16 => packLaneWord_refused hgoes hhears hd hfull hlen hraw h1 h16,
    fun _ _ x e h => packLaneWord_deaf x e h,
    fun _ _ hd hend hroom => droppingExit_marks hd hend hroom,
    fun _ _ _ _ hl hn hc hrec hon hlane hd hroom => edgeRecordError_marks hl hn hc hrec hon hlane hd hroom,
    fun _ _ _ _ hst hpack hfree => packReadSidePop_moves hst hpack hfree,
    fun _ _ _ _ _ hon hslot hruns heng hword => unpackWordAccept_takes hon hslot hruns heng hword,
    fun _ _ _ hst hws hlen => ⟨unpackPush_pushes hst hws hlen, unpackPush_full⟩,
    fun _ _ hst hidle hheld hrec htalks hready => unpackRecordStart_starts hst hidle hheld hrec htalks hready,
    fun _ _ hs hrec hsend hend hcut hbytes => unpackLaneWord_mid hs hrec hsend hend hcut hbytes,
    fun _ _ _ _ hs hnoRest hrec hsend hend herr hnone hcore hdata hlen hk =>
      unpackLaneWord_data hs hrec hsend hnoRest hend herr hnone hcore hdata hlen hk,
    fun _ _ hs hrec hsend hend hcut hbytes => unpackLaneWord_ends hs hrec hsend hend hcut hbytes,
    fun _ _ _ _ hs hnoRest hrec hsend hend herr hnone hcore hlast hfits hwhole =>
      unpackLaneWord_last hs hrec hsend hnoRest hend herr hnone hcore hlast hfits hwhole,
    fun _ _ hs hrec hsend herr hraw => unpackLaneWord_cuts hs hrec hsend herr hraw,
    fun _ _ hs hrec hsend hend hcut hheld hbytes => unpackLaneWord_waits hs hrec hsend hend hcut hheld hbytes,
    fun _ _ hs hrec hidle => unpackLaneWord_idles hs hrec hidle,
    fun _ _ hsend hend hheld hbytes => unpackUnderrun_ends hsend hend hheld hbytes,
    fun _ _ _ ha hd hen => groupEnable_enables ha hd hen,
    fun _ _ _ ha hd hen => groupDisable_drains ha hd hen,
    fun _ _ hst => groupDrainEnd_isolates hst,
    fun _ _ hst => groupOff_clears hst⟩

end Sys2Proof.Proofs
end

section
/-! PROOFS. Flits in packets (spec 07 R250 to R253; spec 10 R359, R360): fields packed side by side are read again where they
stand, and numbers cut into blocks are put together again. -/

namespace Sys2Proof.Proofs

open Machine

/-! ### Fields side by side -/

/-- The bits that fields take together. -/
def packWidth (fs : List (Nat × Nat)) : Nat := (fs.map Prod.fst).sum

/-- Fields put behind others move these up by their width. -/
theorem packFields_append (as bs : List (Nat × Nat)) :
    packFields (as ++ bs) = packFields as * 2 ^ packWidth bs + packFields bs := by
  induction bs using List.reverseRecOn with
  | nil => simp [packFields, packWidth]
  | append_singleton bs x ih =>
    have hstep : ∀ l : List (Nat × Nat), packFields (l ++ [x]) = packFields l * 2 ^ x.1 + x.2 % 2 ^ x.1 := fun l => by
      simp [packFields]
    have hwidth : packWidth (bs ++ [x]) = packWidth bs + x.1 := by simp [packWidth]
    rw [← List.append_assoc, hstep, hstep, ih, hwidth, Nat.pow_add]
    ring

theorem packFields_cons (x : Nat × Nat) (fs : List (Nat × Nat)) :
    packFields (x :: fs) = x.2 % 2 ^ x.1 * 2 ^ packWidth fs + packFields fs := by
  simpa [packFields] using packFields_append [x] fs

theorem packFields_lt (fs : List (Nat × Nat)) : packFields fs < 2 ^ packWidth fs := by
  induction fs with
  | nil => simp [packFields, packWidth]
  | cons x fs ih =>
    have hx : x.2 % 2 ^ x.1 + 1 ≤ 2 ^ x.1 := Nat.mod_lt _ (Nat.two_pow_pos _)
    have hw : packWidth (x :: fs) = x.1 + packWidth fs := by simp [packWidth]
    have hm := Nat.mul_le_mul_right (2 ^ packWidth fs) hx
    rw [Nat.add_mul] at hm
    rw [packFields_cons, hw, Nat.pow_add]
    omega

/-- The field at place `k` reads between the bits where it stands. -/
theorem bitsOf_packFields {fs : List (Nat × Nat)} (k : Nat) {w x hi : Nat} (hk : fs[k]? = some (w, x))
    (hw : hi + 1 - packWidth (fs.drop (k + 1)) = w) :
    bitsOf (packFields fs) hi (packWidth (fs.drop (k + 1))) = x % 2 ^ w := by
  obtain ⟨hlt, hget⟩ := List.getElem?_eq_some_iff.mp hk
  have hsplit : fs = fs.take k ++ (w, x) :: fs.drop (k + 1) := by
    rw [← hget, List.cons_getElem_drop_succ, List.take_append_drop]
  have hlow := packFields_lt (fs.drop (k + 1))
  generalize fs.drop (k + 1) = bs at *
  have hpos := Nat.two_pow_pos (packWidth bs)
  have hdiv : packFields fs / 2 ^ packWidth bs = packFields (fs.take k) * 2 ^ w + x % 2 ^ w := by
    have hsum : packFields fs
        = packFields bs + (packFields (fs.take k) * 2 ^ w + x % 2 ^ w) * 2 ^ packWidth bs := by
      have hwidth : packWidth ((w, x) :: bs) = w + packWidth bs := by simp [packWidth]
      conv_lhs => rw [hsplit]
      rw [packFields_append, packFields_cons, hwidth, Nat.pow_add]
      ring
    rw [hsum, Nat.add_mul_div_right _ _ hpos, Nat.div_eq_of_lt hlow, Nat.zero_add]
  rw [bitsOf, hdiv, hw, Nat.add_comm, Nat.add_mul_mod_self_right, Nat.mod_mod]

/-- A field read from the bits `hi` to `lo` of `v` and packed where it stood reads as it did. -/
theorem field_packed {fs : List (Nat × Nat)} {p : Nat} (hp : packFields fs = p) (k : Nat) {v w hi lo : Nat}
    (hk : fs[k]? = some (hi + 1 - lo, (BitVec.ofNat w (bitsOf v hi lo)).toNat) := by rfl) (hw : hi + 1 - lo ≤ w := by decide)
    (hlo : packWidth (fs.drop (k + 1)) = lo := by simp [packWidth]) :
    BitVec.ofNat w (bitsOf p hi lo) = BitVec.ofNat w (bitsOf v hi lo) := by
  have hlt : bitsOf v hi lo < 2 ^ (hi + 1 - lo) := Nat.mod_lt _ (Nat.two_pow_pos _)
  have hle : bitsOf v hi lo < 2 ^ w := hlt.trans_le (Nat.pow_le_pow_right (by decide) hw)
  subst hlo hp
  rw [bitsOf_packFields k hk rfl, BitVec.toNat_ofNat, Nat.mod_eq_of_lt hle, Nat.mod_eq_of_lt hlt]

/-- A flag packed where it stood reads as it did. -/
theorem flag_packed {fs : List (Nat × Nat)} {p : Nat} (hp : packFields fs = p) (k : Nat) {v i : Nat}
    (hk : fs[k]? = some (1, b2n (bit v i)) := by rfl)
    (hi : packWidth (fs.drop (k + 1)) = i := by simp [packWidth]) : bit p i = bit v i := by
  subst hi hp
  have hread := bitsOf_packFields k (hi := packWidth (fs.drop (k + 1))) hk (by omega)
  have hbit : ∀ u j : Nat, bit u j = (bitsOf u j j == 1) := fun u j => by simp [bit, bitsOf]
  rw [hbit (packFields fs), hread]
  cases bit v (packWidth (fs.drop (k + 1))) <;> rfl

/-! ### The bits of a flit -/

theorem bitsFlit_flitBits_req (v : Nat) : bitsFlit .req (flitBits (bitsFlit .req v)) = bitsFlit .req v := by
  simp only [bitsFlit, flitBits]
  generalize hp : packFields _ = p
  congr 1
  exacts [field_packed hp 0, field_packed hp 1, field_packed hp 2, field_packed hp 3, field_packed hp 4, field_packed hp 5,
    field_packed hp 6, field_packed hp 7, field_packed hp 8, field_packed hp 9]

theorem bitsFlit_flitBits_rsp (v : Nat) : bitsFlit .rsp (flitBits (bitsFlit .rsp v)) = bitsFlit .rsp v := by
  simp only [bitsFlit, flitBits]
  generalize hp : packFields _ = p
  congr 1
  exacts [field_packed hp 0, field_packed hp 1, field_packed hp 2, field_packed hp 3, field_packed hp 4, field_packed hp 5,
    flag_packed hp 6, field_packed hp 7, field_packed hp 8, field_packed hp 9, field_packed hp 11]

theorem bitsFlit_flitBits_snp (v : Nat) : bitsFlit .snp (flitBits (bitsFlit .snp v)) = bitsFlit .snp v := by
  simp only [bitsFlit, flitBits]
  generalize hp : packFields _ = p
  congr 1
  exacts [field_packed hp 0, field_packed hp 1, field_packed hp 2, field_packed hp 3, field_packed hp 4, field_packed hp 5,
    field_packed hp 6, field_packed hp 7]

/-- The OP of a data flit, read again as it was, decides which fields it has (2: an MPUSH). -/
theorem bitsFlit_flitBits_dat (v : Nat) : bitsFlit .dat (flitBits (bitsFlit .dat v)) = bitsFlit .dat v := by
  by_cases hop : BitVec.ofNat 4 (bitsOf v 545 542) = 2
  · simp only [bitsFlit, flitBits, if_pos hop, List.cons_append, List.nil_append]
    generalize hp : packFields _ = p
    rw [if_pos ((field_packed hp 3).trans hop)]
    clear hop
    congr 1
    exacts [field_packed hp 0, field_packed hp 1, field_packed hp 2, field_packed hp 3, field_packed hp 4, field_packed hp 7,
      field_packed hp 6, field_packed hp 5, field_packed hp 9]
  · simp only [bitsFlit, flitBits, if_neg hop, List.cons_append, List.nil_append]
    generalize hp : packFields _ = p
    rw [if_neg fun h => hop ((field_packed hp 3).symm.trans h)]
    congr 1
    exacts [field_packed hp 0, field_packed hp 1, field_packed hp 2, field_packed hp 3, field_packed hp 4, flag_packed hp 8,
      field_packed hp 5, field_packed hp 6, field_packed hp 7, field_packed hp 10]

theorem bitsFlit_flitBits (n : Net) (v : Nat) : bitsFlit n (flitBits (bitsFlit n v)) = bitsFlit n v := by
  cases n
  case req => exact bitsFlit_flitBits_req v
  case rsp => exact bitsFlit_flitBits_rsp v
  case snp => exact bitsFlit_flitBits_snp v
  case dat => exact bitsFlit_flitBits_dat v

@[simp] theorem net_bitsFlit (n : Net) (v : Nat) : (bitsFlit n v).net = n := by
  cases n
  case dat => simp only [bitsFlit]; split <;> rfl
  all_goals rfl

/-! ### Payload blocks -/

@[simp] theorem length_toBlocks (n v : Nat) : (toBlocks n v).length = n := by
  induction n generalizing v with
  | zero => rfl
  | succ n ih => simp [toBlocks, ih]

/-- Blocks put together give the number that was cut into them, as far as they reach. -/
theorem ofBlocks_toBlocks (n v : Nat) : ofBlocks (toBlocks n v) = v % 2 ^ (64 * n) := by
  induction n generalizing v with
  | zero => simp [toBlocks, ofBlocks, Nat.mod_one]
  | succ n ih =>
    rw [toBlocks, ofBlocks, ih, BitVec.toNat_ofNat, show 64 * (n + 1) = 64 + 64 * n by ring, Nat.pow_add, Nat.mod_mul]

/-- The blocks of a class take every bit of its flits. -/
theorem flitBits_lt (f : Flit) : flitBits f < 2 ^ (64 * classBlocks f.net) := by
  have hpack : ∀ {fs : List (Nat × Nat)} {m : Nat}, packWidth fs ≤ m → packFields fs < 2 ^ m :=
    fun h => (packFields_lt _).trans_le (Nat.pow_le_pow_right (by decide) h)
  unfold flitBits
  cases f.net
  case dat =>
    dsimp only
    split
    · exact hpack (by simp [packWidth, classBlocks])
    · exact hpack (by simp [packWidth, classBlocks])
  all_goals exact hpack (by simp [packWidth, classBlocks])

/-! ### The packet of a flit -/

theorem bitsFlit_payload (n : Net) (v : Nat) (dst src : BitVec 16) (vc : Bool) :
    bitsFlit n (ofBlocks (flitPacket dst src (bitsFlit n v) vc).payload) = bitsFlit n v := by
  have hpay : (flitPacket dst src (bitsFlit n v) vc).payload
      = toBlocks (classBlocks (bitsFlit n v).net) (flitBits (bitsFlit n v)) := rfl
  rw [hpay, ofBlocks_toBlocks, Nat.mod_eq_of_lt (flitBits_lt _), bitsFlit_flitBits]

/-- A packet is sealed by the CRC of its header and the CRC of header and payload: neither reads the other's place. -/
theorem sealPacket_crcs (p : Packet) :
    (sealPacket p).hcrc = headerCrc (sealPacket p) ∧ (sealPacket p).trailer = packetTrailer (sealPacket p) := by
  simp only [sealPacket, headerCrc, packetTrailer, headerBits, and_self]

theorem packetShape_flitPacket (dst src : BitVec 16) (f : Flit) (vc : Bool) :
    packetShape (sealPacket (flitPacket dst src f vc)) = true := by simp [packetShape, sealPacket, flitPacket]

/-- Settles O38: fields stand side by side and read as they were packed, and the blocks of a class hold them all. -/
theorem flitsInPackets : Obligations.FlitsInPackets := by
  unfold Obligations.FlitsInPackets
  intro n v dst src vc
  obtain ⟨hcrc, htrailer⟩ := sealPacket_crcs (flitPacket dst src (bitsFlit n v) vc)
  refine ⟨bitsFlit_flitBits n v, bitsFlit_payload n v dst src vc, packetShape_flitPacket dst src _ vc, hcrc, htrailer, ?_, rfl⟩
  simp [sealPacket, flitPacket]

end Sys2Proof.Proofs
end

section
/-! PROOFS. Injection, throttling and bridges (spec 07 R249, R260, R261, R264), and the rules for links, arrived flits and the counters of
the networks. -/

namespace Sys2Proof.Proofs

open Machine Laws Claims

/-! ### Networks, links and arrived flits -/

theorem netIx_lt (n : Net) : netIx n < 4 := by cases n <;> decide

theorem netIx_inj : Function.Injective netIx := fun n m h => by cases n <;> cases m <;> simp [netIx] at h ⊢

@[simp] theorem getLink_setLink_same (s : State) (n : Net) (r sd : Nat) (x : Link) : getLink (setLink s n r sd x) n r sd = x := by
  simp [getLink, setLink]

theorem getLink_setLink_ne (s : State) {n n' : Net} {r sd r' sd' : Nat} (x : Link) (h : linkKey n' r' sd' ≠ linkKey n r sd) :
    getLink (setLink s n r sd x) n' r' sd' = getLink s n' r' sd' := smGet_smSet_ne _ _ _ _ _ _ h

@[simp] theorem getEp_setLink (s : State) (n : Net) (r sd : Nat) (x : Link) (ep : Nat) : getEp (setLink s n r sd x) ep = getEp s ep := rfl

@[simp] theorem setLink_tiles (s : State) (n : Net) (r sd : Nat) (x : Link) : (setLink s n r sd x).tiles = s.tiles := rfl

@[simp] theorem getLink_setEp (s : State) (ep : Nat) (e : Endpoint) (n : Net) (r sd : Nat) :
    getLink (setEp s ep e) n r sd = getLink s n r sd := rfl

@[simp] theorem epIn_epSetIn_same (e : Endpoint) (net : Net) (l : List Flit) : epIn (epSetIn e net l) net = l := by
  cases net <;> rfl

theorem epIn_epSetIn_ne (e : Endpoint) {net net' : Net} (l : List Flit) (h : net' ≠ net) :
    epIn (epSetIn e net l) net' = epIn e net' := by
  cases net <;> cases net' <;> simp [epIn, epSetIn] <;> exact absurd rfl h

@[simp] theorem present_epSetIn (e : Endpoint) (net : Net) (l : List Flit) : (epSetIn e net l).present = e.present := by
  cases net <;> rfl

@[simp] theorem epOut_present (e : Endpoint) (p : SMap (Option Flit)) (net : Net) : epOut { e with present := p } net = epOut e net := by
  cases net <;> rfl

@[simp] theorem epIn_present (e : Endpoint) (p : SMap (Option Flit)) (net : Net) : epIn { e with present := p } net = epIn e net := by
  cases net <;> rfl

@[simp] theorem present_epSetOut (e : Endpoint) (net : Net) (l : List Flit) : (epSetOut e net l).present = e.present := by
  cases net <;> rfl

@[simp] theorem getEp_pushIn_same (s : State) (ep : Nat) (f : Flit) :
    getEp (pushIn s ep f) ep = epSetIn (getEp s ep) f.net (epIn (getEp s ep) f.net ++ [f]) := by simp [pushIn]

theorem getEp_pushIn_ne (s : State) {ep ep' : Nat} (f : Flit) (h : ep' ≠ ep) : getEp (pushIn s ep f) ep' = getEp s ep' :=
  getEp_setEp_ne _ _ _ _ h

@[simp] theorem getLink_pushIn (s : State) (ep : Nat) (f : Flit) (n : Net) (r sd : Nat) :
    getLink (pushIn s ep f) n r sd = getLink s n r sd := rfl

/-! ### Counters -/

/-- A counter of the networks is a register, and nothing else changes as it rises. -/
theorem netCount_eq (s : State) (n k : Nat) : netCount s n k = { s with regs := (netCount s n k).regs } := by
  unfold netCount; split <;> rfl

@[simp] theorem netCount_links (s : State) (n k : Nat) : (netCount s n k).links = s.links := by rw [netCount_eq]

@[simp] theorem netCount_eps (s : State) (n k : Nat) : (netCount s n k).eps = s.eps := by rw [netCount_eq]

@[simp] theorem netCount_tiles (s : State) (n k : Nat) : (netCount s n k).tiles = s.tiles := by rw [netCount_eq]

@[simp] theorem netCount_throttle (s : State) (n k : Nat) : (netCount s n k).throttle = s.throttle := by rw [netCount_eq]

@[simp] theorem getLink_netCount (s : State) (n k : Nat) (m : Net) (r sd : Nat) : getLink (netCount s n k) m r sd = getLink s m r sd := by
  rw [getLink, getLink, netCount_links]

@[simp] theorem getEp_netCount (s : State) (n k ep : Nat) : getEp (netCount s n k) ep = getEp s ep := by
  rw [getEp, getEp, netCount_eps]

/-! ### FLIT_INJECTION -/

/-- A NACK that enters the injection queue of responses stands behind those that wait there; nothing else of what the endpoint sends
changes. -/
theorem drainNack_sends (s : State) (ep : Nat) (n : Net) :
    (∃ l, epOut (getEp (drainNack s ep) ep) n = epOut (getEp s ep) n ++ l)
    ∧ (getEp (drainNack s ep) ep).present = (getEp s ep).present ∧ (drainNack s ep).links = s.links := by
  have hkeep : (∃ l, epOut (getEp s ep) n = epOut (getEp s ep) n ++ l)
      ∧ (getEp s ep).present = (getEp s ep).present ∧ s.links = s.links := ⟨⟨[], by simp⟩, rfl, rfl⟩
  unfold drainNack
  dsimp only
  split
  · split
    · rename_i f rest _ _
      simp only [getEp_setEp_same, setEp_links, and_self, and_true]
      cases n
      case rsp => exact ⟨[f], rfl⟩
      all_goals exact ⟨[], (List.append_nil _).symm⟩
    · exact hkeep
  · exact hkeep

theorem exec_flitInjection (n : Net) (ep : Fin 2048) (s : State) :
    exec (.flitInjection n ep) s = .next (atEndpoint ep (opFlitInjection n ep) s) := rfl

/-- The state in which FLIT_INJECTION looks for a flit. -/
def injecting (n : Net) (ep : Nat) (s : State) : State := if n = .rsp then drainNack s ep else s

theorem injecting_sends (s : State) (ep : Nat) (n : Net) :
    (∃ l, epOut (getEp (injecting n ep s) ep) n = epOut (getEp s ep) n ++ l)
    ∧ (getEp (injecting n ep s) ep).present = (getEp s ep).present ∧ (injecting n ep s).links = s.links := by
  unfold injecting
  split
  · exact drainNack_sends s ep n
  · exact ⟨⟨[], by simp⟩, rfl, rfl⟩

theorem opFlitInjection_eq (s : State) (n : Net) (ep : Fin 2048) {f : Flit} {rest : List Flit}
    (hf : epOut (getEp (injecting n ep s) ep) n = f :: rest) :
    opFlitInjection n ep s =
      let u := injecting n ep s
      let e := getEp u ep
      let l := getLink u n (ep.val / 2) 4
      if bridged ep then
        if 4 ≤ linkOcc l then u
        else netCount (setLink (setEp u ep (epSetOut e n rest)) n (ep.val / 2) 4
          { l with crossing := l.crossing ++ [({ f with age := 0 }, 0)] }) (netIx n) 0
      else if (smGet none e.present (netIx n)).isSome then u
      else setEp u ep { epSetOut e n rest with present := smSet none e.present (netIx n) (some { f with age := 0 }) } := by
  unfold opFlitInjection
  dsimp only
  rw [← injecting, hf]

theorem flitInjection_presents (s : State) (n : Net) (ep : Fin 2048) (f : Flit) (rest : List Flit) (hb : bridged ep = false)
    (hf : epOut (getEp s ep) n = f :: rest) (hp : smGet none (getEp s ep).present (netIx n) = none) :
    ∃ t : State, exec (.flitInjection n ep) s = .next t
      ∧ smGet none (getEp t ep).present (netIx n) = some { f with age := 0 } ∧ ∃ l, epOut (getEp t ep) n = rest ++ l := by
  obtain ⟨⟨l, hout⟩, hpres, -⟩ := injecting_sends s ep n
  rw [hf, List.cons_append] at hout
  refine ⟨_, exec_flitInjection n ep s, ?_⟩
  rw [atEndpoint, hb, opFlitInjection_eq s n ep hout]
  simp only [hb, hpres, hp, Bool.false_eq_true, if_false, Option.isSome_none, getEp_setEp_same, smGet_smSet_same, true_and]
  exact ⟨l, by rw [epOut_present, epOut_epSetOut_same]⟩

theorem flitInjection_enters_bridge (s : State) (n : Net) (ep : Fin 2048) (f : Flit) (rest : List Flit) (hb : bridged ep = true)
    (ha : s.asleep = false) (hf : epOut (getEp s ep) n = f :: rest) (hocc : linkOcc (getLink s n (ep.val / 2) 4) < 4) :
    ∃ t : State, exec (.flitInjection n ep) s = .next t
      ∧ (getLink t n (ep.val / 2) 4).crossing = (getLink s n (ep.val / 2) 4).crossing ++ [({ f with age := 0 }, 0)]
      ∧ ∃ l, epOut (getEp t ep) n = rest ++ l := by
  obtain ⟨⟨l, hout⟩, -, hlinks⟩ := injecting_sends s ep n
  rw [hf, List.cons_append] at hout
  have hlink : getLink (injecting n ep s) n (ep.val / 2) 4 = getLink s n (ep.val / 2) 4 := by rw [getLink, getLink, hlinks]
  refine ⟨_, exec_flitInjection n ep s, ?_⟩
  rw [atEndpoint, if_pos hb, engine, if_neg (by simp [ha]), opFlitInjection_eq s n ep hout]
  simp [hb, hlink, Nat.not_le.mpr hocc]

/-! ### STARVATION and THROTTLE_END -/

theorem throttle_key_ne (n : Net) {f g : Nat} (h : g ≠ f) : 64 * netIx n + g ≠ 64 * netIx n + f := by omega

theorem starvation_throttles (s : State) (n : Net) (ep : Fin 2048)
    (h : epOut (getEp s ep) n ≠ [] ∨ (smGet none (getEp s ep).present (netIx n)).isSome = true) :
    ∃ t : State, exec (.starvation n ep) s = .next t
      ∧ (∀ r : Fin 1024, r.val / 16 = epField ep → r.val ≠ ep.val / 2 → throttled t n r = true)
      ∧ (∀ r : Fin 1024, (r.val / 16 ≠ epField ep ∨ r.val = ep.val / 2) → throttled t n r = throttled s n r) := by
  refine ⟨opStarvation n ep s, rfl, ?_⟩
  have hop : (opStarvation n ep s).throttle = smSet [] s.throttle (64 * netIx n + epField ep)
      (smGet [] s.throttle (64 * netIx n + epField ep) ++ [ep.val / 2]) := by
    have hc : ((smGet none (getEp s ep).present (netIx n)).isSome || decide (epOut (getEp s ep) n ≠ [])) = true := by
      rcases h with h | h <;> simp [h]
    simp only [opStarvation, hc, if_true, netCount_throttle]
  simp only [throttled, hop]
  refine ⟨fun r hfield hne => ?_, fun r hr => ?_⟩
  · rw [hfield, smGet_smSet_same]
    simp [hne.symm]
  · by_cases hfield : r.val / 16 = epField ep
    · have hrr : r.val = ep.val / 2 := hr.resolve_left (by simp [hfield])
      rw [hfield, smGet_smSet_same]
      simp [hrr]
    · rw [smGet_smSet_ne _ _ _ _ _ _ (throttle_key_ne n hfield)]

theorem throttleEnd_ends (s : State) (n : Net) (f : Fin 64) :
    ∃ t : State, exec (.throttleEnd n f) s = .next t
      ∧ (∀ r : Fin 1024, r.val / 16 = f.val →
          throttled t n r = ((smGet [] s.throttle (64 * netIx n + f.val)).drop 1).any (· != r.val))
      ∧ (∀ r : Fin 1024, r.val / 16 ≠ f.val → throttled t n r = throttled s n r) := by
  refine ⟨opThrottleEnd n f s, rfl, fun r hr => ?_, fun r hr => ?_⟩
  · simp [throttled, opThrottleEnd, hr]
  · simp only [throttled, opThrottleEnd]
    rw [smGet_smSet_ne _ _ _ _ _ _ (throttle_key_ne n hr)]

/-! ### BRIDGE_CROSSING -/

theorem exec_bridgeCrossing (n : Net) (r : Fin 1024) (sd : Fin 6) (s : State) :
    exec (.bridgeCrossing n r sd) s = .next (opBridgeCrossing n r sd s) := rfl

/-- A flit does not grow younger. -/
theorem age_le_older (f : Flit) (n : Nat) : f.age.toNat ≤ (older f n).1.age.toNat := by
  have hlt := f.age.isLt
  simp only [older, BitVec.toNat_ofNat]
  omega

theorem bridgeCrossing_to_router (s : State) (n : Net) (r : Fin 1024) (sd : Fin 6) (f : Flit) (k : Nat) (rest : List (Flit × Nat))
    (hsd : sd.val < 5) (hb : linkBridge r sd = true) (htr : transitRuns s (r.val / 16) = true)
    (hc : (getLink s n r sd).crossing = (f, k) :: rest) :
    ∃ (t : State) (a : BitVec 8), exec (.bridgeCrossing n r sd) s = .next t ∧ f.age.toNat ≤ a.toNat
      ∧ getLink t n r sd = { crossing := rest, ready := (getLink s n r sd).ready ++ [{ f with age := a }] } := by
  have h5 : sd ≠ 5 := fun h => by simp [h] at hsd
  refine ⟨_, _, exec_bridgeCrossing n r sd s, age_le_older f ((if sd = 4 then 0 else if linkQuarter r sd then 4 else 2) - k), ?_⟩
  simp only [opBridgeCrossing, hb, htr, h5, hc, if_false, Bool.not_true, Bool.or_self, Bool.false_eq_true]
  rw [getLink_setLink_same]
  rfl

theorem bridgeCrossing_to_engine (s : State) (n : Net) (r : Fin 1024) (f : Flit) (k : Nat) (rest : List (Flit × Nat))
    (ha : s.asleep = false) (hc : (getLink s n r 5).crossing = (f, k) :: rest) :
    ∃ t : State, exec (.bridgeCrossing n r 5) s = .next t ∧ (getLink t n r 5).crossing = rest
      ∧ epIn (getEp t f.dst.toNat) f.net = epIn (getEp s f.dst.toNat) f.net ++ [f] := by
  have hb : linkBridge r 5 = true := by simp [linkBridge]
  refine ⟨_, exec_bridgeCrossing n r 5 s, ?_⟩
  simp [opBridgeCrossing, hb, ha, hc]

/-- Settles O35: each command by the one link, queue or list of signals that it moves a flit or a signal in. -/
theorem networkMoves : Obligations.NetworkMoves := by
  unfold Obligations.NetworkMoves
  exact ⟨flitInjection_presents, flitInjection_enters_bridge, starvation_throttles, throttleEnd_ends,
    bridgeCrossing_to_router, bridgeCrossing_to_engine⟩

end Sys2Proof.Proofs
end

section
/-! PROOFS. ROUTER_CYCLE (spec 07 R256 to R260): it loses and makes no flit, and the first flit in rank order that may eject does. The
flits of the networks are counted place by place: on each link, and at each endpoint on each network. -/

namespace Sys2Proof.Proofs

open Machine Laws Claims

/-! ### The torus of routers -/

theorem tileAt_eq_bits (x y : Nat) : tileAt x y
    = Nat.bit (x.testBit 0) (Nat.bit (y.testBit 0) (Nat.bit (x.testBit 1) (Nat.bit (y.testBit 1) (Nat.bit (x.testBit 2)
      (Nat.bit (y.testBit 2) (Nat.bit (x.testBit 3) (Nat.bit (y.testBit 3) (Nat.bit (x.testBit 4) (Nat.bit (y.testBit 4)
      (Nat.bit (x.testBit 5) (Nat.bit (y.testBit 5) (Nat.bit (x.testBit 6) (Nat.bit (y.testBit 6) 0))))))))))))) := by
  have hr : List.range 7 = [0, 1, 2, 3, 4, 5, 6] := rfl
  simp only [tileAt, hr, List.foldl_cons, List.foldl_nil, b2n_bit, Nat.bit_val]
  omega

theorem testBit_tileAt_even (x y m : Nat) : (tileAt x y).testBit (2 * m) = (decide (m < 7) && x.testBit m) := by
  rw [tileAt_eq_bits]
  rcases m with _ | _ | _ | _ | _ | _ | _ | m <;> simp [Nat.mul_add, Nat.testBit_bit_succ]

theorem testBit_tileAt_odd (x y m : Nat) : (tileAt x y).testBit (2 * m + 1) = (decide (m < 7) && y.testBit m) := by
  rw [tileAt_eq_bits]
  rcases m with _ | _ | _ | _ | _ | _ | _ | m <;> simp [Nat.mul_add, Nat.testBit_bit_succ]

/-- A number below `2 ^ k` has no bit at or above `k`. -/
theorem testBit_of_lt {v k m : Nat} (hv : v < 2 ^ k) (hm : k ≤ m) : v.testBit m = false :=
  Nat.testBit_lt_two_pow (hv.trans_le (Nat.pow_le_pow_right (by decide) hm))

/-- The coordinates of the tile at a place are those of the place. -/
theorem tileX_tileAt {x : Nat} (hx : x < 2 ^ 7) (y : Nat) : tileX (tileAt x y) = x := by
  refine Nat.eq_of_testBit_eq fun m => ?_
  rw [testBit_tileX, testBit_tileAt_even]
  by_cases hm : m < 7
  · simp [hm]
  · rw [testBit_of_lt hx (by omega), Bool.and_false, Bool.and_false]

theorem tileY_tileAt (x : Nat) {y : Nat} (hy : y < 2 ^ 7) : tileY (tileAt x y) = y := by
  refine Nat.eq_of_testBit_eq fun m => ?_
  rw [testBit_tileY, testBit_tileAt_odd]
  by_cases hm : m < 7
  · simp [hm]
  · rw [testBit_of_lt hy (by omega), Bool.and_false, Bool.and_false]

/-- Coordinates below 32 name the routers, of which there are 1,024. -/
theorem tileAt_lt {x y : Nat} (hx : x < 2 ^ 5) (hy : y < 2 ^ 5) : tileAt x y < 2 ^ 10 := by
  refine Nat.lt_pow_two_of_testBit _ fun i hi => ?_
  rcases Nat.mod_two_eq_zero_or_one i with he | ho
  · rw [show i = 2 * (i / 2) by omega, testBit_tileAt_even, testBit_of_lt hx (by omega), Bool.and_false]
  · rw [show i = 2 * (i / 2) + 1 by omega, testBit_tileAt_odd, testBit_of_lt hy (by omega), Bool.and_false]

theorem tileX_lt {r : Nat} (hr : r < 2 ^ 10) : tileX r < 2 ^ 5 :=
  Nat.lt_pow_two_of_testBit _ fun i hi => by rw [testBit_tileX, testBit_of_lt hr (by omega), Bool.and_false]

theorem tileY_lt {r : Nat} (hr : r < 2 ^ 10) : tileY r < 2 ^ 5 :=
  Nat.lt_pow_two_of_testBit _ fun i hi => by rw [testBit_tileY, testBit_of_lt hr (by omega), Bool.and_false]

/-- The router next to one is another one. -/
theorem routerNext_spec {r : Nat} (hr : r < 1024) (sd : Nat) : routerNext r sd < 1024 ∧ routerNext r sd ≠ r := by
  have hx := tileX_lt hr
  have hy := tileY_lt hr
  have hnext : ∀ {x y : Nat}, x < 32 → y < 32 → x ≠ tileX r ∨ y ≠ tileY r → routerAt x y < 1024 ∧ routerAt x y ≠ r := by
    refine fun hx hy hne => ⟨tileAt_lt hx hy, fun h => ?_⟩
    rw [routerAt] at h
    rcases hne with hne | hne
    · exact hne (by rw [← h, tileX_tileAt (by omega)])
    · exact hne (by rw [← h, tileY_tileAt _ (by omega)])
  unfold routerNext
  dsimp only
  split_ifs <;> exact hnext (by omega) (by omega) (by omega)

/-! ### Bags of flits, place by place -/

/-- Ages apart, the flits of a list as a bag. -/
def bagOf (l : List Flit) : Multiset Flit := l.map ageless

@[simp] theorem bagOf_nil : bagOf [] = 0 := rfl

@[simp] theorem bagOf_append (l m : List Flit) : bagOf (l ++ m) = bagOf l + bagOf m := by simp [bagOf]

@[simp] theorem bagOf_cons (f : Flit) (l : List Flit) : bagOf (f :: l) = {ageless f} + bagOf l := by simp [bagOf]

theorem bagOf_flatMap {ι : Type} (l : List ι) (g : ι → List Flit) : bagOf (l.flatMap g) = (l.map fun x => bagOf (g x)).sum := by
  induction l with
  | nil => rfl
  | cons x xs ih => simp [ih]

/-- Of a sum over places, a change at one place changes the whole by as much. -/
theorem sum_map_change {ι M : Type} [DecidableEq ι] [AddCancelCommMonoid M] {l : List ι} (hl : l.Nodup) {k : ι} (hk : k ∈ l)
    {F G : ι → M} (h : ∀ j ∈ l, j ≠ k → G j = F j) {x y : M} (hxy : G k + x = F k + y) :
    (l.map G).sum + x = (l.map F).sum + y := by
  have hp := List.perm_cons_erase hk
  have hrest : (l.erase k).map G = (l.erase k).map F :=
    List.map_congr_left fun j hj => h j (List.mem_of_mem_erase hj) fun e => hl.not_mem_erase (e ▸ hj)
  rw [(hp.map G).sum_eq, (hp.map F).sum_eq, List.map_cons, List.map_cons, List.sum_cons, List.sum_cons, hrest, add_right_comm, hxy,
    add_right_comm]

/-- The networks. -/
def allNets : List Net := [.req, .rsp, .snp, .dat]

theorem mem_allNets (n : Net) : n ∈ allNets := by cases n <;> decide

/-- The flits of a link, and those that an endpoint has presented to its router or taken in, on a network. -/
def linkBag (x : Link) : Multiset Flit := bagOf (x.crossing.map Prod.fst ++ x.ready)
def epBag (e : Endpoint) (n : Net) : Multiset Flit := bagOf ((smGet none e.present (netIx n)).toList ++ epIn e n)

/-- The flits of a network on its links and at its endpoints; those of all networks. -/
def linkSum (s : State) (n : Net) : Multiset Flit :=
  ((List.range 1024).map fun r => ((List.range 6).map fun sd => linkBag (getLink s n r sd)).sum).sum
def epSum (s : State) (n : Net) : Multiset Flit := ((List.range 2048).map fun ep => epBag (getEp s ep) n).sum
def netBag (s : State) : Multiset Flit := (allNets.map fun n => linkSum s n + epSum s n).sum

theorem netBag_eq (s : State) : ((netFlits s).map ageless : Multiset Flit) = netBag s := by
  show bagOf (netFlits s) = netBag s
  simp only [netFlits, bagOf_flatMap, bagOf_append]
  simp only [netBag, linkSum, epSum, linkBag, epBag, allNets, bagOf_append]

theorem netBag_congr {s t : State} (hl : t.links = s.links) (he : t.eps = s.eps) : netBag t = netBag s := by
  simp only [netBag, linkSum, epSum, getLink, getEp, hl, he]

theorem linkKey_inj {n m : Net} {r r' sd sd' : Nat} (hr : r < 1024) (hr' : r' < 1024) (hsd : sd < 8) (hsd' : sd' < 8)
    (h : linkKey n r sd = linkKey m r' sd') : n = m ∧ r = r' ∧ sd = sd' := by
  have hn := netIx_lt n
  have hm := netIx_lt m
  unfold linkKey at h
  exact ⟨netIx_inj (by omega), by omega, by omega⟩

/-- A link written anew changes the bag by as much as its own flits change. -/
theorem netBag_setLink {s : State} {n : Net} {r sd : Nat} (hr : r < 1024) (hsd : sd < 6) {l : Link} {x y : Multiset Flit}
    (hxy : linkBag l + x = linkBag (getLink s n r sd) + y) : netBag (setLink s n r sd l) + x = netBag s + y := by
  have hother : ∀ {m r' sd'}, (m, r', sd') ≠ (n, r, sd) → r' ∈ List.range 1024 → sd' ∈ List.range 6 →
      getLink (setLink s n r sd l) m r' sd' = getLink s m r' sd' := fun {m r' sd'} hne hr' hsd' =>
    getLink_setLink_ne s l fun hk => hne (by
      obtain ⟨rfl, rfl, rfl⟩ := linkKey_inj (List.mem_range.mp hr') hr (by have := List.mem_range.mp hsd'; omega) (by omega) hk
      rfl)
  have heps : ∀ m, epSum (setLink s n r sd l) m = epSum s m := fun _ => rfl
  have hlinks : linkSum (setLink s n r sd l) n + x = linkSum s n + y := by
    unfold linkSum
    refine sum_map_change List.nodup_range (List.mem_range.mpr hr) (fun r' hr' hne => ?_) ?_
    · exact congrArg List.sum (List.map_congr_left fun sd' hsd' => by rw [hother (by simp [hne]) hr' hsd'])
    · refine sum_map_change List.nodup_range (List.mem_range.mpr hsd) (fun sd' hsd' hne => ?_) ?_
      · rw [hother (by simp [hne]) (List.mem_range.mpr hr) hsd']
      · rw [getLink_setLink_same, hxy]
  refine sum_map_change (by decide) (mem_allNets n) (fun m _ hm => ?_) ?_
  · have hkeep : linkSum (setLink s n r sd l) m = linkSum s m := by
      unfold linkSum
      refine congrArg List.sum (List.map_congr_left fun r' hr' => ?_)
      exact congrArg List.sum (List.map_congr_left fun sd' hsd' => by rw [hother (by simp [hm]) hr' hsd'])
    rw [heps, hkeep]
  · rw [heps, add_right_comm, hlinks, add_right_comm]

/-- An endpoint written anew, with a change on one network, changes the bag by as much as its flits there change. -/
theorem netBag_setEp {s : State} {ep : Nat} (hep : ep < 2048) {e : Endpoint} (n : Net)
    (h : ∀ m, m ≠ n → epBag e m = epBag (getEp s ep) m) {x y : Multiset Flit} (hxy : epBag e n + x = epBag (getEp s ep) n + y) :
    netBag (setEp s ep e) + x = netBag s + y := by
  have hlinks : ∀ m, linkSum (setEp s ep e) m = linkSum s m := fun _ => rfl
  have heps : epSum (setEp s ep e) n + x = epSum s n + y := by
    unfold epSum
    refine sum_map_change List.nodup_range (List.mem_range.mpr hep) (fun ep' _ hne => ?_) ?_
    · rw [getEp_setEp_ne _ _ _ _ hne]
    · rw [getEp_setEp_same, hxy]
  refine sum_map_change (by decide) (mem_allNets n) (fun m _ hm => ?_) ?_
  · have hkeep : epSum (setEp s ep e) m = epSum s m := by
      unfold epSum
      refine congrArg List.sum (List.map_congr_left fun ep' _ => ?_)
      by_cases he : ep' = ep
      · rw [he, getEp_setEp_same, h m hm]
      · rw [getEp_setEp_ne _ _ _ _ he]
    rw [hlinks, hkeep]
  · rw [hlinks, add_assoc, heps, ← add_assoc]

@[simp] theorem netBag_netCount (s : State) (k c : Nat) : netBag (netCount s k c) = netBag s :=
  netBag_congr (netCount_links s k c) (netCount_eps s k c)

/-! ### What a router's cycle does to the bag -/

/-- The flit that waits at input `inp` of a router: the oldest that can be taken from a link, or the one presented there. -/
def waiting (s : State) (n : Net) (r inp : Nat) : Option Flit :=
  if inp ≤ 4 then (getLink s n r inp).ready.head?
  else smGet none (getEp s (if inp = 5 then 2 * r else 2 * r + 1)).present (netIx n)

/-- The flit that waits at an input leaves with it. -/
theorem netBag_takeInput {s : State} {n : Net} {r inp : Nat} {f : Flit} (hr : r < 1024) (h : waiting s n r inp = some f) :
    netBag (takeInput s n r inp) + {ageless f} = netBag s := by
  rw [← add_zero (netBag s)]
  unfold waiting at h
  unfold takeInput
  split at h
  · rename_i hinp
    obtain ⟨rest, hready⟩ := List.head?_eq_some_iff.mp h
    rw [if_pos hinp]
    refine netBag_setLink hr (by omega) ?_
    simp [linkBag, hready, add_comm]
  · rename_i hinp
    rw [if_neg hinp]
    dsimp only
    rw [netBag_netCount]
    refine netBag_setEp (by split <;> omega) n (fun m hm => ?_) ?_
    · simp [epBag, smGet_smSet_ne _ _ _ _ _ _ (netIx_inj.ne hm)]
    · rw [epBag, epBag, h]
      simp [add_comm]

/-- An ejected flit comes to its endpoint, or into the bridge that leads there. -/
theorem netBag_ejectFlit (s : State) (n : Net) {r : Nat} (hr : r < 1024) (f : Flit) :
    netBag (ejectFlit s n r f) = netBag s + {ageless f} := by
  rw [← add_zero (netBag (ejectFlit _ _ _ _))]
  unfold ejectFlit
  split
  · refine netBag_setLink hr (by decide) ?_
    simp [linkBag, add_comm]
  · refine netBag_setEp (by have := f.dst.isLt; omega) f.net (fun m hm => ?_) ?_
    · simp [epBag, epIn_epSetIn_ne _ _ hm]
    · simp [epBag, add_assoc]

@[simp] theorem dst_older (f : Flit) (n : Nat) : (older f n).1.dst = f.dst := rfl

@[simp] theorem net_older (f : Flit) (n : Nat) : (older f n).1.net = f.net := rfl

theorem ageless_older (f : Flit) (n : Nat) : ageless (older f n).1 = ageless f := rfl

/-- A flit put where it was placed, its counters apart: ejected, or behind those on the link to the next router. -/
def place (n : Net) (r : Nat) (s : State) (f : Flit) : Placing → State
  | .eject => ejectFlit s n r f
  | .send sd _ _ =>
    let l := getLink s n (routerNext r sd) (oppSide sd)
    setLink s n (routerNext r sd) (oppSide sd)
      (if linkBridge r sd then { l with crossing := l.crossing ++ [(f, 0)] } else { l with ready := l.ready ++ [f] })

@[simp] theorem countIf_links (p : Prop) [Decidable p] (s : State) (k c : Nat) : (if p then netCount s k c else s).links = s.links := by
  split <;> simp

@[simp] theorem countIf_eps (p : Prop) [Decidable p] (s : State) (k c : Nat) : (if p then netCount s k c else s).eps = s.eps := by
  split <;> simp

@[simp] theorem setLink_links (s : State) (n : Net) (r sd : Nat) (l : Link) :
    (setLink s n r sd l).links = smSet {} s.links (linkKey n r sd) l := rfl

@[simp] theorem setLink_eps (s : State) (n : Net) (r sd : Nat) (l : Link) : (setLink s n r sd l).eps = s.eps := rfl

/-- Where a flit is put depends on the links and the endpoints alone. -/
theorem place_congr {s t : State} (hl : t.links = s.links) (he : t.eps = s.eps) (n : Net) (r : Nat) (f : Flit) (p : Placing) :
    (place n r t f p).links = (place n r s f p).links ∧ (place n r t f p).eps = (place n r s f p).eps := by
  cases p with
  | eject => simp only [place, ejectFlit]; split <;> simp [getLink, pushIn, setEp, getEp, hl, he]
  | send sd d e => simp [place, getLink, hl, he]

/-- A placed flit leaves its input one router older and is put where it goes; else only counters change. -/
theorem putFlit_places (n : Net) (r : Nat) (s : State) (x : InFlit × Placing) :
    (putFlit n r s x).links = (place n r (takeInput s n r x.1.inp) (older x.1.f 1).1 x.2).links
    ∧ (putFlit n r s x).eps = (place n r (takeInput s n r x.1.inp) (older x.1.f 1).1 x.2).eps := by
  obtain ⟨x, p⟩ := x
  unfold putFlit
  dsimp only
  cases p with
  | eject => exact place_congr (countIf_links _ _ _ _) (countIf_eps _ _ _ _) n r (older x.f 1).1 .eject
  | send sd d e => 
    dsimp only
    split <;> simp [place, getLink, *]

theorem netBag_place {s : State} (n : Net) {r : Nat} (hr : r < 1024) (f : Flit) (p : Placing) :
    netBag (place n r s f p) = netBag s + {ageless f} := by
  cases p with
  | eject => exact netBag_ejectFlit s n hr f
  | send sd d e =>
    rw [← add_zero (netBag (place _ _ _ _ _))]
    refine netBag_setLink (routerNext_spec hr sd).1 (by unfold oppSide; omega) ?_
    split <;> simp [linkBag, add_comm]

theorem netBag_putFlit {s : State} {n : Net} {r : Nat} (hr : r < 1024) {x : InFlit × Placing}
    (h : waiting s n r x.1.inp = some x.1.f) : netBag (putFlit n r s x) = netBag s := by
  obtain ⟨hlinks, heps⟩ := putFlit_places n r s x
  have hplace := netBag_place (s := takeInput s n r x.1.inp) n hr (older x.1.f 1).1 x.2
  calc netBag (putFlit n r s x)
      = netBag (place n r (takeInput s n r x.1.inp) (older x.1.f 1).1 x.2) := netBag_congr hlinks heps
    _ = netBag s := by rw [hplace, ageless_older, netBag_takeInput hr h]

/-! ### What waits at the other inputs -/

theorem waiting_congr {s t : State} {n : Net} {r inp : Nat} (hl : inp ≤ 4 → getLink t n r inp = getLink s n r inp)
    (he : ¬ inp ≤ 4 → ∀ ep, ep = (if inp = 5 then 2 * r else 2 * r + 1) →
      smGet none (getEp t ep).present (netIx n) = smGet none (getEp s ep).present (netIx n)) :
    waiting t n r inp = waiting s n r inp := by
  unfold waiting
  split
  · rename_i h; rw [hl h]
  · rename_i h; rw [he h _ rfl]

/-- A flit that is taken from one input leaves what waits at the others. -/
theorem waiting_takeInput (s : State) (n : Net) {r inp inp' : Nat} (hr : r < 1024) (hi : inp ≤ 6) (hi' : inp' ≤ 6) (hne : inp' ≠ inp) :
    waiting (takeInput s n r inp) n r inp' = waiting s n r inp' := by
  unfold takeInput
  split
  · refine waiting_congr (fun h => getLink_setLink_ne _ _ fun hk => hne ?_) fun _ _ _ => rfl
    exact (linkKey_inj hr hr (by omega) (by omega) hk).2.2
  · refine waiting_congr (fun h => by simp) fun h ep he => ?_
    dsimp only
    rw [getEp_netCount, getEp_setEp_ne]
    subst he
    split_ifs <;> omega

/-- A flit that is put where it was placed leaves what waits at the inputs of the router. -/
theorem waiting_place (s : State) (n : Net) {r inp : Nat} (hr : r < 1024) (hi : inp ≤ 6) (f : Flit) (p : Placing) :
    waiting (place n r s f p) n r inp = waiting s n r inp := by
  cases p with
  | eject =>
    simp only [place, ejectFlit]
    split
    · refine waiting_congr (fun h => getLink_setLink_ne _ _ fun hk => ?_) fun _ _ _ => rfl
      have hinp := (linkKey_inj hr hr (by omega) (by omega) hk).2.2
      omega
    · refine waiting_congr (fun h => rfl) fun h ep he => ?_
      by_cases hep : ep = f.dst.toNat
      · rw [hep, getEp_pushIn_same, present_epSetIn]
      · rw [getEp_pushIn_ne _ _ hep]
  | send sd d e =>
    obtain ⟨hlt, hne⟩ := routerNext_spec hr sd
    refine waiting_congr (fun h => getLink_setLink_ne _ _ fun hk => hne ?_) fun _ _ _ => rfl
    exact (linkKey_inj hr hlt (by omega) (by unfold oppSide; omega) hk).2.1.symm

theorem waiting_putFlit (s : State) (n : Net) {r inp : Nat} (hr : r < 1024) {x : InFlit × Placing} (hi : inp ≤ 6) (hx : x.1.inp ≤ 6)
    (hne : inp ≠ x.1.inp) : waiting (putFlit n r s x) n r inp = waiting s n r inp := by
  obtain ⟨hlinks, heps⟩ := putFlit_places n r s x
  calc waiting (putFlit n r s x) n r inp
      = waiting (place n r (takeInput s n r x.1.inp) (older x.1.f 1).1 x.2) n r inp := by simp only [waiting, getLink, getEp, hlinks, heps]
    _ = waiting s n r inp := by rw [waiting_place _ _ hr hi, waiting_takeInput _ _ hr hx hi hne]

/-- Flits that wait at inputs of their own are placed without loss. -/
theorem netBag_putAll {n : Net} {r : Nat} (hr : r < 1024) {ps : List (InFlit × Placing)} {s : State}
    (hnodup : (ps.map fun x => x.1.inp).Nodup) (hwait : ∀ x ∈ ps, x.1.inp ≤ 6 ∧ waiting s n r x.1.inp = some x.1.f) :
    netBag (ps.foldl (putFlit n r) s) = netBag s := by
  induction ps generalizing s with
  | nil => rfl
  | cons x xs ih =>
    obtain ⟨hx, hxs⟩ := List.nodup_cons.mp hnodup
    obtain ⟨hinp, hf⟩ := hwait x (by simp)
    rw [List.foldl_cons, ih hxs fun y hy => ?_, netBag_putFlit hr hf]
    obtain ⟨hyinp, hyf⟩ := hwait y (by simp [hy])
    have hne : y.1.inp ≠ x.1.inp := fun e => hx (List.mem_map.mpr ⟨y, hy, e⟩)
    exact ⟨hyinp, by rw [waiting_putFlit _ _ hr hyinp hinp hne, hyf]⟩

/-! ### Bridges as their flits grow older -/

/-- The link of a bridge in which a cycle of the receiving clock has passed. -/
def agedLink (l : Link) : Link :=
  { ready := l.ready.map (fun f => (older f 1).1), crossing := l.crossing.map (fun x => ((older x.1 1).1, x.2 + 1)) }

theorem linkBag_agedLink (l : Link) : linkBag (agedLink l) = linkBag l := by
  simp only [linkBag, agedLink, bagOf, List.map_append, List.map_map, Function.comp_def, ageless_older]

/-- The flits of a bridge grow older in their places; else only counters change. -/
theorem ageBridge_ages (n : Net) (r : Nat) (s : State) (sd : Nat) :
    (ageBridge n r s sd).eps = s.eps
    ∧ ((ageBridge n r s sd).links = s.links
      ∨ (ageBridge n r s sd).links = smSet {} s.links (linkKey n r sd) (agedLink (getLink s n r sd))) := by
  unfold ageBridge
  dsimp only
  split
  · exact ⟨rfl, .inl rfl⟩
  · have hl := foldl_keeps State.links (f := fun (s : State) (_ : Flit) => netCount s (netIx n) 2) (fun s _ => netCount_links s _ _)
    have he := foldl_keeps State.eps (f := fun (s : State) (_ : Flit) => netCount s (netIx n) 2) (fun s _ => netCount_eps s _ _)
    split
    · exact ⟨he _ s, .inl (hl _ s)⟩
    · exact ⟨he _ s, .inr (by rw [setLink_links, hl]; rfl)⟩

theorem netBag_ageBridge {s : State} {n : Net} {r sd : Nat} (hr : r < 1024) (hsd : sd < 6) : netBag (ageBridge n r s sd) = netBag s := by
  obtain ⟨heps, hlinks | hlinks⟩ := ageBridge_ages n r s sd
  · exact netBag_congr hlinks heps
  · have hset : netBag (setLink s n r sd (agedLink (getLink s n r sd))) + 0 = netBag s + 0 :=
      netBag_setLink hr hsd (by rw [linkBag_agedLink])
    exact (netBag_congr (s := setLink s n r sd _) hlinks heps).trans (add_right_cancel hset)

/-! ### The flits that a cycle places -/

/-- Where the flits of a cycle go. -/
def placings (s : State) (n : Net) (r : Fin 1024) : List (InFlit × Placing) :=
  let a := placeFirst s r (placedFlits s n r) false (availLinks s n r)
  a.1 ++ placeRest s r a.2.1 a.2.2

theorem opRouterCycle_eq {s : State} {n : Net} {r : Fin 1024} (h : transitRuns s (r.val / 16) = true) :
    opRouterCycle n r s = [0, 1, 2, 3, 4].foldl (ageBridge n r) ((placings s n r).foldl (putFlit n r) s) := by
  rw [opRouterCycle, if_neg (by simp [h])]
  rfl

theorem rankInsert_perm (s : State) (x : InFlit) (l : List InFlit) : (rankInsert s x l).Perm (x :: l) := by
  induction l with
  | nil => exact .refl _
  | cons y ys ih =>
    rw [rankInsert]
    split
    · exact .refl _
    · exact (ih.cons y).trans (.swap x y ys)

theorem rankSort_perm (s : State) (l : List InFlit) : (rankSort s l).Perm l := by
  induction l with
  | nil => exact .refl _
  | cons x xs ih => exact (rankInsert_perm s x _).trans (ih.cons x)

/-- Admission adds flits in order and drops none. -/
theorem admitAll_sublist (s : State) (r links : Nat) (S fs : List InFlit) : (admitAll s r links S fs).Sublist (S ++ fs) := by
  induction fs generalizing S with
  | nil => simp [admitAll]
  | cons f fs ih =>
    rw [admitAll]
    split_ifs
    all_goals refine (ih _).trans ?_
    all_goals simp

/-- The first pass places or marks each flit, once. -/
theorem placeFirst_perm (s : State) (r : Nat) (xs : List InFlit) (b : Bool) (L : List Nat) :
    ((placeFirst s r xs b L).1.map Prod.fst ++ (placeFirst s r xs b L).2.1).Perm xs := by
  induction xs generalizing b L with
  | nil => exact .refl _
  | cons x xs ih =>
    rw [placeFirst]
    split
    · exact (ih _ _).cons x
    · split
      · exact (ih _ _).cons x
      · exact List.perm_middle.trans ((ih _ _).cons x)

/-- The second pass places marked flits in order, as far as links are left. -/
theorem placeRest_prefix (s : State) (r : Nat) (xs : List InFlit) (L : List Nat) :
    ((placeRest s r xs L).map Prod.fst).Sublist xs := by
  induction xs generalizing L with
  | nil => simp [placeRest]
  | cons x xs ih =>
    cases L with
    | nil => simp [placeRest]
    | cons sd L => simpa [placeRest] using ih L

theorem placings_subperm (s : State) (n : Net) (r : Fin 1024) : ((placings s n r).map Prod.fst).Subperm (placedFlits s n r) := by
  rw [placings, List.map_append]
  exact ((placeRest_prefix s r _ _).append_left _).subperm.trans (placeFirst_perm s r _ _ _).subperm

/-! ### Where the placed flits come from -/

/-- The heads of the links whose side satisfies `p`. -/
def arrivals (s : State) (n : Net) (r : Nat) (p : Nat → Bool) : List InFlit :=
  [0, 1, 2, 3].filterMap fun sd => match (getLink s n r sd).ready with
    | f :: _ => if p sd then some ⟨f, sd⟩ else none
    | [] => none

theorem mustPlace_eq (s : State) (n : Net) (r : Nat) :
    mustPlace s n r = arrivals s n r fun sd => !linkBridge r sd || decide (linkOcc (outLink s n r sd) ≤ 3) := rfl

theorem mayPlace_eq (s : State) (n : Net) (r : Nat) :
    mayPlace s n r = rankSort s (arrivals s n r fun sd => linkBridge r sd && decide (3 < linkOcc (outLink s n r sd))) := rfl

theorem arrivals_inputs (s : State) (n : Net) (r : Nat) (p : Nat → Bool) :
    ((arrivals s n r p).map InFlit.inp).Sublist [0, 1, 2, 3] ∧ ∀ x ∈ arrivals s n r p, p x.inp = true ∧ waiting s n r x.inp = some x.f := by
  unfold arrivals
  generalize hl : [0, 1, 2, 3] = l
  have hsmall : ∀ sd ∈ l, sd ≤ 4 := by subst hl; decide
  clear hl
  induction l with
  | nil => simp
  | cons sd l ih =>
    obtain ⟨hsub, hwait⟩ := ih fun sd h => hsmall sd (by simp [h])
    rw [List.filterMap_cons]
    split
    · exact ⟨hsub.cons _, hwait⟩
    · rename_i x hx
      split at hx
      · rename_i f fs hready
        split at hx
        · rename_i hp
          obtain rfl := Option.some.inj hx
          refine ⟨hsub.cons_cons sd, fun y hy => ?_⟩
          rcases List.mem_cons.mp hy with rfl | hy
          · exact ⟨hp, by simp [waiting, hsmall, hready]⟩
          · exact hwait y hy
        · exact absurd hx (by simp)
      · exact absurd hx (by simp)

/-- The flit of an input, if one waits there. -/
def fromInput (s : State) (n : Net) (r inp : Nat) : List InFlit := (waiting s n r inp).toList.map fun f => ⟨f, inp⟩

theorem fromInput_inputs (s : State) (n : Net) (r inp : Nat) :
    ((fromInput s n r inp).map InFlit.inp).Sublist [inp] ∧ ∀ x ∈ fromInput s n r inp, waiting s n r x.inp = some x.f := by
  unfold fromInput
  cases h : waiting s n r inp with
  | none => simp
  | some f => simp [h]

theorem wantIn_eq (s : State) (n : Net) (r : Nat) :
    wantIn s n r = (if throttled s n r then [] else fromInput s n r 4 ++ fromInput s n r 5)
      ++ (if engineKind (2 * r + 1) = 5 then fromInput s n r 6 else []) := by
  have h4 : (match (getLink s n r 4).ready with | f :: _ => [⟨f, 4⟩] | [] => []) = fromInput s n r 4 := by
    unfold fromInput waiting; cases (getLink s n r 4).ready <;> rfl
  have hep : ∀ ep inp, waiting s n r inp = smGet none (getEp s ep).present (netIx n) →
      (match smGet none (getEp s ep).present (netIx n) with | some f => [⟨f, inp⟩] | none => []) = fromInput s n r inp := by
    intro ep inp h
    rw [fromInput, h]
    cases smGet none (getEp s ep).present (netIx n) <;> rfl
  rw [← h4, ← hep (2 * r) 5 rfl, ← hep (2 * r + 1) 6 rfl]
  rfl

theorem wantIn_inputs (s : State) (n : Net) (r : Nat) :
    ((wantIn s n r).map InFlit.inp).Sublist [4, 5, 6] ∧ ∀ x ∈ wantIn s n r, waiting s n r x.inp = some x.f := by
  have hif : ∀ (p : Prop) [Decidable p] {l : List InFlit} {inps : List Nat},
      (l.map InFlit.inp).Sublist inps ∧ (∀ x ∈ l, waiting s n r x.inp = some x.f) →
      ((if p then l else []).map InFlit.inp).Sublist inps ∧ ∀ x ∈ (if p then l else []), waiting s n r x.inp = some x.f := by
    intro p _ l inps h
    split
    · exact h
    · simp
  have happend : ∀ {l m : List InFlit} {is js : List Nat},
      (l.map InFlit.inp).Sublist is ∧ (∀ x ∈ l, waiting s n r x.inp = some x.f) →
      (m.map InFlit.inp).Sublist js ∧ (∀ x ∈ m, waiting s n r x.inp = some x.f) →
      ((l ++ m).map InFlit.inp).Sublist (is ++ js) ∧ ∀ x ∈ l ++ m, waiting s n r x.inp = some x.f := by
    intro l m is js h k
    rw [List.map_append]
    exact ⟨h.1.append k.1, fun x hx => (List.mem_append.mp hx).elim (h.2 x) (k.2 x)⟩
  rw [wantIn_eq, ← ite_not]
  exact happend (is := [4, 5]) (hif _ (happend (fromInput_inputs s n r 4) (fromInput_inputs s n r 5))) (hif _ (fromInput_inputs s n r 6))

/-- The flits that a cycle may place wait each at an input of its own. -/
theorem candidates_inputs (s : State) (n : Net) (r : Nat) :
    ((mustPlace s n r ++ (mayPlace s n r ++ wantIn s n r)).map InFlit.inp).Nodup
    ∧ ∀ x ∈ mustPlace s n r ++ (mayPlace s n r ++ wantIn s n r), x.inp ≤ 6 ∧ waiting s n r x.inp = some x.f := by
  obtain ⟨hmust, hmustW⟩ := arrivals_inputs s n r fun sd => !linkBridge r sd || decide (linkOcc (outLink s n r sd) ≤ 3)
  obtain ⟨hmay, hmayW⟩ := arrivals_inputs s n r fun sd => linkBridge r sd && decide (3 < linkOcc (outLink s n r sd))
  obtain ⟨hwant, hwantW⟩ := wantIn_inputs s n r
  rw [← mustPlace_eq] at hmust hmustW
  have hperm := rankSort_perm s (arrivals s n r fun sd => linkBridge r sd && decide (3 < linkOcc (outLink s n r sd)))
  rw [← mayPlace_eq] at hperm
  have hmustI : ∀ x ∈ mustPlace s n r, x.inp ≤ 3 := fun x hx => by
    have := hmust.subset (List.mem_map_of_mem hx); simp at this; omega
  have hmayI : ∀ x ∈ mayPlace s n r, x.inp ≤ 3 := fun x hx => by
    have := hmay.subset (List.mem_map_of_mem (hperm.subset hx)); simp at this; omega
  have hwantI : ∀ x ∈ wantIn s n r, 4 ≤ x.inp ∧ x.inp ≤ 6 := fun x hx => by
    have := hwant.subset (List.mem_map_of_mem hx); simp at this; omega
  have hmayNodup : ((mayPlace s n r).map InFlit.inp).Nodup := (hperm.map _).nodup_iff.mpr (hmay.nodup (by decide))
  refine ⟨?_, fun x hx => ?_⟩
  · simp only [List.map_append]
    refine (hmust.nodup (by decide)).append (hmayNodup.append (hwant.nodup (by decide)) fun i hi hi' => ?_) fun i hi hi' => ?_
    · obtain ⟨x, hx, rfl⟩ := List.mem_map.mp hi
      obtain ⟨y, hy, he⟩ := List.mem_map.mp hi'
      have := hmayI x hx
      have := hwantI y hy
      omega
    · obtain ⟨x, hx, rfl⟩ := List.mem_map.mp hi
      have hx3 := hmustI x hx
      rcases List.mem_append.mp hi' with hi' | hi'
      · obtain ⟨y, hy, he⟩ := List.mem_map.mp hi'
        have hroom := (hmustW x hx).1
        have hfull := (hmayW y (hperm.subset hy)).1
        simp [he] at hroom hfull
        rcases hroom with hroom | hroom
        · simp [hroom] at hfull
        · omega
      · obtain ⟨y, hy, he⟩ := List.mem_map.mp hi'
        have := hwantI y hy
        omega
  · simp only [List.mem_append] at hx
    rcases hx with hx | hx | hx
    · exact ⟨by have := hmustI x hx; omega, (hmustW x hx).2⟩
    · exact ⟨by have := hmayI x hx; omega, (hmayW x (hperm.subset hx)).2⟩
    · exact ⟨(hwantI x hx).2, hwantW x hx⟩

/-- So do the flits that it does place. -/
theorem placings_inputs (s : State) (n : Net) (r : Fin 1024) :
    ((placings s n r).map fun x => x.1.inp).Nodup ∧ ∀ x ∈ placings s n r, x.1.inp ≤ 6 ∧ waiting s n r x.1.inp = some x.1.f := by
  obtain ⟨hnodup, hwait⟩ := candidates_inputs s n r
  have hsub : ((placings s n r).map Prod.fst).Subperm (mustPlace s n r ++ (mayPlace s n r ++ wantIn s n r)) :=
    (placings_subperm s n r).trans ((rankSort_perm s _).subperm.trans (admitAll_sublist s r _ _ _).subperm)
  refine ⟨?_, fun x hx => hwait x.1 (hsub.subset (List.mem_map_of_mem hx))⟩
  have hmap : (placings s n r).map (fun x => x.1.inp) = ((placings s n r).map Prod.fst).map InFlit.inp := by simp
  rw [hmap]
  obtain ⟨l, hperm, hl⟩ := hsub
  exact (hperm.map _).nodup_iff.mp ((hl.map _).nodup hnodup)

/-! ### ROUTER_CYCLE -/

theorem netBag_opRouterCycle (s : State) (n : Net) (r : Fin 1024) : netBag (opRouterCycle n r s) = netBag s := by
  by_cases h : transitRuns s (r.val / 16) = true
  · obtain ⟨hnodup, hwait⟩ := placings_inputs s n r
    rw [opRouterCycle_eq h]
    simp only [List.foldl_cons, List.foldl_nil]
    rw [netBag_ageBridge r.isLt (by decide), netBag_ageBridge r.isLt (by decide), netBag_ageBridge r.isLt (by decide),
      netBag_ageBridge r.isLt (by decide), netBag_ageBridge r.isLt (by decide), netBag_putAll r.isLt hnodup hwait]
  · rw [opRouterCycle, if_pos (by simp [h])]

/-! ### The flit that ejects -/

/-- `t` has the flits of `s` that have arrived at the endpoints, and those of the engine bridge from router `r`. -/
def KeepsArrived (n : Net) (r : Nat) (s t : State) : Prop :=
  (∀ ep m, epIn (getEp t ep) m = epIn (getEp s ep) m) ∧ getLink t n r 5 = getLink s n r 5

theorem KeepsArrived.trans {n : Net} {r : Nat} {s t u : State} (h : KeepsArrived n r s t) (k : KeepsArrived n r t u) :
    KeepsArrived n r s u := ⟨fun ep m => (k.1 ep m).trans (h.1 ep m), k.2.trans h.2⟩

theorem keepsArrived_of_eq {n : Net} {r : Nat} {s t : State} (hl : t.links = s.links) (he : t.eps = s.eps) : KeepsArrived n r s t :=
  ⟨fun ep m => by rw [getEp, getEp, he], by rw [getLink, getLink, hl]⟩

theorem keepsArrived_takeInput (s : State) (n : Net) {r : Nat} (hr : r < 1024) (inp : Nat) :
    KeepsArrived n r s (takeInput s n r inp) := by
  unfold takeInput
  split
  · refine ⟨fun ep m => rfl, getLink_setLink_ne _ _ fun hk => ?_⟩
    have := (linkKey_inj hr hr (by omega) (by omega) hk).2.2
    omega
  · refine ⟨fun ep m => ?_, by simp⟩
    generalize (if inp = 5 then 2 * r else 2 * r + 1) = ep'
    dsimp only
    rw [getEp_netCount]
    by_cases he : ep = ep'
    · rw [he, getEp_setEp_same, epIn_present]
    · rw [getEp_setEp_ne _ _ _ _ he]

/-- A flit that is placed on a link leaves what has arrived, and the engine bridge of its router. -/
theorem keepsArrived_putFlit {s : State} {n : Net} {r : Nat} (hr : r < 1024) {x : InFlit × Placing} (hx : x.2 ≠ .eject) :
    KeepsArrived n r s (putFlit n r s x) := by
  obtain ⟨hlinks, heps⟩ := putFlit_places n r s x
  refine (keepsArrived_takeInput s n hr x.1.inp).trans (.trans ?_ (keepsArrived_of_eq hlinks heps))
  cases hp : x.2 with
  | eject => exact absurd hp hx
  | send sd d e =>
    obtain ⟨hlt, hne⟩ := routerNext_spec hr sd
    exact ⟨fun ep m => rfl, getLink_setLink_ne _ _ fun hk =>
      hne (linkKey_inj hr hlt (by decide) (by unfold oppSide; omega) hk).2.1.symm⟩

theorem keepsArrived_foldl {β : Type} {n : Net} {r : Nat} {g : State → β → State} {l : List β}
    (h : ∀ s, ∀ x ∈ l, KeepsArrived n r s (g s x)) (s : State) : KeepsArrived n r s (l.foldl g s) := by
  induction l generalizing s with
  | nil => exact ⟨fun _ _ => rfl, rfl⟩
  | cons x xs ih => exact (h s x (by simp)).trans (ih (fun s y hy => h s y (by simp [hy])) _)

theorem keepsArrived_ageBridge (s : State) (n : Net) {r sd : Nat} (hr : r < 1024) (hsd : sd < 5) :
    KeepsArrived n r s (ageBridge n r s sd) := by
  obtain ⟨heps, hlinks | hlinks⟩ := ageBridge_ages n r s sd
  · exact keepsArrived_of_eq hlinks heps
  · refine .trans (t := setLink s n r sd (agedLink (getLink s n r sd))) ⟨fun ep m => rfl, getLink_setLink_ne _ _ fun hk => ?_⟩
      (keepsArrived_of_eq hlinks heps)
    have := (linkKey_inj hr hr (by omega) (by omega) hk).2.2
    omega

/-- After one flit has been ejected no other is in that cycle. -/
theorem placeFirst_sends (s : State) (r : Nat) (xs : List InFlit) (L : List Nat) :
    ∀ y ∈ (placeFirst s r xs true L).1, y.2 ≠ .eject := by
  induction xs generalizing L with
  | nil => simp [placeFirst]
  | cons x xs ih =>
    rw [placeFirst, if_neg (by simp)]
    split
    · intro y hy
      rcases List.mem_cons.mp hy with rfl | hy
      · simp
      · exact ih _ y hy
    · exact ih _

theorem placeRest_sends (s : State) (r : Nat) (xs : List InFlit) (L : List Nat) :
    ∀ y ∈ placeRest s r xs L, y.2 ≠ .eject := by
  induction xs generalizing L with
  | nil => simp [placeRest]
  | cons x xs ih =>
    cases L with
    | nil => simp [placeRest]
    | cons sd L => simpa [placeRest] using ih L

/-- The first flit in rank order, if it may eject, does, and it alone. -/
theorem placings_of_canEject {s : State} {n : Net} {r : Fin 1024} {x : InFlit} {rest : List InFlit}
    (h : placedFlits s n r = x :: rest) (hx : canEject s r x.f = true) :
    ∃ ps, placings s n r = (x, .eject) :: ps ∧ ∀ y ∈ ps, y.2 ≠ .eject := by
  refine ⟨_, by rw [placings, h, placeFirst, if_pos (by simp [hx])]; rfl, fun y hy => ?_⟩
  rcases List.mem_append.mp hy with hy | hy
  · exact placeFirst_sends s r _ _ y hy
  · exact placeRest_sends s r _ _ y hy

theorem routerCycle_ejects (s t : State) (n : Net) (r : Fin 1024) (x : InFlit) (rest : List InFlit)
    (htr : transitRuns s (r.val / 16) = true) (h : placedFlits s n r = x :: rest) (hx : canEject s r x.f = true)
    (ht : exec (.routerCycle n r) s = .next t) :
    (bridged x.f.dst.toNat = false → epIn (getEp t x.f.dst.toNat) x.f.net
      = epIn (getEp s x.f.dst.toNat) x.f.net ++ [{ x.f with age := BitVec.ofNat 8 (min 255 (x.f.age.toNat + 1)) }])
    ∧ (bridged x.f.dst.toNat = true → (getLink t n r 5).crossing
      = (getLink s n r 5).crossing ++ [({ x.f with age := BitVec.ofNat 8 (min 255 (x.f.age.toNat + 1)) }, 0)]) := by
  obtain ⟨ps, hps, hsends⟩ := placings_of_canEject h hx
  obtain rfl : opRouterCycle n r s = t := Host.Outcome.next.inj ht
  obtain ⟨hlinks, heps⟩ := putFlit_places n r s (x, .eject)
  have htaken := keepsArrived_takeInput s n r.isLt x.inp
  have hlater : KeepsArrived n r (place n r (takeInput s n r x.inp) (older x.f 1).1 .eject) (opRouterCycle n r s) := by
    rw [opRouterCycle_eq htr, hps, List.foldl_cons (l := ps)]
    refine (keepsArrived_of_eq hlinks heps).trans ((keepsArrived_foldl (fun s y hy => ?_) _).trans (keepsArrived_foldl (fun s sd hsd => ?_) _))
    · exact keepsArrived_putFlit r.isLt (hsends y hy)
    · exact keepsArrived_ageBridge s n r.isLt (by simp at hsd; omega)
  refine ⟨fun hb => ?_, fun hb => ?_⟩
  · rw [hlater.1]
    simp only [place, ejectFlit, dst_older, hb, Bool.false_eq_true, if_false, getEp_pushIn_same, net_older, epIn_epSetIn_same, htaken.1]
    rfl
  · rw [hlater.2]
    simp only [place, ejectFlit, dst_older, hb, if_true, getLink_setLink_same, htaken.2]
    rfl

@[simp] theorem countIf_tiles (p : Prop) [Decidable p] (s : State) (k c : Nat) :
    (if p then netCount s k c else s).tiles = s.tiles := by
  split <;> simp

theorem putFlit_tiles (n : Net) (r : Nat) (s : State) (x : InFlit × Placing) : (putFlit n r s x).tiles = s.tiles := by
  have htake : (takeInput s n r x.1.inp).tiles = s.tiles := by
    unfold takeInput
    split
    · rfl
    · exact netCount_tiles _ _ _
  unfold putFlit
  cases x.2 with
  | eject => simp only [ejectFlit]; split <;> simp [pushIn, htake]
  | send sd d e => dsimp only; split <;> simp [htake]

theorem ageBridge_tiles (n : Net) (r : Nat) (s : State) (sd : Nat) : (ageBridge n r s sd).tiles = s.tiles := by
  unfold ageBridge
  dsimp only
  have hcount := foldl_keeps State.tiles (f := fun (s : State) (_ : Flit) => netCount s (netIx n) 2) (fun s _ => netCount_tiles s _ _)
  split
  · rfl
  · split <;> simp [hcount]

theorem opRouterCycle_tiles (n : Net) (r : Fin 1024) (s : State) : (opRouterCycle n r s).tiles = s.tiles := by
  unfold opRouterCycle
  split
  · rfl
  · exact (foldl_keeps State.tiles (ageBridge_tiles n r) _ _).trans (foldl_keeps State.tiles (putFlit_tiles n r) _ _)

/-- Settles O34: a cycle takes each flit that it places from an input of its own and puts it in one place. -/
theorem routerKeepsFlits : Obligations.RouterKeepsFlits := by
  unfold Obligations.RouterKeepsFlits
  refine ⟨fun s n r => ⟨opRouterCycle n r s, rfl, ?_, mem_of_queueMem (queueMem_opRouterCycle n r s), ?_⟩, routerCycle_ejects⟩
  · refine Multiset.coe_eq_coe.mp ?_
    rw [netBag_eq, netBag_eq, netBag_opRouterCycle]
  · exact opRouterCycle_tiles n r s

end Sys2Proof.Proofs
end

section
/-! PROOFS. The words of a refill (spec 07 R276), and O37. -/

namespace Sys2Proof.Proofs

open Machine Laws Claims

/-! ### One word of a refill -/

section
variable {s : State} {i : Nat}

theorem getT_xyWrite (y : Bool) (a : Nat) (w : Word) (j : Nat) : getT (xyWrite s i y a w) j = getT s j :=
  congrArg (fun l => smGet (Tile.factory j) l j) (memWrite_tiles s (xyAddr i y a) (bytesLE 4 w.toNat))

/-- A port cycle leaves the fills of the tile as they are when none of them has waited. -/
theorem fills_portServed {op lo hi : Nat} {l : List Fill} (h : (getT s i).m.fills = l) (hw : ∀ x ∈ l, x.wait = 0) :
    (getT (portServed s i op lo hi) i).m.fills = l := by
  unfold portServed mapPort
  dsimp only
  rw [apply_ite (fun t => (getT t i).m.fills), getT_setT_same]
  have hmap : l.map (fun x => { x with wait := 0 }) = l :=
    (List.map_congr_left fun x hx => show { x with wait := 0 } = id x by rw [← hw x hx]; rfl).trans (List.map_id _)
  split
  · exact h
  · exact (congrArg _ h).trans hmap

theorem getT_ite_xyBad (b : Bool) (m : SMap Bool) : getT (if b then { s with xyBad := m } else s) i = getT s i := by
  cases b <;> rfl

/-- A tile with one fill writes a word of it that is not the last. -/
theorem fills_fillStep {p : FillOwner → Bool} {x : Fill} (h : (getT s i).m.fills = [x]) (hp : p x.owner = true) (hw : x.wait = 0)
    (hm : x.moved < 15) : (getT (fillStep s i p).1 i).m.fills = [{ x with moved := x.moved + 1 }] := by
  obtain ⟨line, data, owner, moved, wait, bad⟩ := x
  obtain rfl : wait = 0 := hw
  have hfind : (getT s i).m.fills.find? (fun x => p x.owner) = some ⟨line, data, owner, moved, 0, bad⟩ := by
    rw [h, List.find?_singleton, if_pos hp]
  have hfills : (getT (portServed s i 1 (xyAddr i true 0) (xyAddr i true 1024)) i).m.fills = [⟨line, data, owner, moved, 0, bad⟩] :=
    fills_portServed h (fun _ hx => List.mem_singleton.1 hx ▸ rfl)
  unfold fillStep
  dsimp only
  rw [hfind]
  dsimp only at hm ⊢
  rw [if_pos hm, getT_setT_same]
  dsimp only
  rw [getT_ite_xyBad, getT_xyWrite, hfills, List.map_singleton, if_pos rfl]

end

theorem setAgent_tiles (s : State) (f : Nat) (a : Agent) : (setAgent s f a).tiles = s.tiles := rfl

theorem refetchFill_tiles (s : State) (f m l : Nat) (w : Refetch) : (refetchFill s f m l w).tiles
    = ((fillTiles s f (ofRefetch f m l)).foldl (fun s i => (fillStep s i (ofRefetch f m l)).1) s).tiles := by
  unfold refetchFill
  dsimp only
  split
  · split
    · exact report_tiles ..
    · rfl
  · rfl

/-- After 16 failures the holders of the line are given free data with inverted parity. -/
theorem opRefetchRetry_givesUp {s : State} {f : Fin 64} {m : Fin 256} {line : Fin 128} {w : Refetch}
    (hwork : smGet none (getAgent s f).work (128 * m.val + line.val) = some w) (hreading : w.reading = false)
    (hfilling : w.filling = false) (hfails : 16 ≤ w.fails) (hon : mirrorOn s m = true) :
    opRefetchRetry f m line s = refetchFill
      (setAgent (fillStale (freeLine s).1 f m line (freeLine s).2 true) f
        { getAgent (fillStale (freeLine s).1 f m line (freeLine s).2 true) f with
          work := smSet none (getAgent (fillStale (freeLine s).1 f m line (freeLine s).2 true) f).work (128 * m.val + line.val)
            (some { w with filling := true }) }) f m line w := by
  have hguard : ¬ (w.reading || w.filling || w.fails == 0 || !mirrorOn s m) = true := by
    rw [hreading, hfilling, hon]
    simp only [Bool.or_false, Bool.not_true, Bool.false_or, beq_iff_eq]
    omega
  unfold opRefetchRetry
  rw [hwork]
  dsimp only
  rw [if_neg hguard, if_neg (Nat.not_lt.2 hfails)]

/-! ### A tile map that lists a holder twice -/

/-- Mirror 0, enabled, with tile 2 as its only holder. -/
def oneHolder : Reg := BitVec.ofNat 64 (2 ^ 63 + 30 * 2 ^ 46 + 2 * 2 ^ 32)

/-- Tile 2 as at reset but for line 0 of its Y memory, which is stale. -/
def staleTile : Tile := { Tile.factory 2 with m := { yStale := [0] } }

/-- A refetch that has failed 16 times. -/
def failedRefetch : Refetch := { fails := 16 }

/-- A state whose tile map lists the holder twice, in a field whose agent gives up on the line. -/
def holderTwice : State :=
  { State.reset with
    regs := [(A.MIRROR_CFG 0, oneHolder)], tiles := [(2, staleTile), (2, staleTile)]
    agents := [(0, { work := [(0, some failedRefetch)] })] }

theorem staleHolders_holderTwice : staleHolders holderTwice 0 0 0 = [(2, 0)] := by decide

theorem mirrorOn_holderTwice : mirrorOn holderTwice 0 = true := by decide

theorem fillTiles_holderTwice : fillTiles holderTwice 0 (ofRefetch 0 0 0) = [] := by decide

/-- What a fill of line 0 with inverted parity starts from. -/
def lostLine : Fill := { line := 0, data := (freeLine holderTwice).2, owner := .refetch 0 0 0, bad := true }

/-- The state once its one stale holder has been given the line to write. -/
def holderGiven : State := startFill (freeLine holderTwice).1 2 0 (freeLine holderTwice).2 (.refetch 0 0 0) true

/-- And with the refetch noted as one that fills. -/
def holderFilling : State :=
  setAgent holderGiven 0
    { getAgent holderGiven 0 with work := smSet none (getAgent holderGiven 0).work 0 (some { failedRefetch with filling := true }) }

theorem opRefetchRetry_holderTwice : opRefetchRetry 0 0 0 holderTwice = refetchFill holderFilling 0 0 0 failedRefetch := by
  have hstale : staleHolders (freeLine holderTwice).1 0 0 0 = [(2, 0)] := staleHolders_holderTwice
  have hfill : fillStale (freeLine holderTwice).1 0 0 0 (freeLine holderTwice).2 true = holderGiven := by
    rw [fillStale, hstale]
    rfl
  refine (opRefetchRetry_givesUp rfl rfl rfl (le_refl 16) mirrorOn_holderTwice).trans ?_
  show refetchFill (setAgent (fillStale (freeLine holderTwice).1 0 0 0 (freeLine holderTwice).2 true) 0 _) 0 0 0 failedRefetch = _
  rw [hfill]
  rfl

/-- The holder with a line to write is not as at reset. -/
theorem givenTile_ne (l : Fill) : { staleTile with m := { staleTile.m with fills := [l] } } ≠ Tile.factory 2 := fun h =>
  absurd (congrArg (fun t => t.m.fills) h) (List.cons_ne_nil l [])

theorem tiles_holderGiven :
    holderGiven.tiles = [(2, { staleTile with m := { staleTile.m with fills := [lostLine] } }), (2, staleTile)] := by
  have h : holderGiven = setT (freeLine holderTwice).1 2 { staleTile with m := { staleTile.m with fills := [lostLine] } } := rfl
  rw [h, setT, smSet, if_neg (givenTile_ne lostLine)]
  rfl

theorem fills_holderFilling : (getT holderFilling 2).m.fills = [lostLine] := by
  have htiles : holderFilling.tiles = holderGiven.tiles := setAgent_tiles ..
  rw [getT, htiles, tiles_holderGiven]
  rfl

theorem tiles_holderFilling : holderFilling.tiles.map Prod.fst = [2, 2] := by
  have htiles : holderFilling.tiles = holderGiven.tiles := setAgent_tiles ..
  rw [htiles, tiles_holderGiven]
  rfl

theorem fillTiles_holderFilling : fillTiles holderFilling 0 (ofRefetch 0 0 0) = [2, 2] := by
  rw [fillTiles, listedTiles, tiles_holderFilling]
  have h : (tileField 2 == 0 && (getT holderFilling 2).m.fills.any fun x => ofRefetch 0 0 0 x.owner) = true := by
    rw [fills_holderFilling]
    rfl
  rw [List.filter_cons, if_pos h, List.filter_cons, if_pos h]
  rfl

/-- Both entries of the map are served, so that two words of the line are written. -/
theorem fills_refetchRetry_holderTwice :
    (getT (opRefetchRetry 0 0 0 holderTwice) 2).m.fills = [{ lostLine with moved := 2 }] := by
  have htiles : (opRefetchRetry 0 0 0 holderTwice).tiles
      = (fillStep (fillStep holderFilling 2 (ofRefetch 0 0 0)).1 2 (ofRefetch 0 0 0)).1.tiles := by
    rw [opRefetchRetry_holderTwice, refetchFill_tiles, fillTiles_holderFilling, List.foldl_cons, List.foldl_cons, List.foldl_nil]
  rw [getT, htiles, ← getT]
  exact fills_fillStep (fills_fillStep fills_holderFilling rfl rfl (by decide)) rfl rfl (by decide)

/-- Refutes O37: where the tile map lists a holder twice, REFETCH_RETRY after 16 failures writes two words of its line, and
not one. -/
theorem not_mirrors : ¬ Obligations.Mirrors := by
  rintro ⟨-, -, -, -, -, -, -, hfail, -⟩
  obtain ⟨t, hexec, -, -, hholders, -⟩ :=
    hfail holderTwice 0 0 0 failedRefetch rfl rfl rfl (le_refl 16) mirrorOn_holderTwice fillTiles_holderTwice
  obtain rfl : opRefetchRetry 0 0 0 holderTwice = t := by injection hexec
  have hmem : (2, 0) ∈ staleHolders holderTwice 0 0 0 := by
    rw [staleHolders_holderTwice]
    exact List.mem_singleton_self _
  obtain ⟨-, y, hy, -, -, -, hmoved⟩ := hholders (2, 0) hmem
  dsimp only at hy
  rw [fills_refetchRetry_holderTwice, List.mem_singleton] at hy
  rw [hy] at hmoved
  exact absurd hmoved (by decide)

end Sys2Proof.Proofs
end

section
/-! PROOFS. Requests and responses at an endpoint (spec 07 R254, R266 to R270), and O36. -/

namespace Sys2Proof.Proofs

open Machine Laws Claims

/-! ### The fields of an endpoint -/

section
variable (s : State) (ep n : Nat)

@[simp] theorem landing_epSetIn (e : Endpoint) (net : Net) (l : List Flit) : (epSetIn e net l).landing = e.landing := by
  cases net <;> rfl

@[simp] theorem landing_epSetOut (e : Endpoint) (net : Net) (l : List Flit) : (epSetOut e net l).landing = e.landing := by
  cases net <;> rfl

@[simp] theorem ingress_epSetIn (e : Endpoint) (net : Net) (l : List Flit) : (epSetIn e net l).ingress = e.ingress := by
  cases net <;> rfl

@[simp] theorem inReq_epSetOut (e : Endpoint) (net : Net) (l : List Flit) : (epSetOut e net l).inReq = e.inReq := by
  cases net <;> rfl

/-- What an update of one endpoint leaves of a field of every endpoint. -/
theorem getEp_setEp_field {α : Type} (g : Endpoint → α) (e : Endpoint) (h : g e = g (getEp s ep)) (ep' : Nat) :
    g (getEp (setEp s ep e) ep') = g (getEp s ep') := by
  by_cases he : ep' = ep
  · rw [he, getEp_setEp_same, h]
  · rw [getEp_setEp_ne _ _ _ _ he]

theorem landing_popIn (net : Net) (ep' : Nat) : (getEp (popIn s ep net) ep').landing = (getEp s ep').landing :=
  getEp_setEp_field s ep Endpoint.landing _ (landing_epSetIn _ _ _) ep'

theorem landing_setIn (x : Option Ingress) (ep' : Nat) : (getEp (setIn s ep n x) ep').landing = (getEp s ep').landing :=
  getEp_setEp_field s ep Endpoint.landing _ (by rfl) ep'

theorem getLand_pushOut (f : Flit) (ep' tag : Nat) : getLand (pushOut s ep f) ep' tag = getLand s ep' tag :=
  congrArg (fun l => smGet none l tag) (getEp_setEp_field s ep Endpoint.landing _ (landing_epSetOut _ _ _) ep')

@[simp] theorem getLand_setLand_same (tag : Nat) (x : Option Landing) : getLand (setLand s ep tag x) ep tag = x := by
  simp [getLand, setLand]

theorem inReq_popIn : (getEp (popIn s ep .req) ep).inReq = (getEp s ep).inReq.drop 1 := by
  rw [popIn, getEp_setEp_same]
  rfl

theorem ingress_popIn (net : Net) : (getEp (popIn s ep net) ep).ingress = (getEp s ep).ingress := by
  rw [popIn, getEp_setEp_same, ingress_epSetIn]

theorem inReq_setIn (x : Option Ingress) : (getEp (setIn s ep n x) ep).inReq = (getEp s ep).inReq :=
  getEp_setEp_field s ep Endpoint.inReq _ (by rfl) ep

theorem inReq_pushOut (f : Flit) : (getEp (pushOut s ep f) ep).inReq = (getEp s ep).inReq :=
  getEp_setEp_field s ep Endpoint.inReq _ (inReq_epSetOut _ _ _) ep

theorem ingress_pushOut (f : Flit) : (getEp (pushOut s ep f) ep).ingress = (getEp s ep).ingress :=
  getEp_setEp_field s ep Endpoint.ingress _ (ingress_epSetOut _ _ _) ep

theorem ingressFree_congr {e e' : Endpoint} (h : e'.ingress = e.ingress) : ingressFree e' ep = ingressFree e ep := by
  rw [ingressFree, ingressFree, h]

end

section
variable {s t : State}

theorem getEp_congr (h : t.eps = s.eps) (ep : Nat) : getEp t ep = getEp s ep := by rw [getEp, getEp, h]

theorem getLand_congr (h : t.eps = s.eps) (ep tag : Nat) : getLand t ep tag = getLand s ep tag := by
  rw [getLand, getLand, getEp_congr h]

theorem eps_of_onlyReported (h : OnlyReported s t) : t.eps = s.eps := by
  rw [h]

theorem devCount_eps (s : State) (k : Nat) : (devCount s k).eps = s.eps := by
  unfold devCount
  split <;> rfl

theorem malformed_eps (s : State) : (malformed s).eps = s.eps :=
  (eps_of_onlyReported (onlyReported_report ..)).trans (devCount_eps s 5)

theorem wakeReq_eps (s : State) (f : Nat) : (wakeReq s f).eps = s.eps := by
  unfold wakeReq
  split <;> rfl

end

theorem devCount_tiles (s : State) (k : Nat) : (devCount s k).tiles = s.tiles := by
  unfold devCount
  split <;> rfl

/-- A running endpoint acts. -/
theorem atEndpoint_of_runs {s : State} {ep : Nat} (h : epRuns s ep) (f : State → State) : atEndpoint ep f s = f s := by
  unfold atEndpoint engine
  split
  · rename_i hb
    rw [h hb]
    rfl
  · rfl

/-! ### What the checks of a request read -/

/-- `t` is `s` but for endpoints, landing slots apart, and the host interface. -/
def ChecksAlike (s t : State) : Prop :=
  t = { s with eps := t.eps, host := t.host } ∧ ∀ ep, (getEp t ep).landing = (getEp s ep).landing

section
variable {s t : State}

theorem ChecksAlike.trans {u : State} (h : ChecksAlike s t) (k : ChecksAlike t u) : ChecksAlike s u := by
  obtain ⟨hst, hland⟩ := h
  obtain ⟨htu, hland'⟩ := k
  refine ⟨?_, fun ep => (hland' ep).trans (hland ep)⟩
  rw [htu, hst]

theorem checksAlike_popIn (s : State) (ep : Nat) (net : Net) : ChecksAlike s (popIn s ep net) :=
  ⟨rfl, landing_popIn s ep net⟩

theorem checksAlike_setIn (s : State) (ep n : Nat) (x : Option Ingress) : ChecksAlike s (setIn s ep n x) :=
  ⟨rfl, landing_setIn s ep n x⟩

theorem checksAlike_receiveWindow (s : State) (p : Place) (g : Ingress) : ChecksAlike s (receiveWindow s p g).1 := by
  cases p <;> exact ⟨rfl, fun _ => rfl⟩

theorem notifyPop_alike (h : ChecksAlike s t) (f : Flit) (remote : Bool) : notifyPop t f remote = notifyPop s f remote := by
  unfold notifyPop getLand
  rw [h.2]

theorem portRule_alike (h : ChecksAlike s t) (i q off : Nat) (f : Flit) (remote : Bool) :
    portRule t i q off f remote = portRule s i q off f remote := by
  have hget : getT t i = getT s i := by rw [h.1]; rfl
  unfold portRule
  rw [hget, notifyPop_alike h]

theorem placeRule_alike (h : ChecksAlike s t) (p : Place) (f : Flit) (remote : Bool) :
    placeRule t p f remote = placeRule s p f remote := by
  cases p with
  | reg i off =>
    have hread : ∀ a, tileRegRead t i a = tileRegRead s i a := fun a => by rw [h.1]; rfl
    simp only [placeRule, hread]
  | port i q off => exact portRule_alike h i q off f remote
  | _ => rfl

theorem passes_alike (h : ChecksAlike s t) {g : Ingress} (hp : passes s g) : passes t g := by
  have hplace : placeOf t g.req.addr.toNat = placeOf s g.req.addr.toNat := by rw [h.1]; rfl
  obtain ⟨hsetup, hdecide, howner, hwen, hfield, hrule⟩ := hp
  refine ⟨?_, ?_, ?_, ?_, ?_, ?_⟩
  all_goals rw [hplace]
  · rw [h.1]; exact hsetup
  · rw [h.1]; exact hdecide
  · rw [h.1]; exact howner
  · rw [h.1]; exact hwen
  · rw [h.1]; exact hfield
  · rw [placeRule_alike h]; exact hrule

end

/-! ### REQ_ADMIT -/

/-- The ingress entry of a request before its checks. -/
def arrivedEntry (f : Flit) : Ingress :=
  { req := f
    wdata := if reqWrite f then (if reqLen f ≤ 8 then some (bytesLE (reqLen f) f.data.toNat) else none) else some []
    remote := (gatewayOf f.src.toNat).isSome }

/-- A write whose data have to be asked for by GO (spec 07 R268). -/
def longWrite (f : Flit) : Bool := reqWrite f && decide (8 < reqLen f)

theorem longWrite_iff (s : State) (f : Flit) : (reqWrite f && (entryFor s f).wdata.isNone) = longWrite f := by
  unfold longWrite entryFor
  cases reqWrite f with
  | false => rfl
  | true =>
    by_cases h : reqLen f ≤ 8
    · simp [h]
    · simp [h]; omega

/-- REQ_ADMIT of a request of an ordinary endpoint, once it has left the queue. -/
theorem opReqAdmit_cons {s : State} {ep : Fin 2048} {f : Flit} {fs : List Flit} (hg : gatewayOf ep = none)
    (hin : (getEp s ep).inReq = f :: fs) : opReqAdmit ep s =
      if 2 ≤ f.op.toNat then respond (malformed (popIn s ep .req)) ep f .badAddress [] 0 0 false
      else match ingressFree (getEp s ep) ep with
      | none => nackReq (popIn s ep .req) ep f
      | some n => admitCheck (setIn (popIn s ep .req) ep n (some (arrivedEntry f))) ep n := by
  unfold opReqAdmit
  rw [hg]
  dsimp only
  rw [if_neg (by simp), hin]
  dsimp only
  rw [ingressFree_congr _ (ingress_popIn s ep .req)]
  rfl

/-- A window access takes its place in the order of receipt. -/
theorem receiveWindow_arrived {s : State} {f : Flit} : receiveWindow s (placeOf s f.addr.toNat)
    { arrivedEntry f with req := { f with
        tabled := preCheck s (reqKey f) (arrivedEntry f).remote == none && needsOf (placeOf s f.addr.toNat) (reqWrite f) != []
        sealed := false } } = ((receiveWindow s (placeOf s f.addr.toNat) (arrivedEntry f)).1, entryFor s f) := by
  unfold entryFor
  cases placeOf s f.addr.toNat <;> rfl

/-- The state in which a request is checked: its entry stands as it will stay while it waits. -/
def checkedIn (s : State) (ep n : Nat) (f : Flit) : State :=
  setIn (receiveWindow s (placeOf s f.addr.toNat) (arrivedEntry f)).1 ep n (some (entryFor s f))

theorem checksAlike_checkedIn (s : State) (ep n : Nat) (f : Flit) : ChecksAlike s (checkedIn s ep n f) :=
  (checksAlike_receiveWindow ..).trans (checksAlike_setIn ..)

/-- The checks of an arrived request (spec 07 R267). -/
theorem admitCheck_eq {s : State} {ep n : Nat} {f : Flit} (hget : getIn s ep n = some (arrivedEntry f)) : admitCheck s ep n =
    let p := placeOf s f.addr.toNat
    let k := reqKey f
    let g := entryFor s f
    let u := checkedIn s ep n f
    if setupRemoteWrite u p g && preCheck u k g.remote == none then refuseReq u ep n g p 0x610 86 .denied
    else match decideAccess u k g.remote (needsOf p (reqWrite f)) with
    | .refuse code table => refuseReq u ep n g p code table .denied
    | .grant =>
      if !ownerOk u p k then refuseReq u ep n g p 0x611 ((placeTile p).elim 255 tileField) .notOwner
      else if wenBlocks u p g || (match placeTile p with | some t => fieldRefuses u (tileField t) g | none => false) then
        answerDown u ep n
      else if placeRule u p g.req g.remote ≠ .ok then answer u ep n (placeRule u p g.req g.remote) []
      else
        let v := setIn u ep n (some { g with checked := true, go := reqWrite f && g.wdata.isNone })
        let v := if reqWrite f && g.wdata.isNone then sendGo v ep n g.req else v
        match placeTile p with
        | some t => wakeReq v (tileField t)
        | none => v := by
  unfold admitCheck
  rw [hget]
  dsimp only
  rw [show (arrivedEntry f).req = f from rfl, receiveWindow_arrived]
  rfl

theorem getIn_checkedIn (s : State) (ep n : Nat) (f : Flit) : getIn (checkedIn s ep n f) ep n = some (entryFor s f) :=
  getIn_setIn_same ..

theorem inReq_checkedIn (s : State) (ep n : Nat) (f : Flit) : (getEp (checkedIn s ep n f) ep).inReq = (getEp s ep).inReq :=
  (inReq_setIn ..).trans (by cases placeOf s f.addr.toNat <;> rfl)

theorem mem_epOut_pushOut_self (s : State) (ep : Nat) {f : Flit} {net : Net} (h : f.net = net) :
    f ∈ epOut (getEp (pushOut s ep f) ep) net := by
  rw [← h, epOut_pushOut_same]
  exact List.mem_append_right _ (List.mem_singleton_self _)

/-- What an admitted request leaves: its checked entry, and a GO for a long write. -/
def Admitted (t : State) (ep n : Nat) (f : Flit) (g : Ingress) : Prop :=
  getIn t ep n = some g
    ∧ (longWrite f = true → ∃ a ∈ (getEp t ep).outRsp,
        a.op = 1 ∧ a.tag = f.tag ∧ a.dst = f.src ∧ a.entry = BitVec.ofNat 5 n)

theorem admitted_congr {s t : State} {ep n : Nat} {f : Flit} {g : Ingress} (h : t.eps = s.eps) (ha : Admitted s ep n f g) :
    Admitted t ep n f g := by
  obtain ⟨hin, hgo⟩ := ha
  exact ⟨(getIn_congr h ep n).trans hin, by rwa [getEp_congr h]⟩

/-- A GO is asked for exactly when the write is long. -/
theorem admitted_sendGo (s : State) (ep n : Nat) (f : Flit) (g : Ingress) (hin : getIn s ep n = some g) :
    Admitted (if longWrite f then sendGo s ep n f else s) ep n f g := by
  cases hlong : longWrite f with
  | false => exact ⟨hin, fun h => absurd (hlong.symm.trans h) Bool.false_ne_true⟩
  | true =>
    let go : Flit := { net := .rsp, dst := f.src, src := BitVec.ofNat 11 ep, op := 1, tag := f.tag, entry := BitVec.ofNat 5 n }
    exact ⟨(getIn_pushOut ..).trans hin, fun _ => ⟨go, mem_epOut_pushOut_self s ep rfl, rfl, rfl, rfl, rfl⟩⟩

theorem inReq_sendGo (s : State) (ep n : Nat) (f : Flit) (b : Bool) :
    (getEp (if b then sendGo s ep n f else s) ep).inReq = (getEp s ep).inReq := by
  cases b with
  | false => rfl
  | true => exact inReq_pushOut s ep _

/-- A request that passes its checks is admitted. -/
theorem admitCheck_admits {s : State} {ep n : Nat} {f : Flit} (hget : getIn s ep n = some (arrivedEntry f))
    (hp : passes s (entryFor s f)) : (getEp (admitCheck s ep n) ep).inReq = (getEp s ep).inReq
      ∧ Admitted (admitCheck s ep n) ep n f { entryFor s f with checked := true, go := longWrite f } := by
  have hplace : placeOf (checkedIn s ep n f) f.addr.toNat = placeOf s f.addr.toNat := by
    rw [(checksAlike_checkedIn s ep n f).1]
    rfl
  obtain ⟨hsetup, hdecide, howner, hwen, hfield, hrule⟩ := passes_alike (checksAlike_checkedIn s ep n f) hp
  have hreq : (entryFor s f).req.addr = f.addr := rfl
  have hkey : reqKey (entryFor s f).req = reqKey f := rfl
  have hwr : reqWrite (entryFor s f).req = reqWrite f := rfl
  rw [hreq, hplace] at hsetup hdecide howner hwen hrule
  rw [hreq, hplace] at hfield
  rw [hkey] at hsetup hdecide howner
  rw [hwr] at hdecide
  rw [admitCheck_eq hget]
  dsimp only
  have hsetup' : ¬ (setupRemoteWrite (checkedIn s ep n f) (placeOf s f.addr.toNat) (entryFor s f)
      && preCheck (checkedIn s ep n f) (reqKey f) (entryFor s f).remote == none) = true := by
    rw [Bool.and_eq_true, beq_iff_eq]
    exact hsetup
  rw [if_neg hsetup', hdecide]
  dsimp only
  rw [howner, if_neg (by decide), hwen, hrule, if_neg (not_not.2 rfl), longWrite_iff]
  let v := setIn (checkedIn s ep n f) ep n (some { entryFor s f with checked := true, go := longWrite f })
  have hreq : (getEp (if longWrite f then sendGo v ep n f else v) ep).inReq = (getEp s ep).inReq :=
    (inReq_sendGo ..).trans ((inReq_setIn ..).trans (inReq_checkedIn ..))
  have hadm : Admitted (if longWrite f then sendGo v ep n f else v) ep n f _ := admitted_sendGo v ep n f _ (getIn_setIn_same ..)
  cases hpt : placeTile (placeOf s f.addr.toNat) with
  | none => exact ⟨hreq, hadm⟩
  | some i =>
    dsimp only
    rw [if_neg (by rw [hfield i hpt]; decide)]
    exact ⟨(congrArg Endpoint.inReq (getEp_congr (wakeReq_eps ..) ep)).trans hreq, admitted_congr (wakeReq_eps ..) hadm⟩

/-- A request that a table refuses, or one for the set-up registers that only the warden may write, is answered. -/
theorem admitCheck_refuses {s : State} {ep n code table : Nat} {f : Flit} (hget : getIn s ep n = some (arrivedEntry f))
    (h : decideAccess s (reqKey f) (entryFor s f).remote (needsOf (placeOf s f.addr.toNat) (reqWrite f)) = .refuse code table) :
    ∃ code' table', admitCheck s ep n
      = refuseReq (checkedIn s ep n f) ep n (entryFor s f) (placeOf s f.addr.toNat) code' table' .denied := by
  rw [admitCheck_eq hget]
  dsimp only
  have hdecide : decideAccess (checkedIn s ep n f) (reqKey f) (entryFor s f).remote (needsOf (placeOf s f.addr.toNat) (reqWrite f))
      = .refuse code table := by
    rw [(checksAlike_checkedIn s ep n f).1]
    exact h
  split
  · exact ⟨_, _, rfl⟩
  · rw [hdecide]
    exact ⟨_, _, rfl⟩

/-- A response without data leaves by the response network. -/
theorem mem_outRsp_respond (s : State) (ep : Nat) (req : Flit) (st : Status) (count endTag : Nat) (c : Bool) :
    ∃ a ∈ (getEp (respond s ep req st [] count endTag c) ep).outRsp, a.tag = req.tag ∧ a.dst = req.src
      ∧ a.status.toNat = statusCode st := by
  have hshort : ¬ (st = .ok ∧ 8 < ([] : List Byte).length) := fun h => absurd h.2 (by decide)
  obtain ⟨a, heq, hnet, hdst, htag, -, hst⟩ := respond_eq s ep req st [] count endTag c
  rw [if_neg hshort] at hnet hst
  exact heq ▸ ⟨a, mem_epOut_pushOut_self s ep hnet, htag, hdst, hst⟩

/-- An answer without data frees the entry and leaves by the response network. -/
theorem answer_without_data {s : State} {ep n : Nat} {g : Ingress} (hget : getIn s ep n = some g) (st : Status) :
    getIn (answer s ep n st []) ep n = none
      ∧ ∃ a ∈ (getEp (answer s ep n st []) ep).outRsp, a.tag = g.req.tag ∧ a.dst = g.req.src
        ∧ a.status.toNat = statusCode st := by
  have heq : answer s ep n st [] = respond (setIn s ep n none) ep g.req st [] 0 0 (false || wasConflict g st) := by
    unfold answer answerC
    rw [hget]
    rfl
  obtain ⟨a, hresp, -⟩ := respond_eq (setIn s ep n none) ep g.req st [] 0 0 (false || wasConflict g st)
  refine ⟨?_, heq ▸ mem_outRsp_respond ..⟩
  rw [heq, hresp, getIn_pushOut, getIn_setIn_same]

/-- A refused request is answered with its status, and holds no entry. -/
theorem refuseReq_answers {s : State} {ep n : Nat} {g : Ingress} (hget : getIn s ep n = some g) (p : Place) (code table : Nat)
    (st : Status) : getIn (refuseReq s ep n g p code table st) ep n = none
      ∧ ∃ a ∈ (getEp (refuseReq s ep n g p code table st) ep).outRsp, a.tag = g.req.tag ∧ a.dst = g.req.src
        ∧ a.status.toNat = statusCode st :=
  answer_without_data ((getIn_congr (eps_of_onlyReported (onlyReported_denyWith ..)) ep n).trans hget) st

/-! ### A full endpoint -/

/-- A NACK waits to leave, or has joined the responses that leave. -/
theorem mem_drainNack {s : State} {ep : Nat} {a : Flit} (h : a ∈ (getEp s ep).outRsp ++ (getEp s ep).nackq) :
    a ∈ (getEp (drainNack s ep) ep).outRsp ++ (getEp (drainNack s ep) ep).nackq := by
  unfold drainNack
  dsimp only
  split
  · rename_i f rest hq
    rw [hq] at h
    split
    · rw [getEp_setEp_same]
      simpa using h
    · rwa [hq]
  · exact h

theorem ingress_drainNack (s : State) (ep : Nat) : (getEp (drainNack s ep) ep).ingress = (getEp s ep).ingress := by
  unfold drainNack
  dsimp only
  split
  · split
    · rw [getEp_setEp_same]
    · rfl
  · rfl

/-- The state in which a NACK stands behind the others. -/
theorem getEp_nackReq (s : State) (ep : Nat) (f : Flit) (ep' : Nat) :
    getEp (devCount (setEp s ep { getEp s ep with nackq := (getEp s ep).nackq ++ [nackOf ep f] }) 0) ep'
      = getEp (setEp s ep { getEp s ep with nackq := (getEp s ep).nackq ++ [nackOf ep f] }) ep' := getEp_congr (devCount_eps _ _) ep'

theorem nackOf_mem_nackReq (s : State) (ep : Nat) (f : Flit) :
    nackOf ep f ∈ (getEp (nackReq s ep f) ep).outRsp ++ (getEp (nackReq s ep f) ep).nackq := by
  refine mem_drainNack ?_
  rw [getEp_nackReq, getEp_setEp_same]
  simp

theorem ingress_nackReq (s : State) (ep : Nat) (f : Flit) : (getEp (nackReq s ep f) ep).ingress = (getEp s ep).ingress := by
  refine (ingress_drainNack ..).trans ?_
  rw [getEp_nackReq, getEp_setEp_same]

/-! ### The clauses about REQ_ADMIT -/

section
variable (s : State) (ep : Fin 2048) (f : Flit) (fs : List Flit)

theorem exec_reqAdmit {s : State} {ep : Fin 2048} (h : epRuns s ep) : exec (.reqAdmit ep) s = .next (opReqAdmit ep s) :=
  congrArg Host.Outcome.next (atEndpoint_of_runs h (opReqAdmit ep))

theorem reqAdmit_admits (n : Nat) (hg : gatewayOf ep = none) (hrun : epRuns s ep) (hin : (getEp s ep).inReq = f :: fs)
    (hop : f.op.toNat < 2) (hfree : ingressFree (getEp s ep) ep = some n) (hp : passes s (entryFor s f)) :
    ∃ t : State, exec (.reqAdmit ep) s = .next t ∧ (getEp t ep).inReq = fs
      ∧ Admitted t ep n f { entryFor s f with checked := true, go := longWrite f } := by
  let u := setIn (popIn s ep .req) ep n (some (arrivedEntry f))
  have heq : opReqAdmit ep s = admitCheck u ep n := by
    rw [opReqAdmit_cons hg hin, if_neg (by omega), hfree]
  have hsame : ChecksAlike s u := (checksAlike_popIn ..).trans (checksAlike_setIn ..)
  have hentry : entryFor u f = entryFor s f := rfl
  obtain ⟨hreq, hadm⟩ := admitCheck_admits (getIn_setIn_same ..) (hentry ▸ passes_alike hsame hp)
  refine ⟨_, exec_reqAdmit hrun, heq ▸ (hreq.trans ?_), heq ▸ (hentry ▸ hadm)⟩
  rw [inReq_setIn, inReq_popIn, hin]
  rfl

theorem reqAdmit_denies (n code table : Nat) (hg : gatewayOf ep = none) (hrun : epRuns s ep) (hin : (getEp s ep).inReq = f :: fs)
    (hop : f.op.toNat < 2) (hfree : ingressFree (getEp s ep) ep = some n)
    (h : decideAccess s (reqKey f) (entryFor s f).remote (needsOf (placeOf s f.addr.toNat) (reqWrite f)) = .refuse code table) :
    ∃ t : State, exec (.reqAdmit ep) s = .next t ∧ getIn t ep n = none ∧ t.mem = s.mem
      ∧ ∃ g ∈ (getEp t ep).outRsp, g.tag = f.tag ∧ g.dst = f.src ∧ g.status.toNat = statusCode .denied := by
  let u := setIn (popIn s ep .req) ep n (some (arrivedEntry f))
  have heq : opReqAdmit ep s = admitCheck u ep n := by
    rw [opReqAdmit_cons hg hin, if_neg (by omega), hfree]
  obtain ⟨code', table', hcheck⟩ := admitCheck_refuses (s := u) (getIn_setIn_same ..) h
  obtain ⟨hnone, hrsp⟩ := refuseReq_answers (getIn_checkedIn u ep n f) (placeOf u f.addr.toNat) code' table' .denied
  refine ⟨_, exec_reqAdmit hrun, ?_, mem_of_queueMem (queueMem_opReqAdmit ..), ?_⟩
  · rw [heq, hcheck]
    exact hnone
  · rw [heq, hcheck]
    exact hrsp

theorem reqAdmit_turns_away (hg : gatewayOf ep = none) (hrun : epRuns s ep) (hin : (getEp s ep).inReq = f :: fs)
    (hop : f.op.toNat < 2) (hfree : ingressFree (getEp s ep) ep = none) :
    ∃ t : State, exec (.reqAdmit ep) s = .next t ∧ (getEp t ep).ingress = (getEp s ep).ingress
      ∧ ∃ g ∈ (getEp t ep).outRsp ++ (getEp t ep).nackq, g.op = 2 ∧ g.tag = f.tag ∧ g.dst = f.src := by
  have heq : opReqAdmit ep s = nackReq (popIn s ep .req) ep f := by
    rw [opReqAdmit_cons hg hin, if_neg (by omega), hfree]
  refine ⟨_, exec_reqAdmit hrun, ?_, ?_⟩
  · rw [heq, ingress_nackReq, ingress_popIn]
  · rw [heq]
    exact ⟨nackOf ep f, nackOf_mem_nackReq .., rfl, rfl, rfl⟩

theorem reqAdmit_reserved (hg : gatewayOf ep = none) (hrun : epRuns s ep) (hin : (getEp s ep).inReq = f :: fs)
    (hop : 2 ≤ f.op.toNat) :
    ∃ t : State, exec (.reqAdmit ep) s = .next t ∧ (getEp t ep).ingress = (getEp s ep).ingress
      ∧ ∃ g ∈ (getEp t ep).outRsp, g.tag = f.tag ∧ g.dst = f.src ∧ g.status.toNat = statusCode .badAddress := by
  have heq : opReqAdmit ep s = respond (malformed (popIn s ep .req)) ep f .badAddress [] 0 0 false := by
    rw [opReqAdmit_cons hg hin, if_pos hop]
  obtain ⟨a, hresp, -⟩ := respond_eq (malformed (popIn s ep .req)) ep f .badAddress [] 0 0 false
  refine ⟨_, exec_reqAdmit hrun, ?_, ?_⟩
  · rw [heq, hresp, ingress_pushOut, getEp_congr (malformed_eps _), ingress_popIn]
  · rw [heq]
    exact mem_outRsp_respond ..

end

/-! ### Arrived data and responses -/

/-- The state once flit `f` has been taken from the arrived ones of network `n`. -/
def takenIn (s : State) (ep : Nat) (n : Net) (f : Flit) : State :=
  setEp s ep (epSetIn (getEp s ep) n ((epIn (getEp s ep) n).erase f))

theorem takeFirst_eq {s : State} {ep : Nat} {n : Net} {p : Flit → Bool} {f : Flit} (h : (epIn (getEp s ep) n).find? p = some f) :
    takeFirst s ep n p = some (f, takenIn s ep n f) := by
  unfold takeFirst
  dsimp only
  rw [h]
  rfl

theorem getIn_takenIn (s : State) (ep : Nat) (n : Net) (f : Flit) (k : Nat) : getIn (takenIn s ep n f) ep k = getIn s ep k := by
  rw [getIn, takenIn, getEp_setEp_same, ingress_epSetIn, getIn]

theorem getLand_takenIn (s : State) (ep : Nat) (n : Net) (f : Flit) (tag : Nat) :
    getLand (takenIn s ep n f) ep tag = getLand s ep tag := by
  rw [getLand, takenIn, getEp_setEp_same, landing_epSetIn, getLand]

theorem wdataArrival_gives (s : State) (ep : Fin 2048) (f : Flit) (g : Ingress) (hg : gatewayOf ep = none) (hrun : epRuns s ep)
    (hin : (getEp s ep).inDat.find? (fun f => f.op == 1) = some f) (hget : getIn s ep f.entry.toNat = some g) (hgo : g.go = true)
    (hwd : g.wdata = none) (hsrc : g.req.src = f.src) (htag : g.req.tag = f.tag) :
    ∃ t : State, exec (.wdataArrival ep) s = .next t
      ∧ getIn t ep f.entry.toNat = some { g with wdata := some (bytesLE f.count.toNat f.data.toNat) }
      ∧ (getEp t ep).inDat = (getEp s ep).inDat.erase f := by
  have hmatch : (g.go && g.wdata.isNone && g.req.src == f.src && g.req.tag == f.tag) = true := by
    rw [hgo, hwd, hsrc, htag]
    simp
  have heq : opWdataArrival ep s = setIn (takenIn s ep .dat f) ep f.entry.toNat
      (some { g with wdata := some (bytesLE f.count.toNat f.data.toNat) }) := by
    unfold opWdataArrival
    rw [hg, if_neg (by simp), takeFirst_eq (n := .dat) hin]
    dsimp only
    rw [getIn_takenIn, hget]
    dsimp only
    rw [if_pos hmatch]
  refine ⟨_, congrArg Host.Outcome.next (atEndpoint_of_runs hrun (opWdataArrival ep)), ?_, ?_⟩
  · rw [heq, getIn_setIn_same]
  · rw [heq]
    refine (getEp_setEp_field _ ep Endpoint.inDat _ (by rfl) ep).trans ?_
    rw [takenIn, getEp_setEp_same]
    rfl

section
variable (s : State) (ep : Fin 2048) (f : Flit) (fs : List Flit) (l : Landing)

/-- The state in which a response has found its landing slot. -/
def responded (s : State) (ep : Nat) (f : Flit) : State := wakeAnswer (takenIn s ep .rsp f) ep

theorem wakeAnswer_eps (s : State) (ep : Nat) : (wakeAnswer s ep).eps = s.eps := by
  unfold wakeAnswer
  split
  · exact wakeReq_eps ..
  · rfl

theorem wakeAnswer_tiles (s : State) (ep : Nat) : (wakeAnswer s ep).tiles = s.tiles := by
  unfold wakeAnswer
  split
  · exact wakeReq_tiles ..
  · rfl

theorem getLand_responded (tag : Nat) : getLand (responded s ep f) ep tag = getLand s ep tag :=
  (getLand_congr (wakeAnswer_eps ..) ep tag).trans (getLand_takenIn ..)

theorem getT_responded (i : Nat) : getT (responded s ep f) i = getT s i := getT_congr (wakeAnswer_tiles ..) i

/-- RESPONSE_EJECT of a response that finds its landing slot (spec 07 R268, R269). -/
theorem opResponseEject_rsp {s : State} {ep : Fin 2048} {f : Flit} {fs : List Flit} {l : Landing} (hg : gatewayOf ep = none)
    (hin : (getEp s ep).inRsp = f :: fs) (hop : f.op.toNat < 3) (hland : getLand s ep f.tag.toNat = some l) :
    opResponseEject ep false s =
      if f.op == 1 then sendWdata (responded s ep f) ep l f
      else if f.op == 2 then setLand (responded s ep f) ep f.tag.toNat (some { l with nacks := l.nacks + 1, backoff := true })
      else
        let u := if f.conflict then countConflict (responded s ep f) l.owner else responded s ep f
        complete (useFree u) ep f.tag.toNat l (codeStatus u f.status.toNat) (bytesLE f.count.toNat f.data.toNat) f.endTag.toNat := by
  have hfind : (epIn (getEp s ep) .rsp).find? (fun f => !false || f.op == 0 || decide (3 ≤ f.op.toNat)) = some f := by
    rw [show epIn (getEp s ep) .rsp = f :: fs from hin]
    rfl
  unfold opResponseEject
  rw [hg, if_neg (by simp), if_neg (by simp), takeFirst_eq hfind]
  dsimp only
  rw [if_neg (by omega), getLand_takenIn, hland]
  rfl

theorem responseEject_go_nack (hg : gatewayOf ep = none) (hrun : epRuns s ep) (hin : (getEp s ep).inRsp = f :: fs)
    (hland : getLand s ep f.tag.toNat = some l) :
    ∃ t : State, exec (.responseEject ep false) s = .next t
      ∧ (f.op = 1 → getLand t ep f.tag.toNat = some l
          ∧ ∃ g ∈ (getEp t ep).outDat, g.op = 1 ∧ g.tag = f.tag ∧ g.entry = f.entry ∧ g.dst = l.req.dst ∧ g.data = BitVec.ofNat 512 (leBytes l.wdata))
      ∧ (f.op = 2 → getLand t ep f.tag.toNat = some { l with nacks := l.nacks + 1, backoff := true }) := by
  refine ⟨_, congrArg Host.Outcome.next (atEndpoint_of_runs hrun (opResponseEject ep false)), fun hop => ?_, fun hop => ?_⟩
  · rw [opResponseEject_rsp hg hin (by rw [hop]; decide) hland, hop, if_pos (by decide)]
    refine ⟨(getLand_pushOut ..).trans ((getLand_responded ..).trans hland), _, mem_epOut_pushOut_self (net := .dat) _ _ rfl, ?_⟩
    exact ⟨rfl, rfl, rfl, rfl, rfl⟩
  · rw [opResponseEject_rsp hg hin (by rw [hop]; decide) hland, hop, if_neg (by decide), if_pos (by decide), getLand_setLand_same]

end

/-! ### Answers to a tile gateway -/

/-- The last answer to a request of a tile gateway. -/
theorem gwAnswered_complete {s : State} {ep tag i k : Nat} {l : Landing} {g : GwSlot} (ho : l.owner = .gw i k)
    (hget : smGet none (getT s i).b.gw k = some g) (st : Status) (data : List Byte) (endTag : Nat) :
    gwAnswered (complete s ep tag l st data endTag) ep tag i k g st (BitVec.ofNat 32 (leAt data 0 4)) := by
  unfold complete
  rw [ho]
  dsimp only
  have hget' : smGet none (getT (setLand s ep tag none) i).b.gw k = some g := hget
  refine ⟨getLand_setLand_same .., ?_⟩
  rw [setB, getT_setT_same]
  dsimp only
  rw [hget', smGet_smSet_same]

theorem codeStatus_statusCode (s : State) {st : Status} (h : st ≠ .busyRetry) : codeStatus s (statusCode st) = st := by
  cases st with
  | busyRetry => exact absurd rfl h
  | _ => rfl

/-- A conflict counts at the tile and leaves its gateway as it is. -/
theorem gateway_countConflict (s : State) (i k : Nat) (c : Bool) :
    (getT (if c then countConflict s (.gw i k) else s) i).b.gw = (getT s i).b.gw := by
  cases c with
  | false => rfl
  | true =>
    show (getT (bumpConflicts s i) i).b.gw = _
    unfold bumpConflicts
    split
    · rw [getT_setT_same]
    · rfl

section
variable (s : State) (l : Landing) (i k : Nat) (g : GwSlot)

theorem responseEject_answers (ep : Fin 2048) (f : Flit) (fs : List Flit) (st : Status) (hg : gatewayOf ep = none) (hrun : epRuns s ep)
    (hin : (getEp s ep).inRsp = f :: fs) (hop : f.op = 0) (hst : f.status.toNat = statusCode st) (hretry : st ≠ .busyRetry)
    (hland : getLand s ep f.tag.toNat = some l) (ho : l.owner = .gw i k) (hget : smGet none (getT s i).b.gw k = some g) :
    ∃ t : State, exec (.responseEject ep false) s = .next t
      ∧ gwAnswered t ep f.tag.toNat i k g st (BitVec.ofNat 32 (leAt (bytesLE f.count.toNat f.data.toNat) 0 4)) := by
  refine ⟨_, congrArg Host.Outcome.next (atEndpoint_of_runs hrun (opResponseEject ep false)), ?_⟩
  rw [opResponseEject_rsp hg hin (by rw [hop]; decide) hland, hop, if_neg (by decide), if_neg (by decide), ho, hst]
  dsimp only
  rw [codeStatus_statusCode _ hretry]
  refine gwAnswered_complete ho ?_ ..
  show smGet none (getT (if f.conflict then countConflict (responded s ep f) (.gw i k) else responded s ep f) i).b.gw k = some g
  rw [gateway_countConflict, getT_responded]
  exact hget

variable (ep : Fin 2048) (tag : Fin 256)

theorem requestRetry_sends (hrun : epRuns s ep) (hland : getLand s ep tag = some l) (hback : l.backoff = true) (hnet : l.req.net = .req)
    (hnacks : l.nacks < retryMax s) :
    ∃ t : State, exec (.requestRetry ep tag) s = .next t ∧ getLand t ep tag = some { l with backoff := false }
      ∧ (getEp t ep).outReq = (getEp s ep).outReq ++ [{ l.req with age := 0 }] := by
  have heq : opRequestRetry ep tag s = pushOut (setLand s ep tag (some { l with backoff := false })) ep { l.req with age := 0 } := by
    unfold opRequestRetry
    rw [hland]
    dsimp only
    rw [if_pos (by simp [hback, hnacks])]
  refine ⟨_, congrArg Host.Outcome.next (atEndpoint_of_runs hrun (opRequestRetry ep tag)), ?_, ?_⟩
  · rw [heq, getLand_pushOut, getLand_setLand_same]
  · rw [heq, outReq_pushOut (f := { l.req with age := 0 }) hnet, outReq_setLand]

theorem retryTimeout_answers (hrun : epRuns s ep) (hland : getLand s ep tag = some l) (hback : l.backoff = true)
    (hnacks : retryMax s ≤ l.nacks) (ho : l.owner = .gw i k) (hget : smGet none (getT s i).b.gw k = some g) :
    ∃ t : State, exec (.retryTimeout ep tag) s = .next t ∧ gwAnswered t ep tag i k g .timeout 0 := by
  have heq : opRetryTimeout ep tag s = complete (reportNet (devCount s 1) 0x310 []) ep tag l .timeout [] 0 := by
    unfold opRetryTimeout
    rw [hland]
    dsimp only
    rw [if_pos (by simp [hback, hnacks])]
  refine ⟨_, congrArg Host.Outcome.next (atEndpoint_of_runs hrun (opRetryTimeout ep tag)), ?_⟩
  rw [heq]
  refine gwAnswered_complete ho ?_ ..
  rw [reportNet, getT_congr ((report_tiles ..).trans (devCount_tiles s 1))]
  exact hget

theorem rspTimeout_answers (hrun : epRuns s ep) (hland : getLand s ep tag = some l) (hback : l.backoff = false)
    (hgate : (gatewayOf l.req.dst.toNat).isSome = true) (harm : isArmFlit l.req = false) (hposted : isPosted l.req = false)
    (ho : l.owner = .gw i k) (hget : smGet none (getT s i).b.gw k = some g) :
    ∃ t : State, exec (.rspTimeout ep tag) s = .next t ∧ gwAnswered t ep tag i k g .timeout 0 := by
  have heq : opRspTimeout ep tag s = complete (report (bump s A.FAB_ERR_CNT F.FAB_ERR_CNT_RSP_TIMEOUT 1) 203 (unitDev s) 0x414 [])
      ep tag l .timeout [] 0 := by
    unfold opRspTimeout
    rw [hland]
    dsimp only
    rw [if_pos (by simp [hback, hgate, harm, hposted])]
  refine ⟨_, congrArg Host.Outcome.next (atEndpoint_of_runs hrun (opRspTimeout ep tag)), ?_⟩
  rw [heq]
  refine gwAnswered_complete ho ?_ ..
  rw [getT_congr (report_tiles ..)]
  exact hget

end

/-- Settles O36. -/
theorem requestsAndResponses : Obligations.RequestsAndResponses :=
  ⟨reqAdmit_admits, reqAdmit_denies, reqAdmit_turns_away, reqAdmit_reserved, wdataArrival_gives, responseEject_go_nack,
    fun s ep f fs l i k g st => responseEject_answers s l i k g ep f fs st, fun s ep tag l => requestRetry_sends s l ep tag,
    fun s ep tag l i k g => retryTimeout_answers s l i k g ep tag, fun s ep tag l i k g => rspTimeout_answers s l i k g ep tag⟩

end Sys2Proof.Proofs
end

section
/-! PROOFS. What the power controller watches (spec 13 R499): states, TARGETs, its flags, the trip and the field clocks, and the
operations that leave them as they are. -/

namespace Sys2Proof.Proofs

open Machine Laws Claims

/-! ### The watched part of the state -/

/-- The flags of PWR_STATUS that the steps of a drain and of a restart set. -/
def stepFlags : List Fld := [F.PWR_STATUS_DRAIN_CANCELLED, F.PWR_STATUS_DRAIN_FORCED, F.PWR_STATUS_RESTART_MERGED]

/-- State, TARGET and flags of every field, the trip, and what a field keeps outside registers. -/
@[irreducible] def powerView (s : State) : (Fin 64 → Nat × Nat × List Nat) × Bool × SMap FieldSt :=
  (fun f => (pwrState s f, pwrTarget s f, stepFlags.map (rd s (A.PWR_STATUS f))), tripped s, s.fields)

/-- An offset at which no watched register lies. -/
def offPower (o : Nat) : Prop := (o % 64 ≠ 0 ∧ o % 64 ≠ 8) ∨ o < 0x300000 ∨ 0x304000 ≤ o

section
variable {s t : State}

theorem rd_of_getR {o : Nat} (h : getR t o = getR s o) (f : Fld) : rd t o f = rd s o f := by rw [rd, rd, h]

/-- The watched part is read from registers that `offPower` leaves out. -/
theorem powerView_congr (hreg : ∀ o, ¬ offPower o → getR t o = getR s o) (hfields : t.fields = s.fields) :
    powerView t = powerView s := by
  have hstatus : ∀ f : Fin 64, ¬ offPower (A.PWR_STATUS f) := fun f => by unfold offPower A.PWR_STATUS; omega
  have hctl : ∀ f : Fin 64, ¬ offPower (A.PWR_CTL f) := fun f => by unfold offPower A.PWR_CTL; omega
  have htherm : ¬ offPower A.PWR_THERM_STATUS := by unfold offPower A.PWR_THERM_STATUS; omega
  have hfield : ∀ f : Fin 64, (pwrState t f, pwrTarget t f, stepFlags.map (rd t (A.PWR_STATUS f)))
      = (pwrState s f, pwrTarget s f, stepFlags.map (rd s (A.PWR_STATUS f))) := fun f => by
    rw [pwrState, pwrState, pwrTarget, pwrTarget, rd_of_getR (hreg _ (hstatus f)), rd_of_getR (hreg _ (hctl f)),
      funext (rd_of_getR (hreg _ (hstatus f)))]
  rw [powerView, powerView, funext hfield, tripped, tripped, rdB, rdB, rd_of_getR (hreg _ htherm), hfields]

theorem powerView_setR {o : Nat} (h : offPower o) (s : State) (v : Reg) : powerView (setR s o v) = powerView s :=
  powerView_congr (fun _ hp => getR_setR_ne _ _ _ _ (fun e => hp (e ▸ h))) rfl

theorem powerView_wr {o : Nat} (h : offPower o) (s : State) (f : Fld) (x : Nat) : powerView (wr s o f x) = powerView s :=
  powerView_setR h s _

theorem powerView_bump {o : Nat} (h : offPower o) (s : State) (f : Fld) (n : Nat) : powerView (bump s o f n) = powerView s :=
  powerView_setR h s _

theorem powerView_of_regs (hregs : t.regs = s.regs) (hfields : t.fields = s.fields) : powerView t = powerView s :=
  powerView_congr (fun o _ => by rw [getR, getR, hregs]) hfields

end

/-! ### Operations that leave it as it is -/

section
variable (s : State)

@[simp] theorem powerView_setT (i : Nat) (t : Tile) : powerView (setT s i t) = powerView s := powerView_of_regs rfl rfl

@[simp] theorem powerView_setB (i : Nat) (f : BPart → BPart) : powerView (setB s i f) = powerView s := powerView_setT ..

@[simp] theorem powerView_setQ (i n : Nat) (q : BQueue) : powerView (setQ s i n q) = powerView s := powerView_setB ..

@[simp] theorem powerView_setEp (ep : Nat) (e : Endpoint) : powerView (setEp s ep e) = powerView s := powerView_of_regs rfl rfl

@[simp] theorem powerView_pushOut (ep : Nat) (f : Flit) : powerView (pushOut s ep f) = powerView s := powerView_setEp ..

@[simp] theorem powerView_setAgent (f : Nat) (a : Agent) : powerView (setAgent s f a) = powerView s := powerView_of_regs rfl rfl

@[simp] theorem powerView_setRun (id : Nat) (r : Option TreeRun) : powerView (setRun s id r) = powerView s := powerView_of_regs rfl rfl

@[simp] theorem powerView_useFree : powerView (useFree s) = powerView s := powerView_of_regs rfl rfl

@[simp] theorem powerView_queueOut (p : Nat) (k : Packet) : powerView (queueOut s p k) = powerView s := powerView_of_regs rfl rfl

/-! ### Reports and counters -/

theorem powerView_recClass (c n : Nat) : powerView (recClass s c n) = powerView s := by
  unfold recClass
  split <;> exact powerView_of_regs rfl rfl

theorem powerView_logLatch (r : Report) : powerView (logLatch s r) = powerView s := by
  unfold logLatch
  split
  · exact powerView_of_regs rfl rfl
  · split
    · exact powerView_of_regs rfl rfl
    · exact (powerView_recClass ..).trans (powerView_bump (by unfold offPower; decide) ..)

@[simp] theorem powerView_raiseIf (ie : Bool) (k : Nat) : powerView (raiseIf s ie k) = powerView s := by
  unfold raiseIf
  split <;> exact powerView_of_regs rfl rfl

theorem powerView_eventVec (code : Nat) : powerView (eventVec s code) = powerView s := by
  unfold eventVec
  dsimp only
  split_ifs <;> simp

@[simp] theorem powerView_report (source : Nat) (unit : BitVec 32) (code : Nat) (det : List Byte) :
    powerView (report s source unit code det) = powerView s :=
  (powerView_eventVec ..).trans ((powerView_recClass ..).trans (powerView_logLatch ..))

@[simp] theorem powerView_devCount (k : Nat) : powerView (devCount s k) = powerView s := by
  unfold devCount
  split
  · rfl
  · exact powerView_bump (by unfold offPower A.DEV_CNT; omega) ..

@[simp] theorem powerView_denyWith (k : Key) (remote train : Bool) (unit : BitVec 32) (addr perm table code : Nat) :
    powerView (denyWith s k remote train unit addr perm table code) = powerView s := by
  obtain ⟨det, a, h⟩ := denyWith_eq s k remote train unit addr perm table code
  have hcount : powerView (denialCounted s unit code det) = powerView s :=
    (powerView_bump (by unfold offPower; decide) ..).trans (powerView_report ..)
  have hrecord : ∀ u v x, powerView (denialRecorded u v x) = powerView u := fun u v x =>
    (powerView_setR (by unfold offPower; decide) ..).trans (powerView_setR (by unfold offPower; decide) ..)
  rw [h]
  dsimp only
  split
  · exact (powerView_wr (by unfold offPower; decide) ..).trans hcount
  · exact (powerView_raiseIf ..).trans ((hrecord ..).trans hcount)

/-! ### Wake requests -/

theorem rd_wr_apart {f g : Fld} (h : g.mask &&& f.mask = 0) (o p x : Nat) : rd (wr s o f x) p g = rd s p g := by
  by_cases he : p = o
  · rw [he, rd_wr_fld_ne h]
  · exact rd_wr_reg_ne he s f g x

/-- A field of PWR_STATUS apart from the watched ones may change. -/
theorem powerView_wr_apart {f : Fld} (o x : Nat)
    (h : ∀ g ∈ F.PWR_STATUS_STATE :: F.PWR_CTL_TARGET :: F.PWR_THERM_STATUS_TRIPPED :: stepFlags, g.mask &&& f.mask = 0) :
    powerView (wr s o f x) = powerView s := by
  simp only [List.forall_mem_cons] at h
  obtain ⟨hstate, htarget, htrip, hflags⟩ := h
  have hfield : ∀ g : Fin 64, (pwrState (wr s o f x) g, pwrTarget (wr s o f x) g, stepFlags.map (rd (wr s o f x) (A.PWR_STATUS g)))
      = (pwrState s g, pwrTarget s g, stepFlags.map (rd s (A.PWR_STATUS g))) := fun g => by
    rw [pwrState, rd_wr_apart s hstate, pwrTarget, rd_wr_apart s htarget,
      List.map_congr_left fun k hk => rd_wr_apart s (hflags k hk) o (A.PWR_STATUS g) x, pwrState, pwrTarget]
  rw [powerView, powerView, funext hfield, tripped, rdB, rd_wr_apart s htrip, tripped, rdB]
  rfl

@[simp] theorem powerView_wakeReq (f : Nat) : powerView (wakeReq s f) = powerView s := by
  unfold wakeReq
  split
  · exact powerView_wr_apart s _ _ (by decide)
  · rfl

/-! ### Answers -/

@[simp] theorem powerView_answer (ep n : Nat) (st : Status) (data : List Byte) : powerView (answer s ep n st data) = powerView s := by
  rw [answer_frame]
  exact powerView_of_regs rfl rfl

@[simp] theorem powerView_answerDown (ep n : Nat) : powerView (answerDown s ep n) = powerView s :=
  (powerView_devCount ..).trans (powerView_answer ..)

@[simp] theorem powerView_mirrorDone (ep : Nat) (f : Flit) : powerView (mirrorDone s ep f) = powerView s := powerView_pushOut ..

@[simp] theorem powerView_releaseHeld (i n : Nat) (st : Status) : powerView (releaseHeld s i n st) = powerView s := by
  unfold releaseHeld
  refine (powerView_setQ ..).trans (foldl_keeps powerView (fun s h => ?_) _ s)
  split <;> simp

@[simp] theorem powerView_releaseField (f : Nat) (st : Status) : powerView (releaseField s f st) = powerView s := by
  unfold releaseField
  refine foldl_keeps powerView (fun s i => ?_) _ s
  refine foldl_keeps powerView (fun s n => ?_) _ s
  exact powerView_releaseHeld ..

@[simp] theorem powerView_sweepDown (f : Nat) : powerView (sweepDown s f) = powerView s := by
  unfold sweepDown
  refine foldl_keeps powerView (fun s x => ?_) _ s
  exact powerView_answerDown ..

@[simp] theorem powerView_wakeHeld (f : Nat) : powerView (wakeHeld s f) = powerView s := by
  unfold wakeHeld
  split
  · exact powerView_wakeReq ..
  · rfl

/-! ### Runs of train commands -/

@[simp] theorem powerView_setRing (r : Nat) (x : RingSt) : powerView (setRing s r x) = powerView s := by
  have hoff : offPower (A.RING_STATUS r) := by unfold offPower A.RING_STATUS; omega
  exact (powerView_wr hoff ..).trans ((powerView_wr hoff ..).trans (powerView_of_regs rfl rfl))

@[simp] theorem powerView_descDone (r id : Nat) (st : Status) (bytes aux : Nat) :
    powerView (descDone s r id st bytes aux) = powerView s := by
  unfold descDone
  dsimp only
  split
  · rfl
  · split <;> exact powerView_setRing ..

@[simp] theorem powerView_sendFabric (dev : BitVec 16) (f : Flit) : powerView (sendFabric s dev f) = powerView s := by
  unfold sendFabric
  split
  · rfl
  · split
    · exact powerView_queueOut ..
    · exact (powerView_report ..).trans (powerView_bump (by unfold offPower; decide) ..)

@[simp] theorem powerView_expAnswer (x dev : Nat) (st : Status) (bits : Nat) : powerView (expAnswer s x dev st bits) = powerView s := by
  unfold expAnswer
  split
  · exact powerView_of_regs rfl rfl
  · rfl

@[simp] theorem powerView_treeDone (c : TreeCmd) (st : Status) (aux : Nat) : powerView (treeDone s c st aux) = powerView s := by
  unfold treeDone
  split
  · exact powerView_descDone ..
  · rfl
  · split
    · rfl
    · exact powerView_sendFabric ..
  · exact powerView_expAnswer ..
  · rfl

@[simp] theorem powerView_tellRefused (c : TreeCmd) (st : Status) (table : Bool) :
    powerView (tellRefused s c st table) = powerView s := by
  unfold tellRefused
  dsimp only
  split
  · rfl
  · split
    · exact powerView_report ..
    · exact (powerView_report ..).trans (powerView_useFree s)

@[simp] theorem powerView_treeRefuse (c : TreeCmd) (st : Status) (table : Bool) :
    powerView (treeRefuse s c st table) = powerView s :=
  (powerView_treeDone ..).trans (powerView_tellRefused ..)

@[simp] theorem powerView_refuseCmd (c : TreeCmd) (st : Status) (code table : Nat) :
    powerView (refuseCmd s c st code table) = powerView s := by
  unfold refuseCmd
  split
  · exact (powerView_treeRefuse ..).trans (powerView_denyWith ..)
  · exact powerView_treeRefuse ..

@[simp] theorem powerView_rootStart (id : Nat) (r : TreeRun) : powerView (rootStart s id r) = powerView s := by
  unfold rootStart
  split
  · exact (powerView_refuseCmd ..).trans (powerView_setRun ..)
  · dsimp only
    split
    · exact powerView_setRun ..
    · exact (foldl_keeps powerView (fun s f => powerView_wakeReq s f) _ _).trans (powerView_setRun ..)

@[simp] theorem powerView_rootScan : powerView (rootScan s) = powerView s := by
  refine foldl_keeps powerView (fun s id => ?_) _ s
  split
  · split
    · exact powerView_rootStart ..
    · rfl
  · rfl

@[simp] theorem powerView_endRun (id : Nat) (st : Status) (aux : Nat) : powerView (endRun s id st aux) = powerView s := by
  unfold endRun
  split
  · rfl
  · exact (powerView_rootScan _).trans ((powerView_treeDone ..).trans (powerView_setRun ..))

@[simp] theorem powerView_checkRun (id : Nat) : powerView (checkRun s id) = powerView s := by
  unfold checkRun
  split
  · rfl
  · split
    · exact powerView_endRun ..
    · rfl

/-- A run that changes and is then checked for its end. -/
theorem powerView_changeRun (id : Nat) (r : Option TreeRun) : powerView (checkRun (setRun s id r) id) = powerView s :=
  (powerView_checkRun ..).trans (powerView_setRun ..)

@[simp] theorem powerView_powerReached (f : Nat) : powerView (powerReached s f) = powerView s := by
  refine foldl_keeps powerView (fun s x => ?_) _ s
  split
  · exact powerView_changeRun ..
  · rfl

@[simp] theorem powerView_powerFail (f : Nat) (st : Status) (p : TreeCmd → Bool) : powerView (powerFail s f st p) = powerView s := by
  refine foldl_keeps powerView (fun s x => ?_) _ s
  split
  · exact powerView_changeRun ..
  · rfl

@[simp] theorem powerView_dropInjects (f : Nat) : powerView (dropInjects s f) = powerView s := by
  refine foldl_keeps powerView (fun s x => ?_) _ s
  split
  · exact powerView_changeRun ..
  · rfl

/-! ### Mirrors -/

@[simp] theorem powerView_setMi (m : Nat) (x : MirrorSt) : powerView (setMi s m x) = powerView s :=
  (powerView_wr (by unfold offPower A.MIRROR_STATE; omega) ..).trans (powerView_of_regs rfl rfl)

@[simp] theorem powerView_yMark (i y : Nat) (stale : Bool) : powerView (yMark s i y stale) = powerView s := powerView_setT ..

@[simp] theorem powerView_staleIn (f m l : Nat) : powerView (staleIn s f m l) = powerView s := by
  unfold staleIn
  refine foldl_keeps powerView (fun s x => ?_) _ s
  exact powerView_yMark ..

@[simp] theorem powerView_onUser (i : Nat) (g : Tile → Tile) : powerView (onUser s i g) = powerView s := by
  unfold onUser
  split
  · split
    · exact powerView_of_regs rfl rfl
    · rfl
  · exact powerView_setT ..

@[simp] theorem powerView_epochIn (f m : Nat) : powerView (epochIn s f m) = powerView s := by
  unfold epochIn
  dsimp only
  split
  · rfl
  · refine foldl_keeps powerView (fun s i => ?_) _ s
    split_ifs <;> simp

@[simp] theorem powerView_applyRecorded (f : Nat) : powerView (applyRecorded s f) = powerView s := by
  unfold applyRecorded
  dsimp only
  refine (powerView_setAgent ..).trans ((foldl_keeps powerView (fun s m => ?_) _ _).trans (foldl_keeps powerView (fun s k => ?_) _ s))
  · split <;> simp
  · split <;> simp

@[simp] theorem powerView_dropFills (f : Nat) (p : FillOwner → Bool) : powerView (dropFills s f p) = powerView s :=
  foldl_keeps powerView (fun s i => powerView_setT s i _) _ s

@[simp] theorem powerView_endFills (f : Nat) : powerView (endFills s f) = powerView s := by
  refine (foldl_keeps powerView (fun s y => ?_) _ _).trans (powerView_dropFills s f _)
  split
  · exact (powerView_mirrorDone ..).trans (powerView_setAgent ..)
  · exact powerView_setAgent ..

@[simp] theorem powerView_mirrorsCleared (f : Nat) : powerView (mirrorsCleared s f) = powerView s := by
  refine foldl_keeps powerView (fun s m => ?_) _ s
  dsimp only
  refine (foldl_keeps powerView (fun s l => powerView_staleIn s f m l) _ _).trans ?_
  split <;> simp

/-! ### Tiles of a field -/

@[simp] theorem powerView_mapField (f : Nat) (g : Nat → Tile → Tile) : powerView (mapField s f g) = powerView s :=
  foldl_keeps powerView (fun s i => powerView_setT s i _) _ s

@[simp] theorem powerView_resetOwners (f : Nat) : powerView (resetOwners s f) = powerView s := by
  unfold resetOwners
  refine foldl_keeps powerView (fun s i => ?_) _ s
  unfold ownerDefault loadNetWait
  dsimp only
  rw [powerView_setB, powerView_setB]

theorem powerView_clearField (f : Nat) : powerView (clearField s f) = powerView s := by
  unfold clearField
  exact (powerView_mirrorsCleared ..).trans ((powerView_resetOwners ..).trans ((powerView_mapField ..).trans (powerView_of_regs rfl rfl)))

theorem powerView_sinkAdd (own sd n : Nat) : powerView (sinkAdd s own sd n) = powerView s := powerView_setT ..

theorem powerView_dumpSide (own sd : Nat) : powerView (dumpSide s own sd) = powerView s := by
  refine foldl_keeps powerView (fun s k => ?_) _ s
  dsimp only
  split
  · exact (powerView_sinkAdd ..).trans (powerView_setT ..)
  · rfl

@[simp] theorem powerView_engageField (f : Nat) :
    powerView (engageField s f) = powerView (setFS s f { getFS s f with engaged := true }) := by
  refine foldl_keeps powerView (fun s i => foldl_keeps powerView (fun s sd => ?_) _ s) _ _
  split
  · exact powerView_dumpSide ..
  · rfl

theorem powerView_borrowed (l : List Nat) : powerView { s with borrowed := l } = powerView s := powerView_of_regs rfl rfl

theorem powerView_saved (l : SMap (Option Tile)) : powerView { s with saved := l } = powerView s := powerView_of_regs rfl rfl

theorem powerView_endBorrow (p : Nat) : powerView (endBorrow s p) = powerView s := by
  unfold endBorrow
  dsimp only
  rw [powerView_borrowed]
  refine foldl_keeps powerView (fun s i => ?_) (patchTiles p) s
  split
  · exact (powerView_saved ..).trans (powerView_setT ..)
  · rfl

theorem powerView_fieldReset (f : Nat) : powerView (fieldReset s f) = powerView s := by
  unfold fieldReset
  dsimp only
  rw [powerView_report, powerView_dropInjects, powerView_resetOwners, powerView_mapField]
  refine (foldl_keeps powerView (fun s x => ?_) _ _).trans (foldl_keeps powerView (fun s p => ?_) _ s)
  · exact powerView_answer ..
  · exact powerView_endBorrow s p

end

end Sys2Proof.Proofs
end

section
/-! PROOFS. The moves of the power controller (spec 13 R499 to R501, R505, R511, R516). -/

namespace Sys2Proof.Proofs

open Machine Laws Claims

/-! ### What a step does to the watched part -/

section
variable {s t u : State}

theorem powerView_field (h : powerView t = powerView s) (f : Fin 64) : pwrState t f = pwrState s f ∧ pwrTarget t f = pwrTarget s f
    ∧ stepFlags.map (rd t (A.PWR_STATUS f)) = stepFlags.map (rd s (A.PWR_STATUS f)) := by
  rw [powerView, powerView] at h
  have hf := congrFun (congrArg Prod.fst h) f
  exact ⟨congrArg Prod.fst hf, congrArg (fun x => x.2.1) hf, congrArg (fun x => x.2.2) hf⟩

theorem tripped_of_powerView (h : powerView t = powerView s) : tripped t = tripped s := by
  rw [powerView, powerView] at h
  exact congrArg (fun x => x.2.1) h

theorem getFS_of_powerView (h : powerView t = powerView s) (f : Nat) : getFS t f = getFS s f := by
  rw [powerView, powerView] at h
  exact congrArg (fun x => smGet {} x.2.2 f) h

/-- From `s` to `t` only field `f` may have changed its state, which is now `st`, and its TARGET. -/
structure PowerMove (s t : State) (f : Fin 64) (st : Nat) : Prop where
  state : pwrState t f = st
  others : othersKeep s t f
  trip : tripped t = tripped s

/-- The field's TARGET and flags are as they were, too. -/
structure PowerStep (s t : State) (f : Fin 64) (st : Nat) : Prop extends PowerMove s t f st where
  target : pwrTarget t f = pwrTarget s f
  flags : ∀ k ∈ stepFlags, rd t (A.PWR_STATUS f) k = rd s (A.PWR_STATUS f) k

variable {f : Fin 64}

theorem PowerMove.trans {a b : Nat} (h : PowerMove s t f a) (k : PowerMove t u f b) : PowerMove s u f b where
  state := k.state
  others g hg := ⟨(k.others g hg).1.trans (h.others g hg).1, (k.others g hg).2.trans (h.others g hg).2⟩
  trip := k.trip.trans h.trip

theorem PowerStep.trans {a b : Nat} (h : PowerStep s t f a) (k : PowerStep t u f b) : PowerStep s u f b where
  toPowerMove := h.toPowerMove.trans k.toPowerMove
  target := k.target.trans h.target
  flags x hx := (k.flags x hx).trans (h.flags x hx)

theorem powerStep_of_view (h : powerView t = powerView s) : PowerStep s t f (pwrState s f) where
  state := (powerView_field h f).1
  others g _ := ⟨(powerView_field h g).1, (powerView_field h g).2.1⟩
  trip := tripped_of_powerView h
  target := (powerView_field h f).2.1
  flags x hx := List.map_inj_left.1 (powerView_field h f).2.2 x hx

/-- A step followed by what the power controller does not watch. -/
theorem PowerStep.then {a : Nat} (h : PowerStep s t f a) (hv : powerView u = powerView t) : PowerStep s u f a :=
  h.trans (h.state ▸ powerStep_of_view hv)

/-- What the power controller does not watch, followed by a step. -/
theorem PowerStep.after {a : Nat} (k : PowerStep t u f a) (hv : powerView t = powerView s) : PowerStep s u f a :=
  (powerStep_of_view hv).trans k

end

/-! ### The moves -/

section
variable (s : State) (f : Fin 64)

theorem powerStep_setFS (x : FieldSt) : PowerStep s (setFS s f x) f (pwrState s f) :=
  ⟨⟨rfl, fun _ _ => ⟨rfl, rfl⟩, rfl⟩, rfl, fun _ _ => rfl⟩

theorem pwrCtl_ne_pwrStatus (f g : Nat) : A.PWR_CTL g ≠ A.PWR_STATUS f := by
  unfold A.PWR_CTL A.PWR_STATUS
  omega

/-- A write of PWR_STATUS of one field that leaves its state. -/
theorem powerMove_wr_status {k : Fld} (x : Nat) (hstate : F.PWR_STATUS_STATE.mask &&& k.mask = 0)
    (htrip : F.PWR_THERM_STATUS_TRIPPED.mask &&& k.mask = 0) : PowerMove s (wr s (A.PWR_STATUS f) k x) f (pwrState s f) where
  state := rd_wr_apart s hstate ..
  others _ _ := ⟨rd_wr_apart s hstate .., rd_wr_reg_ne (pwrCtl_ne_pwrStatus _ _) ..⟩
  trip := congrArg (· == 1) (rd_wr_apart s htrip ..)

theorem powerStep_wr_state {st : Nat} (h : st < 16) : PowerStep s (wr s (A.PWR_STATUS f) F.PWR_STATUS_STATE st) f st where
  state := (rd_wr_same (by decide) ..).trans (Nat.mod_eq_of_lt h)
  others g hg := ⟨rd_wr_reg_ne (pwrStatus_ne (Fin.val_ne_of_ne hg)) .., rd_wr_reg_ne (pwrCtl_ne_pwrStatus _ _) ..⟩
  trip := congrArg (· == 1) (rd_wr_apart s (by decide) ..)
  target := rd_wr_apart s (by decide) ..
  flags x hx := rd_wr_fld_ne ((by decide : ∀ k ∈ stepFlags, k.mask &&& F.PWR_STATUS_STATE.mask = 0) x hx) ..

theorem powerMove_wr_target (x : Nat) : PowerMove s (wr s (A.PWR_CTL f) F.PWR_CTL_TARGET x) f (pwrState s f) where
  state := rd_wr_apart s (by decide) ..
  others g hg := ⟨rd_wr_reg_ne (pwrCtl_ne_pwrStatus _ _).symm .., rd_wr_reg_ne (by unfold A.PWR_CTL; omega) ..⟩
  trip := congrArg (· == 1) (rd_wr_apart s (by decide) ..)

theorem powerView_recode (f : Nat) : powerView (recode s f) = powerView s :=
  powerView_wr (by unfold offPower A.PWR_CLK; omega) ..

theorem PowerStep.setFS {s t : State} {f : Fin 64} {a : Nat} (h : PowerStep s t f a) (x : FieldSt) :
    PowerStep s (Machine.setFS t f x) f a := h.trans (h.state ▸ powerStep_setFS t f x)

/-- A field takes a state. -/
theorem powerStep_setPwr {st : Nat} (h : st < 16) : PowerStep s (setPwr s f st) f st := by
  unfold setPwr
  dsimp only
  refine PowerStep.then ?_ (powerView_recode ..)
  split
  · exact (((powerStep_wr_state s f h).then (powerView_wr_apart _ _ _ (by decide))).then (powerView_wr_apart _ _ _ (by decide))).setFS _
  · exact (powerStep_wr_state s f h).then (powerView_wr_apart _ _ _ (by decide))

theorem powerStep_enterOn : PowerStep s (enterOn s f) f 0 :=
  ((powerStep_setPwr _ f (by decide)).after (powerView_applyRecorded s f)).then (powerView_powerReached ..)

/-- A field that loses its words and its share in injections under way (spec 13 R501). -/
def lostField (s : State) (f : Nat) : State := dropInjects (mapField (setPwr s f 6) f (fun _ t => loseTile t)) f

theorem enterOff_eq (s : State) (f : Nat) : enterOff s f = { lostField s f with load := (enterOff s f).load } := by
  unfold enterOff lostField
  dsimp only
  split <;> rfl

theorem powerStep_enterOff : PowerStep s (enterOff s f) f 6 := by
  have hlost : PowerStep s (lostField s f) f 6 :=
    ((powerStep_setPwr s f (by decide)).then (powerView_mapField ..)).then (powerView_dropInjects ..)
  rw [enterOff_eq]
  exact hlost.then (powerView_of_regs rfl rfl)

theorem powerStep_beginWake (from_ : Nat) : PowerStep s (beginWake s f from_) f 7 := by
  unfold beginWake
  dsimp only
  have h := ((powerStep_setFS s f { getFS s f with wakeFrom := from_ }).then (powerView_wr_apart _ (A.PWR_STATUS f)
    ((rd (setFS s f { getFS s f with wakeFrom := from_ }) (A.PWR_STATUS f) F.PWR_STATUS_WAKES + 1) % 2 ^ 32)
    (f := F.PWR_STATUS_WAKES) (by decide))).then (powerView_wr_apart _ (A.PWR_STATUS f) 0 (f := F.PWR_STATUS_WAKE_PENDING) (by decide))
  exact h.trans (powerStep_setPwr _ f (by decide))

/-- The field has noted what it is heading for. -/
def headed (s : State) (f : Nat) : State := setFS s f { getFS s f with heading := pwrTarget s f, isoDone := false }

/-- The field is in ISOLATING, its bridle cells still as they were. -/
def isolated (s : State) (f : Nat) : State := setPwr (endFills (headed s f) f) f 3

theorem powerView_beginIso (f : Nat) :
    powerView (beginIso s f) = powerView (setFS (isolated s f) f { getFS (isolated s f) f with engaged := true }) :=
  (powerView_wakeHeld ..).trans ((powerView_sweepDown ..).trans ((powerView_releaseField ..).trans (powerView_engageField ..)))

theorem powerStep_beginIso : PowerStep s (beginIso s f) f 3 := by
  have hheaded : PowerStep s (headed s f) f (pwrState s f) := powerStep_setFS ..
  have hiso : PowerStep (headed s f) (isolated s f) f 3 := (powerStep_setPwr _ f (by decide)).after (powerView_endFills ..)
  exact ((hheaded.trans hiso).setFS _).then (powerView_beginIso s f)

/-- Of what a field keeps outside registers, a state touches the burner alone. -/
theorem getFS_setPwr (f st : Nat) : ∃ b, getFS (setPwr s f st) f = { getFS s f with burner := b } := by
  unfold setPwr
  dsimp only
  rw [getFS_of_powerView (powerView_recode ..)]
  split
  · rw [getFS_setFS_same]
    exact ⟨true, rfl⟩
  · exact ⟨(getFS s f).burner, rfl⟩

theorem getFS_beginIso (f : Nat) : (getFS (beginIso s f) f).engaged = true ∧ (getFS (beginIso s f) f).heading = pwrTarget s f := by
  rw [getFS_of_powerView (powerView_beginIso s f), getFS_setFS_same]
  obtain ⟨b, hb⟩ := getFS_setPwr (endFills (headed s f) f) f 3
  refine ⟨rfl, ?_⟩
  dsimp only
  rw [isolated, hb, getFS_of_powerView (powerView_endFills ..), headed, getFS_setFS_same]

/-- What a field that stays down does with the requests that it holds: they ask it to wake, or are answered (spec 13 R504). -/
def heldTold (s : State) (f : Nat) : State :=
  let held := fieldIngress s f (fun _ => true)
  if rdB s (A.PWR_CTL f) F.PWR_CTL_POLICY then (if held = [] then s else wakeReq s f)
  else held.foldl (fun s x => answerDown s x.1 x.2) s

/-- The supply of a field that goes down again after its wake. -/
def downAgain (s : State) (f : Nat) : State := if pwrTarget s f = 2 then setPwr s f 5 else enterOff s f

/-- The end of a wake, by TARGET (spec 13 R499). -/
theorem wakeEnd_eq (s : State) (f : Nat) : wakeEnd s f =
    if pwrTarget s f = 0 then enterOn s f
    else if pwrTarget s f = 1 then powerReached (sweepDown (setPwr s f 4) f) f
    else powerReached (wakeHeld (heldTold (downAgain s f) f) f) f := rfl

theorem powerView_heldTold (f : Nat) : powerView (heldTold s f) = powerView s := by
  unfold heldTold
  dsimp only
  split
  · split
    · rfl
    · exact powerView_wakeReq ..
  · refine foldl_keeps powerView (fun s x => ?_) _ s
    exact powerView_answerDown ..

theorem powerStep_downAgain : PowerStep s (downAgain s f) f (if pwrTarget s f = 2 then 5 else 6) := by
  unfold downAgain
  split
  · exact powerStep_setPwr s f (by decide)
  · exact powerStep_enterOff s f

/-- The end of a wake is in the state of TARGET. -/
theorem powerStep_wakeEnd : PowerStep s (wakeEnd s f) f (wokenTo (pwrTarget s f)) := by
  rw [wakeEnd_eq, wokenTo]
  by_cases h0 : pwrTarget s f = 0
  · rw [if_pos h0, if_pos h0]
    exact powerStep_enterOn s f
  rw [if_neg h0, if_neg h0]
  by_cases h1 : pwrTarget s f = 1
  · rw [if_pos h1, if_pos h1]
    exact ((powerStep_setPwr s f (by decide)).then (powerView_sweepDown ..)).then (powerView_powerReached ..)
  rw [if_neg h1, if_neg h1]
  exact (powerStep_downAgain s f).then ((powerView_powerReached ..).trans ((powerView_wakeHeld ..).trans (powerView_heldTold ..)))

/-! ### A restart while the supply went down -/

/-- A field whose TARGET has become ON again begins to start (spec 13 R499). -/
theorem powerStep_seekTarget {a : Nat} (ha : (pwrState s f = 4 ∧ a = 0) ∨ ((pwrState s f = 5 ∨ pwrState s f = 6) ∧ a = 7))
    (htrip : tripped s = false) (htarget : pwrTarget s f = 0) : PowerStep s (seekTarget s f) f a := by
  unfold seekTarget
  dsimp only
  rw [htrip, htarget, if_neg (by decide)]
  rcases ha with ⟨hst, rfl⟩ | ⟨hst | hst, rfl⟩ <;> rw [hst]
  · exact powerStep_enterOn s f
  · exact powerStep_beginWake s f 5
  · exact powerStep_beginWake s f 6

theorem powerStep_restMerged_rests (h : pwrTarget s f ≠ 0) : PowerStep s (restMerged s f) f (pwrState s f) := by
  have hreached : PowerStep s (powerReached s f) f (pwrState s f) := powerStep_of_view (powerView_powerReached ..)
  unfold restMerged
  dsimp only
  rw [if_neg (hreached.target ▸ h)]
  exact hreached

/-- A field that has rested and is to start again begins to, and flags it. -/
theorem restMerged_starts {a : Nat} (ha : (pwrState s f = 4 ∧ a = 0) ∨ ((pwrState s f = 5 ∨ pwrState s f = 6) ∧ a = 7))
    (htrip : tripped s = false) (htarget : pwrTarget s f = 0) :
    pwrState (restMerged s f) f = a ∧ othersKeep s (restMerged s f) f
      ∧ rd (restMerged s f) (A.PWR_STATUS f) F.PWR_STATUS_RESTART_MERGED = 1 := by
  have hreached : PowerStep s (powerReached s f) f (pwrState s f) := powerStep_of_view (powerView_powerReached ..)
  let u := wr (powerReached s f) (A.PWR_STATUS f) F.PWR_STATUS_RESTART_MERGED 1
  let v := report u 204 (unitField u f) 0x103 (detail [(f.val, 1), (pwrState u f, 1)])
  have hmerged : restMerged s f = powerReached (seekTarget v f) f := by
    unfold restMerged
    dsimp only
    rw [if_pos (hreached.target.trans htarget)]
  have hu : PowerMove s u f (pwrState s f) := hreached.state ▸ hreached.toPowerMove.trans
    (powerMove_wr_status (k := F.PWR_STATUS_RESTART_MERGED) _ f 1 (by decide) (by decide))
  have hv : PowerStep u v f (pwrState u f) := powerStep_of_view (powerView_report ..)
  have htarget' : pwrTarget v f = 0 := hv.target.trans ((rd_wr_reg_ne (pwrCtl_ne_pwrStatus _ _) ..).trans (hreached.target.trans htarget))
  have hseek : PowerStep v (seekTarget v f) f a :=
    powerStep_seekTarget v f (by rwa [hv.state, hu.state]) ((hv.trip.trans hu.trip).trans htrip) htarget'
  have hend : PowerStep u (restMerged s f) f a := hmerged ▸ (hv.trans hseek).then (powerView_powerReached ..)
  exact ⟨hend.state, (hu.trans hend.toPowerMove).others, (hend.flags _ (by decide)).trans (rd_wr_same (by decide) ..)⟩

end

end Sys2Proof.Proofs
end

section
/-! PROOFS. DRAIN_END, DRAIN_LIMIT, ISOLATING and RETAIN_ENTRY (spec 13 R499, R500, R505). -/

namespace Sys2Proof.Proofs

open Machine Laws Claims

section
variable (s : State) (f : Fin 64)

theorem drainEnd_isolates (hst : pwrState s f = 2) (htrip : tripped s = false) (hdrained : fieldDrained s f = true)
    (hold : fieldIngress s f (fun g => g.old) = []) (hmirror : mirrorHolds s f = false)
    (hruns : (runList s).any (fun x => x.2.acted && x.2.here.contains f.val) = false) :
    ∃ t : State, exec (.drainEnd f) s = .next t ∧ pwrState t f = 3 ∧ engaged t f = true ∧ (getFS t f).heading = pwrTarget s f
      ∧ othersKeep s t f := by
  have heq : opDrainEnd f s = beginIso s f := by
    unfold opDrainEnd
    rw [htrip, hmirror, hruns]
    exact if_pos ⟨hst, rfl, hdrained, hold, rfl, rfl⟩
  obtain ⟨hengaged, hheading⟩ := getFS_beginIso s f
  have hiso := powerStep_beginIso s f
  exact ⟨_, congrArg Host.Outcome.next heq, hiso.state, hengaged, hheading, hiso.others⟩

theorem drainLimit_cancels (hst : pwrState s f = 2) (htrip : tripped s = false) (htarget : pwrTarget s f = 1) :
    ∃ t : State, exec (.drainLimit f) s = .next t ∧ pwrState t f = 0 ∧ pwrTarget t f = 0
      ∧ rd t (A.PWR_STATUS f) F.PWR_STATUS_DRAIN_CANCELLED = 1 ∧ othersKeep s t f := by
  let a := applyRecorded (powerFail s f .timeout (fun c => powerCode c == 1)) f
  let b := wr a (A.PWR_CTL f) F.PWR_CTL_TARGET 0
  let c := wr (setPwr b f 0) (A.PWR_STATUS f) F.PWR_STATUS_DRAIN_CANCELLED 1
  let told := report c 204 (unitField c f) 0x104 (detail [(f.val, 1)])
  let d := powerReached (powerFail told f .aborted (fun c => decide (powerCode c ≠ 0))) f
  have heq : opDrainLimit f s = d := by
    unfold opDrainLimit
    rw [if_neg (by rw [hst, htrip]; decide), if_pos (by rw [htarget])]
  have ha : PowerStep s a f (pwrState s f) := powerStep_of_view ((powerView_applyRecorded ..).trans (powerView_powerFail ..))
  have hb : PowerMove a b f (pwrState a f) := powerMove_wr_target a f 0
  have hpwr : PowerStep b (setPwr b f 0) f 0 := powerStep_setPwr b f (by decide)
  have hc : PowerMove (setPwr b f 0) c f (pwrState (setPwr b f 0) f) := powerMove_wr_status _ f 1 (by decide) (by decide)
  have hd : PowerStep c d f (pwrState c f) :=
    powerStep_of_view ((powerView_powerReached ..).trans ((powerView_powerFail ..).trans (powerView_report ..)))
  refine ⟨_, congrArg Host.Outcome.next heq, hd.state.trans (hc.state.trans hpwr.state), ?_, ?_, ?_⟩
  · have hset : pwrTarget b f = 0 := rd_wr_same (by decide) ..
    have hflag : pwrTarget c f = pwrTarget (setPwr b f 0) f := rd_wr_reg_ne (pwrCtl_ne_pwrStatus _ _) ..
    exact hd.target.trans (hflag.trans (hpwr.target.trans hset))
  · exact (hd.flags _ (by decide)).trans (rd_wr_same (by decide) ..)
  · exact ((((ha.toPowerMove.trans hb).trans hpwr.toPowerMove).trans hc).trans hd.toPowerMove).others

theorem drainLimit_forces (hst : pwrState s f = 2) (htrip : tripped s = false) (htarget : 2 ≤ pwrTarget s f)
    (hmirror : mirrorHolds s f = false) :
    ∃ t : State, exec (.drainLimit f) s = .next t ∧ pwrState t f = 3 ∧ pwrTarget t f = pwrTarget s f
      ∧ rd t (A.PWR_STATUS f) F.PWR_STATUS_DRAIN_FORCED = 1 ∧ engaged t f = true ∧ othersKeep s t f := by
  let a := (fieldIngress s f (fun g => g.old)).foldl (fun s x => answer s x.1 x.2 .aborted []) s
  let b := wr a (A.PWR_STATUS f) F.PWR_STATUS_DRAIN_FORCED 1
  let c := report b 204 (unitField b f) 0x101 (detail [(f.val, 1), (pwrTarget s f, 1)])
  have heq : opDrainLimit f s = beginIso c f := by
    unfold opDrainLimit
    rw [if_neg (by rw [hst, htrip]; decide), if_neg (by omega), hmirror]
    rfl
  have ha : PowerStep s a f (pwrState s f) := by
    refine powerStep_of_view (foldl_keeps powerView (fun s x => ?_) _ s)
    exact powerView_answer ..
  have hb : PowerMove a b f (pwrState a f) := powerMove_wr_status a f 1 (by decide) (by decide)
  have hiso : PowerStep b (beginIso c f) f 3 := (powerStep_beginIso c f).after (powerView_report ..)
  have htarget' : pwrTarget b f = pwrTarget a f := rd_wr_reg_ne (pwrCtl_ne_pwrStatus _ _) ..
  exact ⟨_, congrArg Host.Outcome.next heq, hiso.state, hiso.target.trans (htarget'.trans ha.target),
    (hiso.flags _ (by decide)).trans (rd_wr_same (by decide) ..), (getFS_beginIso c f).1,
    ((ha.toPowerMove.trans hb).trans hiso.toPowerMove).others⟩

/-! ### The rest states -/

/-- A field takes state `st`, in which it rests unless its TARGET has become ON (spec 13 R499). -/
theorem restMerged_of_rest {r : State} {st a : Nat} (hr : PowerStep s r f st) (htrip : tripped s = false)
    (ha : (st = 4 ∧ a = 0) ∨ ((st = 5 ∨ st = 6) ∧ a = 7)) :
    othersKeep s (restMerged r f) f ∧ (pwrTarget s f ≠ 0 → pwrState (restMerged r f) f = st)
      ∧ (pwrTarget s f = 0 → pwrState (restMerged r f) f = a
          ∧ rd (restMerged r f) (A.PWR_STATUS f) F.PWR_STATUS_RESTART_MERGED = 1) := by
  by_cases htarget : pwrTarget s f = 0
  · obtain ⟨hstate, hothers, hflag⟩ :=
      restMerged_starts r f (by rwa [hr.state]) (hr.trip.trans htrip) (hr.target.trans htarget)
    refine ⟨fun g hg => ⟨(hothers g hg).1.trans (hr.others g hg).1, (hothers g hg).2.trans (hr.others g hg).2⟩,
      fun h => absurd htarget h, fun _ => ⟨hstate, hflag⟩⟩
  · have hrest := hr.trans (powerStep_restMerged_rests r f (hr.target ▸ htarget))
    exact ⟨hrest.others, fun _ => hrest.state.trans hr.state, fun h => absurd h htarget⟩

theorem isolating_rests (hst : pwrState s f = 3) (htrip : tripped s = false) (hheading : (getFS s f).heading ≤ 1) :
    ∃ t : State, exec (.isolating f) s = .next t ∧ othersKeep s t f
      ∧ (pwrTarget s f ≠ 0 → pwrState t f = 4)
      ∧ (pwrTarget s f = 0 → pwrState t f = 0 ∧ rd t (A.PWR_STATUS f) F.PWR_STATUS_RESTART_MERGED = 1) := by
  have heq : opIsolating f s = restMerged (setFS (setPwr s f 4) f { getFS s f with isoDone := false }) f := by
    unfold opIsolating
    rw [if_neg (by rw [hst, htrip]; simp; omega), if_pos hheading]
  exact ⟨_, congrArg Host.Outcome.next heq,
    restMerged_of_rest s f ((powerStep_setPwr s f (by decide)).setFS _) htrip (.inl ⟨rfl, rfl⟩)⟩

theorem isolating_leaves_supply (hst : pwrState s f = 3) (htrip : tripped s = false) (hheading : 2 ≤ (getFS s f).heading)
    (hiso : (getFS s f).isoDone = false) :
    ∃ t : State, exec (.isolating f) s = .next t ∧ t = setFS s f { getFS s f with isoDone := true }
      ∧ goingTo t f (getFS s f).heading = true := by
  have heq : opIsolating f s = setFS s f { getFS s f with isoDone := true } := by
    unfold opIsolating
    rw [if_neg (by rw [hst, htrip, hiso]; simp), if_neg (by omega)]
  refine ⟨_, congrArg Host.Outcome.next heq, rfl, ?_⟩
  have hstate : pwrState (setFS s f { getFS s f with isoDone := true }) f = 3 := hst
  unfold goingTo
  rw [hstate, getFS_setFS_same]
  simp

theorem retainEntry_rests (hgoing : goingTo s f 2 = true) (htrip : tripped s = false) :
    ∃ t : State, exec (.retainEntry f) s = .next t ∧ othersKeep s t f
      ∧ (pwrTarget s f ≠ 0 → pwrState t f = 5)
      ∧ (pwrTarget s f = 0 → pwrState t f = 7 ∧ rd t (A.PWR_STATUS f) F.PWR_STATUS_RESTART_MERGED = 1) := by
  have heq : opRetainEntry f s = restMerged (setFS (setPwr s f 5) f { getFS s f with isoDone := false }) f := by
    unfold opRetainEntry
    rw [if_pos ⟨hgoing, by rw [htrip]; rfl⟩]
  exact ⟨_, congrArg Host.Outcome.next heq,
    restMerged_of_rest s f ((powerStep_setPwr s f (by decide)).setFS _) htrip (.inr ⟨.inl rfl, rfl⟩)⟩

end

/-! ### Under a trip -/

/-- A field goes nowhere without supply (spec 13 R511). -/
theorem steps_of_tripped (s : State) (f : Fin 64) (htrip : tripped s = true) :
    ∀ c ∈ [Instr.drainEnd f, .drainLimit f, .isolating f, .retainEntry f, .offEntry f, .waking f, .clearing f],
      exec c s = .next s := by
  have hdrain : opDrainEnd f s = s := if_neg (by rw [htrip]; simp)
  have hlimit : opDrainLimit f s = s := if_pos (.inr htrip)
  have hiso : opIsolating f s = s := if_pos (.inr (.inl htrip))
  have hretain : opRetainEntry f s = s := if_neg (by rw [htrip]; simp)
  have hoff : opOffEntry f s = s := if_neg (by rw [htrip]; simp)
  have hwaking : opWaking f s = s := if_pos (.inr htrip)
  have hclearing : opClearing f s = s := if_pos (.inr htrip)
  simp only [List.forall_mem_cons]
  exact ⟨congrArg Host.Outcome.next hdrain, congrArg Host.Outcome.next hlimit, congrArg Host.Outcome.next hiso,
    congrArg Host.Outcome.next hretain, congrArg Host.Outcome.next hoff, congrArg Host.Outcome.next hwaking,
    congrArg Host.Outcome.next hclearing, List.forall_mem_nil _⟩

end Sys2Proof.Proofs
end

section
/-! PROOFS. What the steps of the power controller leave of the tiles of a field (spec 13 R500, R501, R516). -/

namespace Sys2Proof.Proofs

open Machine Laws Claims

/-! ### One change on every tile of a field -/

theorem smGet_of_unlisted {V : Type} {d : V} {m : SMap V} {k : Nat} (h : k ∉ m.map Prod.fst) : smGet d m k = d := by
  induction m with
  | nil => rfl
  | cons x m ih =>
    rw [List.map_cons, List.mem_cons, not_or] at h
    rw [smGet, if_neg h.1, ih h.2]

section
variable {s : State} {f i : Nat} {g : Nat → Tile → Tile}

/-- A tile is changed once for each place at which the list names it. -/
theorem getT_foldl_setT (l : List Nat) (s : State) :
    getT (l.foldl (fun s j => setT s j (g j (getT s j))) s) i = (g i)^[l.count i] (getT s i) := by
  induction l generalizing s with
  | nil => rfl
  | cons j l ih =>
    rw [List.foldl_cons, ih]
    by_cases h : i = j
    · rw [h, getT_setT_same, List.count_cons_self, Function.iterate_succ_apply]
    · rw [getT_setT_ne _ _ _ _ h, List.count_cons_of_ne (Ne.symm h)]

/-- What holds of a tile and is kept by the change holds of it afterwards. -/
theorem getT_mapField_induct {P : Tile → Prop} (h : P (getT s i)) (hg : ∀ t, P t → P (g i t)) : P (getT (mapField s f g) i) := by
  rw [mapField, getT_foldl_setT]
  generalize List.count i _ = n
  induction n with
  | zero => exact h
  | succ n ih =>
    rw [Function.iterate_succ_apply']
    exact hg _ ih

theorem getT_mapField_keeps {β : Type} {v : Tile → β} (hg : ∀ t, v (g i t) = v t) : v (getT (mapField s f g) i) = v (getT s i) :=
  getT_mapField_induct (P := fun t => v t = v (getT s i)) rfl fun t ht => (hg t).trans ht

/-- What the change establishes holds of every tile of the field, when it holds of a tile as at reset. -/
theorem getT_mapField_holds {P : Tile → Prop} (hi : tileField i = f) (hreset : P (Tile.factory i)) (hg : ∀ t, P (g i t)) :
    P (getT (mapField s f g) i) := by
  by_cases hlisted : i ∈ s.tiles.map Prod.fst
  · have hmem : i ∈ listedTiles s (fun i => tileField i == f) := List.mem_filter.2 ⟨hlisted, by simp [hi]⟩
    obtain ⟨n, hn⟩ := Nat.exists_eq_succ_of_ne_zero (List.count_pos_iff.2 hmem).ne'
    rw [mapField, getT_foldl_setT, hn, Function.iterate_succ_apply']
    exact hg _
  · exact getT_mapField_induct (by rwa [getT, smGet_of_unlisted hlisted]) fun t _ => hg t

theorem getT_mapField_ne (hi : tileField i ≠ f) : getT (mapField s f g) i = getT s i := by
  have hmem : i ∉ listedTiles s (fun i => tileField i == f) := fun h => hi (by simpa using (List.mem_filter.1 h).2)
  rw [mapField, getT_foldl_setT, List.count_eq_zero.2 hmem]
  rfl

end

/-! ### Operations that touch no tile -/

section
variable (s : State)

theorem setPwr_tiles (f st : Nat) : (setPwr s f st).tiles = s.tiles := by
  unfold setPwr
  dsimp only
  split <;> rfl

theorem checkRun_setRun_tiles (id : Nat) (r : Option TreeRun) : (checkRun (setRun s id r) id).tiles = s.tiles :=
  (startsOnly_checkRun ..).tiles

theorem powerReached_tiles (f : Nat) : (powerReached s f).tiles = s.tiles := by
  refine foldl_keeps State.tiles (fun s x => ?_) _ s
  split
  · exact checkRun_setRun_tiles ..
  · rfl

theorem dropInjects_tiles (f : Nat) : (dropInjects s f).tiles = s.tiles := by
  refine foldl_keeps State.tiles (fun s x => ?_) _ s
  split
  · exact checkRun_setRun_tiles ..
  · rfl

theorem answer_tiles (ep n : Nat) (st : Status) (data : List Byte) : (answer s ep n st data).tiles = s.tiles := by rw [answer_frame]

theorem answerDown_tiles (ep n : Nat) : (answerDown s ep n).tiles = s.tiles := (devCount_tiles ..).trans (answer_tiles ..)

theorem sweepDown_tiles (f : Nat) : (sweepDown s f).tiles = s.tiles := by
  refine foldl_keeps State.tiles (fun s x => ?_) _ s
  exact answerDown_tiles ..

theorem wakeHeld_tiles (f : Nat) : (wakeHeld s f).tiles = s.tiles := by
  unfold wakeHeld
  split
  · exact wakeReq_tiles ..
  · rfl

theorem heldTold_tiles (f : Nat) : (heldTold s f).tiles = s.tiles := by
  unfold heldTold
  dsimp only
  split
  · split
    · rfl
    · exact wakeReq_tiles ..
  · refine foldl_keeps State.tiles (fun s x => ?_) _ s
    exact answerDown_tiles ..

theorem beginWake_tiles (f from_ : Nat) : (beginWake s f from_).tiles = s.tiles := setPwr_tiles ..

/-- A field without supply begins its wake without a change of its tiles. -/
theorem seekTarget_tiles {f : Nat} (h : pwrState s f = 6) : (seekTarget s f).tiles = s.tiles := by
  unfold seekTarget
  dsimp only
  rw [h]
  split
  · rfl
  · show (if pwrTarget s f ≤ 2 then beginWake s f 6 else s).tiles = s.tiles
    split
    · exact beginWake_tiles ..
    · rfl

theorem restMerged_tiles {f : Fin 64} (h : pwrState s f = 6) : (restMerged s f).tiles = s.tiles := by
  have hreached := powerStep_of_view (f := f) (powerView_powerReached s f)
  let u := wr (powerReached s f) (A.PWR_STATUS f) F.PWR_STATUS_RESTART_MERGED 1
  let v := report u 204 (unitField u f) 0x103 (detail [(f.val, 1), (pwrState u f, 1)])
  have hv : pwrState v f = 6 := by
    have hflag : pwrState u f = pwrState (powerReached s f) f := (powerMove_wr_status _ f 1 (by decide) (by decide)).state
    exact (powerStep_of_view (f := f) (powerView_report u ..)).state.trans (hflag.trans (hreached.state.trans h))
  unfold restMerged
  dsimp only
  split
  · exact (powerReached_tiles ..).trans ((seekTarget_tiles v hv).trans ((report_tiles ..).trans (powerReached_tiles ..)))
  · exact powerReached_tiles ..

theorem enterOff_tiles (f : Nat) : (enterOff s f).tiles = (mapField (setPwr s f 6) f (fun _ t => loseTile t)).tiles := by
  rw [enterOff_eq]
  exact dropInjects_tiles ..

end

/-! ### OFF_ENTRY -/

section
variable (s : State) (f : Fin 64)

/-- A tile whose words in transit are lost (spec 13 R501). -/
def Emptied (t : Tile) : Prop := t.latches = [] ∧ t.pipe = [] ∧ t.treePort = none

theorem offEntry_rests (hgoing : goingTo s f 3 = true) (htrip : tripped s = false) :
    ∃ t : State, exec (.offEntry f) s = .next t ∧ othersKeep s t f ∧ t.mem = s.mem
      ∧ (pwrTarget s f ≠ 0 → pwrState t f = 6) ∧ (pwrTarget s f = 0 → pwrState t f = 7)
      ∧ (∀ i : TileIx, tileField i = f.val → (getT t i).latches = [] ∧ (getT t i).pipe = [] ∧ (getT t i).treePort = none
          ∧ (getT t i).slots = (getT s i).slots ∧ (getT t i).static = (getT s i).static)
      ∧ (∀ i : TileIx, tileField i ≠ f.val → getT t i = getT s i) := by
  let r := setFS (enterOff s f) f { getFS s f with isoDone := false }
  have heq : opOffEntry f s = restMerged r f := by
    unfold opOffEntry
    exact if_pos ⟨hgoing, by rw [htrip]; rfl⟩
  have hr : PowerStep s r f 6 := (powerStep_enterOff s f).setFS _
  obtain ⟨hothers, hrest, hstart⟩ := restMerged_of_rest s f hr htrip (.inr ⟨.inr rfl, rfl⟩)
  have htiles : ∀ i : Nat, getT (restMerged r f) i = getT (mapField (setPwr s f 6) f (fun _ t => loseTile t)) i := fun i =>
    getT_congr ((restMerged_tiles r hr.state).trans (enterOff_tiles ..)) i
  have hbefore : ∀ i : Nat, getT (setPwr s f 6) i = getT s i := fun i => getT_congr (setPwr_tiles ..) i
  refine ⟨_, congrArg Host.Outcome.next heq, hothers, heq ▸ mem_of_queueMem (queueMem_opOffEntry ..), hrest,
    fun h => (hstart h).1, fun i hi => ?_, fun i hi => ?_⟩
  · have hlost : Emptied (getT (mapField (setPwr s f 6) f (fun _ t => loseTile t)) i) :=
      getT_mapField_holds hi ⟨rfl, rfl, rfl⟩ fun t => ⟨rfl, rfl, rfl⟩
    obtain ⟨hlatches, hpipe, hport⟩ := hlost
    rw [htiles]
    refine ⟨hlatches, hpipe, hport, ?_, ?_⟩
    · rw [getT_mapField_keeps (v := Tile.slots) fun t => rfl, hbefore]
    · rw [getT_mapField_keeps (v := Tile.static) fun t => rfl, hbefore]
  · rw [htiles, getT_mapField_ne hi, hbefore]

theorem waking_ends (hst : pwrState s f = 7) (htrip : tripped s = false) :
    ∃ t : State, exec (.waking f) s = .next t ∧ othersKeep s t f ∧ t.mem = s.mem
      ∧ pwrState t f = (if (getFS s f).wakeFrom = 5 then wokenTo (pwrTarget s f) else 8) := by
  have heq : opWaking f s = if (getFS s f).wakeFrom = 5 then wakeEnd s f else setPwr s f 8 := by
    unfold opWaking
    exact if_neg (by rw [hst, htrip]; decide)
  have hmove : PowerStep s (opWaking f s) f (if (getFS s f).wakeFrom = 5 then wokenTo (pwrTarget s f) else 8) := by
    rw [heq]
    split
    · exact powerStep_wakeEnd s f
    · exact powerStep_setPwr s f (by decide)
  exact ⟨_, rfl, hmove.others, mem_of_queueMem (queueMem_opWaking ..), hmove.state⟩

end

end Sys2Proof.Proofs
end

section
/-! PROOFS. CLEARING and FIELD_RESET (spec 13 R500, R501, R516), and O31. -/

namespace Sys2Proof.Proofs

open Machine Laws Claims

/-! ### What a reset writes and keeps of a tile -/

/-- What the fill of a mirror line or an owner's change leaves of a tile. -/
def programPart (t : Tile) : Fin 16 × SMap SWord × List Latch × List Flight × Option TreeCmd × Bool :=
  (t.cur, t.lreg, t.latches, t.pipe, t.treePort, t.arm)

/-- The frames of a tile and the counts of its sinks. -/
def framePart (t : Tile) : SMap Frame × Frame × SMap Word := (t.slots, t.static, t.sinkCnt)

/-- A tile at rest in context C0, without a word in its registers or on its way. -/
def AtRest (t : Tile) : Prop := programPart t = (0, [], [], [], none, false)

theorem atRest_factory (i : Nat) : AtRest (Tile.factory i) := rfl

theorem parts_agSet (t : Tile) (k : Nat) (v : Reg) :
    (programPart (agSet t k v), framePart (agSet t k v)) = (programPart t, framePart t) := rfl

theorem parts_loadGens (t : Tile) : (programPart (loadGens t), framePart (loadGens t)) = (programPart t, framePart t) := by
  unfold loadGens
  refine foldl_keeps (fun t => (programPart t, framePart t)) (fun t k => ?_) _ t
  exact parts_agSet ..

theorem atRest_resetTile (s : State) (keepGw : Bool) (i : Nat) (t : Tile) : AtRest (resetTile s keepGw i t) := by
  unfold resetTile
  dsimp only
  split
  · exact congrArg Prod.fst (parts_loadGens _)
  · rfl

theorem framePart_resetTile (s : State) (keepGw : Bool) (i : Nat) (t : Tile) : framePart (resetTile s keepGw i t) = framePart t := by
  unfold resetTile
  dsimp only
  split
  · exact congrArg Prod.snd (parts_loadGens _)
  · rfl

theorem atRest_loseTile {t : Tile} (h : AtRest t) : AtRest (loseTile t) := by
  simp only [AtRest, programPart, Prod.mk.injEq] at h ⊢
  obtain ⟨hcur, hlreg, -, -, -, harm⟩ := h
  exact ⟨hcur, hlreg, rfl, rfl, rfl, harm⟩

/-! ### Operations that keep both -/

/-- Program and frames of a tile. -/
def tileParts (s : State) (i : Nat) :
    (Fin 16 × SMap SWord × List Latch × List Flight × Option TreeCmd × Bool) × SMap Frame × Frame × SMap Word :=
  (programPart (getT s i), framePart (getT s i))

section
variable (s : State) (i : Nat)

theorem tileParts_congr {s t : State} (h : t.tiles = s.tiles) (i : Nat) : tileParts t i = tileParts s i := by
  rw [tileParts, tileParts, getT_congr h]

theorem tileParts_setT {j : Nat} {t : Tile} (h : (programPart t, framePart t) = tileParts s j) :
    tileParts (setT s j t) i = tileParts s i := by
  by_cases hij : i = j
  · rw [tileParts, hij, getT_setT_same, h]
  · rw [tileParts, tileParts, getT_setT_ne _ _ _ _ hij]

theorem tileParts_setB (j : Nat) (g : BPart → BPart) : tileParts (setB s j g) i = tileParts s i := tileParts_setT s i (by rfl)

theorem tileParts_yMark (j y : Nat) (stale : Bool) : tileParts (yMark s j y stale) i = tileParts s i := tileParts_setT s i (by rfl)

theorem tileParts_staleIn (f m l : Nat) : tileParts (staleIn s f m l) i = tileParts s i := by
  refine foldl_keeps (fun s => tileParts s i) (fun s x => ?_) _ s
  exact tileParts_yMark ..

theorem tileParts_onUser (j : Nat) {g : Tile → Tile} (hg : ∀ t, (programPart (g t), framePart (g t)) = (programPart t, framePart t)) :
    tileParts (onUser s j g) i = tileParts s i := by
  unfold onUser
  split
  · split
    · exact tileParts_congr rfl i
    · rfl
  · exact tileParts_setT s i (hg _)

theorem tileParts_epochIn (f m : Nat) : tileParts (epochIn s f m) i = tileParts s i := by
  unfold epochIn
  dsimp only
  split
  · rfl
  · refine foldl_keeps (fun s => tileParts s i) (fun s j => ?_) _ s
    split
    · exact tileParts_onUser s i j fun _ => rfl
    · split
      · exact tileParts_onUser s i j fun _ => rfl
      · rfl

theorem tileParts_applyRecorded (f : Nat) : tileParts (applyRecorded s f) i = tileParts s i := by
  unfold applyRecorded
  dsimp only
  refine (tileParts_congr (setAgent_tiles ..) i).trans ((foldl_keeps (fun s => tileParts s i) (fun s m => ?_) _ _).trans
    (foldl_keeps (fun s => tileParts s i) (fun s k => ?_) _ s))
  · split
    · exact tileParts_epochIn ..
    · rfl
  · split
    · exact tileParts_staleIn ..
    · rfl

theorem tileParts_resetOwners (f : Nat) : tileParts (resetOwners s f) i = tileParts s i := by
  unfold resetOwners
  refine foldl_keeps (fun s => tileParts s i) (fun s j => ?_) _ s
  unfold ownerDefault loadNetWait
  dsimp only
  rw [tileParts_setB, tileParts_setB]

theorem tileParts_mirrorsCleared (f : Nat) : tileParts (mirrorsCleared s f) i = tileParts s i := by
  refine foldl_keeps (fun s => tileParts s i) (fun s m => ?_) _ s
  dsimp only
  refine (foldl_keeps (fun s => tileParts s i) (fun s l => ?_) _ _).trans ?_
  · exact tileParts_staleIn ..
  · split
    · exact tileParts_congr rfl i
    · rfl

/-- Tile `i` is at rest in `t` if it is in `s`, and has the frames that it has there. -/
def StaysAtRest (s t : State) (i : Nat) : Prop :=
  AtRest (getT s i) → AtRest (getT t i) ∧ framePart (getT t i) = framePart (getT s i)

theorem staysAtRest_of_parts {s t : State} {i : Nat} (h : tileParts t i = tileParts s i) : StaysAtRest s t i := fun hrest =>
  ⟨(congrArg Prod.fst h).trans hrest, congrArg Prod.snd h⟩

theorem staysAtRest_of_tiles {s t : State} {i : Nat} (h : t.tiles = s.tiles) : StaysAtRest s t i :=
  staysAtRest_of_parts (tileParts_congr h i)

theorem StaysAtRest.trans {s t u : State} {i : Nat} (h : StaysAtRest s t i) (k : StaysAtRest t u i) : StaysAtRest s u i := fun hrest =>
  have ht := h hrest
  have hu := k ht.1
  ⟨hu.1, hu.2.trans ht.2⟩

theorem staysAtRest_enterOn (f : Nat) : StaysAtRest s (enterOn s f) i :=
  (staysAtRest_of_parts (tileParts_applyRecorded ..)).trans (staysAtRest_of_tiles ((powerReached_tiles ..).trans (setPwr_tiles ..)))

theorem staysAtRest_downAgain (f : Nat) : StaysAtRest s (downAgain s f) i := by
  unfold downAgain
  split
  · exact staysAtRest_of_tiles (setPwr_tiles ..)
  · refine (staysAtRest_of_tiles (setPwr_tiles s f 6)).trans fun hrest => ?_
    rw [getT_congr (enterOff_tiles s f)]
    exact getT_mapField_induct (P := fun t => AtRest t ∧ framePart t = framePart (getT (setPwr s f 6) i)) ⟨hrest, rfl⟩
      fun t ht => ⟨atRest_loseTile ht.1, ht.2⟩

/-- The end of a wake leaves a tile at rest at rest, with its frames. -/
theorem staysAtRest_wakeEnd (f : Nat) : StaysAtRest s (wakeEnd s f) i := by
  rw [wakeEnd_eq]
  split
  · exact staysAtRest_enterOn s i f
  · split
    · exact staysAtRest_of_tiles ((powerReached_tiles ..).trans ((sweepDown_tiles ..).trans (setPwr_tiles ..)))
    · exact (staysAtRest_downAgain s i f).trans
        (staysAtRest_of_tiles ((powerReached_tiles ..).trans ((wakeHeld_tiles ..).trans (heldTold_tiles ..))))

end

/-! ### CLEARING -/

section
variable (s : State) (f : Fin 64)

theorem smGet_filter_drop (d : Byte) (m : SMap Byte) (p : Nat → Bool) (k : Nat) (h : p k = false) :
    smGet d (m.filter fun c => p c.1) k = d := by
  refine smGet_of_unlisted fun hk => ?_
  obtain ⟨c, hc, rfl⟩ := List.mem_map.1 hk
  exact absurd (h.symm.trans (List.mem_filter.1 hc).2) Bool.false_ne_true

/-- The field's memory, errors and tags are gone. -/
def wipedField (s : State) (f : Nat) : State :=
  let lo := tileBase (256 * f)
  let n := 256 * 65536
  let out := fun (k d : Nat) => decide (k * d < lo ∨ lo + n ≤ k * d)
  { memZero s lo n with
    eccErr := s.eccErr.filter (fun x => out x.1 8), xyBad := s.xyBad.filter (fun x => out x.1 4)
    tagStore := s.tagStore.filter (fun x => decide (x.1 / 4096 / 256 ≠ f))
    tagBad := s.tagBad.filter (fun x => decide (x.1 / 4096 / 256 ≠ f)) }

theorem clearField_eq (s : State) (f : Nat) :
    clearField s f = mirrorsCleared (resetOwners (mapField (wipedField s f) f (resetTile s false)) f) f := rfl

theorem clearField_mem (s : State) (f : Nat) : (clearField s f).mem = (memZero s (tileBase (256 * f)) (256 * 65536)).mem := by
  rw [clearField_eq]
  refine (mem_of_queueMem ?_).trans (rfl : (wipedField s f).mem = _)
  rw [queueMem_mirrorsCleared, queueMem_resetOwners, queueMem_mapField]

theorem memGet_clearField_in (a : Nat) (h : a / 2 ^ 24 = f.val) : memGet (clearField s f) a = 0 := by
  rw [memGet, clearField_mem]
  exact smGet_filter_drop 0 s.mem (fun a => decide (a < tileBase (256 * f) ∨ tileBase (256 * f) + 256 * 65536 ≤ a)) a
    (decide_eq_false (by unfold tileBase; omega))

theorem memGet_clearField_out (a : Nat) (h : a / 2 ^ 24 ≠ f.val) : memGet (clearField s f) a = memGet s a := by
  rw [memGet, clearField_mem]
  exact smGet_filter_keep 0 s.mem (fun a => decide (a < tileBase (256 * f) ∨ tileBase (256 * f) + 256 * 65536 ≤ a)) a
    (decide_eq_true (by unfold tileBase; omega))

/-- Every tile of a cleared field is at rest, with the frames that it had. -/
theorem atRest_clearField {i : Nat} (hi : tileField i = f.val) :
    AtRest (getT (clearField s f) i) ∧ framePart (getT (clearField s f) i) = framePart (getT s i) := by
  have hparts : tileParts (clearField s f) i = tileParts (mapField (wipedField s f) f (resetTile s false)) i := by
    rw [clearField_eq, tileParts_mirrorsCleared, tileParts_resetOwners]
  have hrest : AtRest (getT (mapField (wipedField s f) f (resetTile s false)) i) :=
    getT_mapField_holds hi (atRest_factory i) (atRest_resetTile s false i)
  have hframes : framePart (getT (mapField (wipedField s f) f (resetTile s false)) i) = framePart (getT s i) :=
    getT_mapField_keeps (v := framePart) (framePart_resetTile s false i)
  exact ⟨(congrArg Prod.fst hparts).trans hrest, (congrArg Prod.snd hparts).trans hframes⟩

theorem clearing_ends (hst : pwrState s f = 8) (htrip : tripped s = false) :
    ∃ t : State, exec (.clearing f) s = .next t ∧ othersKeep s t f ∧ pwrState t f = wokenTo (pwrTarget s f)
      ∧ (∀ a : Nat, a / 2 ^ 24 = f.val → memGet t a = 0) ∧ (∀ a : Nat, a / 2 ^ 24 ≠ f.val → memGet t a = memGet s a)
      ∧ (∀ i : TileIx, tileField i = f.val → (getT t i).cur = 0 ∧ (getT t i).lreg = [] ∧ (getT t i).latches = []
          ∧ (getT t i).arm = false ∧ (getT t i).slots = (getT s i).slots ∧ (getT t i).static = (getT s i).static) := by
  have heq : opClearing f s = wakeEnd (clearField s f) f := by
    unfold opClearing
    exact if_neg (by rw [hst, htrip]; decide)
  have hclear : PowerStep s (clearField s f) f (pwrState s f) := powerStep_of_view (powerView_clearField s f)
  have hend := hclear.trans (powerStep_wakeEnd (clearField s f) f)
  have hmem : ∀ a, memGet (wakeEnd (clearField s f) f) a = memGet (clearField s f) a :=
    memGet_congr (mem_of_queueMem (queueMem_wakeEnd (clearField s f) f))
  refine ⟨_, congrArg Host.Outcome.next heq, hend.others, hclear.target ▸ hend.state,
    fun a ha => (hmem a).trans (memGet_clearField_in s f a ha), fun a ha => (hmem a).trans (memGet_clearField_out s f a ha),
    fun i hi => ?_⟩
  obtain ⟨hrest, hframes⟩ := atRest_clearField s f hi
  obtain ⟨hrest', hframes'⟩ := staysAtRest_wakeEnd (clearField s f) i f hrest
  simp only [AtRest, programPart, framePart, Prod.mk.injEq] at hrest' hframes hframes'
  obtain ⟨hcur, hlreg, hlatches, -, -, harm⟩ := hrest'
  exact ⟨hcur, hlreg, hlatches, harm, hframes'.1.trans hframes.1, hframes'.2.1.trans hframes.2.1⟩

end

/-! ### FIELD_RESET -/

/-- What the end of a borrow keeps of a tile: its static frame, the counts of its sinks, and the frames of slots 0 to 14. -/
def unborrowed (t : Tile) : Frame × SMap Word × (Fin 15 → Frame) := (t.static, t.sinkCnt, fun k => smGet 0 t.slots k)

theorem unborrowed_settleAll (t : Tile) : unborrowed (settleAll t) = unborrowed t := by
  unfold settleAll
  refine foldl_keeps unborrowed (fun t e => ?_) _ t
  unfold settleEnd
  dsimp only
  split <;> rfl

theorem unborrowed_restoreTile (i : Nat) (t u : Tile) : unborrowed (restoreTile i t u) = unborrowed t := by
  unfold restoreTile
  rw [unborrowed_settleAll]
  refine congrArg (fun x => (t.static, t.sinkCnt, x)) (funext fun k => ?_)
  exact smGet_smSet_ne _ _ _ _ _ _ (by have := k.isLt; omega)

theorem foldl_keeps_of_mem {α σ β : Type} (p : σ → β) {f : σ → α → σ} (l : List α) (h : ∀ s, ∀ x ∈ l, p (f s x) = p s)
    (s : σ) : p (l.foldl f s) = p s := by
  induction l generalizing s with
  | nil => rfl
  | cons x l ih => rw [List.foldl_cons, ih fun s y hy => h s y (List.mem_cons_of_mem _ hy), h s x List.mem_cons_self]

section
variable (s : State) (i : Nat)

/-- One tile of a patch whose borrow ends gets its save set back. -/
def restoreSaved (s : State) (i : Nat) : State :=
  match smGet none s.saved i with
  | some u => { setT s i (restoreTile i (getT s i) u) with saved := smSet none s.saved i none }
  | none => s

theorem endBorrow_tiles (p : Nat) : (endBorrow s p).tiles = ((patchTiles p).foldl restoreSaved s).tiles := by
  unfold endBorrow
  generalize patchTiles p = l
  rfl

theorem getT_saved (l : SMap (Option Tile)) : getT { s with saved := l } i = getT s i := rfl

theorem unborrowed_restoreSaved (j : Nat) : unborrowed (getT (restoreSaved s j) i) = unborrowed (getT s i) := by
  unfold restoreSaved
  split
  · rw [getT_saved]
    by_cases hij : i = j
    · rw [hij, getT_setT_same, unborrowed_restoreTile]
    · rw [getT_setT_ne _ _ _ _ hij]
  · rfl

theorem getT_restoreSaved_ne {j : Nat} (h : i ≠ j) : getT (restoreSaved s j) i = getT s i := by
  unfold restoreSaved
  split
  · rw [getT_saved, getT_setT_ne _ _ _ _ h]
  · rfl

theorem unborrowed_endBorrow (p : Nat) : unborrowed (getT (endBorrow s p) i) = unborrowed (getT s i) := by
  rw [getT_congr (endBorrow_tiles s p)]
  exact foldl_keeps (fun s => unborrowed (getT s i)) (fun s j => unborrowed_restoreSaved s i j) _ s

theorem tilePatch_of_mem_patchTiles {p j : Nat} (h : j ∈ patchTiles p) : tilePatch j = p := by
  obtain ⟨k, hk, rfl⟩ := List.mem_map.1 h
  have := List.mem_range.1 hk
  unfold tilePatch
  omega

theorem getT_endBorrow_ne {p : Nat} (h : tilePatch i ≠ p) : getT (endBorrow s p) i = getT s i := by
  rw [getT_congr (endBorrow_tiles s p)]
  exact foldl_keeps_of_mem (fun s => getT s i) _
    (fun s j hj => getT_restoreSaved_ne s i fun e => h (e ▸ tilePatch_of_mem_patchTiles hj)) s

theorem getT_resetOwners_ne {f : Nat} (h : tileField i ≠ f) : getT (resetOwners s f) i = getT s i := by
  unfold resetOwners
  refine foldl_keeps_of_mem (fun s => getT s i) _ (fun s j hj => ?_) s
  have hfield : tileField j = f := (mem_fieldTiles f j).1 (List.mem_filter.1 hj).1
  have hij : i ≠ j := fun e => h (e ▸ hfield)
  unfold ownerDefault loadNetWait setB
  dsimp only
  rw [getT_setT_ne _ _ _ _ hij, getT_setT_ne _ _ _ _ hij]

/-- A field whose patches are given back and whose requests are answered, before its tiles are reset. -/
def givenBack (s : State) (f : Nat) : State :=
  let u := (lentPatches s f).foldl endBorrow s
  (fieldIngress u f (fun _ => true)).foldl (fun s x => answer s x.1 x.2 .aborted []) u

theorem fieldReset_tiles (f : Nat) :
    (fieldReset s f).tiles = (resetOwners (mapField (givenBack s f) f (resetTile (givenBack s f) true)) f).tiles :=
  (report_tiles ..).trans (dropInjects_tiles ..)

theorem givenBack_tiles (f : Nat) : (givenBack s f).tiles = ((lentPatches s f).foldl endBorrow s).tiles := by
  unfold givenBack
  dsimp only
  refine foldl_keeps State.tiles (fun s x => ?_) _ _
  exact answer_tiles ..

theorem unborrowed_givenBack (f : Nat) : unborrowed (getT (givenBack s f) i) = unborrowed (getT s i) := by
  rw [getT_congr (givenBack_tiles s f)]
  exact foldl_keeps (fun s => unborrowed (getT s i)) (fun s p => unborrowed_endBorrow s i p) _ s

theorem getT_givenBack_ne {f : Nat} (h : tileField i ≠ f) : getT (givenBack s f) i = getT s i := by
  rw [getT_congr (givenBack_tiles s f)]
  refine foldl_keeps_of_mem (fun s => getT s i) _ (fun s p hp => getT_endBorrow_ne s i fun e => h ?_) s
  have hpf : p / 16 = f := by simpa using (List.mem_filter.1 hp).2
  unfold tileField
  unfold tilePatch at e
  omega

theorem getT_fieldReset_ne {f : Nat} (h : tileField i ≠ f) : getT (fieldReset s f) i = getT s i := by
  rw [getT_congr (fieldReset_tiles s f), getT_resetOwners_ne _ _ h, getT_mapField_ne h, getT_givenBack_ne s i h]

/-- The tiles of a reset field are at rest; frames of slots 0 to 14, static frames and sink counts stay. -/
theorem atRest_fieldReset {f : Nat} (h : tileField i = f) :
    AtRest (getT (fieldReset s f) i) ∧ unborrowed (getT (fieldReset s f) i) = unborrowed (getT s i) := by
  let m := mapField (givenBack s f) f (resetTile (givenBack s f) true)
  have hparts : tileParts (fieldReset s f) i = tileParts m i :=
    (tileParts_congr (fieldReset_tiles s f) i).trans (tileParts_resetOwners ..)
  have hrest : AtRest (getT m i) := getT_mapField_holds h (atRest_factory i) (atRest_resetTile _ true i)
  have hframes : framePart (getT m i) = framePart (getT (givenBack s f) i) :=
    getT_mapField_keeps (v := framePart) (framePart_resetTile _ true i)
  have hkept : framePart (getT (fieldReset s f) i) = framePart (getT (givenBack s f) i) := (congrArg Prod.snd hparts).trans hframes
  refine ⟨(congrArg Prod.fst hparts).trans hrest, ?_⟩
  rw [← unborrowed_givenBack s i f]
  exact congrArg (fun x : SMap Frame × Frame × SMap Word => (x.2.1, x.2.2, fun k : Fin 15 => smGet 0 x.1 k)) hkept

end

section
variable (s : State) (f : Fin 64) (v : Reg)

/-- The register fields that a write of PWR_CTL stores, apart from TARGET. -/
def pwrCtlWritten (s : State) (f : Nat) (v : Reg) : State :=
  setR s (A.PWR_CTL f) (writeFlds true [F.PWR_CTL_DRAIN_LIMIT, F.PWR_CTL_AUTO_IDLE, F.PWR_CTL_POLICY] (getR s (A.PWR_CTL f)) v)

theorem pwrTarget_pwrCtlWritten : pwrTarget (pwrCtlWritten s f v) f = pwrTarget s f := by
  rw [pwrTarget, rd, pwrCtlWritten, getR_setR_same, writeFlds_rw (by decide), getFld_mergeMask_out (by decide)]
  rfl

theorem powerMove_pwrCtlWritten : PowerMove s (pwrCtlWritten s f v) f (pwrState s f) where
  state := rd_of_getR (getR_setR_ne _ _ _ _ (pwrCtl_ne_pwrStatus _ _).symm) _
  others g hg := ⟨rd_of_getR (getR_setR_ne _ _ _ _ (pwrCtl_ne_pwrStatus _ _).symm) _,
    rd_of_getR (getR_setR_ne _ _ _ _ (by unfold A.PWR_CTL; omega)) _⟩
  trip := congrArg (· == 1) (rd_of_getR (getR_setR_ne _ _ _ _ (by unfold A.PWR_CTL A.PWR_THERM_STATUS; omega)) _)

/-- A write of PWR_CTL with FRESET that leaves TARGET as it is. -/
theorem writePwrCtl_reset (hfreset : getFld v F.PWR_CTL_FRESET = 1) (htarget : getFld v F.PWR_CTL_TARGET = pwrTarget s f) :
    writePwrCtl s f v = if pwrState s f ≤ 1 then fieldReset (pwrCtlWritten s f v) f
      else wr (pwrCtlWritten s f v) (A.PWR_STATUS f) F.PWR_STATUS_FRESET_IGNORED 1 := by
  have hsame : setTarget (pwrCtlWritten s f v) f (getFld v F.PWR_CTL_TARGET) = pwrCtlWritten s f v :=
    if_pos (.inr ((pwrTarget_pwrCtlWritten s f v).trans htarget.symm))
  have hwrite : writePwrCtl s f v = if getFld v F.PWR_CTL_FRESET ≠ 1 then setTarget (pwrCtlWritten s f v) f (getFld v F.PWR_CTL_TARGET)
      else if pwrState (setTarget (pwrCtlWritten s f v) f (getFld v F.PWR_CTL_TARGET)) f ≤ 1 then
        fieldReset (setTarget (pwrCtlWritten s f v) f (getFld v F.PWR_CTL_TARGET)) f
      else wr (setTarget (pwrCtlWritten s f v) f (getFld v F.PWR_CTL_TARGET)) (A.PWR_STATUS f) F.PWR_STATUS_FRESET_IGNORED 1 := rfl
  rw [hwrite, hsame, if_neg (not_not.2 hfreset), (powerMove_pwrCtlWritten s f v).state]

theorem exec_fieldReset {s : State} (ha : s.asleep = false) (hd : s.defaultsDue = false) :
    exec (.fieldReset f v) s = .next (writePwrCtl s f v) := congrArg Host.Outcome.next (hostAccess_awake ha hd _)

theorem fieldReset_resets (ha : s.asleep = false) (hd : s.defaultsDue = false) (hfreset : getFld v F.PWR_CTL_FRESET = 1)
    (htarget : getFld v F.PWR_CTL_TARGET = pwrTarget s f) (hst : pwrState s f ≤ 1) :
    ∃ t : State, exec (.fieldReset f v) s = .next t ∧ pwrState t f = pwrState s f ∧ othersKeep s t f ∧ t.mem = s.mem
      ∧ (∀ i : TileIx, tileField i = f.val → (getT t i).cur = 0 ∧ (getT t i).lreg = [] ∧ (getT t i).latches = []
          ∧ (getT t i).pipe = [] ∧ (getT t i).treePort = none ∧ (getT t i).arm = false
          ∧ (getT t i).static = (getT s i).static ∧ (getT t i).sinkCnt = (getT s i).sinkCnt
          ∧ (∀ k : Fin 15, smGet 0 (getT t i).slots k = smGet 0 (getT s i).slots k))
      ∧ (∀ i : TileIx, tileField i ≠ f.val → getT t i = getT s i) := by
  have heq : writePwrCtl s f v = fieldReset (pwrCtlWritten s f v) f := (writePwrCtl_reset s f v hfreset htarget).trans (if_pos hst)
  have hreset : PowerStep (pwrCtlWritten s f v) (fieldReset (pwrCtlWritten s f v) f) f (pwrState (pwrCtlWritten s f v) f) :=
    powerStep_of_view (powerView_fieldReset ..)
  have hmove := (powerMove_pwrCtlWritten s f v).trans hreset.toPowerMove
  have hmem : queueMem (writePwrCtl s f v) = queueMem s := queueMem_opFieldReset f v s
  refine ⟨_, (exec_fieldReset f v ha hd).trans (congrArg Host.Outcome.next heq),
    hmove.state.trans (powerMove_pwrCtlWritten s f v).state, hmove.others, heq ▸ mem_of_queueMem hmem, fun i hi => ?_, fun i hi => ?_⟩
  · obtain ⟨hrest, hkept⟩ := atRest_fieldReset (pwrCtlWritten s f v) i hi
    simp only [AtRest, programPart, unborrowed, Prod.mk.injEq] at hrest hkept
    obtain ⟨hcur, hlreg, hlatches, hpipe, hport, harm⟩ := hrest
    obtain ⟨hstatic, hsink, hslots⟩ := hkept
    exact ⟨hcur, hlreg, hlatches, hpipe, hport, harm, hstatic, hsink, fun k => congrFun hslots k⟩
  · exact getT_fieldReset_ne (pwrCtlWritten s f v) i hi

theorem fieldReset_ignored (ha : s.asleep = false) (hd : s.defaultsDue = false) (hfreset : getFld v F.PWR_CTL_FRESET = 1)
    (htarget : getFld v F.PWR_CTL_TARGET = pwrTarget s f) (hst : 2 ≤ pwrState s f) :
    ∃ t : State, exec (.fieldReset f v) s = .next t ∧ pwrState t f = pwrState s f
      ∧ rd t (A.PWR_STATUS f) F.PWR_STATUS_FRESET_IGNORED = 1 ∧ t.tiles = s.tiles ∧ t.mem = s.mem := by
  have heq : writePwrCtl s f v = wr (pwrCtlWritten s f v) (A.PWR_STATUS f) F.PWR_STATUS_FRESET_IGNORED 1 :=
    (writePwrCtl_reset s f v hfreset htarget).trans (if_neg (by omega))
  exact ⟨_, (exec_fieldReset f v ha hd).trans (congrArg Host.Outcome.next heq),
    (rd_wr_fld_ne (by decide) ..).trans (powerMove_pwrCtlWritten s f v).state, rd_wr_same (by decide) .., rfl, rfl⟩

end

/-- Settles O31: what is not a move of the field leaves what the controller watches as it is, and each move gives the field one
state. -/
theorem powerSteps : Obligations.PowerSteps :=
  ⟨drainEnd_isolates, drainLimit_cancels, drainLimit_forces, isolating_rests, isolating_leaves_supply, retainEntry_rests,
    offEntry_rests, waking_ends, clearing_ends, fieldReset_resets, fieldReset_ignored, steps_of_tripped⟩

end Sys2Proof.Proofs
end

section
/-! PROOFS. PERST_N and the reset values of the defaults image in use (spec 08 R328; spec 14 R545): O50 fails there. PERST_N writes
each register that the state lists as a reset value of the host interface, and an arbitrary state may list a register of an access
table among them. -/

namespace Sys2Proof.Proofs

open Machine Laws Claims

/-- The state after reset but for one reset value of the host interface listed at an offset that is none of its own: that of entry 0
of access table 0. DEFAULTS_APPLY lists no such offset. -/
def strayDefault : State := { State.reset with defaults := { hostRegs := [(A.ACC_W0 0 0, 1)] } }

theorem getR_strayDefault : getR strayDefault (A.ACC_W0 0 0) = 0 := by decide

/-- No ring is on and no read through a window waits, so PERST_N clears the host interface and writes the one value listed. -/
theorem opPerstN_strayDefault : ∃ u : State, opPerstN false strayDefault = setR u (A.ACC_W0 0 0) 1 := ⟨_, rfl⟩

/-- Refutes O50: where the reset values of the host interface list an entry of an access table, PERST_N writes it, and the access
tables are not as they were. -/
theorem not_hostFunctions : ¬ Obligations.HostFunctions := by
  rintro ⟨-, -, -, -, -, -, -, -, -, -, hperst, -⟩
  obtain ⟨t, hexec, -, -, ⟨-, -, htables⟩, -⟩ := hperst strayDefault
  obtain rfl : opPerstN false strayDefault = t := by injection hexec
  obtain ⟨u, hu⟩ := opPerstN_strayDefault
  have hkept := (htables 0 0 (by decide) (by decide)).1
  rw [hu, getR_setR_same, getR_strayDefault] at hkept
  exact absurd hkept (by decide)

end Sys2Proof.Proofs
end

section
/-! PROOFS. Descriptors in their ring (spec 08 R299, R307, R321): what a change of a descriptor and its completion leave, and the
requests that a ring sends (spec 07 R250, R265). -/

namespace Sys2Proof.Proofs

open Machine Laws Claims

/-! ### Descriptors of a ring -/

section
variable {s t : State} {r id op : Nat} {d : Desc}

theorem getRing_congr (h : t.host.rings = s.host.rings) (r : Nat) : getRing t r = getRing s r := by rw [getRing, getRing, h]

theorem liveDesc_congr (h : getRing t r = getRing s r) (id : Nat) : liveDesc t r id = liveDesc s r id := by
  rw [liveDesc, liveDesc, h]

/-- A live descriptor is one of its ring, bears its number and is not finished. -/
theorem of_liveDesc (h : liveDesc s r id = some d) : d ∈ (getRing s r).descs ∧ d.id = id ∧ d.finished = false := by
  have hp := List.find?_some h
  simp only [Bool.and_eq_true, decide_eq_true_eq, Bool.not_eq_true'] at hp
  exact ⟨List.mem_of_find?_eq_some h, hp⟩

/-- A descriptor that runs is live, and started. -/
theorem of_runDesc (h : runDesc s r id op = some d) : liveDesc s r id = some d ∧ d.started = true ∧ dOp d = op := by
  unfold runDesc at h
  split at h
  · rename_i e hlive
    split at h
    · rename_i hrun
      obtain rfl := Option.some.inj h
      simp only [Bool.and_eq_true, beq_iff_eq] at hrun
      exact ⟨hlive, hrun.1.1, hrun.1.2⟩
    · exact absurd h (by simp)
  · exact absurd h (by simp)

theorem live_of_runDesc (h : runDesc s r id op = some d) : liveDesc s r id = some d := (of_runDesc h).1

theorem id_of_runDesc (h : runDesc s r id op = some d) : d.id = id := (of_liveDesc (live_of_runDesc h)).2.1

/-! ### A change of a descriptor -/

theorem getR_setRing {o : Nat} (h : o ≠ A.RING_STATUS r) (s : State) (x : RingSt) : getR (setRing s r x) o = getR s o := by
  rw [setRing, wr, getR_setR_ne _ _ _ _ h, wr, getR_setR_ne _ _ _ _ h]
  rfl

theorem getR_modDesc {o : Nat} (h : o ≠ A.RING_STATUS r) (s : State) (id : Nat) (f : Desc → Desc) :
    getR (modDesc s r id f) o = getR s o := getR_setRing h s _

/-- The changed descriptor stands in its ring. -/
theorem descAs_modDesc (h : liveDesc s r id = some d) {f : Desc → Desc} {q : Desc → Prop} (hid : (f d).id = id) (hq : q (f d)) :
    descAs (modDesc s r id f) r id q := by
  obtain ⟨hmem, hd, -⟩ := of_liveDesc h
  refine ⟨f d, ?_, hid, hq⟩
  rw [modDesc, getRing_setRing_same]
  exact List.mem_map.mpr ⟨d, hmem, if_pos hd⟩

theorem descAs_congr {q : Desc → Prop} (h : getRing t r = getRing s r) (hs : descAs s r id q) : descAs t r id q := by
  rwa [descAs, h]

/-- A change that keeps number and progress to the end leaves the descriptor live. -/
theorem liveDesc_modDesc (h : liveDesc s r id = some d) {f : Desc → Desc} (hf : ∀ e, (f e).id = e.id ∧ (f e).finished = e.finished) :
    liveDesc (modDesc s r id f) r id = some (f d) := by
  have hp : ((fun e : Desc => decide (e.id = id) && !e.finished) ∘ fun e => if e.id = id then f e else e)
      = fun e => decide (e.id = id) && !e.finished := by
    funext e
    by_cases he : e.id = id
    · simp [he, hf e]
    · simp [he]
  rw [liveDesc, modDesc, getRing_setRing_same, updDesc, List.find?_map, hp, ← liveDesc, h, Option.map_some,
    if_pos (of_liveDesc h).2.1]

/-! ### Completions -/

/-- A descriptor that wants a completion, or that has failed, leaves one (spec 08 R308, R321). -/
theorem finishedAs_descDone {st : Status} (h : liveDesc s r id = some d) (hc : wantsComp d ∨ st ≠ .ok) (bytes aux : Nat) :
    finishedAs (descDone s r id st bytes aux) r id st bytes aux := by
  have hcomp : (bit (dFlags d) 1 && st == .ok) = false := by
    rcases hc with hc | hst
    · rw [show bit (dFlags d) 1 = false from hc]; rfl
    · simp [hst]
  simp only [finishedAs, descDone, h, hcomp, Bool.false_eq_true, if_false, getRing_setRing_same]
  exact ⟨_, List.mem_append_right _ (List.mem_singleton_self _), rfl, rfl, rfl, rfl⟩

theorem completed_of_finishedAs {st : Status} {bytes aux : Nat} (h : finishedAs t r id st bytes aux) : completed t r id st aux := by
  obtain ⟨c, hmem, hdesc, hst, -, haux⟩ := h
  exact ⟨c, hmem, hdesc, hst, haux⟩

theorem finishedAs_mono {st : Status} {bytes aux : Nat} (h : (getRing s r).out ⊆ (getRing t r).out)
    (hs : finishedAs s r id st bytes aux) : finishedAs t r id st bytes aux := by
  obtain ⟨c, hmem, hprops⟩ := hs
  exact ⟨c, h hmem, hprops⟩

theorem getR_descDone {o : Nat} (h : o ≠ A.RING_STATUS r) (s : State) (id : Nat) (st : Status) (bytes aux : Nat) :
    getR (descDone s r id st bytes aux) o = getR s o := by
  unfold descDone
  split
  · rfl
  · dsimp only
    split <;> exact getR_setRing h s _

theorem descDone_tiles (s : State) (r id : Nat) (st : Status) (bytes aux : Nat) : (descDone s r id st bytes aux).tiles = s.tiles :=
  (answersOnly_descDone s r id st bytes aux).tiles

end

/-! ### Requests that a ring sends -/

theorem ringPort_lt (k : Nat) : ringPort k < 2048 := by
  unfold ringPort
  split_ifs <;> decide

section
variable {s t u : State} {r id a n : Nat} {dev : BitVec 16} {d : Desc}

theorem asked_congr {s' t' : State} {w : Bool} (hs : s'.eps = s.eps) (ht : t'.eps = t.eps) (h : asked s t r a w n) :
    asked s' t' r a w n := by simpa only [asked, getEp, hs, ht] using h

/-- With a path and a landing slot the request leaves the ring's port, and nothing but the endpoint changes. -/
theorem sendReq_asked (h : maySend s r dev a n) (owner : Owner) (key : Key) (w : Bool) (data : List Byte) :
    ∃ t, sendReq s (ringPort r) 0 256 owner key dev a w n data = .sent t ∧ asked s t r a w n ∧ t = { s with eps := t.eps } := by
  obtain ⟨hlo, hhi, htgt, htag⟩ := h
  obtain ⟨tag, htag⟩ := Option.ne_none_iff_exists'.mp htag
  obtain ⟨f, l, hsent, hnet, hop, haddr, hlen, hsrc, -⟩ := sendReq_sent owner key w data ⟨hlo, hhi⟩ htgt htag
  refine ⟨_, hsent, ⟨f, ?_, hnet, hop, haddr, hlen, ?_⟩, rfl⟩
  · rw [outReq_pushOut hnet, outReq_setLand]
  · rw [hsrc, BitVec.toNat_ofNat, Nat.mod_eq_of_lt (ringPort_lt r)]

/-- A descriptor's request leaves, and the descriptor takes note of it. -/
theorem descSend_asked (hlive : liveDesc s r id = some d) (hmay : maySend s r (dDev d) a n) (k : Nat) (warden w : Bool)
    (data : List Byte) {f : Desc → Desc} {q : Desc → Prop} (hid : (f d).id = d.id) (hq : q (f d)) :
    ∃ t, descSend s r d k warden a w n data = .sent t ∧ asked s (modDesc t r id f) r a w n ∧ descAs (modDesc t r id f) r id q
      ∧ t = { s with eps := t.eps } := by
  obtain ⟨t, hsent, hasked, ht⟩ := sendReq_asked hmay (.desc r d.id k) (ringKey s r warden) w data
  have hlive' : liveDesc t r id = some d := (liveDesc_congr (getRing_congr (by rw [ht]) r) id).trans hlive
  exact ⟨t, hsent, asked_congr rfl rfl hasked, descAs_modDesc hlive' (hid.trans (of_liveDesc hlive).2.1) hq, ht⟩

end

end Sys2Proof.Proofs
end

section
/-! PROOFS. The scheduler's start, NOP, FENCE, transfers of memory and streams (spec 08 R309, R310, R312 to R314, R324). -/

namespace Sys2Proof.Proofs

open Machine Laws Claims

/-! ### DESCRIPTOR_START -/

section
variable {s : State} {r : Nat} {d : Desc}

/-- The checks of a descriptor read no register of its ring's status (spec 08 R310). -/
theorem descCheck_modDesc (s : State) (r id : Nat) (f : Desc → Desc) (d : Desc) :
    descCheck (modDesc s r id f) r d = descCheck s r d := by
  have hkeep : ∀ {o : Nat}, o ≠ A.RING_STATUS r → ∀ k, rd (modDesc s r id f) o k = rd s o k :=
    fun h k => rd_of_getR (getR_modDesc h s id f) k
  have hstatus := hkeep (o := A.HIF_STATUS) (by unfold A.HIF_STATUS A.RING_STATUS; omega)
  have hdims := hkeep (o := A.FAB_DIMS) (by unfold A.FAB_DIMS A.RING_STATUS; omega)
  have hcoord := hkeep (o := A.FAB_COORD) (by unfold A.FAB_COORD A.RING_STATUS; omega)
  have hdev : devId (modDesc s r id f) = devId s := by rw [devId, devId, hcoord]
  have hanchor : isAnchor (modDesc s r id f) = isAnchor s := by rw [isAnchor, isAnchor, rdB, rdB, rdB, rdB, hstatus, hstatus]
  have hplace : ∀ k e, fabCoord (modDesc s r id f) k e = fabCoord s k e := fun k e => by rw [fabCoord, fabCoord, hdims, hdims]
  have hsize : ∀ k, fabSize (modDesc s r id f) k = fabSize s k := fun k => by rw [fabSize, fabSize, hdims, hdims, hdims]
  have hnames : ∀ e, namesDevice (modDesc s r id f) e = namesDevice s e := fun e => by
    simp only [namesDevice, hplace, hsize]
  have hmembers : ∀ c, expMembers (modDesc s r id f) c = expMembers s c := fun c => by
    simp only [expMembers, hnames, hdev]
  have htrain : trainBad (modDesc s r id f) d = trainBad s d := by rw [trainBad, trainBad, hanchor]
  have hop : opcodeBad (modDesc s r id f) r d = opcodeBad s r d := by
    unfold opcodeBad
    rw [htrain]
    rfl
  have hcount : loadCount (modDesc s r id f) r d = loadCount s r d := by
    rw [loadCount, hmembers]
    rfl
  rw [descCheck, descCheck, hop, lengthBad, lengthBad, hcount]

/-- The next descriptor of a ring is one that has not started. -/
theorem of_nextDesc {x : RingSt} (h : nextDesc x = some d) : d ∈ x.descs ∧ d.started = false :=
  ⟨List.mem_of_find?_eq_some h, by simpa using List.find?_some h⟩

/-- DESCRIPTOR_START: the descriptor starts and is checked (spec 08 R310, R324). -/
theorem opDescriptorStart_eq {z : Sched} (htrip : tripped s = false) (hnext : nextStart s 9 s.host.sched = some (r, z))
    (hdesc : nextDesc (getRing s r) = some d) : opDescriptorStart s =
      let u := modDesc { s with host := { s.host with sched := z } } r d.id (fun e => { e with started := true })
      if descCheck s r d = .ok then u else descDone u r d.id (descCheck s r d) 0 0 := by
  simp only [opDescriptorStart, htrip, Bool.false_eq_true, if_false, hnext, hdesc, descCheck_modDesc]
  rfl

theorem descDone_sched (s : State) (r id : Nat) (st : Status) (bytes aux : Nat) :
    (descDone s r id st bytes aux).host.sched = s.host.sched := by
  unfold descDone
  split
  · rfl
  · dsimp only
    split <;> rfl

theorem descriptorStart_starts (s : State) (r : Nat) (z : Sched) (d : Desc) (ha : s.asleep = false) (htrip : tripped s = false)
    (hnext : nextStart s 9 s.host.sched = some (r, z)) (hdesc : nextDesc (getRing s r) = some d) (hfin : d.finished = false) :
    ∃ t : State, exec .descriptorStart s = .next t ∧ t.host.sched = z
      ∧ (if descCheck s r d = .ok then descAs t r d.id (fun e => e.started = true)
        else completed t r d.id (descCheck s r d) 0) := by
  have hmem := (of_nextDesc hdesc).1
  refine ⟨opDescriptorStart s, congrArg Host.Outcome.next (engine_awake ha _), ?_, ?_⟩ <;>
    rw [opDescriptorStart_eq htrip hnext hdesc] <;> dsimp only <;> split
  · rfl
  · rw [descDone_sched]; rfl
  · rw [modDesc, descAs, getRing_setRing_same]
    exact ⟨_, List.mem_map.mpr ⟨d, hmem, if_pos rfl⟩, rfl, rfl⟩
  · rename_i hbad
    have hlive : (liveDesc (modDesc { s with host := { s.host with sched := z } } r d.id (fun e => { e with started := true }))
        r d.id).isSome := by
      rw [liveDesc, modDesc, getRing_setRing_same, List.find?_isSome]
      exact ⟨_, List.mem_map.mpr ⟨d, hmem, if_pos rfl⟩, by simp [hfin]⟩
    obtain ⟨e, he⟩ := Option.isSome_iff_exists.mp hlive
    exact completed_of_finishedAs (finishedAs_descDone he (.inr hbad) 0 0)

end

/-! ### NOP and FENCE -/

section
variable (s : State) (r : Fin 4096) (id : Nat) (d : Desc)

theorem nopDesc_finishes (ha : s.asleep = false) (hrun : runDesc s r id 0x00 = some d) (hc : wantsComp d) :
    ∃ t : State, exec (.nopDesc r id) s = .next t ∧ finishedAs t r id .ok 0 0 := by
  refine ⟨opNopDesc r id s, congrArg Host.Outcome.next (engine_awake ha _), ?_⟩
  rw [opNopDesc, hrun]
  exact finishedAs_descDone (live_of_runDesc hrun) (.inl hc) 0 0

/-- FENCE waits until it is the first descriptor of its ring. -/
theorem opFenceDesc_eq (hrun : runDesc s r id 0x0D = some d) : opFenceDesc r id s =
    if (getRing s r).descs.head?.map (fun e => e.id) = some id then descDone s r id .ok 0 0 else s := by
  rw [opFenceDesc, hrun]
  dsimp only
  cases (getRing s r).descs.head? with
  | none => rfl
  | some e => simp

theorem fenceDesc_waits (ha : s.asleep = false) (hrun : runDesc s r id 0x0D = some d) (hc : wantsComp d) :
    ((getRing s r).descs.head?.map (fun e => e.id) = some id →
        ∃ t : State, exec (.fenceDesc r id) s = .next t ∧ finishedAs t r id .ok 0 0)
      ∧ ((getRing s r).descs.head?.map (fun e => e.id) ≠ some id → exec (.fenceDesc r id) s = .next s) := by
  have hexec : exec (.fenceDesc r id) s = .next (opFenceDesc r id s) := congrArg Host.Outcome.next (engine_awake ha _)
  rw [hexec, opFenceDesc_eq s r id d hrun]
  refine ⟨fun h => ⟨_, by rw [if_pos h], finishedAs_descDone (live_of_runDesc hrun) (.inl hc) 0 0⟩, fun h => by rw [if_neg h]⟩

end

/-! ### The bytes that a descriptor moves -/

/-- The state in which reads of the host have been sent. -/
def withAsks (s : State) (qs : List HostAsk) : State := { s with host := { s.host with asks := qs } }

/-- A read that the host answers changes nothing but the reads sent. -/
theorem askSource_ok (s : State) (r : Nat) (d : Desc) (off n : Nat) (bs : List Byte) :
    ∃ qs, askSource s r d off n (.ok bs) = withAsks s qs := by
  have hask : ∃ qs, dataAsk s r (dHaddr d + off) n = withAsks s qs := by
    unfold dataAsk hostAsk
    split
    · exact ⟨s.host.asks, rfl⟩
    · exact ⟨_, rfl⟩
  obtain ⟨qs, hq⟩ := hask
  unfold askSource
  split
  · exact ⟨s.host.asks, rfl⟩
  · refine ⟨qs, ?_⟩
    rw [hq]
    dsimp only
    cases linkUp (withAsks s qs) <;> rfl

/-- While the link is up, the host's bytes are the source of every descriptor without inline data. -/
theorem sourceBytes_ok {s : State} (hup : linkUp s = true) (d : Desc) (off n : Nat) (bs : List Byte) :
    ∃ data, sourceBytes s d off n (.ok bs) = .inl data := by
  unfold sourceBytes
  rw [hup]
  cases dInline d
  · exact ⟨_, rfl⟩
  · exact ⟨_, rfl⟩

/-! ### MEM_READ and MEM_WRITE -/

section
variable {s : State} {r id : Nat} {d : Desc}

/-- The next piece is asked for and noted (spec 08 R314). -/
theorem movePiece_asks (hlive : liveDesc s r id = some d) (hoff : pieceOff d d.next < dLen d) (hfail : d.fail = none)
    (hmay : maySend s r (dDev d) (dAddr d + pieceOff d d.next) (pieceLen d d.next)) (w : Bool) (data : List Byte) :
    asked s (movePiece s r d w data) r (dAddr d + pieceOff d d.next) w (pieceLen d d.next)
      ∧ descAs (movePiece s r d w data) r id (fun e => e.next = d.next + 1 ∧ e.busy = d.busy + 1) := by
  obtain ⟨t, hsent, hasked, hdesc, -⟩ := descSend_asked hlive hmay d.next false w data
    (f := fun e => { e with next := d.next + 1, busy := e.busy + 1 })
    (q := fun e => e.next = d.next + 1 ∧ e.busy = d.busy + 1) rfl ⟨rfl, rfl⟩
  have hmove : movePiece s r d w data = modDesc t r id (fun e => { e with next := d.next + 1, busy := e.busy + 1 }) := by
    simp only [movePiece, hoff, hfail, Option.isNone_none, and_self, if_true, hsent, (of_liveDesc hlive).2.1]
  rw [hmove]
  exact ⟨hasked, hdesc⟩

theorem moveFinish_ok (hlive : liveDesc s r id = some d) (hbusy : d.busy = 0) (hfail : d.fail = none)
    (hoff : ¬ pieceOff d d.next < dLen d) (hc : wantsComp d) : finishedAs (moveFinish s r id) r id .ok (dLen d) 0 := by
  rw [moveFinish, hlive]
  dsimp only
  rw [if_neg (not_not.mpr hbusy), hfail]
  dsimp only
  rw [if_neg hoff]
  exact finishedAs_descDone hlive (.inl hc) _ _

theorem moveFinish_fail {o : Nat} {st : Status} (hlive : liveDesc s r id = some d) (hbusy : d.busy = 0)
    (hfail : d.fail = some (o, st)) (hst : st ≠ .ok) : finishedAs (moveFinish s r id) r id st o 0 := by
  rw [moveFinish, hlive]
  dsimp only
  rw [if_neg (not_not.mpr hbusy), hfail]
  exact finishedAs_descDone hlive (.inr hst) _ _

/-- A transfer with nothing more to ask for ends where nothing is outstanding. -/
theorem movePiece_ends (hid : d.id = id) (h : ¬(pieceOff d d.next < dLen d ∧ d.fail.isNone = true)) (w : Bool) (data : List Byte) :
    movePiece s r d w data = moveFinish s r id := by rw [movePiece, if_neg h, hid]

end

section
variable (s : State) (r : Fin 4096) (id : Nat) (d : Desc)

theorem opMemRead_eq (hrun : runDesc s r id 0x03 = some d) : opMemRead r id s = movePiece s r d false [] := by rw [opMemRead, hrun]

theorem opMemWrite_ends (hrun : runDesc s r id 0x04 = some d) (h : ¬(pieceOff d d.next < dLen d ∧ d.fail.isNone = true))
    (res : HostRead) : opMemWrite r id res s = moveFinish s r id := by
  rw [opMemWrite, hrun]
  dsimp only
  rw [if_neg h]

/-- The piece that the host has delivered is sent on. -/
theorem opMemWrite_sends (hrun : runDesc s r id 0x04 = some d) (hup : linkUp s = true) (hoff : pieceOff d d.next < dLen d)
    (hfail : d.fail = none) (bs : List Byte) :
    ∃ qs data, opMemWrite r id (.ok bs) s = movePiece (withAsks s qs) r d true data := by
  obtain ⟨qs, hq⟩ := askSource_ok s r d (pieceOff d d.next) (pieceLen d d.next) bs
  obtain ⟨data, hdata⟩ := sourceBytes_ok (s := withAsks s qs) hup d (pieceOff d d.next) (pieceLen d d.next) bs
  refine ⟨qs, data, ?_⟩
  rw [opMemWrite, hrun]
  dsimp only
  rw [if_pos ⟨hoff, by rw [hfail]; rfl⟩, hq, hdata]

theorem memRead_asks (ha : s.asleep = false) (hrun : runDesc s r id 0x03 = some d) (hoff : pieceOff d d.next < dLen d)
    (hfail : d.fail = none) (hmay : maySend s r (dDev d) (dAddr d + pieceOff d d.next) (pieceLen d d.next)) :
    ∃ t : State, exec (.memRead r id) s = .next t ∧ asked s t r (dAddr d + pieceOff d d.next) false (pieceLen d d.next)
      ∧ descAs t r id (fun e => e.next = d.next + 1 ∧ e.busy = d.busy + 1) := by
  refine ⟨opMemRead r id s, congrArg Host.Outcome.next (engine_awake ha _), ?_⟩
  rw [opMemRead_eq s r id d hrun]
  exact movePiece_asks (live_of_runDesc hrun) hoff hfail hmay false []

theorem memWrite_asks (bs : List Byte) (ha : s.asleep = false) (hrun : runDesc s r id 0x04 = some d) (hup : linkUp s = true)
    (hoff : pieceOff d d.next < dLen d) (hfail : d.fail = none)
    (hmay : maySend s r (dDev d) (dAddr d + pieceOff d d.next) (pieceLen d d.next)) :
    ∃ t : State, exec (.memWrite r id (.ok bs)) s = .next t
      ∧ asked s t r (dAddr d + pieceOff d d.next) true (pieceLen d d.next)
      ∧ descAs t r id (fun e => e.next = d.next + 1 ∧ e.busy = d.busy + 1) := by
  obtain ⟨qs, data, hop⟩ := opMemWrite_sends s r id d hrun hup hoff hfail bs
  obtain ⟨hasked, hdesc⟩ := movePiece_asks (s := withAsks s qs) (live_of_runDesc hrun) hoff hfail hmay true data
  refine ⟨opMemWrite r id (.ok bs) s, congrArg Host.Outcome.next (engine_awake ha _), ?_, ?_⟩ <;> rw [hop]
  · exact asked_congr (s := withAsks s qs) rfl rfl hasked
  · exact hdesc

/-- A transfer of either direction that has nothing more to ask for ends. -/
theorem transfer_ends {res : HostRead} {c : Instr} {op : Nat} (ha : s.asleep = false)
    (hc : (c = .memRead r id ∧ op = 0x03) ∨ (c = .memWrite r id res ∧ op = 0x04)) (hrun : runDesc s r id op = some d)
    (h : ¬(pieceOff d d.next < dLen d ∧ d.fail.isNone = true)) : exec c s = .next (moveFinish s r id) := by
  rcases hc with ⟨rfl, rfl⟩ | ⟨rfl, rfl⟩
  · refine congrArg Host.Outcome.next ((engine_awake ha _).trans ?_)
    rw [opMemRead_eq s r id d hrun, movePiece_ends (id_of_runDesc hrun) h]
  · exact congrArg Host.Outcome.next ((engine_awake ha _).trans (opMemWrite_ends s r id d hrun h res))

theorem transfer_completes (res : HostRead) (c : Instr) (op : Nat) (ha : s.asleep = false)
    (hc : (c = .memRead r id ∧ op = 0x03) ∨ (c = .memWrite r id res ∧ op = 0x04)) (hrun : runDesc s r id op = some d)
    (hbusy : d.busy = 0) :
    (d.fail = none → ¬ pieceOff d d.next < dLen d → wantsComp d →
        ∃ t : State, exec c s = .next t ∧ finishedAs t r id .ok (dLen d) 0)
      ∧ (∀ (o : Nat) (st : Status), d.fail = some (o, st) → st ≠ .ok →
        ∃ t : State, exec c s = .next t ∧ finishedAs t r id st o 0) :=
  ⟨fun hfail hoff hcomp => ⟨_, transfer_ends s r id d ha hc hrun (fun h => hoff h.1),
      moveFinish_ok (live_of_runDesc hrun) hbusy hfail hoff hcomp⟩,
    fun o st hfail hst => ⟨_, transfer_ends s r id d ha hc hrun (fun h => by simp [hfail] at h),
      moveFinish_fail (live_of_runDesc hrun) hbusy hfail hst⟩⟩

end

/-! ### STREAM_IN and STREAM_OUT -/

theorem getRing_setGrant (s : State) (page n r : Nat) : getRing (setGrant s page n) r = getRing s r := rfl

theorem eps_setGrant (s : State) (page n : Nat) : (setGrant s page n).eps = s.eps := rfl

section
variable (s : State) (r : Fin 4096) (id : Nat) (d : Desc)

/-- Without grants STREAM_IN asks for credit (spec 08 R312). -/
theorem streamIn_asksCredit (res : HostRead) (ha : s.asleep = false) (hrun : runDesc s r id 0x01 = some d) (hfail : d.fail = none)
    (hnext : d.next < dLen d) (hgrant : getGrant s (dTarget d) = 0) (hbusy : d.busy % 2 = 0)
    (hmay : maySend s r (dDev d) (dAddr d + 0x40) 8) :
    ∃ t : State, exec (.streamIn r id res) s = .next t ∧ asked s t r (dAddr d + 0x40) false 8
      ∧ descAs t r id (fun e => e.busy = d.busy + 1) := by
  obtain ⟨t, hsent, hasked, hdesc, -⟩ := descSend_asked (live_of_runDesc hrun) hmay 1 false false []
    (f := fun e => { e with busy := e.busy + 1 }) (q := fun e => e.busy = d.busy + 1) rfl rfl
  have hleft : 0 < dLen d - d.next := by omega
  have hop : opStreamIn r id res s = modDesc t r id (fun e => { e with busy := e.busy + 1 }) := by
    simp only [opStreamIn, hrun, hfail, Option.isSome_none, Bool.false_eq_true, if_false, hgrant, Nat.lt_irrefl, false_and, and_false,
      hleft, hbusy, and_self, if_true, hsent]
  exact ⟨_, congrArg Host.Outcome.next ((engine_awake ha _).trans hop), hasked, hdesc⟩

/-- STREAM_IN pushes within its grants: the rest where it ends the record within them, otherwise whole words (spec 08 R312). -/
theorem streamIn_pushes (bs : List Byte) (g left n : Nat) (last : Bool) (ha : s.asleep = false) (hrun : runDesc s r id 0x01 = some d)
    (hfail : d.fail = none) (hup : linkUp s = true) (hg : g = getGrant s (dTarget d)) (hl : left = dLen d - d.next)
    (hleft : 0 < left) (hg0 : 0 < g) (hbusy : d.busy < 2)
    (hlast : last = true ↔ dRecEnd d = true ∧ left ≤ 64 ∧ (left + 3) / 4 ≤ g)
    (hn : n = (if last then left else min (min 64 (4 * g)) (left / 4 * 4)))
    (hmay : maySend s r (dDev d) (dAddr d + (if last then 0x80 else 0)) n) :
    ∃ t : State, exec (.streamIn r id (.ok bs)) s = .next t ∧ asked s t r (dAddr d + (if last then 0x80 else 0)) true n
      ∧ descAs t r id (fun e => e.next = d.next + n ∧ e.busy = d.busy + 2)
      ∧ getGrant t (dTarget d) = g - (n + 3) / 4 := by
  have hlast' : (dRecEnd d && decide (left ≤ 64 ∧ (left + 3) / 4 ≤ g)) = last := by
    rw [Bool.eq_iff_iff, hlast, Bool.and_eq_true, decide_eq_true_eq]
  obtain ⟨qs, hq⟩ := askSource_ok s r d d.next n bs
  obtain ⟨data, hdata⟩ := sourceBytes_ok (s := withAsks s qs) hup d d.next n bs
  obtain ⟨t, hsent, hasked, hdesc, -⟩ := descSend_asked (s := withAsks s qs) (live_of_runDesc hrun) hmay 2 false true data
    (f := fun e => { e with next := e.next + n, busy := e.busy + 2 }) (q := fun e => e.next = d.next + n ∧ e.busy = d.busy + 2)
    rfl ⟨rfl, rfl⟩
  have hop : opStreamIn r id (.ok bs) s
      = setGrant (modDesc t r id (fun e => { e with next := e.next + n, busy := e.busy + 2 })) (dTarget d) (g - (n + 3) / 4) := by
    simp only [opStreamIn, hrun, hfail, Option.isSome_none, Bool.false_eq_true, if_false, ← hl, ← hg, hleft, hg0, hbusy, and_self,
      if_true, hlast', ← hn, hq, hdata, hsent]
  exact ⟨_, congrArg Host.Outcome.next ((engine_awake ha _).trans hop),
    asked_congr (s := withAsks s qs) rfl (eps_setGrant ..) hasked, descAs_congr (getRing_setGrant ..) hdesc, smGet_smSet_same _ _ _ _⟩

/-- STREAM_OUT pops the whole words that fit (spec 08 R311, R313). -/
theorem streamOut_pops (ha : s.asleep = false) (hrun : runDesc s r id 0x02 = some d) (hbusy : d.busy = 0)
    (hfree : popOut s (dDev d) (dAddr d) = false) (hmay : maySend s r (dDev d) (dAddr d) (min 64 ((dLen d - d.done) / 4 * 4))) :
    ∃ t : State, exec (.streamOut r id) s = .next t ∧ asked s t r (dAddr d) false (min 64 ((dLen d - d.done) / 4 * 4))
      ∧ descAs t r id (fun e => e.busy = 1) := by
  obtain ⟨t, hsent, hasked, hdesc, -⟩ := descSend_asked (live_of_runDesc hrun) hmay 0 false false []
    (f := fun e => { e with busy := 1 }) (q := fun e => e.busy = 1) rfl rfl
  have hop : opStreamOut r id s = modDesc t r id (fun e => { e with busy := 1 }) := by
    simp [opStreamOut, hrun, hbusy, hfree, hsent]
  exact ⟨_, congrArg Host.Outcome.next ((engine_awake ha _).trans hop), hasked, hdesc⟩

theorem streamOut_waits (hrun : runDesc s r id 0x02 = some d) (hout : popOut s (dDev d) (dAddr d) = true) :
    exec (.streamOut r id) s = .next s := by
  have hop : opStreamOut r id s = s := by simp [opStreamOut, hrun, hout]
  refine congrArg Host.Outcome.next ?_
  rw [engine, hop, ite_self]

end

end Sys2Proof.Proofs
end

section
/-! PROOFS. Descriptors that hand on a command, set a mirror or access one register (spec 08 R316 to R318). -/

namespace Sys2Proof.Proofs

open Machine Laws Claims

/-! ### Commands handed to the root -/

section
variable (s : State) (r : Fin 4096) (id : Nat) (d : Desc)

/-- A descriptor hands its command to the root, once. -/
theorem issueCmd_eq (h : d.stage = 0) :
    issueCmd s r d = pushCmd (modDesc s r d.id (fun e => { e with stage := 1 })) (dCmd s r d) := by
  rw [issueCmd, if_neg (not_not.mpr h)]

theorem getRing_pushCmd (s : State) (c : TreeCmd) (r : Nat) : getRing (pushCmd s c) r = getRing s r := rfl

theorem tree_modDesc (s : State) (r id : Nat) (f : Desc → Desc) : (modDesc s r id f).tree = s.tree := rfl

theorem issueCmd_hands (hlive : liveDesc s r id = some d) (hstage : d.stage = 0) :
    (issueCmd s r d).tree.fromRing = s.tree.fromRing ++ [dCmd s r d] ∧ (issueCmd s r d).tree.runs = s.tree.runs
      ∧ descAs (issueCmd s r d) r id (fun e => e.stage = 1) := by
  have hid := (of_liveDesc hlive).2.1
  have hdesc : descAs (modDesc s r id fun e => { e with stage := 1 }) r id (fun e => e.stage = 1) := descAs_modDesc hlive hid rfl
  have htree := tree_modDesc s r id fun e => { e with stage := 1 }
  rw [issueCmd_eq s r d hstage, hid]
  exact ⟨by rw [pushCmd, htree], by rw [pushCmd, htree], descAs_congr (getRing_pushCmd ..) hdesc⟩

theorem command_hands (c : Instr) (op : Nat) (ha : s.asleep = false)
    (hc : (c = .switchDescriptor r id ∧ op = 0x06) ∨ (c = .powerDescriptor r id ∧ op = 0x07)) (hrun : runDesc s r id op = some d)
    (hstage : d.stage = 0) :
    ∃ t : State, exec c s = .next t ∧ t.tree.fromRing = s.tree.fromRing ++ [dCmd s r d] ∧ t.tree.runs = s.tree.runs
      ∧ descAs t r id (fun e => e.stage = 1) := by
  have hexec : exec c s = .next (issueCmd s r d) := by
    rcases hc with ⟨rfl, rfl⟩ | ⟨rfl, rfl⟩
    · exact congrArg Host.Outcome.next ((engine_awake ha _).trans (by rw [opSwitchDescriptor, hrun]))
    · exact congrArg Host.Outcome.next ((engine_awake ha _).trans (by rw [opPowerDescriptor, hrun]))
  exact ⟨_, hexec, issueCmd_hands s r id d (live_of_runDesc hrun) hstage⟩

theorem loadContext_hands (res : HostRead) (ha : s.asleep = false) (hrun : runDesc s r id 0x05 = some d) (hform : dField d 25 1 = 2)
    (hstage : d.stage = 0) :
    ∃ t : State, exec (.loadContext r id res) s = .next t ∧ t.tree.fromRing = s.tree.fromRing ++ [dCmd s r d] := by
  have hop : opLoadContext r id res s = issueCmd s r d := by
    simp only [opLoadContext, hrun, hform, if_true]
  exact ⟨_, congrArg Host.Outcome.next ((engine_awake ha _).trans hop), (issueCmd_hands s r id d (live_of_runDesc hrun) hstage).1⟩

end

/-! ### Mirrors -/

section
variable (s : State) (m : Nat)

/-- What lies outside tiles and endpoints: the registers, the host interface and what the fields keep. -/
def outside (s : State) : SMap Reg × HostSt × SMap FieldSt := (s.regs, s.host, s.fields)

theorem outside_yMark (i y : Nat) (stale : Bool) : outside (yMark s i y stale) = outside s := rfl

theorem outside_setT (s : State) (i : Nat) (t : Tile) : outside (setT s i t) = outside s := rfl

theorem outside_setAgent (s : State) (f : Nat) (a : Agent) : outside (setAgent s f a) = outside s := rfl

theorem outside_mirrorDone (s : State) (ep : Nat) (g : Flit) : outside (mirrorDone s ep g) = outside s := rfl

theorem outside_markHolders (stale : Bool) : outside (markHolders s m stale) = outside s := by
  unfold markHolders
  refine foldl_keeps outside (fun s l => ?_) _ s
  refine foldl_keeps outside (fun s x => ?_) _ s
  exact outside_yMark s x.1 x.2 stale

theorem outside_stopFills : outside (stopFills s m) = outside s := by
  unfold stopFills
  dsimp only
  refine (foldl_keeps outside (fun s f => ?_) _ _).trans
    ((foldl_keeps outside (fun s x => ?_) _ _).trans (foldl_keeps outside (fun s i => ?_) _ s))
  · exact outside_setAgent ..
  · cases x.owner with
    | push ep g => exact outside_mirrorDone ..
    | refetch a b c => rfl
  · exact outside_setT ..

theorem host_of_outside {s t : State} (h : outside t = outside s) : t.host = s.host := congrArg (·.2.1) h

theorem getR_of_outside {s t : State} (h : outside t = outside s) (o : Nat) : getR t o = getR s o := by
  rw [getR, getR, show t.regs = s.regs from congrArg Prod.fst h]

theorem mirrorOff_host : (mirrorOff s m).host = s.host := by
  unfold mirrorOff
  split
  · exact (host_of_outside (outside_markHolders _ m false)).trans (host_of_outside (outside_stopFills s m))
  · rfl

theorem mirrorState_ne_mirrorCfg : A.MIRROR_STATE m ≠ A.MIRROR_CFG m := by
  unfold A.MIRROR_STATE A.MIRROR_CFG
  omega

/-- The state of a mirror whose CFG has been written, before the new value is judged. -/
def mirrorWritten (s : State) (m : Nat) (v : Reg) : State :=
  setR (mirrorOff s m) (A.MIRROR_CFG m) (writeFlds true L.MIRROR_CFG (getR (mirrorOff s m) (A.MIRROR_CFG m)) v)

theorem mirrorOn_mirrorWritten {v : Reg} (h : getFld v F.MIRROR_CFG_EN = 1) :
    rd (mirrorWritten s m v) (A.MIRROR_CFG m) F.MIRROR_CFG_EN = 1 := by
  rw [mirrorWritten, rd, getR_setR_same, writeFlds_rw (by decide), getFld_mergeMask_in (by decide), h]

/-- A value of CFG with EN = 1 is refused, or the holders' lines become stale and the mirror is on (spec 07 R278). -/
theorem mirrorCfg_eq {v : Reg} (h : getFld v F.MIRROR_CFG_EN = 1) :
    mirrorCfg s m v = (if mirrorBad v then
        (report (wr (wr (mirrorWritten s m v) (A.MIRROR_CFG m) F.MIRROR_CFG_EN 0) (A.MIRROR_STATE m) F.MIRROR_STATE_CFG_ERR 1) 200
          (unitDev (wr (wr (mirrorWritten s m v) (A.MIRROR_CFG m) F.MIRROR_CFG_EN 0) (A.MIRROR_STATE m) F.MIRROR_STATE_CFG_ERR 1))
          0x330 (detail [(m, 1)]), true)
      else (wr (setMi (markHolders (mirrorWritten s m v) m true) m { getMi (mirrorWritten s m v) m with dirty := [], updated := false })
        (A.MIRROR_STATE m) F.MIRROR_STATE_EPOCH 0, false)) := by
  have hon : mirrorOn (mirrorWritten s m v) m = true := by rw [mirrorOn, rdB, mirrorOn_mirrorWritten s m h]; rfl
  unfold mirrorCfg
  dsimp only
  change (if (!mirrorOn (mirrorWritten s m v) m) = true then (mirrorWritten s m v, false) else _) = _
  rw [hon]
  rfl

theorem mirrorCfg_refuses {v : Reg} (hen : getFld v F.MIRROR_CFG_EN = 1) (hbad : mirrorBad v = true) :
    (mirrorCfg s m v).2 = true ∧ (mirrorCfg s m v).1.host = s.host ∧ rd (mirrorCfg s m v).1 (A.MIRROR_CFG m) F.MIRROR_CFG_EN = 0
      ∧ rd (mirrorCfg s m v).1 (A.MIRROR_STATE m) F.MIRROR_STATE_CFG_ERR = 1 := by
  have hlog : A.MIRROR_CFG m ≠ A.LOG_STATUS ∧ A.MIRROR_STATE m ≠ A.LOG_STATUS := by
    unfold A.MIRROR_CFG A.MIRROR_STATE A.LOG_STATUS
    omega
  rw [mirrorCfg_eq s m hen, if_pos hbad]
  refine ⟨rfl, (report_host ..).trans (mirrorOff_host s m), ?_, ?_⟩
  · rw [rd, getR_report hlog.1, ← rd, rd_wr_reg_ne (mirrorState_ne_mirrorCfg m).symm, rd_wr_same (by decide)]
    exact Nat.zero_mod _
  · rw [rd, getR_report hlog.2, ← rd, rd_wr_same (by decide)]
    rfl

theorem mirrorCfg_enables {v : Reg} (hen : getFld v F.MIRROR_CFG_EN = 1) (hok : mirrorBad v = false) :
    (mirrorCfg s m v).2 = false ∧ (mirrorCfg s m v).1.host = s.host ∧ rd (mirrorCfg s m v).1 (A.MIRROR_CFG m) F.MIRROR_CFG_EN = 1 := by
  have hne := (mirrorState_ne_mirrorCfg m).symm
  have hmark := outside_markHolders (mirrorWritten s m v) m true
  rw [mirrorCfg_eq s m hen, hok, if_neg Bool.false_ne_true]
  refine ⟨rfl, (host_of_outside hmark).trans (mirrorOff_host s m), ?_⟩
  rw [rd_wr_reg_ne hne, setMi, rd_wr_reg_ne hne]
  exact (rd_of_getR (getR_of_outside hmark _) _).trans (mirrorOn_mirrorWritten s m hen)

theorem mirror_ne_ringStatus {m : Nat} (r : Fin 4096) : A.MIRROR_CFG m ≠ A.RING_STATUS r ∧ A.MIRROR_STATE m ≠ A.RING_STATUS r := by
  unfold A.MIRROR_CFG A.MIRROR_STATE A.RING_STATUS
  omega

end

section
variable (s : State) (r : Fin 4096) (id : Nat) (d : Desc)

/-- MIRROR_SET on this device, granted by the tables it needs (spec 08 R317). -/
theorem mirrorSet_sets (m : Nat) (v : Reg) (ha : s.asleep = false) (hrun : runDesc s r id 0x08 = some d) (hc : wantsComp d)
    (hm : m = dField d 24 1) (hv : v = BitVec.ofNat 64 (dField d 32 8)) (hdev : dDev d = devId s)
    (hen : getFld v F.MIRROR_CFG_EN = 1) (hgrant : decideAccess s (ringKey s r false) false (mirrorNeeds s m v) = .grant) :
    ∃ t : State, exec (.mirrorSet r id) s = .next t
      ∧ (mirrorBad v = false → finishedAs t r id .ok 0 0 ∧ rd t (A.MIRROR_CFG m) F.MIRROR_CFG_EN = 1)
      ∧ (mirrorBad v = true → finishedAs t r id .badDescriptor 0 0 ∧ rd t (A.MIRROR_CFG m) F.MIRROR_CFG_EN = 0
          ∧ rd t (A.MIRROR_STATE m) F.MIRROR_STATE_CFG_ERR = 1) := by
  have hop : opMirrorSet r id s = descDone (mirrorCfg s m v).1 r id (if (mirrorCfg s m v).2 then .badDescriptor else .ok) 0 0 := by
    simp only [opMirrorSet, hrun, ← hm, ← hv, hdev, if_true, hgrant]
  obtain ⟨hcfg, hstate⟩ := mirror_ne_ringStatus (m := m) r
  have hlive : (mirrorCfg s m v).1.host = s.host → liveDesc (mirrorCfg s m v).1 r id = some d := fun h =>
    (liveDesc_congr (getRing_congr (by rw [h]) r) id).trans (live_of_runDesc hrun)
  refine ⟨_, congrArg Host.Outcome.next ((engine_awake ha _).trans hop), fun hok => ?_, fun hbad => ?_⟩
  · obtain ⟨hres, hhost, hon⟩ := mirrorCfg_enables s m hen hok
    rw [hres, if_neg Bool.false_ne_true]
    exact ⟨finishedAs_descDone (hlive hhost) (.inl hc) 0 0, (rd_of_getR (getR_descDone hcfg ..) _).trans hon⟩
  · obtain ⟨hres, hhost, hoff, herr⟩ := mirrorCfg_refuses s m hen hbad
    rw [hres, if_pos rfl]
    exact ⟨finishedAs_descDone (hlive hhost) (.inr (by decide)) 0 0, (rd_of_getR (getR_descDone hcfg ..) _).trans hoff,
      (rd_of_getR (getR_descDone hstate ..) _).trans herr⟩

/-- A denial writes the trouble log's status and the fault registers alone. -/
theorem getR_denyWith_ne {o : Nat} (hlog : o ≠ A.LOG_STATUS) (hfault : o ≠ A.ACC_FAULT) (haddr : o ≠ A.ACC_FAULT_ADDR)
    (hcnt : o ≠ A.ACC_FAULT_CNT) (k : Key) (remote train : Bool) (unit : BitVec 32) (addr perm table code : Nat) :
    getR (denyWith s k remote train unit addr perm table code) o = getR s o := by
  obtain ⟨det, a, h⟩ := denyWith_eq s k remote train unit addr perm table code
  have hcount : getR (denialCounted s unit code det) o = getR s o := by
    rw [denialCounted, bump, getR_setR_ne _ _ _ _ hcnt, getR_report hlog]
  rw [h]
  dsimp only
  split
  · rw [wr, getR_setR_ne _ _ _ _ hfault, hcount]
  · rw [getR, raiseIf_regs, ← getR, denialRecorded, getR_setR_ne _ _ _ _ haddr, getR_setR_ne _ _ _ _ hfault, hcount]

theorem mirrorSet_denied (code table : Nat) (ha : s.asleep = false) (hrun : runDesc s r id 0x08 = some d) (hdev : dDev d = devId s)
    (hrefuse : decideAccess s (ringKey s r false) false (mirrorNeeds s (dField d 24 1) (BitVec.ofNat 64 (dField d 32 8)))
      = .refuse code table) :
    ∃ t : State, exec (.mirrorSet r id) s = .next t ∧ finishedAs t r id .denied 0 0
      ∧ getR t (A.MIRROR_CFG (dField d 24 1)) = getR s (A.MIRROR_CFG (dField d 24 1)) := by
  have hop : opMirrorSet r id s = descDone (denyWith s (ringKey s r false) false false (unitDev s)
      (0x80000000 + A.MIRROR_CFG (dField d 24 1)) pLOAD table code) r id .denied 0 0 := by
    simp only [opMirrorSet, hrun, hdev, if_true, hrefuse]
  refine ⟨_, congrArg Host.Outcome.next ((engine_awake ha _).trans hop), ?_, ?_⟩
  · refine finishedAs_descDone (d := d) ?_ (.inr (by decide)) 0 0
    refine (liveDesc_congr (getRing_congr ?_ r) id).trans (live_of_runDesc hrun)
    exact congrArg (·.2.2.rings) (tilesTreeHost_of_onlyReported (onlyReported_denyWith ..))
  · rw [getR_descDone (mirror_ne_ringStatus r).1]
    refine getR_denyWith_ne s ?_ ?_ ?_ ?_ .. <;>
      simp only [A.MIRROR_CFG, A.LOG_STATUS, A.ACC_FAULT, A.ACC_FAULT_ADDR, A.ACC_FAULT_CNT] <;> omega

end

/-! ### REG_READ and REG_WRITE -/

section
variable (s : State) (r : Fin 4096) (id : Nat) (d : Desc)

/-- A register access sends its one request (spec 08 R318). -/
theorem regAsk_asks (hlive : liveDesc s r id = some d) (hbusy : d.busy = 0) (w : Bool)
    (hmay : maySend s r (dDev d) (dAddr d) (if w then 16 else 8)) :
    asked s (regAsk s r d w) r (dAddr d) w (if w then 16 else 8) ∧ descAs (regAsk s r d w) r id (fun e => e.busy = 1) := by
  obtain ⟨t, hsent, hasked, hdesc, -⟩ := descSend_asked hlive hmay 0 true w (if w then sliceBytes d.bytes 32 16 else [])
    (f := fun e => { e with busy := 1 }) (q := fun e => e.busy = 1) rfl rfl
  have hop : regAsk s r d w = modDesc t r id (fun e => { e with busy := 1 }) := by
    rw [regAsk, if_neg (not_not.mpr hbusy), hsent, (of_liveDesc hlive).2.1]
  rw [hop]
  exact ⟨hasked, hdesc⟩

theorem regRead_asks (ha : s.asleep = false) (hrun : runDesc s r id 0x09 = some d) (hbusy : d.busy = 0)
    (hmay : maySend s r (dDev d) (dAddr d) 8) :
    ∃ t : State, exec (.regRead r id) s = .next t ∧ asked s t r (dAddr d) false 8 ∧ descAs t r id (fun e => e.busy = 1) := by
  have hop : opRegRead r id s = regAsk s r d false := by rw [opRegRead, hrun]
  exact ⟨_, congrArg Host.Outcome.next ((engine_awake ha _).trans hop), regAsk_asks s r id d (live_of_runDesc hrun) hbusy false hmay⟩

theorem regWrite_asks (ha : s.asleep = false) (hrun : runDesc s r id 0x0A = some d) (hbusy : d.busy = 0)
    (hmay : maySend s r (dDev d) (dAddr d) 16) :
    ∃ t : State, exec (.regWrite r id) s = .next t ∧ asked s t r (dAddr d) true 16 ∧ descAs t r id (fun e => e.busy = 1) := by
  have hop : opRegWrite r id s = regAsk s r d true := by rw [opRegWrite, hrun]
  exact ⟨_, congrArg Host.Outcome.next ((engine_awake ha _).trans hop), regAsk_asks s r id d (live_of_runDesc hrun) hbusy true hmay⟩

end

end Sys2Proof.Proofs
end

section
/-! PROOFS. EVENT_WAIT and NOTIFY (spec 08 R319, R320). -/

namespace Sys2Proof.Proofs

open Machine Laws Claims

/-! ### EVENT_WAIT -/

/-- A step of EVENT_WAIT that sends one request to its queue's registers. -/
def eventAsk (s : State) (r id : Nat) (d : Desc) (k off : Nat) (w : Bool) (data : List Byte) : State :=
  match descSend s r d k false (qStateAddr (dAddr d) + off) w 8 data with
  | .sent s => modDesc s r id (fun d => { d with stage := d.stage + 1 })
  | .done st => descDone s r id st 0 0
  | .wait => s

section
variable (s : State) (r : Fin 4096) (id : Nat) (d : Desc)

theorem opEventWait_eq (hrun : runDesc s r id 0x0B = some d) : opEventWait r id s =
    if d.stage = 0 then (if waitCount s < 256 then modDesc s r id (fun d => { d with stage := 1 }) else s)
    else if d.stage = 1 then eventAsk s r id d 1 8 false []
    else if d.stage = 3 then eventAsk s r id d 2 8 true (bytesLE 8 (Nat.lor d.aux 256))
    else if d.stage = 5 then eventAsk s r id d 3 0 false []
    else s := by
  rw [opEventWait, hrun]
  rfl

theorem eventAsk_asks (hlive : liveDesc s r id = some d) (k off : Nat) (w : Bool) (data : List Byte)
    (hmay : maySend s r (dDev d) (qStateAddr (dAddr d) + off) 8) :
    asked s (eventAsk s r id d k off w data) r (qStateAddr (dAddr d) + off) w 8 := by
  obtain ⟨t, hsent, hasked, -⟩ := descSend_asked hlive hmay k false w data (f := fun d => { d with stage := d.stage + 1 })
    (q := fun _ => True) rfl trivial
  rw [eventAsk, hsent]
  exact hasked

theorem eventWait_asks (ha : s.asleep = false) (hrun : runDesc s r id 0x0B = some d) :
    (d.stage = 0 → waitCount s < 256 → ∃ t : State, exec (.eventWait r id) s = .next t ∧ descAs t r id (fun e => isWait e = true))
      ∧ (d.stage = 1 → maySend s r (dDev d) (qStateAddr (dAddr d) + 8) 8 →
        ∃ t : State, exec (.eventWait r id) s = .next t ∧ asked s t r (qStateAddr (dAddr d) + 8) false 8)
      ∧ (d.stage = 3 → maySend s r (dDev d) (qStateAddr (dAddr d) + 8) 8 →
        ∃ t : State, exec (.eventWait r id) s = .next t ∧ asked s t r (qStateAddr (dAddr d) + 8) true 8)
      ∧ (d.stage = 5 → maySend s r (dDev d) (qStateAddr (dAddr d)) 8 →
        ∃ t : State, exec (.eventWait r id) s = .next t ∧ asked s t r (qStateAddr (dAddr d)) false 8) := by
  obtain ⟨hlive, -, hop⟩ := of_runDesc hrun
  have hexec : exec (.eventWait r id) s = .next (opEventWait r id s) := congrArg Host.Outcome.next (engine_awake ha _)
  rw [hexec, opEventWait_eq s r id d hrun]
  refine ⟨fun hstage hroom => ⟨_, rfl, ?_⟩, fun hstage hmay => ⟨_, rfl, ?_⟩, fun hstage hmay => ⟨_, rfl, ?_⟩,
    fun hstage hmay => ⟨_, rfl, ?_⟩⟩
  · have hop' : dOp { d with stage := 1 } = dOp d := rfl
    have hwait : isWait { d with stage := 1 } = true := by simp [isWait, hop', hop]
    rw [if_pos hstage, if_pos hroom]
    exact descAs_modDesc hlive (of_liveDesc hlive).2.1 hwait
  · rw [if_neg (by omega), if_pos hstage]
    exact eventAsk_asks s r id d hlive 1 8 false [] hmay
  · rw [if_neg (by omega), if_neg (by omega), if_pos hstage]
    exact eventAsk_asks s r id d hlive 2 8 true _ hmay
  · rw [if_neg (by omega), if_neg (by omega), if_neg (by omega), if_pos hstage]
    have hasks := eventAsk_asks s r id d hlive 3 0 false []
    rw [Nat.add_zero] at hasks
    exact hasks hmay

theorem eventWaitTimeout_ends (ha : s.asleep = false) (hrun : runDesc s r id 0x0B = some d) (hstage : 1 ≤ d.stage)
    (htime : dField d 24 4 ≠ 0) : ∃ t : State, exec (.eventWaitTimeout r id) s = .next t ∧ finishedAs t r id .timeout 0 0 := by
  have hcond : (isWait d && !dZero d 24 4) = true := by simp [isWait, (of_runDesc hrun).2.2, hstage, dZero, htime]
  have hop : opEventWaitTimeout r id s = descDone s r id .timeout 0 0 := by
    rw [opEventWaitTimeout, hrun]
    exact if_pos hcond
  refine ⟨_, congrArg Host.Outcome.next ((engine_awake ha _).trans hop), ?_⟩
  exact finishedAs_descDone (live_of_runDesc hrun) (.inr (by decide)) 0 0

end

/-! ### EVENT_WAIT_MATCH -/

/-- A request that leaves changes nothing of the host interface. -/
theorem host_sendReq {s t : State} {ep lo n a len : Nat} {owner : Owner} {key : Key} {dev : BitVec 16} {w : Bool} {wdata : List Byte}
    (h : sendReq s ep lo n owner key dev a w len wdata = .sent t) : t.host = s.host := by
  unfold sendReq at h
  split at h
  · exact absurd h SendRes.noConfusion
  · split at h
    · exact absurd h SendRes.noConfusion
    · split at h
      · exact absurd h SendRes.noConfusion
      · rw [← SendRes.sent.inj h]
        rfl

theorem rings_clearHit (s : State) (r : Nat) (d : Desc) : (clearHit s r d).host.rings = s.host.rings := by
  unfold clearHit sendClear
  split
  · rename_i h
    rw [host_sendReq h]
  · rfl
  · rfl

/-- A change of one descriptor does not touch another that is live. -/
theorem find?_updDesc {id id' : Nat} {f : Desc → Desc} (h : id' ≠ id) (hf : ∀ e, (f e).id = e.id) (x : RingSt) :
    (updDesc x id f).descs.find? (fun d => decide (d.id = id') && !d.finished)
      = x.descs.find? (fun d => decide (d.id = id') && !d.finished) := by
  have hp : ((fun e : Desc => decide (e.id = id') && !e.finished) ∘ fun e => if e.id = id then f e else e)
      = fun e => decide (e.id = id') && !e.finished := by
    funext e
    by_cases he : e.id = id
    · simp [he, hf e, h.symm]
    · simp [he]
  rw [updDesc, List.find?_map, hp]
  cases hfind : x.descs.find? fun e => decide (e.id = id') && !e.finished with
  | none => rfl
  | some e =>
    have hid : e.id = id' := by
      have hp := List.find?_some hfind
      simp only [Bool.and_eq_true, decide_eq_true_eq] at hp
      exact hp.1
    rw [Option.map_some, if_neg (by rw [hid]; exact h)]

/-- The end of one descriptor leaves every other descriptor live. -/
theorem liveDesc_descDone_ne {s : State} {r r' id id' : Nat} (h : r' = r → id' ≠ id) (st : Status) (bytes aux : Nat) :
    liveDesc (descDone s r id st bytes aux) r' id' = liveDesc s r' id' := by
  unfold descDone
  split
  · rfl
  · by_cases hr : r' = r
    · subst hr
      have hid := h rfl
      dsimp only
      split
      · rw [liveDesc, getRing_setRing_same, dropDesc, List.find?_filter, liveDesc]
        refine List.find?_congr fun e _ => ?_
        by_cases he : e.id = id'
        · simp [he, hid]
        · simp [he]
      · rw [liveDesc, getRing_setRing_same]
        exact find?_updDesc (f := fun e => { e with finished := true, started := true }) hid (fun _ => rfl) _
    · dsimp only
      split <;> exact liveDesc_congr (getRing_setRing_ne s hr _) id'

/-- A completion stays where answers follow. -/
theorem finishedAs_descDone_of {s : State} {r id : Nat} {st : Status} {bytes aux : Nat} (h : finishedAs s r id st bytes aux)
    (r' id' : Nat) (st' : Status) (bytes' aux' : Nat) : finishedAs (descDone s r' id' st' bytes' aux') r id st bytes aux :=
  finishedAs_mono ((answersOnly_descDone s r' id' st' bytes' aux').out r) h

theorem finishedAs_congr {s t : State} {r id : Nat} {st : Status} {bytes aux : Nat} (h : getRing t r = getRing s r)
    (hs : finishedAs s r id st bytes aux) : finishedAs t r id st bytes aux := by rwa [finishedAs, h]

section
variable {s : State} {r : Nat} {d : Desc} {depth : Nat}

theorem getRing_clearHit (s : State) (r' : Nat) (e : Desc) (r : Nat) : getRing (clearHit s r' e) r = getRing s r :=
  getRing_congr (rings_clearHit s r' e) r

/-- The wait is still registered, or has ended on the event with the depth. -/
def hitOrLive (r : Nat) (d : Desc) (depth : Nat) (s : State) : Prop :=
  liveDesc s r d.id = some d ∨ finishedAs s r d.id .ok 0 depth

theorem finishedAs_waitHit_of (h : finishedAs s r d.id .ok 0 depth) (r' : Nat) (e : Desc) :
    finishedAs (waitHit s r' e depth) r d.id .ok 0 depth :=
  finishedAs_congr (getRing_clearHit ..) (finishedAs_descDone_of h ..)

theorem finishedAs_waitHit (hc : wantsComp d) {e : Desc} (hid : e.id = d.id) (h : hitOrLive r d depth s) :
    finishedAs (waitHit s r e depth) r d.id .ok 0 depth := by
  rcases h with hlive | hdone
  · rw [waitHit, hid]
    exact finishedAs_congr (getRing_clearHit ..) (finishedAs_descDone hlive (.inl hc) 0 depth)
  · exact finishedAs_waitHit_of hdone r e

theorem hitOrLive_waitHit (hc : wantsComp d) (h : hitOrLive r d depth s) (r' : Nat) (e : Desc) :
    hitOrLive r d depth (waitHit s r' e depth) := by
  by_cases hsame : r = r' ∧ d.id = e.id
  · obtain ⟨rfl, hid⟩ := hsame
    exact .inr (finishedAs_waitHit hc hid.symm h)
  · rcases h with hlive | hdone
    · refine .inl ((liveDesc_congr (getRing_clearHit ..) d.id).trans ?_)
      rw [liveDesc_descDone_ne (fun hr hid => hsame ⟨hr, hid⟩), hlive]
    · exact .inr (finishedAs_waitHit_of hdone r' e)

/-- Where the wait is among those that the event meets, it ends. -/
theorem finishedAs_waitHits (hc : wantsComp d) {l : List (Nat × Desc)} (hmem : (r, d) ∈ l) (h : hitOrLive r d depth s) :
    finishedAs (l.foldl (fun s y => waitHit s y.1 y.2 depth) s) r d.id .ok 0 depth := by
  induction l generalizing s with
  | nil => exact absurd hmem List.not_mem_nil
  | cons y l ih =>
    rcases List.mem_cons.mp hmem with rfl | hmem
    · refine List.foldlRecOn l (motive := fun u => finishedAs u r d.id .ok 0 depth) _ (finishedAs_waitHit hc rfl h) ?_
      exact fun u hu y _ => finishedAs_waitHit_of hu y.1 y.2
    · exact ih hmem (hitOrLive_waitHit hc h y.1 y.2)

end

/-- A descriptor of a ring stands in the map of the rings. -/
theorem mem_rings_of_mem_descs {s : State} {r : Nat} {d : Desc} (h : d ∈ (getRing s r).descs) : (r, getRing s r) ∈ s.host.rings := by
  refine mem_of_smGet_ne (d := ({} : RingSt)) fun hnone => ?_
  rw [getRing, hnone] at h
  exact absurd h List.not_mem_nil

/-- The only descriptor of its number, where not finished, is live. -/
theorem liveDesc_of_unique {s : State} {r : Nat} {d : Desc} (hmem : d ∈ (getRing s r).descs)
    (huniq : ∀ x ∈ (getRing s r).descs, x.id = d.id → x = d) (hfin : d.finished = false) : liveDesc s r d.id = some d := by
  have hsome : (liveDesc s r d.id).isSome := List.find?_isSome.mpr ⟨d, hmem, by simp [hfin]⟩
  obtain ⟨e, he⟩ := Option.isSome_iff_exists.mp hsome
  obtain ⟨hemem, heid, -⟩ := of_liveDesc he
  rw [he, huniq e hemem heid]

theorem eventWaitMatch_ends (s : State) (i : TileIx) (q : Fin 4) (e : Nat × Nat × Nat) (r : Nat) (d : Desc) (ha : s.asleep = false)
    (hevent : s.levelEvents.find? (fun e => e.1 == i.val && e.2.1 == q.val) = some e) (hmem : d ∈ (getRing s r).descs)
    (huniq : ∀ x ∈ (getRing s r).descs, x.id = d.id → x = d) (hwait : isWait d = true) (hstart : d.started = true)
    (hfin : d.finished = false) (hc : wantsComp d)
    (htarget : dTarget d = (devId s).toNat * 2 ^ 48 + 0x40000000 + 4096 * i.val + 0xC00 + 0x100 * q.val) :
    ∃ t : State, exec (.eventWaitMatch i q) s = .next t ∧ finishedAs t r d.id .ok 0 e.2.2 := by
  refine ⟨opEventWaitMatch i q s, congrArg Host.Outcome.next (engine_awake ha _), ?_⟩
  rw [opEventWaitMatch, hevent]
  refine finishedAs_waitHits hc ?_ (.inl (liveDesc_of_unique (s := s) hmem huniq hfin))
  refine List.mem_flatMap.mpr ⟨_, mem_rings_of_mem_descs hmem, List.mem_map.mpr ⟨d, List.mem_filter.mpr ⟨hmem, ?_⟩, rfl⟩⟩
  have hdev : devId { s with levelEvents := s.levelEvents.erase e } = devId s := rfl
  simp only [hwait, hstart, hfin, htarget, hdev, Bool.not_false, Bool.and_true, beq_self_eq_true]

/-! ### NOTIFY and its records -/

theorem getRing_setBind (s : State) (b : Nat) (x : Option Bind) (r : Nat) : getRing (setBind s b x) r = getRing s r := rfl

theorem eps_setBind (s : State) (b : Nat) (x : Option Bind) : (setBind s b x).eps = s.eps := rfl

theorem bind_setBind (s : State) (b : Nat) (x : Option Bind) : smGet none (setBind s b x).host.binds b = x := smGet_smSet_same ..

theorem host_orphan (s : State) (r : Nat) (sel : Owner → Bool) (pop : Bool) : (orphan s r sel pop).host = s.host := rfl

/-- A completion leaves the bindings. -/
theorem binds_descDone (s : State) (r id : Nat) (st : Status) (bytes aux : Nat) :
    (descDone s r id st bytes aux).host.binds = s.host.binds := by
  unfold descDone
  split
  · rfl
  · dsimp only
    split <;> rfl

theorem getRing_unbind (s : State) (b r : Nat) : getRing (unbind s b) r = getRing s r := by
  unfold unbind
  split
  · exact (getRing_setBind ..).trans (getRing_congr (congrArg HostSt.rings (host_orphan ..)) r)
  · rfl

theorem bind_unbind (s : State) (b : Nat) : smGet none (unbind s b).host.binds b = none := by
  unfold unbind
  split
  · exact bind_setBind ..
  · assumption

section
variable (s : State) (r : Fin 4096) (id : Nat) (d : Desc)

theorem notifyDesc_binds (b : Nat) (ha : s.asleep = false) (hrun : runDesc s r id 0x0C = some d) (hc : wantsComp d) :
    (dField d 24 1 = 1 → findBind s d = some b →
        ∃ t : State, exec (.notifyDesc r id) s = .next t ∧ smGet none t.host.binds b = none ∧ finishedAs t r id .ok 0 0)
      ∧ (dField d 24 1 ≠ 1 → findBind s d = none → (List.range 256).find? (fun b => (smGet none s.host.binds b).isNone) = some b →
        ∃ t : State, exec (.notifyDesc r id) s = .next t ∧ finishedAs t r id .ok 0 0
          ∧ smGet none t.host.binds b = some { dev := dDev d, addr := dAddr d, ring := r.val })
      ∧ (dField d 24 1 ≠ 1 → findBind s d = some b →
        ∃ t : State, exec (.notifyDesc r id) s = .next t ∧ t.host.binds = s.host.binds ∧ finishedAs t r id .badDescriptor 0 0) := by
  have hlive := live_of_runDesc hrun
  have hexec : exec (.notifyDesc r id) s = .next (opNotifyDesc r id s) := congrArg Host.Outcome.next (engine_awake ha _)
  rw [hexec]
  refine ⟨fun hun hbind => ⟨_, rfl, ?_⟩, fun hun hbind hfree => ⟨_, rfl, ?_⟩, fun hun hbind => ⟨_, rfl, ?_⟩⟩
  · simp only [opNotifyDesc, hrun, hun, if_true, hbind]
    exact ⟨by rw [binds_descDone, bind_unbind], finishedAs_descDone ((liveDesc_congr (getRing_unbind ..) id).trans hlive) (.inl hc) 0 0⟩
  · simp only [opNotifyDesc, hrun, hun, if_false, hbind, Option.isSome_none, Bool.false_eq_true, hfree]
    exact ⟨finishedAs_descDone ((liveDesc_congr (getRing_setBind ..) id).trans hlive) (.inl hc) 0 0,
      by rw [binds_descDone, bind_setBind]⟩
  · simp only [opNotifyDesc, hrun, hun, if_false, hbind, Option.isSome_some, if_true]
    exact ⟨binds_descDone .., finishedAs_descDone hlive (.inr (by decide)) 0 0⟩

end

theorem notifyRecord_pops (s : State) (b : Fin 256) (x : Bind) (ha : s.asleep = false) (hbind : smGet none s.host.binds b = some x)
    (hbusy : x.busy = false) (hwords : x.words = []) (hpend : queuePending s x.dev x.addr = false) (hpop : popOut s x.dev x.addr = false)
    (hon : ringState s x.ring = 1)
    (hroom : ((getRing s x.ring).cqProd - (getRing s x.ring).cqCons).toNat + (getRing s x.ring).out.length < 2 ^ cqLog s x.ring)
    (hmay : maySend s x.ring x.dev x.addr 16) :
    ∃ t : State, exec (.notifyRecord b) s = .next t ∧ asked s t x.ring x.addr false 16
      ∧ smGet none t.host.binds b = some { x with busy := true } := by
  obtain ⟨t, hsent, hasked, -⟩ := sendReq_asked hmay (.notify b) (ringKey s x.ring false) false []
  have hop : opNotifyRecord b s = setBind t b (some { x with busy := true }) := by
    simp only [opNotifyRecord, hbind, hbusy, hpend, hpop, hon, Nat.not_le.mpr hroom, Bool.false_eq_true, ne_eq, not_true_eq_false,
      or_self, if_false, hwords, List.length_nil, Nat.sub_zero, Nat.reduceMul, hsent]
  exact ⟨_, congrArg Host.Outcome.next ((engine_awake ha _).trans hop), asked_congr rfl (eps_setBind ..) hasked, bind_setBind ..⟩

end Sys2Proof.Proofs
end

section
/-! PROOFS. What a frame stored by a device engine leaves alone: the registers, the host interface, and the descriptor that a
LOAD_CONTEXT works on (spec 05 R193; spec 08 R315; spec 12 R474; spec 13 R503). -/

namespace Sys2Proof.Proofs

open Machine Laws Claims

/-! ### What stays outside tiles and endpoints -/

section
variable (s : State)

theorem outside_setB (i : Nat) (f : BPart → BPart) : outside (setB s i f) = outside s := outside_setT ..

theorem outside_setQ (i n : Nat) (q : BQueue) : outside (setQ s i n q) = outside s := outside_setB ..

theorem outside_answer (ep n : Nat) (st : Status) (data : List Byte) : outside (answer s ep n st data) = outside s := by
  rw [answer_frame]
  rfl

theorem outside_releaseHeld {st : Status} (h : st ≠ .domainDown) (i n : Nat) : outside (releaseHeld s i n st) = outside s := by
  unfold releaseHeld
  refine (outside_setQ ..).trans (foldl_keeps outside (fun s x => ?_) _ s)
  rw [if_neg h]
  exact outside_answer ..

theorem outside_flushQ (i n : Nat) : outside (flushQ s i n) = outside s :=
  (outside_setQ ..).trans (outside_releaseHeld s (by decide) i n)

theorem outside_dumpSide (own sd : Nat) : outside (dumpSide s own sd) = outside s := by
  refine foldl_keeps outside (fun s k => ?_) _ s
  dsimp only
  split
  · exact (outside_setT ..).trans (outside_setT ..)
  · rfl

theorem outside_staticPut (i : Nat) (c : Frame) : outside (staticPut s i c) = outside s := by
  refine (foldl_keeps outside (fun s sd => ?_) _ _).trans (outside_setT ..)
  split
  · exact outside_dumpSide ..
  · rfl

theorem outside_flushQs (i : Nat) : outside ([0, 1, 2, 3].foldl (fun s n => flushQ s i n) s) = outside s := by
  refine foldl_keeps outside (fun s n => ?_) _ s
  exact outside_flushQ s i n

theorem outside_ownerDefault (i : Nat) : outside (ownerDefault s i) = outside s := by
  unfold ownerDefault
  exact outside_setB ..

theorem outside_staticQueues (i : Nat) : outside (staticQueues s i) = outside s := by
  unfold staticQueues
  rw [outside_ownerDefault, outside_flushQs]

theorem outside_loadNetWait (i : Nat) : outside (loadNetWait s i) = outside s := by
  unfold loadNetWait
  exact outside_setB ..

theorem outside_storeStatic (i : Nat) (c : Frame) : outside (storeStatic s i c) = outside s := by
  cases hk : tileKind i with
  | a => rw [storeStatic_a hk, outside_staticPut]
  | m => rw [storeStatic_m hk, outside_setT, outside_staticPut]
  | b => rw [storeStatic_b hk, outside_loadNetWait, outside_staticQueues, outside_staticPut]

theorem outside_storeFrame (i slot : Nat) (c : Frame) : outside (storeFrame s i slot c) = outside s := by
  unfold storeFrame
  split
  · exact outside_setT ..
  · exact outside_storeStatic ..

end

/-! ### The host interface through a yield and a wake -/

section
variable (s : State)

theorem answerDown_host (ep n : Nat) : (answerDown s ep n).host = s.host := by
  have hcount : ∀ u : State, ∀ k, (devCount u k).host = u.host := fun u k => by unfold devCount; split <;> rfl
  exact (hcount ..).trans (host_of_outside (outside_answer ..))

theorem releaseHeld_host (i n : Nat) (st : Status) : (releaseHeld s i n st).host = s.host := by
  unfold releaseHeld
  refine (host_of_outside (outside_setQ ..)).trans (foldl_keeps State.host (fun s x => ?_) _ s)
  split
  · exact answerDown_host ..
  · exact host_of_outside (outside_answer ..)

theorem releaseField_host (f : Nat) (st : Status) : (releaseField s f st).host = s.host := by
  unfold releaseField
  refine foldl_keeps State.host (fun s i => ?_) _ s
  refine foldl_keeps State.host (fun s n => ?_) _ s
  exact releaseHeld_host ..

theorem setPwr_host (f st : Nat) : (setPwr s f st).host = s.host := by
  unfold setPwr recode
  dsimp only
  split <;> rfl

theorem beginDrain_host (f : Nat) : (beginDrain s f).host = s.host := (releaseField_host ..).trans (setPwr_host ..)

/-- From RUN or IDLE a field begins to drain or stays (spec 13 R499). -/
theorem seekTarget_low {f : Nat} (h : pwrState s f ≤ 1) : seekTarget s f = s ∨ seekTarget s f = beginDrain s f := by
  unfold seekTarget
  dsimp only
  split
  · exact .inl rfl
  · split
    · exact .inl rfl
    · exact .inr rfl

theorem seekTarget_host {f : Nat} (h : pwrState s f ≤ 1) : (seekTarget s f).host = s.host := by
  rcases seekTarget_low s h with hsame | hdrain
  · rw [hsame]
  · rw [hdrain, beginDrain_host]

theorem borrowOver_host (f : Nat) : (borrowOver s f).host = s.host := by
  unfold borrowOver
  split
  · dsimp only
    split
    · rename_i h
      exact (seekTarget_host _ h).trans (setFS_host ..)
    · rfl
  · rfl

theorem saved_host (l : SMap (Option Tile)) : { s with saved := l }.host = s.host := rfl

theorem endBorrow_host (p : Nat) : (endBorrow s p).host = s.host := by
  unfold endBorrow
  dsimp only
  refine foldl_keeps State.host (fun s i => ?_) (patchTiles p) s
  split
  · exact (saved_host ..).trans (setT_host ..)
  · rfl

theorem yieldPatch_host (p trigger : Nat) : (yieldPatch s p trigger).host = s.host := (report_host ..).trans (endBorrow_host ..)

theorem wakeReq_host (f : Nat) : (wakeReq s f).host = s.host := by
  unfold wakeReq
  split <;> rfl

theorem engineStore_host (i slot : Nat) (c : Frame) : (engineStore s i slot c).host = s.host := by
  have hstore : ∀ u, (storeFrame u i slot c).host = u.host := fun u => host_of_outside (outside_storeFrame u i slot c)
  refine (wakeReq_host ..).trans ?_
  unfold withYield
  split
  · exact (hstore _).trans ((borrowOver_host ..).trans (yieldPatch_host ..))
  · exact hstore s

end

/-! ### The field is woken -/

section
variable (s : State) (f : Fin 64)

theorem beginDrain_pwrState : pwrState (beginDrain s f) f = 2 := by
  have hview : powerView (beginDrain s f) = powerView (setPwr s f 2) :=
    (powerView_of_regs (s := releaseField (setPwr s f 2) f .domainDown) (t := beginDrain s f) rfl rfl).trans (powerView_releaseField ..)
  rw [(powerView_field hview f).1]
  exact (powerStep_setPwr s f (by decide)).state

/-- A field in IDLE whose borrow has ended stays there or begins to drain (spec 05 R193; spec 13 R499). -/
theorem borrowOver_pwrState (h : pwrState s f = 1) : pwrState (borrowOver s f) f = 1 ∨ pwrState (borrowOver s f) f = 2 := by
  unfold borrowOver
  split
  · dsimp only
    have hset : pwrState (setFS s f { getFS s f with handlerDue := false }) f = 1 := h
    rw [if_pos (by rw [hset])]
    rcases seekTarget_low _ (by rw [hset]) with hsame | hdrain
    · exact .inl (by rw [hsame, hset])
    · exact .inr (by rw [hdrain, beginDrain_pwrState])
  · exact .inl h

theorem yieldPatch_pwrState (p trigger : Nat) : pwrState (yieldPatch s p trigger) f = pwrState s f :=
  (powerView_field ((powerView_report ..).trans (powerView_endBorrow ..)) f).1

theorem storeFrame_pwrState (i slot : Nat) (c : Frame) (g : Nat) : pwrState (storeFrame s i slot c) g = pwrState s g :=
  rd_of_getR (getR_of_outside (outside_storeFrame s i slot c) _) _

theorem wakeReq_pending (h : pwrState s f = 1 ∨ pwrState s f = 2) :
    rd (wakeReq s f) (A.PWR_STATUS f) F.PWR_STATUS_WAKE_PENDING = 1 := by
  have hwake : wakeReq s f = wr s (A.PWR_STATUS f) F.PWR_STATUS_WAKE_PENDING 1 := by
    rcases h with h | h <;> rw [wakeReq, h] <;> rfl
  rw [hwake, rd_wr_same (by decide)]
  rfl

/-- A frame stored for a field in IDLE asks for its wake (spec 13 R503). -/
theorem engineStore_wakes {i : Nat} (hf : tileField i = f) (h : pwrState s f = 1) (slot : Nat) (c : Frame) :
    rd (engineStore s i slot c) (A.PWR_STATUS f) F.PWR_STATUS_WAKE_PENDING = 1 := by
  unfold engineStore withYield
  rw [hf]
  refine wakeReq_pending _ f ?_
  split
  · rw [storeFrame_pwrState]
    exact borrowOver_pwrState _ f ((yieldPatch_pwrState ..).trans h)
  · rw [storeFrame_pwrState]
    exact .inl h

theorem engineStore_tiles {i : Nat} (h : lentTile s i = false) (slot : Nat) (c : Frame) :
    (engineStore s i slot c).tiles = (storeFrame s i slot c).tiles := by
  have hwake : ∀ u : State, ∀ g, (wakeReq u g).tiles = u.tiles := fun u g => by unfold wakeReq; split <;> rfl
  rw [engineStore, hwake, withYield, h, if_neg Bool.false_ne_true]

end

end Sys2Proof.Proofs
end

section
/-! PROOFS. A ring's own state changes no frame that is stored (spec 08 R315): the loader's checks and stores read neither the host
interface nor the status of a ring. -/

namespace Sys2Proof.Proofs

open Machine Laws Claims

/-- The state with another host interface and other registers. -/
def withSides (h : HostSt) (g : SMap Reg) (s : State) : State := { s with host := h, regs := g }

/-! ### Stores that read neither -/

section
variable (h : HostSt) (g : SMap Reg) (s : State)

theorem withSides_withSides (h' : HostSt) (g' : SMap Reg) : withSides h g (withSides h' g' s) = withSides h g s := rfl

theorem setT_withSides (i : Nat) (t : Tile) : setT (withSides h g s) i t = withSides h g (setT s i t) := rfl

theorem setB_withSides (i : Nat) (f : BPart → BPart) : setB (withSides h g s) i f = withSides h g (setB s i f) := rfl

theorem getT_withSides (i : Nat) : getT (withSides h g s) i = getT s i := rfl

theorem engaged_withSides (f : Nat) : engaged (withSides h g s) f = engaged s f := rfl

theorem touch_withSides (i : Nat) (t : Tile) : touch (withSides h g s) i t = touch s i t := rfl

theorem sinkAdd_withSides (own sd n : Nat) : sinkAdd (withSides h g s) own sd n = withSides h g (sinkAdd s own sd n) := rfl

theorem answer_withSides (ep n : Nat) (st : Status) (data : List Byte) :
    answer (withSides h g s) ep n st data = withSides h g (answer s ep n st data) := by
  have hin : getIn (withSides h g s) ep n = getIn s ep n := rfl
  unfold answer answerC
  rw [hin]
  cases getIn s ep n with
  | none => rfl
  | some x =>
    dsimp only
    unfold respond
    dsimp only
    split <;> rfl

theorem releaseHeld_withSides {st : Status} (hst : st ≠ .domainDown) (i n : Nat) :
    releaseHeld (withSides h g s) i n st = withSides h g (releaseHeld s i n st) := by
  unfold releaseHeld
  dsimp only
  rw [getT_withSides, List.foldl_hom (withSides h g) (g₁ := fun s x => if st = .domainDown then answerDown s x.ep x.entry
    else answer s x.ep x.entry st []) fun u x => by rw [if_neg hst, if_neg hst, answer_withSides]]
  rfl

theorem flushQ_withSides (i n : Nat) : flushQ (withSides h g s) i n = withSides h g (flushQ s i n) := by
  unfold flushQ
  rw [releaseHeld_withSides h g s (by decide)]
  rfl

theorem flushQs_withSides (i : Nat) : [0, 1, 2, 3].foldl (fun s n => flushQ s i n) (withSides h g s)
    = withSides h g ([0, 1, 2, 3].foldl (fun s n => flushQ s i n) s) :=
  List.foldl_hom (withSides h g) fun u n => flushQ_withSides h g u i n

theorem dumpSide_withSides (own sd : Nat) : dumpSide (withSides h g s) own sd = withSides h g (dumpSide s own sd) := by
  unfold dumpSide
  refine List.foldl_hom (withSides h g) fun u k => ?_
  dsimp only
  split
  · rw [getT_withSides, touch_withSides, setT_withSides, sinkAdd_withSides]
  · rfl

theorem staticPut_withSides (i : Nat) (c : Frame) : staticPut (withSides h g s) i c = withSides h g (staticPut s i c) := by
  unfold staticPut
  rw [getT_withSides, setT_withSides]
  refine List.foldl_hom (withSides h g) fun u sd => ?_
  rw [engaged_withSides, dumpSide_withSides]
  split <;> rfl

theorem loadNetWait_withSides (i : Nat) : loadNetWait (withSides h g s) i = withSides h g (loadNetWait s i) := rfl

end

/-! ### Stores that read the device's ID -/

/-- In `g` the registers that name the device and its anchor are those of `s`. -/
def sameNames (g : SMap Reg) (s : State) : Prop :=
  ∀ h, ∀ o ∈ [A.FAB_COORD, A.FAB_ANCHOR], getR (withSides h g s) o = getR s o

section
variable {g : SMap Reg} {s : State}

theorem sameNames_congr {t : State} (ht : outside t = outside s) (hn : sameNames g s) : sameNames g t := fun h o ho => by
  rw [getR_of_outside ht, ← hn h o ho]
  rfl

theorem ownerDefault_withSides (hn : sameNames g s) (h : HostSt) (i : Nat) :
    ownerDefault (withSides h g s) i = withSides h g (ownerDefault s i) := by
  have hdev : devId (withSides h g s) = devId s := by rw [devId, devId, rd_of_getR (hn h _ (by simp))]
  have hanchor := rd_of_getR (hn h A.FAB_ANCHOR (by simp)) F.FAB_ANCHOR_ANCHOR_ID
  unfold ownerDefault
  rw [hdev, hanchor, getT_withSides]
  exact setB_withSides ..

theorem staticQueues_withSides (hn : sameNames g s) (h : HostSt) (i : Nat) :
    staticQueues (withSides h g s) i = withSides h g (staticQueues s i) := by
  unfold staticQueues
  rw [flushQs_withSides, ownerDefault_withSides (sameNames_congr (outside_flushQs s i) hn)]

theorem storeStatic_withSides (hn : sameNames g s) (h : HostSt) (i : Nat) (c : Frame) :
    storeStatic (withSides h g s) i c = withSides h g (storeStatic s i c) := by
  cases hk : tileKind i with
  | a => rw [storeStatic_a hk, storeStatic_a hk, staticPut_withSides]
  | m => rw [storeStatic_m hk, storeStatic_m hk, staticPut_withSides, getT_withSides, setT_withSides]
  | b => rw [storeStatic_b hk, storeStatic_b hk, staticPut_withSides,
      staticQueues_withSides (sameNames_congr (outside_staticPut s i c) hn), loadNetWait_withSides]

theorem storeFrame_withSides (hn : sameNames g s) (h : HostSt) (i slot : Nat) (c : Frame) :
    storeFrame (withSides h g s) i slot c = withSides h g (storeFrame s i slot c) := by
  unfold storeFrame
  split
  · exact setT_withSides ..
  · exact storeStatic_withSides hn h i c

end

/-! ### Changes of a ring alone -/

/-- From `s` to `t` the host interface and the status of ring `r` alone have changed. -/
structure RingOnly (r : Fin 4096) (s t : State) : Prop where
  sides : t = withSides t.host t.regs s
  regs : ∀ o, o ≠ A.RING_STATUS r → getR t o = getR s o

section
variable {r : Fin 4096} {s t u : State}

theorem RingOnly.refl (r : Fin 4096) (s : State) : RingOnly r s s := ⟨rfl, fun _ _ => rfl⟩

theorem RingOnly.trans (h : RingOnly r s t) (k : RingOnly r t u) : RingOnly r s u where
  sides := k.sides.trans ((congrArg (withSides u.host u.regs) h.sides).trans (withSides_withSides ..))
  regs o ho := (k.regs o ho).trans (h.regs o ho)

theorem wr_withSides (s : State) (o : Nat) (f : Fld) (x : Nat) : wr s o f x = withSides (wr s o f x).host (wr s o f x).regs s := rfl

theorem ringOnly_host (r : Fin 4096) (s : State) (h : HostSt) : RingOnly r s { s with host := h } := ⟨rfl, fun _ _ => rfl⟩

theorem ringOnly_wr (r : Fin 4096) (s : State) (f : Fld) (x : Nat) : RingOnly r s (wr s (A.RING_STATUS r) f x) where
  sides := wr_withSides ..
  regs _ ho := getR_setR_ne _ _ _ _ ho

theorem ringOnly_modDesc (s : State) (r : Fin 4096) (id : Nat) (f : Desc → Desc) : RingOnly r s (modDesc s r id f) :=
  ((ringOnly_host ..).trans (ringOnly_wr ..)).trans (ringOnly_wr ..)

theorem ringOnly_withAsks (s : State) (r : Fin 4096) (qs : List HostAsk) : RingOnly r s (withAsks s qs) := ringOnly_host ..

theorem RingOnly.tiles (h : RingOnly r s t) : t.tiles = s.tiles := by
  rw [h.sides]
  rfl

theorem RingOnly.rd (h : RingOnly r s t) {o : Nat} (ho : o ≠ A.RING_STATUS r) (f : Fld) : Machine.rd t o f = Machine.rd s o f :=
  rd_of_getR (h.regs o ho) f

theorem RingOnly.devId (h : RingOnly r s t) : Machine.devId t = Machine.devId s := by
  rw [Machine.devId, Machine.devId, h.rd (by unfold A.FAB_COORD A.RING_STATUS; omega)]

theorem RingOnly.linkUp (h : RingOnly r s t) : Machine.linkUp t = Machine.linkUp s := by
  rw [Machine.linkUp, Machine.linkUp, rdB, rdB, h.rd (by unfold A.HIF_STATUS A.RING_STATUS; omega)]

theorem RingOnly.pwrState (h : RingOnly r s t) (f : Fin 64) : Machine.pwrState t f = Machine.pwrState s f :=
  h.rd (by unfold A.PWR_STATUS A.RING_STATUS; omega) _

theorem RingOnly.lentTile (h : RingOnly r s t) (i : Nat) : Machine.lentTile t i = Machine.lentTile s i := by
  rw [h.sides]
  rfl

/-- In ISO_ON no tile of the field fires, and the field is drained when its tiles are empty (spec 05 R167; spec 13 R497). -/
theorem fieldDrained_isolated {s : State} {f : Nat} (h : Machine.pwrState s f = 4) :
    fieldDrained s f = (listedTiles s (fun i => tileField i == f)).all fun i => tileEmpty (seenTile s i) := by
  rw [Bool.eq_iff_iff, fieldDrained, redDrained, List.all_eq_true, List.all_eq_true]
  refine forall₂_congr fun i hi => ?_
  have hfield : tileField i = f := by simpa using (List.mem_filter.mp hi).2
  have hfires : firesNow s i = false := by simp [firesNow, mayFire, tileRuns, fieldRuns, clockRuns, hfield, h]
  rw [tileDrained, hfires, Bool.not_false, Bool.or_true, Bool.and_true]

theorem RingOnly.isolated (h : RingOnly r s t) (f : Fin 64) : Machine.isolated t f = Machine.isolated s f := by
  have hstate := h.pwrState f
  by_cases hiso : Machine.pwrState s f = 4
  · have hengaged : engaged t f = engaged s f := by rw [h.sides, engaged_withSides]
    have hempty : ((listedTiles t (fun i => tileField i == f)).all fun i => tileEmpty (seenTile t i))
        = (listedTiles s (fun i => tileField i == f)).all fun i => tileEmpty (seenTile s i) := by
      rw [h.sides]
      rfl
    rw [Machine.isolated, Machine.isolated, hstate, hengaged, fieldDrained_isolated hiso, fieldDrained_isolated (hstate.trans hiso),
      hempty]
  · rw [Machine.isolated, Machine.isolated, hstate, beq_eq_false_iff_ne.mpr hiso, Bool.false_and, Bool.false_and, Bool.false_and,
      Bool.false_and]

theorem RingOnly.frameWriteStatus (h : RingOnly r s t) {i : Nat} {f : Fin 64} (hf : tileField i = f) (slot : Nat) (c : Frame) :
    Machine.frameWriteStatus t i slot c = Machine.frameWriteStatus s i slot c := by
  have hload : regionLoading t f = regionLoading s f := by
    rw [regionLoading, regionLoading, h.rd (by unfold A.CFG_REGION A.RING_STATUS; omega)]
  rw [Machine.frameWriteStatus, Machine.frameWriteStatus, hf, hload, h.isolated]

theorem RingOnly.storeFrame_tiles (h : RingOnly r s t) (i slot : Nat) (c : Frame) :
    (storeFrame t i slot c).tiles = (storeFrame s i slot c).tiles := by
  have hn : sameNames t.regs s := fun g o ho => by
    have hne : o ≠ A.RING_STATUS r := by
      rcases List.mem_pair.mp ho with rfl | rfl
      · unfold A.FAB_COORD A.RING_STATUS; omega
      · unfold A.FAB_ANCHOR A.RING_STATUS; omega
    exact h.regs o hne
  rw [h.sides, storeFrame_withSides hn]
  rfl

end

end Sys2Proof.Proofs
end

section
/-! PROOFS. LOAD_CONTEXT (spec 08 R315; spec 12 R474). -/

namespace Sys2Proof.Proofs

open Machine Laws Claims

/-! ### Frames of one member -/

/-- The descriptor as a LOAD_CONTEXT has noted that its tables have decided. -/
def asTabled (d : Desc) (stage : Nat) (tabled : Bool) : Desc := { d with stage := stage, tabled := tabled }

section
variable (s : State) (r : Fin 4096) (id : Nat) (d : Desc)

/-- The state in which the tables of a LOAD_CONTEXT have decided, which they do once. -/
def loadTabled (s : State) (r : Nat) (id : Nat) (d : Desc) : State :=
  if d.stage = 0 then
    modDesc s r id fun e => { e with stage := 1, tabled := loadFields s (dCmd s r d) != [] && !privileged s (dCmd s r d).key false }
  else s

theorem loadTabled_ringOnly : RingOnly r s (loadTabled s r id d) := by
  unfold loadTabled
  split
  · exact ringOnly_modDesc ..
  · exact RingOnly.refl r s

theorem loadTabled_live (hlive : liveDesc s r id = some d) :
    ∃ stage tabled, liveDesc (loadTabled s r id d) r id = some (asTabled d stage tabled) := by
  unfold loadTabled
  split
  · exact ⟨_, _, liveDesc_modDesc hlive fun _ => ⟨rfl, rfl⟩⟩
  · exact ⟨d.stage, d.tabled, hlive⟩

/-- A train of PL 30 has one member, the tile of its word (spec 01 R21). -/
theorem loadCount_single (hpl : dPl d = 30) : loadCount s r d = 1 := by
  rw [loadCount, hpl]
  rfl

theorem loadMember_single (hpl : dPl d = 30) :
    loadMember s r d 0 = (cmdDev (dCmd s r d), cmdIx (dCmd s r d)) := by
  have hk : cmdK (dCmd s r d) = 0 := by
    rw [cmdK, show (dCmd s r d).pl = BitVec.ofNat 5 (dPl d) from rfl, hpl]
    rfl
  rw [loadMember, hpl, hk, if_neg (by decide), Nat.pow_zero, Nat.div_one, Nat.mul_one, Nat.add_zero]

theorem loadMany_one (u : State) (k : Nat) (c : Frame) : loadMany r id [(k, c)] u = (loadOne u r id k c).1 := by
  unfold loadMany
  dsimp only
  split <;> rfl

/-- The one member is that of the descriptor's bytes. -/
theorem loadMember_asTabled (hpl : dPl d = 30) (u : State) (stage : Nat) (tabled : Bool) :
    loadMember u r (asTabled d stage tabled) 0 = loadMember s r d 0 := by
  have hdev : cmdDev (dCmd u r (asTabled d stage tabled)) = cmdDev (dCmd s r d) := rfl
  have hix : cmdIx (dCmd u r (asTabled d stage tabled)) = cmdIx (dCmd s r d) := rfl
  rw [loadMember_single s r d hpl, loadMember_single u r (asTabled d stage tabled) hpl, hdev, hix]

/-- LOAD_CONTEXT of form 0 to one tile, with its frame read from the host. -/
theorem opLoadContext_single {bs : List Byte} (hrun : runDesc s r id 0x05 = some d) (hform : dField d 25 1 = 0) (hpl : dPl d = 30)
    (hnext : d.next = 0) (hgrant : d.stage = 0 → loadRefusal s r d = none) (hup : linkUp s = true) (hlen : 32 ≤ bs.length) :
    opLoadContext r id (.ok bs) s = loadFinish
      (loadOne (askSource (loadTabled s r id d) r d 0 32 (.ok bs)) r id 0 (frameOf (sliceBytes bs 0 32))).1 r id := by
  have hdecided : (if d.stage = 0 then loadRefusal s r d else none) = none := by
    split
    · exact hgrant ‹_›
    · rfl
  have hgot : min (bs.length / 32) 1 = 1 := by omega
  obtain ⟨data, hdata⟩ := sourceBytes_ok (s := loadTabled s r id d) ((loadTabled_ringOnly s r id d).linkUp.trans hup) d 0 0 bs
  have htabled : (if d.stage = 0 then modDesc s r id fun e =>
      { e with stage := 1, tabled := loadFields s (dCmd s r d) != [] && !privileged s (dCmd s r d).key false }
    else s) = loadTabled s r id d := rfl
  simp only [opLoadContext, hrun, hform, hdecided, htabled, loadCount_single _ r d hpl, hnext, hdata, if_neg (show ¬(0 = 2) by decide),
    if_neg (show ¬(1 ≤ 0) by decide), if_neg (show ¬(0 = 1) by decide),
    if_neg (show ¬(0 = 1 ∧ d.aux ≠ 0) from fun h => absurd h.1 (by decide)), Nat.sub_zero, hgot, if_neg Nat.one_ne_zero]
  simp only [List.range_one, List.map_cons, List.map_nil, Nat.mul_zero, Nat.add_zero, Nat.mul_one, loadMany_one]

end

/-! ### One frame -/

section
variable {u : State} {r id k : Nat} {e : Desc} {c : Frame}

theorem loadOne_stores (hlive : liveDesc u r id = some e) (hdev : (loadMember u r e k).1 = devId u)
    (hst : frameWriteStatus u (loadMember u r e k).2 (dField e 24 1) c = .ok) :
    loadOne u r id k c = (engineStore (modDesc u r id fun e => { e with next := k + 1, done := e.done + 1 }) (loadMember u r e k).2
      (dField e 24 1) c, true) := by
  rw [loadOne, hlive]
  dsimp only
  rw [if_pos hdev, if_pos hst]

theorem loadOne_fails (hlive : liveDesc u r id = some e) (hdev : (loadMember u r e k).1 = devId u)
    (hst : frameWriteStatus u (loadMember u r e k).2 (dField e 24 1) c ≠ .ok) :
    loadOne u r id k c = (modDesc u r id fun d => noteFail { d with next := k + 1 } k
      (frameWriteStatus u (loadMember u r e k).2 (dField e 24 1) c), true) := by
  rw [loadOne, hlive]
  dsimp only
  rw [if_pos hdev, if_neg hst]

theorem loadFinish_ok {n : Nat} (hlive : liveDesc u r id = some e) (hbusy : e.busy = 0) (hnext : loadCount u r e ≤ e.next)
    (hfail : e.fail = none) (hdone : e.done = n) : loadFinish u r id = descDone u r id .ok (32 * n) n := by
  have hend : ¬(e.busy ≠ 0 ∨ e.next < loadCount u r e) := by omega
  rw [loadFinish, hlive]
  dsimp only
  rw [if_neg hend, hfail, hdone]
  rfl

/-- The first failure of a descriptor is noted as it is (spec 08 R314). -/
theorem noteFail_first (h : e.fail = none) (o : Nat) (st : Status) : noteFail e o st = { e with fail := some (o, st) } := by
  rw [noteFail, h]

theorem noteFail_keeps (e : Desc) (o : Nat) (st : Status) : (noteFail e o st).id = e.id ∧ (noteFail e o st).finished = e.finished := by
  unfold noteFail
  split
  · split <;> exact ⟨rfl, rfl⟩
  · exact ⟨rfl, rfl⟩

theorem loadFinish_fail {o : Nat} {st : Status} (hlive : liveDesc u r id = some e) (hbusy : e.busy = 0)
    (hnext : loadCount u r e ≤ e.next) (hfail : e.fail = some (o, st)) (hdone : e.done = 0) :
    loadFinish u r id = descDone u r id st 0 0 := by
  have hend : ¬(e.busy ≠ 0 ∨ e.next < loadCount u r e) := by omega
  rw [loadFinish, hlive]
  dsimp only
  rw [if_neg hend, hfail, hdone]
  cases st <;> rfl

end

/-! ### LOAD_CONTEXT -/

section
variable (s : State) (r : Fin 4096) (id : Nat) (d : Desc)

/-- A field table that refuses ends the LOAD_CONTEXT before a frame is stored (spec 12 R474). -/
theorem loadContext_denied (res : HostRead) (x : Nat × Nat) (ha : s.asleep = false) (hrun : runDesc s r id 0x05 = some d)
    (hform : dField d 25 1 ≠ 2) (hstage : d.stage = 0) (hrefuse : loadRefusal s r d = some x) :
    ∃ t : State, exec (.loadContext r id res) s = .next t ∧ finishedAs t r id .denied 0 0 ∧ t.tiles = s.tiles := by
  have hop : opLoadContext r id res s = descDone (denyTrain s (dCmd s r d) x.1 x.2) r id .denied 0 0 := by
    simp only [opLoadContext, hrun, if_neg hform, if_pos hstage, hrefuse]
  have hkeep : tilesTreeHost (denyTrain s (dCmd s r d) x.1 x.2) = tilesTreeHost s :=
    tilesTreeHost_of_onlyReported (onlyReported_denyWith ..)
  have hlive := (liveDesc_congr (getRing_congr (congrArg (·.2.2.rings) hkeep) r) id).trans (live_of_runDesc hrun)
  refine ⟨_, congrArg Host.Outcome.next ((engine_awake ha _).trans hop), finishedAs_descDone hlive (.inr (by decide)) 0 0, ?_⟩
  exact (descDone_tiles ..).trans (congrArg (·.1) hkeep)

end

/-! ### The end of a LOAD_CONTEXT of one frame -/

section
variable {s u : State} {r : Fin 4096} {id i slot stage : Nat} {d : Desc} {f : Fin 64} {c : Frame} {tabled : Bool}

/-- The state `u` in which the frame of the one member has come, and what the descriptor then holds. -/
structure FrameCome (s u : State) (r : Fin 4096) (id : Nat) (d : Desc) (stage : Nat) (tabled : Bool) : Prop where
  ring : RingOnly r s u
  live : liveDesc u r id = some (asTabled d stage tabled)
  pl : dPl d = 30
  dev : cmdDev (dCmd s r d) = devId s
  fresh : d.next = 0 ∧ d.done = 0 ∧ d.busy = 0 ∧ d.fail = none

theorem FrameCome.member (h : FrameCome s u r id d stage tabled) (hi : i = (loadMember s r d 0).2) :
    loadMember u r (asTabled d stage tabled) 0 = (devId u, i) := by
  rw [loadMember_asTabled s r d h.pl, hi, h.ring.devId, ← h.dev, loadMember_single s r d h.pl]

theorem FrameCome.count (h : FrameCome s u r id d stage tabled) (v : State) {e : Desc} (he : e.bytes = d.bytes) :
    loadCount v r e = 1 := loadCount_single v r e (by rw [dPl, dField, he]; exact h.pl)

/-- The frame passes its checks: it is stored, and counts (spec 08 R315, R321). -/
theorem FrameCome.stored (h : FrameCome s u r id d stage tabled) (hi : i = (loadMember s r d 0).2) (hf : tileField i = f)
    (hslot : slot = dField d 24 1) (hc : wantsComp d) (hok : frameWriteStatus s i slot c = .ok) :
    ∃ v, RingOnly r s v ∧ loadFinish (loadOne u r id 0 c).1 r id = descDone (engineStore v i slot c) r id .ok 32 1
      ∧ finishedAs (descDone (engineStore v i slot c) r id .ok 32 1) r id .ok 32 1 := by
  obtain ⟨-, hdone, hbusy, hfail⟩ := h.fresh
  have hmember := h.member hi
  have hslot' : dField (asTabled d stage tabled) 24 1 = slot := hslot.symm
  have hstatus : frameWriteStatus u (loadMember u r (asTabled d stage tabled) 0).2 (dField (asTabled d stage tabled) 24 1) c = .ok := by
    rw [hmember, hslot', h.ring.frameWriteStatus hf, hok]
  have hone := loadOne_stores h.live (by rw [hmember]) hstatus
  have hv := h.ring.trans (ringOnly_modDesc u r id fun e => { e with next := 0 + 1, done := e.done + 1 })
  have hlive := liveDesc_modDesc h.live (f := fun e => { e with next := 0 + 1, done := e.done + 1 }) fun _ => ⟨rfl, rfl⟩
  rw [hmember, hslot'] at hone
  rw [hone]
  generalize modDesc u r id (fun e => { e with next := 0 + 1, done := e.done + 1 }) = v at hv hlive
  have hlive' := (liveDesc_congr (getRing_congr (congrArg HostSt.rings (engineStore_host v i slot c)) r) id).trans hlive
  have hdone' : (asTabled d stage tabled).done + 1 = 1 := congrArg (· + 1) hdone
  refine ⟨v, hv, ?_, finishedAs_descDone hlive' (.inl hc) 32 1⟩
  rw [loadFinish_ok hlive' hbusy (h.count _ rfl).le hfail hdone', Nat.mul_one]

/-- The frame fails its checks: nothing is stored, and the LOAD_CONTEXT completes with their status (spec 08 R315, R321). -/
theorem FrameCome.refused (h : FrameCome s u r id d stage tabled) (hi : i = (loadMember s r d 0).2) (hf : tileField i = f)
    (hslot : slot = dField d 24 1) (hbad : frameWriteStatus s i slot c ≠ .ok) :
    finishedAs (loadFinish (loadOne u r id 0 c).1 r id) r id (frameWriteStatus s i slot c) 0 0
      ∧ (loadFinish (loadOne u r id 0 c).1 r id).tiles = s.tiles := by
  obtain ⟨-, hdone, hbusy, hfail⟩ := h.fresh
  have hmember := h.member hi
  have hslot' : dField (asTabled d stage tabled) 24 1 = slot := hslot.symm
  have hstatus : frameWriteStatus u (loadMember u r (asTabled d stage tabled) 0).2 (dField (asTabled d stage tabled) 24 1) c
      = frameWriteStatus s i slot c := by rw [hmember, hslot', h.ring.frameWriteStatus hf]
  have hone := loadOne_fails h.live (by rw [hmember]) (by rwa [hstatus])
  rw [hstatus] at hone
  rw [hone]
  have hfirst := noteFail_first (e := { asTabled d stage tabled with next := 0 + 1 }) hfail 0 (frameWriteStatus s i slot c)
  have hlive := liveDesc_modDesc h.live (f := fun e => noteFail { e with next := 0 + 1 } 0 (frameWriteStatus s i slot c))
    fun _ => noteFail_keeps ..
  have hv := h.ring.trans (ringOnly_modDesc u r id fun e => noteFail { e with next := 0 + 1 } 0 (frameWriteStatus s i slot c))
  rw [hfirst] at hlive
  rw [loadFinish_fail hlive hbusy (h.count _ rfl).le rfl hdone]
  exact ⟨finishedAs_descDone hlive (.inr hbad) 0 0, (descDone_tiles ..).trans hv.tiles⟩

end

section
variable (s : State) (r : Fin 4096) (id : Nat) (d : Desc)

theorem loadContext_loads (bs : List Byte) (i slot : Nat) (c : Frame) (ha : s.asleep = false) (hrun : runDesc s r id 0x05 = some d)
    (hform : dField d 25 1 = 0) (hpl : dPl d = 30) (hdev : cmdDev (dCmd s r d) = devId s) (hnext : d.next = 0) (hdone : d.done = 0)
    (hbusy : d.busy = 0) (hfail : d.fail = none) (hgrant : d.stage = 0 → loadRefusal s r d = none) (hup : linkUp s = true)
    (hlen : 32 ≤ bs.length) (hi : i = (loadMember s r d 0).2) (hslot : slot = dField d 24 1)
    (hframe : c = frameOf (sliceBytes bs 0 32)) (hc : wantsComp d) :
    ∃ t : State, exec (.loadContext r id (.ok bs)) s = .next t
      ∧ (frameWriteStatus s i slot c = .ok → finishedAs t r id .ok 32 1
          ∧ (lentTile s i = false → t.tiles = (storeFrame s i slot c).tiles)
          ∧ (pwrState s (tileField i) = 1 → rd t (A.PWR_STATUS (tileField i)) F.PWR_STATUS_WAKE_PENDING = 1))
      ∧ (frameWriteStatus s i slot c ≠ .ok → finishedAs t r id (frameWriteStatus s i slot c) 0 0 ∧ t.tiles = s.tiles) := by
  have hlt : i < 16384 := by
    rw [hi, loadMember_single s r d hpl]
    exact cmdIx_lt _
  obtain ⟨f, hf⟩ : ∃ f : Fin 64, tileField i = f := ⟨⟨i / 256, by omega⟩, rfl⟩
  obtain ⟨qs, hq⟩ := askSource_ok (loadTabled s r id d) r d 0 32 bs
  obtain ⟨stage, tabled, hlive⟩ := loadTabled_live s r id d (live_of_runDesc hrun)
  have hcome : FrameCome s (withAsks (loadTabled s r id d) qs) r id d stage tabled :=
    ⟨(loadTabled_ringOnly s r id d).trans (ringOnly_withAsks ..), hlive, hpl, hdev, hnext, hdone, hbusy, hfail⟩
  have hop := opLoadContext_single s r id d hrun hform hpl hnext hgrant hup hlen
  rw [hq, ← hframe] at hop
  refine ⟨_, congrArg Host.Outcome.next ((engine_awake ha _).trans hop), fun hok => ?_, hcome.refused hi hf hslot⟩
  obtain ⟨v, hv, hend, hfinished⟩ := hcome.stored hi hf hslot hc hok
  rw [hend]
  refine ⟨hfinished, fun hlent => ?_, fun hidle => ?_⟩
  · rw [descDone_tiles, engineStore_tiles _ ((hv.lentTile i).trans hlent), hv.storeFrame_tiles]
  · have hstatus : A.PWR_STATUS f ≠ A.RING_STATUS r := by unfold A.PWR_STATUS A.RING_STATUS; omega
    rw [hf] at hidle ⊢
    rw [rd_of_getR (getR_descDone hstatus ..), engineStore_wakes v f hf ((hv.pwrState f).trans hidle)]

end

end Sys2Proof.Proofs
end

section
/-! PROOFS. `Obligations.Descriptors` from its clauses (spec 08 R309 to R320). -/

namespace Sys2Proof.Proofs

open Machine Laws Claims

/-- Settles O49: each clause is the equation of its command at the descriptor that runs, with what a change of a descriptor, its
completion and the request that its ring sends leave. -/
theorem descriptors : Obligations.Descriptors := by
  unfold Obligations.Descriptors
  refine ⟨descriptorStart_starts, nopDesc_finishes, fenceDesc_waits, memRead_asks, memWrite_asks, transfer_completes,
    streamIn_asksCredit, streamIn_pushes, streamOut_pops, streamOut_waits, loadContext_hands, loadContext_denied, loadContext_loads,
    command_hands, mirrorSet_sets, mirrorSet_denied, regRead_asks, regWrite_asks, eventWait_asks, eventWaitMatch_ends,
    eventWaitTimeout_ends, notifyDesc_binds, notifyRecord_pops⟩

end Sys2Proof.Proofs
end
